-- ==== Sys2Proof/Word.lean ====
section
/-! DEFINITION. The word types of the block: a byte, a 32-bit register word (17 R427), a string of bytes. -/

namespace Sys2Proof

/-- One byte of a frame, a descriptor or a key. -/
abbrev Byte := BitVec 8

/-- The content of one BAR0 register (17 R427: BAR0 registers are 32 bits wide). -/
abbrev Word := BitVec 32

/-- A string of bytes, first byte first. -/
abbrev Bytes := List (BitVec 8)

end Sys2Proof
end

