-- ==== Sys2Proof/Syntax.lean ====
section
/-! DEFINITION. The commands of the block, one constructor per row of spec/opcode_table.json. A command comes from
outside: a register access or a descriptor of the host, a frame, an edge of a pin, or an event whose instant the
device's clocks decide (a timer, an entry, the end of a sequence). The first operand `w` of every command is the
time elapsed since the command before it, in units of 2^-16 ns (03 R42; log entry 5). -/

namespace Sys2Proof

/-- One item of the state that a twin's leader mirrors (12 R331), as a mirror block carries it. -/
inductive Mirror where
  /-- The client-table hash key, which is the fair-bucket key too (08 R198, R221). -/
  | hashKey (key : Bytes)
  /-- NTS_POOL.INDEX. -/
  | pool (index : Nat)
  /-- A client row at its place: its 32 bytes (08 R200). -/
  | row (bucket pos : Nat) (bytes : Bytes)
  /-- A key epoch: slot, state, identifier, key, activation and expiry. -/
  | epoch (slot st id : Nat) (key : Bytes) (act exp : Nat)
  /-- TBS_UTC.OFFSET, TBS_LEAP and TBS_SMEAR as their words. -/
  | utc (offset leap smear : Nat)
  /-- The pending leap: δ, M, S_L, the window and its sample. -/
  | leap (delta : Int) (m : Nat) (sL w0 w1 : Int) (sample : Option Bool)
  /-- No leap is pending. -/
  | noLeap
  /-- A register of CLK_PROF, CLK_ACL or CLK_SVC. -/
  | reg (off val : Nat)
  /-- RST_FEATURE.EN without TWIN. -/
  | features (en : Nat)
  /-- A PTP unicast session; each grant: message type, log, duration, remaining 2^-16 ns, next sequenceId. No grant: the session has ended. -/
  | sess (port inst : Nat) (ident addr mac tags : Bytes) (grants : List (Nat × Int × Nat × Nat × Nat))
  /-- The full copy is complete. -/
  | copyEnd
  deriving DecidableEq, Repr

/-- What a twin's peer tells of itself in its HELLO and PROOF blocks (12 R327 to R329). -/
structure TwinPeer where
  serial : Nat
  side : Nat
  prio : Nat
  nonce : Bytes
  /-- It holds a pairing key. -/
  keyed : Bool
  /-- IDC_CAP0 to IDC_CAP3. -/
  caps : List Nat
  /-- RST_FEATURE.EN, ENG_PSET, ENG_PSTAT.SVN and TWN_BOARD. -/
  en : Nat
  pset : Nat
  svn : Nat
  board : Nat
  /-- Its lifecycle is DEPLOYED. -/
  deployed : Bool
  /-- The code of its mode, and whether its holdover has expired. -/
  mode : Nat
  expired : Bool
  /-- It claims leadership. -/
  claims : Bool
  allowReset : Bool
  /-- P. -/
  proof : Bytes
  deriving DecidableEq, Repr

/-- A command. -/
inductive Instr where
  /-- VIN_POWER_ON (R364): VIN rises through the undervoltage lockout or falls below it. The VIN power-on reset source asserts or releases, and this reaches every domain but KEEP. -/
  | vinPowerOn (w : Nat) (on : Bool)
  /-- RESET_N (R364): The RESET_N pin is asserted or released. This is a group 1 device-reach reset. -/
  | resetN (w : Nat) (on : Bool)
  /-- THERMAL_TRIP (R370): Tj reaches 125 °C and the thermal trip asserts with ALERT_N low, or Tj falls to 105 °C and the trip releases. -/
  | thermalTrip (w : Nat) (tj : Int)
  /-- WATCHDOG (R369): A watched unit fails to signal for TMO_S seconds counted in CFG cycles, and a watchdog reset follows. -/
  | watchdog (w : Nat)
  /-- DEV_RESET (R388): A write of 0xA5 to RST_CTRL.DEV_RESET starts a software device reset. -/
  | devReset (w : Nat) (f : Nat) (v : Nat)
  /-- VKEEP_POWER_ON (R371): VKEEP rises through 1.9 V. KEEP is cleared and KEEP_LOST is set. -/
  | vkeepPowerOn (w : Nat)
  /-- VKEEP_LOST (R367): VKEEP falls below 1.7 V while VIN is present, and the KEEP contents are lost. -/
  | vkeepLost (w : Nat)
  /-- PERST (R318): PERST# or a loss of REFCLK resets the host block, closes every session and keeps service running. -/
  | perst (w : Nat) (on : Bool)
  /-- FLR (R318): A function-level reset of function f resets that function's rings, session and MSI-X state. -/
  | flr (w : Nat) (f : Nat)
  /-- BENCH_RESET (R368): RST_UNIT with KIND Bench, or recovery, resets a Bench. Its work is discarded, its shares are wiped and its Pattern store and key copies are restored. -/
  | benchReset (w : Nat) (f : Nat) (index : Nat)
  /-- ENGINE_RESET (R368): RST_UNIT with KIND engine, or recovery, resets an engine. Its invocations end without write-back and its Lane state is wiped. -/
  | engineReset (w : Nat) (f : Nat) (index : Nat)
  /-- PORT_RESET (R368): RST_UNIT with KIND port, or recovery, resets a port. Its PCS and MAC reset, its link falls, its ingress share is wiped and TW_TX clears. -/
  | portReset (w : Nat) (f : Nat) (index : Nat)
  /-- UNIT_RESET_DONE (R368): A Bench, engine or port reset completes, and the unit returns to service or stays held. -/
  | unitResetDone (w : Nat) (kind : Nat) (index : Nat)
  /-- BOOT_START (R26): All device-reach sources are released with CFG running, and the mode moves from DORMANT to LOADING at S0. -/
  | bootStart (w : Nat)
  /-- BOOT_STEP_DONE (R372): A boot step S0 to S9 finishes its work and passes its check, and the next step begins or the boot completes. -/
  | bootStepDone (w : Nat)
  /-- BOOT_STEP_FAIL (R374): A boot step fails its check or passes its CFG-cycle limit. A BOOTLOG entry is written, FAIL_RUN is incremented and the step's alternative is flagged. -/
  | bootStepFail (w : Nat) (result : Nat) (lanes0 : Nat) (lanes1 : Nat)
  /-- BOOT_RESTART (R374): 100 CFG cycles after a boot step failure, the boot restarts at S0. -/
  | bootRestart (w : Nat)
  /-- CFG_FALLBACK (R17): The 25 MHz crystal shows no edge for 8 start-up-oscillator cycles. CFG switches to the start-up oscillator and a DEGRADED error is raised. -/
  | cfgFallback (w : Nat)
  /-- OSCIN_LOST (R405): OSCIN shows no edge for 25 CFG cycles. CORE, TIME and STORE stop and a FATAL error is raised. -/
  | oscinLost (w : Nat)
  /-- MODE_REQUEST (R38): A MODE_REQUEST descriptor asks for ACQUIRE, DIAGNOSTIC or COMMISSION and completes or starts a drain or exit sequence. -/
  | modeRequest (w : Nat) (r : Nat)
  /-- DRAIN_DONE (R39): The drain to COMMISSION completes, the mode becomes COMMISSION and the completion is written. -/
  | drainDone (w : Nat)
  /-- DIAGNOSTIC_EXIT_DONE (R40): The DIAGNOSTIC exit sequence completes with the wipe and the Pattern reload, and the mode becomes COMMISSION. -/
  | diagnosticExitDone (w : Nat) (ok : Bool)
  /-- LOCK_GAINED (R103): The lock criteria are met after LOCK_S seconds, and the mode moves from ACQUIRE or HOLDOVER to LOCKED. -/
  | lockGained (w : Nat)
  /-- LOCK_LOST (R104): The lock criteria cease to be met in LOCKED, and the device enters HOLDOVER with ENTRY_CAUSE 0x03 or 0x04. -/
  | lockLost (w : Nat)
  /-- POLICY_SET_FEATURES (R37): POLICY_SET FEATURES changes RST_FEATURE.EN or PRT_FEATURE at one Insole instant. -/
  | policySetFeatures (w : Nat) (r : Nat)
  /-- POLICY_SET_GATE_LIST (R176): POLICY_SET GATE_LIST supplies a gate list image and arms its change at T_c. -/
  | policySetGateList (w : Nat) (r : Nat) (img : Bytes)
  /-- POLICY_SET_PORT_LPI (R184): POLICY_SET PORT_LPI sets TW_TX of a port. -/
  | policySetPortLpi (w : Nat) (r : Nat)
  /-- AWL_CAL (R153): POLICY_SET AWL_CAL starts an Awl calibration rotation. -/
  | awlCal (w : Nat) (r : Nat)
  /-- CLIENT_POLICY (R308): POLICY_SET CLIENT_POLICY applies a record list to the rate profiles and access-list entries at one instant. -/
  | clientPolicy (w : Nat) (r : Nat) (img : Bytes)
  /-- SERVICE_ADDR (R308): POLICY_SET SERVICE_ADDR applies a record list to the service address entries at one instant. -/
  | serviceAddr (w : Nat) (r : Nat) (img : Bytes)
  /-- SELFTEST (R215): POLICY_SET SELFTEST runs entry point SELFTEST on the named engines in DIAGNOSTIC. -/
  | selftest (w : Nat) (r : Nat) (buf : Bytes)
  /-- SELFTEST_DONE (R215): Every SELFTEST invocation has returned, the result is written back and the descriptor completes. -/
  | selftestDone (w : Nat)
  /-- TBS_NOW0_READ (R45): A read of TBS_NOW0 latches the whole Insole value into TBS_NOW0 to TBS_NOW2 and TBS_SHORT. -/
  | tbsNow0Read (w : Nat) (f : Nat)
  /-- KEEP_RTC_LOAD (R44): Once per second the Insole loads its SEC value into the Keep real-time clock. -/
  | keepRtcLoad (w : Nat)
  /-- LEAP_INSTALL (R49): LEAP_SET with OP install arms a LEAP entry for a pending leap. -/
  | leapInstall (w : Nat) (r : Nat)
  /-- LEAP_CANCEL (R49): LEAP_SET with OP cancel removes the pending leap. -/
  | leapCancel (w : Nat) (r : Nat)
  /-- LEAP_WARN_START (R51): The Insole reaches S_L − WARN_S and the warning interval of a pending leap begins. -/
  | leapWarnStart (w : Nat)
  /-- SMEAR_SAMPLE (R53): At W0 the device samples SMEAR once for the leap and commits it to a smear or not. -/
  | smearSample (w : Nat)
  /-- SMEAR_END (R52): The Insole reaches W1 and the smear window ends. -/
  | smearEnd (w : Nat)
  /-- TIME_ADJUST_OFFSET (R56): TIME_ADJUST with KIND OFFSET applies a signed correction under R54, at once or through an ADJUST entry. -/
  | timeAdjustOffset (w : Nat) (r : Nat)
  /-- TIME_ADJUST_SET (R56): TIME_ADJUST with KIND SET steps the Insole to an absolute value and sets TIME_VALID. -/
  | timeAdjustSet (w : Nat) (r : Nat)
  /-- SLEW_CANCEL (R56): TIME_ADJUST with KIND SLEW_CANCEL discards the remaining slew. -/
  | slewCancel (w : Nat) (r : Nat)
  /-- SLEW_DONE (R55): The remaining slew reaches zero and SLEWING clears. -/
  | slewDone (w : Nat)
  /-- LASTER_ARM (R68): LASTER_ARM arms a host entry or a start and stop pair on the Laster. -/
  | lasterArm (w : Nat) (r : Nat) (block : Bytes)
  /-- LASTER_CANCEL (R69): LASTER_CANCEL removes the entry named by a handle. -/
  | lasterCancel (w : Nat) (r : Nat)
  /-- LASTER_SPILL_FILL (R61): A spilled entry's target enters the hot horizon and the entry is moved from the Store to SRAM. -/
  | lasterSpillFill (w : Nat) (i : Nat)
  /-- LASTER_ISSUE (R65): The Laster issues an entry to its unit 200 ns before its target, or finds it late and applies its late policy. -/
  | lasterIssue (w : Nat) (i : Nat)
  /-- LAUNCH (R253): A LAUNCH entry runs at L, and the frame is launched or misses its launch under R181 and R255. -/
  | launchEntry (w : Nat) (i : Nat)
  /-- GATE_LIST (R176): A GATE_LIST entry runs at T_c and the pending gate list takes effect, or a host GATE_LIST entry acts under R471. -/
  | gateListEntry (w : Nat) (i : Nat) (dev : Bool)
  /-- OUTPUT_ON (R75): An OUTPUT_ON entry opens the gate of an output. -/
  | outputOn (w : Nat) (i : Nat)
  /-- OUTPUT_OFF (R75): An OUTPUT_OFF entry closes the gate of an output. -/
  | outputOff (w : Nat) (i : Nat)
  /-- CAPTURE_OPEN (R75): A CAPTURE_OPEN entry opens the capture window of an event input. -/
  | captureOpen (w : Nat) (i : Nat)
  /-- CAPTURE_CLOSE (R75): A CAPTURE_CLOSE entry closes the capture window of an event input. -/
  | captureClose (w : Nat) (i : Nat)
  /-- EDGE (R121): An output unit's EDGE entry runs, emits a PULSE or FRAME edge and arms the next grid point. -/
  | outEdge (w : Nat) (u : Nat)
  /-- KEY_ROLL (R246): A KEY_ROLL entry runs and activates or expires an epoch. -/
  | keyRoll (w : Nat) (n : Nat) (expiry : Bool)
  /-- LEAP (R50): The LEAP entry runs at S_L and D changes to D + δ. -/
  | leapEntry (w : Nat)
  /-- ADJUST (R56): An ADJUST entry runs at its apply time, applies its TIME_ADJUST and completes the descriptor. -/
  | adjustEntry (w : Nat) (i : Nat)
  /-- HOLD_CHECK (R119): Once per second the HOLD_CHECK entry evaluates the holdover budget E and writes HLD_BUDGET. -/
  | holdCheck (w : Nat)
  /-- PTP_SWEEP (R272): A PTP_SWEEP entry builds the PTP messages due at one grid point on one port. -/
  | ptpSweep (w : Nat) (p : Nat) (n : Int) (client : Bool)
  /-- HOST_EVENT (R307): A HOST_EVENT entry runs and writes its LASTER record. -/
  | hostEvent (w : Nat) (i : Nat)
  /-- SYNTH (R74): No crossing arrives within MISS_WIN × P_est, and the Laster uses a synthetic crossing flagged SYNTH. -/
  | synth (w : Nat) (e : Nat)
  /-- GNSS_MESSAGE (R84): A complete NMEA sentence or Yastad binary message arrives on a GNSS UART and labels a PPS edge. -/
  | gnssMessage (w : Nat) (slot : Nat) (bytes : Bytes)
  /-- REF_COMPARISON (R89): A slot takes a comparison event. Its monitors, qualification state, phase error and lock checks are updated. -/
  | refComparison (w : Nat) (slot : Nat) (t : Int) (tRef : Int)
  /-- REF_EVAL_TICK (R85): A comparison interval passes without an expected event, or the once-per-second evaluation of a slot falls due. -/
  | refEvalTick (w : Nat) (slot : Nat) (missed : Bool)
  /-- QUAL_TIMER_EXPIRE (R89): A slot's QUAL_S timer expires, and the slot moves to QUALIFIED or WTR. -/
  | qualTimerExpire (w : Nat) (slot : Nat)
  /-- WTR_TIMER_EXPIRE (R89): A slot's WTR_S timer expires and the slot becomes QUALIFIED. -/
  | wtrTimerExpire (w : Nat) (slot : Nat)
  /-- SENTINEL_ROUND (R90): Once per second the drift sentinel compares the slots, outvotes a slot or records a split. -/
  | sentinelRound (w : Nat)
  /-- ENSEMBLE_UPDATE (R96): Every τ_E seconds each contributor's stability estimate and weight are updated. -/
  | ensembleUpdate (w : Nat)
  /-- ACQ_NARROW (R102): |e| has stayed within LOCK_NS for five time constants, and the DPLL narrows by one bandwidth step in ACQUIRE. -/
  | acqNarrow (w : Nat)
  /-- FORCE (R105): REF_COMMAND FORCE selects a slot. -/
  | refForce (w : Nat) (r : Nat)
  /-- RELEASE (R105): REF_COMMAND RELEASE clears a force. -/
  | refRelease (w : Nat) (r : Nat)
  /-- LOCKOUT (R105): REF_COMMAND LOCKOUT locks a slot out. -/
  | refLockout (w : Nat) (r : Nat)
  /-- CLEAR (R105): REF_COMMAND CLEAR returns a HELD or LOCKED_OUT slot to NO_SIGNAL, or clears LOCKOUT_HELD. -/
  | refClear (w : Nat) (r : Nat)
  /-- CLEAR_WTR (R105): REF_COMMAND CLEAR_WTR ends a slot's wait to restore. -/
  | refClearWtr (w : Nat) (r : Nat)
  /-- SET_PRIO (R105): REF_COMMAND SET_PRIO sets a slot's priority and re-evaluates selection. -/
  | refSetPrio (w : Nat) (r : Nat)
  /-- ACCEPT_PATH (R280): REF_COMMAND ACCEPT_PATH clears FROZEN on a PTP_REF slot and keeps the new delay. -/
  | refAcceptPath (w : Nat) (r : Nat)
  /-- SET_BW (R105): REF_COMMAND SET_BW sets BW or ACQ_BW. -/
  | refSetBw (w : Nat) (r : Nat)
  /-- SET_MODE (R99): REF_COMMAND SET_MODE changes between select and ensemble mode. -/
  | refSetMode (w : Nat) (r : Nat)
  /-- TEMP_SAMPLE (R111): At 10 Hz the Heel samples the oscillator temperature and detects loss or restoration of temperature. -/
  | tempSample (w : Nat) (ok : Bool) (t : Int)
  /-- HEEL_LEARN_SAMPLE (R113): Every INT_S seconds the Heel takes a learning sample and refits the model terms. -/
  | heelLearnSample (w : Nat)
  /-- OUTPUT_REALIGN (R127): OUTPUT_REALIGN requests a STEP, SLEW or CANCEL realignment of output units. -/
  | outputRealign (w : Nat) (r : Nat)
  /-- REALIGN_START (R126): A realign starts at the first leading edge at or after its apply time. -/
  | realignStart (w : Nat) (u : Nat)
  /-- REALIGN_DONE (R127): Every unit of the mask has finished its realign and the completion is written. -/
  | realignDone (w : Nat) (u : Nat)
  /-- FIRST_ALIGN (R124): A unit with FIRST_ALIGN = 1 realigns by STEP at its first edge after TIME_VALID becomes 1. -/
  | firstAlign (w : Nat) (u : Nat)
  /-- EYELET_EDGE (R134): An edge at an Eyelet passes the conditioning stages and is timestamped, admitted, measured and recorded. -/
  | eyeletEdge (w : Nat) (e : Nat) (high : Bool) (held : Nat) (pos : Nat) (phase : Nat)
  /-- MISMATCH (R132): The sensed VEY level starts or stops differing from PIN_BANK.LEVEL. -/
  | mismatch (w : Nat) (sensed : Nat)
  /-- STUCK_ON (R137): An input stays active for STUCK_MS, the channel becomes stuck and a STUCK_ON record is written. -/
  | stuckOn (w : Nat) (e : Nat)
  /-- CHAT_OFF (R138): No edge reaches stage 6 for CHAT_QUIET, and chatter ends. -/
  | chatOff (w : Nat) (e : Nat)
  /-- NOSTOP (R145): An armed interval start receives no stop within PAIR_MAX and is discarded. -/
  | nostop (w : Nat) (e : Nat)
  /-- FREQ_GATE_END (R148): A frequency gate ends, the slope is fitted and an AWL_FREQ record is written. -/
  | freqGateEnd (w : Nat) (e : Nat)
  /-- TB_LOST (R142): The Awl's presence detector loses TIME, records are flagged NOTB and TB_LOST is recorded. -/
  | tbLost (w : Nat) (back : Nat)
  /-- TB_BACK (R142): TIME is confirmed present again and TB_BACK is recorded. -/
  | tbBack (w : Nat)
  /-- AWL_RECORD_DELIVER (R141): A held Awl record, once TIME is confirmed, is written from the channel queue to the host event ring. -/
  | awlRecordDeliver (w : Nat) (e : Nat)
  /-- START (R153): A write of PIN_CAL.START in COMMISSION starts a calibration rotation. -/
  | pinStart (w : Nat) (f : Nat)
  /-- CAL_PERIODIC (R153): With AUTO = 1 a rotation starts every INT_MIN minutes, or when the die temperature has moved by DT_K. -/
  | calPeriodic (w : Nat) (tj : Int)
  /-- CAL_STEP_DONE (R152): A step of the calibration rotation ends: a code-density test, a comparison edge or a window expiry. -/
  | calStepDone (w : Nat) (edge : Bool) (diff : Nat) (dly : Nat)
  /-- FRAME_RECEIVED (R164): A frame received on a port is checked and passed to the Clicker, the MAC control handling or the drop counters. -/
  | frameReceived (w : Nat) (p : Nat) (bs : Bytes) (age : Nat) (var : Int) (bad : Bool)
  /-- LINK_CHANGE (R159): PRT_STATUS.LINK changes. LINK_EVENT is set, a LINK record is written and queued frames are discarded on a fall. -/
  | linkChange (w : Nat) (p : Nat) (lock : Bool) (fec : Bool) (aligned : Bool) (localFault : Bool) (remoteFault : Bool) (lpi : Bool)
  /-- PAUSE_EXPIRE (R169): A PAUSE or PFC timer runs out and the port or class resumes. -/
  | pauseExpire (w : Nat) (p : Nat)
  /-- STORM (R171): A port stays paused for LIMIT_US and enters the storm state. -/
  | storm (w : Nat) (p : Nat)
  /-- STORM_END (R171): IGNORE_MS ends and the port honours PAUSE again. -/
  | stormEnd (w : Nat) (p : Nat)
  /-- FRAME_START (R173): At a free launch point the port starts a LAUNCH frame or the head frame of the highest eligible class. -/
  | frameStart (w : Nat) (p : Nat)
  /-- LPI_ENTER (R183): The port signals LPI after IDLE_US with nothing queued. -/
  | lpiEnter (w : Nat) (p : Nat)
  /-- LPI_WAKE (R183): The port wakes from LPI for a queued frame, for a LAUNCH entry or when LPI ceases to be effective. -/
  | lpiWake (w : Nat) (p : Nat)
  /-- QL_TIMEOUT (R189): No valid ESMC PDU arrives for 5 s and QL_TIMEOUT is set. -/
  | qlTimeout (w : Nat) (p : Nat)
  /-- ESMC_TX (R190): The port sends an ESMC information PDU every second, or an event PDU on a change of its code. -/
  | esmcTx (w : Nat) (p : Nat)
  /-- COMMIT (R176): A write of PRT_GCL_CTRL.COMMIT in COMMISSION validates the gate list image and arms it. -/
  | gclCommit (w : Nat) (f : Nat) (p : Nat)
  /-- ABORT (R176): A write of PRT_GCL_CTRL.ABORT in COMMISSION cancels a pending gate list change. -/
  | gclAbort (w : Nat) (f : Nat) (p : Nat)
  /-- PRT_GCL_DATA_ACCESS (R191): An access to PRT_GCL_DATA reads or writes the image word at ADDR and advances ADDR. -/
  | prtGclDataAccess (w : Nat) (f : Nat) (p : Nat) (write : Bool) (v : Nat)
  /-- TX_FRAME (R305): TX_FRAME submits a host frame for transmission, with or without a launch time. -/
  | txFrame (w : Nat) (r : Nat) (data : Bytes)
  /-- TX_FRAME_DONE (R305): A TX_FRAME has left or missed its launch, and its completion is written. -/
  | txFrameDone (w : Nat)
  /-- RX_BUFFER (R305): RX_BUFFER posts a host buffer on the exception ring. -/
  | rxBuffer (w : Nat) (r : Nat)
  /-- EXC_DELIVER (R197): A held or spilled exception frame fills a posted RX_BUFFER and completes it. -/
  | excDeliver (w : Nat)
  /-- DISPATCH_ASSIGN (R206): The Dispatcher makes the reservations for a queue head or re-seal and assigns it a Lane. -/
  | dispatchAssign (w : Nat)
  /-- ENGINE_INVOKE (R207): A Lane starts an invocation at an entry point of the Pattern set. -/
  | engineInvoke (w : Nat) (lane : Nat) (hit : Bool)
  /-- BUCKET_ARRIVE (R202): A client-table bucket read arrives from the Store and the engine decides the request. -/
  | bucketArrive (w : Nat) (lane : Nat)
  /-- PATTERN_RETURN (R209): A Pattern invocation ends with a return code, writes back and releases its reservations. -/
  | patternReturn (w : Nat) (lane : Nat) (code : Nat) (instr : Nat) (scratch : Bytes)
  /-- OVERRUN (R210): An invocation passes ENG_CTRL.LIMIT instructions and is stopped. -/
  | overrun (w : Nat) (lane : Nat) (instr : Nat) (scratch : Bytes)
  /-- BUCKET_LEASE_EXPIRE (R403): A bucket lock lease expires and is revoked as error 0x14. -/
  | bucketLeaseExpire (w : Nat) (lane : Nat)
  /-- CLOSER_COMMIT (R217): The Closer commits a frame to a launch point 160 ns ahead and writes its timestamps and checksums. -/
  | closerCommit (w : Nat) (p : Nat)
  /-- FAIR_EPOCH (R221): Every 12,500 CORE cycles the Clicker computes the fair level F for the next epoch. -/
  | fairEpoch (w : Nat)
  /-- AGE_SHED (R222): A waiting request reaches T2 + AGE_NS unassigned and is shed. -/
  | ageShed (w : Nat)
  /-- AGEING_SCAN (R204): The periodic ageing scan visits the client table and ages out idle rows. -/
  | ageingScan (w : Nat)
  /-- LOOKUP (R205): CLIENT_TABLE_OP LOOKUP writes a client row to a host buffer. -/
  | ctLookup (w : Nat) (r : Nat)
  /-- UPSERT (R205): CLIENT_TABLE_OP UPSERT sets or creates a client row. -/
  | ctUpsert (w : Nat) (r : Nat)
  /-- DELETE (R205): CLIENT_TABLE_OP DELETE invalidates a client row. -/
  | ctDelete (w : Nat) (r : Nat)
  /-- RESET_COUNTS (R205): CLIENT_TABLE_OP RESET_COUNTS zeroes a row's counts. -/
  | ctResetCounts (w : Nat) (r : Nat)
  /-- FLUSH (R205): CLIENT_TABLE_OP FLUSH invalidates every row that is not PINNED. -/
  | ctFlush (w : Nat) (r : Nat)
  /-- SCAN_NOW (R205): CLIENT_TABLE_OP SCAN_NOW starts an ageing scan at once. -/
  | ctScanNow (w : Nat) (r : Nat)
  /-- PATTERN_LOAD (R213): PATTERN_LOAD loads a signed Pattern set, Bench by Bench. -/
  | patternLoad (w : Nat) (r : Nat) (img : Bytes)
  /-- BENCH_DRAINED (R214): A Bench drained for a Pattern load has finished its work, and its Pattern store is loaded and checked. -/
  | benchDrained (w : Nat) (parity : Bool)
  /-- KEY_INSTALL (R247): KEY_INSTALL installs a wrapped master key into an epoch slot. -/
  | keyInstall (w : Nat) (r : Nat) (blk : Bytes)
  /-- KEY_RETIRE (R248): KEY_RETIRE moves an epoch to RETIRING. -/
  | keyRetire (w : Nat) (r : Nat)
  /-- EMPTY (R246): No Stitcher operation remains under a RETIRING key. The slot becomes EMPTY and every copy is zeroised. -/
  | keyEmpty (w : Nat) (n : Nat)
  /-- AGED (R233): A Stitcher context lease expires at T2 + MAX_HOLD_US and the response is dropped with reason AGED. -/
  | aged (w : Nat) (k : Nat)
  /-- RESEAL_START (R256): A missed sealed launch is re-sealed at entry point RELAUNCH once its miss reason allows. -/
  | resealStart (w : Nat) (lane : Nat)
  /-- GRANT_EXPIRE (R274): A unicast grant reaches the end of its duration and the session entry may be freed. -/
  | grantExpire (w : Nat) (i : Nat) (msg : Nat)
  /-- CLIENT_RENEW (R277): The reference client renews a unicast grant at half its granted duration. -/
  | clientRenew (w : Nat) (p : Nat) (m : Nat) (msg : Nat)
  /-- ANNOUNCE_TIMEOUT (R271): announceReceiptTimeout intervals pass without a better Announce, and the instance returns to MASTER. -/
  | announceTimeout (w : Nat) (p : Nat) (who : Nat)
  /-- FOLLOW_UP (R273): The Closer returns t_tx of a two-step event message and the engine builds its Follow_Up. -/
  | followUp (w : Nat)
  /-- MAX_RES_EXPIRE (R276): A forwarded PTP copy's residence reaches MAX_RES_US and the copy is dropped. -/
  | maxResExpire (w : Nat) (p : Nat) (id : Nat)
  /-- ASYM_ESTIMATE_DONE (R280): The post-step window ends and the asymmetry estimate is applied or abandoned. -/
  | asymEstimateDone (w : Nat) (p : Nat)
  /-- OPEN (R292): A write of SES_CTRL.OPEN starts verification of M_h. -/
  | sesOpen (w : Nat) (f : Nat)
  /-- SESSION_VERIFY_DONE (R292): Verification ends, and the session opens or the failure is counted. -/
  | sessionVerifyDone (w : Nat) (f : Nat)
  /-- CLOSE (R294): A write of SES_CTRL.CLOSE closes the open session. -/
  | sesClose (w : Nat) (f : Nat)
  /-- LOCKOUT_END (R293): A session lockout time ends and the function returns to IDLE. -/
  | lockoutEnd (w : Nat) (f : Nat)
  /-- IDLE_TIMEOUT (R294): The session idle timer reaches IDLE_S and the session closes. -/
  | idleTimeout (w : Nat) (f : Nat)
  /-- SES_PROV_LOAD (R385): A write of SES_PROV_CTL.LOAD stores a provisioning key in clear on F0. -/
  | sesProvLoad (w : Nat) (f : Nat)
  /-- RING_ENABLE (R297): A write of ENABLE = 1 checks a ring pair's settings and starts it. -/
  | ringEnable (w : Nat) (r : Nat)
  /-- RING_DISABLE (R297): A write of ENABLE = 0 stops a ring pair and aborts the descriptors not yet begun. -/
  | ringDisable (w : Nat) (r : Nat)
  /-- DOORBELL_POLL (R299): Once per effective poll interval the device reads the enabled doorbell slots. -/
  | doorbellPoll (w : Nat) (vals : List Nat) (lost : List Nat)
  /-- HRG_NUDGE (R299): A write to HRG_NUDGE starts a read of the writing function's doorbell slots. -/
  | hrgNudge (w : Nat) (f : Nat) (vals : List Nat)
  /-- DESCRIPTOR_FETCH (R301): The host block reserves a completion slot, fetches a descriptor and checks it. -/
  | descriptorFetch (w : Nat) (r : Nat) (data : Bytes)
  /-- EVENT_RING_ENABLE (R310): A write of EVT_CTL.ENABLE starts a function's event ring and writes a RESUME anchor. -/
  | eventRingEnable (w : Nat) (f : Nat)
  /-- ANCHOR (R313): At each whole Insole second an ANCHOR is written to every enabled event ring. -/
  | anchor (w : Nat)
  /-- INTERRUPT (R315): A vector falls due by count or by DELAY_US, the INTERRUPT record is written and MSI-X is issued. -/
  | interrupt (w : Nat) (f : Nat) (v : Nat)
  /-- STATS_SNAPSHOT (R309): STATS_SNAPSHOT samples the selected counter blocks at one instant into host memory. -/
  | statsSnapshot (w : Nat) (r : Nat)
  /-- ARM (R383): A write of LCS_ARM with a target and the nonce arms a lifecycle transition. -/
  | lcsArm (w : Nat) (f : Nat) (v : Nat)
  /-- GO (R384): A write of LCS_GO confirms an armed transition and runs the erase, fuse and reset sequence. -/
  | lcsGo (w : Nat) (f : Nat) (v : Nat) (stop : Nat)
  /-- LCS_KEY_INSTALL (R385): LCS_KEYCTL with OP install installs a function's wrapped provisioning key. -/
  | lcsKeyInstall (w : Nat) (f : Nat) (v : Nat)
  /-- LCS_KEY_ERASE (R385): LCS_KEYCTL with OP erase erases a function's provisioning key. -/
  | lcsKeyErase (w : Nat) (f : Nat) (v : Nat)
  /-- OPT_WRITE_START (R379): A write of LCS_OPT_CTRL.START starts writing an Olfel image to a copy. -/
  | optWriteStart (w : Nat) (f : Nat) (copyB : Bool)
  /-- OPT_WRITE_DONE (R379): An Olfel image write is checked, read back and marked valid or failed. -/
  | optWriteDone (w : Nat) (bytes : Bytes) (fault : Nat)
  /-- RAISE_SVN (R379): A write of LCS_OPT_CTRL.RAISE_SVN in COMMISSION fuses the SVN floor. -/
  | raiseSvn (w : Nat) (f : Nat)
  /-- WELT_LINK_UP (R324): Both Welt lanes achieve block lock, FEC lock and deskew. -/
  | weltLinkUp (w : Nat)
  /-- WELT_LINK_LOST (R324): No valid Welt block arrives for LOSS_US, or sixteen tag failures occur within 1 ms. -/
  | weltLinkLost (w : Nat) (fails : Nat)
  /-- ARB_TEST (R326): Once per second an attached module tests the arbitration pin pair. -/
  | arbTest (w : Nat) (ok : Bool)
  /-- ATTACH_ATTEMPT (R328): A module attempts attach with HELLO, PROOF and checks, and elects roles. -/
  | attachAttempt (w : Nat) (peer : Option TwinPeer)
  /-- ATTACH_RETRY (R328): With AUTO set, a failed attach is retried after 10 s. -/
  | attachRetry (w : Nat) (peer : Option TwinPeer)
  /-- MIRROR_APPLY (R331): The follower applies a mirrored change from the leader and returns a credit. -/
  | mirrorApply (w : Nat) (item : Mirror)
  /-- MIRROR_CREDIT_TIMEOUT (R333): No mirror credit returns for CREDIT_US, or the queue fills, and the leader starts a resynchronisation. -/
  | mirrorCreditTimeout (w : Nat) (full : Bool)
  /-- MIRROR_SYNC (R333): The full copy of a resynchronisation completes and MIRROR_SYNC becomes 1. -/
  | mirrorSync (w : Nat)
  /-- MARKER_TX (R334): Every 100 µs a module sends a Welt marker block. -/
  | markerTx (w : Nat)
  /-- MARKER_RX (R334): A marker block arrives and the follower forms its time error x. -/
  | markerRx (w : Nat) (age : Nat) (mode : Nat) (status : Nat) (have4 : Bool) (t1 : Int) (t4 : Int)
  /-- FAIL_BLOCK_RX (R335): The follower receives a FAIL or HANDOVER block from the leader. -/
  | failBlockRx (w : Nat) (handover : Bool)
  /-- TWARB_B_CHANGE (R325): The level read on TWARB_B changes. -/
  | twarbBChange (w : Nat) (level : Bool)
  /-- TAKEOVER (R335): TWARB_B has read low for SETTLE_NS after a FAIL, a HANDOVER or a link loss, and the follower becomes leader. -/
  | takeover (w : Nat)
  /-- ATTACH (R339): TWIN_COMMAND ATTACH sets EN[11] and requests attach. -/
  | twinAttach (w : Nat) (r : Nat)
  /-- ATTACH_TIMEOUT (R339): No attach occurs within 10 s of ATTACH and the command completes with TIMEOUT. -/
  | attachTimeout (w : Nat)
  /-- DETACH (R341): TWIN_COMMAND DETACH detaches the pair. -/
  | twinDetach (w : Nat) (r : Nat) (peer : Bool)
  /-- SWITCHOVER (R340): TWIN_COMMAND SWITCHOVER runs a graceful handover to the peer. -/
  | twinSwitchover (w : Nat) (r : Nat)
  /-- SET_KEY (R327): TWIN_COMMAND SET_KEY installs the wrapped pairing key K_p in COMMISSION. -/
  | twinSetKey (w : Nat) (r : Nat) (blk : Bytes)
  /-- RESET_PEER (R339): TWIN_COMMAND RESET_PEER asks the peer for a twin-commanded reset. -/
  | twinResetPeer (w : Nat) (r : Nat)
  /-- TWIN_COMMANDED_RESET (R339): A module receives RESET_PEER from its twin and undergoes a twin-commanded reset. -/
  | twinCommandedReset (w : Nat)
  /-- STATUS (R339): TWIN_COMMAND STATUS returns the twin's offset and state. -/
  | twinStatus (w : Nat) (r : Nat)
  /-- HOST_STALL (R355): No posted credit arrives for STALL_MS while a write waits, and the host block is reset. -/
  | hostStall (w : Nat)
  /-- STORE_TIMEOUT (R355): A Store transaction exceeds STORE_TMO_US and the Lane's invocation ends as FAULT. -/
  | storeTimeout (w : Nat) (lane : Nat)
  /-- EG_EXPIRE (R356): A frame holds egress space for EG_MAX_MS unlaunched and is discarded. -/
  | egExpire (w : Nat)
  /-- TXW_EXPIRE (R349): A TX_FRAME waits TXW_US for egress space and completes with BUSY_RETRY. -/
  | txwExpire (w : Nat)
  /-- ERROR_RAISED (R396): An error is raised, logged and handled or queued under the class and pre-emption rules. -/
  | errorRaised (w : Nat) (code : Nat) (unit : Nat) (detail : Nat) (item : Nat)
  /-- ERROR_HANDLING_DONE (R396): An error's action completes, an ERROR record is written and the next queued error is taken. -/
  | errorHandlingDone (w : Nat)
  /-- GO_INJECT (R408): A write of ERR_INJECT.GO in DIAGNOSTIC raises an injected error. -/
  | goInject (w : Nat) (f : Nat) (v : Nat)
  /-- ERR_LOG_READ (R400): A read of ERR_LOG word 0 latches words 1 to 3. -/
  | errLogRead (w : Nat) (f : Nat) (i : Nat)
  /-- COUNTER_LO_READ (R429): A read of a 64-bit counter's low word latches its high word for the reading function. -/
  | counterLoRead (w : Nat) (f : Nat) (off : Nat)
  /-- HLD_OMIS_READ (R123): A read of HLD_OMIS latches MIS_PS. -/
  | hldOmisRead (w : Nat) (f : Nat) (u : Nat)
  /-- PMC_CNT_LO_READ (R419): A read of PMC_CNT_LO latches the counter's high word, and its chained partner. -/
  | pmcCntLoRead (w : Nat) (f : Nat) (i : Nat)
  /-- PMC_CNT_HI_WRITE (R420): A write to PMC_CNT_HI holds the high word. -/
  | pmcCntHiWrite (w : Nat) (f : Nat) (i : Nat) (v : Nat)
  /-- PMC_CNT_LO_WRITE (R420): A write to PMC_CNT_LO loads the counter from the held high word and the written low word. -/
  | pmcCntLoWrite (w : Nat) (f : Nat) (i : Nat) (v : Nat)
  /-- PMC_WRAP (R416): A counter wraps, sets its overflow bit and, with SAMP, writes a PMC_SAMPLE record and reloads. -/
  | pmcWrap (w : Nat) (i : Nat) (n : Nat) (engine : Nat) (entry : Nat) (offset : Nat) (idle : Bool)
  /-- GSUM_REPORT (R443): A rise of an enabled IDC_GSUM bit, held back within 1 ms of the last record, is reported in a STATUS record. -/
  | gsumReport (w : Nat) (f : Nat)
  /-- EVT_GINT_EN_WRITE (R443): A write to EVT_GINT_EN enables bits and reports those already set as rising. -/
  | evtGintEnWrite (w : Nat) (f : Nat) (v : Nat)
  /-- REGISTER_WRITE (R5): A write to a register without behaviour of its own acts by its access code, and access errors are recorded. -/
  | registerWrite (w : Nat) (f : Nat) (off : Nat) (be : Nat) (write : Bool) (vals : List Nat)
  /-- STARTUP_OSCILLATOR_LOST (R17): The start-up oscillator fails after the crystal has already been lost, and the device holds in DORMANT with ALERT_N low. -/
  | startupOscillatorLost (w : Nat)
  /-- PCIE_COMPLETION_TIMEOUT (R355): A host-memory read fails to complete within the PCIe completion timeout, and its descriptor ends with TIMEOUT. -/
  | pcieCompletionTimeout (w : Nat) (r : Nat)
  /-- CLIENT_TABLE_LOCK_TIMEOUT (R205): A CLIENT_TABLE_OP whose bucket lock is not granted within 8 µs completes with BUSY_RETRY and counts towards escalation. -/
  | clientTableLockTimeout (w : Nat)
  /-- FLUSH_DONE (R205): A FLUSH finishes invalidating the unpinned rows, FLUSH_BUSY clears and the descriptor completes with OK. -/
  | ctFlushDone (w : Nat)
  /-- SCAN_DONE (R204): An ageing scan has visited every row, SCAN_BUSY clears and any SCAN_NOW waiting on it completes with OK. -/
  | ctScanDone (w : Nat)
  /-- BOTH_CLAIM_SETTLE (R338): Both modules claim while the Welt link is down, and after SETTLE_NS the SIDE 1 module releases its claim and becomes orphaned. -/
  | bothClaimSettle (w : Nat)
  deriving DecidableEq, Repr

end Sys2Proof
end

