-- ==== Sys2Proof/Decode.lean ====
section
/-! DEFINITION. Commands as table words. Every row of the spec's opcode table has an empty list of fields: the table gives
no command any bits, so no word spells a command (log entry 44). -/

namespace Sys2Proof

/-- The command that a word of the table's bits spells: none, since no row has bits. -/
def decodeTableWord (_nbits _w : Nat) : Option Instr := none

end Sys2Proof
end

