-- ==== Sys2Proof/Machine/Bytes.lean ====
section
/-! DEFINITION. Byte order and bit-field helpers shared by descriptors, records, frames and keys. -/

namespace Sys2Proof.Machine

/-- n bytes of a number, least significant first. -/
def leB : Nat → Nat → Bytes
  | 0, _ => []
  | n + 1, v => BitVec.ofNat 8 v :: leB n (v / 256)

/-- n bytes of a number, most significant first. -/
def beB (n v : Nat) : Bytes := (leB n v).reverse

/-- The number that bytes spell, least significant first. -/
def leNat : Bytes → Nat
  | [] => 0
  | b :: rest => b.toNat + 256 * leNat rest

/-- The number that bytes spell, most significant first. -/
def beNat (bs : Bytes) : Nat := leNat bs.reverse

/-- n bytes at an offset; bytes past the end read zero. -/
def sliceB (bs : Bytes) (off n : Nat) : Bytes :=
  let t := (bs.drop off).take n
  t ++ List.replicate (n - t.length) 0

/-- A little-endian field. -/
def leAt (bs : Bytes) (off n : Nat) : Nat := leNat (sliceB bs off n)

/-- A big-endian field. -/
def beAt (bs : Bytes) (off n : Nat) : Nat := beNat (sliceB bs off n)

/-- One byte as a number. -/
def byteAt (bs : Bytes) (off : Nat) : Nat := ((bs.drop off).headD 0).toNat

/-- Bits [lo + w - 1 : lo] of a number. -/
def bitsOf (v lo w : Nat) : Nat := v / 2 ^ lo % 2 ^ w

/-- Bit i of a number. -/
def bitOf (v i : Nat) : Bool := v / 2 ^ i % 2 == 1

/-- A number with bit i set to x. -/
def putBit (v i : Nat) (x : Bool) : Nat :=
  if bitOf v i == x then v else if x then v + 2 ^ i else v - 2 ^ i

/-- 1 or 0. -/
def b2n (x : Bool) : Nat := if x then 1 else 0

/-- A signed number of w bits, two's complement. -/
def toSigned (v w : Nat) : Int := if v % 2 ^ w < 2 ^ (w - 1) then (v % 2 ^ w : Nat) else (v % 2 ^ w : Nat) - (2 ^ w : Nat)

/-- The w-bit two's complement pattern of an integer. -/
def ofSigned (x : Int) (w : Nat) : Nat := (x % (2 ^ w : Nat)).toNat

/-- An integer limited to the w-bit signed range. -/
def clampSigned (x : Int) (w : Nat) : Int :=
  if x < -(2 ^ (w - 1) : Nat) then -(2 ^ (w - 1) : Nat)
  else if x > (2 ^ (w - 1) : Nat) - 1 then (2 ^ (w - 1) : Nat) - 1 else x

/-- A count limited to w bits. -/
def satNat (x w : Nat) : Nat := if x < 2 ^ w then x else 2 ^ w - 1

/-- Rounding up of a quotient. -/
def ceilDiv (a b : Nat) : Nat := if b = 0 then 0 else (a + b - 1) / b

/-- Whether every byte is zero. -/
def allZero (bs : Bytes) : Bool := bs.all (· == 0)

/-- Exclusive or of two byte strings, over the shorter. -/
def xorB (a b : Bytes) : Bytes := List.zipWith (· ^^^ ·) a b

/-- ASCII characters as bytes. -/
def ascii (s : String) : Bytes := s.toList.map fun c => BitVec.ofNat 8 c.toNat

/-- A list with element i replaced. -/
def setAt {α : Type} : List α → Nat → α → List α
  | [], _, _ => []
  | _ :: xs, 0, v => v :: xs
  | x :: xs, i + 1, v => x :: setAt xs i v

/-! ### Tables keyed by a number, with a default for an absent key -/

/-- A sparse table: keys rising. -/
abbrev Tab (α : Type) := List (Nat × α)

/-- The entry of a key, or the default. -/
def tget {α : Type} (d : α) : Tab α → Nat → α
  | [], _ => d
  | (k', v) :: rest, k => if k' = k then v else tget d rest k

/-- Put an entry, keys rising. -/
def tput {α : Type} : Tab α → Nat → α → Tab α
  | [], k, v => [(k, v)]
  | (k', v') :: rest, k, v =>
    if k < k' then (k, v) :: (k', v') :: rest
    else if k = k' then (k, v) :: rest
    else (k', v') :: tput rest k v

/-- Remove an entry. -/
def tdel {α : Type} : Tab α → Nat → Tab α
  | [], _ => []
  | (k', v') :: rest, k => if k' = k then rest else (k', v') :: tdel rest k

/-- Whether a key has an entry. -/
def thas {α : Type} (t : Tab α) (k : Nat) : Bool := t.any (fun e => e.1 == k)

end Sys2Proof.Machine
end

