-- ==== Sys2Proof/Machine/Crypto.lean ====
section
/-! DEFINITION. The published functions that the spec names: CRC-32 of IEEE 802.3, the Internet checksum,
SipHash-1-3 (08 R198), SHA-256 and SHA-384, HMAC and HKDF (11 R291, 12 R327), AES with CMAC and SIV (09 R237),
AES Key Wrap (11 R291), and the verification of ECDSA over P-384 (08 R212, 14 R377). -/

namespace Sys2Proof.Machine

/-! ### CRC-32 and the Internet checksum -/

/-- One bit of the reflected CRC-32. -/
def crcBit (c : Nat) : Nat := if c % 2 = 1 then (c / 2) ^^^ 0xEDB88320 else c / 2

def crcByte (c : Nat) (x : Byte) : Nat :=
  crcBit (crcBit (crcBit (crcBit (crcBit (crcBit (crcBit (crcBit (c ^^^ x.toNat))))))))

/-- The four bytes of the frame check sequence of IEEE 802.3, in the order sent. -/
def fcsOf (bs : Bytes) : Bytes := leB 4 (bs.foldl crcByte 0xFFFFFFFF ^^^ 0xFFFFFFFF)

/-- The sum of the 16-bit words of a string, odd length padded with zero. -/
def sum16 : Bytes → Nat
  | [] => 0
  | [a] => a.toNat * 256
  | a :: b :: rest => a.toNat * 256 + b.toNat + sum16 rest

/-- Fold the carries of a ones' complement sum of words. -/
def fold16 (x : Nat) : Nat :=
  let a := x % 65536 + x / 65536
  let a := a % 65536 + a / 65536
  a % 65536 + a / 65536

/-- The Internet checksum of a string. -/
def inetSum (bs : Bytes) : Nat := 0xFFFF - fold16 (sum16 bs)

/-! ### SipHash-1-3 -/

abbrev SipState := BitVec 64 × BitVec 64 × BitVec 64 × BitVec 64

def sipRound (s : SipState) : SipState :=
  let (v0, v1, v2, v3) := s
  let v0 := v0 + v1
  let v1 := v1.rotateLeft 13 ^^^ v0
  let v0 := v0.rotateLeft 32
  let v2 := v2 + v3
  let v3 := v3.rotateLeft 16 ^^^ v2
  let v0 := v0 + v3
  let v3 := v3.rotateLeft 21 ^^^ v0
  let v2 := v2 + v1
  let v1 := v1.rotateLeft 17 ^^^ v2
  let v2 := v2.rotateLeft 32
  (v0, v1, v2, v3)

def sipWord (s : SipState) (m : BitVec 64) : SipState :=
  let (v0, v1, v2, v3) := s
  let (v0, v1, v2, v3) := sipRound (v0, v1, v2, v3 ^^^ m)
  (v0 ^^^ m, v1, v2, v3)

/-- The whole 8-byte words of a message, n of them. -/
def sipWords : Nat → Bytes → SipState → SipState
  | 0, _, s => s
  | n + 1, bs, s => sipWords n (bs.drop 8) (sipWord s (BitVec.ofNat 64 (leAt bs 0 8)))

/-- SipHash-1-3 of a message under a 16-byte key. -/
def sipHash13 (key msg : Bytes) : Nat :=
  let k0 := BitVec.ofNat 64 (leAt key 0 8)
  let k1 := BitVec.ofNat 64 (leAt key 8 8)
  let s : SipState := (k0 ^^^ 0x736f6d6570736575, k1 ^^^ 0x646f72616e646f6d, k0 ^^^ 0x6c7967656e657261, k1 ^^^ 0x7465646279746573)
  let n := msg.length / 8
  let s := sipWords n msg s
  let last := leAt (msg.drop (8 * n)) 0 7 + (msg.length % 256) * 2 ^ 56
  let (v0, v1, v2, v3) := sipWord s (BitVec.ofNat 64 last)
  let (v0, v1, v2, v3) := sipRound (sipRound (sipRound (v0, v1, v2 ^^^ 0xff, v3)))
  (v0 ^^^ v1 ^^^ v2 ^^^ v3).toNat

/-! ### SHA-256 -/

/-- The round constants of SHA-256. -/
def sha256K : List (BitVec 32) :=
  [0x428a2f98, 0x71374491, 0xb5c0fbcf, 0xe9b5dba5, 0x3956c25b, 0x59f111f1, 0x923f82a4, 0xab1c5ed5,
   0xd807aa98, 0x12835b01, 0x243185be, 0x550c7dc3, 0x72be5d74, 0x80deb1fe, 0x9bdc06a7, 0xc19bf174,
   0xe49b69c1, 0xefbe4786, 0xfc19dc6, 0x240ca1cc, 0x2de92c6f, 0x4a7484aa, 0x5cb0a9dc, 0x76f988da,
   0x983e5152, 0xa831c66d, 0xb00327c8, 0xbf597fc7, 0xc6e00bf3, 0xd5a79147, 0x6ca6351, 0x14292967] ++
  [0x27b70a85, 0x2e1b2138, 0x4d2c6dfc, 0x53380d13, 0x650a7354, 0x766a0abb, 0x81c2c92e, 0x92722c85,
   0xa2bfe8a1, 0xa81a664b, 0xc24b8b70, 0xc76c51a3, 0xd192e819, 0xd6990624, 0xf40e3585, 0x106aa070,
   0x19a4c116, 0x1e376c08, 0x2748774c, 0x34b0bcb5, 0x391c0cb3, 0x4ed8aa4a, 0x5b9cca4f, 0x682e6ff3,
   0x748f82ee, 0x78a5636f, 0x84c87814, 0x8cc70208, 0x90befffa, 0xa4506ceb, 0xbef9a3f7, 0xc67178f2]

/-- The initial hash value of SHA-256. -/
def sha256H : List (BitVec 32) :=
  [0x6a09e667, 0xbb67ae85, 0x3c6ef372, 0xa54ff53a, 0x510e527f, 0x9b05688c, 0x1f83d9ab, 0x5be0cd19]

/-- The message schedule, newest word first. -/
def sha256Sched : Nat → List (BitVec 32) → List (BitVec 32)
  | 0, w => w
  | n + 1, w =>
    let a := w.getD 14 0
    let b := w.getD 1 0
    let s0 := a.rotateRight 7 ^^^ a.rotateRight 18 ^^^ (a >>> 3)
    let s1 := b.rotateRight 17 ^^^ b.rotateRight 19 ^^^ (b >>> 10)
    sha256Sched n ((w.getD 15 0 + s0 + w.getD 6 0 + s1) :: w)

def sha256Round (v : List (BitVec 32)) (kw : BitVec 32 × BitVec 32) : List (BitVec 32) :=
  match v with
  | [a, b, c, d, e, f, g, h] =>
    let s1 := e.rotateRight 6 ^^^ e.rotateRight 11 ^^^ e.rotateRight 25
    let ch := (e &&& f) ^^^ ((~~~e) &&& g)
    let t1 := h + s1 + ch + kw.1 + kw.2
    let s0 := a.rotateRight 2 ^^^ a.rotateRight 13 ^^^ a.rotateRight 22
    let mj := (a &&& b) ^^^ (a &&& c) ^^^ (b &&& c)
    [t1 + s0 + mj, a, b, c, d + t1, e, f, g]
  | v => v

def sha256Block (h : List (BitVec 32)) (blk : Bytes) : List (BitVec 32) :=
  let w := (List.range 16).map fun i => BitVec.ofNat 32 (beAt blk (4 * i) 4)
  let w := (sha256Sched 48 w.reverse).reverse
  List.zipWith (· + ·) h ((List.zip sha256K w).foldl sha256Round h)

def sha256Blocks : Nat → Bytes → List (BitVec 32) → List (BitVec 32)
  | 0, _, h => h
  | n + 1, bs, h => sha256Blocks n (bs.drop 64) (sha256Block h (bs.take 64))

/-- SHA-256 (FIPS 180-4). -/
def sha256 (msg : Bytes) : Bytes :=
  let z := (119 - msg.length % 64) % 64
  let m := msg ++ [0x80] ++ List.replicate z 0 ++ beB 8 (8 * msg.length)
  (sha256Blocks (m.length / 64) m sha256H).flatMap fun x => beB 4 x.toNat

/-! ### SHA-384 -/

/-- The round constants of SHA-384. -/
def sha512K : List (BitVec 64) :=
  [0x428a2f98d728ae22, 0x7137449123ef65cd, 0xb5c0fbcfec4d3b2f, 0xe9b5dba58189dbbc,
   0x3956c25bf348b538, 0x59f111f1b605d019, 0x923f82a4af194f9b, 0xab1c5ed5da6d8118,
   0xd807aa98a3030242, 0x12835b0145706fbe, 0x243185be4ee4b28c, 0x550c7dc3d5ffb4e2,
   0x72be5d74f27b896f, 0x80deb1fe3b1696b1, 0x9bdc06a725c71235, 0xc19bf174cf692694] ++
  [0xe49b69c19ef14ad2, 0xefbe4786384f25e3, 0xfc19dc68b8cd5b5, 0x240ca1cc77ac9c65,
   0x2de92c6f592b0275, 0x4a7484aa6ea6e483, 0x5cb0a9dcbd41fbd4, 0x76f988da831153b5,
   0x983e5152ee66dfab, 0xa831c66d2db43210, 0xb00327c898fb213f, 0xbf597fc7beef0ee4,
   0xc6e00bf33da88fc2, 0xd5a79147930aa725, 0x6ca6351e003826f, 0x142929670a0e6e70] ++
  [0x27b70a8546d22ffc, 0x2e1b21385c26c926, 0x4d2c6dfc5ac42aed, 0x53380d139d95b3df,
   0x650a73548baf63de, 0x766a0abb3c77b2a8, 0x81c2c92e47edaee6, 0x92722c851482353b,
   0xa2bfe8a14cf10364, 0xa81a664bbc423001, 0xc24b8b70d0f89791, 0xc76c51a30654be30,
   0xd192e819d6ef5218, 0xd69906245565a910, 0xf40e35855771202a, 0x106aa07032bbd1b8] ++
  [0x19a4c116b8d2d0c8, 0x1e376c085141ab53, 0x2748774cdf8eeb99, 0x34b0bcb5e19b48a8,
   0x391c0cb3c5c95a63, 0x4ed8aa4ae3418acb, 0x5b9cca4f7763e373, 0x682e6ff3d6b2b8a3,
   0x748f82ee5defb2fc, 0x78a5636f43172f60, 0x84c87814a1f0ab72, 0x8cc702081a6439ec,
   0x90befffa23631e28, 0xa4506cebde82bde9, 0xbef9a3f7b2c67915, 0xc67178f2e372532b] ++
  [0xca273eceea26619c, 0xd186b8c721c0c207, 0xeada7dd6cde0eb1e, 0xf57d4f7fee6ed178,
   0x6f067aa72176fba, 0xa637dc5a2c898a6, 0x113f9804bef90dae, 0x1b710b35131c471b,
   0x28db77f523047d84, 0x32caab7b40c72493, 0x3c9ebe0a15c9bebc, 0x431d67c49c100d4c,
   0x4cc5d4becb3e42b6, 0x597f299cfc657e2a, 0x5fcb6fab3ad6faec, 0x6c44198c4a475817]

/-- The initial hash value of SHA-384. -/
def sha384H : List (BitVec 64) :=
  [0xcbbb9d5dc1059ed8, 0x629a292a367cd507, 0x9159015a3070dd17, 0x152fecd8f70e5939,
   0x67332667ffc00b31, 0x8eb44a8768581511, 0xdb0c2e0d64f98fa7, 0x47b5481dbefa4fa4]

def sha512Sched : Nat → List (BitVec 64) → List (BitVec 64)
  | 0, w => w
  | n + 1, w =>
    let a := w.getD 14 0
    let b := w.getD 1 0
    let s0 := a.rotateRight 1 ^^^ a.rotateRight 8 ^^^ (a >>> 7)
    let s1 := b.rotateRight 19 ^^^ b.rotateRight 61 ^^^ (b >>> 6)
    sha512Sched n ((w.getD 15 0 + s0 + w.getD 6 0 + s1) :: w)

def sha512Round (v : List (BitVec 64)) (kw : BitVec 64 × BitVec 64) : List (BitVec 64) :=
  match v with
  | [a, b, c, d, e, f, g, h] =>
    let s1 := e.rotateRight 14 ^^^ e.rotateRight 18 ^^^ e.rotateRight 41
    let ch := (e &&& f) ^^^ ((~~~e) &&& g)
    let t1 := h + s1 + ch + kw.1 + kw.2
    let s0 := a.rotateRight 28 ^^^ a.rotateRight 34 ^^^ a.rotateRight 39
    let mj := (a &&& b) ^^^ (a &&& c) ^^^ (b &&& c)
    [t1 + s0 + mj, a, b, c, d + t1, e, f, g]
  | v => v

def sha512Block (h : List (BitVec 64)) (blk : Bytes) : List (BitVec 64) :=
  let w := (List.range 16).map fun i => BitVec.ofNat 64 (beAt blk (8 * i) 8)
  let w := (sha512Sched 64 w.reverse).reverse
  List.zipWith (· + ·) h ((List.zip sha512K w).foldl sha512Round h)

def sha512Blocks : Nat → Bytes → List (BitVec 64) → List (BitVec 64)
  | 0, _, h => h
  | n + 1, bs, h => sha512Blocks n (bs.drop 128) (sha512Block h (bs.take 128))

/-- SHA-384 (FIPS 180-4). -/
def sha384 (msg : Bytes) : Bytes :=
  let z := (239 - msg.length % 128) % 128
  let m := msg ++ [0x80] ++ List.replicate z 0 ++ beB 16 (8 * msg.length)
  ((sha512Blocks (m.length / 128) m sha384H).flatMap fun x => beB 8 x.toNat).take 48

/-! ### HMAC and HKDF with SHA-256 -/

/-- HMAC-SHA-256. -/
def hmac256 (key msg : Bytes) : Bytes :=
  let k := if key.length > 64 then sha256 key else key
  let k := k ++ List.replicate (64 - k.length) 0
  sha256 (k.map (· ^^^ 0x5c) ++ sha256 (k.map (· ^^^ 0x36) ++ msg))

/-- HKDF-SHA-256 (RFC 5869) of 32 bytes. -/
def hkdf32 (ikm salt info : Bytes) : Bytes := hmac256 (hmac256 salt ikm) (info ++ [1])

/-! ### AES -/

/-- Byte x of a table of 16 rows of 16 bytes, each row read as one number. -/
def rowByte (rows : List Nat) (x : Byte) : Byte :=
  BitVec.ofNat 8 (rows.getD (x.toNat / 16) 0 >>> (8 * (15 - x.toNat % 16)))

/-- The S-box of FIPS 197, a row for each high digit. -/
def aesSbox : List Nat :=
  [0x637c777bf26b6fc53001672bfed7ab76, 0xca82c97dfa5947f0add4a2af9ca472c0,
   0xb7fd9326363ff7cc34a5e5f171d83115, 0x04c723c31896059a071280e2eb27b275,
   0x09832c1a1b6e5aa0523bd6b329e32f84, 0x53d100ed20fcb15b6acbbe394a4c58cf,
   0xd0efaafb434d338545f9027f503c9fa8, 0x51a3408f929d38f5bcb6da2110fff3d2,
   0xcd0c13ec5f974417c4a77e3d645d1973, 0x60814fdc222a908846eeb814de5e0bdb,
   0xe0323a0a4906245cc2d3ac629195e479, 0xe7c8376d8dd54ea96c56f4ea657aae08,
   0xba78252e1ca6b4c6e8dd741f4bbd8b8a, 0x703eb5664803f60e613557b986c11d9e,
   0xe1f8981169d98e949b1e87e9ce5528df, 0x8ca1890dbfe6426841992d0fb054bb16]

def aesSub (x : Byte) : Byte := rowByte aesSbox x

/-- The inverse S-box of FIPS 197. -/
def aesInvSbox : List Nat :=
  [0x52096ad53036a538bf40a39e81f3d7fb, 0x7ce339829b2fff87348e4344c4dee9cb,
   0x547b9432a6c2233dee4c950b42fac34e, 0x082ea16628d924b2765ba2496d8bd125,
   0x72f8f66486689816d4a45ccc5d65b692, 0x6c704850fdedb9da5e154657a78d9d84,
   0x90d8ab008cbcd30af7e45805b8b34506, 0xd02c1e8fca3f0f02c1afbd0301138a6b,
   0x3a9111414f67dcea97f2cfcef0b4e673, 0x96ac7422e7ad3585e2f937e81c75df6e,
   0x47f11a711d29c5896fb7620eaa18be1b, 0xfc563e4bc6d279209adbc0fe78cd5af4,
   0x1fdda8338807c731b11210592780ec5f, 0x60517fa919b54a0d2de57a9f93c99cef,
   0xa0e03b4dae2af5b0c8ebbb3c83539961, 0x172b047eba77d626e169146355210c7d]

def aesInvSub (x : Byte) : Byte := rowByte aesInvSbox x

/-- Multiplication by x in GF(2^8). -/
def xtime (x : Byte) : Byte := (x <<< 1) ^^^ (if x &&& 0x80 == 0 then 0 else 0x1b)

/-- Key words of the expansion, newest first, as 4-byte strings; nk words in the key, i the next word's number. -/
def aesExpand : Nat → Nat → Nat → Byte → List Bytes → List Bytes
  | 0, _, _, _, ws => ws
  | n + 1, nk, i, rc, ws =>
    let t := ws.headD []
    let first := i % nk == 0
    let t := if first then
        xorB ((t.drop 1 ++ t.take 1).map aesSub) [rc, 0, 0, 0]
      else if nk > 6 && i % nk == 4 then t.map aesSub else t
    aesExpand n nk (i + 1) (if first then xtime rc else rc) (xorB (ws.getD (nk - 1) []) t :: ws)

/-- The round keys of a key of 16 or 32 bytes. -/
def aesKeys (key : Bytes) : List Bytes :=
  let nk := key.length / 4
  let w0 := (List.range nk).map fun i => sliceB key (4 * i) 4
  let ws := (aesExpand (4 * (nk + 7) - nk) nk nk 1 w0.reverse).reverse
  (List.range (nk + 7)).map fun r => ((ws.drop (4 * r)).take 4).flatten

def shiftRows (s : Bytes) : Bytes := (List.range 16).map fun i => s.getD ((i + 4 * (i % 4)) % 16) 0
def invShiftRows (s : Bytes) : Bytes := (List.range 16).map fun i => s.getD ((i + 12 * (i % 4)) % 16) 0

/-- MixColumns on one column: each byte with its three fellows, doubled where FIPS 197 has 2 and 3. -/
def mixCol (c : Bytes) : Bytes :=
  match c with
  | [a, b, d, e] =>
    let t := a ^^^ b ^^^ d ^^^ e
    [a ^^^ t ^^^ xtime (a ^^^ b), b ^^^ t ^^^ xtime (b ^^^ d), d ^^^ t ^^^ xtime (d ^^^ e), e ^^^ t ^^^ xtime (e ^^^ a)]
  | c => c

/-- InvMixColumns on one column: MixColumns after a step that its inverse takes over. -/
def invMixCol (c : Bytes) : Bytes :=
  match c with
  | [a, b, d, e] =>
    let u := xtime (xtime (a ^^^ d))
    let v := xtime (xtime (b ^^^ e))
    mixCol [a ^^^ u, b ^^^ v, d ^^^ u, e ^^^ v]
  | c => c

/-- A column operation on the four columns of a state. -/
def onCols (f : Bytes → Bytes) (s : Bytes) : Bytes := (List.range 4).flatMap fun i => f (sliceB s (4 * i) 4)

/-- Encrypt one block under round keys. -/
def aesEnc (ks : List Bytes) (x : Bytes) : Bytes :=
  match ks with
  | [] => x
  | k0 :: rest =>
    let s := rest.dropLast.foldl (fun s k => xorB (onCols mixCol (shiftRows (s.map aesSub))) k) (xorB x k0)
    xorB (shiftRows (s.map aesSub)) (rest.getLastD [])

/-- Decrypt one block under round keys. -/
def aesDec (ks : List Bytes) (x : Bytes) : Bytes :=
  match ks.reverse with
  | [] => x
  | kn :: rest =>
    let s := rest.dropLast.foldl (fun s k => onCols invMixCol (xorB ((invShiftRows s).map aesInvSub) k)) (xorB x kn)
    xorB ((invShiftRows s).map aesInvSub) (rest.getLastD [])

/-! ### CMAC and SIV (RFC 4493, RFC 5297) -/

/-- Doubling in GF(2^128). -/
def dbl (x : Bytes) : Bytes :=
  let v := beNat x * 2
  let v := if v ≥ 2 ^ 128 then (v - 2 ^ 128) ^^^ 0x87 else v
  beB 16 v

def cmacBlocks (ks : List Bytes) : Nat → Bytes → Bytes → Bytes
  | 0, _, x => x
  | n + 1, m, x => cmacBlocks ks n (m.drop 16) (aesEnc ks (xorB x (m.take 16)))

/-- AES-CMAC. -/
def cmac (ks : List Bytes) (m : Bytes) : Bytes :=
  let k1 := dbl (aesEnc ks (List.replicate 16 0))
  let n := (m.length - 1) / 16
  let last := m.drop (16 * n)
  let last := if last.length = 16 then xorB last k1 else xorB (last ++ [0x80] ++ List.replicate (15 - last.length) 0) (dbl k1)
  let x := cmacBlocks ks n m (List.replicate 16 0)
  aesEnc ks (xorB x last)

/-- S2V over the strings before the plaintext, and the plaintext. -/
def s2v (ks : List Bytes) (ads : List Bytes) (p : Bytes) : Bytes :=
  let d := ads.foldl (fun d a => xorB (dbl d) (cmac ks a)) (cmac ks (List.replicate 16 0))
  if p.length ≥ 16 then
    let n := p.length - 16
    cmac ks (p.take n ++ xorB (p.drop n) d)
  else cmac ks (xorB (dbl d) (p ++ [0x80] ++ List.replicate (15 - p.length) 0))

def ctrBlocks (ks : List Bytes) : Nat → Nat → Bytes → Bytes
  | 0, _, _ => []
  | n + 1, c, m => xorB (m.take 16) (aesEnc ks (beB 16 c)) ++ ctrBlocks ks n ((c + 1) % 2 ^ 128) (m.drop 16)

/-- The CTR mode of SIV, from the synthetic IV with bits 31 and 63 cleared. -/
def sivCtr (ks : List Bytes) (iv m : Bytes) : Bytes :=
  let q := beNat iv &&& 0xffffffffffffffff7fffffff7fffffff
  ctrBlocks ks ((m.length + 15) / 16) q m

/-- AES-SIV: the synthetic IV and the ciphertext, under a key of 32 or 64 bytes. -/
def sivSeal (key : Bytes) (ads : List Bytes) (p : Bytes) : Bytes × Bytes :=
  let h := key.length / 2
  let iv := s2v (aesKeys (key.take h)) ads p
  (iv, sivCtr (aesKeys (key.drop h)) iv p)

/-- Open: the plaintext where the synthetic IV verifies. -/
def sivOpen (key : Bytes) (ads : List Bytes) (iv c : Bytes) : Option Bytes :=
  let h := key.length / 2
  let p := sivCtr (aesKeys (key.drop h)) iv c
  if s2v (aesKeys (key.take h)) ads p == iv then some p else none

/-! ### AES Key Wrap (RFC 3394) -/

/-- One unwrapping step: the counter t, the register A and the n 64-bit blocks. -/
def unwrapStep (ks : List Bytes) (n t : Nat) (x : Bytes × List Bytes) : Bytes × List Bytes :=
  let i := (t - 1) % n
  let a := beB 8 (beNat x.1 ^^^ t)
  let y := aesDec ks (a ++ x.2.getD i [])
  (y.take 8, setAt x.2 i (y.drop 8))

def unwrapLoop (ks : List Bytes) (n : Nat) : Nat → Bytes × List Bytes → Bytes × List Bytes
  | 0, x => x
  | t + 1, x => unwrapLoop ks n t (unwrapStep ks n (t + 1) x)

/-- Unwrap: the key where the integrity value is right. -/
def keyUnwrap (kek wrapped : Bytes) : Option Bytes :=
  let n := wrapped.length / 8 - 1
  let rs := (List.range n).map fun i => sliceB wrapped (8 + 8 * i) 8
  let x := unwrapLoop (aesKeys kek) n (6 * n) (wrapped.take 8, rs)
  if x.1 == List.replicate 8 0xA6 then some x.2.flatten else none

/-! ### ECDSA over P-384 (FIPS 186-5) -/

def p384P : Nat := 2 ^ 384 - 2 ^ 128 - 2 ^ 96 + 2 ^ 32 - 1
def p384N : Nat := 0xffffffffffffffffffffffffffffffffffffffffffffffffc7634d81f4372ddf581a0db248b0a77aecec196accc52973
def p384B : Nat := 0xb3312fa7e23ee7e4988e056be3f82d19181d9c6efe8141120314088f5013875ac656398d8a2ed19d2a85c8edd3ec2aef
def p384Gx : Nat := 0xaa87ca22be8b05378eb1c71ef320ad746e1d3b628ba79b9859f741e082542a385502f25dbf55296c3a545e3872760ab7
def p384Gy : Nat := 0x3617de4a96262c6f5d9e98bf9292dc29f8f41dbd289a147ce9da3113b5f0b8c00a60b1ce1d7e819d7a431d7c90ea0e5f

/-- b^e mod m, over n bits of the exponent. -/
def powMod (m : Nat) : Nat → Nat → Nat → Nat
  | 0, _, _ => 1 % m
  | n + 1, b, e =>
    let r := powMod m n (b * b % m) (e / 2)
    if e % 2 = 1 then r * b % m else r

/-- The inverse modulo a prime of 384 bits. -/
def invMod (m a : Nat) : Nat := powMod m 384 a (m - 2)

/-- A point of the curve in Jacobian coordinates, x = X / Z^2 and y = Y / Z^3; Z is 0 at infinity. -/
abbrev EcPoint := Nat × Nat × Nat

/-- A difference in the field. -/
def pSub (a b : Nat) : Nat := (a + p384P - b % p384P) % p384P

def ecDouble (p : EcPoint) : EcPoint :=
  let d := p.2.2 * p.2.2 % p384P
  let g := p.2.1 * p.2.1 % p384P
  let b := p.1 * g % p384P
  let a := 3 * pSub p.1 d * (p.1 + d) % p384P
  let x := pSub (a * a) (8 * b)
  (x, pSub (a * pSub (4 * b) x) (8 * g * g), 2 * p.2.1 * p.2.2 % p384P)

def ecAdd (p q : EcPoint) : EcPoint :=
  if p.2.2 = 0 then q else if q.2.2 = 0 then p else
    let zp := p.2.2 * p.2.2 % p384P
    let zq := q.2.2 * q.2.2 % p384P
    let u := p.1 * zq % p384P
    let s := p.2.1 * zq * q.2.2 % p384P
    let h := pSub (q.1 * zp) u
    let r := pSub (q.2.1 * zp * p.2.2) s
    if h = 0 then (if r = 0 then ecDouble p else (1, 1, 0)) else
      let h2 := h * h % p384P
      let x := pSub (r * r) (h2 * h + 2 * u * h2)
      (x, pSub (r * pSub (u * h2) x) (s * (h2 * h)), h * p.2.2 * q.2.2 % p384P)

/-- k times a point, over n bits of k. -/
def ecMul : Nat → Nat → EcPoint → EcPoint
  | 0, _, _ => (1, 1, 0)
  | n + 1, k, p =>
    let r := ecMul n (k / 2) (ecDouble p)
    if k % 2 = 1 then ecAdd r p else r

/-- Whether a signature, r then s, verifies over a message under a public key, x then y. -/
def ecdsaVerify (pub msg sig : Bytes) : Bool :=
  let qx := beAt pub 0 48
  let qy := beAt pub 48 48
  let r := beAt sig 0 48
  let s := beAt sig 48 48
  let n := p384N
  let onCurve := qx < p384P && qy < p384P && qy * qy % p384P == (qx * qx * qx + (p384P - 3) * qx + p384B) % p384P
  if r = 0 ∨ n ≤ r ∨ s = 0 ∨ n ≤ s ∨ !onCurve then false else
    let e := beNat (sha384 msg) % n
    let w := invMod n s
    let p := ecAdd (ecMul 384 (e * w % n) (p384Gx, p384Gy, 1)) (ecMul 384 (r * w % n) (qx, qy, 1))
    decide (p.2.2 ≠ 0) && p.1 * invMod p384P (p.2.2 * p.2.2 % p384P) % p384P % n == r

end Sys2Proof.Machine
end

