-- ==== Sys2Proof/Config.lean ====
section
/-! DEFINITION. What the spec leaves to the part or leaves open, as constants without a body: no proof can see
their values. Each is named in a log entry of notes/assumptions. -/

namespace Sys2Proof

/-- A free byte, applied to the counter of free values in the state: a byte drawn from the device DRBG, or one
the spec gives no value for (log entry 3). -/
opaque Config.freeByte : Nat → BitVec 8

/-- A free natural number, applied to the counter of free values (log entry 3): a value the spec leaves open
that is bounded where it is used. -/
opaque Config.freeNat : Nat → Nat

/-- A free integer, applied to the counter of free values (log entry 3). -/
opaque Config.freeInt : Nat → Int

/-- Yastad's image key in ROM (14 R378): P-384 public key, x then y, 96 bytes. The spec gives no value (log entry 4). -/
opaque Config.romImageKey : Bytes

/-- Yastad's Pattern key in ROM (08 R212, R213): P-384 public key, 96 bytes. The spec gives no value (log entry 4). -/
opaque Config.romPatternKey : Bytes

/-- The ROM fallback Pattern set, a set of 08 R212 as bytes. The spec gives no content (log entry 4). -/
opaque Config.romPatternSet : Bytes

/-- The factory image that both copies hold as shipped (00 R7; 14 R377). The spec gives no content (log entry 4). -/
opaque Config.factoryImage : Bytes

/-- The phase of the launch points of a port in ps, taken modulo their spacing (07 R179). The spec gives no value (log
entry 9). -/
opaque Config.launchPhase : Nat → Nat

/-- Launch points of a port that alignment markers take, from the point of a number on, in the RS-FEC modes (07 R161,
R179): how many are passed over. The spec gives no positions (log entry 9). -/
opaque Config.launchSkip : Nat → Nat → Nat

end Sys2Proof
end

