-- ==== Sys2Proof/Machine/Regs.lean ====
section
/-! DEFINITION. The register map of BAR0 (17 R432, R433): one name per field of every register table of the
spec, the access code of each field (00 R5) and the reset value of each register. A name of an array takes the
index; a name of a banked register takes the function first. -/

namespace Sys2Proof.Machine

/-- A field of a register: the register's key (BAR0 offset, plus 2^20 times the function for a banked copy),
its lowest bit and its width. -/
structure BF where
  off : Nat
  lo : Nat
  w : Nat
  deriving DecidableEq, Repr

/-- The key of function f's copy of a banked register (17 R432). -/
def bank (f off : Nat) : Nat := f * 0x100000 + off

/-- Access codes of 00 R5 that the register tables use. -/
inductive Acc where
  | rw | ro | w1c | wo | rwl
  deriving DecidableEq, Repr

/-- One field of a register's access table. -/
structure RField where
  lo : Nat
  w : Nat
  acc : Acc
  deriving DecidableEq, Repr

/-- One row of the register map: `count` registers of equal layout, `stride` bytes apart. -/
structure RegRow where
  base : Nat
  stride : Nat
  count : Nat
  banked : Bool
  fields : List RField
  deriving DecidableEq, Repr

namespace R

/-- IDC_ID (17 R439). -/
def IDC_ID : Nat := 0x0
def IDC_ID_FAMILY : BF := ⟨IDC_ID, 0, 16⟩
def IDC_ID_PART : BF := ⟨IDC_ID, 16, 8⟩
/-- IDC_REV (17 R439). -/
def IDC_REV : Nat := 0x4
def IDC_REV_SILICON : BF := ⟨IDC_REV, 0, 16⟩
def IDC_REV_MODULE : BF := ⟨IDC_REV, 16, 8⟩
def IDC_REV_MAP : BF := ⟨IDC_REV, 24, 8⟩
/-- IDC_SERIAL0 (17 R439). -/
def IDC_SERIAL0 : Nat := 0x8
def IDC_SERIAL0_SERIAL : BF := ⟨IDC_SERIAL0, 0, 32⟩
/-- IDC_SERIAL1 (17 R439). -/
def IDC_SERIAL1 : Nat := 0xc
def IDC_SERIAL1_SERIAL : BF := ⟨IDC_SERIAL1, 0, 32⟩
/-- IDC_IMAGE (17 R439). -/
def IDC_IMAGE : Nat := 0x10
def IDC_IMAGE_OLFEL_SVN : BF := ⟨IDC_IMAGE, 0, 16⟩
def IDC_IMAGE_FACTORY : BF := ⟨IDC_IMAGE, 16, 1⟩
/-- IDC_CAP0 (17 R440). -/
def IDC_CAP0 : Nat := 0x20
def IDC_CAP0_PORTS : BF := ⟨IDC_CAP0, 0, 32⟩
/-- IDC_CAP1 (17 R440). -/
def IDC_CAP1 : Nat := 0x24
def IDC_CAP1_EYELETS : BF := ⟨IDC_CAP1, 0, 16⟩
def IDC_CAP1_BENCHES : BF := ⟨IDC_CAP1, 16, 4⟩
def IDC_CAP1_WELT : BF := ⟨IDC_CAP1, 20, 2⟩
def IDC_CAP1_STITCHERS : BF := ⟨IDC_CAP1, 24, 8⟩
/-- IDC_CAP2 (17 R440). -/
def IDC_CAP2 : Nat := 0x28
def IDC_CAP2_STORE_GIB : BF := ⟨IDC_CAP2, 0, 4⟩
def IDC_CAP2_CT_LOG2 : BF := ⟨IDC_CAP2, 8, 5⟩
def IDC_CAP2_ENGINES : BF := ⟨IDC_CAP2, 16, 7⟩
/-- IDC_CAP3 (17 R440). -/
def IDC_CAP3 : Nat := 0x2c
def IDC_CAP3_WELT_IF : BF := ⟨IDC_CAP3, 0, 1⟩
def IDC_CAP3_CLKOUT0 : BF := ⟨IDC_CAP3, 1, 1⟩
def IDC_CAP3_CLKOUT1 : BF := ⟨IDC_CAP3, 2, 1⟩
def IDC_CAP3_UART_A : BF := ⟨IDC_CAP3, 3, 1⟩
def IDC_CAP3_UART_B : BF := ⟨IDC_CAP3, 4, 1⟩
def IDC_CAP3_TEMP_I2C : BF := ⟨IDC_CAP3, 5, 1⟩
def IDC_CAP3_TEMP_NTC : BF := ⟨IDC_CAP3, 6, 1⟩
def IDC_CAP3_GANG : BF := ⟨IDC_CAP3, 8, 8⟩
/-- IDC_SELF (17 R439). -/
def IDC_SELF (f : Nat) : Nat := bank f 0x30
def IDC_SELF_FUNC (f : Nat) : BF := ⟨IDC_SELF f, 0, 2⟩
/-- IDC_GSTAT (17 R442). -/
def IDC_GSTAT : Nat := 0x40
def IDC_GSTAT_MODE : BF := ⟨IDC_GSTAT, 0, 3⟩
def IDC_GSTAT_HOLD_EXPIRED : BF := ⟨IDC_GSTAT, 3, 1⟩
def IDC_GSTAT_LOCK : BF := ⟨IDC_GSTAT, 4, 1⟩
def IDC_GSTAT_TIME_VALID : BF := ⟨IDC_GSTAT, 5, 1⟩
def IDC_GSTAT_ALERT : BF := ⟨IDC_GSTAT, 6, 1⟩
def IDC_GSTAT_MINIMAL : BF := ⟨IDC_GSTAT, 7, 1⟩
def IDC_GSTAT_ATTACHED : BF := ⟨IDC_GSTAT, 8, 1⟩
def IDC_GSTAT_ROLE : BF := ⟨IDC_GSTAT, 9, 2⟩
def IDC_GSTAT_SHEDDING : BF := ⟨IDC_GSTAT, 11, 1⟩
def IDC_GSTAT_NO_SEAL : BF := ⟨IDC_GSTAT, 12, 1⟩
def IDC_GSTAT_TB_PRESENT : BF := ⟨IDC_GSTAT, 13, 1⟩
def IDC_GSTAT_SWITCHING : BF := ⟨IDC_GSTAT, 14, 1⟩
def IDC_GSTAT_MACHINE_FAULT : BF := ⟨IDC_GSTAT, 15, 1⟩
def IDC_GSTAT_TJ : BF := ⟨IDC_GSTAT, 16, 8⟩
/-- IDC_GSUM (17 R442). -/
def IDC_GSUM : Nat := 0x44
def IDC_GSUM_RST : BF := ⟨IDC_GSUM, 0, 1⟩
def IDC_GSUM_SES : BF := ⟨IDC_GSUM, 1, 1⟩
def IDC_GSUM_TBS : BF := ⟨IDC_GSUM, 2, 1⟩
def IDC_GSUM_REF : BF := ⟨IDC_GSUM, 3, 1⟩
def IDC_GSUM_HLD : BF := ⟨IDC_GSUM, 4, 1⟩
def IDC_GSUM_PIN : BF := ⟨IDC_GSUM, 5, 1⟩
def IDC_GSUM_PRT : BF := ⟨IDC_GSUM, 6, 1⟩
def IDC_GSUM_ENG : BF := ⟨IDC_GSUM, 7, 1⟩
def IDC_GSUM_NTS : BF := ⟨IDC_GSUM, 8, 1⟩
def IDC_GSUM_PTP : BF := ⟨IDC_GSUM, 9, 1⟩
def IDC_GSUM_TWN : BF := ⟨IDC_GSUM, 10, 1⟩
def IDC_GSUM_FLC : BF := ⟨IDC_GSUM, 11, 1⟩
def IDC_GSUM_ERR : BF := ⟨IDC_GSUM, 12, 1⟩
def IDC_GSUM_PMC : BF := ⟨IDC_GSUM, 13, 1⟩
/-- SES_CTRL (11 R320). -/
def SES_CTRL (f : Nat) : Nat := bank f 0x1000
def SES_CTRL_OPEN (f : Nat) : BF := ⟨SES_CTRL f, 0, 1⟩
def SES_CTRL_CLOSE (f : Nat) : BF := ⟨SES_CTRL f, 1, 1⟩
/-- SES_STATUS (11 R320). -/
def SES_STATUS (f : Nat) : Nat := bank f 0x1004
def SES_STATUS_STATE (f : Nat) : BF := ⟨SES_STATUS f, 0, 2⟩
def SES_STATUS_KEY_PRESENT (f : Nat) : BF := ⟨SES_STATUS f, 2, 1⟩
def SES_STATUS_FAILED (f : Nat) : BF := ⟨SES_STATUS f, 3, 1⟩
def SES_STATUS_FAIL_CNT (f : Nat) : BF := ⟨SES_STATUS f, 4, 5⟩
def SES_STATUS_TAG (f : Nat) : BF := ⟨SES_STATUS f, 16, 16⟩
/-- SES_LOCK (11 R320). -/
def SES_LOCK (f : Nat) : Nat := bank f 0x1008
def SES_LOCK_REMAIN_S (f : Nat) : BF := ⟨SES_LOCK f, 0, 9⟩
/-- SES_PRIV (11 R320). -/
def SES_PRIV (f : Nat) : Nat := bank f 0x100c
def SES_PRIV_PRIV (f : Nat) : BF := ⟨SES_PRIV f, 0, 13⟩
/-- SES_IDLE (11 R320). -/
def SES_IDLE (f : Nat) : Nat := bank f 0x1010
def SES_IDLE_IDLE_S (f : Nat) : BF := ⟨SES_IDLE f, 0, 16⟩
/-- SES_CLOSE_CAUSE (11 R320). -/
def SES_CLOSE_CAUSE (f : Nat) : Nat := bank f 0x1014
def SES_CLOSE_CAUSE_CAUSE (f : Nat) : BF := ⟨SES_CLOSE_CAUSE f, 0, 3⟩
/-- SES_CHAL (11 R320). -/
def SES_CHAL (f i : Nat) : Nat := bank f (0x1020 + 0x4 * i)
def SES_CHAL_DATA (f i : Nat) : BF := ⟨SES_CHAL f i, 0, 32⟩
/-- SES_HNONCE (11 R320). -/
def SES_HNONCE (f i : Nat) : Nat := bank f (0x1030 + 0x4 * i)
def SES_HNONCE_DATA (f i : Nat) : BF := ⟨SES_HNONCE f i, 0, 32⟩
/-- SES_HMAC (11 R320). -/
def SES_HMAC (f i : Nat) : Nat := bank f (0x1040 + 0x4 * i)
def SES_HMAC_DATA (f i : Nat) : BF := ⟨SES_HMAC f i, 0, 32⟩
/-- SES_DNONCE (11 R320). -/
def SES_DNONCE (f i : Nat) : Nat := bank f (0x1060 + 0x4 * i)
def SES_DNONCE_DATA (f i : Nat) : BF := ⟨SES_DNONCE f i, 0, 32⟩
/-- SES_DMAC (11 R320). -/
def SES_DMAC (f i : Nat) : Nat := bank f (0x1070 + 0x4 * i)
def SES_DMAC_DATA (f i : Nat) : BF := ⟨SES_DMAC f i, 0, 32⟩
/-- SES_PROV (14 R390). -/
def SES_PROV (f i : Nat) : Nat := bank f (0x1090 + 0x4 * i)
def SES_PROV_DATA (f i : Nat) : BF := ⟨SES_PROV f i, 0, 32⟩
/-- SES_PROV_CTL (14 R390). -/
def SES_PROV_CTL (f : Nat) : Nat := bank f 0x10b0
def SES_PROV_CTL_LOAD (f : Nat) : BF := ⟨SES_PROV_CTL f, 0, 1⟩
/-- RST_CTRL (14 R388). -/
def RST_CTRL : Nat := 0x2000
def RST_CTRL_DEV_RESET : BF := ⟨RST_CTRL, 0, 8⟩
/-- RST_UNIT (14 R388). -/
def RST_UNIT : Nat := 0x2004
def RST_UNIT_KIND : BF := ⟨RST_UNIT, 0, 2⟩
def RST_UNIT_INDEX : BF := ⟨RST_UNIT, 8, 6⟩
def RST_UNIT_BUSY : BF := ⟨RST_UNIT, 16, 1⟩
def RST_UNIT_REFUSED : BF := ⟨RST_UNIT, 17, 1⟩
/-- RST_CAUSE (14 R388). -/
def RST_CAUSE : Nat := 0x2008
def RST_CAUSE_CAUSE : BF := ⟨RST_CAUSE, 0, 4⟩
def RST_CAUSE_MULTI : BF := ⟨RST_CAUSE, 4, 1⟩
/-- RST_KEEP (14 R388). -/
def RST_KEEP : Nat := 0x200c
def RST_KEEP_COUNT : BF := ⟨RST_KEEP, 0, 16⟩
def RST_KEEP_FAIL_RUN : BF := ⟨RST_KEEP, 16, 3⟩
def RST_KEEP_LOG_PTR : BF := ⟨RST_KEEP, 20, 4⟩
def RST_KEEP_KEEP_LOST : BF := ⟨RST_KEEP, 31, 1⟩
/-- RST_BOOT (14 R388). -/
def RST_BOOT : Nat := 0x2010
def RST_BOOT_STEP : BF := ⟨RST_BOOT, 0, 4⟩
def RST_BOOT_MINIMAL : BF := ⟨RST_BOOT, 4, 1⟩
def RST_BOOT_COPY : BF := ⟨RST_BOOT, 5, 1⟩
def RST_BOOT_TRAIN_ALT : BF := ⟨RST_BOOT, 6, 1⟩
def RST_BOOT_PAT_ROM : BF := ⟨RST_BOOT, 7, 1⟩
def RST_BOOT_LANES_ALT : BF := ⟨RST_BOOT, 8, 1⟩
def RST_BOOT_CFG_FALLBACK : BF := ⟨RST_BOOT, 9, 1⟩
/-- RST_LANE_FAIL0 (14 R388). -/
def RST_LANE_FAIL0 : Nat := 0x2014
def RST_LANE_FAIL0_LANES : BF := ⟨RST_LANE_FAIL0, 0, 32⟩
/-- RST_LANE_FAIL1 (14 R388). -/
def RST_LANE_FAIL1 : Nat := 0x2018
def RST_LANE_FAIL1_LANES : BF := ⟨RST_LANE_FAIL1, 0, 32⟩
/-- RST_WDOG (14 R388). -/
def RST_WDOG : Nat := 0x201c
def RST_WDOG_EN : BF := ⟨RST_WDOG, 0, 1⟩
def RST_WDOG_TMO_S : BF := ⟨RST_WDOG, 8, 6⟩
/-- RST_RTC0 (14 R388). -/
def RST_RTC0 : Nat := 0x2020
def RST_RTC0_SEC_LO : BF := ⟨RST_RTC0, 0, 32⟩
/-- RST_RTC1 (14 R388). -/
def RST_RTC1 : Nat := 0x2024
def RST_RTC1_SEC_HI : BF := ⟨RST_RTC1, 0, 16⟩
/-- RST_BOOTLOG (14 R388). -/
def RST_BOOTLOG (i : Nat) : Nat := 0x2040 + 0x4 * i
def RST_BOOTLOG_ENTRY (i : Nat) : BF := ⟨RST_BOOTLOG i, 0, 32⟩
/-- RST_MODE (02 R41). -/
def RST_MODE : Nat := 0x2100
def RST_MODE_MODE : BF := ⟨RST_MODE, 0, 3⟩
def RST_MODE_HOLD_EXPIRED : BF := ⟨RST_MODE, 3, 1⟩
def RST_MODE_TRANSITION : BF := ⟨RST_MODE, 4, 1⟩
def RST_MODE_LAST_MODE : BF := ⟨RST_MODE, 8, 3⟩
def RST_MODE_ENTRY_CAUSE : BF := ⟨RST_MODE, 16, 8⟩
/-- RST_FEATURE (02 R41). -/
def RST_FEATURE : Nat := 0x2104
def RST_FEATURE_EN : BF := ⟨RST_FEATURE, 0, 13⟩
/-- RST_FEAT_EFF (02 R41). -/
def RST_FEAT_EFF : Nat := 0x2108
def RST_FEAT_EFF_EFF : BF := ⟨RST_FEAT_EFF, 0, 13⟩
/-- RST_FEAT_ABSENT (02 R41). -/
def RST_FEAT_ABSENT : Nat := 0x210c
def RST_FEAT_ABSENT_ABSENT : BF := ⟨RST_FEAT_ABSENT, 0, 13⟩
/-- RST_SERVE (02 R41). -/
def RST_SERVE : Nat := 0x2110
def RST_SERVE_PERMIT : BF := ⟨RST_SERVE, 0, 1⟩
def RST_SERVE_ACQ_SERVE : BF := ⟨RST_SERVE, 1, 1⟩
def RST_SERVE_HOLD_EXP_STOP : BF := ⟨RST_SERVE, 2, 1⟩
def RST_SERVE_AUTOSTART : BF := ⟨RST_SERVE, 3, 1⟩
def RST_SERVE_EXP_CAT : BF := ⟨RST_SERVE, 4, 2⟩
/-- LCS_STATE (14 R389). -/
def LCS_STATE : Nat := 0x3000
def LCS_STATE_STATE : BF := ⟨LCS_STATE, 0, 3⟩
def LCS_STATE_OWNER : BF := ⟨LCS_STATE, 3, 1⟩
def LCS_STATE_REPROV_LEFT : BF := ⟨LCS_STATE, 4, 3⟩
def LCS_STATE_SVN_FLOOR : BF := ⟨LCS_STATE, 16, 16⟩
/-- LCS_NONCE (14 R389). -/
def LCS_NONCE : Nat := 0x3004
def LCS_NONCE_NONCE : BF := ⟨LCS_NONCE, 0, 16⟩
/-- LCS_ARM (14 R389). -/
def LCS_ARM : Nat := 0x3008
def LCS_ARM_TARGET : BF := ⟨LCS_ARM, 0, 3⟩
def LCS_ARM_NONCE : BF := ⟨LCS_ARM, 16, 16⟩
/-- LCS_GO (14 R389). -/
def LCS_GO : Nat := 0x300c
def LCS_GO_CONFIRM : BF := ⟨LCS_GO, 0, 32⟩
/-- LCS_CMD_STATUS (14 R389). -/
def LCS_CMD_STATUS : Nat := 0x3010
def LCS_CMD_STATUS_RESULT : BF := ⟨LCS_CMD_STATUS, 0, 4⟩
def LCS_CMD_STATUS_LAST_TARGET : BF := ⟨LCS_CMD_STATUS, 4, 3⟩
/-- LCS_OPT_STATUS (14 R389). -/
def LCS_OPT_STATUS : Nat := 0x3014
def LCS_OPT_STATUS_VALID_A : BF := ⟨LCS_OPT_STATUS, 0, 1⟩
def LCS_OPT_STATUS_VALID_B : BF := ⟨LCS_OPT_STATUS, 1, 1⟩
def LCS_OPT_STATUS_BUSY : BF := ⟨LCS_OPT_STATUS, 2, 1⟩
def LCS_OPT_STATUS_RESULT : BF := ⟨LCS_OPT_STATUS, 4, 4⟩
/-- LCS_OPT_CTRL (14 R389). -/
def LCS_OPT_CTRL : Nat := 0x3018
def LCS_OPT_CTRL_COPY : BF := ⟨LCS_OPT_CTRL, 0, 1⟩
def LCS_OPT_CTRL_START : BF := ⟨LCS_OPT_CTRL, 1, 1⟩
def LCS_OPT_CTRL_RAISE_SVN : BF := ⟨LCS_OPT_CTRL, 2, 1⟩
/-- LCS_OPT_ADDR_LO (14 R389). -/
def LCS_OPT_ADDR_LO : Nat := 0x3020
def LCS_OPT_ADDR_LO_VALUE : BF := ⟨LCS_OPT_ADDR_LO, 0, 32⟩
/-- LCS_OPT_ADDR_HI (14 R389). -/
def LCS_OPT_ADDR_HI : Nat := 0x3024
def LCS_OPT_ADDR_HI_VALUE : BF := ⟨LCS_OPT_ADDR_HI, 0, 32⟩
/-- LCS_OPT_LEN (14 R389). -/
def LCS_OPT_LEN : Nat := 0x3028
def LCS_OPT_LEN_VALUE : BF := ⟨LCS_OPT_LEN, 0, 32⟩
/-- LCS_KEYCTL (14 R389). -/
def LCS_KEYCTL : Nat := 0x3030
def LCS_KEYCTL_FUNC : BF := ⟨LCS_KEYCTL, 0, 2⟩
def LCS_KEYCTL_OP : BF := ⟨LCS_KEYCTL, 2, 2⟩
def LCS_KEYCTL_PRIV : BF := ⟨LCS_KEYCTL, 4, 13⟩
def LCS_KEYCTL_RESULT : BF := ⟨LCS_KEYCTL, 17, 3⟩
/-- LCS_KEY (14 R389). -/
def LCS_KEY (i : Nat) : Nat := 0x3040 + 0x4 * i
def LCS_KEY_DATA (i : Nat) : BF := ⟨LCS_KEY i, 0, 32⟩
/-- LCS_OWNER (14 R389). -/
def LCS_OWNER (i : Nat) : Nat := 0x3080 + 0x4 * i
def LCS_OWNER_DATA (i : Nat) : BF := ⟨LCS_OWNER i, 0, 32⟩
/-- HRG_SQ_LO (11 R321). -/
def HRG_SQ_LO (i : Nat) : Nat := 0x4000 + 0x40 * i
def HRG_SQ_LO_ADDR (i : Nat) : BF := ⟨HRG_SQ_LO i, 0, 32⟩
/-- HRG_SQ_HI (11 R321). -/
def HRG_SQ_HI (i : Nat) : Nat := 0x4004 + 0x40 * i
def HRG_SQ_HI_ADDR (i : Nat) : BF := ⟨HRG_SQ_HI i, 0, 32⟩
/-- HRG_CQ_LO (11 R321). -/
def HRG_CQ_LO (i : Nat) : Nat := 0x4008 + 0x40 * i
def HRG_CQ_LO_ADDR (i : Nat) : BF := ⟨HRG_CQ_LO i, 0, 32⟩
/-- HRG_CQ_HI (11 R321). -/
def HRG_CQ_HI (i : Nat) : Nat := 0x400c + 0x40 * i
def HRG_CQ_HI_ADDR (i : Nat) : BF := ⟨HRG_CQ_HI i, 0, 32⟩
/-- HRG_SIZE (11 R321). -/
def HRG_SIZE (i : Nat) : Nat := 0x4010 + 0x40 * i
def HRG_SIZE_SQ_LOG (i : Nat) : BF := ⟨HRG_SIZE i, 0, 5⟩
def HRG_SIZE_CQ_LOG (i : Nat) : BF := ⟨HRG_SIZE i, 8, 5⟩
/-- HRG_CTL (11 R321). -/
def HRG_CTL (i : Nat) : Nat := 0x4014 + 0x40 * i
def HRG_CTL_ENABLE (i : Nat) : BF := ⟨HRG_CTL i, 0, 1⟩
def HRG_CTL_IRQ_EN (i : Nat) : BF := ⟨HRG_CTL i, 1, 1⟩
/-- HRG_COAL (11 R321). -/
def HRG_COAL (i : Nat) : Nat := 0x4018 + 0x40 * i
def HRG_COAL_COUNT (i : Nat) : BF := ⟨HRG_COAL i, 0, 8⟩
def HRG_COAL_DELAY_US (i : Nat) : BF := ⟨HRG_COAL i, 16, 16⟩
/-- HRG_STAT (11 R321). -/
def HRG_STAT (i : Nat) : Nat := 0x401c + 0x40 * i
def HRG_STAT_RUNNING (i : Nat) : BF := ⟨HRG_STAT i, 0, 1⟩
def HRG_STAT_ERR (i : Nat) : BF := ⟨HRG_STAT i, 1, 1⟩
def HRG_STAT_ERR_CODE (i : Nat) : BF := ⟨HRG_STAT i, 4, 3⟩
def HRG_STAT_OWNER (i : Nat) : BF := ⟨HRG_STAT i, 16, 2⟩
/-- HRG_SQCI (11 R321). -/
def HRG_SQCI (i : Nat) : Nat := 0x4020 + 0x40 * i
def HRG_SQCI_INDEX (i : Nat) : BF := ⟨HRG_SQCI i, 0, 32⟩
/-- HRG_CQPI (11 R321). -/
def HRG_CQPI (i : Nat) : Nat := 0x4024 + 0x40 * i
def HRG_CQPI_INDEX (i : Nat) : BF := ⟨HRG_CQPI i, 0, 32⟩
/-- HRG_ASSIGN (11 R321). -/
def HRG_ASSIGN (i : Nat) : Nat := 0x5000 + 0x4 * i
def HRG_ASSIGN_OWNER (i : Nat) : BF := ⟨HRG_ASSIGN i, 0, 32⟩
/-- HRG_NUDGE (11 R321). -/
def HRG_NUDGE (f : Nat) : Nat := bank f 0x5010
def HRG_NUDGE_NUDGE (f : Nat) : BF := ⟨HRG_NUDGE f, 0, 32⟩
/-- HRG_POLL (11 R321). -/
def HRG_POLL : Nat := 0x5014
def HRG_POLL_DB_POLL_NS : BF := ⟨HRG_POLL, 0, 16⟩
/-- HRG_POLL_STAT (11 R321). -/
def HRG_POLL_STAT : Nat := 0x5018
def HRG_POLL_STAT_EFF_POLL_NS : BF := ⟨HRG_POLL_STAT, 0, 16⟩
def HRG_POLL_STAT_SLOTS : BF := ⟨HRG_POLL_STAT, 16, 7⟩
/-- HRG_DBP_LO (11 R321). -/
def HRG_DBP_LO (f : Nat) : Nat := bank f 0x5020
def HRG_DBP_LO_ADDR (f : Nat) : BF := ⟨HRG_DBP_LO f, 0, 32⟩
/-- HRG_DBP_HI (11 R321). -/
def HRG_DBP_HI (f : Nat) : Nat := bank f 0x5024
def HRG_DBP_HI_ADDR (f : Nat) : BF := ⟨HRG_DBP_HI f, 0, 32⟩
/-- EVT_BASE_LO (11 R322). -/
def EVT_BASE_LO (f : Nat) : Nat := bank f 0x6000
def EVT_BASE_LO_ADDR (f : Nat) : BF := ⟨EVT_BASE_LO f, 0, 32⟩
/-- EVT_BASE_HI (11 R322). -/
def EVT_BASE_HI (f : Nat) : Nat := bank f 0x6004
def EVT_BASE_HI_ADDR (f : Nat) : BF := ⟨EVT_BASE_HI f, 0, 32⟩
/-- EVT_CTL (11 R322). -/
def EVT_CTL (f : Nat) : Nat := bank f 0x6008
def EVT_CTL_ENABLE (f : Nat) : BF := ⟨EVT_CTL f, 0, 1⟩
def EVT_CTL_IRQ_EN (f : Nat) : BF := ⟨EVT_CTL f, 1, 1⟩
def EVT_CTL_LOG (f : Nat) : BF := ⟨EVT_CTL f, 8, 5⟩
/-- EVT_COAL (11 R322). -/
def EVT_COAL (f : Nat) : Nat := bank f 0x600c
def EVT_COAL_COUNT (f : Nat) : BF := ⟨EVT_COAL f, 0, 8⟩
def EVT_COAL_DELAY_US (f : Nat) : BF := ⟨EVT_COAL f, 16, 16⟩
/-- EVT_STATUS (11 R322). -/
def EVT_STATUS (f : Nat) : Nat := bank f 0x6010
def EVT_STATUS_RUNNING (f : Nat) : BF := ⟨EVT_STATUS f, 0, 1⟩
def EVT_STATUS_STEPGEN_LO (f : Nat) : BF := ⟨EVT_STATUS f, 1, 1⟩
def EVT_STATUS_STEPGEN (f : Nat) : BF := ⟨EVT_STATUS f, 2, 2⟩
def EVT_STATUS_LOST (f : Nat) : BF := ⟨EVT_STATUS f, 16, 16⟩
/-- EVT_ROUTE (11 R322). -/
def EVT_ROUTE : Nat := 0x6020
def EVT_ROUTE_MODE : BF := ⟨EVT_ROUTE, 0, 4⟩
def EVT_ROUTE_LINK : BF := ⟨EVT_ROUTE, 4, 4⟩
def EVT_ROUTE_REF : BF := ⟨EVT_ROUTE, 8, 4⟩
def EVT_ROUTE_HOLD : BF := ⟨EVT_ROUTE, 12, 4⟩
def EVT_ROUTE_PTP : BF := ⟨EVT_ROUTE, 16, 4⟩
def EVT_ROUTE_NTS : BF := ⟨EVT_ROUTE, 20, 4⟩
def EVT_ROUTE_TWIN : BF := ⟨EVT_ROUTE, 24, 4⟩
def EVT_ROUTE_ERROR : BF := ⟨EVT_ROUTE, 28, 4⟩
/-- EVT_GINT_EN (17 R443). -/
def EVT_GINT_EN (f : Nat) : Nat := bank f 0x6024
def EVT_GINT_EN_EN (f : Nat) : BF := ⟨EVT_GINT_EN f, 0, 14⟩
/-- EVT_ACCERR (17 R444). -/
def EVT_ACCERR (f : Nat) : Nat := bank f 0x6028
def EVT_ACCERR_LONG (f : Nat) : BF := ⟨EVT_ACCERR f, 0, 1⟩
def EVT_ACCERR_PARTIAL (f : Nat) : BF := ⟨EVT_ACCERR f, 1, 1⟩
def EVT_ACCERR_RESERVED (f : Nat) : BF := ⟨EVT_ACCERR f, 2, 1⟩
def EVT_ACCERR_ABSENT (f : Nat) : BF := ⟨EVT_ACCERR f, 3, 1⟩
def EVT_ACCERR_NOPRIV (f : Nat) : BF := ⟨EVT_ACCERR f, 4, 1⟩
def EVT_ACCERR_LOCKED (f : Nat) : BF := ⟨EVT_ACCERR f, 5, 1⟩
/-- EVT_ACCADDR (17 R444). -/
def EVT_ACCADDR (f : Nat) : Nat := bank f 0x602c
def EVT_ACCADDR_OFFSET (f : Nat) : BF := ⟨EVT_ACCADDR f, 0, 20⟩
def EVT_ACCADDR_KIND (f : Nat) : BF := ⟨EVT_ACCADDR f, 20, 3⟩
def EVT_ACCADDR_WRITE (f : Nat) : BF := ⟨EVT_ACCADDR f, 23, 1⟩
/-- TBS_CTRL (03 R77). -/
def TBS_CTRL : Nat := 0x8000
def TBS_CTRL_STEP_EN : BF := ⟨TBS_CTRL, 0, 1⟩
def TBS_CTRL_FIRST_STEP : BF := ⟨TBS_CTRL, 1, 1⟩
/-- TBS_STATUS (03 R77). -/
def TBS_STATUS : Nat := 0x8004
def TBS_STATUS_TIME_VALID : BF := ⟨TBS_STATUS, 0, 1⟩
def TBS_STATUS_SLEWING : BF := ⟨TBS_STATUS, 1, 1⟩
def TBS_STATUS_LEAP_PENDING : BF := ⟨TBS_STATUS, 2, 1⟩
def TBS_STATUS_LEAP_DIR : BF := ⟨TBS_STATUS, 3, 1⟩
def TBS_STATUS_IN_SMEAR : BF := ⟨TBS_STATUS, 4, 1⟩
def TBS_STATUS_LEAP_WARN : BF := ⟨TBS_STATUS, 5, 1⟩
def TBS_STATUS_STEPPED : BF := ⟨TBS_STATUS, 6, 1⟩
/-- TBS_NOW0 (03 R77). -/
def TBS_NOW0 : Nat := 0x8010
def TBS_NOW0_NS : BF := ⟨TBS_NOW0, 0, 30⟩
/-- TBS_NOW1 (03 R77). -/
def TBS_NOW1 : Nat := 0x8014
def TBS_NOW1_SEC_LO : BF := ⟨TBS_NOW1, 0, 32⟩
/-- TBS_NOW2 (03 R77). -/
def TBS_NOW2 : Nat := 0x8018
def TBS_NOW2_SEC_HI : BF := ⟨TBS_NOW2, 0, 16⟩
def TBS_NOW2_FRAC : BF := ⟨TBS_NOW2, 16, 16⟩
/-- TBS_SHORT (03 R77). -/
def TBS_SHORT : Nat := 0x801c
def TBS_SHORT_SHORT : BF := ⟨TBS_SHORT, 0, 32⟩
/-- TBS_STEP_LIMIT (03 R77). -/
def TBS_STEP_LIMIT : Nat := 0x8020
def TBS_STEP_LIMIT_LIMIT : BF := ⟨TBS_STEP_LIMIT, 0, 32⟩
/-- TBS_SLEW (03 R77). -/
def TBS_SLEW : Nat := 0x8024
def TBS_SLEW_RATE : BF := ⟨TBS_SLEW, 0, 20⟩
/-- TBS_UTC (03 R77). -/
def TBS_UTC : Nat := 0x8028
def TBS_UTC_OFFSET : BF := ⟨TBS_UTC, 0, 16⟩
/-- TBS_LEAP (03 R77). -/
def TBS_LEAP : Nat := 0x802c
def TBS_LEAP_WARN_S : BF := ⟨TBS_LEAP, 0, 17⟩
/-- TBS_LEAP_AT0 (03 R77). -/
def TBS_LEAP_AT0 : Nat := 0x8030
def TBS_LEAP_AT0_SEC_LO : BF := ⟨TBS_LEAP_AT0, 0, 32⟩
/-- TBS_LEAP_AT1 (03 R77). -/
def TBS_LEAP_AT1 : Nat := 0x8034
def TBS_LEAP_AT1_SEC_HI : BF := ⟨TBS_LEAP_AT1, 0, 16⟩
/-- TBS_SMEAR (03 R77). -/
def TBS_SMEAR : Nat := 0x8038
def TBS_SMEAR_LEN : BF := ⟨TBS_SMEAR, 0, 18⟩
def TBS_SMEAR_POS : BF := ⟨TBS_SMEAR, 18, 2⟩
/-- TBS_SLEW_REM (03 R77). -/
def TBS_SLEW_REM : Nat := 0x803c
def TBS_SLEW_REM_REM : BF := ⟨TBS_SLEW_REM, 0, 32⟩
/-- TBS_STEP_LAST (03 R77). -/
def TBS_STEP_LAST : Nat := 0x8040
def TBS_STEP_LAST_STEP : BF := ⟨TBS_STEP_LAST, 0, 32⟩
/-- TBS_STEP_CNT (03 R77). -/
def TBS_STEP_CNT : Nat := 0x8044
def TBS_STEP_CNT_COUNT : BF := ⟨TBS_STEP_CNT, 0, 16⟩
/-- LST_CTRL (03 R78). -/
def LST_CTRL : Nat := 0x9000
def LST_CTRL_LAUNCH_RSV : BF := ⟨LST_CTRL, 0, 12⟩
def LST_CTRL_HOST_MAX : BF := ⟨LST_CTRL, 16, 10⟩
/-- LST_STATUS (03 R78). -/
def LST_STATUS : Nat := 0x9004
def LST_STATUS_USED : BF := ⟨LST_STATUS, 0, 13⟩
def LST_STATUS_SPILLED : BF := ⟨LST_STATUS, 16, 13⟩
/-- LST_HORIZON (03 R78). -/
def LST_HORIZON : Nat := 0x9008
def LST_HORIZON_HOT_MS : BF := ⟨LST_HORIZON, 0, 10⟩
/-- LST_LATE_RUN (03 R78). -/
def LST_LATE_RUN : Nat := 0x9010
def LST_LATE_RUN_COUNT : BF := ⟨LST_LATE_RUN, 0, 32⟩
/-- LST_LATE_SKIP (03 R78). -/
def LST_LATE_SKIP : Nat := 0x9014
def LST_LATE_SKIP_COUNT : BF := ⟨LST_LATE_SKIP, 0, 32⟩
/-- LST_LATE_NEXT (03 R78). -/
def LST_LATE_NEXT : Nat := 0x9018
def LST_LATE_NEXT_COUNT : BF := ⟨LST_LATE_NEXT, 0, 32⟩
/-- LST_NOP (03 R78). -/
def LST_NOP : Nat := 0x901c
def LST_NOP_COUNT : BF := ⟨LST_NOP, 0, 32⟩
/-- LST_CYC (03 R78). -/
def LST_CYC (i : Nat) : Nat := 0x9040 + 0x4 * i
def LST_CYC_AVG (i : Nat) : BF := ⟨LST_CYC i, 0, 7⟩
def LST_CYC_MISS_MAX (i : Nat) : BF := ⟨LST_CYC i, 8, 4⟩
def LST_CYC_MISS_WIN (i : Nat) : BF := ⟨LST_CYC i, 16, 8⟩
/-- REF_SEL (04 R107). -/
def REF_SEL : Nat := 0xa000
def REF_SEL_MODE : BF := ⟨REF_SEL, 0, 2⟩
def REF_SEL_REVERT : BF := ⟨REF_SEL, 2, 1⟩
def REF_SEL_SW_AVG : BF := ⟨REF_SEL, 8, 4⟩
def REF_SEL_BW : BF := ⟨REF_SEL, 16, 4⟩
def REF_SEL_ACQ_BW : BF := ⟨REF_SEL, 20, 4⟩
/-- REF_LOCK (04 R107). -/
def REF_LOCK : Nat := 0xa004
def REF_LOCK_LOCK_NS : BF := ⟨REF_LOCK, 0, 16⟩
def REF_LOCK_UNLOCK_NS : BF := ⟨REF_LOCK, 16, 16⟩
/-- REF_LOCK_F (04 R107). -/
def REF_LOCK_F : Nat := 0xa008
def REF_LOCK_F_LOCK_PPB : BF := ⟨REF_LOCK_F, 0, 16⟩
def REF_LOCK_F_LOCK_S : BF := ⟨REF_LOCK_F, 16, 12⟩
/-- REF_DPLL (04 R107). -/
def REF_DPLL : Nat := 0xa00c
def REF_DPLL_PULL : BF := ⟨REF_DPLL, 0, 12⟩
/-- REF_SENT (04 R107). -/
def REF_SENT : Nat := 0xa010
def REF_SENT_LIM_NS : BF := ⟨REF_SENT, 0, 16⟩
def REF_SENT_AGREE_NS : BF := ⟨REF_SENT, 16, 8⟩
def REF_SENT_TAU : BF := ⟨REF_SENT, 24, 8⟩
/-- REF_SENT_F (04 R107). -/
def REF_SENT_F : Nat := 0xa014
def REF_SENT_F_LIM_PPB : BF := ⟨REF_SENT_F, 0, 16⟩
def REF_SENT_F_AGREE_PPB : BF := ⟨REF_SENT_F, 16, 16⟩
/-- REF_ENS (04 R107). -/
def REF_ENS : Nat := 0xa018
def REF_ENS_TAU : BF := ⟨REF_ENS, 0, 8⟩
def REF_ENS_M : BF := ⟨REF_ENS, 8, 8⟩
def REF_ENS_W_MAX : BF := ⟨REF_ENS, 16, 8⟩
def REF_ENS_FLOOR : BF := ⟨REF_ENS, 24, 8⟩
/-- REF_STATUS (04 R107). -/
def REF_STATUS : Nat := 0xa01c
def REF_STATUS_SELECTED : BF := ⟨REF_STATUS, 0, 5⟩
def REF_STATUS_SWITCHING : BF := ⟨REF_STATUS, 5, 1⟩
def REF_STATUS_LOCK : BF := ⟨REF_STATUS, 6, 1⟩
def REF_STATUS_FREQ_ONLY : BF := ⟨REF_STATUS, 7, 1⟩
def REF_STATUS_SENT_SPLIT : BF := ⟨REF_STATUS, 8, 1⟩
def REF_STATUS_BW_CLAMP : BF := ⟨REF_STATUS, 9, 1⟩
def REF_STATUS_FORCED : BF := ⟨REF_STATUS, 10, 1⟩
def REF_STATUS_EFF_BW : BF := ⟨REF_STATUS, 12, 4⟩
def REF_STATUS_CONTRIB_CNT : BF := ⟨REF_STATUS, 16, 5⟩
/-- REF_ELIG (04 R107). -/
def REF_ELIG : Nat := 0xa020
def REF_ELIG_SLOTS : BF := ⟨REF_ELIG, 0, 24⟩
/-- REF_CONTRIB (04 R107). -/
def REF_CONTRIB : Nat := 0xa024
def REF_CONTRIB_SLOTS : BF := ⟨REF_CONTRIB, 0, 24⟩
/-- REF_PHERR (04 R107). -/
def REF_PHERR : Nat := 0xa028
def REF_PHERR_VALUE : BF := ⟨REF_PHERR, 0, 32⟩
/-- REF_FREQ (04 R107). -/
def REF_FREQ : Nat := 0xa02c
def REF_FREQ_VALUE : BF := ⟨REF_FREQ, 0, 32⟩
/-- REF_SW_CNT (04 R107). -/
def REF_SW_CNT : Nat := 0xa030
def REF_SW_CNT_SWITCHES : BF := ⟨REF_SW_CNT, 0, 16⟩
def REF_SW_CNT_ABANDONED : BF := ⟨REF_SW_CNT, 16, 16⟩
/-- REF_SRC (04 R108). -/
def REF_SRC (i : Nat) : Nat := 0xa100 + 0x20 * i
def REF_SRC_KIND (i : Nat) : BF := ⟨REF_SRC i, 0, 3⟩
def REF_SRC_OBJ (i : Nat) : BF := ⟨REF_SRC i, 4, 5⟩
def REF_SRC_PPS_EY (i : Nat) : BF := ⟨REF_SRC i, 12, 4⟩
def REF_SRC_UART (i : Nat) : BF := ⟨REF_SRC i, 16, 1⟩
def REF_SRC_BIN (i : Nat) : BF := ⟨REF_SRC i, 17, 1⟩
def REF_SRC_LABEL_NEXT (i : Nat) : BF := ⟨REF_SRC i, 18, 1⟩
def REF_SRC_BAUD (i : Nat) : BF := ⟨REF_SRC i, 20, 3⟩
def REF_SRC_ENS (i : Nat) : BF := ⟨REF_SRC i, 24, 1⟩
def REF_SRC_TRACEABLE (i : Nat) : BF := ⟨REF_SRC i, 25, 1⟩
def REF_SRC_QL_EN (i : Nat) : BF := ⟨REF_SRC i, 26, 1⟩
def REF_SRC_STRATUM (i : Nat) : BF := ⟨REF_SRC i, 28, 4⟩
/-- REF_CFG (04 R108). -/
def REF_CFG (i : Nat) : Nat := 0xa104 + 0x20 * i
def REF_CFG_PRIO (i : Nat) : BF := ⟨REF_CFG i, 0, 8⟩
def REF_CFG_FREQ_WIN (i : Nat) : BF := ⟨REF_CFG i, 8, 8⟩
def REF_CFG_FREEZE_MAX (i : Nat) : BF := ⟨REF_CFG i, 16, 8⟩
/-- REF_ACC_PPB (04 R108). -/
def REF_ACC_PPB (i : Nat) : Nat := 0xa108 + 0x20 * i
def REF_ACC_PPB_LIMIT (i : Nat) : BF := ⟨REF_ACC_PPB i, 0, 24⟩
/-- REF_REJ_PPB (04 R108). -/
def REF_REJ_PPB (i : Nat) : Nat := 0xa10c + 0x20 * i
def REF_REJ_PPB_LIMIT (i : Nat) : BF := ⟨REF_REJ_PPB i, 0, 24⟩
/-- REF_ACT (04 R108). -/
def REF_ACT (i : Nat) : Nat := 0xa110 + 0x20 * i
def REF_ACT_INC (i : Nat) : BF := ⟨REF_ACT i, 0, 8⟩
def REF_ACT_REJ (i : Nat) : BF := ⟨REF_ACT i, 8, 8⟩
def REF_ACT_ACC (i : Nat) : BF := ⟨REF_ACT i, 16, 8⟩
def REF_ACT_CAP (i : Nat) : BF := ⟨REF_ACT i, 24, 8⟩
/-- REF_TIMES (04 R108). -/
def REF_TIMES (i : Nat) : Nat := 0xa114 + 0x20 * i
def REF_TIMES_QUAL_S (i : Nat) : BF := ⟨REF_TIMES i, 0, 16⟩
def REF_TIMES_WTR_S (i : Nat) : BF := ⟨REF_TIMES i, 16, 16⟩
/-- REF_FLAP (04 R108). -/
def REF_FLAP (i : Nat) : Nat := 0xa118 + 0x20 * i
def REF_FLAP_FLAP_MAX (i : Nat) : BF := ⟨REF_FLAP i, 0, 8⟩
def REF_FLAP_FLAP_WIN (i : Nat) : BF := ⟨REF_FLAP i, 8, 16⟩
/-- REF_REFID (04 R108). -/
def REF_REFID (i : Nat) : Nat := 0xa11c + 0x20 * i
def REF_REFID_ID (i : Nat) : BF := ⟨REF_REFID i, 0, 32⟩
/-- REF_ST (04 R109). -/
def REF_ST (i : Nat) : Nat := 0xa400 + 0x10 * i
def REF_ST_STATE (i : Nat) : BF := ⟨REF_ST i, 0, 3⟩
def REF_ST_FROZEN (i : Nat) : BF := ⟨REF_ST i, 3, 1⟩
def REF_ST_ELIGIBLE (i : Nat) : BF := ⟨REF_ST i, 4, 1⟩
def REF_ST_CONTRIB (i : Nat) : BF := ⟨REF_ST i, 5, 1⟩
def REF_ST_LOCKOUT_HELD (i : Nat) : BF := ⟨REF_ST i, 6, 1⟩
def REF_ST_CAUSE (i : Nat) : BF := ⟨REF_ST i, 8, 4⟩
def REF_ST_WEIGHT (i : Nat) : BF := ⟨REF_ST i, 16, 8⟩
def REF_ST_FLAP_CNT (i : Nat) : BF := ⟨REF_ST i, 24, 8⟩
/-- REF_Y (04 R109). -/
def REF_Y (i : Nat) : Nat := 0xa404 + 0x10 * i
def REF_Y_VALUE (i : Nat) : BF := ⟨REF_Y i, 0, 32⟩
/-- REF_X (04 R109). -/
def REF_X (i : Nat) : Nat := 0xa408 + 0x10 * i
def REF_X_VALUE (i : Nat) : BF := ⟨REF_X i, 0, 32⟩
/-- REF_SIGMA (04 R109). -/
def REF_SIGMA (i : Nat) : Nat := 0xa40c + 0x10 * i
def REF_SIGMA_SIGMA (i : Nat) : BF := ⟨REF_SIGMA i, 0, 24⟩
def REF_SIGMA_BUCKET (i : Nat) : BF := ⟨REF_SIGMA i, 24, 8⟩
/-- HLD_CTRL (05 R129). -/
def HLD_CTRL : Nat := 0xb000
def HLD_CTRL_LEARN : BF := ⟨HLD_CTRL, 0, 6⟩
def HLD_CTRL_GUARD_S : BF := ⟨HLD_CTRL, 8, 8⟩
def HLD_CTRL_AVG_S : BF := ⟨HLD_CTRL, 16, 16⟩
/-- HLD_STATUS (05 R129). -/
def HLD_STATUS : Nat := 0xb004
def HLD_STATUS_STEERING : BF := ⟨HLD_STATUS, 0, 1⟩
def HLD_STATUS_MODEL_VALID : BF := ⟨HLD_STATUS, 1, 1⟩
def HLD_STATUS_LEARNED : BF := ⟨HLD_STATUS, 8, 6⟩
def HLD_STATUS_TEMP_LOST : BF := ⟨HLD_STATUS, 16, 1⟩
def HLD_STATUS_TEMP_EVENT : BF := ⟨HLD_STATUS, 17, 1⟩
/-- HLD_TEMP_CFG (05 R129). -/
def HLD_TEMP_CFG : Nat := 0xb008
def HLD_TEMP_CFG_SRC : BF := ⟨HLD_TEMP_CFG, 0, 2⟩
def HLD_TEMP_CFG_I2C_FAST : BF := ⟨HLD_TEMP_CFG, 2, 1⟩
def HLD_TEMP_CFG_ADDR : BF := ⟨HLD_TEMP_CFG, 4, 7⟩
def HLD_TEMP_CFG_PTR : BF := ⟨HLD_TEMP_CFG, 16, 8⟩
def HLD_TEMP_CFG_RATE_WIN : BF := ⟨HLD_TEMP_CFG, 24, 8⟩
/-- HLD_THERM (05 R129). -/
def HLD_THERM : Nat := 0xb00c
def HLD_THERM_BETA : BF := ⟨HLD_THERM, 0, 16⟩
def HLD_THERM_RNOM : BF := ⟨HLD_THERM, 16, 16⟩
/-- HLD_TEMP (05 R129). -/
def HLD_TEMP : Nat := 0xb010
def HLD_TEMP_T : BF := ⟨HLD_TEMP, 0, 16⟩
def HLD_TEMP_TDOT : BF := ⟨HLD_TEMP, 16, 16⟩
/-- HLD_TREF (05 R129). -/
def HLD_TREF : Nat := 0xb014
def HLD_TREF_TREF : BF := ⟨HLD_TREF, 0, 16⟩
/-- HLD_LEARN (05 R129). -/
def HLD_LEARN : Nat := 0xb018
def HLD_LEARN_INT_S : BF := ⟨HLD_LEARN, 0, 8⟩
def HLD_LEARN_WIN_D : BF := ⟨HLD_LEARN, 8, 8⟩
def HLD_LEARN_DT_MIN : BF := ⟨HLD_LEARN, 16, 8⟩
def HLD_LEARN_MIN_H : BF := ⟨HLD_LEARN, 24, 8⟩
/-- HLD_EPOCH (05 R129). -/
def HLD_EPOCH : Nat := 0xb01c
def HLD_EPOCH_SEC : BF := ⟨HLD_EPOCH, 0, 32⟩
/-- HLD_BUD (05 R129). -/
def HLD_BUD : Nat := 0xb020
def HLD_BUD_E0_NS : BF := ⟨HLD_BUD, 0, 16⟩
def HLD_BUD_TCAP : BF := ⟨HLD_BUD, 16, 16⟩
/-- HLD_LIMIT (05 R129). -/
def HLD_LIMIT : Nat := 0xb024
def HLD_LIMIT_VALUE : BF := ⟨HLD_LIMIT, 0, 32⟩
/-- HLD_TLOSS (05 R129). -/
def HLD_TLOSS : Nat := 0xb028
def HLD_TLOSS_VALUE : BF := ⟨HLD_TLOSS, 0, 32⟩
/-- HLD_BUDGET (05 R129). -/
def HLD_BUDGET : Nat := 0xb02c
def HLD_BUDGET_VALUE : BF := ⟨HLD_BUDGET, 0, 32⟩
/-- HLD_ELAPSED (05 R129). -/
def HLD_ELAPSED : Nat := 0xb030
def HLD_ELAPSED_VALUE : BF := ⟨HLD_ELAPSED, 0, 32⟩
/-- HLD_PRED (05 R129). -/
def HLD_PRED : Nat := 0xb034
def HLD_PRED_VALUE : BF := ⟨HLD_PRED, 0, 32⟩
/-- HLD_F0 (05 R130). -/
def HLD_F0 : Nat := 0xb040
def HLD_F0_F0 : BF := ⟨HLD_F0, 0, 32⟩
/-- HLD_A (05 R130). -/
def HLD_A : Nat := 0xb044
def HLD_A_A : BF := ⟨HLD_A, 0, 32⟩
/-- HLD_B (05 R130). -/
def HLD_B : Nat := 0xb048
def HLD_B_B : BF := ⟨HLD_B, 0, 32⟩
/-- HLD_C1 (05 R130). -/
def HLD_C1 : Nat := 0xb04c
def HLD_C1_C1 : BF := ⟨HLD_C1, 0, 32⟩
/-- HLD_C2 (05 R130). -/
def HLD_C2 : Nat := 0xb050
def HLD_C2_C2 : BF := ⟨HLD_C2, 0, 32⟩
/-- HLD_C3 (05 R130). -/
def HLD_C3 : Nat := 0xb054
def HLD_C3_C3 : BF := ⟨HLD_C3, 0, 32⟩
/-- HLD_UF (05 R130). -/
def HLD_UF : Nat := 0xb058
def HLD_UF_UF : BF := ⟨HLD_UF, 0, 32⟩
/-- HLD_UA (05 R130). -/
def HLD_UA : Nat := 0xb05c
def HLD_UA_UA : BF := ⟨HLD_UA, 0, 32⟩
/-- HLD_UB (05 R130). -/
def HLD_UB : Nat := 0xb060
def HLD_UB_UB : BF := ⟨HLD_UB, 0, 32⟩
/-- HLD_ET (05 R130). -/
def HLD_ET : Nat := 0xb064
def HLD_ET_ET : BF := ⟨HLD_ET, 0, 32⟩
/-- HLD_OCFG (05 R131). -/
def HLD_OCFG (i : Nat) : Nat := 0xb100 + 0x20 * i
def HLD_OCFG_KIND (i : Nat) : BF := ⟨HLD_OCFG i, 0, 3⟩
def HLD_OCFG_POL (i : Nat) : BF := ⟨HLD_OCFG i, 3, 1⟩
def HLD_OCFG_SQ_UNSYNC (i : Nat) : BF := ⟨HLD_OCFG i, 4, 1⟩
def HLD_OCFG_SQ_EXP (i : Nat) : BF := ⟨HLD_OCFG i, 5, 1⟩
def HLD_OCFG_FIRST_ALIGN (i : Nat) : BF := ⟨HLD_OCFG i, 6, 1⟩
def HLD_OCFG_CYC_EY (i : Nat) : BF := ⟨HLD_OCFG i, 8, 4⟩
def HLD_OCFG_PERIOD_S (i : Nat) : BF := ⟨HLD_OCFG i, 16, 16⟩
/-- HLD_OPER (05 R131). -/
def HLD_OPER (i : Nat) : Nat := 0xb104 + 0x20 * i
def HLD_OPER_PERIOD_NS (i : Nat) : BF := ⟨HLD_OPER i, 0, 30⟩
/-- HLD_OFREQ (05 R131). -/
def HLD_OFREQ (i : Nat) : Nat := 0xb108 + 0x20 * i
def HLD_OFREQ_FREQ (i : Nat) : BF := ⟨HLD_OFREQ i, 0, 32⟩
/-- HLD_OFRAC (05 R131). -/
def HLD_OFRAC (i : Nat) : Nat := 0xb10c + 0x20 * i
def HLD_OFRAC_FRAC (i : Nat) : BF := ⟨HLD_OFRAC i, 0, 16⟩
/-- HLD_OWIDTH (05 R131). -/
def HLD_OWIDTH (i : Nat) : Nat := 0xb110 + 0x20 * i
def HLD_OWIDTH_WIDTH (i : Nat) : BF := ⟨HLD_OWIDTH i, 0, 30⟩
def HLD_OWIDTH_UNIT (i : Nat) : BF := ⟨HLD_OWIDTH i, 30, 2⟩
/-- HLD_OOFFS (05 R131). -/
def HLD_OOFFS (i : Nat) : Nat := 0xb114 + 0x20 * i
def HLD_OOFFS_OFFSET (i : Nat) : BF := ⟨HLD_OOFFS i, 0, 32⟩
/-- HLD_OMIS (05 R131). -/
def HLD_OMIS (i : Nat) : Nat := 0xb118 + 0x20 * i
def HLD_OMIS_MIS_NS (i : Nat) : BF := ⟨HLD_OMIS i, 0, 32⟩
/-- HLD_OST (05 R131). -/
def HLD_OST (i : Nat) : Nat := 0xb11c + 0x20 * i
def HLD_OST_RUNNING (i : Nat) : BF := ⟨HLD_OST i, 0, 1⟩
def HLD_OST_SQUELCHED (i : Nat) : BF := ⟨HLD_OST i, 1, 1⟩
def HLD_OST_REALIGNING (i : Nat) : BF := ⟨HLD_OST i, 2, 1⟩
def HLD_OST_CFG_ERR (i : Nat) : BF := ⟨HLD_OST i, 3, 1⟩
def HLD_OST_MIS_PS (i : Nat) : BF := ⟨HLD_OST i, 16, 11⟩
/-- PIN_BANK (06 R155). -/
def PIN_BANK : Nat := 0xc000
def PIN_BANK_LEVEL : BF := ⟨PIN_BANK, 0, 2⟩
def PIN_BANK_SENSED : BF := ⟨PIN_BANK, 4, 2⟩
def PIN_BANK_MISMATCH : BF := ⟨PIN_BANK, 6, 1⟩
/-- PIN_STATUS (06 R155). -/
def PIN_STATUS : Nat := 0xc004
def PIN_STATUS_TB_PRESENT : BF := ⟨PIN_STATUS, 0, 1⟩
def PIN_STATUS_TB_EVENT : BF := ⟨PIN_STATUS, 1, 1⟩
def PIN_STATUS_CAL_BUSY : BF := ⟨PIN_STATUS, 2, 1⟩
def PIN_STATUS_CAL_CH : BF := ⟨PIN_STATUS, 8, 5⟩
def PIN_STATUS_UNCAL : BF := ⟨PIN_STATUS, 16, 16⟩
/-- PIN_CAL (06 R155). -/
def PIN_CAL : Nat := 0xc008
def PIN_CAL_START : BF := ⟨PIN_CAL, 0, 1⟩
def PIN_CAL_AUTO : BF := ⟨PIN_CAL, 1, 1⟩
def PIN_CAL_DT_K : BF := ⟨PIN_CAL, 8, 8⟩
def PIN_CAL_INT_MIN : BF := ⟨PIN_CAL, 16, 16⟩
/-- PIN_EFN (06 R156). -/
def PIN_EFN (i : Nat) : Nat := 0xc100 + 0x40 * i
def PIN_EFN_FN (i : Nat) : BF := ⟨PIN_EFN i, 0, 3⟩
def PIN_EFN_RDBK (i : Nat) : BF := ⟨PIN_EFN i, 3, 1⟩
def PIN_EFN_FUNC (i : Nat) : BF := ⟨PIN_EFN i, 4, 2⟩
def PIN_EFN_REC (i : Nat) : BF := ⟨PIN_EFN i, 6, 1⟩
def PIN_EFN_GATED (i : Nat) : BF := ⟨PIN_EFN i, 7, 1⟩
def PIN_EFN_DECIM (i : Nat) : BF := ⟨PIN_EFN i, 8, 8⟩
def PIN_EFN_PRE (i : Nat) : BF := ⟨PIN_EFN i, 16, 3⟩
/-- PIN_ECOND (06 R156). -/
def PIN_ECOND (i : Nat) : Nat := 0xc104 + 0x40 * i
def PIN_ECOND_POL (i : Nat) : BF := ⟨PIN_ECOND i, 0, 1⟩
def PIN_ECOND_EDGE (i : Nat) : BF := ⟨PIN_ECOND i, 1, 2⟩
def PIN_ECOND_HYS (i : Nat) : BF := ⟨PIN_ECOND i, 3, 1⟩
def PIN_ECOND_PULL (i : Nat) : BF := ⟨PIN_ECOND i, 4, 2⟩
def PIN_ECOND_DRIVE (i : Nat) : BF := ⟨PIN_ECOND i, 6, 2⟩
def PIN_ECOND_MINW (i : Nat) : BF := ⟨PIN_ECOND i, 8, 8⟩
/-- PIN_EHOLD (06 R156). -/
def PIN_EHOLD (i : Nat) : Nat := 0xc108 + 0x40 * i
def PIN_EHOLD_HOLDOFF (i : Nat) : BF := ⟨PIN_EHOLD i, 0, 30⟩
/-- PIN_ECHAT (06 R156). -/
def PIN_ECHAT (i : Nat) : Nat := 0xc10c + 0x40 * i
def PIN_ECHAT_CHAT_N (i : Nat) : BF := ⟨PIN_ECHAT i, 0, 8⟩
def PIN_ECHAT_CHAT_WIN (i : Nat) : BF := ⟨PIN_ECHAT i, 8, 12⟩
def PIN_ECHAT_CHAT_QUIET (i : Nat) : BF := ⟨PIN_ECHAT i, 20, 12⟩
/-- PIN_ESTUCK (06 R156). -/
def PIN_ESTUCK (i : Nat) : Nat := 0xc110 + 0x40 * i
def PIN_ESTUCK_STUCK_MS (i : Nat) : BF := ⟨PIN_ESTUCK i, 0, 16⟩
/-- PIN_EMEAS (06 R156). -/
def PIN_EMEAS (i : Nat) : Nat := 0xc114 + 0x40 * i
def PIN_EMEAS_MEAS (i : Nat) : BF := ⟨PIN_EMEAS i, 0, 2⟩
def PIN_EMEAS_STOP_CH (i : Nat) : BF := ⟨PIN_EMEAS i, 4, 4⟩
def PIN_EMEAS_TIE (i : Nat) : BF := ⟨PIN_EMEAS i, 8, 3⟩
def PIN_EMEAS_GATE_MS (i : Nat) : BF := ⟨PIN_EMEAS i, 16, 16⟩
/-- PIN_EPAIR (06 R156). -/
def PIN_EPAIR (i : Nat) : Nat := 0xc118 + 0x40 * i
def PIN_EPAIR_PAIR_MAX (i : Nat) : BF := ⟨PIN_EPAIR i, 0, 24⟩
/-- PIN_ECYC (06 R156). -/
def PIN_ECYC (i : Nat) : Nat := 0xc11c + 0x40 * i
def PIN_ECYC_NOM_MHZ (i : Nat) : BF := ⟨PIN_ECYC i, 0, 27⟩
def PIN_ECYC_TOL (i : Nat) : BF := ⟨PIN_ECYC i, 27, 5⟩
/-- PIN_EBOARD (06 R156). -/
def PIN_EBOARD (i : Nat) : Nat := 0xc120 + 0x40 * i
def PIN_EBOARD_BOARD_PS (i : Nat) : BF := ⟨PIN_EBOARD i, 0, 16⟩
/-- PIN_EST (06 R156). -/
def PIN_EST (i : Nat) : Nat := 0xc124 + 0x40 * i
def PIN_EST_STUCK (i : Nat) : BF := ⟨PIN_EST i, 0, 1⟩
def PIN_EST_CHATTER (i : Nat) : BF := ⟨PIN_EST i, 1, 1⟩
def PIN_EST_ARMED (i : Nat) : BF := ⟨PIN_EST i, 2, 1⟩
def PIN_EST_LEVEL (i : Nat) : BF := ⟨PIN_EST i, 3, 1⟩
def PIN_EST_SPARE (i : Nat) : BF := ⟨PIN_EST i, 4, 1⟩
def PIN_EST_UNCAL (i : Nat) : BF := ⟨PIN_EST i, 5, 1⟩
/-- PIN_EDLY (06 R156). -/
def PIN_EDLY (i : Nat) : Nat := 0xc128 + 0x40 * i
def PIN_EDLY_DLY (i : Nat) : BF := ⟨PIN_EDLY i, 0, 24⟩
/-- PIN_ECNT_ACC (06 R156). -/
def PIN_ECNT_ACC (i : Nat) : Nat := 0xc12c + 0x40 * i
def PIN_ECNT_ACC_COUNT (i : Nat) : BF := ⟨PIN_ECNT_ACC i, 0, 32⟩
/-- PIN_ECNT_HELD (06 R156). -/
def PIN_ECNT_HELD (i : Nat) : Nat := 0xc130 + 0x40 * i
def PIN_ECNT_HELD_COUNT (i : Nat) : BF := ⟨PIN_ECNT_HELD i, 0, 32⟩
/-- PIN_ECNT_SUP (06 R156). -/
def PIN_ECNT_SUP (i : Nat) : Nat := 0xc134 + 0x40 * i
def PIN_ECNT_SUP_COUNT (i : Nat) : BF := ⟨PIN_ECNT_SUP i, 0, 32⟩
/-- PIN_ECNT_LOST (06 R156). -/
def PIN_ECNT_LOST (i : Nat) : Nat := 0xc138 + 0x40 * i
def PIN_ECNT_LOST_COUNT (i : Nat) : BF := ⟨PIN_ECNT_LOST i, 0, 32⟩
/-- PIN_ECNT_ODD (06 R156). -/
def PIN_ECNT_ODD (i : Nat) : Nat := 0xc13c + 0x40 * i
def PIN_ECNT_ODD_NOSTART (i : Nat) : BF := ⟨PIN_ECNT_ODD i, 0, 8⟩
def PIN_ECNT_ODD_NOSTOP (i : Nat) : BF := ⟨PIN_ECNT_ODD i, 8, 8⟩
def PIN_ECNT_ODD_RESTART (i : Nat) : BF := ⟨PIN_ECNT_ODD i, 16, 8⟩
def PIN_ECNT_ODD_CYC_REJ (i : Nat) : BF := ⟨PIN_ECNT_ODD i, 24, 8⟩
/-- PRT_CTRL (07 R191). -/
def PRT_CTRL (i : Nat) : Nat := 0x10000 + 0x800 * i
def PRT_CTRL_SPEED (i : Nat) : BF := ⟨PRT_CTRL i, 0, 2⟩
def PRT_CTRL_GANG (i : Nat) : BF := ⟨PRT_CTRL i, 2, 1⟩
def PRT_CTRL_AN (i : Nat) : BF := ⟨PRT_CTRL i, 3, 1⟩
def PRT_CTRL_FEC (i : Nat) : BF := ⟨PRT_CTRL i, 4, 2⟩
def PRT_CTRL_ENABLE (i : Nat) : BF := ⟨PRT_CTRL i, 6, 1⟩
def PRT_CTRL_LOOP (i : Nat) : BF := ⟨PRT_CTRL i, 8, 2⟩
/-- PRT_STATUS (07 R191). -/
def PRT_STATUS (i : Nat) : Nat := 0x10004 + 0x800 * i
def PRT_STATUS_LINK (i : Nat) : BF := ⟨PRT_STATUS i, 0, 1⟩
def PRT_STATUS_LOCK (i : Nat) : BF := ⟨PRT_STATUS i, 1, 1⟩
def PRT_STATUS_FEC_LOCK (i : Nat) : BF := ⟨PRT_STATUS i, 2, 1⟩
def PRT_STATUS_ALIGNED (i : Nat) : BF := ⟨PRT_STATUS i, 3, 1⟩
def PRT_STATUS_LOCAL_FAULT (i : Nat) : BF := ⟨PRT_STATUS i, 4, 1⟩
def PRT_STATUS_REMOTE_FAULT (i : Nat) : BF := ⟨PRT_STATUS i, 5, 1⟩
def PRT_STATUS_GANG_MEMBER (i : Nat) : BF := ⟨PRT_STATUS i, 6, 1⟩
def PRT_STATUS_CFG_ERR (i : Nat) : BF := ⟨PRT_STATUS i, 7, 1⟩
def PRT_STATUS_PAUSED (i : Nat) : BF := ⟨PRT_STATUS i, 8, 1⟩
def PRT_STATUS_STORM (i : Nat) : BF := ⟨PRT_STATUS i, 9, 1⟩
def PRT_STATUS_LPI_TX (i : Nat) : BF := ⟨PRT_STATUS i, 10, 1⟩
def PRT_STATUS_LPI_RX (i : Nat) : BF := ⟨PRT_STATUS i, 11, 1⟩
def PRT_STATUS_LPI_SUSP (i : Nat) : BF := ⟨PRT_STATUS i, 12, 1⟩
def PRT_STATUS_LINK_EVENT (i : Nat) : BF := ⟨PRT_STATUS i, 13, 1⟩
def PRT_STATUS_PFC_PAUSED (i : Nat) : BF := ⟨PRT_STATUS i, 16, 8⟩
def PRT_STATUS_MISS_LAST (i : Nat) : BF := ⟨PRT_STATUS i, 24, 3⟩
/-- PRT_FEATURE (07 R191). -/
def PRT_FEATURE (i : Nat) : Nat := 0x10008 + 0x800 * i
def PRT_FEATURE_EN (i : Nat) : BF := ⟨PRT_FEATURE i, 0, 13⟩
/-- PRT_MAC0 (07 R191). -/
def PRT_MAC0 (i : Nat) : Nat := 0x1000c + 0x800 * i
def PRT_MAC0_MAC_LO (i : Nat) : BF := ⟨PRT_MAC0 i, 0, 32⟩
/-- PRT_MAC1 (07 R191). -/
def PRT_MAC1 (i : Nat) : Nat := 0x10010 + 0x800 * i
def PRT_MAC1_MAC_HI (i : Nat) : BF := ⟨PRT_MAC1 i, 0, 16⟩
/-- PRT_MAXFRAME (07 R191). -/
def PRT_MAXFRAME (i : Nat) : Nat := 0x10014 + 0x800 * i
def PRT_MAXFRAME_MAXFRAME (i : Nat) : BF := ⟨PRT_MAXFRAME i, 0, 14⟩
/-- PRT_TXCTL (07 R191). -/
def PRT_TXCTL (i : Nat) : Nat := 0x10018 + 0x800 * i
def PRT_TXCTL_PAD (i : Nat) : BF := ⟨PRT_TXCTL i, 0, 1⟩
def PRT_TXCTL_SERVE_TC (i : Nat) : BF := ⟨PRT_TXCTL i, 1, 3⟩
def PRT_TXCTL_PTP_TC (i : Nat) : BF := ⟨PRT_TXCTL i, 4, 3⟩
/-- PRT_RXCHK (07 R191). -/
def PRT_RXCHK (i : Nat) : Nat := 0x1001c + 0x800 * i
def PRT_RXCHK_BAD_EXC (i : Nat) : BF := ⟨PRT_RXCHK i, 0, 1⟩
/-- PRT_VLAN (07 R191). -/
def PRT_VLAN (i : Nat) : Nat := 0x10020 + 0x800 * i
def PRT_VLAN_TPID_ALT (i : Nat) : BF := ⟨PRT_VLAN i, 0, 16⟩
/-- PRT_TSCOMP (07 R191). -/
def PRT_TSCOMP (i : Nat) : Nat := 0x10024 + 0x800 * i
def PRT_TSCOMP_TX_BOARD (i : Nat) : BF := ⟨PRT_TSCOMP i, 0, 16⟩
def PRT_TSCOMP_RX_BOARD (i : Nat) : BF := ⟨PRT_TSCOMP i, 16, 16⟩
/-- PRT_TSDLY (07 R191). -/
def PRT_TSDLY (i : Nat) : Nat := 0x10028 + 0x800 * i
def PRT_TSDLY_TX_INT (i : Nat) : BF := ⟨PRT_TSDLY i, 0, 16⟩
def PRT_TSDLY_RX_INT (i : Nat) : BF := ⟨PRT_TSDLY i, 16, 16⟩
/-- PRT_PAUSE (07 R191). -/
def PRT_PAUSE (i : Nat) : Nat := 0x10030 + 0x800 * i
def PRT_PAUSE_RX_EN (i : Nat) : BF := ⟨PRT_PAUSE i, 0, 1⟩
def PRT_PAUSE_PFC_EN (i : Nat) : BF := ⟨PRT_PAUSE i, 1, 1⟩
def PRT_PAUSE_ADV_PAUSE (i : Nat) : BF := ⟨PRT_PAUSE i, 2, 1⟩
def PRT_PAUSE_ADV_ASM (i : Nat) : BF := ⟨PRT_PAUSE i, 3, 1⟩
def PRT_PAUSE_LIMIT_US (i : Nat) : BF := ⟨PRT_PAUSE i, 4, 14⟩
def PRT_PAUSE_IGNORE_MS (i : Nat) : BF := ⟨PRT_PAUSE i, 18, 8⟩
/-- PRT_LPI (07 R191). -/
def PRT_LPI (i : Nat) : Nat := 0x10034 + 0x800 * i
def PRT_LPI_TW_TX (i : Nat) : BF := ⟨PRT_LPI i, 0, 16⟩
def PRT_LPI_IDLE_US (i : Nat) : BF := ⟨PRT_LPI i, 16, 8⟩
/-- PRT_SYNCE (07 R191). -/
def PRT_SYNCE (i : Nat) : Nat := 0x10038 + 0x800 * i
def PRT_SYNCE_QL_LOCK (i : Nat) : BF := ⟨PRT_SYNCE i, 0, 4⟩
def PRT_SYNCE_QL_HOLD (i : Nat) : BF := ⟨PRT_SYNCE i, 4, 4⟩
def PRT_SYNCE_QL_UNSYNC (i : Nat) : BF := ⟨PRT_SYNCE i, 8, 4⟩
def PRT_SYNCE_OPT (i : Nat) : BF := ⟨PRT_SYNCE i, 12, 1⟩
def PRT_SYNCE_QL_RX (i : Nat) : BF := ⟨PRT_SYNCE i, 16, 4⟩
def PRT_SYNCE_QL_TIMEOUT (i : Nat) : BF := ⟨PRT_SYNCE i, 20, 1⟩
def PRT_SYNCE_QL_EVENT (i : Nat) : BF := ⟨PRT_SYNCE i, 21, 1⟩
/-- PRT_ND (07 R191). -/
def PRT_ND (i : Nat) : Nat := 0x1003c + 0x800 * i
def PRT_ND_ARP_EN (i : Nat) : BF := ⟨PRT_ND i, 0, 1⟩
def PRT_ND_NS_EN (i : Nat) : BF := ⟨PRT_ND i, 1, 1⟩
def PRT_ND_RATE (i : Nat) : BF := ⟨PRT_ND i, 8, 8⟩
/-- PRT_GCL_CTRL (07 R191). -/
def PRT_GCL_CTRL (i : Nat) : Nat := 0x10040 + 0x800 * i
def PRT_GCL_CTRL_COMMIT (i : Nat) : BF := ⟨PRT_GCL_CTRL i, 0, 1⟩
def PRT_GCL_CTRL_ABORT (i : Nat) : BF := ⟨PRT_GCL_CTRL i, 1, 1⟩
/-- PRT_GCL_STATUS (07 R191). -/
def PRT_GCL_STATUS (i : Nat) : Nat := 0x10044 + 0x800 * i
def PRT_GCL_STATUS_OPER_ENTRIES (i : Nat) : BF := ⟨PRT_GCL_STATUS i, 0, 9⟩
def PRT_GCL_STATUS_ACTIVE (i : Nat) : BF := ⟨PRT_GCL_STATUS i, 9, 1⟩
def PRT_GCL_STATUS_PENDING (i : Nat) : BF := ⟨PRT_GCL_STATUS i, 10, 1⟩
def PRT_GCL_STATUS_REJECTED (i : Nat) : BF := ⟨PRT_GCL_STATUS i, 11, 1⟩
/-- PRT_GCL_ADDR (07 R191). -/
def PRT_GCL_ADDR (i : Nat) : Nat := 0x10048 + 0x800 * i
def PRT_GCL_ADDR_ADDR (i : Nat) : BF := ⟨PRT_GCL_ADDR i, 0, 10⟩
/-- PRT_GCL_DATA (07 R191). -/
def PRT_GCL_DATA (i : Nat) : Nat := 0x1004c + 0x800 * i
def PRT_GCL_DATA_DATA (i : Nat) : BF := ⟨PRT_GCL_DATA i, 0, 32⟩
/-- CLK_CTRL (08 R226). -/
def CLK_CTRL : Nat := 0x20000
def CLK_CTRL_TTL : BF := ⟨CLK_CTRL, 0, 8⟩
def CLK_CTRL_DSCP : BF := ⟨CLK_CTRL, 8, 6⟩
def CLK_CTRL_V6_PREFIX : BF := ⟨CLK_CTRL, 16, 7⟩
def CLK_CTRL_V3_ANSWER : BF := ⟨CLK_CTRL, 23, 1⟩
/-- CLK_CT (08 R226). -/
def CLK_CT : Nat := 0x20004
def CLK_CT_AGE_MIN : BF := ⟨CLK_CT, 0, 16⟩
def CLK_CT_SCAN_S : BF := ⟨CLK_CT, 16, 16⟩
/-- CLK_EXC (08 R226). -/
def CLK_EXC : Nat := 0x20008
def CLK_EXC_RING : BF := ⟨CLK_EXC, 0, 6⟩
def CLK_EXC_RATE : BF := ⟨CLK_EXC, 8, 16⟩
/-- CLK_EXC_MASK (08 R226). -/
def CLK_EXC_MASK : Nat := 0x2000c
def CLK_EXC_MASK_PASS : BF := ⟨CLK_EXC_MASK, 0, 16⟩
/-- CLK_SHED (08 R226). -/
def CLK_SHED : Nat := 0x20010
def CLK_SHED_LIMIT_PCT : BF := ⟨CLK_SHED, 0, 7⟩
def CLK_SHED_AGE_NS : BF := ⟨CLK_SHED, 16, 16⟩
/-- CLK_SHED_Q (08 R226). -/
def CLK_SHED_Q : Nat := 0x20014
def CLK_SHED_Q_VALUE : BF := ⟨CLK_SHED_Q, 0, 24⟩
/-- CLK_FAIR (08 R226). -/
def CLK_FAIR : Nat := 0x20018
def CLK_FAIR_VALUE : BF := ⟨CLK_FAIR, 0, 24⟩
/-- CLK_STATUS (08 R226). -/
def CLK_STATUS : Nat := 0x2001c
def CLK_STATUS_SHEDDING : BF := ⟨CLK_STATUS, 0, 1⟩
def CLK_STATUS_EXC_SPILL : BF := ⟨CLK_STATUS, 1, 1⟩
def CLK_STATUS_SCAN_BUSY : BF := ⟨CLK_STATUS, 2, 1⟩
def CLK_STATUS_FLUSH_BUSY : BF := ⟨CLK_STATUS, 3, 1⟩
def CLK_STATUS_ACL_GEN : BF := ⟨CLK_STATUS, 8, 8⟩
/-- CLK_PROF_A (08 R228). -/
def CLK_PROF_A (i : Nat) : Nat := 0x20200 + 0x8 * i
def CLK_PROF_A_RATE (i : Nat) : BF := ⟨CLK_PROF_A i, 0, 20⟩
def CLK_PROF_A_BURST (i : Nat) : BF := ⟨CLK_PROF_A i, 20, 8⟩
/-- CLK_PROF_B (08 R228). -/
def CLK_PROF_B (i : Nat) : Nat := 0x20204 + 0x8 * i
def CLK_PROF_B_LIMIT_ACT (i : Nat) : BF := ⟨CLK_PROF_B i, 0, 2⟩
def CLK_PROF_B_DENY_ACT (i : Nat) : BF := ⟨CLK_PROF_B i, 2, 1⟩
def CLK_PROF_B_EXEMPT (i : Nat) : BF := ⟨CLK_PROF_B i, 3, 1⟩
def CLK_PROF_B_KOD_INT (i : Nat) : BF := ⟨CLK_PROF_B i, 8, 8⟩
def CLK_PROF_B_KOD_POLL (i : Nat) : BF := ⟨CLK_PROF_B i, 16, 8⟩
/-- CLK_ACL_PREFIX0 (08 R228). -/
def CLK_ACL_PREFIX0 (i : Nat) : Nat := 0x20400 + 0x10 * i
def CLK_ACL_PREFIX0_PREFIX (i : Nat) : BF := ⟨CLK_ACL_PREFIX0 i, 0, 32⟩
/-- CLK_ACL_PREFIX1 (08 R228). -/
def CLK_ACL_PREFIX1 (i : Nat) : Nat := 0x20404 + 0x10 * i
def CLK_ACL_PREFIX1_PREFIX (i : Nat) : BF := ⟨CLK_ACL_PREFIX1 i, 0, 32⟩
/-- CLK_ACL_CFG (08 R228). -/
def CLK_ACL_CFG (i : Nat) : Nat := 0x20408 + 0x10 * i
def CLK_ACL_CFG_LEN (i : Nat) : BF := ⟨CLK_ACL_CFG i, 0, 7⟩
def CLK_ACL_CFG_V6 (i : Nat) : BF := ⟨CLK_ACL_CFG i, 7, 1⟩
def CLK_ACL_CFG_VALID (i : Nat) : BF := ⟨CLK_ACL_CFG i, 8, 1⟩
def CLK_ACL_CFG_DENY (i : Nat) : BF := ⟨CLK_ACL_CFG i, 9, 1⟩
def CLK_ACL_CFG_PROFILE (i : Nat) : BF := ⟨CLK_ACL_CFG i, 12, 4⟩
/-- CLK_ACL_HITS (08 R228). -/
def CLK_ACL_HITS (i : Nat) : Nat := 0x2040c + 0x10 * i
def CLK_ACL_HITS_HITS (i : Nat) : BF := ⟨CLK_ACL_HITS i, 0, 32⟩
/-- CLK_SVC_ADDR0 (08 R228). -/
def CLK_SVC_ADDR0 (i : Nat) : Nat := 0x20800 + 0x20 * i
def CLK_SVC_ADDR0_ADDR (i : Nat) : BF := ⟨CLK_SVC_ADDR0 i, 0, 32⟩
/-- CLK_SVC_ADDR1 (08 R228). -/
def CLK_SVC_ADDR1 (i : Nat) : Nat := 0x20804 + 0x20 * i
def CLK_SVC_ADDR1_ADDR (i : Nat) : BF := ⟨CLK_SVC_ADDR1 i, 0, 32⟩
/-- CLK_SVC_ADDR2 (08 R228). -/
def CLK_SVC_ADDR2 (i : Nat) : Nat := 0x20808 + 0x20 * i
def CLK_SVC_ADDR2_ADDR (i : Nat) : BF := ⟨CLK_SVC_ADDR2 i, 0, 32⟩
/-- CLK_SVC_ADDR3 (08 R228). -/
def CLK_SVC_ADDR3 (i : Nat) : Nat := 0x2080c + 0x20 * i
def CLK_SVC_ADDR3_ADDR (i : Nat) : BF := ⟨CLK_SVC_ADDR3 i, 0, 32⟩
/-- CLK_SVC_PORTS (08 R228). -/
def CLK_SVC_PORTS (i : Nat) : Nat := 0x20810 + 0x20 * i
def CLK_SVC_PORTS_PORTS (i : Nat) : BF := ⟨CLK_SVC_PORTS i, 0, 32⟩
/-- CLK_SVC_CFG (08 R228). -/
def CLK_SVC_CFG (i : Nat) : Nat := 0x20814 + 0x20 * i
def CLK_SVC_CFG_VID (i : Nat) : BF := ⟨CLK_SVC_CFG i, 0, 12⟩
def CLK_SVC_CFG_VID_ANY (i : Nat) : BF := ⟨CLK_SVC_CFG i, 12, 1⟩
def CLK_SVC_CFG_V6 (i : Nat) : BF := ⟨CLK_SVC_CFG i, 13, 1⟩
def CLK_SVC_CFG_VALID (i : Nat) : BF := ⟨CLK_SVC_CFG i, 14, 1⟩
def CLK_SVC_CFG_NTP (i : Nat) : BF := ⟨CLK_SVC_CFG i, 15, 1⟩
def CLK_SVC_CFG_NTS (i : Nat) : BF := ⟨CLK_SVC_CFG i, 16, 1⟩
/-- ENG_CTRL (08 R229). -/
def ENG_CTRL : Nat := 0x24000
def ENG_CTRL_LIMIT : BF := ⟨ENG_CTRL, 0, 12⟩
/-- ENG_PSET (08 R229). -/
def ENG_PSET : Nat := 0x24004
def ENG_PSET_SET_ID : BF := ⟨ENG_PSET, 0, 16⟩
def ENG_PSET_MINOR : BF := ⟨ENG_PSET, 16, 8⟩
def ENG_PSET_MAJOR : BF := ⟨ENG_PSET, 24, 8⟩
/-- ENG_PSTAT (08 R229). -/
def ENG_PSTAT : Nat := 0x24008
def ENG_PSTAT_SVN : BF := ⟨ENG_PSTAT, 0, 16⟩
def ENG_PSTAT_SOURCE : BF := ⟨ENG_PSTAT, 16, 2⟩
def ENG_PSTAT_LOADING : BF := ⟨ENG_PSTAT, 18, 1⟩
def ENG_PSTAT_LOAD_FAIL : BF := ⟨ENG_PSTAT, 19, 1⟩
def ENG_PSTAT_FAIL_CODE : BF := ⟨ENG_PSTAT, 20, 4⟩
def ENG_PSTAT_TEST : BF := ⟨ENG_PSTAT, 24, 1⟩
/-- ENG_SVN_MIN (08 R229). -/
def ENG_SVN_MIN : Nat := 0x2400c
def ENG_SVN_MIN_SVN_MIN : BF := ⟨ENG_SVN_MIN, 0, 16⟩
/-- ENG_ISO0 (08 R229). -/
def ENG_ISO0 : Nat := 0x24010
def ENG_ISO0_ISO : BF := ⟨ENG_ISO0, 0, 32⟩
/-- ENG_ISO1 (08 R229). -/
def ENG_ISO1 : Nat := 0x24014
def ENG_ISO1_ISO : BF := ⟨ENG_ISO1, 0, 32⟩
/-- ENG_BENCH (08 R229). -/
def ENG_BENCH (i : Nat) : Nat := 0x24020 + 0x4 * i
def ENG_BENCH_FREE_LANES (i : Nat) : BF := ⟨ENG_BENCH i, 0, 7⟩
def ENG_BENCH_DRAINING (i : Nat) : BF := ⟨ENG_BENCH i, 8, 1⟩
def ENG_BENCH_ISOLATED (i : Nat) : BF := ⟨ENG_BENCH i, 9, 1⟩
/-- NTS_CTRL (09 R260). -/
def NTS_CTRL : Nat := 0x26000
def NTS_CTRL_NAK_ACT : BF := ⟨NTS_CTRL, 0, 1⟩
def NTS_CTRL_NOSAL_ADV_NS : BF := ⟨NTS_CTRL, 16, 16⟩
/-- NTS_POOL (09 R260). -/
def NTS_POOL : Nat := 0x26004
def NTS_POOL_INDEX : BF := ⟨NTS_POOL, 0, 12⟩
/-- NTS_SAL (09 R260). -/
def NTS_SAL : Nat := 0x26008
def NTS_SAL_LEAD_NS : BF := ⟨NTS_SAL, 0, 17⟩
/-- NTS_SAL_SPAN (09 R260). -/
def NTS_SAL_SPAN : Nat := 0x2600c
def NTS_SAL_SPAN_SPAN_NS : BF := ⟨NTS_SAL_SPAN, 0, 16⟩
def NTS_SAL_SPAN_MAX_HOLD_US : BF := ⟨NTS_SAL_SPAN, 16, 16⟩
/-- NTS_SAL_MISS (09 R260). -/
def NTS_SAL_MISS : Nat := 0x26010
def NTS_SAL_MISS_RS_PAUSE : BF := ⟨NTS_SAL_MISS, 0, 1⟩
def NTS_SAL_MISS_RS_GATE : BF := ⟨NTS_SAL_MISS, 1, 1⟩
def NTS_SAL_MISS_RS_OVERLOAD : BF := ⟨NTS_SAL_MISS, 2, 1⟩
def NTS_SAL_MISS_RS_STEP : BF := ⟨NTS_SAL_MISS, 3, 1⟩
def NTS_SAL_MISS_RESEAL_MAX : BF := ⟨NTS_SAL_MISS, 8, 4⟩
/-- NTS_STATUS (09 R260). -/
def NTS_STATUS : Nat := 0x26014
def NTS_STATUS_NO_SEAL : BF := ⟨NTS_STATUS, 0, 1⟩
def NTS_STATUS_KEY_EVENT : BF := ⟨NTS_STATUS, 1, 1⟩
def NTS_STATUS_CTX_FULL : BF := ⟨NTS_STATUS, 2, 1⟩
def NTS_STATUS_CURRENT : BF := ⟨NTS_STATUS, 4, 3⟩
def NTS_STATUS_WORKING : BF := ⟨NTS_STATUS, 8, 8⟩
/-- NTS_EPOCH (09 R260). -/
def NTS_EPOCH (i : Nat) : Nat := 0x26020 + 0x4 * i
def NTS_EPOCH_ID (i : Nat) : BF := ⟨NTS_EPOCH i, 0, 16⟩
def NTS_EPOCH_STATE (i : Nat) : BF := ⟨NTS_EPOCH i, 16, 3⟩
/-- NTS_STCH (09 R260). -/
def NTS_STCH (i : Nat) : Nat := 0x26040 + 0x4 * i
def NTS_STCH_CTX_USED (i : Nat) : BF := ⟨NTS_STCH i, 0, 8⟩
def NTS_STCH_ISOLATED (i : Nat) : BF := ⟨NTS_STCH i, 8, 1⟩
def NTS_STCH_KEYS_LOADED (i : Nat) : BF := ⟨NTS_STCH i, 9, 1⟩
/-- PTP_CTRL (10 R282). -/
def PTP_CTRL : Nat := 0x28000
def PTP_CTRL_TS_EY : BF := ⟨PTP_CTRL, 0, 8⟩
/-- PTP_CLKID0 (10 R282). -/
def PTP_CLKID0 : Nat := 0x28004
def PTP_CLKID0_ID_LO : BF := ⟨PTP_CLKID0, 0, 32⟩
/-- PTP_CLKID1 (10 R282). -/
def PTP_CLKID1 : Nat := 0x28008
def PTP_CLKID1_ID_HI : BF := ⟨PTP_CLKID1, 0, 32⟩
/-- PTP_UNI (10 R282). -/
def PTP_UNI : Nat := 0x2800c
def PTP_UNI_DUR_MIN : BF := ⟨PTP_UNI, 0, 10⟩
def PTP_UNI_DUR_MAX : BF := ⟨PTP_UNI, 16, 10⟩
/-- PTP_FWD_CTRL (10 R282). -/
def PTP_FWD_CTRL : Nat := 0x28010
def PTP_FWD_CTRL_MAX_RES_US : BF := ⟨PTP_FWD_CTRL, 0, 16⟩
def PTP_FWD_CTRL_RATE_K : BF := ⟨PTP_FWD_CTRL, 16, 16⟩
/-- PTP_STATUS (10 R282). -/
def PTP_STATUS : Nat := 0x28014
def PTP_STATUS_SESS_USED : BF := ⟨PTP_STATUS, 0, 17⟩
def PTP_STATUS_INST_ERR : BF := ⟨PTP_STATUS, 20, 4⟩
def PTP_STATUS_TABLE_FULL : BF := ⟨PTP_STATUS, 24, 1⟩
/-- PTP_FWD (10 R282). -/
def PTP_FWD (i : Nat) : Nat := 0x28020 + 0x4 * i
def PTP_FWD_PORTS (i : Nat) : BF := ⟨PTP_FWD i, 0, 32⟩
/-- PTP_INST_CFG (10 R283). -/
def PTP_INST_CFG (i : Nat) : Nat := 0x28100 + 0x20 * i
def PTP_INST_CFG_VALID (i : Nat) : BF := ⟨PTP_INST_CFG i, 0, 1⟩
def PTP_INST_CFG_PROFILE (i : Nat) : BF := ⟨PTP_INST_CFG i, 1, 3⟩
def PTP_INST_CFG_DOMAIN (i : Nat) : BF := ⟨PTP_INST_CFG i, 4, 8⟩
def PTP_INST_CFG_TRANSPORT (i : Nat) : BF := ⟨PTP_INST_CFG i, 12, 2⟩
def PTP_INST_CFG_DELAY (i : Nat) : BF := ⟨PTP_INST_CFG i, 14, 1⟩
def PTP_INST_CFG_TWO_STEP (i : Nat) : BF := ⟨PTP_INST_CFG i, 15, 1⟩
def PTP_INST_CFG_UNICAST (i : Nat) : BF := ⟨PTP_INST_CFG i, 16, 1⟩
def PTP_INST_CFG_BMCA_EN (i : Nat) : BF := ⟨PTP_INST_CFG i, 17, 1⟩
def PTP_INST_CFG_L2_ADDR (i : Nat) : BF := ⟨PTP_INST_CFG i, 18, 1⟩
def PTP_INST_CFG_V6_SCOPE (i : Nat) : BF := ⟨PTP_INST_CFG i, 20, 4⟩
def PTP_INST_CFG_SVC_IDX (i : Nat) : BF := ⟨PTP_INST_CFG i, 24, 6⟩
/-- PTP_INST_PORTS (10 R283). -/
def PTP_INST_PORTS (i : Nat) : Nat := 0x28104 + 0x20 * i
def PTP_INST_PORTS_PORTS (i : Nat) : BF := ⟨PTP_INST_PORTS i, 0, 32⟩
/-- PTP_INST_RATE (10 R283). -/
def PTP_INST_RATE (i : Nat) : Nat := 0x28108 + 0x20 * i
def PTP_INST_RATE_LOG_SYNC (i : Nat) : BF := ⟨PTP_INST_RATE i, 0, 4⟩
def PTP_INST_RATE_LOG_ANN (i : Nat) : BF := ⟨PTP_INST_RATE i, 4, 4⟩
def PTP_INST_RATE_LOG_DREQ (i : Nat) : BF := ⟨PTP_INST_RATE i, 8, 4⟩
def PTP_INST_RATE_LOG_PDREQ (i : Nat) : BF := ⟨PTP_INST_RATE i, 12, 4⟩
def PTP_INST_RATE_ANN_TIMEOUT (i : Nat) : BF := ⟨PTP_INST_RATE i, 16, 4⟩
/-- PTP_INST_DS (10 R283). -/
def PTP_INST_DS (i : Nat) : Nat := 0x2810c + 0x20 * i
def PTP_INST_DS_PRIO1 (i : Nat) : BF := ⟨PTP_INST_DS i, 0, 8⟩
def PTP_INST_DS_PRIO2 (i : Nat) : BF := ⟨PTP_INST_DS i, 8, 8⟩
def PTP_INST_DS_GMID (i : Nat) : BF := ⟨PTP_INST_DS i, 16, 16⟩
/-- PTP_INST_QUAL (10 R283). -/
def PTP_INST_QUAL (i : Nat) : Nat := 0x28110 + 0x20 * i
def PTP_INST_QUAL_OSLV (i : Nat) : BF := ⟨PTP_INST_QUAL i, 0, 16⟩
/-- PTP_INST_LIMIT (10 R283). -/
def PTP_INST_LIMIT (i : Nat) : Nat := 0x28114 + 0x20 * i
def PTP_INST_LIMIT_MAX_SESS (i : Nat) : BF := ⟨PTP_INST_LIMIT i, 0, 17⟩
/-- PTP_INST_PASSIVE (10 R283). -/
def PTP_INST_PASSIVE (i : Nat) : Nat := 0x28118 + 0x20 * i
def PTP_INST_PASSIVE_PORTS (i : Nat) : BF := ⟨PTP_INST_PASSIVE i, 0, 32⟩
/-- PTP_MASTER_ADDR0 (10 R284). -/
def PTP_MASTER_ADDR0 (i : Nat) : Nat := 0x28200 + 0x20 * i
def PTP_MASTER_ADDR0_ADDR (i : Nat) : BF := ⟨PTP_MASTER_ADDR0 i, 0, 32⟩
/-- PTP_MASTER_ADDR1 (10 R284). -/
def PTP_MASTER_ADDR1 (i : Nat) : Nat := 0x28204 + 0x20 * i
def PTP_MASTER_ADDR1_ADDR (i : Nat) : BF := ⟨PTP_MASTER_ADDR1 i, 0, 32⟩
/-- PTP_MASTER_ADDR2 (10 R284). -/
def PTP_MASTER_ADDR2 (i : Nat) : Nat := 0x28208 + 0x20 * i
def PTP_MASTER_ADDR2_ADDR (i : Nat) : BF := ⟨PTP_MASTER_ADDR2 i, 0, 32⟩
/-- PTP_MASTER_ADDR3 (10 R284). -/
def PTP_MASTER_ADDR3 (i : Nat) : Nat := 0x2820c + 0x20 * i
def PTP_MASTER_ADDR3_ADDR (i : Nat) : BF := ⟨PTP_MASTER_ADDR3 i, 0, 32⟩
/-- PTP_MASTER_CFG (10 R284). -/
def PTP_MASTER_CFG (i : Nat) : Nat := 0x28210 + 0x20 * i
def PTP_MASTER_CFG_PORT (i : Nat) : BF := ⟨PTP_MASTER_CFG i, 0, 5⟩
def PTP_MASTER_CFG_V6 (i : Nat) : BF := ⟨PTP_MASTER_CFG i, 5, 1⟩
def PTP_MASTER_CFG_VALID (i : Nat) : BF := ⟨PTP_MASTER_CFG i, 6, 1⟩
def PTP_MASTER_CFG_LOCAL_PRIO (i : Nat) : BF := ⟨PTP_MASTER_CFG i, 8, 8⟩
/-- PTP_RC_CFG (10 R285). -/
def PTP_RC_CFG (i : Nat) : Nat := 0x28800 + 0x20 * i
def PTP_RC_CFG_DOMAIN (i : Nat) : BF := ⟨PTP_RC_CFG i, 0, 8⟩
def PTP_RC_CFG_PROFILE (i : Nat) : BF := ⟨PTP_RC_CFG i, 8, 3⟩
def PTP_RC_CFG_TRANSPORT (i : Nat) : BF := ⟨PTP_RC_CFG i, 12, 2⟩
def PTP_RC_CFG_DELAY (i : Nat) : BF := ⟨PTP_RC_CFG i, 14, 1⟩
def PTP_RC_CFG_UNICAST (i : Nat) : BF := ⟨PTP_RC_CFG i, 15, 1⟩
def PTP_RC_CFG_LOG_SYNC (i : Nat) : BF := ⟨PTP_RC_CFG i, 16, 4⟩
def PTP_RC_CFG_LOG_DREQ (i : Nat) : BF := ⟨PTP_RC_CFG i, 20, 4⟩
def PTP_RC_CFG_DUR_10S (i : Nat) : BF := ⟨PTP_RC_CFG i, 24, 8⟩
/-- PTP_RC_FILT (10 R285). -/
def PTP_RC_FILT (i : Nat) : Nat := 0x28804 + 0x20 * i
def PTP_RC_FILT_DWIN (i : Nat) : BF := ⟨PTP_RC_FILT i, 0, 8⟩
def PTP_RC_FILT_STEP_N (i : Nat) : BF := ⟨PTP_RC_FILT i, 8, 4⟩
def PTP_RC_FILT_CLASS_MAX (i : Nat) : BF := ⟨PTP_RC_FILT i, 12, 8⟩
def PTP_RC_FILT_STEP_NS (i : Nat) : BF := ⟨PTP_RC_FILT i, 20, 12⟩
/-- PTP_RC_ASYM_CFG (10 R285). -/
def PTP_RC_ASYM_CFG (i : Nat) : Nat := 0x28808 + 0x20 * i
def PTP_RC_ASYM_CFG_ASYM_S (i : Nat) : BF := ⟨PTP_RC_ASYM_CFG i, 0, 8⟩
def PTP_RC_ASYM_CFG_ASYM_EN (i : Nat) : BF := ⟨PTP_RC_ASYM_CFG i, 8, 1⟩
def PTP_RC_ASYM_CFG_ASYM_MAX (i : Nat) : BF := ⟨PTP_RC_ASYM_CFG i, 16, 16⟩
/-- PTP_RC_ASYM (10 R285). -/
def PTP_RC_ASYM (i : Nat) : Nat := 0x2880c + 0x20 * i
def PTP_RC_ASYM_VALUE (i : Nat) : BF := ⟨PTP_RC_ASYM i, 0, 32⟩
/-- PTP_RC_MPD (10 R285). -/
def PTP_RC_MPD (i : Nat) : Nat := 0x28810 + 0x20 * i
def PTP_RC_MPD_VALUE (i : Nat) : BF := ⟨PTP_RC_MPD i, 0, 32⟩
/-- PTP_RC_DSTEP (10 R285). -/
def PTP_RC_DSTEP (i : Nat) : Nat := 0x28814 + 0x20 * i
def PTP_RC_DSTEP_VALUE (i : Nat) : BF := ⟨PTP_RC_DSTEP i, 0, 32⟩
/-- PTP_RC_ST (10 R285). -/
def PTP_RC_ST (i : Nat) : Nat := 0x28818 + 0x20 * i
def PTP_RC_ST_STATE (i : Nat) : BF := ⟨PTP_RC_ST i, 0, 2⟩
def PTP_RC_ST_MASTER (i : Nat) : BF := ⟨PTP_RC_ST i, 8, 6⟩
def PTP_RC_ST_FREEZE (i : Nat) : BF := ⟨PTP_RC_ST i, 14, 2⟩
def PTP_RC_ST_ASYM_EVENT (i : Nat) : BF := ⟨PTP_RC_ST i, 16, 1⟩
def PTP_RC_ST_NO_ANCHOR (i : Nat) : BF := ⟨PTP_RC_ST i, 17, 1⟩
/-- TWN_CFG (12 R343). -/
def TWN_CFG : Nat := 0x2a000
def TWN_CFG_AUTO : BF := ⟨TWN_CFG, 0, 1⟩
def TWN_CFG_SIDE : BF := ⟨TWN_CFG, 1, 1⟩
def TWN_CFG_ALLOW_RESET : BF := ⟨TWN_CFG, 2, 1⟩
def TWN_CFG_GARP : BF := ⟨TWN_CFG, 3, 1⟩
def TWN_CFG_ARB_TEST : BF := ⟨TWN_CFG, 4, 1⟩
def TWN_CFG_PRIO : BF := ⟨TWN_CFG, 8, 8⟩
def TWN_CFG_FOL_BW : BF := ⟨TWN_CFG, 16, 4⟩
/-- TWN_TMO (12 R343). -/
def TWN_TMO : Nat := 0x2a004
def TWN_TMO_LOSS_US : BF := ⟨TWN_TMO, 0, 16⟩
def TWN_TMO_CREDIT_US : BF := ⟨TWN_TMO, 16, 16⟩
/-- TWN_ARB (12 R343). -/
def TWN_ARB : Nat := 0x2a008
def TWN_ARB_SETTLE_NS : BF := ⟨TWN_ARB, 0, 16⟩
/-- TWN_BOARD (12 R343). -/
def TWN_BOARD : Nat := 0x2a00c
def TWN_BOARD_ASYM_PS : BF := ⟨TWN_BOARD, 0, 16⟩
/-- TWN_TRACK (12 R343). -/
def TWN_TRACK : Nat := 0x2a010
def TWN_TRACK_TRACK_PS : BF := ⟨TWN_TRACK, 0, 16⟩
/-- TWN_STATUS (12 R343). -/
def TWN_STATUS : Nat := 0x2a014
def TWN_STATUS_LINK : BF := ⟨TWN_STATUS, 0, 1⟩
def TWN_STATUS_ATTACHED : BF := ⟨TWN_STATUS, 1, 1⟩
def TWN_STATUS_ROLE : BF := ⟨TWN_STATUS, 2, 2⟩
def TWN_STATUS_TRACK : BF := ⟨TWN_STATUS, 4, 1⟩
def TWN_STATUS_CLAIM_OUT : BF := ⟨TWN_STATUS, 5, 1⟩
def TWN_STATUS_CLAIM_IN : BF := ⟨TWN_STATUS, 6, 1⟩
def TWN_STATUS_ARB_FAULT : BF := ⟨TWN_STATUS, 7, 1⟩
def TWN_STATUS_MIRROR_SYNC : BF := ⟨TWN_STATUS, 8, 1⟩
def TWN_STATUS_PEER_RESET_OK : BF := ⟨TWN_STATUS, 9, 1⟩
def TWN_STATUS_RESET_OK : BF := ⟨TWN_STATUS, 10, 1⟩
def TWN_STATUS_PEER_LOST : BF := ⟨TWN_STATUS, 11, 1⟩
def TWN_STATUS_ATT_FAIL : BF := ⟨TWN_STATUS, 12, 4⟩
/-- TWN_OFFSET (12 R343). -/
def TWN_OFFSET : Nat := 0x2a018
def TWN_OFFSET_X_PS : BF := ⟨TWN_OFFSET, 0, 32⟩
/-- TWN_PEER0 (12 R343). -/
def TWN_PEER0 : Nat := 0x2a01c
def TWN_PEER0_SERIAL : BF := ⟨TWN_PEER0, 0, 32⟩
/-- TWN_PEER1 (12 R343). -/
def TWN_PEER1 : Nat := 0x2a020
def TWN_PEER1_SERIAL : BF := ⟨TWN_PEER1, 0, 32⟩
/-- FLC_CTRL (13 R362). -/
def FLC_CTRL : Nat := 0x2c000
def FLC_CTRL_ARB_AGE : BF := ⟨FLC_CTRL, 0, 10⟩
def FLC_CTRL_RETRY_MAX : BF := ⟨FLC_CTRL, 16, 4⟩
/-- FLC_EGPORT (13 R362). -/
def FLC_EGPORT : Nat := 0x2c004
def FLC_EGPORT_MIN_KB : BF := ⟨FLC_EGPORT, 0, 11⟩
def FLC_EGPORT_MAX_KB : BF := ⟨FLC_EGPORT, 16, 12⟩
/-- FLC_HOLD (13 R362). -/
def FLC_HOLD : Nat := 0x2c008
def FLC_HOLD_EG_MAX_MS : BF := ⟨FLC_HOLD, 0, 16⟩
def FLC_HOLD_TXW_US : BF := ⟨FLC_HOLD, 16, 16⟩
/-- FLC_LIMIT (13 R362). -/
def FLC_LIMIT : Nat := 0x2c00c
def FLC_LIMIT_STALL_MS : BF := ⟨FLC_LIMIT, 0, 8⟩
def FLC_LIMIT_STORE_TMO_US : BF := ⟨FLC_LIMIT, 8, 8⟩
/-- FLC_STATUS (13 R362). -/
def FLC_STATUS : Nat := 0x2c010
def FLC_STATUS_BENCH_FULL : BF := ⟨FLC_STATUS, 0, 4⟩
def FLC_STATUS_HOST_STALL : BF := ⟨FLC_STATUS, 4, 1⟩
def FLC_STATUS_ESCALATED : BF := ⟨FLC_STATUS, 5, 1⟩
def FLC_STATUS_TAGS_USED : BF := ⟨FLC_STATUS, 16, 10⟩
/-- FLC_PORTCAP (13 R362). -/
def FLC_PORTCAP : Nat := 0x2c014
def FLC_PORTCAP_CAP : BF := ⟨FLC_PORTCAP, 0, 32⟩
/-- FLC_EGOCC (13 R362). -/
def FLC_EGOCC (i : Nat) : Nat := 0x2c020 + 0x4 * i
def FLC_EGOCC_USED_KB (i : Nat) : BF := ⟨FLC_EGOCC i, 0, 12⟩
def FLC_EGOCC_SHARED_KB (i : Nat) : BF := ⟨FLC_EGOCC i, 16, 12⟩
/-- ERR_CTRL (15 R408). -/
def ERR_CTRL : Nat := 0x2e000
def ERR_CTRL_ALERT : BF := ⟨ERR_CTRL, 0, 4⟩
/-- ERR_ESC (15 R408). -/
def ERR_ESC : Nat := 0x2e004
def ERR_ESC_WINDOW_MS : BF := ⟨ERR_ESC, 0, 16⟩
/-- ERR_STATUS (15 R408). -/
def ERR_STATUS : Nat := 0x2e008
def ERR_STATUS_SEEN : BF := ⟨ERR_STATUS, 0, 4⟩
def ERR_STATUS_HANDLING : BF := ⟨ERR_STATUS, 4, 1⟩
def ERR_STATUS_MACHINE_FAULT : BF := ⟨ERR_STATUS, 5, 1⟩
def ERR_STATUS_OSC_LOST : BF := ⟨ERR_STATUS, 6, 1⟩
def ERR_STATUS_QUEUED : BF := ⟨ERR_STATUS, 8, 5⟩
def ERR_STATUS_LOG_PTR : BF := ⟨ERR_STATUS, 16, 6⟩
/-- ERR_PORT_HELD (15 R408). -/
def ERR_PORT_HELD : Nat := 0x2e00c
def ERR_PORT_HELD_PORTS : BF := ⟨ERR_PORT_HELD, 0, 32⟩
/-- ERR_INJECT (15 R408). -/
def ERR_INJECT : Nat := 0x2e010
def ERR_INJECT_UNIT : BF := ⟨ERR_INJECT, 0, 8⟩
def ERR_INJECT_CODE : BF := ⟨ERR_INJECT, 8, 8⟩
def ERR_INJECT_CLASS : BF := ⟨ERR_INJECT, 16, 2⟩
def ERR_INJECT_GO : BF := ⟨ERR_INJECT, 18, 1⟩
/-- ERR_LOG_W0 (15 R408). -/
def ERR_LOG_W0 (i : Nat) : Nat := 0x2e200 + 0x10 * i
def ERR_LOG_W0_WORD (i : Nat) : BF := ⟨ERR_LOG_W0 i, 0, 32⟩
/-- ERR_LOG_W1 (15 R408). -/
def ERR_LOG_W1 (i : Nat) : Nat := 0x2e204 + 0x10 * i
def ERR_LOG_W1_WORD (i : Nat) : BF := ⟨ERR_LOG_W1 i, 0, 32⟩
/-- ERR_LOG_W2 (15 R408). -/
def ERR_LOG_W2 (i : Nat) : Nat := 0x2e208 + 0x10 * i
def ERR_LOG_W2_WORD (i : Nat) : BF := ⟨ERR_LOG_W2 i, 0, 32⟩
/-- ERR_LOG_W3 (15 R408). -/
def ERR_LOG_W3 (i : Nat) : Nat := 0x2e20c + 0x10 * i
def ERR_LOG_W3_WORD (i : Nat) : BF := ⟨ERR_LOG_W3 i, 0, 32⟩
/-- PMC_CTRL (16 R426). -/
def PMC_CTRL : Nat := 0x30000
def PMC_CTRL_SAMP_FUNC : BF := ⟨PMC_CTRL, 0, 2⟩
def PMC_CTRL_SAMP_ENG : BF := ⟨PMC_CTRL, 2, 6⟩
def PMC_CTRL_SAMP_MAX_K : BF := ⟨PMC_CTRL, 16, 8⟩
/-- PMC_STATUS (16 R426). -/
def PMC_STATUS : Nat := 0x30004
def PMC_STATUS_CHAINED : BF := ⟨PMC_STATUS, 0, 1⟩
def PMC_STATUS_BY_MODE : BF := ⟨PMC_STATUS, 1, 1⟩
def PMC_STATUS_BY_RECOVERY : BF := ⟨PMC_STATUS, 2, 1⟩
def PMC_STATUS_SAMP_LOST : BF := ⟨PMC_STATUS, 16, 16⟩
/-- PMC_CHAIN_CNT (16 R426). -/
def PMC_CHAIN_CNT : Nat := 0x30008
def PMC_CHAIN_CNT_COUNT : BF := ⟨PMC_CHAIN_CNT, 0, 16⟩
/-- PMC_OVF (16 R426). -/
def PMC_OVF (i : Nat) : Nat := 0x30040 + 0x4 * i
def PMC_OVF_OVF (i : Nat) : BF := ⟨PMC_OVF i, 0, 32⟩
/-- PMC_GAP (16 R426). -/
def PMC_GAP (i : Nat) : Nat := 0x30080 + 0x4 * i
def PMC_GAP_GAP (i : Nat) : BF := ⟨PMC_GAP i, 0, 32⟩
/-- PMC_SEL (16 R426). -/
def PMC_SEL (i : Nat) : Nat := 0x30800 + 0x4 * i
def PMC_SEL_EVENT (i : Nat) : BF := ⟨PMC_SEL i, 0, 10⟩
def PMC_SEL_INSTANCE (i : Nat) : BF := ⟨PMC_SEL i, 10, 6⟩
def PMC_SEL_SAMP (i : Nat) : BF := ⟨PMC_SEL i, 16, 1⟩
def PMC_SEL_BAD (i : Nat) : BF := ⟨PMC_SEL i, 30, 1⟩
/-- PMC_THR (16 R426). -/
def PMC_THR (i : Nat) : Nat := 0x31000 + 0x4 * i
def PMC_THR_THR (i : Nat) : BF := ⟨PMC_THR i, 0, 24⟩
/-- PMC_CNT_LO (16 R426). -/
def PMC_CNT_LO (i : Nat) : Nat := 0x32000 + 0x8 * i
def PMC_CNT_LO_LO (i : Nat) : BF := ⟨PMC_CNT_LO i, 0, 32⟩
/-- PMC_CNT_HI (16 R426). -/
def PMC_CNT_HI (i : Nat) : Nat := 0x32004 + 0x8 * i
def PMC_CNT_HI_HI (i : Nat) : BF := ⟨PMC_CNT_HI i, 0, 16⟩

end R

/-! ### 64-bit counters, named by the BAR0 offset of the low word -/

namespace C

def PRT_RX_FRAMES (i : Nat) : Nat := 0x10100 + 0x800 * i
def PRT_RX_BYTES (i : Nat) : Nat := 0x10108 + 0x800 * i
def PRT_TX_FRAMES (i : Nat) : Nat := 0x10110 + 0x800 * i
def PRT_TX_BYTES (i : Nat) : Nat := 0x10118 + 0x800 * i
def PRT_RX_ERR (i : Nat) : Nat := 0x10120 + 0x800 * i
def PRT_RUNT (i : Nat) : Nat := 0x10128 + 0x800 * i
def PRT_OVERSIZE (i : Nat) : Nat := 0x10130 + 0x800 * i
def PRT_FCS (i : Nat) : Nat := 0x10138 + 0x800 * i
def PRT_MACCTL (i : Nat) : Nat := 0x10140 + 0x800 * i
def PRT_MALF (i : Nat) : Nat := 0x10148 + 0x800 * i
def PRT_RX_CSUM (i : Nat) : Nat := 0x10150 + 0x800 * i
def PRT_PSTORM (i : Nat) : Nat := 0x10158 + 0x800 * i
def PRT_TX_OVERSIZE (i : Nat) : Nat := 0x10160 + 0x800 * i
def PRT_TX_PAD (i : Nat) : Nat := 0x10168 + 0x800 * i
def PRT_TX_DISCARD (i : Nat) : Nat := 0x10170 + 0x800 * i
def PRT_GATE_NOFIT (i : Nat) : Nat := 0x10178 + 0x800 * i
def PRT_LAUNCH_OK (i : Nat) : Nat := 0x10180 + 0x800 * i
def PRT_LAUNCH_MISS (i : Nat) : Nat := 0x10188 + 0x800 * i
def PRT_LPI_ENTRY (i : Nat) : Nat := 0x10190 + 0x800 * i
def PRT_ND_REPLY (i : Nat) : Nat := 0x10198 + 0x800 * i
def PRT_ND_LIMIT (i : Nat) : Nat := 0x101a0 + 0x800 * i
def PRT_ND_DROP (i : Nat) : Nat := 0x101a8 + 0x800 * i
def PRT_ESMC_RX (i : Nat) : Nat := 0x101b0 + 0x800 * i
def PRT_ESMC_TX (i : Nat) : Nat := 0x101b8 + 0x800 * i
def CLK_REQ_NTP : Nat := 0x20040
def CLK_REQ_NTS : Nat := 0x20048
def CLK_MODEDROP : Nat := 0x20050
def CLK_SHED_FAIR : Nat := 0x20058
def CLK_SHED_AGE : Nat := 0x20060
def CLK_ING_FULL : Nat := 0x20068
def CLK_EXC_FRAMES : Nat := 0x20070
def CLK_EXC_MASKED : Nat := 0x20078
def CLK_EXC_LIMIT : Nat := 0x20080
def CLK_EXC_DROP : Nat := 0x20088
def CLK_NOTME : Nat := 0x20090
def CLK_SERVED : Nat := 0x20098
def CLK_KOD_RATE : Nat := 0x200a0
def CLK_KOD_DENY : Nat := 0x200a8
def CLK_LIMITED_DROP : Nat := 0x200b0
def CLK_DENY_DROP : Nat := 0x200b8
def CLK_KOD_SUPP : Nat := 0x200c0
def CLK_CT_INSERT : Nat := 0x200c8
def CLK_CT_EVICT : Nat := 0x200d0
def CLK_CT_AGED : Nat := 0x200d8
def CLK_CT_NOROW : Nat := 0x200e0
def CLK_CACHE_HIT : Nat := 0x200e8
def CLK_CACHE_MISS : Nat := 0x200f0
def CLK_POLICY_DROP : Nat := 0x200f8
def CLK_SHED_EPOCHS : Nat := 0x20100
def ENG_INVOKE : Nat := 0x24100
def ENG_OVERRUN : Nat := 0x24108
def ENG_FAULT : Nat := 0x24110
def ENG_EXCEPT : Nat := 0x24118
def ENG_ROW_WAIT : Nat := 0x24120
def NTS_REQ : Nat := 0x26100
def NTS_OPEN_OK : Nat := 0x26108
def NTS_OPEN_FAIL_EPOCH : Nat := 0x26110
def NTS_OPEN_FAIL_POOL : Nat := 0x26118
def NTS_OPEN_FAIL_SIV : Nat := 0x26120
def NTS_AUTH_FAIL : Nat := 0x26128
def NTS_NAK : Nat := 0x26130
def NTS_EXC : Nat := 0x26138
def NTS_COOKIES : Nat := 0x26140
def NTS_KOD : Nat := 0x26148
def NTS_FOREIGN : Nat := 0x26150
def NTS_SAL_ONTIME : Nat := 0x26158
def NTS_MISS_LINK : Nat := 0x26160
def NTS_MISS_PAUSE : Nat := 0x26168
def NTS_MISS_GATE : Nat := 0x26170
def NTS_MISS_OVERLOAD : Nat := 0x26178
def NTS_MISS_STEP : Nat := 0x26180
def NTS_MISS_TWIN : Nat := 0x26188
def NTS_MISS_AGED : Nat := 0x26190
def NTS_RESEAL : Nat := 0x26198
def NTS_SAL_DROP : Nat := 0x261a0
def NTS_EPOCH_OPEN (e : Nat) : Nat := 0x261a8 + 8 * e
def PTP_SYNC_TX : Nat := 0x28e00
def PTP_FU_TX : Nat := 0x28e08
def PTP_ANN_TX : Nat := 0x28e10
def PTP_DRESP_TX : Nat := 0x28e18
def PTP_PDRESP_TX : Nat := 0x28e20
def PTP_GRANT : Nat := 0x28e28
def PTP_DENY : Nat := 0x28e30
def PTP_GM_REFUSED : Nat := 0x28e38
def PTP_NOGRANT : Nat := 0x28e40
def PTP_FWD : Nat := 0x28e48
def PTP_FWD_DROP : Nat := 0x28e50
def PTP_RES_SAT : Nat := 0x28e58
def PTP_BADVER : Nat := 0x28e60
def PTP_MALF : Nat := 0x28e68
def PTP_SWEEP_LATE : Nat := 0x28e70
def PTP_PASSIVE : Nat := 0x28e78
def PTP_PATH_STEP : Nat := 0x28e80
def PTP_OUTLIER : Nat := 0x28e88
def PTP_ASYM_EST : Nat := 0x28e90
def TWN_ATTACH : Nat := 0x2a100
def TWN_ATT_FAIL : Nat := 0x2a108
def TWN_TAKEOVER : Nat := 0x2a110
def TWN_SWITCHOVER : Nat := 0x2a118
def TWN_LOSS : Nat := 0x2a120
def TWN_AUTH_FAIL : Nat := 0x2a128
def TWN_RESYNC : Nat := 0x2a130
def TWN_MEAS : Nat := 0x2a138
def FLC_EG_WAIT : Nat := 0x2c100
def FLC_EG_EXPIRE : Nat := 0x2c108
def FLC_HOST_STALL : Nat := 0x2c110
def FLC_STORE_TMO : Nat := 0x2c118
def FLC_RETRY_HELD : Nat := 0x2c120
def FLC_ARB_AGED : Nat := 0x2c128
def ERR_CORRECTED : Nat := 0x2e100
def ERR_CONTAINED : Nat := 0x2e108
def ERR_DEGRADED : Nat := 0x2e110
def ERR_FATAL : Nat := 0x2e118
def ERR_ESCALATED : Nat := 0x2e120
def ERR_PREEMPTED : Nat := 0x2e128
def ERR_QUEUED : Nat := 0x2e130
def ERR_OVFL : Nat := 0x2e138
def ERR_REVOKED : Nat := 0x2e140

end C

/-- The ranges of 64-bit counters: first low word, number, stride and number of copies (R192, R227, R229, R261,
R286, R344, R363, R409). -/
def counterRanges : List (Nat × Nat × Nat × Nat) :=
  [(0x10100, 24, 0x800, 32), (0x20040, 25, 0x0, 1), (0x24100, 5, 0x0, 1), (0x26100, 25, 0x0, 1), (0x28e00, 19, 0x0, 1), (0x2a100, 8, 0x0, 1), (0x2c100, 6, 0x0, 1), (0x2e100, 9, 0x0, 1)]

/-- Access codes of the IDC registers. -/
def rowsIdc : List RegRow :=
  [⟨0x0, 0x0, 1, false, [⟨0, 16, .ro⟩, ⟨16, 8, .ro⟩]⟩,
   ⟨0x4, 0x0, 1, false, [⟨0, 16, .ro⟩, ⟨16, 8, .ro⟩, ⟨24, 8, .ro⟩]⟩,
   ⟨0x8, 0x0, 1, false, [⟨0, 32, .ro⟩]⟩,
   ⟨0xc, 0x0, 1, false, [⟨0, 32, .ro⟩]⟩,
   ⟨0x10, 0x0, 1, false, [⟨0, 16, .ro⟩, ⟨16, 1, .ro⟩]⟩,
   ⟨0x20, 0x0, 1, false, [⟨0, 32, .ro⟩]⟩,
   ⟨0x24, 0x0, 1, false, [⟨0, 16, .ro⟩, ⟨16, 4, .ro⟩, ⟨20, 2, .ro⟩, ⟨24, 8, .ro⟩]⟩,
   ⟨0x28, 0x0, 1, false, [⟨0, 4, .ro⟩, ⟨8, 5, .ro⟩, ⟨16, 7, .ro⟩]⟩,
   ⟨0x2c, 0x0, 1, false, [⟨0, 1, .ro⟩, ⟨1, 1, .ro⟩, ⟨2, 1, .ro⟩, ⟨3, 1, .ro⟩, ⟨4, 1, .ro⟩, ⟨5, 1, .ro⟩, ⟨6, 1, .ro⟩, ⟨8, 8, .ro⟩]⟩,
   ⟨0x30, 0x0, 1, true, [⟨0, 2, .ro⟩]⟩,
   ⟨0x40, 0x0, 1, false, [⟨0, 3, .ro⟩, ⟨3, 1, .ro⟩, ⟨4, 1, .ro⟩, ⟨5, 1, .ro⟩, ⟨6, 1, .ro⟩, ⟨7, 1, .ro⟩, ⟨8, 1, .ro⟩, ⟨9, 2, .ro⟩, ⟨11, 1, .ro⟩, ⟨12, 1, .ro⟩, ⟨13, 1, .ro⟩, ⟨14, 1, .ro⟩, ⟨15, 1, .ro⟩, ⟨16, 8, .ro⟩]⟩,
   ⟨0x44, 0x0, 1, false, [⟨0, 1, .ro⟩, ⟨1, 1, .ro⟩, ⟨2, 1, .ro⟩, ⟨3, 1, .ro⟩, ⟨4, 1, .ro⟩, ⟨5, 1, .ro⟩, ⟨6, 1, .ro⟩, ⟨7, 1, .ro⟩, ⟨8, 1, .ro⟩, ⟨9, 1, .ro⟩, ⟨10, 1, .ro⟩, ⟨11, 1, .ro⟩, ⟨12, 1, .ro⟩, ⟨13, 1, .ro⟩]⟩]
/-- Access codes of the SES registers. -/
def rowsSes : List RegRow :=
  [⟨0x1000, 0x0, 1, true, [⟨0, 1, .wo⟩, ⟨1, 1, .wo⟩]⟩,
   ⟨0x1004, 0x0, 1, true, [⟨0, 2, .ro⟩, ⟨2, 1, .ro⟩, ⟨3, 1, .w1c⟩, ⟨4, 5, .ro⟩, ⟨16, 16, .ro⟩]⟩,
   ⟨0x1008, 0x0, 1, true, [⟨0, 9, .ro⟩]⟩,
   ⟨0x100c, 0x0, 1, true, [⟨0, 13, .ro⟩]⟩,
   ⟨0x1010, 0x0, 1, true, [⟨0, 16, .rwl⟩]⟩,
   ⟨0x1014, 0x0, 1, true, [⟨0, 3, .ro⟩]⟩,
   ⟨0x1020, 0x4, 4, true, [⟨0, 32, .ro⟩]⟩,
   ⟨0x1030, 0x4, 4, true, [⟨0, 32, .rw⟩]⟩,
   ⟨0x1040, 0x4, 8, true, [⟨0, 32, .wo⟩]⟩,
   ⟨0x1060, 0x4, 4, true, [⟨0, 32, .ro⟩]⟩,
   ⟨0x1070, 0x4, 8, true, [⟨0, 32, .ro⟩]⟩,
   ⟨0x1090, 0x4, 8, true, [⟨0, 32, .wo⟩]⟩,
   ⟨0x10b0, 0x0, 1, true, [⟨0, 1, .wo⟩]⟩]
/-- Access codes of the RST registers. -/
def rowsRst : List RegRow :=
  [⟨0x2000, 0x0, 1, false, [⟨0, 8, .wo⟩]⟩,
   ⟨0x2004, 0x0, 1, false, [⟨0, 2, .wo⟩, ⟨8, 6, .wo⟩, ⟨16, 1, .ro⟩, ⟨17, 1, .w1c⟩]⟩,
   ⟨0x2008, 0x0, 1, false, [⟨0, 4, .ro⟩, ⟨4, 1, .ro⟩]⟩,
   ⟨0x200c, 0x0, 1, false, [⟨0, 16, .ro⟩, ⟨16, 3, .ro⟩, ⟨20, 4, .ro⟩, ⟨31, 1, .w1c⟩]⟩,
   ⟨0x2010, 0x0, 1, false, [⟨0, 4, .ro⟩, ⟨4, 1, .ro⟩, ⟨5, 1, .ro⟩, ⟨6, 1, .ro⟩, ⟨7, 1, .ro⟩, ⟨8, 1, .ro⟩, ⟨9, 1, .w1c⟩]⟩,
   ⟨0x2014, 0x0, 1, false, [⟨0, 32, .ro⟩]⟩,
   ⟨0x2018, 0x0, 1, false, [⟨0, 32, .ro⟩]⟩,
   ⟨0x201c, 0x0, 1, false, [⟨0, 1, .rwl⟩, ⟨8, 6, .rwl⟩]⟩,
   ⟨0x2020, 0x0, 1, false, [⟨0, 32, .ro⟩]⟩,
   ⟨0x2024, 0x0, 1, false, [⟨0, 16, .ro⟩]⟩,
   ⟨0x2040, 0x4, 16, false, [⟨0, 32, .ro⟩]⟩,
   ⟨0x2100, 0x0, 1, false, [⟨0, 3, .ro⟩, ⟨3, 1, .ro⟩, ⟨4, 1, .ro⟩, ⟨8, 3, .ro⟩, ⟨16, 8, .ro⟩]⟩,
   ⟨0x2104, 0x0, 1, false, [⟨0, 13, .rwl⟩]⟩,
   ⟨0x2108, 0x0, 1, false, [⟨0, 13, .ro⟩]⟩,
   ⟨0x210c, 0x0, 1, false, [⟨0, 13, .w1c⟩]⟩,
   ⟨0x2110, 0x0, 1, false, [⟨0, 1, .rwl⟩, ⟨1, 1, .rwl⟩, ⟨2, 1, .rwl⟩, ⟨3, 1, .ro⟩, ⟨4, 2, .rwl⟩]⟩]
/-- Access codes of the LCS registers. -/
def rowsLcs : List RegRow :=
  [⟨0x3000, 0x0, 1, false, [⟨0, 3, .ro⟩, ⟨3, 1, .ro⟩, ⟨4, 3, .ro⟩, ⟨16, 16, .ro⟩]⟩,
   ⟨0x3004, 0x0, 1, false, [⟨0, 16, .ro⟩]⟩,
   ⟨0x3008, 0x0, 1, false, [⟨0, 3, .wo⟩, ⟨16, 16, .wo⟩]⟩,
   ⟨0x300c, 0x0, 1, false, [⟨0, 32, .wo⟩]⟩,
   ⟨0x3010, 0x0, 1, false, [⟨0, 4, .ro⟩, ⟨4, 3, .ro⟩]⟩,
   ⟨0x3014, 0x0, 1, false, [⟨0, 1, .ro⟩, ⟨1, 1, .ro⟩, ⟨2, 1, .ro⟩, ⟨4, 4, .ro⟩]⟩,
   ⟨0x3018, 0x0, 1, false, [⟨0, 1, .rw⟩, ⟨1, 1, .wo⟩, ⟨2, 1, .wo⟩]⟩,
   ⟨0x3020, 0x0, 1, false, [⟨0, 32, .rw⟩]⟩,
   ⟨0x3024, 0x0, 1, false, [⟨0, 32, .rw⟩]⟩,
   ⟨0x3028, 0x0, 1, false, [⟨0, 32, .rw⟩]⟩,
   ⟨0x3030, 0x0, 1, false, [⟨0, 2, .rwl⟩, ⟨2, 2, .wo⟩, ⟨4, 13, .rwl⟩, ⟨17, 3, .ro⟩]⟩,
   ⟨0x3040, 0x4, 10, false, [⟨0, 32, .wo⟩]⟩,
   ⟨0x3080, 0x4, 12, false, [⟨0, 32, .rwl⟩]⟩]
/-- Access codes of the HRG registers. -/
def rowsHrg : List RegRow :=
  [⟨0x4000, 0x40, 64, false, [⟨0, 32, .rw⟩]⟩,
   ⟨0x4004, 0x40, 64, false, [⟨0, 32, .rw⟩]⟩,
   ⟨0x4008, 0x40, 64, false, [⟨0, 32, .rw⟩]⟩,
   ⟨0x400c, 0x40, 64, false, [⟨0, 32, .rw⟩]⟩,
   ⟨0x4010, 0x40, 64, false, [⟨0, 5, .rw⟩, ⟨8, 5, .rw⟩]⟩,
   ⟨0x4014, 0x40, 64, false, [⟨0, 1, .rw⟩, ⟨1, 1, .rw⟩]⟩,
   ⟨0x4018, 0x40, 64, false, [⟨0, 8, .rw⟩, ⟨16, 16, .rw⟩]⟩,
   ⟨0x401c, 0x40, 64, false, [⟨0, 1, .ro⟩, ⟨1, 1, .ro⟩, ⟨4, 3, .ro⟩, ⟨16, 2, .ro⟩]⟩,
   ⟨0x4020, 0x40, 64, false, [⟨0, 32, .ro⟩]⟩,
   ⟨0x4024, 0x40, 64, false, [⟨0, 32, .ro⟩]⟩,
   ⟨0x5000, 0x4, 4, false, [⟨0, 32, .rwl⟩]⟩,
   ⟨0x5010, 0x0, 1, true, [⟨0, 32, .wo⟩]⟩,
   ⟨0x5014, 0x0, 1, false, [⟨0, 16, .rwl⟩]⟩,
   ⟨0x5018, 0x0, 1, false, [⟨0, 16, .ro⟩, ⟨16, 7, .ro⟩]⟩,
   ⟨0x5020, 0x0, 1, true, [⟨0, 32, .rw⟩]⟩,
   ⟨0x5024, 0x0, 1, true, [⟨0, 32, .rw⟩]⟩]
/-- Access codes of the EVT registers. -/
def rowsEvt : List RegRow :=
  [⟨0x6000, 0x0, 1, true, [⟨0, 32, .rw⟩]⟩,
   ⟨0x6004, 0x0, 1, true, [⟨0, 32, .rw⟩]⟩,
   ⟨0x6008, 0x0, 1, true, [⟨0, 1, .rw⟩, ⟨1, 1, .rw⟩, ⟨8, 5, .rw⟩]⟩,
   ⟨0x600c, 0x0, 1, true, [⟨0, 8, .rw⟩, ⟨16, 16, .rw⟩]⟩,
   ⟨0x6010, 0x0, 1, true, [⟨0, 1, .ro⟩, ⟨1, 1, .ro⟩, ⟨2, 2, .ro⟩, ⟨16, 16, .ro⟩]⟩,
   ⟨0x6020, 0x0, 1, false, [⟨0, 4, .rwl⟩, ⟨4, 4, .rwl⟩, ⟨8, 4, .rwl⟩, ⟨12, 4, .rwl⟩, ⟨16, 4, .rwl⟩, ⟨20, 4, .rwl⟩, ⟨24, 4, .rwl⟩, ⟨28, 4, .rwl⟩]⟩,
   ⟨0x6024, 0x0, 1, true, [⟨0, 14, .rw⟩]⟩,
   ⟨0x6028, 0x0, 1, true, [⟨0, 1, .w1c⟩, ⟨1, 1, .w1c⟩, ⟨2, 1, .w1c⟩, ⟨3, 1, .w1c⟩, ⟨4, 1, .w1c⟩, ⟨5, 1, .w1c⟩]⟩,
   ⟨0x602c, 0x0, 1, true, [⟨0, 20, .ro⟩, ⟨20, 3, .ro⟩, ⟨23, 1, .ro⟩]⟩]
/-- Access codes of the TBS registers. -/
def rowsTbs : List RegRow :=
  [⟨0x8000, 0x0, 1, false, [⟨0, 1, .rwl⟩, ⟨1, 1, .rwl⟩]⟩,
   ⟨0x8004, 0x0, 1, false, [⟨0, 1, .ro⟩, ⟨1, 1, .ro⟩, ⟨2, 1, .ro⟩, ⟨3, 1, .ro⟩, ⟨4, 1, .ro⟩, ⟨5, 1, .ro⟩, ⟨6, 1, .w1c⟩]⟩,
   ⟨0x8010, 0x0, 1, false, [⟨0, 30, .ro⟩]⟩,
   ⟨0x8014, 0x0, 1, false, [⟨0, 32, .ro⟩]⟩,
   ⟨0x8018, 0x0, 1, false, [⟨0, 16, .ro⟩, ⟨16, 16, .ro⟩]⟩,
   ⟨0x801c, 0x0, 1, false, [⟨0, 32, .ro⟩]⟩,
   ⟨0x8020, 0x0, 1, false, [⟨0, 32, .rwl⟩]⟩,
   ⟨0x8024, 0x0, 1, false, [⟨0, 20, .rwl⟩]⟩,
   ⟨0x8028, 0x0, 1, false, [⟨0, 16, .rwl⟩]⟩,
   ⟨0x802c, 0x0, 1, false, [⟨0, 17, .rwl⟩]⟩,
   ⟨0x8030, 0x0, 1, false, [⟨0, 32, .ro⟩]⟩,
   ⟨0x8034, 0x0, 1, false, [⟨0, 16, .ro⟩]⟩,
   ⟨0x8038, 0x0, 1, false, [⟨0, 18, .rwl⟩, ⟨18, 2, .rwl⟩]⟩,
   ⟨0x803c, 0x0, 1, false, [⟨0, 32, .ro⟩]⟩,
   ⟨0x8040, 0x0, 1, false, [⟨0, 32, .ro⟩]⟩,
   ⟨0x8044, 0x0, 1, false, [⟨0, 16, .ro⟩]⟩]
/-- Access codes of the LST registers. -/
def rowsLst : List RegRow :=
  [⟨0x9000, 0x0, 1, false, [⟨0, 12, .rwl⟩, ⟨16, 10, .rwl⟩]⟩,
   ⟨0x9004, 0x0, 1, false, [⟨0, 13, .ro⟩, ⟨16, 13, .ro⟩]⟩,
   ⟨0x9008, 0x0, 1, false, [⟨0, 10, .rwl⟩]⟩,
   ⟨0x9010, 0x0, 1, false, [⟨0, 32, .ro⟩]⟩,
   ⟨0x9014, 0x0, 1, false, [⟨0, 32, .ro⟩]⟩,
   ⟨0x9018, 0x0, 1, false, [⟨0, 32, .ro⟩]⟩,
   ⟨0x901c, 0x0, 1, false, [⟨0, 32, .ro⟩]⟩,
   ⟨0x9040, 0x4, 16, false, [⟨0, 7, .rwl⟩, ⟨8, 4, .rwl⟩, ⟨16, 8, .rwl⟩]⟩]
/-- Access codes of the REF registers. -/
def rowsRef : List RegRow :=
  [⟨0xa000, 0x0, 1, false, [⟨0, 2, .rwl⟩, ⟨2, 1, .rwl⟩, ⟨8, 4, .rwl⟩, ⟨16, 4, .rwl⟩, ⟨20, 4, .rwl⟩]⟩,
   ⟨0xa004, 0x0, 1, false, [⟨0, 16, .rwl⟩, ⟨16, 16, .rwl⟩]⟩,
   ⟨0xa008, 0x0, 1, false, [⟨0, 16, .rwl⟩, ⟨16, 12, .rwl⟩]⟩,
   ⟨0xa00c, 0x0, 1, false, [⟨0, 12, .rwl⟩]⟩,
   ⟨0xa010, 0x0, 1, false, [⟨0, 16, .rwl⟩, ⟨16, 8, .rwl⟩, ⟨24, 8, .rwl⟩]⟩,
   ⟨0xa014, 0x0, 1, false, [⟨0, 16, .rwl⟩, ⟨16, 16, .rwl⟩]⟩,
   ⟨0xa018, 0x0, 1, false, [⟨0, 8, .rwl⟩, ⟨8, 8, .rwl⟩, ⟨16, 8, .rwl⟩, ⟨24, 8, .rwl⟩]⟩,
   ⟨0xa01c, 0x0, 1, false, [⟨0, 5, .ro⟩, ⟨5, 1, .ro⟩, ⟨6, 1, .ro⟩, ⟨7, 1, .ro⟩, ⟨8, 1, .w1c⟩, ⟨9, 1, .ro⟩, ⟨10, 1, .ro⟩, ⟨12, 4, .ro⟩, ⟨16, 5, .ro⟩]⟩,
   ⟨0xa020, 0x0, 1, false, [⟨0, 24, .ro⟩]⟩,
   ⟨0xa024, 0x0, 1, false, [⟨0, 24, .ro⟩]⟩,
   ⟨0xa028, 0x0, 1, false, [⟨0, 32, .ro⟩]⟩,
   ⟨0xa02c, 0x0, 1, false, [⟨0, 32, .ro⟩]⟩,
   ⟨0xa030, 0x0, 1, false, [⟨0, 16, .ro⟩, ⟨16, 16, .ro⟩]⟩,
   ⟨0xa100, 0x20, 24, false, [⟨0, 3, .rwl⟩, ⟨4, 5, .rwl⟩, ⟨12, 4, .rwl⟩, ⟨16, 1, .rwl⟩, ⟨17, 1, .rwl⟩, ⟨18, 1, .rwl⟩, ⟨20, 3, .rwl⟩, ⟨24, 1, .rwl⟩, ⟨25, 1, .rwl⟩, ⟨26, 1, .rwl⟩, ⟨28, 4, .rwl⟩]⟩,
   ⟨0xa104, 0x20, 24, false, [⟨0, 8, .rwl⟩, ⟨8, 8, .rwl⟩, ⟨16, 8, .rwl⟩]⟩,
   ⟨0xa108, 0x20, 24, false, [⟨0, 24, .rwl⟩]⟩,
   ⟨0xa10c, 0x20, 24, false, [⟨0, 24, .rwl⟩]⟩,
   ⟨0xa110, 0x20, 24, false, [⟨0, 8, .rwl⟩, ⟨8, 8, .rwl⟩, ⟨16, 8, .rwl⟩, ⟨24, 8, .rwl⟩]⟩,
   ⟨0xa114, 0x20, 24, false, [⟨0, 16, .rwl⟩, ⟨16, 16, .rwl⟩]⟩,
   ⟨0xa118, 0x20, 24, false, [⟨0, 8, .rwl⟩, ⟨8, 16, .rwl⟩]⟩,
   ⟨0xa11c, 0x20, 24, false, [⟨0, 32, .rwl⟩]⟩,
   ⟨0xa400, 0x10, 24, false, [⟨0, 3, .ro⟩, ⟨3, 1, .ro⟩, ⟨4, 1, .ro⟩, ⟨5, 1, .ro⟩, ⟨6, 1, .ro⟩, ⟨8, 4, .ro⟩, ⟨16, 8, .ro⟩, ⟨24, 8, .ro⟩]⟩,
   ⟨0xa404, 0x10, 24, false, [⟨0, 32, .ro⟩]⟩,
   ⟨0xa408, 0x10, 24, false, [⟨0, 32, .ro⟩]⟩,
   ⟨0xa40c, 0x10, 24, false, [⟨0, 24, .ro⟩, ⟨24, 8, .ro⟩]⟩]
/-- Access codes of the HLD registers. -/
def rowsHld : List RegRow :=
  [⟨0xb000, 0x0, 1, false, [⟨0, 6, .rwl⟩, ⟨8, 8, .rwl⟩, ⟨16, 16, .rwl⟩]⟩,
   ⟨0xb004, 0x0, 1, false, [⟨0, 1, .ro⟩, ⟨1, 1, .ro⟩, ⟨8, 6, .ro⟩, ⟨16, 1, .ro⟩, ⟨17, 1, .w1c⟩]⟩,
   ⟨0xb008, 0x0, 1, false, [⟨0, 2, .rwl⟩, ⟨2, 1, .rwl⟩, ⟨4, 7, .rwl⟩, ⟨16, 8, .rwl⟩, ⟨24, 8, .rwl⟩]⟩,
   ⟨0xb00c, 0x0, 1, false, [⟨0, 16, .rwl⟩, ⟨16, 16, .rwl⟩]⟩,
   ⟨0xb010, 0x0, 1, false, [⟨0, 16, .ro⟩, ⟨16, 16, .ro⟩]⟩,
   ⟨0xb014, 0x0, 1, false, [⟨0, 16, .rwl⟩]⟩,
   ⟨0xb018, 0x0, 1, false, [⟨0, 8, .rwl⟩, ⟨8, 8, .rwl⟩, ⟨16, 8, .rwl⟩, ⟨24, 8, .rwl⟩]⟩,
   ⟨0xb01c, 0x0, 1, false, [⟨0, 32, .rwl⟩]⟩,
   ⟨0xb020, 0x0, 1, false, [⟨0, 16, .rwl⟩, ⟨16, 16, .rwl⟩]⟩,
   ⟨0xb024, 0x0, 1, false, [⟨0, 32, .rwl⟩]⟩,
   ⟨0xb028, 0x0, 1, false, [⟨0, 32, .rwl⟩]⟩,
   ⟨0xb02c, 0x0, 1, false, [⟨0, 32, .ro⟩]⟩,
   ⟨0xb030, 0x0, 1, false, [⟨0, 32, .ro⟩]⟩,
   ⟨0xb034, 0x0, 1, false, [⟨0, 32, .ro⟩]⟩,
   ⟨0xb040, 0x0, 1, false, [⟨0, 32, .rwl⟩]⟩,
   ⟨0xb044, 0x0, 1, false, [⟨0, 32, .rwl⟩]⟩,
   ⟨0xb048, 0x0, 1, false, [⟨0, 32, .rwl⟩]⟩,
   ⟨0xb04c, 0x0, 1, false, [⟨0, 32, .rwl⟩]⟩,
   ⟨0xb050, 0x0, 1, false, [⟨0, 32, .rwl⟩]⟩,
   ⟨0xb054, 0x0, 1, false, [⟨0, 32, .rwl⟩]⟩,
   ⟨0xb058, 0x0, 1, false, [⟨0, 32, .rwl⟩]⟩,
   ⟨0xb05c, 0x0, 1, false, [⟨0, 32, .rwl⟩]⟩,
   ⟨0xb060, 0x0, 1, false, [⟨0, 32, .rwl⟩]⟩,
   ⟨0xb064, 0x0, 1, false, [⟨0, 32, .rwl⟩]⟩,
   ⟨0xb100, 0x20, 18, false, [⟨0, 3, .rwl⟩, ⟨3, 1, .rwl⟩, ⟨4, 1, .rwl⟩, ⟨5, 1, .rwl⟩, ⟨6, 1, .rwl⟩, ⟨8, 4, .rwl⟩, ⟨16, 16, .rwl⟩]⟩,
   ⟨0xb104, 0x20, 18, false, [⟨0, 30, .rwl⟩]⟩,
   ⟨0xb108, 0x20, 18, false, [⟨0, 32, .rwl⟩]⟩,
   ⟨0xb10c, 0x20, 18, false, [⟨0, 16, .rwl⟩]⟩,
   ⟨0xb110, 0x20, 18, false, [⟨0, 30, .rwl⟩, ⟨30, 2, .rwl⟩]⟩,
   ⟨0xb114, 0x20, 18, false, [⟨0, 32, .rwl⟩]⟩,
   ⟨0xb118, 0x20, 18, false, [⟨0, 32, .ro⟩]⟩,
   ⟨0xb11c, 0x20, 18, false, [⟨0, 1, .ro⟩, ⟨1, 1, .ro⟩, ⟨2, 1, .ro⟩, ⟨3, 1, .ro⟩, ⟨16, 11, .ro⟩]⟩]
/-- Access codes of the PIN registers. -/
def rowsPin : List RegRow :=
  [⟨0xc000, 0x0, 1, false, [⟨0, 2, .rwl⟩, ⟨4, 2, .ro⟩, ⟨6, 1, .ro⟩]⟩,
   ⟨0xc004, 0x0, 1, false, [⟨0, 1, .ro⟩, ⟨1, 1, .w1c⟩, ⟨2, 1, .ro⟩, ⟨8, 5, .ro⟩, ⟨16, 16, .ro⟩]⟩,
   ⟨0xc008, 0x0, 1, false, [⟨0, 1, .wo⟩, ⟨1, 1, .rwl⟩, ⟨8, 8, .rwl⟩, ⟨16, 16, .rwl⟩]⟩,
   ⟨0xc100, 0x40, 16, false, [⟨0, 3, .rwl⟩, ⟨3, 1, .rwl⟩, ⟨4, 2, .rwl⟩, ⟨6, 1, .rwl⟩, ⟨7, 1, .rwl⟩, ⟨8, 8, .rwl⟩, ⟨16, 3, .rwl⟩]⟩,
   ⟨0xc104, 0x40, 16, false, [⟨0, 1, .rwl⟩, ⟨1, 2, .rwl⟩, ⟨3, 1, .rwl⟩, ⟨4, 2, .rwl⟩, ⟨6, 2, .rwl⟩, ⟨8, 8, .rwl⟩]⟩,
   ⟨0xc108, 0x40, 16, false, [⟨0, 30, .rwl⟩]⟩,
   ⟨0xc10c, 0x40, 16, false, [⟨0, 8, .rwl⟩, ⟨8, 12, .rwl⟩, ⟨20, 12, .rwl⟩]⟩,
   ⟨0xc110, 0x40, 16, false, [⟨0, 16, .rwl⟩]⟩,
   ⟨0xc114, 0x40, 16, false, [⟨0, 2, .rwl⟩, ⟨4, 4, .rwl⟩, ⟨8, 3, .rwl⟩, ⟨16, 16, .rwl⟩]⟩,
   ⟨0xc118, 0x40, 16, false, [⟨0, 24, .rwl⟩]⟩,
   ⟨0xc11c, 0x40, 16, false, [⟨0, 27, .rwl⟩, ⟨27, 5, .rwl⟩]⟩,
   ⟨0xc120, 0x40, 16, false, [⟨0, 16, .rwl⟩]⟩,
   ⟨0xc124, 0x40, 16, false, [⟨0, 1, .ro⟩, ⟨1, 1, .ro⟩, ⟨2, 1, .ro⟩, ⟨3, 1, .ro⟩, ⟨4, 1, .ro⟩, ⟨5, 1, .ro⟩]⟩,
   ⟨0xc128, 0x40, 16, false, [⟨0, 24, .ro⟩]⟩,
   ⟨0xc12c, 0x40, 16, false, [⟨0, 32, .ro⟩]⟩,
   ⟨0xc130, 0x40, 16, false, [⟨0, 32, .ro⟩]⟩,
   ⟨0xc134, 0x40, 16, false, [⟨0, 32, .ro⟩]⟩,
   ⟨0xc138, 0x40, 16, false, [⟨0, 32, .ro⟩]⟩,
   ⟨0xc13c, 0x40, 16, false, [⟨0, 8, .ro⟩, ⟨8, 8, .ro⟩, ⟨16, 8, .ro⟩, ⟨24, 8, .ro⟩]⟩]
/-- Access codes of the PRT registers. -/
def rowsPrt : List RegRow :=
  [⟨0x10000, 0x800, 32, false, [⟨0, 2, .rwl⟩, ⟨2, 1, .rwl⟩, ⟨3, 1, .rwl⟩, ⟨4, 2, .rwl⟩, ⟨6, 1, .rwl⟩, ⟨8, 2, .rw⟩]⟩,
   ⟨0x10004, 0x800, 32, false, [⟨0, 1, .ro⟩, ⟨1, 1, .ro⟩, ⟨2, 1, .ro⟩, ⟨3, 1, .ro⟩, ⟨4, 1, .ro⟩, ⟨5, 1, .ro⟩, ⟨6, 1, .ro⟩, ⟨7, 1, .ro⟩, ⟨8, 1, .ro⟩, ⟨9, 1, .ro⟩, ⟨10, 1, .ro⟩, ⟨11, 1, .ro⟩, ⟨12, 1, .ro⟩, ⟨13, 1, .w1c⟩, ⟨16, 8, .ro⟩, ⟨24, 3, .ro⟩]⟩,
   ⟨0x10008, 0x800, 32, false, [⟨0, 13, .rwl⟩]⟩,
   ⟨0x1000c, 0x800, 32, false, [⟨0, 32, .rwl⟩]⟩,
   ⟨0x10010, 0x800, 32, false, [⟨0, 16, .rwl⟩]⟩,
   ⟨0x10014, 0x800, 32, false, [⟨0, 14, .rwl⟩]⟩,
   ⟨0x10018, 0x800, 32, false, [⟨0, 1, .rwl⟩, ⟨1, 3, .rwl⟩, ⟨4, 3, .rwl⟩]⟩,
   ⟨0x1001c, 0x800, 32, false, [⟨0, 1, .rwl⟩]⟩,
   ⟨0x10020, 0x800, 32, false, [⟨0, 16, .rwl⟩]⟩,
   ⟨0x10024, 0x800, 32, false, [⟨0, 16, .rwl⟩, ⟨16, 16, .rwl⟩]⟩,
   ⟨0x10028, 0x800, 32, false, [⟨0, 16, .ro⟩, ⟨16, 16, .ro⟩]⟩,
   ⟨0x10030, 0x800, 32, false, [⟨0, 1, .rwl⟩, ⟨1, 1, .rwl⟩, ⟨2, 1, .rwl⟩, ⟨3, 1, .rwl⟩, ⟨4, 14, .rwl⟩, ⟨18, 8, .rwl⟩]⟩,
   ⟨0x10034, 0x800, 32, false, [⟨0, 16, .rwl⟩, ⟨16, 8, .rwl⟩]⟩,
   ⟨0x10038, 0x800, 32, false, [⟨0, 4, .rwl⟩, ⟨4, 4, .rwl⟩, ⟨8, 4, .rwl⟩, ⟨12, 1, .rwl⟩, ⟨16, 4, .ro⟩, ⟨20, 1, .ro⟩, ⟨21, 1, .w1c⟩]⟩,
   ⟨0x1003c, 0x800, 32, false, [⟨0, 1, .rwl⟩, ⟨1, 1, .rwl⟩, ⟨8, 8, .rwl⟩]⟩,
   ⟨0x10040, 0x800, 32, false, [⟨0, 1, .wo⟩, ⟨1, 1, .wo⟩]⟩,
   ⟨0x10044, 0x800, 32, false, [⟨0, 9, .ro⟩, ⟨9, 1, .ro⟩, ⟨10, 1, .ro⟩, ⟨11, 1, .w1c⟩]⟩,
   ⟨0x10048, 0x800, 32, false, [⟨0, 10, .rwl⟩]⟩,
   ⟨0x1004c, 0x800, 32, false, [⟨0, 32, .rwl⟩]⟩]
/-- Access codes of the CLK registers. -/
def rowsClk : List RegRow :=
  [⟨0x20000, 0x0, 1, false, [⟨0, 8, .rwl⟩, ⟨8, 6, .rwl⟩, ⟨16, 7, .rwl⟩, ⟨23, 1, .rwl⟩]⟩,
   ⟨0x20004, 0x0, 1, false, [⟨0, 16, .rwl⟩, ⟨16, 16, .rwl⟩]⟩,
   ⟨0x20008, 0x0, 1, false, [⟨0, 6, .rwl⟩, ⟨8, 16, .rwl⟩]⟩,
   ⟨0x2000c, 0x0, 1, false, [⟨0, 16, .rwl⟩]⟩,
   ⟨0x20010, 0x0, 1, false, [⟨0, 7, .rwl⟩, ⟨16, 16, .rwl⟩]⟩,
   ⟨0x20014, 0x0, 1, false, [⟨0, 24, .ro⟩]⟩,
   ⟨0x20018, 0x0, 1, false, [⟨0, 24, .ro⟩]⟩,
   ⟨0x2001c, 0x0, 1, false, [⟨0, 1, .ro⟩, ⟨1, 1, .ro⟩, ⟨2, 1, .ro⟩, ⟨3, 1, .ro⟩, ⟨8, 8, .ro⟩]⟩,
   ⟨0x20200, 0x8, 16, false, [⟨0, 20, .rwl⟩, ⟨20, 8, .rwl⟩]⟩,
   ⟨0x20204, 0x8, 16, false, [⟨0, 2, .rwl⟩, ⟨2, 1, .rwl⟩, ⟨3, 1, .rwl⟩, ⟨8, 8, .rwl⟩, ⟨16, 8, .rwl⟩]⟩,
   ⟨0x20400, 0x10, 32, false, [⟨0, 32, .rwl⟩]⟩,
   ⟨0x20404, 0x10, 32, false, [⟨0, 32, .rwl⟩]⟩,
   ⟨0x20408, 0x10, 32, false, [⟨0, 7, .rwl⟩, ⟨7, 1, .rwl⟩, ⟨8, 1, .rwl⟩, ⟨9, 1, .rwl⟩, ⟨12, 4, .rwl⟩]⟩,
   ⟨0x2040c, 0x10, 32, false, [⟨0, 32, .ro⟩]⟩,
   ⟨0x20800, 0x20, 64, false, [⟨0, 32, .rwl⟩]⟩,
   ⟨0x20804, 0x20, 64, false, [⟨0, 32, .rwl⟩]⟩,
   ⟨0x20808, 0x20, 64, false, [⟨0, 32, .rwl⟩]⟩,
   ⟨0x2080c, 0x20, 64, false, [⟨0, 32, .rwl⟩]⟩,
   ⟨0x20810, 0x20, 64, false, [⟨0, 32, .rwl⟩]⟩,
   ⟨0x20814, 0x20, 64, false, [⟨0, 12, .rwl⟩, ⟨12, 1, .rwl⟩, ⟨13, 1, .rwl⟩, ⟨14, 1, .rwl⟩, ⟨15, 1, .rwl⟩, ⟨16, 1, .rwl⟩]⟩]
/-- Access codes of the ENG registers. -/
def rowsEng : List RegRow :=
  [⟨0x24000, 0x0, 1, false, [⟨0, 12, .rwl⟩]⟩,
   ⟨0x24004, 0x0, 1, false, [⟨0, 16, .ro⟩, ⟨16, 8, .ro⟩, ⟨24, 8, .ro⟩]⟩,
   ⟨0x24008, 0x0, 1, false, [⟨0, 16, .ro⟩, ⟨16, 2, .ro⟩, ⟨18, 1, .ro⟩, ⟨19, 1, .w1c⟩, ⟨20, 4, .ro⟩, ⟨24, 1, .ro⟩]⟩,
   ⟨0x2400c, 0x0, 1, false, [⟨0, 16, .ro⟩]⟩,
   ⟨0x24010, 0x0, 1, false, [⟨0, 32, .ro⟩]⟩,
   ⟨0x24014, 0x0, 1, false, [⟨0, 32, .ro⟩]⟩,
   ⟨0x24020, 0x4, 4, false, [⟨0, 7, .ro⟩, ⟨8, 1, .ro⟩, ⟨9, 1, .ro⟩]⟩]
/-- Access codes of the NTS registers. -/
def rowsNts : List RegRow :=
  [⟨0x26000, 0x0, 1, false, [⟨0, 1, .rwl⟩, ⟨16, 16, .rwl⟩]⟩,
   ⟨0x26004, 0x0, 1, false, [⟨0, 12, .rwl⟩]⟩,
   ⟨0x26008, 0x0, 1, false, [⟨0, 17, .rwl⟩]⟩,
   ⟨0x2600c, 0x0, 1, false, [⟨0, 16, .rwl⟩, ⟨16, 16, .rwl⟩]⟩,
   ⟨0x26010, 0x0, 1, false, [⟨0, 1, .rwl⟩, ⟨1, 1, .rwl⟩, ⟨2, 1, .rwl⟩, ⟨3, 1, .rwl⟩, ⟨8, 4, .rwl⟩]⟩,
   ⟨0x26014, 0x0, 1, false, [⟨0, 1, .ro⟩, ⟨1, 1, .w1c⟩, ⟨2, 1, .ro⟩, ⟨4, 3, .ro⟩, ⟨8, 8, .ro⟩]⟩,
   ⟨0x26020, 0x4, 4, false, [⟨0, 16, .ro⟩, ⟨16, 3, .ro⟩]⟩,
   ⟨0x26040, 0x4, 8, false, [⟨0, 8, .ro⟩, ⟨8, 1, .ro⟩, ⟨9, 1, .ro⟩]⟩]
/-- Access codes of the PTP registers. -/
def rowsPtp : List RegRow :=
  [⟨0x28000, 0x0, 1, false, [⟨0, 8, .rwl⟩]⟩,
   ⟨0x28004, 0x0, 1, false, [⟨0, 32, .rwl⟩]⟩,
   ⟨0x28008, 0x0, 1, false, [⟨0, 32, .rwl⟩]⟩,
   ⟨0x2800c, 0x0, 1, false, [⟨0, 10, .rwl⟩, ⟨16, 10, .rwl⟩]⟩,
   ⟨0x28010, 0x0, 1, false, [⟨0, 16, .rwl⟩, ⟨16, 16, .rwl⟩]⟩,
   ⟨0x28014, 0x0, 1, false, [⟨0, 17, .ro⟩, ⟨20, 4, .ro⟩, ⟨24, 1, .w1c⟩]⟩,
   ⟨0x28020, 0x4, 8, false, [⟨0, 32, .rwl⟩]⟩,
   ⟨0x28100, 0x20, 4, false, [⟨0, 1, .rwl⟩, ⟨1, 3, .rwl⟩, ⟨4, 8, .rwl⟩, ⟨12, 2, .rwl⟩, ⟨14, 1, .rwl⟩, ⟨15, 1, .rwl⟩, ⟨16, 1, .rwl⟩, ⟨17, 1, .rwl⟩, ⟨18, 1, .rwl⟩, ⟨20, 4, .rwl⟩, ⟨24, 6, .rwl⟩]⟩,
   ⟨0x28104, 0x20, 4, false, [⟨0, 32, .rwl⟩]⟩,
   ⟨0x28108, 0x20, 4, false, [⟨0, 4, .rwl⟩, ⟨4, 4, .rwl⟩, ⟨8, 4, .rwl⟩, ⟨12, 4, .rwl⟩, ⟨16, 4, .rwl⟩]⟩,
   ⟨0x2810c, 0x20, 4, false, [⟨0, 8, .rwl⟩, ⟨8, 8, .rwl⟩, ⟨16, 16, .rwl⟩]⟩,
   ⟨0x28110, 0x20, 4, false, [⟨0, 16, .rwl⟩]⟩,
   ⟨0x28114, 0x20, 4, false, [⟨0, 17, .rwl⟩]⟩,
   ⟨0x28118, 0x20, 4, false, [⟨0, 32, .ro⟩]⟩,
   ⟨0x28200, 0x20, 32, false, [⟨0, 32, .rwl⟩]⟩,
   ⟨0x28204, 0x20, 32, false, [⟨0, 32, .rwl⟩]⟩,
   ⟨0x28208, 0x20, 32, false, [⟨0, 32, .rwl⟩]⟩,
   ⟨0x2820c, 0x20, 32, false, [⟨0, 32, .rwl⟩]⟩,
   ⟨0x28210, 0x20, 32, false, [⟨0, 5, .rwl⟩, ⟨5, 1, .rwl⟩, ⟨6, 1, .rwl⟩, ⟨8, 8, .rwl⟩]⟩,
   ⟨0x28800, 0x20, 32, false, [⟨0, 8, .rwl⟩, ⟨8, 3, .rwl⟩, ⟨12, 2, .rwl⟩, ⟨14, 1, .rwl⟩, ⟨15, 1, .rwl⟩, ⟨16, 4, .rwl⟩, ⟨20, 4, .rwl⟩, ⟨24, 8, .rwl⟩]⟩,
   ⟨0x28804, 0x20, 32, false, [⟨0, 8, .rwl⟩, ⟨8, 4, .rwl⟩, ⟨12, 8, .rwl⟩, ⟨20, 12, .rwl⟩]⟩,
   ⟨0x28808, 0x20, 32, false, [⟨0, 8, .rwl⟩, ⟨8, 1, .rwl⟩, ⟨16, 16, .rwl⟩]⟩,
   ⟨0x2880c, 0x20, 32, false, [⟨0, 32, .rwl⟩]⟩,
   ⟨0x28810, 0x20, 32, false, [⟨0, 32, .ro⟩]⟩,
   ⟨0x28814, 0x20, 32, false, [⟨0, 32, .ro⟩]⟩,
   ⟨0x28818, 0x20, 32, false, [⟨0, 2, .ro⟩, ⟨8, 6, .ro⟩, ⟨14, 2, .ro⟩, ⟨16, 1, .w1c⟩, ⟨17, 1, .w1c⟩]⟩]
/-- Access codes of the TWN registers. -/
def rowsTwn : List RegRow :=
  [⟨0x2a000, 0x0, 1, false, [⟨0, 1, .rwl⟩, ⟨1, 1, .rwl⟩, ⟨2, 1, .rwl⟩, ⟨3, 1, .rwl⟩, ⟨4, 1, .rwl⟩, ⟨8, 8, .rwl⟩, ⟨16, 4, .rwl⟩]⟩,
   ⟨0x2a004, 0x0, 1, false, [⟨0, 16, .rwl⟩, ⟨16, 16, .rwl⟩]⟩,
   ⟨0x2a008, 0x0, 1, false, [⟨0, 16, .rwl⟩]⟩,
   ⟨0x2a00c, 0x0, 1, false, [⟨0, 16, .rwl⟩]⟩,
   ⟨0x2a010, 0x0, 1, false, [⟨0, 16, .rwl⟩]⟩,
   ⟨0x2a014, 0x0, 1, false, [⟨0, 1, .ro⟩, ⟨1, 1, .ro⟩, ⟨2, 2, .ro⟩, ⟨4, 1, .ro⟩, ⟨5, 1, .ro⟩, ⟨6, 1, .ro⟩, ⟨7, 1, .ro⟩, ⟨8, 1, .ro⟩, ⟨9, 1, .ro⟩, ⟨10, 1, .ro⟩, ⟨11, 1, .w1c⟩, ⟨12, 4, .ro⟩]⟩,
   ⟨0x2a018, 0x0, 1, false, [⟨0, 32, .ro⟩]⟩,
   ⟨0x2a01c, 0x0, 1, false, [⟨0, 32, .ro⟩]⟩,
   ⟨0x2a020, 0x0, 1, false, [⟨0, 32, .ro⟩]⟩]
/-- Access codes of the FLC registers. -/
def rowsFlc : List RegRow :=
  [⟨0x2c000, 0x0, 1, false, [⟨0, 10, .rwl⟩, ⟨16, 4, .rwl⟩]⟩,
   ⟨0x2c004, 0x0, 1, false, [⟨0, 11, .rwl⟩, ⟨16, 12, .rwl⟩]⟩,
   ⟨0x2c008, 0x0, 1, false, [⟨0, 16, .rwl⟩, ⟨16, 16, .rwl⟩]⟩,
   ⟨0x2c00c, 0x0, 1, false, [⟨0, 8, .rwl⟩, ⟨8, 8, .rwl⟩]⟩,
   ⟨0x2c010, 0x0, 1, false, [⟨0, 4, .ro⟩, ⟨4, 1, .w1c⟩, ⟨5, 1, .ro⟩, ⟨16, 10, .ro⟩]⟩,
   ⟨0x2c014, 0x0, 1, false, [⟨0, 32, .ro⟩]⟩,
   ⟨0x2c020, 0x4, 4, false, [⟨0, 12, .ro⟩, ⟨16, 12, .ro⟩]⟩]
/-- Access codes of the ERR registers. -/
def rowsErr : List RegRow :=
  [⟨0x2e000, 0x0, 1, false, [⟨0, 4, .rwl⟩]⟩,
   ⟨0x2e004, 0x0, 1, false, [⟨0, 16, .rwl⟩]⟩,
   ⟨0x2e008, 0x0, 1, false, [⟨0, 4, .w1c⟩, ⟨4, 1, .ro⟩, ⟨5, 1, .ro⟩, ⟨6, 1, .ro⟩, ⟨8, 5, .ro⟩, ⟨16, 6, .ro⟩]⟩,
   ⟨0x2e00c, 0x0, 1, false, [⟨0, 32, .ro⟩]⟩,
   ⟨0x2e010, 0x0, 1, false, [⟨0, 8, .wo⟩, ⟨8, 8, .wo⟩, ⟨16, 2, .wo⟩, ⟨18, 1, .wo⟩]⟩,
   ⟨0x2e200, 0x10, 32, false, [⟨0, 32, .ro⟩]⟩,
   ⟨0x2e204, 0x10, 32, false, [⟨0, 32, .ro⟩]⟩,
   ⟨0x2e208, 0x10, 32, false, [⟨0, 32, .ro⟩]⟩,
   ⟨0x2e20c, 0x10, 32, false, [⟨0, 32, .ro⟩]⟩]
/-- Access codes of the PMC registers. -/
def rowsPmc : List RegRow :=
  [⟨0x30000, 0x0, 1, false, [⟨0, 2, .rw⟩, ⟨2, 6, .rw⟩, ⟨16, 8, .rw⟩]⟩,
   ⟨0x30004, 0x0, 1, false, [⟨0, 1, .ro⟩, ⟨1, 1, .ro⟩, ⟨2, 1, .ro⟩, ⟨16, 16, .ro⟩]⟩,
   ⟨0x30008, 0x0, 1, false, [⟨0, 16, .ro⟩]⟩,
   ⟨0x30040, 0x4, 16, false, [⟨0, 32, .w1c⟩]⟩,
   ⟨0x30080, 0x4, 8, false, [⟨0, 32, .w1c⟩]⟩,
   ⟨0x30800, 0x4, 512, false, [⟨0, 10, .rw⟩, ⟨10, 6, .rw⟩, ⟨16, 1, .rw⟩, ⟨30, 1, .ro⟩]⟩,
   ⟨0x31000, 0x4, 512, false, [⟨0, 24, .rw⟩]⟩,
   ⟨0x32000, 0x8, 512, false, [⟨0, 32, .rw⟩]⟩,
   ⟨0x32004, 0x8, 512, false, [⟨0, 16, .rw⟩]⟩]
/-- The whole register map but the 64-bit counters and the MSI-X tables. -/
def regRows : List RegRow :=
  rowsIdc ++ rowsSes ++ rowsRst ++ rowsLcs ++ rowsHrg ++ rowsEvt ++ rowsTbs ++ rowsLst ++ rowsRef ++ rowsHld ++ rowsPin ++ rowsPrt ++ rowsClk ++ rowsEng ++ rowsNts ++ rowsPtp ++ rowsTwn ++ rowsFlc ++ rowsErr ++ rowsPmc

/-- Registers whose host-writable fields do not reset to zero: base, stride, count, value. -/
def resetRows : List (Nat × Nat × Nat × Nat) :=
  [(0x1010, 0x0, 1, 0x3c), (0x201c, 0x0, 1, 0x401), (0x2110, 0x0, 1, 0x2), (0x4010, 0x40, 64, 0x606), (0x4018, 0x40, 64, 0x1), (0x5014, 0x0, 1, 0x3e8), (0x6008, 0x0, 1, 0x600), (0x600c, 0x0, 1, 0x1), (0x6020, 0x0, 1, 0x11111111), (0x8000, 0x0, 1, 0x3), (0x8020, 0x0, 1, 0xf4240), (0x8024, 0x0, 1, 0x2710), (0x802c, 0x0, 1, 0x15180), (0x8038, 0x0, 1, 0x15180), (0x9000, 0x0, 1, 0x1000400), (0x9008, 0x0, 1, 0x64), (0x9040, 0x4, 16, 0x180410), (0xa000, 0x0, 1, 0x960404), (0xa004, 0x0, 1, 0x3e80064), (0xa008, 0x0, 1, 0x3c01f4), (0xa00c, 0x0, 1, 0x64), (0xa010, 0x0, 1, 0x10320064), (0xa014, 0x0, 1, 0x1f403e8), (0xa018, 0x0, 1, 0xa804010), (0xa100, 0x20, 24, 0x11100000)] ++
  [(0xa104, 0x20, 24, 0x3c1080), (0xa108, 0x20, 24, 0x704e0), (0xa10c, 0x20, 24, 0xe09c0), (0xa110, 0x20, 24, 0x10000804), (0xa114, 0x20, 24, 0x12c000a), (0xa118, 0x20, 24, 0xe1004), (0xb000, 0x0, 1, 0x3c043f), (0xb008, 0x0, 1, 0x3c000480), (0xb00c, 0x0, 1, 0x3e80d6b), (0xb014, 0x0, 1, 0x1900), (0xb018, 0x0, 1, 0x1081e3c), (0xb020, 0x0, 1, 0x1e0000a), (0xb024, 0x0, 1, 0x3e8), (0xb028, 0x0, 1, 0x186a0), (0xb058, 0x0, 1, 0xf4240), (0xb05c, 0x0, 1, 0xf4240), (0xb064, 0x0, 1, 0xf4240), (0xb100, 0x20, 18, 0x10040), (0xb104, 0x20, 18, 0x1e848), (0xb108, 0x20, 18, 0x989680), (0xb110, 0x20, 18, 0x5f5e100), (0xc000, 0x0, 1, 0x2), (0xc008, 0x0, 1, 0xf00502), (0xc104, 0x40, 16, 0x48), (0xc108, 0x40, 16, 0x14)] ++
  [(0xc10c, 0x40, 16, 0x3e806400), (0xc110, 0x40, 16, 0x7d0), (0xc114, 0x40, 16, 0x3e80200), (0xc118, 0x40, 16, 0xf4240), (0xc11c, 0x40, 16, 0x3000c350), (0x10000, 0x800, 32, 0xa), (0x10014, 0x800, 32, 0x5f6), (0x10018, 0x800, 32, 0x71), (0x10030, 0x800, 32, 0x191388d), (0x10034, 0x800, 32, 0x100000), (0x10038, 0x800, 32, 0xfb2), (0x1003c, 0x800, 32, 0x6403), (0x20000, 0x0, 1, 0xc00040), (0x20004, 0x0, 1, 0x3c003c), (0x20008, 0x0, 1, 0x271000), (0x2000c, 0x0, 1, 0xfffe), (0x20010, 0x0, 1, 0x7d00064), (0x20200, 0x8, 16, 0x2000100), (0x20204, 0x8, 16, 0x61001), (0x20814, 0x20, 64, 0x19000), (0x24000, 0x0, 1, 0x800), (0x26000, 0x0, 1, 0x1), (0x26008, 0x0, 1, 0xbb8), (0x2600c, 0x0, 1, 0x4e2007d0), (0x26010, 0x0, 1, 0x20f)] ++
  [(0x28000, 0x0, 1, 0x10), (0x2800c, 0x0, 1, 0x3e8000a), (0x28010, 0x0, 1, 0x3e803e8), (0x28100, 0x20, 4, 0xe00000), (0x28108, 0x20, 4, 0x30010), (0x2810c, 0x20, 4, 0x8080), (0x28110, 0x20, 4, 0x4e5d), (0x28114, 0x20, 4, 0x10000), (0x28210, 0x20, 32, 0x8000), (0x28800, 0x20, 32, 0x1e000000), (0x28804, 0x20, 32, 0x6407810), (0x28808, 0x20, 32, 0x27100110), (0x2a000, 0x0, 1, 0xd8019), (0x2a004, 0x0, 1, 0x3e80064), (0x2a008, 0x0, 1, 0x3e8), (0x2a010, 0x0, 1, 0x12c), (0x2c000, 0x0, 1, 0x40100), (0x2c004, 0x0, 1, 0x2000080), (0x2c008, 0x0, 1, 0x6407d0), (0x2c00c, 0x0, 1, 0xa64), (0x2e000, 0x0, 1, 0xc), (0x2e004, 0x0, 1, 0x3e8), (0x30000, 0x0, 1, 0x640000)]

/-- PMC_SEL at reset (16 R415): event in [9:0], object in [15:10]. -/
def pmcSelReset (i : Nat) : Nat :=
  let ev (e o : Nat) := e + 0x400 * o
  if i < 32 then
    ev ([0x010, 0x030, 0x011, 0x031, 0x012, 0x032, 0x013, 0x060].getD (i % 8) 0) (i / 8)
  else if i < 96 then ev 0x020 (i - 32)
  else if i < 160 then ev 0x023 (i - 96)
  else if i < 168 then ev 0x050 (i - 160)
  else if i < 176 then ev 0x104 (i - 168)
  else if i < 208 then ev 0x100 (i - 176)
  else if i < 240 then ev 0x072 (i - 208)
  else if i < 248 then ev ([0x001, 0x042, 0x040, 0x041, 0x043, 0x106, 0x092, 0x0A0].getD (i - 240) 0) 0
  else if i < 256 ∧ i % 2 = 0 then ev 0x014 ((i - 248) / 2)
  else 0

/-- PMC_THR at reset (16 R415). -/
def pmcThrReset (i : Nat) : Nat :=
  if 168 ≤ i ∧ i < 176 then 96
  else if 176 ≤ i ∧ i < 208 then 256
  else if i = 245 then 3072
  else 0

/-- Whether an offset lies in an array of registers. -/
def inArray (base stride count off : Nat) : Bool :=
  off == base || (base ≤ off && stride != 0 && (off - base) % stride == 0 && (off - base) / stride < count)

def resetLookup : List (Nat × Nat × Nat × Nat) → Nat → Nat
  | [], _ => 0
  | (b, st, n, v) :: rest, off => if inArray b st n off then v else resetLookup rest off

/-- The reset value of the register with this key, in its host-writable fields. MSI-X vectors are masked at
reset (PCIe default, 11 R318, R322). -/
def resetWord (key : Nat) : Word :=
  let off := key % 0x100000
  if 0x30800 ≤ off ∧ off < 0x31000 then BitVec.ofNat 32 (pmcSelReset ((off - 0x30800) / 4))
  else if 0x31000 ≤ off ∧ off < 0x31800 then BitVec.ofNat 32 (pmcThrReset ((off - 0x31000) / 4))
  else if 0x7000 ≤ off ∧ off < 0x7410 then (if off % 16 = 12 then 1 else 0)
  else BitVec.ofNat 32 (resetLookup resetRows off)

/-- The registers, as the words that differ from their reset value: keys strictly rising. -/
abbrev RegFile := List (Nat × Word)

/-- The word of a register. -/
def rfGet : RegFile → Nat → Word
  | [], k => resetWord k
  | (k', v) :: rest, k => if k' = k then v else rfGet rest k

/-- Put a word, keeping the keys rising and holding no word equal to its reset value. -/
def rfPut (l : RegFile) (k : Nat) (v : Word) : RegFile :=
  if v = resetWord k then l.filter fun e => e.1 != k else tput l k v

/-- The value of a field in a word. -/
def fieldOf (v : Word) (lo w : Nat) : Nat := v.toNat / 2 ^ lo % 2 ^ w

/-- A word with one field replaced. -/
def withField (v : Word) (lo w x : Nat) : Word :=
  BitVec.ofNat 32 (v.toNat / 2 ^ (lo + w) * 2 ^ (lo + w) + (x % 2 ^ w) * 2 ^ lo + v.toNat % 2 ^ lo)

/-- Whether every word differs from its reset value and the keys rise: the canonical form. -/
def regFileWf : RegFile → Bool
  | [] => true
  | (k, v) :: rest =>
    (v != resetWord k) && (match rest with | [] => true | (k', _) :: _ => decide (k < k')) && regFileWf rest

def rowLookup : List RegRow → Nat → Option (RegRow × Nat)
  | [], _ => none
  | r :: rest, off =>
    if inArray r.base r.stride r.count off then
      some (r, if r.stride = 0 then 0 else (off - r.base) / r.stride)
    else rowLookup rest off

/-- The row of a BAR0 offset and the index in its array; none for a reserved address (17 R431). -/
def regRow? (off : Nat) : Option (RegRow × Nat) := rowLookup regRows off

/-- The counter range an offset lies in: the low word's offset, the copy, and whether the offset is the high word. -/
def counterAt? : List (Nat × Nat × Nat × Nat) → Nat → Option (Nat × Nat × Bool)
  | [], _ => none
  | (b, n, st, k) :: rest, off =>
    let copy := if st = 0 then 0 else (off - b) / st
    let r := (off - b) - copy * st
    if b ≤ off ∧ copy < k ∧ r < 8 * n ∧ r % 4 = 0 then some (off - r % 8, copy, r % 8 = 4)
    else counterAt? rest off

end Sys2Proof.Machine
end

