-- ==== Sys2Proof/Machine/State.lean ====
section
/-! DEFINITION. The state of the block: every register, counter, queue, timer and mode of the spec as plain data,
with the queue of waiting commands, and the state right after reset. Times are in units of 2^-16 ns; `up` is
elapsed time without steps (15 R402), Insole times carry SEC, NS and FRAC of 03 R42 in one number. -/

namespace Sys2Proof.Machine

/-- The eight operating modes (02 R24). -/
inductive Mode where
  | dormant | loading | commission | acquire | locked | holdover | follower | diagnostic
  deriving DecidableEq, Repr

/-- The code of a mode (02 R24). -/
def Mode.code : Mode → Nat
  | .dormant => 0 | .loading => 1 | .commission => 2 | .acquire => 3
  | .locked => 4 | .holdover => 5 | .follower => 6 | .diagnostic => 7

/-- The mode of a 3-bit code (02 R24). -/
def Mode.ofCode : Nat → Mode
  | 0 => .dormant | 1 => .loading | 2 => .commission | 3 => .acquire
  | 4 => .locked | 5 => .holdover | 6 => .follower | _ => .diagnostic

/-- The four variants (00 R1). -/
inductive Variant where
  | kt880 | kt860 | kt840 | kt820
  deriving DecidableEq, Repr

/-- Lifecycle states (14 R381). -/
inductive Lifecycle where
  | blank | provisioned | deployed | retired | rma
  deriving DecidableEq, Repr

def Lifecycle.code : Lifecycle → Nat
  | .blank => 0 | .provisioned => 1 | .deployed => 2 | .retired => 3 | .rma => 4

def Lifecycle.ofCode? : Nat → Option Lifecycle
  | 0 => some .blank | 1 => some .provisioned | 2 => some .deployed
  | 3 => some .retired | 4 => some .rma | _ => none

/-- One copy of the Olfel image in the option store (14 R377, R379). -/
structure OlfelCopy where
  valid : Bool := false
  bytes : Bytes := []
  deriving DecidableEq, Repr

/-- A provisioning key with its privilege mask (11 R290, 14 R385). -/
structure ProvKey where
  key : Bytes
  mask : Nat
  deriving DecidableEq, Repr

/-- Fuse values that never change: the part itself (00 R1, 17 R439). -/
structure Part where
  variant : Variant := .kt880
  silicon : Nat := 0
  moduleRev : Nat := 0
  serial : Nat := 0
  deriving DecidableEq, Repr

/-- What fuses and the option store hold and commands change: no reset of 14 R364 clears any of it (14 R386). -/
structure Nvm where
  lifecycle : Lifecycle := .blank
  /-- The fused owner digest (14 R382); none until fused. -/
  owner : Option Bytes := none
  reprovLeft : Nat := 7
  svnFloor : Nat := 0
  /-- ENG_SVN_MIN.SVN_MIN (08 R213, R229). -/
  engSvnMin : Nat := 0
  copyA : OlfelCopy := {}
  copyB : OlfelCopy := {}
  /-- Provisioning key of each function. -/
  prov : Tab ProvKey := []
  /-- The pairing key K_p (12 R327). -/
  kp : Option Bytes := none
  /-- Whether S4 has saved training values (14 R372). -/
  trained : Bool := false
  /-- The intent record of a lifecycle transition: its target and the owner digest to fuse (14 R384). -/
  intent : Option (Lifecycle × Bytes) := none
  deriving DecidableEq, Repr

/-- What the block puts out, newest first in `Blk.out`. -/
inductive Emit where
  /-- A write to host memory by function func. -/
  | hostWrite (func addr : Nat) (data : Bytes)
  /-- An MSI-X message (11 R315). -/
  | msix (func vector addr data : Nat)
  /-- Words returned by a BAR read. -/
  | readData (func off : Nat) (words : List Word)
  /-- A frame that leaves a port; `at` is the Insole time of its t_tx point. -/
  | frame (port : Nat) (data : Bytes) (at_ : Nat)
  /-- A block sent on the Welt (12 R323). -/
  | welt (kind : Nat) (payload : Bytes)
  /-- A mirror block (12 R331). -/
  | mirror (item : Mirror)
  /-- An edge of an output unit at an Insole time (05 R121). -/
  | edge (unit : Nat) (rising : Bool) (at_ : Int)
  deriving DecidableEq, Repr

/-! ### Host interface (11) -/

inductive SesState where
  | idle | verifying | opened | locked
  deriving DecidableEq, Repr

def SesState.code : SesState → Nat
  | .idle => 0 | .verifying => 1 | .opened => 2 | .locked => 3

/-- The session of one function (11 R290 to R295). -/
structure Ses where
  st : SesState := .idle
  tag : Nat := 0
  failCnt : Nat := 0
  /-- Lockout ends at this elapsed time. -/
  lockUntil : Nat := 0
  /-- The privileges in force while OPEN. -/
  priv : Nat := 0
  /-- The challenge C: index of the first of its 16 free bytes. -/
  chal : Nat := 0
  /-- N_h and M_h as they stood when OPEN was written. -/
  hnonce : Bytes := []
  hmac : Bytes := []
  dnonce : Bytes := []
  dmac : Bytes := []
  ks : Bytes := []
  /-- Elapsed time at which the idle timer last restarted. -/
  idleFrom : Nat := 0
  cause : Nat := 0
  deriving DecidableEq, Repr

/-- A descriptor fetched and not completed (11 R301). -/
structure Desc where
  /-- A number of its own among the descriptors the ring pair has fetched since reset: it names the operation
  even after the ring has been closed and set up again (11 R294). -/
  id : Nat
  /-- Submission index. -/
  idx : Nat
  data : Bytes
  begun : Bool := false
  deriving DecidableEq, Repr

/-- A ring pair (11 R296 to R301). -/
structure Ring where
  running : Bool := false
  /-- ERR_CODE of R300; zero while ERR = 0. -/
  err : Nat := 0
  sqCi : Nat := 0
  cqPi : Nat := 0
  sqPi : Nat := 0
  cqCi : Nat := 0
  /-- ENABLE was cleared and begun operations still run (11 R297). -/
  stopping : Bool := false
  descs : List Desc := []
  irqCnt : Nat := 0
  irqAt : Nat := 0
  /-- Number for the next descriptor. -/
  nextId : Nat := 0
  deriving DecidableEq, Repr

/-- The event ring of a function (11 R310 to R315). -/
structure Evt where
  running : Bool := false
  pi : Nat := 0
  ci : Nat := 0
  lost : Nat := 0
  /-- Records have been lost and LOST and RESUME are owed (11 R314). -/
  gap : Bool := false
  /-- Records dropped since the last LOST record. -/
  lostNow : Nat := 0
  cnt : Nat := 0
  firstAt : Nat := 0
  /-- Vectors whose message waits: masked, or without room for the record. -/
  pend : List Nat := []
  /-- IDC_GSUM as it stood last, for the rises of 17 R443. -/
  gsum : Nat := 0
  /-- Elapsed time of the last record of each bit, by bit. -/
  gAt : Tab Nat := []
  /-- Bits that rose again within 1 ms and wait. -/
  gHeld : Nat := 0
  deriving DecidableEq, Repr

/-- A descriptor by its ring pair and its number there. -/
structure DRef where
  ring : Nat
  id : Nat
  deriving DecidableEq, Repr

/-! ### Reset, boot and lifecycle (14) -/

/-- A unit reset that runs: KIND and INDEX of RST_UNIT, and whether host software asked for it. -/
structure UnitReset where
  kind : Nat
  index : Nat
  byHost : Bool
  deriving DecidableEq, Repr

structure ResetSt where
  /-- Device-reach sources asserted now, by RST_CAUSE code. -/
  asserted : List Nat := []
  /-- Sources asserted since the entry into DORMANT: code and elapsed time. -/
  seen : List (Nat × Nat) := []
  cause : Nat := 1
  multi : Bool := false
  vkeep : Bool := true
  crystal : Bool := true
  startOsc : Bool := true
  oscin : Bool := true
  /-- Elapsed time at which OSCIN last stopped. -/
  oscinUp : Nat := 0
  perst : Bool := false
  /-- The Keep real-time clock: SEC as last loaded and the elapsed time of the load; none while not valid (14 R371,
  03 R44). -/
  rtc : Option (Nat × Nat) := none
  units : List UnitReset := []
  deriving DecidableEq, Repr

/-- The Olfel image in force since S2 (14 R377). -/
structure ImageInfo where
  svn : Nat
  factory : Bool
  deriving DecidableEq, Repr

structure Boot where
  /-- The step that runs, 0 to 9. -/
  step : Option Nat := none
  /-- S9 has completed. -/
  done : Bool := false
  /-- A failed attempt waits its 100 CFG cycles. -/
  restart : Bool := false
  minimal : Bool := false
  copyB : Bool := false
  trainAlt : Bool := false
  patRom : Bool := false
  lanesAlt : Bool := false
  laneFail0 : Nat := 0
  laneFail1 : Nat := 0
  image : Option ImageInfo := none
  deriving DecidableEq, Repr

/-- The lifecycle and option-store machinery (14 R379 to R385, R389). -/
structure Lcs where
  /-- LCS_NONCE: index of its free draw. -/
  nonce : Nat := 64
  /-- Armed target, value written to LCS_ARM, and elapsed time of the arming. -/
  armed : Option (Nat × Nat × Nat) := none
  result : Nat := 0
  lastTarget : Nat := 0
  optBusy : Bool := false
  optCopy : Bool := false
  optResult : Nat := 0
  keyResult : Nat := 0
  deriving DecidableEq, Repr

/-! ### Errors (15) -/

structure ErrEntry where
  cls : Nat
  escalated : Bool
  queued : Bool
  preempted : Bool
  done : Bool
  injected : Bool
  unit : Nat
  code : Nat
  time : Nat
  detail : Nat
  revoked : Nat
  seq : Nat
  deriving DecidableEq, Repr

/-- An error in hand, suspended or queued: its log index, what its action needs, and the item it names (log entry 86). -/
structure ErrJob where
  idx : Nat
  code : Nat
  unit : Nat
  cls : Nat
  escalated : Bool
  injected : Bool
  detail : Nat
  item : Nat
  deriving DecidableEq, Repr

structure Err where
  log : Tab ErrEntry := []
  ptr : Nat := 0x3F
  seq : Nat := 0
  cur : Option ErrJob := none
  suspended : List ErrJob := []
  queue : List ErrJob := []
  /-- Per unit, the last two escalating errors: elapsed time and class. -/
  hist : Tab (List (Nat × Nat)) := []
  /-- Units held isolated by escalation (15 R394), by unit code. -/
  held : List Nat := []
  machineFault : Bool := false
  oscLost : Bool := false
  deriving DecidableEq, Repr

/-! ### Performance counters (16) -/

structure Pmc where
  /-- Counter values that are not zero. -/
  cnt : Tab Nat := []
  /-- High words held by a write (16 R420). -/
  hold : Tab Nat := []
  /-- PMC_OVF0 to 15 and PMC_GAP0 to 7 as one number each. -/
  ovf : Nat := 0
  gap : Nat := 0
  chained : Bool := true
  /-- Wraps whose sample has not been written: counter and Insole time. -/
  samp : List (Nat × Nat) := []
  /-- Saved odd counters while chained (16 R418). -/
  saved : Tab Nat := []
  chainCnt : Nat := 0
  sampLost : Nat := 0
  /-- Sample tokens in thousandths, and the elapsed time to which they are counted (16 R422). -/
  tokens : Nat := 64000
  tokenAt : Nat := 0
  deriving DecidableEq, Repr

/-- A MODE_REQUEST whose drain or exit runs (02 R38 to R40). -/
structure ModeReq where
  target : Mode
  handover : Bool
  ref : DRef
  /-- Frames with a lower number held egress space when it was accepted (02 R39). -/
  from_ : Nat
  deriving DecidableEq, Repr

/-! ### The Insole and the Laster (03). Times are in 2^-16 ns: SEC, NS and FRAC of 03 R42 in one number. -/

/-- A leap (03 R49 to R53). -/
structure Leap where
  /-- +1 or −1. -/
  delta : Int
  /-- M, a UTC count. -/
  m : Nat
  /-- The offset D before the leap. -/
  dOld : Int
  /-- S_L in TAI seconds. -/
  sL : Int
  /-- W0 and W1 of the smear window in 2^-16 ns. -/
  w0 : Int
  w1 : Int
  /-- What the sample at W0 found; none before W0 (03 R53). -/
  sample : Option Bool
  deriving DecidableEq, Repr

structure Insole where
  now : Nat := 0
  running : Bool := false
  timeValid : Bool := false
  /-- Remaining slew in 2^-16 ns times 10^-9, so that RATE in ppb of any elapsed time is exact (03 R55). -/
  slewRem : Int := 0
  stepCnt : Nat := 0
  /-- Size of the last step in 2^-16 ns. -/
  stepLast : Int := 0
  stepGen : Nat := 0
  /-- The pending leap. -/
  leap : Option Leap := none
  /-- The leap taken last, kept for its smear window and for a step back over S_L. -/
  lastLeap : Option Leap := none
  /-- Sum of the sizes of all steps; total of all slew applied, without sign, in 10^-9 of 2^-16 ns (06 R147). -/
  stepSum : Int := 0
  slewSum : Int := 0
  /-- Time for which TIME has been absent since the Insole last started: leases then run on a CFG count (15 R402). -/
  absent : Nat := 0
  deriving DecidableEq, Repr

/-- What an entry of the 4,096 acts for. -/
inductive LPay where
  /-- Armed by LASTER_ARM. -/
  | host
  /-- TIME_ADJUST with an apply time: the descriptor, KIND and value. -/
  | adjust (ref : DRef) (kind : Nat) (value : Int)
  /-- A frame held for launch, by its number in the egress buffer. -/
  | launch (frame : Nat)
  deriving DecidableEq, Repr

/-- A target based on a cycle input (03 R74). -/
structure CycTarget where
  eyelet : Nat
  /-- Cycle number still to come, counted from the next crossing. -/
  n : Nat
  phi : Nat
  deriving DecidableEq, Repr

/-- What an action of a pair knows of the other: its first target and policy; for cycle-based pairs whether both name
the same point (03 R75, R76). -/
structure Partner where
  t0 : Int
  policy : Nat
  same : Bool
  deriving DecidableEq, Repr

/-- One of the 4,096 entries (03 R62). -/
structure LEntry where
  cls : Nat
  obj : Nat
  /-- First target t0; for a cycle entry, the resolved instant of the next occurrence. -/
  t0 : Int
  cyc : Option CycTarget := none
  /-- A cycle entry whose crossing has come. -/
  resolved : Bool := true
  synth : Bool := false
  /-- Targets that crossings since the resolving one have given, oldest first, with whether each is synthetic (03 R74). -/
  since : List (Int × Bool) := []
  period : Nat := 0
  /-- Occurrences; 0 unbounded. -/
  count : Nat := 0
  /-- Next occurrence. -/
  k : Nat := 0
  /-- 0 LATE_RUN, 1 LATE_SKIP, 2 LATE_NEXT. -/
  policy : Nat := 0
  rearm : Bool := false
  notify : Bool := false
  /-- The function that armed it; 4 for the device. -/
  owner : Nat := 4
  /-- Arming order. -/
  seq : Nat := 0
  /-- The other action of a pair. -/
  pair : Option Partner := none
  issued : Bool := false
  spilled : Bool := false
  /-- The last occurrence that ran: its target (for backward steps, 03 R73). -/
  ranAt : Option Int := none
  pay : LPay := .host
  deriving DecidableEq, Repr

/-- The Laster: entries by index, and what it counts. -/
structure Laster where
  ents : Tab LEntry := []
  /-- Generation of each index that has been used. -/
  gens : Tab Nat := []
  /-- One-shot REARM entries that have run, by index. -/
  ended : Tab LEntry := []
  seq : Nat := 0
  lateRun : Nat := 0
  lateSkip : Nat := 0
  lateNext : Nat := 0
  nop : Nat := 0
  /-- Next HOLD_CHECK target (one device entry). -/
  holdCheck : Option Nat := none
  deriving DecidableEq, Repr

/-! ### References and the DPLL (04). Phases are in 2^-16 ns, frequencies as stated. -/

/-- States of a reference slot (04 R88). -/
inductive SlotState where
  | disabled | noSignal | qualifying | wtr | qualified | failed | held | lockedOut
  deriving DecidableEq, Repr

def SlotState.code : SlotState → Nat
  | .disabled => 0 | .noSignal => 1 | .qualifying => 2 | .wtr => 3
  | .qualified => 4 | .failed => 5 | .held => 6 | .lockedOut => 7

/-- A time-of-day label that waits for its edge, or an edge that waits for its label (04 R84). -/
structure Label where
  /-- The labelled second, TAI. -/
  sec : Int
  /-- QERR in ps. -/
  qerr : Int
  /-- Elapsed time of the message's end. -/
  at_ : Nat
  deriving DecidableEq, Repr

/-- One reference slot (04 R79 to R99). -/
structure Slot where
  st : SlotState := .disabled
  frozen : Bool := false
  frozenAt : Nat := 0
  lockoutHeld : Bool := false
  cause : Nat := 0
  bucket : Nat := 0
  /-- Deadline of the QUAL_S or WTR_S timer, in elapsed time. -/
  timer : Option Nat := none
  /-- Departures from QUALIFIED, in elapsed time. -/
  flaps : List Nat := []
  /-- QUALIFIED at some time since it left DISABLED. -/
  wasQual : Bool := false
  /-- Comparison events, newest first: reference time and elapsed time (both 2^-16 ns; log entry 34). -/
  hist : List (Int × Nat) := []
  /-- y_k as an exact fraction: numerator and denominator; denominator 0 for none. -/
  yNum : Int := 0
  yDen : Nat := 0
  /-- Latest x_k. -/
  x : Int := 0
  hasX : Bool := false
  /-- Errors x_k and y_k (10^-11) of the last seconds, newest first: elapsed time, x, y. -/
  past : List (Nat × Int × Option Int) := []
  /-- Elapsed time at which the slot last became eligible. -/
  eligFrom : Option Nat := none
  outvoted : Bool := false
  /-- Base of the unwrapped phase of a frequency-only slot: reference and Insole time when it became eligible. -/
  base : Option (Int × Int) := none
  label : Option Label := none
  /-- Last PPS edge of a GNSS slot that has no label: Insole time and elapsed time. -/
  edge : Option (Int × Nat) := none
  lastSec : Option Int := none
  /-- Insole time of the latest comparison (08 R216). -/
  cmpAt : Option Int := none
  todBad : Nat := 0
  /-- Accuracy in ns of the last binary message; 65535 unknown. -/
  acc : Nat := 65535
  /-- Ensemble: stability estimate in (2^-16 ns)^2, weight in 1/65536, interval count, earlier means. -/
  sig2 : Nat := 0
  weight : Nat := 0
  joinN : Nat := 0
  means : List Int := []
  deriving DecidableEq, Repr

/-- A switch in progress (04 R93). -/
structure Switch where
  target : Nat
  taken : List Int := []
  /-- The held frequency in 0.001 ppb. -/
  freq : Int := 0
  deriving DecidableEq, Repr

structure Refs where
  slots : Tab Slot := []
  selected : Option Nat := none
  /-- Elapsed time at which the choice last changed. -/
  choiceFrom : Nat := 0
  forced : Bool := false
  sw : Option Switch := none
  /-- The sentinel's last round had a split. -/
  split : Bool := false
  swCnt : Nat := 0
  abandCnt : Nat := 0
  /-- The phase error e, and its recent values: elapsed time and e. -/
  e : Int := 0
  eHist : List (Nat × Int) := []
  /-- Steering from OSCIN nominal in 0.001 ppb. -/
  freq : Int := 0
  /-- Steering history, newest first: elapsed time and frequency. -/
  fHist : List (Nat × Int) := []
  /-- Current acquisition step, and elapsed time since which |e| has stayed within LOCK_NS. -/
  acqStep : Nat := 0
  acqFrom : Option Nat := none
  /-- Comparisons in a row beyond UNLOCK_NS. -/
  overCnt : Nat := 0
  /-- Elapsed time since which the lock criteria hold (ACQUIRE). -/
  lockFrom : Option Nat := none
  /-- The DPLL has reached a limit of ±PULL. -/
  atPull : Bool := false
  aligned : Bool := false
  /-- The holdover slot of 02 R30. -/
  holdSlot : Option Nat := none
  /-- The last slot that was selected or had the largest weight. -/
  lastSel : Option Nat := none
  /-- Insole time of the last ensemble update. -/
  ensAt : Option Int := none
  deriving DecidableEq, Repr

/-! ### The Heel and holdover (05 R110 to R120) -/

/-- One learning sample: Insole seconds, mean steering (10^-15), mean T and its slope (1/256 K, 1/256 K/h). -/
structure HeelSample where
  sec : Int
  y : Int
  t : Int
  tdot : Int
  deriving DecidableEq, Repr

structure Heel where
  steering : Bool := false
  modelValid : Bool := false
  learned : Nat := 0
  tempLost : Bool := false
  /-- A good reading has been seen since S8 or since SRC changed. -/
  seen : Bool := false
  bad : Nat := 0
  good : Nat := 0
  /-- T in 1/256 °C and its slope in 1/256 K/h. -/
  t : Int := 0
  tdot : Int := 0
  /-- Good readings of the last RATE_WIN, newest first: elapsed time, T. -/
  readings : List (Nat × Int) := []
  /-- SRC as last sampled. -/
  src : Nat := 0
  epochTaken : Bool := false
  samples : List HeelSample := []
  /-- Learning samples taken since the reset. -/
  count : Nat := 0
  deriving DecidableEq, Repr

/-- A holdover: what is fixed at t_h and what accrues (05 R115 to R119). -/
structure Hold where
  active : Bool := false
  /-- t_h in Insole time and in elapsed time. -/
  th : Nat := 0
  thUp : Nat := 0
  tm : Nat := 0
  /-- y_e in 0.001 ppb, and y_M(t_m) in 10^-15 with whether the model was valid then. -/
  ye : Int := 0
  ym : Int := 0
  ymValid : Bool := false
  /-- E0 in ns times 10^15, and the entry values of UF, UA, UB, ET. -/
  e0 : Nat := 0
  uf : Nat := 0
  ua : Nat := 0
  ub : Nat := 0
  et : Nat := 0
  /-- Seconds accrued by temperature loss before the loss now running, and the elapsed time at which that began. -/
  lossAcc : Nat := 0
  lossFrom : Option Nat := none
  /-- Shown values. -/
  budget : Nat := 0
  elapsed : Nat := 0
  pred : Nat := 0xFFFFFFFF
  deriving DecidableEq, Repr

/-! ### Output units (05 R121 to R128) -/

/-- A realign that waits or runs (05 R126). -/
structure Realign where
  /-- 1 STEP, 2 SLEW. -/
  method : Nat
  /-- ppb. -/
  rate : Nat
  /-- Insole time from which the start edge counts. -/
  apply : Nat
  started : Bool := false
  /-- SLEW: elapsed time up to which it has run. STEP: 1 once the edge that ends it has come. -/
  from_ : Nat := 0
  ref : Option DRef := none
  deriving DecidableEq, Repr

structure OutUnit where
  running : Bool := false
  cfgErr : Bool := false
  gate : Bool := true
  /-- Output held at the inactive level until the next leading edge after every condition has cleared. -/
  squelched : Bool := false
  /-- M in 2^-16 ns. -/
  mis : Int := 0
  /-- Insole time of the pending EDGE: the next leading edge. -/
  next : Int := 0
  /-- A leading edge has been emitted and its trailing edge is due then. -/
  trail : Option Int := none
  /-- t_a of a CLOCK unit. -/
  start : Int := 0
  /-- The next target of a CYCLE unit has been resolved. -/
  due : Bool := false
  /-- Later targets of a CYCLE unit that have been resolved, oldest first. -/
  more : List Int := []
  firstAlign : Bool := false
  realign : Option Realign := none
  deriving DecidableEq, Repr

/-- An OUTPUT_REALIGN that waits for units (05 R127). -/
structure RealignJob where
  ref : DRef
  mask : Nat
  deriving DecidableEq, Repr

structure Outs where
  units : Tab OutUnit := []
  jobs : List RealignJob := []
  deriving DecidableEq, Repr

/-! ### Eyelets and the Awl (06) -/

/-- A record that waits in a channel's queue (06 R141). -/
structure PinRec where
  /-- Insole instant and elapsed instant of the event. -/
  t : Nat
  tUp : Nat
  ty : Nat
  chan : Nat
  flags : Nat
  tail : Bytes
  deriving DecidableEq, Repr

/-- A timestamp that waits to be paired (06 R145). -/
structure PairStamp where
  t : Int
  isStart : Bool
  seq : Nat
  steps : Int
  /-- Elapsed time of its arrival. -/
  upAt : Nat
  /-- Slew total at its arrival. -/
  slews : Int
  deriving DecidableEq, Repr

/-- The measurement and conditioning state of one channel. -/
structure Eyelet where
  level : Bool := false
  /-- Elapsed time of the last transition. -/
  transAt : Nat := 0
  stuck : Bool := false
  chatter : Bool := false
  supCnt : Nat := 0
  preCnt : Nat := 0
  /-- End of the hold-off in elapsed time. -/
  holdEnd : Nat := 0
  /-- Elapsed times of the edges that have passed stage 6 within CHAT_WIN, newest first. -/
  six : List Nat := []
  /-- Elapsed time at which an edge last reached stage 6. -/
  sixAt : Nat := 0
  chatFlag : Bool := false
  windowOpen : Bool := false
  seq : Nat := 0
  decim : Nat := 0
  /-- Records dropped since the last one written. -/
  lost : Nat := 0
  queue : List PinRec := []
  stamps : List PairStamp := []
  armed : Option PairStamp := none
  /-- Frequency gate: index count of stage 5, and the sums over the gate's admitted edges. -/
  idx : Nat := 0
  fN : Nat := 0
  fI : Nat := 0
  fT : Int := 0
  fII : Nat := 0
  fIT : Int := 0
  /-- Start of the gate in force. -/
  fGate : Nat := 0
  fSteps : Int := 0
  fSlew : Int := 0
  /-- Cycle input: number, last crossing (real or synthetic), last real crossing with its step total. -/
  cycN : Nat := 0
  cycLast : Option Int := none
  cycReal : Option (Int × Int) := none
  periods : List Int := []
  synthRun : Nat := 0
  cycOpen : Bool := true
  /-- Die temperature at the last calibration; none before the first. -/
  calTemp : Option Int := none
  calUp : Nat := 0
  spare : Bool := false
  deriving DecidableEq, Repr

/-- A calibration rotation (06 R152): the channel (16 the spare) and the step that runs. -/
structure Rotation where
  chan : Nat
  step : Nat
  deriving DecidableEq, Repr

structure Eyes where
  ch : Tab Eyelet := []
  tbPresent : Bool := false
  /-- Last instant at which TIME was confirmed: Insole and elapsed. -/
  confirmed : Nat := 0
  confirmedUp : Nat := 0
  sensed : Nat := 3
  mismatch : Bool := false
  rot : Option Rotation := none
  /-- Elapsed time at which a rotation last began. -/
  rotFrom : Nat := 0
  deriving DecidableEq, Repr

/-! ### Ports (07) -/

/-- A gate control list (07 R174, R175): base time, cycle in ns, entries of gate state and interval in ns. -/
structure GateList where
  base : Nat
  cycle : Nat
  entries : List (Nat × Nat)
  deriving DecidableEq, Repr

/-- What the Closer writes into a frame at its commit (07 R167, 08 R217, 10 R273, R276). -/
inductive Stamp where
  /-- Nothing. -/
  | keep
  /-- T3 of an NTP response. -/
  | ntp
  /-- One-step Sync. -/
  | sync
  /-- One-step Pdelay_Resp, with t_rx of its Pdelay_Req. -/
  | pdelayResp (tRx : Nat)
  /-- Residence of a forwarded Sync or Delay_Req; the last argument: the IPv4 UDP checksum was zero. -/
  | residence (tRx : Nat) (steps : Int) (zeroSum : Bool)
  /-- The client's Delay_Req or Pdelay_Req: t_tx returns to the client. -/
  | clientReq (seqId : Nat)
  deriving DecidableEq, Repr

/-- A two-step event message whose t_tx its engine waits for (10 R273). -/
structure TwoStep where
  /-- 0 Sync, 1 Pdelay_Resp. -/
  kind : Nat
  inst : Nat
  tRx : Nat
  /-- The event frame as built: its follow-up takes addresses and identities from it. -/
  frame : Bytes
  deriving DecidableEq, Repr

/-- What a frame is (07 R173). -/
inductive TxSrc where
  | response | neighbour | ptp | fwd | esmc | host
  deriving DecidableEq, Repr

/-- A frame that holds egress space (13 R346). -/
structure TxF where
  id : Nat
  port : Nat
  cls : Nat
  /-- From the destination address, without the FCS. -/
  data : Bytes
  src : TxSrc
  eg : Nat
  /-- Lease time of the grant of its egress space (15 R402). -/
  heldFrom : Nat
  stamp : Stamp
  ipCsum : Bool := false
  l4Csum : Bool := false
  two : Option TwoStep := none
  /-- Launch instant L and its Laster entry. -/
  launch : Option Nat := none
  entry : Option Nat := none
  lateSkip : Bool := false
  late : Bool := false
  ref : Option DRef := none
  wantTs : Bool := false
  /-- The NTS context of a sealed response. -/
  ctx : Option Nat := none
  deriving DecidableEq, Repr

structure Port where
  link : Bool := false
  lock : Bool := false
  fecLock : Bool := false
  aligned : Bool := false
  localFault : Bool := false
  remoteFault : Bool := false
  lpiRx : Bool := false
  /-- End of the PAUSE in elapsed time. -/
  pauseEnd : Nat := 0
  /-- End of the PFC pause of each class. -/
  pfcEnd : Tab Nat := []
  /-- Start of the run without a gap of 1 µs: 8 for PAUSE, a class for PFC. -/
  runFrom : Tab Nat := []
  stormEnd : Option Nat := none
  missLast : Nat := 0
  lpiTx : Bool := false
  /-- The wake ends then. -/
  wakeEnd : Nat := 0
  /-- Nothing has been queued since then. -/
  idleFrom : Nat := 0
  qlRx : Nat := 0xF
  qlTimeout : Bool := true
  /-- Elapsed time of the last valid ESMC PDU. -/
  esmcAt : Nat := 0
  /-- Last code sent and the elapsed time of the last information PDU. -/
  qlSent : Nat := 0x10
  esmcTxAt : Nat := 0
  /-- Gate list image of PRT_GCL_DATA: words that are not zero. -/
  image : Tab Nat := []
  gcl : Option GateList := none
  /-- Pending list, its T_c and its Laster entry. -/
  pend : Option (GateList × Nat × Nat) := none
  /-- Tokens of R187 times 65536000000000. -/
  ndTokens : Nat := 4194304000000000
  ndAt : Nat := 0
  /-- Frames that wait, in the order in which they were queued. -/
  queue : List TxF := []
  /-- Frames with an armed launch. -/
  armed : List TxF := []
  /-- The frame committed to a launch point: as it waited, as the Closer has written it, and that point as an Insole time less the
  sum of all steps. -/
  commit : Option (TxF × TxF × Int) := none
  /-- The wire is free from then on. -/
  busyEnd : Nat := 0
  /-- Frames forwarded in the second of elapsed time numbered fwdAt (10 R275). -/
  fwdTokens : Nat := 0
  fwdAt : Nat := 0
  deriving DecidableEq, Repr

/-! ### The serving pipeline (08) -/

/-- An admitted request (08 R195, R208). -/
structure Req where
  num : Nat
  port : Nat
  /-- The frame without the FCS. -/
  data : Bytes
  t2 : Nat
  /-- T2 as lease time (15 R402). -/
  t2Up : Nat
  svc : Nat
  nts : Bool
  k : Nat
  cost : Nat
  /-- Egress space reserved while it waits for a Lane (08 R206). -/
  eg : Nat := 0
  /-- It has waited for egress space; it waits for a context. -/
  egWait : Bool := false
  ctxWait : Bool := false
  deriving DecidableEq, Repr

/-- An exception frame that waits for a buffer (08 R197). -/
structure ExcF where
  port : Nat
  t2 : Nat
  /-- Step total at T2. -/
  steps : Int
  reason : Nat
  data : Bytes
  spilled : Bool
  deriving DecidableEq, Repr

/-- One client row (08 R200). -/
structure Row where
  valid : Bool := false
  v6 : Bool := false
  deny : Bool := false
  pinned : Bool := false
  profSet : Bool := false
  key : Nat := 0
  profile : Nat := 0
  tokens : Nat := 0
  last : Nat := 0
  kodLast : Nat := 0
  served : Nat := 0
  limited : Nat := 0
  kodCnt : Nat := 0
  lastPort : Nat := 0
  aclGen : Nat := 0
  /-- LAST in the ageing index (08 R204). -/
  index : Nat := 0
  deriving DecidableEq, Repr

structure Bucket where
  r0 : Row := {}
  r1 : Row := {}
  deriving DecidableEq, Repr

/-- What an invocation has decided (08 R202, 09 R240). -/
inductive Plan where
  | serve
  | kod (deny : Bool)
  /-- A counted drop: offset of its counter, and whether the return is DROP_LIMIT. -/
  | drop (counter : Nat) (limit : Bool)
  /-- NTS NAK. -/
  | nak
  /-- To the exception ring as EXCEPT_NTS. -/
  | exceptNts
  deriving DecidableEq, Repr

/-- A row to be written back: bucket, place in the bucket, the row. -/
structure WriteBack where
  bucket : Nat
  pos : Nat
  row : Row
  /-- The row as a KoD would leave it (08 R203, 09 R243). -/
  kodRow : Row
  inserted : Bool
  evicted : Bool
  deriving DecidableEq, Repr

/-- An invocation on a Lane (08 R207 to R209). -/
structure Inv where
  entry : Nat
  req : Req
  eg : Nat
  ctx : Option Nat := none
  bucket : Option Nat := none
  started : Bool := false
  /-- Elapsed time of its assignment. -/
  heldFrom : Nat := 0
  /-- Waits for the bucket lock. -/
  lockWait : Bool := false
  /-- Lease time of the lock's grant. -/
  lockFrom : Nat := 0
  /-- Waits for the Store read of its bucket. -/
  storeWait : Bool := false
  /-- Lease time of its start. -/
  startUp : Nat := 0
  plan : Option Plan := none
  wb : Option WriteBack := none
  /-- SELFTEST: the invocation has no request. -/
  self : Bool := false
  deriving DecidableEq, Repr

/-- Who waits for a bucket lock (08 R205, R211). -/
inductive Waiter where
  | lane (n : Nat)
  | op (ref : DRef) (from_ : Nat)
  deriving DecidableEq, Repr

structure CTab where
  rows : Tab Bucket := []
  /-- The SipHash key: 16 bytes. -/
  key : Bytes := []
  /-- Locked buckets: the Lane that holds each. -/
  locks : Tab Nat := []
  /-- Waiters in order, by bucket. -/
  waits : List (Nat × Waiter) := []
  aclGen : Nat := 0
  scanBusy : Bool := false
  scanRefs : List DRef := []
  /-- Buckets that were locked when a scan or flush passed. -/
  scanLeft : List Nat := []
  flushBusy : Bool := false
  flushRef : Option DRef := none
  flushLeft : List Nat := []
  deriving DecidableEq, Repr

structure Clk where
  /-- Admitted requests that wait, in the order in which they were admitted. -/
  reqs : List Req := []
  seq : Nat := 0
  /-- Bytes of each port's ingress share in use. -/
  ingUsed : Tab Nat := []
  /-- Cost offered and admitted per fair bucket in this epoch: section times 65536 plus bucket. -/
  offered : Tab Nat := []
  admitted : Tab Nat := []
  fair : Nat := 0xFFFFFF
  /-- Number of the running epoch: elapsed time in 10 µs. -/
  epoch : Nat := 0
  shedding : Bool := false
  exc : List ExcF := []
  /-- Tokens of R197 times 65536000000000, so that the rate is exact. -/
  excTokens : Nat := 67108864000000000
  excAt : Nat := 0
  /-- Next engine of each Bench. -/
  rr : Tab Nat := []
  deriving DecidableEq, Repr

/-- A running Pattern set (08 R212). -/
structure PSet where
  id : Nat
  major : Nat
  minor : Nat
  svn : Nat
  test : Bool
  /-- Bit n: entry point n is implemented. -/
  entries : Nat
  /-- ENG_PSTAT.SOURCE. -/
  source : Nat
  deriving DecidableEq, Repr

/-- A Pattern load in progress (08 R214). -/
structure PLoad where
  bytes : Bytes
  rolling : Bool
  /-- Benches still to load, the first being drained. -/
  left : List Nat
  first : Bool
  ref : DRef
  deriving DecidableEq, Repr

/-- A SELFTEST in progress (08 R215). -/
structure SelfT where
  engines : List Nat
  addr : Nat
  buf : Bytes
  ref : DRef
  started : Bool := false
  /-- Invocations started. -/
  count : Nat := 0
  /-- Engines whose invocation has ended, with the return code. -/
  ends : List (Nat × Nat) := []
  /-- The largest number of instructions issued. -/
  instr : Nat := 0
  /-- What the scratch of each ended invocation holds. -/
  results : List (Nat × Bytes) := []
  deriving DecidableEq, Repr

structure Eng where
  /-- Invocations by Lane number, engine times 4 plus Lane. -/
  invs : Tab Inv := []
  sets : Tab PSet := []
  /-- The signed operational set, with its image (02 R40). -/
  op : Option PSet := none
  opImage : Bytes := []
  load : Option PLoad := none
  failCode : Nat := 0
  self : Option SelfT := none
  deriving DecidableEq, Repr

/-! ### NTS (09) -/

/-- An epoch slot (09 R245). -/
structure Epoch where
  /-- 0 EMPTY, 1 PENDING, 2 CURRENT, 3 OPEN, 4 RETIRING. -/
  st : Nat := 0
  id : Nat := 0
  key : Bytes := []
  act : Nat := 0
  exp : Nat := 0
  /-- Arming order of its KEY_ROLL entries while they are armed. -/
  actEntry : Option Nat := none
  expEntry : Option Nat := none
  /-- KEY_RETIREs that wait for EMPTY. -/
  refs : List DRef := []
  deriving DecidableEq, Repr

/-- A Stitcher context (09 R232). -/
structure Ctx where
  req : Req
  /-- End of the lease in lease time. -/
  leaseEnd : Nat
  c2s : Bytes := []
  s2c : Bytes := []
  /-- The new cookies as extension fields, and the epoch that sealed them. -/
  cookies : Bytes := []
  cookieEpoch : Nat := 0
  reseals : Nat := 0
  /-- A miss has been handled by waiting for this reason's re-seal: 2 PAUSE, 4 OVERLOAD. -/
  missed : Option Nat := none
  /-- Ready to re-seal since this elapsed time. -/
  ready : Option Nat := none
  /-- Egress bytes its response holds. -/
  eg : Nat := 0
  deriving DecidableEq, Repr

structure Nts where
  epochs : Tab Epoch := []
  /-- Contexts in use: Stitcher times 128 plus index. -/
  ctxs : Tab Ctx := []
  /-- Stitchers isolated by a running action (not held). -/
  iso : List Nat := []
  /-- Stitchers whose key copies do not match the slots. -/
  stale : List Nat := []
  /-- KEY_INSTALLs that wait for a RETIRING slot: reference and the key block's fields. -/
  waits : List (DRef × Nat × Bytes × Nat × Nat) := []
  deriving DecidableEq, Repr

/-! ### PTP (10) -/

/-- A foreign master, seen by an instance or by the client of a port. -/
structure Foreign where
  /-- Instance, or 8 for the port's client. -/
  who : Nat
  port : Nat
  /-- sourcePortIdentity. -/
  ident : Bytes
  /-- The Announce body from originTimestamp on. -/
  ds : Bytes
  /-- flagField. -/
  flags : Nat
  /-- Elapsed times of the last two Announces, newest first. -/
  seen : List Nat
  /-- PTP_MASTER entry, or 0x3F. -/
  entry : Nat
  /-- Announce interval. -/
  iv : Nat
  /-- Source MAC address and VLAN tags. -/
  mac : Bytes
  tags : Bytes
  deriving DecidableEq, Repr

/-- A unicast grant (10 R274). -/
structure Grant where
  msg : Nat
  log : Int
  dur : Nat
  endUp : Nat
  /-- Next sequenceId. -/
  seqId : Nat
  /-- Tokens for Delay_Req answers times 16777216000000000, and the elapsed time to which they are counted. -/
  tokens : Nat
  at_ : Nat
  deriving DecidableEq, Repr

structure PSess where
  port : Nat
  inst : Nat
  ident : Bytes
  /-- Source address: MAC of Ethernet, or IP address. -/
  addr : Bytes
  mac : Bytes
  /-- VLAN tags of the request. -/
  tags : Bytes
  grants : List Grant
  deriving DecidableEq, Repr

/-- A follow-up whose event message has left (10 R273). -/
structure Fup where
  port : Nat
  tTx : Nat
  two : TwoStep
  deriving DecidableEq, Repr

/-- The reference client of one port (10 R277 to R280). Delays are in 2^-16 ns. -/
structure PClient where
  /-- sourcePortIdentity of the master followed, and of the one followed last. -/
  master : Option Bytes := none
  lastMaster : Option Bytes := none
  entry : Nat := 0x3F
  freeze : Nat := 0
  win : List Int := []
  pre : List Int := []
  preHat : Int := 0
  held : List Int := []
  hat : Int := 0
  hasHat : Bool := false
  /-- Samples in a row near the pre-step mean. -/
  back : Nat := 0
  /-- A master change waits for its first sample. -/
  masterNew : Bool := false
  /-- Latest Sync: t1 and t2, and what a two-step Sync still lacks. -/
  sync : Option (Int × Int) := none
  syncWait : Option (Nat × Int × Int) := none
  /-- Delay_Req or Pdelay_Req in flight: sequenceId and t_tx once it has left. -/
  req : Option (Nat × Option Int) := none
  /-- Pdelay: t2 (requestReceipt) and t4, correction, of a two-step answer. -/
  pd : Option (Nat × Int × Int) := none
  seqId : Nat := 0
  /-- x of the slot less x of another, newest first: elapsed time, the other slot, the difference; and the anchor slot. -/
  q : List (Nat × Nat × Int) := []
  anchor : Option Nat := none
  /-- Elapsed time of the first sample of the run of held samples, of the run that was the step, and of the start of the
  post-step window. -/
  runAt : Nat := 0
  stepAt : Nat := 0
  postFrom : Option Nat := none
  estDone : Bool := false
  /-- Grants held from masters: entry, message type, end and duration. -/
  grants : List (Nat × Nat × Nat × Nat) := []
  deriving DecidableEq, Repr

structure Ptp where
  foreign : List Foreign := []
  /-- Port mask on which each instance is PASSIVE. -/
  passive : Tab Nat := []
  /-- Elapsed time of the last better Announce: 32 times the instance plus the port. -/
  betterAt : Tab Nat := []
  sess : List PSess := []
  /-- Multicast sequence identifiers: instance, port and message type in one key. -/
  seqs : Tab Nat := []
  fups : List Fup := []
  clients : Tab PClient := []
  /-- The client's own unicast sessions run on these sequence numbers. -/
  sigSeq : Nat := 0
  /-- Last grid point passed of each port and message interval: 16 times the port plus 8 plus the log; 512 plus the port: of the
  client's requests. -/
  sweeps : Tab Nat := []
  deriving DecidableEq, Repr

/-! ### The twin (12) -/

structure Twin where
  link : Bool := false
  attached : Bool := false
  /-- 0 none, 1 leader, 2 follower, 3 orphaned. -/
  role : Nat := 0
  track : Bool := false
  trackRun : Nat := 0
  claimOut : Bool := false
  claimIn : Bool := false
  /-- Elapsed time at which TWARB_B fell. -/
  lowFrom : Nat := 0
  armFault : Bool := false
  testFails : Nat := 0
  mirrorSync : Bool := false
  peerResetOk : Bool := false
  resetOk : Bool := false
  attFail : Nat := 0
  proofFails : Nat := 0
  /-- AUTO has stopped; elapsed time before which it does not retry, 0 where no attempt has failed. -/
  autoStop : Bool := false
  retryAt : Nat := 0
  xPs : Int := 0
  peerSerial : Nat := 0
  /-- The peer's mode as last reported, by its code. -/
  peerMode : Nat := 0
  peerStatus : Nat := 0
  peerTrack : Bool := false
  /-- The link key K_w. -/
  linkKey : Bytes := []
  /-- A FAIL or HANDOVER block has come from the leader, at this elapsed time. -/
  failAt : Option Nat := none
  /-- The link has been lost while attached, at this elapsed time. -/
  lostAt : Option Nat := none
  /-- Mirror queue of the leader: changes that wait for a credit; and the elapsed time of the last credit. -/
  queue : Nat := 0
  creditAt : Nat := 0
  /-- Attach command that waits, and its elapsed time. -/
  attachRef : Option (DRef × Nat) := none
  switchRef : Option DRef := none
  /-- The handover has been sent and the old leader waits for the peer's claim. -/
  handed : Bool := false
  /-- Elapsed time since which both modules claim with the link down. -/
  bothFrom : Option Nat := none
  /-- The leader's pool index and UTC state while attached as a follower. -/
  poolIdx : Option Nat := none
  /-- Departure of the last marker of this module; arrival of the last marker of the peer, with the sum of all steps then. -/
  txMark : Option Int := none
  rxMark : Option (Int × Int) := none
  deriving DecidableEq, Repr

/-! ### Flow (13) -/

/-- A TX_FRAME that waits for its resources (13 R349, R359). -/
structure TxWait where
  ref : DRef
  frame : TxF
  /-- Elapsed time from which TXW_US runs. -/
  from_ : Nat
  held : Bool
  deriving DecidableEq, Repr

structure Flow where
  /-- Bytes of egress space in use for each port. -/
  egUsed : Tab Nat := []
  seq : Nat := 0
  waits : List TxWait := []
  /-- Consecutive BUSY_RETRY completions: ring pair times 256 plus opcode. -/
  busyRuns : Tab Nat := []
  /-- CLIENT_TABLE_OPs that wait under escalation. -/
  heldOps : List DRef := []
  /-- Completions of TX_FRAMEs that have left or missed their launch: descriptor, status, result. -/
  done : List (DRef × Nat × Bytes) := []
  deriving DecidableEq, Repr

/-! ### The whole block -/

/-- Everything but the queue, the fuses and the option store. -/
structure Blk where
  part : Part := {}
  /-- Elapsed time in 2^-16 ns, which no step moves (15 R402). -/
  up : Nat := 0
  /-- The MODEL's own counter of free values (log entry 3). -/
  freeCtr : Nat := 65
  /-- The MODEL's own list of what has left the block, newest first. -/
  out : List Emit := []
  regs : RegFile := []
  /-- 64-bit counters, by the offset of their low word (17 R429). -/
  ctr : Tab Nat := []
  /-- Read latches: 2^20 times the function plus the offset of the latched word (17 R429). -/
  latch : Tab Nat := []
  mode : Mode := .dormant
  lastMode : Mode := .dormant
  entryCause : Nat := 0
  holdExpired : Bool := false
  modeReq : Option ModeReq := none
  rst : ResetSt := {}
  boot : Boot := {}
  lcs : Lcs := {}
  ses : Tab Ses := []
  rings : Tab Ring := []
  evts : Tab Evt := []
  err : Err := {}
  pmc : Pmc := {}
  ins : Insole := {}
  laster : Laster := {}
  refs : Refs := {}
  heel : Heel := {}
  hold : Hold := {}
  outs : Outs := {}
  eyes : Eyes := {}
  ports : Tab Port := []
  clk : Clk := {}
  ct : CTab := {}
  eng : Eng := {}
  nts : Nts := {}
  ptp : Ptp := {}
  twin : Twin := {}
  flow : Flow := {}
  /-- RST_FEAT_ABSENT (02 R34). -/
  featAbsent : Nat := 0
  /-- Die temperature in °C, as the last command that carried it gave it (17 R442). -/
  tj : Int := 0
  deriving DecidableEq, Repr

/-- The state of the block: what fuses and the option store hold, the rest, and the commands that wait, first
in, first out. -/
structure State where
  pending : List Instr
  nvm : Nvm
  blk : Blk
  deriving DecidableEq, Repr

/-- The block right after reset: VIN power-on and VKEEP power-on together (14 R366, R367; log entry 2). The source
VIN power-on is still asserted, KEEP has been cleared and the reset counter reads 1. -/
def Blk.reset : Blk :=
  { rst := { asserted := [1], seen := [(1, 0)], cause := 1, multi := false, vkeep := true }
    regs := [(R.RST_KEEP, 0x80000001)]
    ses := [(1, { chal := 16 }), (2, { chal := 32 }), (3, { chal := 48 })] }

/-- Fuses and option store as shipped (00 R7): BLANK, both copies hold the factory image, no key is present. -/
def Nvm.shipped : Nvm := { copyA := ⟨true, Config.factoryImage⟩, copyB := ⟨true, Config.factoryImage⟩ }

/-- The state right after reset: DORMANT, no command waits, fuses and option store as shipped. -/
def State.reset : State := { pending := [], nvm := Nvm.shipped, blk := Blk.reset }

/-- No command of this block faults: the type has no constructor that a meaning answers with unless it is named here. -/
inductive Fault where
  /-- Reserved for a stop that the spec names as one; no meaning raises it (safe). -/
  | stuck
  deriving DecidableEq, Repr

/-- Refusals. -/
inductive Refusal where
  /-- The command has no meaning in this model yet; raised by `exec` only (safe). -/
  | notModelled (mnemonic : String)
  deriving DecidableEq, Repr

end Sys2Proof.Machine
end

