-- ==== Sys2Proof/Machine/Access.lean ====
section
/-! DEFINITION. Named reads and writes of register fields and counters, the units of time, and which units are
fitted, held and working. -/

namespace Sys2Proof.Machine

/-! ### Units of time: 2^-16 ns -/

/-- n nanoseconds. -/
def nsU (n : Nat) : Nat := n * 65536

/-- n microseconds. -/
def usU (n : Nat) : Nat := n * 65536000

/-- n milliseconds. -/
def msU (n : Nat) : Nat := n * 65536000000

/-- n seconds. -/
def secU (n : Nat) : Nat := n * 65536000000000

/-- Picoseconds as 2^-16 ns, rounded down. -/
def psU (x : Int) : Int := x * 65536 / 1000

/-- CORE cycles of 0.8 ns in an elapsed time. -/
def coreCycles (u : Nat) : Nat := u * 5 / 262144

/-- SEC of an Insole time (03 R42). -/
def secOf (t : Nat) : Nat := t / 65536000000000

/-- NS of an Insole time. -/
def nsOf (t : Nat) : Nat := t / 65536 % 1000000000

/-- FRAC of an Insole time. -/
def fracOf (t : Nat) : Nat := t % 65536

/-- The short time of an Insole time (03 R59): whole nanoseconds modulo 2^32. -/
def shortOf (t : Nat) : Nat := t / 65536 % 0x100000000

/-- The 12 bytes of a time in a descriptor or a record (11 R303). -/
def timeB (t : Nat) : Bytes := leB 6 (secOf t) ++ leB 4 (nsOf t) ++ leB 2 (fracOf t)

/-- The 12-byte time at an offset; none where NS is 10^9 or more (11 R303: MALFORMED). -/
def timeAt (bs : Bytes) (off : Nat) : Option Nat :=
  let ns := leAt bs (off + 6) 4
  if ns ≥ 1000000000 then none
  else some (leAt bs off 6 * 65536000000000 + ns * 65536 + leAt bs (off + 10) 2)

/-- The 10-byte short-form time at an offset (11 R303). -/
def time10At (bs : Bytes) (off : Nat) : Option Nat :=
  let ns := leAt bs (off + 6) 4
  if ns ≥ 1000000000 then none else some (leAt bs off 6 * 65536000000000 + ns * 65536)

/-! ### Register fields and counters -/

/-- The value of a field. -/
def Blk.rd (b : Blk) (f : BF) : Nat := fieldOf (rfGet b.regs f.off) f.lo f.w

/-- Write a field. -/
def Blk.wr (b : Blk) (f : BF) (v : Nat) : Blk :=
  { b with regs := rfPut b.regs f.off (withField (rfGet b.regs f.off) f.lo f.w v) }

/-- Whether a one-bit field is 1. -/
def Blk.flag (b : Blk) (f : BF) : Bool := b.rd f != 0

/-- Set a one-bit field. -/
def Blk.setF (b : Blk) (f : BF) : Blk := b.wr f 1

/-- A signed field. -/
def Blk.rdS (b : Blk) (f : BF) : Int := toSigned (b.rd f) f.w

/-- Write a whole register word. -/
def Blk.wrW (b : Blk) (off v : Nat) : Blk := { b with regs := rfPut b.regs off (BitVec.ofNat 32 v) }

/-- A whole register word. -/
def Blk.rdW (b : Blk) (off : Nat) : Nat := (rfGet b.regs off).toNat

/-- Add to a 64-bit counter, wrapping (17 R429). -/
def Blk.incN (b : Blk) (c n : Nat) : Blk :=
  { b with ctr := tput b.ctr c ((tget 0 b.ctr c + n) % 0x10000000000000000) }

/-- Add one to a 64-bit counter. -/
def Blk.inc (b : Blk) (c : Nat) : Blk := b.incN c 1

/-- Draw n fresh free bytes (log entry 3). -/
def freeBytes : Nat → Nat → Bytes
  | 0, _ => []
  | n + 1, i => Config.freeByte i :: freeBytes n (i + 1)

/-- Advance the counter of free values. -/
def Blk.draw (b : Blk) (n : Nat) : Blk := { b with freeCtr := b.freeCtr + n }

/-- The next free number below m (0 where m is 0); advance the counter after it. -/
def Blk.freeBelow (b : Blk) (m : Nat) : Nat := Config.freeNat b.freeCtr % m

/-- Put something out. -/
def Blk.put (b : Blk) (e : Emit) : Blk := { b with out := e :: b.out }

/-- Add to a wrapping counter of w bits in a register field. -/
def Blk.addF (b : Blk) (f : BF) (n : Nat) : Blk := b.wr f ((b.rd f + n) % 2 ^ f.w)

/-- Add to a saturating counter in a register field. -/
def Blk.satF (b : Blk) (f : BF) (n : Nat) : Blk := b.wr f (satNat (b.rd f + n) f.w)

/-- A field that reads as the nearer end of a range (17 R431). -/
def clampN (lo hi v : Nat) : Nat := if v < lo then lo else if v > hi then hi else v

/-- A field whose value 0 reads as 1. -/
def atLeast1 (v : Nat) : Nat := if v = 0 then 1 else v

/-! ### Fitted units (00 R1, 17 R440, R441) -/

/-- Number of fitted ports. -/
def Variant.ports : Variant → Nat
  | .kt880 => 32 | .kt860 => 32 | .kt840 => 16 | .kt820 => 8

/-- Number of fitted Eyelets. -/
def Variant.eyelets : Variant → Nat
  | .kt820 => 8 | _ => 16

/-- Number of fitted Benches. -/
def Variant.benches : Variant → Nat
  | .kt880 => 4 | .kt860 => 4 | .kt840 => 2 | .kt820 => 1

/-- Number of fitted Stitchers. -/
def Variant.stitchers : Variant → Nat
  | .kt880 => 8 | .kt860 => 0 | .kt840 => 4 | .kt820 => 0

/-- Whether the Welt interface is fitted. -/
def Variant.welt : Variant → Bool
  | .kt820 => false | _ => true

/-- IDC_ID.PART (17 R439). -/
def Variant.code : Variant → Nat
  | .kt880 => 0x88 | .kt860 => 0x86 | .kt840 => 0x84 | .kt820 => 0x82

/-- IDC_CAP2.STORE_GIB (17 R441). -/
def Variant.storeGib : Variant → Nat
  | .kt880 => 4 | .kt860 => 4 | .kt840 => 2 | .kt820 => 1

/-- IDC_CAP2.CT_LOG2 (17 R441). -/
def Variant.ctLog2 : Variant → Nat
  | .kt880 => 26 | .kt860 => 26 | .kt840 => 25 | .kt820 => 24

/-- Rated plain NTP rate N in M/s and the quota Q at full strength (08 R223). -/
def Variant.fullQuota : Variant → Nat
  | .kt880 => 210000 | .kt860 => 210000 | .kt840 => 105000 | .kt820 => 52080

/-- Fitted Welt lanes (17 R441). -/
def Variant.weltLanes (v : Variant) : Nat := if v.welt then 3 else 0

/-- Bits [3:0] of IDC_CAP3 and [7:0] (17 R441). -/
def Variant.cap3 (v : Variant) : Nat := if v.welt then 0x7F else 0x7E

/-- Whether step S6 of the present boot has passed (17 R440). -/
def Blk.s6Passed (b : Blk) : Bool :=
  (b.boot.done || (match b.boot.step with | some n => decide (6 < n) | none => false)) && !b.boot.minimal

/-- IDC_CAP0.PORTS (17 R440): fitted lanes that passed S6 in this boot. -/
def Blk.capPorts (b : Blk) : Nat :=
  if b.s6Passed then (2 ^ b.part.variant.ports - 1) &&& (0xFFFFFFFF ^^^ b.boot.laneFail0) else 0

/-- IDC_CAP1.WELT. -/
def Blk.capWelt (b : Blk) : Nat :=
  if b.s6Passed then b.part.variant.weltLanes &&& (3 ^^^ b.boot.laneFail1) else 0

/-- Whether lanes 4g to 4g + 3 are all usable. -/
def Blk.gangOk (b : Blk) (g : Nat) : Bool := b.capPorts / 2 ^ (4 * g) % 16 == 15

/-- Whether lane p is a member, other than the lowest, of a gang (07 R158). -/
def Blk.gangMember (b : Blk) (p : Nat) : Bool :=
  p % 4 != 0 && b.flag (R.PRT_CTRL_GANG (p / 4 * 4)) && bitOf b.capPorts (p / 4 * 4)

/-- Whether port p is present as a port of its own: its lane is usable and it is no gang member. -/
def Blk.portPresent (b : Blk) (p : Nat) : Bool := p < 32 && bitOf b.capPorts p && !b.gangMember p

/-- Whether port p runs as a gang. -/
def Blk.ganged (b : Blk) (p : Nat) : Bool := p % 4 == 0 && b.flag (R.PRT_CTRL_GANG p)

def Blk.eyeletPresent (b : Blk) (e : Nat) : Bool := e < b.part.variant.eyelets
def Blk.benchPresent (b : Blk) (i : Nat) : Bool := i < b.part.variant.benches
def Blk.enginePresent (b : Blk) (e : Nat) : Bool := e < 16 * b.part.variant.benches
def Blk.stitcherPresent (b : Blk) (s : Nat) : Bool := s < b.part.variant.stitchers

/-- The Bench of a port (01 R9). -/
def benchOfPort (p : Nat) : Nat := p / 8

/-- Whether an output unit is fitted: with its Eyelet, or CLKOUT (05 R131, 17 R440). -/
def Blk.unitPresent (b : Blk) (u : Nat) : Bool := u == 16 || u == 17 || b.eyeletPresent u

/-! ### Held, resetting and working units (15 R394, 08 R220) -/

/-- Whether a unit is held isolated, by its unit code. -/
def Blk.isHeld (b : Blk) (code : Nat) : Bool := b.err.held.contains code

/-- Whether a reset of this KIND and INDEX runs. -/
def Blk.resetting (b : Blk) (kind index : Nat) : Bool :=
  b.rst.units.any fun u => u.kind == kind && u.index == index

/-- Whether Bench i serves: fitted, not held, not under reset. -/
def Blk.benchUp (b : Blk) (i : Nat) : Bool :=
  b.benchPresent i && !b.isHeld (0x40 + i) && !b.resetting 1 i && !b.boot.minimal

/-- Whether Bench i is being loaded with a Pattern set now (08 R214). -/
def Blk.benchLoading (b : Blk) (i : Nat) : Bool :=
  match b.eng.load with
  | none => false
  | some l => if l.rolling then l.left.head? == some i else b.benchPresent i

/-- Whether engine e works (08 R220): not isolated, not being loaded, not in a Bench under reset. -/
def Blk.engineWorking (b : Blk) (e : Nat) : Bool :=
  b.enginePresent e && b.benchUp (e / 16) && !b.isHeld e && !b.resetting 2 e && !b.benchLoading (e / 16)

/-- Whether Stitcher s is isolated (NTS_STCH.ISOLATED): held, isolated by an action, or in a held Bench. -/
def Blk.stitcherIso (b : Blk) (s : Nat) : Bool :=
  b.isHeld (0x48 + s) || b.nts.iso.contains s || b.isHeld (0x40 + s / 2)

/-- Whether Stitcher s works: fitted, not isolated, its Bench up. -/
def Blk.stitcherWorking (b : Blk) (s : Nat) : Bool :=
  b.stitcherPresent s && !b.stitcherIso s && b.benchUp (s / 2)

/-- Working Stitchers as a mask (NTS_STATUS.WORKING: fitted and not isolated). -/
def Blk.stitcherMask (b : Blk) : Nat :=
  ((List.range 8).map fun s => if b.stitcherPresent s && !b.stitcherIso s then 2 ^ s else 0).sum

/-- Number of working engines. -/
def Blk.workingEngines (b : Blk) : Nat := ((List.range 64).filter fun e => b.engineWorking e).length

/-- Whether the clock domains that derive from OSCIN run: no loss of OSCIN, and S8 has started the Insole. -/
def Blk.timeRuns (b : Blk) : Bool := b.ins.running

/-- The lease time of an Insole time of the present step: elapsed Insole time with every step removed, on a CFG count
while TIME is absent (15 R402). -/
def Blk.leaseAt (b : Blk) (t : Int) : Nat := (t - b.ins.stepSum + b.ins.absent).toNat

/-- Lease time now. -/
def Blk.leaseNow (b : Blk) : Nat := b.leaseAt b.ins.now

/-! ### Sub-states by index -/

def Blk.sesOf (b : Blk) (f : Nat) : Ses := tget {} b.ses f
def Blk.setSes (b : Blk) (f : Nat) (s : Ses) : Blk := { b with ses := tput b.ses f s }
def Blk.ringOf (b : Blk) (r : Nat) : Ring := tget {} b.rings r
def Blk.setRing (b : Blk) (r : Nat) (x : Ring) : Blk := { b with rings := tput b.rings r x }
def Blk.evtOf (b : Blk) (f : Nat) : Evt := tget {} b.evts f
def Blk.setEvt (b : Blk) (f : Nat) (x : Evt) : Blk := { b with evts := tput b.evts f x }
def Blk.slotOf (b : Blk) (i : Nat) : Slot := tget {} b.refs.slots i
def Blk.setSlot (b : Blk) (i : Nat) (x : Slot) : Blk :=
  { b with refs := { b.refs with slots := tput b.refs.slots i x } }
def Blk.outOf (b : Blk) (u : Nat) : OutUnit := tget {} b.outs.units u
def Blk.setOut (b : Blk) (u : Nat) (x : OutUnit) : Blk :=
  { b with outs := { b.outs with units := tput b.outs.units u x } }
def Blk.eyeOf (b : Blk) (e : Nat) : Eyelet := tget {} b.eyes.ch e
def Blk.setEye (b : Blk) (e : Nat) (x : Eyelet) : Blk :=
  { b with eyes := { b.eyes with ch := tput b.eyes.ch e x } }
def Blk.portOf (b : Blk) (p : Nat) : Port := tget {} b.ports p
def Blk.setPort (b : Blk) (p : Nat) (x : Port) : Blk := { b with ports := tput b.ports p x }
def Blk.epochOf (b : Blk) (n : Nat) : Epoch := tget {} b.nts.epochs n
def Blk.setEpoch (b : Blk) (n : Nat) (x : Epoch) : Blk :=
  { b with nts := { b.nts with epochs := tput b.nts.epochs n x } }
def Blk.clientOf (b : Blk) (p : Nat) : PClient := tget {} b.ptp.clients p
def Blk.setClient (b : Blk) (p : Nat) (x : PClient) : Blk :=
  { b with ptp := { b.ptp with clients := tput b.ptp.clients p x } }

/-- The function that owns ring pair r (11 R296). -/
def Blk.ringOwner (b : Blk) (r : Nat) : Nat := b.rdW (R.HRG_ASSIGN (r / 16)) / 4 ^ (r % 16) % 4

/-- Entries of a ring of 2^LOG, LOG read within 6 to 16 (11 R321). -/
def ringLen (log : Nat) : Nat := 2 ^ clampN 6 16 log

/-- A 64-bit address from its low and high register words. -/
def Blk.addr64 (b : Blk) (lo hi : Nat) : Nat := b.rdW lo + b.rdW hi * 0x100000000

end Sys2Proof.Machine
end

