-- ==== Sys2Proof/Machine/Flags.lean ====
section
/-! DEFINITION. Status bits that the device derives from its state: features in effect (02 R34 to R36), service
in each mode (02 R28), the leap and smear flags (03 R51, R52), the global status, the global interrupt summary
and ALERT_N (17 R442, 15 R406). -/

namespace Sys2Proof.Machine

/-! ### Features -/

/-- Bits of 02 R32. -/
def featNtp : Nat := 0
def featNts : Nat := 1
def featGm : Nat := 2
def featRef : Nat := 3
def featTc : Nat := 4
def featSynceIn : Nat := 5
def featSynceOut : Nat := 6
def featGates : Nat := 7
def featSeal : Nat := 8
def featLpi : Nat := 9
def featSmear : Nat := 10
def featTwin : Nat := 11
def featPool : Nat := 12

/-- A mask of feature bits. -/
def featMask (l : List Nat) : Nat := (l.map fun i => 2 ^ i).sum

/-- Whether every one of a non-empty list of instances is held (02 R34). -/
def allHeld (l : List Bool) : Bool := !l.isEmpty && l.all id

/-- Features whose unit is absent or wholly isolated (02 R34, 17 R441). -/
def Blk.unusable (b : Blk) : Nat :=
  let v := b.part.variant
  let benchesHeld := allHeld ((List.range v.benches).map fun i => b.isHeld (0x40 + i))
  let enginesHeld := allHeld ((List.range (16 * v.benches)).map fun e => b.isHeld e || b.isHeld (0x40 + e / 16))
  let stitchHeld := allHeld ((List.range v.stitchers).map fun s => b.isHeld (0x48 + s) || b.isHeld (0x40 + s / 2))
  let ports := (List.range 32).filter fun p => bitOf b.capPorts p
  let portsHeld := allHeld (ports.map fun p => b.isHeld (0x60 + p) || b.isHeld (0x40 + p / 8))
  (if v.stitchers = 0 || stitchHeld then featMask [featNts, featSeal, featPool] else 0)
  ||| (if !v.welt || b.capWelt != 3 || b.isHeld 0x86 then featMask [featTwin] else 0)
  ||| (if enginesHeld then featMask [featNtp, featGm, featRef] else 0)
  ||| (if benchesHeld then featMask [featTc, featGates, featSeal] else 0)
  ||| (if portsHeld then featMask [featSynceOut, featLpi] else 0)

/-- device_eff of 02 R36. -/
def deviceEff (en unusable : Nat) : Nat :=
  let f := en &&& (0x1FFF ^^^ (unusable &&& 0x1FFF))
  if bitOf f featNts then f else f &&& (0x1FFF ^^^ featMask [featSeal, featPool])

/-- RST_FEAT_EFF. -/
def Blk.devEff (b : Blk) : Nat := deviceEff (b.rd R.RST_FEATURE_EN) b.unusable

/-- Whether a device feature is effective. -/
def Blk.feat (b : Blk) (i : Nat) : Bool := bitOf b.devEff i

/-- Slots bound to a source of this kind and object (04 R79). -/
def Blk.boundTo (b : Blk) (kind obj : Nat) : Bool :=
  (List.range 24).any fun i => b.rd (R.REF_SRC_KIND i) == kind && b.rd (R.REF_SRC_OBJ i) == obj

/-- The forwarding group of port p: the lowest whose mask contains it (10 R275). -/
def Blk.fwdGroup (b : Blk) (p : Nat) : Option Nat :=
  (List.range 8).find? fun g => bitOf (b.rdW (R.PTP_FWD g)) p

/-- The features of port scope that the port's and the device's bits allow, with the implicit gates (02 R33, R36). -/
def Blk.portFeat0 (b : Blk) (p : Nat) : Nat :=
  let f := b.devEff &&& b.rd (R.PRT_FEATURE_EN p) &&& 0x3FC
  if bitOf f featSeal then f ||| 2 ^ featGates else f

/-- Whether a port carries PTP event traffic (02 R35). -/
def Blk.carriesPtp (b : Blk) (p : Nat) : Bool :=
  bitOf (b.portFeat0 p) featGm || b.ptp.sess.any (fun s => s.port == p) || b.boundTo 4 p || (b.fwdGroup p).isSome

/-- port_eff of 02 R36. -/
def Blk.portEff (b : Blk) (p : Nat) : Nat :=
  let f := b.portFeat0 p
  if bitOf f featLpi && (b.carriesPtp p || b.boundTo 5 p || bitOf f featGates || bitOf f featSynceOut) then
    f - 2 ^ featLpi else f

/-- Whether a feature of port scope acts on port p. -/
def Blk.pfeat (b : Blk) (p i : Nat) : Bool := bitOf (b.portEff p) i

/-- Whether LPI is enabled on port p but suspended (PRT_STATUS.LPI_SUSP, 07 R183). -/
def Blk.lpiSusp (b : Blk) (p : Nat) : Bool := bitOf (b.portFeat0 p) featLpi && !b.pfeat p featLpi

/-! ### Service in each mode (02 R28) -/

def Mode.serving : Mode → Bool
  | .acquire => true | .locked => true | .holdover => true | .follower => true | _ => false

/-- A drain of 02 R39 or a handover of 12 R340 mode-drops new requests. -/
def Blk.draining (b : Blk) : Bool :=
  (match b.modeReq with | some m => decide (m.target = .commission) && b.mode.serving | none => false)
  || b.twin.switchRef.isSome || b.twin.handed

/-- The peer claims while this module is not attached, with TWIN effective (12 R330). -/
def Blk.peerServes (b : Blk) : Bool := b.feat featTwin && !b.twin.attached && b.twin.claimIn

/-- RST_SERVE.PERMIT reads 0 while MACHINE_FAULT or OSC_LOST is 1 (02 R41). -/
def Blk.permit (b : Blk) : Bool :=
  b.flag R.RST_SERVE_PERMIT && !b.err.machineFault && !b.err.oscLost

/-- Whether the mode serves NTP and NTS requests; near: a frame that a near-end loopback returned in DIAGNOSTIC. -/
def Blk.servesNtp (b : Blk) (near : Bool) : Bool :=
  if b.draining || b.peerServes then false else
  match b.mode with
  | .commission => b.permit
  | .acquire => b.flag R.RST_SERVE_ACQ_SERVE
  | .locked => true
  | .holdover => !(b.holdExpired && b.flag R.RST_SERVE_HOLD_EXP_STOP)
  | .diagnostic => near
  | _ => false

/-- Whether the PTP grandmaster speaks (02 R28). -/
def Blk.servesGm (b : Blk) : Bool :=
  match b.mode with
  | .commission => b.permit
  | .acquire => true | .locked => true | .holdover => true
  | _ => false

/-- Whether the responders answer for service addresses (02 R28, 12 R330). -/
def Blk.responds (b : Blk) : Bool :=
  match b.mode with
  | .dormant => false | .loading => false | .follower => false
  | _ => !b.peerServes

/-- Whether responses carry the unsynchronised markings (02 R30). -/
def Blk.unsync (b : Blk) : Bool :=
  match b.mode with
  | .locked => false
  | .holdover => b.holdExpired
  | _ => true

/-! ### Leaps (03 R50 to R53) -/

/-- S_L of a leap in 2^-16 ns. -/
def Leap.sLU (l : Leap) : Int := l.sL * 65536000000000

/-- W0 and W1 in 2^-16 ns. -/
def Leap.w0U (l : Leap) : Int := l.w0
def Leap.w1U (l : Leap) : Int := l.w1

/-- Whether the warning interval of a leap holds at Insole time t (03 R51). -/
def Leap.warnAt (l : Leap) (warnS : Nat) (t : Int) : Bool :=
  l.sLU - (secU warnS : Nat) ≤ t && t < (if l.delta > 0 then l.sLU + 65536000000000 else l.sLU)

/-- The leap in whose warning interval the Insole is, if any. -/
def Blk.warnLeap (b : Blk) : Option Leap :=
  let w := b.rd R.TBS_LEAP_WARN_S
  match b.ins.leap with
  | some l => if l.warnAt w b.ins.now then some l else
      (match b.ins.lastLeap with | some m => if m.warnAt w b.ins.now then some m else none | none => none)
  | none => match b.ins.lastLeap with | some m => if m.warnAt w b.ins.now then some m else none | none => none

/-- Whether t lies in the smear window of a leap whose sample found SMEAR effective. -/
def Leap.smearAt (l : Leap) (t : Int) : Bool := l.sample == some true && l.w0U ≤ t && t < l.w1U

/-- TBS_STATUS.IN_SMEAR. -/
def Blk.inSmear (b : Blk) : Bool :=
  (match b.ins.leap with | some l => l.smearAt b.ins.now | none => false)
  || (match b.ins.lastLeap with | some l => l.smearAt b.ins.now | none => false)

/-- The leap indicator of NTP responses (03 R51). -/
def Blk.leapInd (b : Blk) : Nat :=
  match b.warnLeap with
  | none => 0
  | some l =>
    let w := if l.delta > 0 then 1 else 2
    match l.sample with
    | some true => 0
    | some false => w
    | none => if b.feat featSmear then 0 else w

/-- leap61 and leap59 of Announce messages, as bits 0 and 1 (03 R51). -/
def Blk.ptpLeap (b : Blk) : Nat :=
  match b.warnLeap with
  | none => 0
  | some l => if l.delta > 0 then 1 else 2

/-! ### Registers the device derives -/

/-- REF_STATUS.SWITCHING. -/
def Blk.switching (b : Blk) : Bool := b.refs.sw.isSome

/-- NTS_STATUS.CURRENT: the slot of the CURRENT epoch. -/
def Blk.currentEpoch (b : Blk) : Option Nat := (List.range 4).find? fun n => (b.epochOf n).st == 2

/-- NTS_STATUS.NO_SEAL where Stitchers are fitted. -/
def Blk.noSeal (b : Blk) : Bool := b.part.variant.stitchers != 0 && b.currentEpoch.isNone

/-- ALERT_N driven low (15 R406, 01 R17, 14 R370). -/
def Blk.alert (b : Blk) : Bool :=
  (b.rd R.ERR_STATUS_SEEN &&& b.rd R.ERR_CTRL_ALERT) != 0
  || (!b.rst.crystal && !b.rst.startOsc) || b.rst.asserted.contains 3

/-- A die temperature as eight bits, saturating (17 R442). -/
def tj8 (t : Int) : Nat := ofSigned (clampSigned t 8) 8

/-- REF_STATUS.LOCK: the lock criteria are met, that is the device is LOCKED; a follower's are those of its tracking (12
R334; log entry 20). -/
def Blk.lockBit (b : Blk) : Bool := b.mode == .locked || (b.mode == .follower && b.twin.track)

/-- IDC_GSTAT (17 R442). -/
def Blk.gstat (b : Blk) : Nat :=
  b.mode.code + 8 * b2n b.holdExpired + 16 * b2n b.lockBit + 32 * b2n b.ins.timeValid + 64 * b2n b.alert
  + 128 * b2n b.boot.minimal + 256 * b2n b.twin.attached + 512 * b.twin.role + 2048 * b2n b.clk.shedding
  + 4096 * b2n b.noSeal + 8192 * b2n b.eyes.tbPresent + 16384 * b2n b.switching
  + 32768 * b2n (b.err.machineFault || b.err.oscLost) + 65536 * tj8 b.tj

/-- Whether any port shows LINK_EVENT, QL_EVENT or REJECTED. -/
def Blk.portEvents (b : Blk) : Bool :=
  (List.range 32).any fun p => b.flag (R.PRT_STATUS_LINK_EVENT p) || b.flag (R.PRT_SYNCE_QL_EVENT p)
    || b.flag (R.PRT_GCL_STATUS_REJECTED p)

/-- Whether any client shows ASYM_EVENT or NO_ANCHOR. -/
def Blk.clientEvents (b : Blk) : Bool :=
  (List.range 32).any fun p => b.flag (R.PTP_RC_ST_ASYM_EVENT p) || b.flag (R.PTP_RC_ST_NO_ANCHOR p)

/-- IDC_GSUM (17 R442). -/
def Blk.gsum (b : Blk) : Nat :=
  b2n (b.featAbsent != 0 || b.flag R.RST_UNIT_REFUSED || b.flag R.RST_KEEP_KEEP_LOST || b.flag R.RST_BOOT_CFG_FALLBACK)
  + 2 * b2n ((List.range 4).any fun f => b.flag (R.SES_STATUS_FAILED f))
  + 4 * b2n (b.flag R.TBS_STATUS_STEPPED)
  + 8 * b2n (b.flag R.REF_STATUS_SENT_SPLIT)
  + 16 * b2n (b.flag R.HLD_STATUS_TEMP_EVENT)
  + 32 * b2n (b.flag R.PIN_STATUS_TB_EVENT)
  + 64 * b2n b.portEvents
  + 128 * b2n (b.flag R.ENG_PSTAT_LOAD_FAIL)
  + 256 * b2n (b.flag R.NTS_STATUS_KEY_EVENT)
  + 512 * b2n (b.flag R.PTP_STATUS_TABLE_FULL || b.clientEvents)
  + 1024 * b2n (b.flag R.TWN_STATUS_PEER_LOST)
  + 2048 * b2n (b.flag R.FLC_STATUS_HOST_STALL)
  + 4096 * b2n (b.rd R.ERR_STATUS_SEEN != 0)
  + 8192 * b2n (b.pmc.ovf != 0 || b.pmc.gap != 0)

end Sys2Proof.Machine
end

