-- ==== Sys2Proof/Machine/Mirror.lean ====
section
/-! DEFINITION. What a twin's leader mirrors (12 R331): the items by which two states differ, sent as mirror blocks
after the command that made the change. -/

namespace Sys2Proof.Machine

/-- The 32 bytes of a row (08 R200). -/
def rowBytes (r : Row) : Bytes :=
  leB 8 r.key ++ leB 1 (b2n r.valid + 2 * b2n r.v6 + 4 * b2n r.deny + 8 * b2n r.pinned + 16 * b2n r.profSet)
  ++ leB 1 r.profile ++ leB 2 r.tokens ++ leB 4 r.last ++ leB 4 r.kodLast ++ leB 4 r.served ++ leB 4 r.limited
  ++ leB 2 r.kodCnt ++ leB 1 r.lastPort ++ leB 1 r.aclGen

/-- The row that 32 bytes spell. -/
def rowOf (bs : Bytes) : Row :=
  let f := byteAt bs 8
  { valid := bitOf f 0, v6 := bitOf f 1, deny := bitOf f 2, pinned := bitOf f 3, profSet := bitOf f 4
    key := leAt bs 0 8, profile := byteAt bs 9, tokens := leAt bs 10 2, last := leAt bs 12 4, kodLast := leAt bs 16 4
    served := leAt bs 20 4, limited := leAt bs 24 4, kodCnt := leAt bs 28 2, lastPort := byteAt bs 30
    aclGen := byteAt bs 31, index := leAt bs 12 4 }

/-- Whether a row is mirrored. -/
def rowMirrored (r : Row) : Bool := r.valid && (r.pinned || r.deny || r.profSet)

/-- A row without the fields whose change alone is not mirrored. -/
def rowCore (r : Row) : Row := { r with tokens := 0, last := 0, served := 0, limited := 0, kodCnt := 0, index := 0 }

/-- The item of one row, if its change is mirrored. -/
def mirrorRow (bucket pos : Nat) (old new : Row) : List Mirror :=
  if (rowMirrored old || rowMirrored new) && rowCore old != rowCore new then [.row bucket pos (rowBytes new)] else []

/-- Keys of two tables, each once. -/
def tabKeys {α : Type} (x y : Tab α) : List Nat := x.map (·.1) ++ (y.map (·.1)).filter fun k => !thas x k

def mirrorRows (old new : Tab Bucket) : List Mirror :=
  if old = new then [] else
  (tabKeys old new).flatMap fun k =>
    let o := tget {} old k
    let n := tget {} new k
    mirrorRow k 0 o.r0 n.r0 ++ mirrorRow k 1 o.r1 n.r1

/-- An epoch as an item. -/
def mirrorEpoch (n : Nat) (e : Epoch) : Mirror := .epoch n e.st e.id e.key e.act e.exp

/-- The pending leap as an item. -/
def mirrorLeap : Option Leap → Mirror
  | some l => .leap l.delta l.m l.sL l.w0 l.w1 l.sample
  | none => .noLeap

/-- UTC, leap and smear registers as an item. -/
def Blk.mirrorUtc (b : Blk) : Mirror := .utc (b.rdW R.TBS_UTC) (b.rdW R.TBS_LEAP) (b.rdW R.TBS_SMEAR)

/-- Registers of CLK_PROF, CLK_ACL but HITS, and CLK_SVC. -/
def mirrorReg (k : Nat) : Bool :=
  decide (0x20200 ≤ k ∧ k < 0x20280) || (decide (0x20400 ≤ k ∧ k < 0x20600) && k % 16 != 12) || decide (0x20800 ≤ k ∧ k < 0x21000)

/-- RST_FEATURE.EN without TWIN. -/
def Blk.featMirror (b : Blk) : Nat := b.rd R.RST_FEATURE_EN &&& (0x1FFF - 2 ^ featTwin)

/-- A session as an item. -/
def mirrorSess (up : Nat) (s : PSess) : Mirror :=
  .sess s.port s.inst s.ident s.addr s.mac s.tags (s.grants.map fun g => (g.msg, g.log, g.dur, g.endUp - up, g.seqId))

/-- Whether two entries are the same session. -/
def sameSess (x y : PSess) : Bool := x.port == y.port && x.inst == y.inst && x.ident == y.ident && x.addr == y.addr

/-- What of a grant counts as a change of it. -/
def grantCore (g : Grant) : Nat × Int × Nat × Nat := (g.msg, g.log, g.dur, g.endUp)

def mirrorSessions (up : Nat) (old new : List PSess) : List Mirror :=
  if old = new then [] else
  new.flatMap (fun s => if old.any fun o => sameSess o s && o.grants.map grantCore == s.grants.map grantCore then [] else [mirrorSess up s])
  ++ old.flatMap fun s => if new.any (sameSess s) then [] else [mirrorSess up { s with grants := [] }]

/-- The mirrored items by which two states differ. -/
def mirrorDiff (old new : Blk) : List Mirror :=
  (if old.ct.key = new.ct.key then [] else [.hashKey new.ct.key])
  ++ ([0, 1, 2, 3].flatMap fun n => if mirrorEpoch n (old.epochOf n) = mirrorEpoch n (new.epochOf n) then [] else [mirrorEpoch n (new.epochOf n)])
  ++ (if old.mirrorUtc = new.mirrorUtc then [] else [new.mirrorUtc])
  ++ (if old.ins.leap = new.ins.leap then [] else [mirrorLeap new.ins.leap])
  ++ (if old.regs = new.regs then [] else
      ((tabKeys old.regs new.regs).filter mirrorReg).flatMap fun k => if rfGet old.regs k = rfGet new.regs k then [] else [.reg k (new.rdW k)])
  ++ (if old.featMirror = new.featMirror then [] else [.features new.featMirror])
  ++ mirrorRows old.ct.rows new.ct.rows
  ++ mirrorSessions new.up old.ptp.sess new.ptp.sess

/-- The items of a full copy (12 R331): at attach and after a resynchronisation. -/
def Blk.mirrorCopy (b : Blk) : List Mirror :=
  [.hashKey b.ct.key, .pool (b.twin.poolIdx.getD (b.rd R.NTS_POOL_INDEX)), b.mirrorUtc, mirrorLeap b.ins.leap, .features b.featMirror]
  ++ [0, 1, 2, 3].map (fun n => mirrorEpoch n (b.epochOf n))
  ++ (b.regs.filter fun e => mirrorReg e.1).map (fun e => Mirror.reg e.1 e.2.toNat)
  ++ b.ct.rows.flatMap (fun e => (if rowMirrored e.2.r0 then [.row e.1 0 (rowBytes e.2.r0)] else [])
      ++ (if rowMirrored e.2.r1 then [.row e.1 1 (rowBytes e.2.r1)] else []))
  ++ b.ptp.sess.map (mirrorSess b.up)

/-- A leader of an attached pair sends what a command has changed, and counts the changes that wait for a credit. -/
def Blk.mirrored (old b : Blk) : Twin × List Emit :=
  if b.twin.attached && b.twin.role = 1 && old.twin.attached && old.twin.role = 1 then
    let l := mirrorDiff old b
    if l.isEmpty then (b.twin, b.out)
    else ({ b.twin with queue := b.twin.queue + l.length, creditAt := if b.twin.queue = 0 then b.up else b.twin.creditAt },
          (l.map Emit.mirror).reverse ++ b.out)
  else (b.twin, b.out)

end Sys2Proof.Machine
end

