-- ==== Sys2Proof/Machine/Ops.lean ====
section
/-! DEFINITION. The operations that every family shares: counting, event records (11 R310 to R316), completions
(11 R301, R303), mode changes (02 R26), the passing of time, and the frame of a command: time passes, the command
acts, and what the device then derives by itself (features absent, chaining, rises of IDC_GSUM, the twin's mirror)
settles. -/

namespace Sys2Proof.Machine

/-! ### Performance counters (16) -/

/-- What the INSTANCE of an event names (16 R411): 0 none, 1 Bench, 2 engine, 3 Stitcher, 4 port, 5 ring pair;
none for a code outside the catalogue. -/
def pmcKind (ev : Nat) : Option Nat :=
  if ev = 0 ∨ ev = 1 ∨ (0x40 ≤ ev ∧ ev ≤ 0x43) ∨ ev = 0x92 ∨ ev = 0xA0 ∨ ev = 0x106 then some 0
  else if (0x10 ≤ ev ∧ ev ≤ 0x14) ∨ (0x30 ≤ ev ∧ ev ≤ 0x33) ∨ ev = 0x60 ∨ ev = 0x80
    ∨ (0x101 ≤ ev ∧ ev ≤ 0x103) then some 1
  else if 0x20 ≤ ev ∧ ev ≤ 0x25 then some 2
  else if ev = 0x50 ∨ ev = 0x51 ∨ ev = 0x104 then some 3
  else if (0x70 ≤ ev ∧ ev ≤ 0x72) ∨ ev = 0x100 ∨ ev = 0x105 then some 4
  else if ev = 0x90 ∨ ev = 0x91 ∨ ev = 0x107 then some 5
  else none

/-- Whether an instance is in range and present (16 R412). -/
def Blk.pmcInst (b : Blk) (kind inst : Nat) : Bool :=
  match kind with
  | 0 => true
  | 1 => b.benchPresent inst
  | 2 => b.enginePresent inst
  | 3 => b.stitcherPresent inst
  | 4 => inst < 32 && bitOf b.capPorts inst
  | _ => inst < 64

/-- Occupancy events (16 R411, R413). -/
def pmcOcc (ev : Nat) : Bool := 0x100 ≤ ev

/-- The event and instance counter i counts. -/
def Blk.pmcEv (b : Blk) (i : Nat) : Nat := b.rd (R.PMC_SEL_EVENT i)
def Blk.pmcIn (b : Blk) (i : Nat) : Nat := b.rd (R.PMC_SEL_INSTANCE i)

/-- PMC_SEL.BAD (16 R412). -/
def Blk.pmcBad (b : Blk) (i : Nat) : Bool :=
  match pmcKind (b.pmcEv i) with
  | none => true
  | some k => !b.pmcInst k (b.pmcIn i)

/-- Sample tokens in thousandths after the time since they were last counted (16 R422): a burst of 64. -/
def Blk.pmcTokens (b : Blk) (p : Pmc) : Nat :=
  let rate := atLeast1 (b.rd R.PMC_CTRL_SAMP_MAX_K)
  min 64000 (p.tokens + (b.up - p.tokenAt) * rate / 65536000)

/-- Count k samples of counter i: as many as the tokens allow wait to be written, the others are lost (16 R422). -/
def Blk.pmcSample (b : Blk) (p : Pmc) (i k : Nat) : Pmc :=
  let t := b.pmcTokens p
  let n := min k (t / 1000)
  { p with samp := p.samp ++ List.replicate n (i, b.ins.now), tokens := t - 1000 * n, tokenAt := b.up
           sampLost := satNat (p.sampLost + (k - n)) 16 }

/-- Counter i counts n events (16 R416, R418, R421). -/
def Blk.pmcBump (b : Blk) (p : Pmc) (i n : Nat) : Pmc :=
  if p.chained then
    if i % 2 = 1 then p else
      let v := tget 0 p.cnt i + 0x1000000000000 * tget 0 p.cnt (i + 1) + n
      let w := v % 0x1000000000000000000000000
      { p with cnt := tput (tput p.cnt i (w % 0x1000000000000)) (i + 1) (w / 0x1000000000000)
               ovf := if v = w then p.ovf else putBit p.ovf i true }
  else
    let v := tget 0 p.cnt i + n
    if v < 0x1000000000000 then { p with cnt := tput p.cnt i v } else
      let samp := b.flag (R.PMC_SEL_SAMP i)
      let per := if samp && !pmcOcc (b.pmcEv i) then atLeast1 (b.rd (R.PMC_THR_THR i)) else 0x1000000000000
      let rest := v - 0x1000000000000
      let p := { p with cnt := tput p.cnt i (0x1000000000000 - per + rest % per), ovf := putBit p.ovf i true }
      if samp then b.pmcSample p i (1 + rest / per) else p

/-- Count n occurrences of an event of an instance on every counter that selects it. -/
def Blk.pmcEvent (b : Blk) (ev inst n : Nat) : Blk :=
  if n = 0 then b else
  { b with pmc := (List.range 512).foldl (fun p i =>
      if b.pmcEv i == ev && (pmcKind ev == some 0 || b.pmcIn i == inst) && !b.pmcBad i
      then b.pmcBump p i n else p) b.pmc }

/-- Lanes of the working engines of a Bench. -/
def Blk.workLanes (b : Blk) (i : Nat) : Nat :=
  4 * ((List.range 16).filter fun e => b.engineWorking (16 * i + e)).length

/-- Lanes of a Bench that hold an invocation on a working engine. -/
def Blk.busyLanes (b : Blk) (i : Nat) : Nat :=
  (b.eng.invs.filter fun e => e.1 / 64 == i && b.engineWorking (e.1 / 4)).length

/-- Free Lanes of a Bench (ENG_BENCH.FREE_LANES); none while the Bench drains (08 R214, R215). -/
def Blk.freeLanes (b : Blk) (i : Nat) : Nat := b.workLanes i - b.busyLanes i

/-- Bytes in use of a Bench's egress share. -/
def Blk.egBench (b : Blk) (i : Nat) : Nat := ((List.range 8).map fun p => tget 0 b.flow.egUsed (8 * i + p)).sum

/-- Contexts in use of a Stitcher. -/
def Blk.ctxUsed (b : Blk) (s : Nat) : Nat := (b.nts.ctxs.filter fun e => e.1 / 128 == s).length

/-- Entries of the 4,096 in use (LST_STATUS.USED). -/
def Blk.lstUsed (b : Blk) : Nat := b.laster.ents.length

/-- The occupancy that an event samples (16 R411). -/
def Blk.occNow (b : Blk) (ev inst : Nat) : Nat :=
  match ev with
  | 0x100 => (tget 0 b.clk.ingUsed inst + 1023) / 1024
  | 0x101 => (b.egBench inst + 1023) / 1024
  | 0x102 => b.freeLanes inst
  | 0x103 => (b.eng.invs.filter fun e => e.1 / 64 == inst && e.2.storeWait).length
  | 0x104 => b.ctxUsed inst
  | 0x105 => (b.clk.reqs.filter fun r => r.port == inst).length
  | 0x106 => b.lstUsed
  | _ => (b.ringOf inst).descs.length

/-- Whether a request waits that could be assigned to Bench i (08 R206, 16 R414). -/
def Blk.eligibleWaits (b : Blk) (i : Nat) : Bool :=
  b.clk.reqs.any fun r => !r.nts || (b.stitcherWorking (2 * i) || b.stitcherWorking (2 * i + 1))

/-- How much an event counts in each CORE cycle of an interval in which no command acts. -/
def Blk.perCycle (b : Blk) (ev inst thr : Nat) : Nat :=
  if pmcOcc ev then b2n (decide (b.occNow ev inst > thr)) else
  match ev with
  | 0x001 => 1
  | 0x012 => if b.eligibleWaits inst then 0 else b.freeLanes inst
  | 0x013 => if b.eligibleWaits inst then b.freeLanes inst else 0
  | 0x014 => 64 - b.workLanes inst
  | 0x023 => (b.eng.invs.filter fun e => e.1 / 4 == inst && e.2.storeWait).length
  | 0x025 => (b.eng.invs.filter fun e => e.1 / 4 == inst && e.2.lockWait).length
  | 0x031 => ((List.range 32).filter fun p => p / 8 == inst &&
      (match b.clk.reqs.find? fun r => r.port == p with | some r => r.egWait | none => false)).length
  | 0x032 => ((List.range 32).filter fun p => p / 8 == inst &&
      (match b.clk.reqs.find? fun r => r.port == p with | some r => r.ctxWait | none => false)).length
  | 0x072 => let q := b.portOf inst
    b2n (decide (q.pauseEnd > b.up) || q.pfcEnd.any fun e => decide (e.2 > b.up))
  | _ => 0

/-- Whether CORE runs: from the end of S0 to the next device-reach reset, and not after a loss of OSCIN. -/
def Blk.coreRuns (b : Blk) : Bool :=
  !b.err.oscLost && (b.boot.done || (match b.boot.step with | some n => decide (0 < n) | none => false))

/-- Count the CORE cycles of an elapsed interval. -/
def Blk.pmcPass (b : Blk) (w : Nat) : Pmc :=
  let n := coreCycles (b.up + w) - coreCycles b.up
  if n = 0 || !b.coreRuns then b.pmc else
  (List.range 512).foldl (fun p i =>
    if b.pmcEv i == 0 || b.pmcBad i then p else
      let k := b.perCycle (b.pmcEv i) (b.pmcIn i) (b.rd (R.PMC_THR_THR i))
      if k = 0 then p else b.pmcBump p i (k * n)) b.pmc

/-- Whether the counters are to be chained (16 R417); they are from reset through LOADING. -/
def Blk.wantChain (b : Blk) : Bool :=
  match b.mode with
  | .dormant => true | .loading => true | .diagnostic => true
  | _ => b.err.cur.isSome

/-- Entry into and exit from chaining (16 R418). -/
def chainStep (want : Bool) (p : Pmc) : Pmc :=
  if want == p.chained then p
  else if want then
    { p with chained := true, chainCnt := satNat (p.chainCnt + 1) 16
             saved := p.cnt.filter fun e => e.1 % 2 == 1
             cnt := p.cnt.filter fun e => e.1 % 2 == 0 }
  else
    { p with chained := false
             ovf := p.cnt.foldl (fun o e => if e.1 % 2 == 1 && e.2 != 0 then putBit o (e.1 - 1) true else o) p.ovf
             gap := 2 ^ 256 - 1
             saved := []
             cnt := p.saved.foldl (fun c e => tput c e.1 e.2) (p.cnt.filter fun e => e.1 % 2 == 0) }

/-! ### Event records (11 R310 to R314) -/

/-- A record: the common part of 11 R311 and a tail padded to 12 bytes. -/
def recBytes (ty obj arg t : Nat) (tail : Bytes) : Bytes :=
  leB 1 ty ++ leB 1 obj ++ leB 2 arg ++ leB 4 (shortOf t) ++ timeB t ++ sliceB tail 0 12

/-- Where an event ring lies: base, entries, doorbell page. -/
structure EvtPlace where
  func : Nat
  base : Nat
  len : Nat
  page : Nat

def Blk.evtPlace (b : Blk) (f : Nat) : EvtPlace :=
  { func := f, base := b.addr64 (R.EVT_BASE_LO f) (R.EVT_BASE_HI f), len := ringLen (b.rd (R.EVT_CTL_LOG f))
    page := b.addr64 (R.HRG_DBP_LO f) (R.HRG_DBP_HI f) }

/-- Free entries of an event ring. -/
def evtFree (pl : EvtPlace) (e : Evt) : Nat := pl.len - (e.pi + 0x100000000 - e.ci) % 0x100000000

/-- Write a record at the producer index, then EV_PI (11 R310). -/
def evtWrite (pl : EvtPlace) (rec : Bytes) (x : Evt × List Emit) : Evt × List Emit :=
  let pi := (x.1.pi + 1) % 0x100000000
  ({ x.1 with pi := pi },
   .hostWrite pl.func (pl.page + 0x1014) (leB 4 pi)
     :: .hostWrite pl.func (pl.base + 32 * (x.1.pi % pl.len)) rec :: x.2)

/-- Whether a record of this type counts towards vector 0 (11 R315): every one but ANCHOR and INTERRUPT. -/
def evtCounts (ty : Nat) : Bool := ty != 1 && ty != 2

/-- Write a record and count it. -/
def evtWriteCounted (pl : EvtPlace) (up ty : Nat) (rec : Bytes) (x : Evt × List Emit) : Evt × List Emit :=
  let x := evtWrite pl rec x
  if evtCounts ty then
    ({ x.1 with cnt := x.1.cnt + 1, firstAt := if x.1.cnt = 0 then up else x.1.firstAt }, x.2)
  else x

/-- The ANCHOR record of an instant (11 R311, R313): flags bit 0 STEP, bit 2 RESUME. -/
def anchorBytes (stepGen : Nat) (valid : Bool) (flags t : Nat) (step : Int) : Bytes :=
  recBytes 1 stepGen (flags + 2 * b2n valid) t (leB 8 (ofSigned step 64))

/-- After a loss, once space has returned: LOST and a RESUME anchor (11 R314). -/
def evtResume (pl : EvtPlace) (up now stepGen : Nat) (valid : Bool) (x : Evt × List Emit) : Evt × List Emit :=
  if x.1.gap && decide (3 ≤ evtFree pl x.1) then
    let x1 := evtWriteCounted pl up 3 (recBytes 3 0 0 now (leB 4 x.1.lostNow)) ({ x.1 with gap := false, lostNow := 0 }, x.2)
    evtWrite pl (anchorBytes stepGen valid 4 now 0) x1
  else x

/-- A record offered to an event ring: dropped and counted where fewer than two entries would stay free. -/
def evtOffer (pl : EvtPlace) (up now stepGen : Nat) (valid : Bool) (ty : Nat) (rec : Bytes)
    (x : Evt × List Emit) : Evt × List Emit :=
  let x := evtResume pl up now stepGen valid x
  if x.1.gap || decide (evtFree pl x.1 < 3) then
    ({ x.1 with lost := satNat (x.1.lost + 1) 16, gap := true, lostNow := x.1.lostNow + 1 }, x.2)
  else evtWriteCounted pl up ty rec x

/-- Offer a record to the event ring of function f; a function without a running ring receives none (11 R312). -/
def Blk.offer (b : Blk) (f ty : Nat) (rec : Bytes) : Blk :=
  let e := b.evtOf f
  if e.running then
    let x := evtOffer (b.evtPlace f) b.up b.ins.now b.ins.stepGen b.ins.timeValid ty rec (e, b.out)
    { b with evts := tput b.evts f x.1, out := x.2 }
  else b

/-- Write a record of the common form. -/
def Blk.record (b : Blk) (f ty obj arg t : Nat) (tail : Bytes) : Blk := b.offer f ty (recBytes ty obj arg t tail)

/-- A record to each function whose bit is set in a field of EVT_ROUTE (11 R312): the field's lowest bit. -/
def Blk.route (b : Blk) (lo ty obj arg t : Nat) (tail : Bytes) : Blk :=
  let m := b.rdW R.EVT_ROUTE / 2 ^ lo % 16
  (List.range 4).foldl (fun b f => if bitOf m f then b.record f ty obj arg t tail else b) b

/-- REF, HOLD, PTP, NTS and TWIN records at the present instant. -/
def Blk.recRef (b : Blk) (slot code cause event : Nat) : Blk :=
  b.route 8 7 slot 0 b.ins.now (leB 1 code ++ leB 1 cause ++ leB 1 event)
def Blk.recHold (b : Blk) (event : Nat) : Blk := b.route 12 8 0 0 b.ins.now (leB 1 event)
def Blk.recPtp (b : Blk) (port inst event : Nat) : Blk := b.route 16 9 port inst b.ins.now (leB 1 event)
def Blk.recNts (b : Blk) (slot id event : Nat) : Blk := b.route 20 10 slot id b.ins.now (leB 1 event)
def Blk.recTwin (b : Blk) (event arg : Nat) : Blk :=
  b.route 24 11 event arg b.ins.now (leB 4 (ofSigned b.twin.xPs 32) ++ leB 1 b.twin.peerMode)
def Blk.recLink (b : Blk) (port : Nat) (up : Bool) : Blk := b.route 4 5 port 0 b.ins.now (leB 1 (b2n up))

/-- An ANCHOR to every running event ring (11 R313). -/
def Blk.anchorAll (b : Blk) (flags t : Nat) (step : Int) : Blk :=
  (List.range 4).foldl (fun b f => b.offer f 1 (anchorBytes b.ins.stepGen b.ins.timeValid flags t step)) b

/-! ### Modes (02 R26) -/

/-- Change the mode, with its MODE record. HOLD_EXPIRED belongs to HOLDOVER; the Welt runs in serving modes only (12 R323). -/
def Blk.changeMode (b : Blk) (m : Mode) (cause : Nat) : Blk :=
  let b := { b with mode := m, lastMode := b.mode, entryCause := cause, holdExpired := false
                    twin := { b.twin with link := b.twin.link && m.serving } }
  b.route 0 4 0 0 b.ins.now (leB 1 m.code ++ leB 1 b.lastMode.code ++ leB 1 cause ++ leB 1 0)

/-! ### Completions (11 R301, R303) -/

/-- The byte of FLAGS of a completion: phase, STEPGEN and STEPX. -/
def complFlags (pi len gen : Nat) (stepx : Bool) : Nat :=
  (if pi / len % 2 = 0 then 1 else 0) + 2 * gen + 8 * b2n stepx

/-- The 32 bytes of a completion. -/
def complBytes (d : Desc) (status flags short : Nat) (result : Bytes) : Bytes :=
  sliceB d.data 0 1 ++ leB 1 status ++ leB 1 flags ++ leB 1 0 ++ sliceB d.data 4 4 ++ leB 4 short
  ++ leB 4 d.idx ++ sliceB result 0 16

/-- The descriptor a reference names, while it is held. -/
def Blk.desc? (b : Blk) (r : DRef) : Option Desc := (b.ringOf r.ring).descs.find? fun d => d.id == r.id

/-- Ring pair after one of its descriptors has completed. -/
def ringDone (x : Ring) (d : Desc) (up : Nat) : Ring :=
  let irq := bitOf (byteAt d.data 1) 0
  let descs := x.descs.filter fun e => e.id != d.id
  let stop := x.stopping && descs.isEmpty
  { x with descs := descs, cqPi := (x.cqPi + 1) % 0x100000000
           irqCnt := x.irqCnt + b2n irq, irqAt := if irq && x.irqCnt = 0 then up else x.irqAt
           running := x.running && !stop, stopping := x.stopping && !stop }

/-- Complete a descriptor (11 R301, R303): the completion, then CQ_PI. Nothing for a descriptor that a closure
or a reset has taken away (11 R294). -/
def Blk.completeX (b : Blk) (r : DRef) (status : Nat) (result : Bytes) (stepx : Bool) : Blk :=
  match b.desc? r with
  | none => b
  | some d =>
    let x := b.ringOf r.ring
    let f := b.ringOwner r.ring
    let len := ringLen (b.rd (R.HRG_SIZE_CQ_LOG r.ring))
    let base := b.addr64 (R.HRG_CQ_LO r.ring) (R.HRG_CQ_HI r.ring)
    let page := b.addr64 (R.HRG_DBP_LO f) (R.HRG_DBP_HI f)
    let bytes := complBytes d status (complFlags x.cqPi len b.ins.stepGen stepx) (shortOf b.ins.now) result
    let op := r.ring * 256 + byteAt d.data 0
    let b1 := { b with
      rings := tput b.rings r.ring (ringDone x d b.up)
      flow := { b.flow with busyRuns := if status = 5 then b.flow.busyRuns else tdel b.flow.busyRuns op }
      out := .hostWrite f (page + 0x40 * r.ring + 20) (leB 4 ((x.cqPi + 1) % 0x100000000))
        :: .hostWrite f (base + 32 * (x.cqPi % len)) bytes :: b.out }
    b1.pmcEvent 0x91 r.ring 1

/-- Complete a descriptor. -/
def Blk.complete (b : Blk) (r : DRef) (status : Nat) (result : Bytes) : Blk := b.completeX r status result false

/-- Complete with a BUSY_RETRY that counts towards escalation (13 R359). -/
def Blk.completeBusy (b : Blk) (r : DRef) : Blk :=
  match b.desc? r with
  | none => b
  | some d =>
    let k := r.ring * 256 + byteAt d.data 0
    let b := { b with flow := { b.flow with busyRuns := tput b.flow.busyRuns k (tget 0 b.flow.busyRuns k + 1) } }
    b.complete r 5 []

/-- Whether the next descriptor of an opcode on a ring waits under escalation (13 R359). -/
def Blk.escalated (b : Blk) (ring opcode : Nat) : Bool :=
  let m := b.rd R.FLC_CTRL_RETRY_MAX
  m != 0 && decide (m ≤ tget 0 b.flow.busyRuns (ring * 256 + opcode))

/-- Status codes (11 R304). -/
def stOk : Nat := 0
def stLate : Nat := 1
def stAbsent : Nat := 2
def stDenied : Nat := 3
def stMalformed : Nat := 4
def stBusy : Nat := 5
def stDropped : Nat := 6
def stAborted : Nat := 7
def stParity : Nat := 8
def stTimeout : Nat := 9

/-! ### Conditions that raise no unit's action -/

/-- The class of an error code as 15 R393 gives it. -/
def errClass (code : Nat) : Nat :=
  if code = 0x03 ∨ code = 0x06 ∨ code = 0x07 ∨ code = 0x0D ∨ code = 0x0F ∨ code = 0x13 then 0
  else if code = 0x16 ∨ (0x20 ≤ code ∧ code ≤ 0x28) then 2
  else if code = 0x17 ∨ code = 0x19 ∨ code = 0x1A then 3
  else 1

/-- Whether an error code counts towards escalation (15 R393). -/
def errEsc (code : Nat) : Bool :=
  !(code == 0x03 || code == 0x0D || code == 0x16 || code == 0x17 || code == 0x19 || code == 0x1A
    || code == 0x1B || decide (0x20 ≤ code))

/-! ### Time -/

/-- Advance a running Insole by an elapsed interval (03 R43), consuming the slew (03 R55): RATE ppb of the
interval, ended exactly. While TIME is absent that time is counted. -/
def insPass (rate w : Nat) (i : Insole) : Insole :=
  if i.running then
    let most : Int := ((w * rate : Nat) : Int)
    let d := if i.slewRem ≥ 0 then min i.slewRem most else max i.slewRem (-most)
    let rem := i.slewRem - d
    -- whole units of the slew applied so far: the remainder in units of 10^-9 keeps the exact value
    let step := (if i.slewRem ≥ 0 then (i.slewRem + 999999999) / 1000000000 else -((-i.slewRem + 999999999) / 1000000000))
      - (if rem ≥ 0 then (rem + 999999999) / 1000000000 else -((-rem + 999999999) / 1000000000))
    { i with now := ((i.now : Int) + (w : Int) + step).toNat, slewRem := rem, slewSum := i.slewSum + d.natAbs }
  else { i with absent := i.absent + w }

/-- Let w units of elapsed time pass (log entry 5). -/
def Blk.pass (b : Blk) (w : Nat) : Blk :=
  { b with up := b.up + w, ins := insPass (b.rd R.TBS_SLEW_RATE) w b.ins, pmc := b.pmcPass w }

/-! ### What the device derives after each command -/

/-- Rises of IDC_GSUM that a function reports at once, and those that wait for 1 ms since their last record
(17 R443). -/
def gsumRise (up en old new : Nat) (e : Evt) : Nat × Evt :=
  let rose := new &&& (0x3FFF ^^^ (old &&& 0x3FFF)) &&& en
  let now := (List.range 14).foldl (fun m i =>
    if bitOf rose i && (match tget none (e.gAt.map fun x => (x.1, some x.2)) i with
      | none => true | some a => decide (a + msU 1 ≤ up)) then putBit m i true else m) 0
  (now, { e with gHeld := (e.gHeld ||| (rose - (rose &&& now))), gAt := (List.range 14).foldl (fun t i => if bitOf now i then tput t i up else t) e.gAt })

/-- Report rises to one function in a STATUS record. -/
def Blk.gsumOne (b : Blk) (old : Nat) (f : Nat) : Blk :=
  let e := b.evtOf f
  let new := b.gsum
  if !e.running || new = old then b else
    let r := gsumRise b.up (b.rd (R.EVT_GINT_EN_EN f)) old new e
    let b := { b with evts := tput b.evts f r.2 }
    if r.1 = 0 then b else b.record f 0x0F 0 r.1 b.ins.now (leB 4 new ++ leB 4 b.gstat)

/-- Features enabled while their unit is absent: the sticky bits of RST_FEAT_ABSENT (02 R34). -/
def Blk.absentNow (b : Blk) : Nat :=
  if b.boot.done then b.featAbsent ||| (b.rd R.RST_FEATURE_EN &&& b.unusable) else b.featAbsent

/-- Set the sticky bits and the chaining. -/
def Blk.derive (b : Blk) : Blk :=
  { b with featAbsent := b.absentNow, pmc := chainStep b.wantChain b.pmc }

/-- The event rings and output after the rises of IDC_GSUM are reported. -/
def Blk.gsumAll (old b : Blk) : Tab Evt × List Emit :=
  let g := old.gsum
  let c := (List.range 4).foldl (fun b f => b.gsumOne g f) b
  (c.evts, c.out)

/-- What settles after a command; a twin's leader mirrors what has changed. -/
def Blk.settle (old b : Blk) : Blk :=
  let b := b.derive
  let c := { b with evts := (Blk.gsumAll old b).1, out := (Blk.gsumAll old b).2 }
  { c with twin := (Blk.mirrored old c).1, out := (Blk.mirrored old c).2 }

/-- The frame of a command: time passes, the command acts on the block, and what the device derives settles. The
fuses and the option store stay. -/
def State.upd (s : State) (w : Nat) (f : Nvm → Blk → Blk) : Host.Outcome State Fault Refusal :=
  .next { s with blk := Blk.settle s.blk (f s.nvm (s.blk.pass w)) }

/-- The frame of a command that may also change the fuses or the option store. -/
def State.updN (s : State) (w : Nat) (f : Nvm → Blk → Nvm × Blk) : Host.Outcome State Fault Refusal :=
  .next { s with nvm := (f s.nvm (s.blk.pass w)).1, blk := Blk.settle s.blk (f s.nvm (s.blk.pass w)).2 }

end Sys2Proof.Machine
end

