-- ==== Sys2Proof/Machine/ClientTable.lean ====
section
/-! DEFINITION. The client table (08 R198 to R205): keys and buckets, matching against the access list, insertion,
the rate decision of R202, the bucket locks of R211, and CLIENT_TABLE_OP, which acts at the grant of its lock. -/

namespace Sys2Proof.Machine

/-! ### Keys, buckets and time -/

/-- Number of buckets of two rows (08 R198). -/
def Blk.buckets (b : Blk) : Nat := 2 ^ (b.part.variant.ctLog2 - 1)

/-- CLK_CTRL.V6_PREFIX (08 R226). -/
def Blk.v6Prefix (b : Blk) : Nat := clampN 32 64 (b.rd R.CLK_CTRL_V6_PREFIX)

/-- The bytes of an address from bit n on made zero. -/
def maskBits (n : Nat) (bs : Bytes) : Bytes :=
  (List.range bs.length).map fun i =>
    let x := bs.getD i 0
    if 8 * i + 8 ≤ n then x
    else if n ≤ 8 * i then 0
    else x &&& BitVec.ofNat 8 (256 - 2 ^ (8 * i + 8 - n))

/-- The key bytes of a source address (08 R198): 4 for IPv4, the masked first 8 for IPv6. -/
def Blk.keyBytes (b : Blk) (v6 : Bool) (addr : Bytes) : Bytes :=
  if v6 then maskBits b.v6Prefix (sliceB addr 0 8) else sliceB addr 0 4

/-- The keyed hash of a key (08 R198; log entry 30). -/
def Blk.keyHash (b : Blk) (key : Bytes) : Nat := sipHash13 b.ct.key key

/-- The bucket of a key. -/
def Blk.bucketOf (b : Blk) (key : Bytes) : Nat := b.keyHash key % b.buckets

/-- LAST's time scale (08 R200). -/
def now16 (t : Nat) : Nat := (secOf t * 65536 + nsOf t * 65536 / 1000000000) % 0x100000000

/-- The age of a time of that scale (08 R201). -/
def age16 (now last : Nat) : Nat := (now + 0x100000000 - last) % 0x100000000

/-! ### Profiles and the access list (08 R228) -/

structure Profile where
  rate : Nat
  burst : Nat
  limitAct : Nat
  denyAct : Bool
  exempt : Bool
  kodInt : Nat
  kodPoll : Nat

/-- A rate profile as it reads (08 R228). -/
def Blk.profile (b : Blk) (p : Nat) : Profile :=
  let act := b.rd (R.CLK_PROF_B_LIMIT_ACT p)
  { rate := atLeast1 (b.rd (R.CLK_PROF_A_RATE p)), burst := atLeast1 (b.rd (R.CLK_PROF_A_BURST p))
    limitAct := if act = 3 then 0 else act
    denyAct := b.flag (R.CLK_PROF_B_DENY_ACT p), exempt := b.flag (R.CLK_PROF_B_EXEMPT p)
    kodInt := atLeast1 (b.rd (R.CLK_PROF_B_KOD_INT p)), kodPoll := b.rd (R.CLK_PROF_B_KOD_POLL p) }

/-- The prefix octets of an access-list entry, first octet first. -/
def Blk.aclPrefix (b : Blk) (i : Nat) : Bytes :=
  beB 4 (b.rd (R.CLK_ACL_PREFIX0_PREFIX i)) ++ beB 4 (b.rd (R.CLK_ACL_PREFIX1_PREFIX i))

/-- Whether the first n bits of two byte strings agree. -/
def sameBits (n : Nat) (x y : Bytes) : Bool := maskBits n (sliceB x 0 8) == maskBits n (sliceB y 0 8)

/-- Whether access-list entry i matches a key (08 R201). -/
def Blk.aclHit (b : Blk) (i : Nat) (v6 : Bool) (key : Bytes) : Bool :=
  let len := min (b.rd (R.CLK_ACL_CFG_LEN i)) (if v6 then 64 else 32)
  b.flag (R.CLK_ACL_CFG_VALID i) && b.flag (R.CLK_ACL_CFG_V6 i) == v6 && sameBits len (b.aclPrefix i) key

/-- The lowest entry that matches. -/
def Blk.aclMatch (b : Blk) (v6 : Bool) (key : Bytes) : Option Nat :=
  (List.range 32).find? fun i => b.aclHit i v6 key

/-- PROFILE and DENY of a key (08 R201). -/
def Blk.aclSet (b : Blk) (m : Option Nat) : Nat × Bool :=
  match m with
  | some i => (b.rd (R.CLK_ACL_CFG_PROFILE i), b.flag (R.CLK_ACL_CFG_DENY i))
  | none => (0, false)

/-- Count a match in HITS. -/
def Blk.aclCount (b : Blk) (m : Option Nat) : Blk :=
  match m with | some i => b.satF (R.CLK_ACL_HITS_HITS i) 1 | none => b

/-! ### Rows (08 R200, R201) -/

/-- Whether a row is the row of a key. -/
def rowIs (r : Row) (v6 : Bool) (key : Bytes) : Bool := r.valid && r.v6 == v6 && r.key == leNat key

/-- The place of a key's row in its bucket. -/
def findRow (k : Bucket) (v6 : Bool) (key : Bytes) : Option Nat :=
  if rowIs k.r0 v6 key then some 0 else if rowIs k.r1 v6 key then some 1 else none

def rowAt (k : Bucket) (i : Nat) : Row := if i = 0 then k.r0 else k.r1
def putRow (k : Bucket) (i : Nat) (r : Row) : Bucket := if i = 0 then { k with r0 := r } else { k with r1 := r }

/-- Where a new row goes: an invalid row, else the row that is not PINNED with the older LAST; none where both
are PINNED (08 R201). -/
def victim (k : Bucket) (now : Nat) : Option Nat :=
  if !k.r0.valid then some 0
  else if !k.r1.valid then some 1
  else if k.r0.pinned then (if k.r1.pinned then none else some 1)
  else if k.r1.pinned then some 0
  else if age16 now k.r0.last ≥ age16 now k.r1.last then some 0 else some 1

/-- A new row of a key (08 R201). -/
def Blk.newRow (b : Blk) (v6 : Bool) (key : Bytes) (now : Nat) : Row :=
  let m := b.aclSet (b.aclMatch v6 key)
  { valid := true, v6 := v6, deny := m.2, key := leNat key, profile := m.1
    tokens := (b.profile m.1).burst * 256, last := now, aclGen := b.ct.aclGen, index := now }

/-- Whether a row must be matched again (08 R201). -/
def Blk.rematch (b : Blk) (r : Row) : Bool := !r.profSet && r.aclGen != b.ct.aclGen

/-- A row matched again, TOKENS and LAST kept. -/
def Blk.matchRow (b : Blk) (r : Row) (key : Bytes) : Row :=
  let m := b.aclSet (b.aclMatch r.v6 key)
  { r with profile := m.1, deny := m.2, aclGen := b.ct.aclGen }

def Blk.bucketAt (b : Blk) (i : Nat) : Bucket := tget {} b.ct.rows i
def Blk.setBucket (b : Blk) (i : Nat) (k : Bucket) : Blk := { b with ct := { b.ct with rows := tput b.ct.rows i k } }

/-! ### The decision of 08 R202 -/

/-- What R202 decides. -/
inductive Verdict where
  | deny | serve | limit
  deriving DecidableEq, Repr

/-- Refill a row's tokens at `now` (08 R202). -/
def refill (p : Profile) (now : Nat) (r : Row) : Row :=
  let e := age16 now r.last
  let add := e * p.rate / 4096
  if r.tokens + add ≥ p.burst * 256 then { r with tokens := p.burst * 256, last := now }
  else { r with tokens := r.tokens + add, last := (r.last + add * 4096 / p.rate % 0x100000000) % 0x100000000 }

/-- The decision of R202 and the row after it. -/
def rateDecide (p : Profile) (now : Nat) (r : Row) : Verdict × Row :=
  if r.deny then (.deny, r)
  else if p.exempt then (.serve, { r with served := satNat (r.served + 1) 32 })
  else
    let r := refill p now r
    if r.tokens ≥ 256 then (.serve, { r with tokens := r.tokens - 256, served := satNat (r.served + 1) 32 })
    else (.limit, { r with limited := satNat (r.limited + 1) 32 })

/-- Whether a KoD may be sent now (08 R203). -/
def kodDue (p : Profile) (now : Nat) (r : Row) : Bool := r.kodCnt = 0 || age16 now r.kodLast ≥ p.kodInt * 65536

/-- A row after a KoD. -/
def kodSent (now : Nat) (r : Row) : Row := { r with kodLast := now, kodCnt := satNat (r.kodCnt + 1) 16 }

/-! ### CLIENT_TABLE_OP (08 R205) -/

/-- The key of a CLIENT_TABLE_OP: the descriptor's bytes 16 to 23 (11 R305), masked to its prefix on IPv6. -/
def ctOpKey (d : Bytes) : Bool × Bytes :=
  let v6 := bitOf (byteAt d 9) 0
  (v6, if v6 then maskBits (byteAt d 10) (sliceB d 16 8) else sliceB d 16 4)

/-- UPSERT's settings on a row (11 R305): MASK selects PROFILE, DENY, PINNED and PROF_SET. -/
def ctUpsertRow (d : Bytes) (r : Row) : Row :=
  let m := byteAt d 11
  let v := byteAt d 13
  let r := if bitOf m 0 then { r with profile := byteAt d 12 % 16 } else r
  let r := if bitOf m 1 then { r with deny := bitOf v 0 } else r
  let r := if bitOf m 2 then { r with pinned := bitOf v 1 } else r
  if bitOf m 3 then { r with profSet := bitOf v 2 } else r

/-- LOOKUP: the row to the host buffer; a missing row with VALID = 0. -/
def Blk.ctLookupNow (b : Blk) (ref : DRef) (d : Bytes) : Blk :=
  let k := ctOpKey d
  let bkt := b.bucketAt (b.bucketOf k.2)
  let row := match findRow bkt k.1 k.2 with
    | some i => rowAt bkt i
    | none => { valid := false, v6 := k.1, key := leNat k.2 }
  (b.put (.hostWrite (b.ringOwner ref.ring) (leAt d 24 8) (rowBytes row))).complete ref stOk []

/-- UPSERT; the row is created under R201 where it is missing. -/
def Blk.ctUpsertNow (b : Blk) (ref : DRef) (d : Bytes) : Blk :=
  let k := ctOpKey d
  let at_ := b.bucketOf k.2
  let bkt := b.bucketAt at_
  match findRow bkt k.1 k.2 with
  | some i => (b.setBucket at_ (putRow bkt i (ctUpsertRow d (rowAt bkt i)))).complete ref stOk []
  | none =>
    let now := now16 b.ins.now
    match victim bkt now with
    | none => b.complete ref stDenied []
    | some i =>
      let row := ctUpsertRow d (b.newRow k.1 k.2 now)
      let b1 := (b.setBucket at_ (putRow bkt i row)).inc C.CLK_CT_INSERT
      let b2 := if (rowAt bkt i).valid then b1.inc C.CLK_CT_EVICT else b1
      (b2.aclCount (b.aclMatch k.1 k.2)).complete ref stOk []

/-- DELETE: the row becomes invalid. -/
def Blk.ctDeleteNow (b : Blk) (ref : DRef) (d : Bytes) : Blk :=
  let k := ctOpKey d
  let at_ := b.bucketOf k.2
  let bkt := b.bucketAt at_
  match findRow bkt k.1 k.2 with
  | some i => (b.setBucket at_ (putRow bkt i {})).complete ref stOk []
  | none => b.complete ref stOk []

/-- RESET_COUNTS: SERVED, LIMITED and KOD_CNT become zero. -/
def Blk.ctResetNow (b : Blk) (ref : DRef) (d : Bytes) : Blk :=
  let k := ctOpKey d
  let at_ := b.bucketOf k.2
  let bkt := b.bucketAt at_
  match findRow bkt k.1 k.2 with
  | some i =>
    (b.setBucket at_ (putRow bkt i { rowAt bkt i with served := 0, limited := 0, kodCnt := 0 })).complete ref stOk []
  | none => b.complete ref stOk []

/-- A CLIENT_TABLE_OP that holds its bucket acts. -/
def Blk.ctOpNow (b : Blk) (ref : DRef) : Blk :=
  match b.desc? ref with
  | none => b
  | some d =>
    match byteAt d.data 8 with
    | 1 => b.ctLookupNow ref d.data
    | 2 => b.ctUpsertNow ref d.data
    | 3 => b.ctDeleteNow ref d.data
    | 4 => b.ctResetNow ref d.data
    | _ => b

/-! ### Bucket locks (08 R211; leases of 4 µs on elapsed time, 15 R402) -/

/-- The Lane that holds a bucket. -/
def Blk.lockHolder (b : Blk) (bkt : Nat) : Option Nat := tget none (b.ct.locks.map fun e => (e.1, some e.2)) bkt

/-- Give a bucket to a Lane. -/
def Blk.lockTake (b : Blk) (bkt lane : Nat) : Blk :=
  { b with
    ct := { b.ct with locks := tput b.ct.locks bkt lane }
    eng := { b.eng with invs := b.eng.invs.map fun e =>
      if e.1 = lane then (e.1, { e.2 with lockWait := false, lockFrom := b.leaseNow }) else e } }

/-- Take the first waiter of a bucket from the list. -/
def popWaiter (bkt : Nat) : List (Nat × Waiter) → Option Waiter × List (Nat × Waiter)
  | [] => (none, [])
  | (k, w) :: rest =>
    if k = bkt then (some w, rest) else
      let r := popWaiter bkt rest
      (r.1, (k, w) :: r.2)

/-- Serve the waiters of a free bucket in order until a Lane takes it: an operation acts at once. -/
def Blk.lockNext (b : Blk) (bkt : Nat) : Nat → Blk
  | 0 => b
  | n + 1 =>
    match popWaiter bkt b.ct.waits with
    | (none, _) => b
    | (some (.lane l), rest) => Blk.lockTake { b with ct := { b.ct with waits := rest } } bkt l
    | (some (.op ref _), rest) =>
      Blk.lockNext (Blk.ctOpNow { b with
        ct := { b.ct with waits := rest }
        flow := { b.flow with heldOps := b.flow.heldOps.filter (· != ref) } } ref) bkt n

/-- Release a bucket that a Lane holds. -/
def Blk.lockFree (b : Blk) (bkt lane : Nat) : Blk :=
  if b.lockHolder bkt = some lane then
    Blk.lockNext { b with ct := { b.ct with locks := (tdel b.ct.locks bkt) } } bkt b.ct.waits.length
  else { b with ct := { b.ct with waits := b.ct.waits.filter (· != (bkt, .lane lane)) } }

/-- A CLIENT_TABLE_OP asks for its bucket: it acts at once, or waits; under escalation ahead of every other
claimant (13 R359). -/
def Blk.ctOpAsk (b : Blk) (ref : DRef) (bkt : Nat) (esc : Bool) : Blk :=
  if (b.lockHolder bkt).isNone then b.ctOpNow ref
  else if esc then
    Blk.inc { b with
      ct := { b.ct with waits := (bkt, .op ref b.up) :: b.ct.waits }
      flow := { b.flow with heldOps := ref :: b.flow.heldOps } } C.FLC_RETRY_HELD
  else { b with ct := { b.ct with waits := b.ct.waits ++ [(bkt, .op ref b.up)] } }

/-! ### Scans and flushes (08 R204, R205) -/

/-- What a scan does with one row. -/
def scanRow (age now : Nat) (burst : Nat → Nat) (r : Row) : Row × Bool :=
  if !r.valid then (r, false)
  else if r.pinned then
    if age16 now r.last > 0x80000000 then ({ r with tokens := burst r.profile * 256, last := now, index := now }, false)
    else ({ r with index := r.last }, false)
  else if age16 now r.last > age then ({}, true)
  else ({ r with index := r.last }, false)

/-- Whether a scan reads a bucket: an index entry is older than AGE_MIN. -/
def scanReads (age now : Nat) (k : Bucket) : Bool :=
  (k.r0.valid && decide (age16 now k.r0.index > age)) || (k.r1.valid && decide (age16 now k.r1.index > age))

/-- Visit one bucket. -/
def Blk.scanBucket (b : Blk) (i : Nat) : Blk :=
  let age := atLeast1 (b.rd R.CLK_CT_AGE_MIN) * 60 * 65536
  let now := now16 b.ins.now
  let k := b.bucketAt i
  if scanReads age now k then
    let burst := fun p => (b.profile p).burst
    let x := scanRow age now burst k.r0
    let y := scanRow age now burst k.r1
    (b.setBucket i ⟨x.1, y.1⟩).incN C.CLK_CT_AGED (b2n x.2 + b2n y.2)
  else b

/-- What a flush leaves of a row. -/
def flushRow (r : Row) : Row := if r.pinned then r else {}

def Blk.flushBucket (b : Blk) (i : Nat) : Blk :=
  let k := b.bucketAt i
  b.setBucket i ⟨flushRow k.r0, flushRow k.r1⟩

/-- Buckets that hold a row. -/
def Blk.usedBuckets (b : Blk) : List Nat := b.ct.rows.map (·.1)

/-- Start a scan: it takes each bucket's lock like an engine, so a locked bucket is left for the end. -/
def Blk.scanStart (b : Blk) (ref : Option DRef) : Blk :=
  let free := b.usedBuckets.filter fun i => (b.lockHolder i).isNone
  let left := b.usedBuckets.filter fun i => (b.lockHolder i).isSome
  let c := free.foldl Blk.scanBucket b
  { c with ct := { c.ct with scanBusy := true, scanRefs := ref.toList, scanLeft := left } }

/-- Start a flush. -/
def Blk.flushStart (b : Blk) (ref : DRef) : Blk :=
  let free := b.usedBuckets.filter fun i => (b.lockHolder i).isNone
  let left := b.usedBuckets.filter fun i => (b.lockHolder i).isSome
  let c := free.foldl Blk.flushBucket b
  { c with ct := { c.ct with flushBusy := true, flushRef := some ref, flushLeft := left } }

end Sys2Proof.Machine
end

