-- ==== Sys2Proof/Machine/Units.lean ====
section
/-! DEFINITION. What units hold and how it is given back: Laster entries (03 R61, R68 to R70), egress space (13
R346), ingress shares, Stitcher contexts (09 R233), frames and invocations; unit resets (14 R368), closure of a
session (11 R294), the reset of the host block (11 R318), and a fall of a link (07 R159). -/

namespace Sys2Proof.Machine

/-! ### Laster entries -/

/-- The lowest index from n on that a table with rising keys lacks. -/
def firstGap : Tab LEntry → Nat → Nat
  | [], n => n
  | (k, _) :: rest, n => if k = n then firstGap rest (n + 1) else if k < n then firstGap rest n else n

/-- Entries of the LAUNCH reservation in use, and its size. -/
def Blk.launchUsed (b : Blk) : Nat := (b.laster.ents.filter fun e => e.2.cls == 1).length
def Blk.launchRsv (b : Blk) : Nat := b.rd R.LST_CTRL_LAUNCH_RSV

/-- Free entries of the LAUNCH reservation and of the general pool. -/
def Blk.launchFree (b : Blk) : Nat := b.launchRsv - b.launchUsed
def Blk.poolFree (b : Blk) : Nat := (4096 - b.launchRsv) - (b.lstUsed - b.launchUsed)

/-- LST_CTRL.HOST_MAX, 1 to 1,023 (03 R78). -/
def Blk.hostMax (b : Blk) : Nat := atLeast1 (b.rd R.LST_CTRL_HOST_MAX)

/-- Entries of the general pool that function f holds. -/
def Blk.hostHolds (b : Blk) (f : Nat) : Nat :=
  (b.laster.ents.filter fun e => e.2.owner == f && e.2.cls != 1).length

/-- LST_HORIZON.HOT_MS (03 R78). -/
def Blk.hotU (b : Blk) : Nat := msU (clampN 10 1000 (b.rd R.LST_HORIZON_HOT_MS))

/-- The index the next armed entry takes: the lowest that is free (log entry 31). -/
def Blk.lstNext (b : Blk) : Nat := firstGap b.laster.ents 0

/-- Generation that an index takes when it is used again (03 R69). -/
def genNext (gens : Tab Nat) (i : Nat) : Nat := if thas gens i then (tget 0 gens i + 1) % 16 else 0

/-- Arm an entry at the next free index; the index is `b.lstNext`. An entry beyond the hot horizon lies in the
Store (03 R61). -/
def Blk.lstArm (b : Blk) (e : LEntry) : Blk :=
  let i := b.lstNext
  let e := { e with seq := b.laster.seq, spilled := decide (e.t0 > (b.ins.now + b.hotU : Nat)) }
  { b with laster := { b.laster with ents := tput b.laster.ents i e, seq := b.laster.seq + 1
                                     gens := tput b.laster.gens i (genNext b.laster.gens i)
                                     ended := tdel b.laster.ended i } }

/-- The entry of an index, if one is armed there. -/
def Blk.lstAt? (b : Blk) (i : Nat) : Option LEntry := (b.laster.ents.find? fun e => e.1 == i).map (·.2)

/-- Remove an entry. -/
def Blk.lstDel (b : Blk) (i : Nat) : Blk := { b with laster := { b.laster with ents := tdel b.laster.ents i } }
def Blk.lstDel? (b : Blk) : Option Nat → Blk
  | some i => b.lstDel i
  | none => b

/-- The handle of an index (03 R62). -/
def Blk.lstHandle (b : Blk) (i : Nat) : Nat := i + 4096 * tget 0 b.laster.gens i

/-! ### Egress space (13 R346) -/

/-- FLC_EGPORT in bytes, four times as much for a ganged port: the guarantee and the cap. -/
def Blk.egMin (b : Blk) (p : Nat) : Nat :=
  min 256 (b.rd R.FLC_EGPORT_MIN_KB) * 1024 * (if b.ganged p then 4 else 1)
def Blk.egMax (b : Blk) (p : Nat) : Nat :=
  clampN (min 256 (b.rd R.FLC_EGPORT_MIN_KB)) 2048 (b.rd R.FLC_EGPORT_MAX_KB) * 1024 * (if b.ganged p then 4 else 1)

/-- Bytes of egress space in use for a port. -/
def Blk.egUsed (b : Blk) (p : Nat) : Nat := tget 0 b.flow.egUsed p

/-- Bytes of a Bench's shared area in use, and the area's size: 2,048 KiB less eight guarantees. -/
def Blk.egShared (b : Blk) (bench : Nat) : Nat :=
  ((List.range 8).map fun i => b.egUsed (8 * bench + i) - b.egMin (8 * bench + i)).sum
def Blk.egArea (b : Blk) : Nat := 2097152 - 8 * (min 256 (b.rd R.FLC_EGPORT_MIN_KB) * 1024)

/-- Whether n bytes can be granted on a port. -/
def Blk.egFits (b : Blk) (p n : Nat) : Bool :=
  let used := b.egUsed p
  let more := (used + n - b.egMin p) - (used - b.egMin p)
  decide (used + n ≤ b.egMax p) && decide (b.egShared (benchOfPort p) + more ≤ b.egArea)

def Blk.egTake (b : Blk) (p n : Nat) : Blk :=
  { b with flow := { b.flow with egUsed := tput b.flow.egUsed p (b.egUsed p + n) } }
def Blk.egFree (b : Blk) (p n : Nat) : Blk :=
  { b with flow := { b.flow with egUsed := tput b.flow.egUsed p (b.egUsed p - n) } }

/-! ### Ingress shares and contexts -/

/-- The size of a port's ingress share. -/
def Blk.ingSize (b : Blk) (p : Nat) : Nat := if b.ganged p then 2097152 else 524288

def Blk.ingUsed (b : Blk) (p : Nat) : Nat := tget 0 b.clk.ingUsed p
def Blk.ingFree (b : Blk) (r : Req) : Blk :=
  { b with clk := { b.clk with ingUsed := tput b.clk.ingUsed r.port (b.ingUsed r.port - r.data.length) } }

/-- Free a Stitcher context, with the egress bytes a response that waits for its re-seal holds there. -/
def Blk.ctxFree (b : Blk) (k : Nat) : Blk :=
  match b.nts.ctxs.find? fun e => e.1 == k with
  | none => b
  | some e => Blk.egFree { b with nts := { b.nts with ctxs := tdel b.nts.ctxs k } } e.2.req.port e.2.eg
def Blk.ctxFree? (b : Blk) : Option Nat → Blk
  | some k => b.ctxFree k
  | none => b

/-! ### Frames -/

/-- A sealed response with a launch instant (09 R252). -/
def TxF.sealed (f : TxF) : Bool := f.launch.isSome && f.ctx.isSome

/-- Give back what a frame holds: egress space, Laster entry, context. -/
def Blk.frameFree (b : Blk) (f : TxF) : Blk := ((b.egFree f.port f.eg).lstDel? f.entry).ctxFree? f.ctx

/-- Complete the TX_FRAME of a frame, if it is one. -/
def Blk.frameDone (b : Blk) (f : TxF) (status : Nat) : Blk :=
  match f.ref with
  | some r => b.complete r status []
  | none => b

/-- A dropped sealed response (09 R256). -/
def Blk.sealDrop (b : Blk) : Blk := b.inc C.NTS_SAL_DROP

/-- Discard a frame by counted policy; `miss` is the NTS_MISS counter of a sealed response. -/
def Blk.frameDrop (b : Blk) (miss status : Nat) (f : TxF) : Blk :=
  let b := (b.frameFree f).inc C.CLK_POLICY_DROP
  let b := if f.sealed then (b.inc miss).sealDrop else b
  b.frameDone f status

/-- Count a missed launch on its port (07 R181). -/
def Blk.launchMiss (b : Blk) (p code : Nat) : Blk :=
  (b.setPort p { b.portOf p with missLast := code }).inc (C.PRT_LAUNCH_MISS p)

/-- Every frame of a port that holds egress space: waiting, armed, committed. -/
def Blk.portFrames (b : Blk) (p : Nat) : List TxF :=
  let q := b.portOf p
  q.queue ++ q.armed ++ (q.commit.map (·.1)).toList

/-- Discard every frame of a port. -/
def Blk.portDiscard (b : Blk) (miss status p : Nat) : Blk :=
  let fs := b.portFrames p
  let b := b.setPort p { b.portOf p with queue := [], armed := [], commit := none }
  fs.foldl (fun b f => b.frameDrop miss status f) b

/-! ### Invocations -/

def Blk.invAt? (b : Blk) (lane : Nat) : Option Inv := (b.eng.invs.find? fun e => e.1 == lane).map (·.2)
def Blk.setInv (b : Blk) (lane : Nat) (v : Inv) : Blk :=
  { b with eng := { b.eng with invs := tput b.eng.invs lane v } }
def Blk.delInv (b : Blk) (lane : Nat) : Blk := { b with eng := { b.eng with invs := tdel b.eng.invs lane } }

/-- Release an invocation's bucket lock. -/
def Blk.invUnlock (b : Blk) (lane : Nat) (v : Inv) : Blk :=
  match v.bucket with
  | some k => b.lockFree k lane
  | none => b

/-- An invocation leaves its Lane: its lock, its request's ingress bytes; the reservations are the caller's. The
request of a RELAUNCH left the ingress buffer at its first return (08 R209). -/
def Blk.invLeave (b : Blk) (lane : Nat) (v : Inv) : Blk :=
  let b := (b.delInv lane).invUnlock lane v
  if v.self || v.entry == 2 then b else b.ingFree v.req

/-- Lane-cycles that an invocation has held its Lane (16 R414). -/
def Blk.laneCycles (b : Blk) (v : Inv) : Nat := coreCycles b.up - coreCycles v.heldFrom

/-- An invocation ends without write-back and without a response: its reservations are freed. Its Lane-cycles are wasted (16
R414). -/
def Blk.invAbort (b : Blk) (lane : Nat) : Blk :=
  match b.invAt? lane with
  | none => b
  | some v => (((b.invLeave lane v).egFree v.req.port v.eg).ctxFree? v.ctx).pmcEvent 0x11 (lane / 64) (b.laneCycles v)

/-- An invocation ends and is counted in CLK_POLICY_DROP; a self-test is no request. -/
def Blk.invDiscard (b : Blk) (lane : Nat) : Blk :=
  match b.invAt? lane with
  | none => b
  | some v => if v.self then b.invAbort lane else (b.invAbort lane).inc C.CLK_POLICY_DROP

/-- Lanes of the invocations that satisfy a condition. -/
def Blk.lanesOf (b : Blk) (p : Nat → Inv → Bool) : List Nat :=
  (b.eng.invs.filter fun e => p e.1 e.2).map (·.1)

/-- Revoke a context (09 R233): its response, wherever it is, is dropped by counted policy with reason AGED. -/
def Blk.ctxRevoke (b : Blk) (k : Nat) : Blk :=
  match b.nts.ctxs.find? fun e => e.1 == k with
  | none => b
  | some e =>
    let p := e.2.req.port
    let q := b.portOf p
    let mine := fun f : TxF => f.ctx == some k
    let fs := (b.portFrames p).filter mine
    let lanes := b.lanesOf fun _ v => v.ctx == some k
    let b := b.setPort p { q with queue := q.queue.filter (!mine ·), armed := q.armed.filter (!mine ·)
                                  commit := match q.commit with | some x => if mine x.1 then none else some x | none => none }
    let b := fs.foldl (fun b f => b.frameFree f) b
    let b := lanes.foldl Blk.invAbort b
    (((b.ctxFree k).inc C.NTS_MISS_AGED).sealDrop).inc C.CLK_POLICY_DROP

/-- Discard a waiting request: its ingress bytes, and the egress space it may hold. -/
def Blk.reqFree (b : Blk) (r : Req) : Blk := (b.ingFree r).egFree r.port r.eg
def Blk.reqDiscard (b : Blk) (r : Req) : Blk := (b.reqFree r).inc C.CLK_POLICY_DROP

/-- Discard the waiting requests that satisfy a condition. -/
def Blk.reqsDiscard (b : Blk) (p : Req → Bool) : Blk :=
  let gone := b.clk.reqs.filter p
  gone.foldl Blk.reqDiscard { b with clk := { b.clk with reqs := b.clk.reqs.filter (!p ·) } }

/-! ### Unit resets (14 R368) -/

/-- The fitted ports of a Bench. -/
def Blk.benchPorts (b : Blk) (i : Nat) : List Nat :=
  (List.range 8).map (8 * i + ·) |>.filter (· < b.part.variant.ports)

/-- TX_FRAMEs that wait for egress space on ports of a list complete with ABORTED_RESET. -/
def Blk.waitsAbort (b : Blk) (ps : List Nat) : Blk :=
  let gone := b.flow.waits.filter fun x => ps.contains x.frame.port
  let b := { b with flow := { b.flow with waits := b.flow.waits.filter fun x => !ps.contains x.frame.port } }
  gone.foldl (fun b x => b.complete x.ref stAborted []) b

/-- The work in flight on Bench i ends (14 R368, 02 R40): invocations on its Lanes and of its ports' requests,
its Stitchers' contexts, the frames in its egress share, the requests in its ports' ingress shares. -/
def Blk.benchWork (b : Blk) (i : Nat) : Blk :=
  let ps := b.benchPorts i
  let b := (b.lanesOf fun l v => l / 64 == i || (!v.self && benchOfPort v.req.port == i)).foldl Blk.invDiscard b
  let ctxs := (b.nts.ctxs.filter fun e => e.1 / 256 == i).map (·.1)
  let b := ctxs.foldl Blk.ctxRevoke b
  let b := ps.foldl (fun b p => b.portDiscard C.NTS_MISS_AGED stAborted p) b
  let b := b.waitsAbort ps
  b.reqsDiscard fun r => benchOfPort r.port == i

/-- Mark Stitchers whose key copies have been wiped. -/
def Blk.staleAdd (b : Blk) (l : List Nat) : Blk :=
  { b with nts := { b.nts with stale := b.nts.stale ++ l.filter (!b.nts.stale.contains ·) } }
def Blk.staleDel (b : Blk) (l : List Nat) : Blk :=
  { b with nts := { b.nts with stale := b.nts.stale.filter (!l.contains ·) } }

/-- A Bench reset begins. -/
def Blk.benchBegin (b : Blk) (i : Nat) : Blk := (b.benchWork i).staleAdd [2 * i, 2 * i + 1]

/-- An engine reset begins: the invocations on its Lanes, with their leases. -/
def Blk.engineBegin (b : Blk) (e : Nat) : Blk := (b.lanesOf fun l _ => l / 4 == e).foldl Blk.invDiscard b

/-- A fall of LINK (07 R159, R184): LINK_EVENT, the record, the queued non-launch frames, TW_TX. -/
def Blk.linkFall (b : Blk) (p : Nat) : Blk :=
  let q := b.portOf p
  if !q.link then b else
    let gone := q.queue ++ (q.commit.map (·.1)).toList
    let b := (b.setPort p { q with link := false, queue := [], commit := none, lpiTx := false }).setF (R.PRT_STATUS_LINK_EVENT p)
    let b := (b.wr (R.PRT_LPI_TW_TX p) 0).recLink p false
    gone.foldl (fun b f => ((b.frameFree f).inc (C.PRT_TX_DISCARD p)).frameDone f stDropped) b

/-- A port reset begins: PCS and MAC, link, the ingress share and its requests; a request that a Lane holds lies in
the share too. -/
def Blk.portBegin (b : Blk) (p : Nat) : Blk :=
  let b := b.linkFall p
  let q := b.portOf p
  let b := b.setPort p { q with lock := false, fecLock := false, aligned := false, localFault := false
                                remoteFault := false, lpiRx := false, lpiTx := false, pauseEnd := 0, pfcEnd := []
                                runFrom := [], stormEnd := none }
  let b := b.wr (R.PRT_LPI_TW_TX p) 0
  let b := (b.lanesOf fun _ v => !v.self && v.entry != 2 && v.req.port == p).foldl Blk.invDiscard b
  b.reqsDiscard fun r => r.port == p

/-- Begin a unit reset. KIND 1 Bench, 2 engine, 3 port. -/
def Blk.unitBegin (b : Blk) (kind index : Nat) (byHost : Bool) : Blk :=
  let b := { b with rst := { b.rst with units := b.rst.units ++ [UnitReset.mk kind index byHost] } }
  match kind with
  | 1 => b.benchBegin index
  | 2 => b.engineBegin index
  | _ => b.portBegin index

/-! ### Sessions and the host block (11 R294, R318) -/

/-- Ring pairs of a function. -/
def Blk.ringsOf (b : Blk) (f : Nat) : List Nat := (List.range 64).filter fun r => b.ringOwner r == f

/-- The buffers posted on ring pair r are gone: where it is the exception ring, the frames that wait for one are held in the
spill (08 R197). -/
def Blk.excSpill (b : Blk) (r : Nat) : Blk :=
  if b.rd R.CLK_EXC_RING = r then { b with clk := { b.clk with exc := b.clk.exc.map fun e => { e with spilled := true } } } else b

/-- Stop a ring pair at a closure: ENABLE clears, what was fetched is gone, completions of begun work vanish. -/
def Blk.ringStop (b : Blk) (r : Nat) : Blk :=
  let x := b.ringOf r
  let b := ((b.excSpill r).wr (R.HRG_CTL_ENABLE r) 0).setRing r { nextId := x.nextId, sqCi := x.sqCi, cqPi := x.cqPi }
  { b with flow := { b.flow with waits := b.flow.waits.filter (·.ref.ring != r)
                                 heldOps := b.flow.heldOps.filter (·.ring != r) }
           ct := { b.ct with waits := b.ct.waits.filter fun e =>
                     match e.2 with | .op ref _ => ref.ring != r | .lane _ => true } }

/-- Stop an event ring. -/
def Blk.evtStop (b : Blk) (f : Nat) : Blk :=
  let e := b.evtOf f
  (b.wr (R.EVT_CTL_ENABLE f) 0).setEvt f { lost := e.lost, gsum := e.gsum }

/-- Draw a new challenge: 16 free bytes from the counter on. -/
def Blk.newChal (b : Blk) (f : Nat) : Blk :=
  (b.setSes f { b.sesOf f with chal := b.freeCtr }).draw 16

/-- Close the session of a function with a cause (11 R294, R320); nothing where none is open. -/
def Blk.sesClose (b : Blk) (f cause : Nat) : Blk :=
  let x := b.sesOf f
  if x.st == .opened then
    let b := b.setSes f { x with st := .idle, priv := 0, ks := [], cause := cause }
    let b := ((b.ringsOf f).foldl Blk.ringStop b).evtStop f
    b.newChal f
  else b

/-- Return the registers with a key in a range to their reset values. -/
def Blk.regsBack (b : Blk) (p : Nat → Bool) : Blk := { b with regs := b.regs.filter fun e => !p e.1 }

/-- The registers of function f that PERST# and FLR return (17 R436). FAILED is a sticky bit of SES_STATUS and
stays. -/
def hostReg (f key : Nat) : Bool :=
  key / 0x100000 == f &&
    let o := key % 0x100000
    (decide (0x1018 ≤ o ∧ o < 0x10B4)
      || decide (0x6000 ≤ o ∧ o < 0x6030) && o != 0x6020
      || o == 0x5020 || o == 0x5024
      || decide (0x7000 ≤ o ∧ o < 0x8000))

/-- The registers of ring pair r. -/
def ringReg (r key : Nat) : Bool := decide (0x4000 + 0x40 * r ≤ key ∧ key < 0x4040 + 0x40 * r)

/-- The host side of function f is reset: its session closes, its rings, its event ring and MSI-X state return. A verification
is given up, its challenge spent and no failure counted (11 R292, R319; log entry 15). -/
def Blk.hostReset (b : Blk) (f cause : Nat) : Blk :=
  let b := b.sesClose f cause
  let b := if (b.sesOf f).st == .verifying then (b.setSes f { b.sesOf f with st := .idle }).newChal f else b
  let rs := b.ringsOf f
  let b := (rs.foldl Blk.ringStop b).evtStop f
  let b := rs.foldl (fun b r => b.setRing r { nextId := (b.ringOf r).nextId }) b
  let b := b.setEvt f {}
  let s := b.sesOf f
  let b := b.setSes f { s with dnonce := [], dmac := [] }
  b.regsBack fun k => hostReg f k || rs.any fun r => ringReg r k

/-- The host block is reset as on PERST# (11 R318). -/
def Blk.hostBlockReset (b : Blk) : Blk := (List.range 4).foldl (fun b f => b.hostReset f 3) b

end Sys2Proof.Machine
end

