-- ==== Sys2Proof/Machine/Errors.lean ====
section
/-! DEFINITION. The error machinery (15): raising, the log, leases revoked, the actions of R393 and R394, escalation,
pre-emption and the queue, FATAL errors and the hand-over (R404), OSCIN lost (R405); key epochs that are retired by it
(09 R246); and the twin's claim (12 R337). -/

namespace Sys2Proof.Machine

/-! ### Kinds of Welt blocks the model puts out (log entry 60) -/

def weltHello : Nat := 1
def weltProof : Nat := 2
def weltMarker : Nat := 3
def weltFail : Nat := 4
def weltHandover : Nat := 5
def weltMirror : Nat := 6
def weltReset : Nat := 7
def weltCopy : Nat := 8
def weltArbTest : Nat := 9
def weltCredit : Nat := 10
def weltDetach : Nat := 11

/-! ### Key epochs (09 R246, R249) -/

/-- NO_SEAL's record and the clearing of it are written where CURRENT changes; the DEGRADED error is raised by the
command (`Blk.follow`). -/
def Blk.noSealRecord (old b : Blk) : Blk :=
  if b.part.variant.stitchers = 0 || old.noSeal == b.noSeal then b
  else b.recNts 0 0 (if b.noSeal then 2 else 3)

/-- Change an epoch's state, with the NTS record of it. -/
def Blk.epochState (b : Blk) (n st : Nat) : Blk :=
  let e := b.epochOf n
  (b.setEpoch n { e with st := st }).recNts n e.id 1

/-- An epoch moves to RETIRING: its KEY_ROLL entries go. -/
def Blk.epochRetire (b : Blk) (n : Nat) : Blk :=
  let e := b.epochOf n
  if e.st = 1 ∨ e.st = 2 ∨ e.st = 3 then
    Blk.noSealRecord b ((b.setEpoch n { e with actEntry := none, expEntry := none }).epochState n 4)
  else b

/-! ### The twin's claim -/

/-- Leave the pair (12 R341 without its EN[11], R404): claim, role, mirror. -/
def Blk.twinLeave (b : Blk) : Blk :=
  let t := b.twin
  { b with twin := { t with attached := false, role := 0, claimOut := false, track := false, trackRun := 0
                            mirrorSync := false, poolIdx := none, handed := false, switchRef := none, queue := 0
                            peerResetOk := false, resetOk := false, failAt := none, lostAt := none } }

/-- A leader gives up its claim after a FATAL error, with a FAIL block where the link allows (12 R337, 15 R404); a follower
leaves the pair. -/
def Blk.twinFail (b : Blk) : Blk :=
  let t := b.twin
  let b := if t.attached && t.link && t.role = 1 then b.put (.welt weltFail []) else b
  if t.attached then b.twinLeave.recTwin 8 0 else b.twinLeave

/-- ARB_FAULT; with ARB_TEST = 0 it is 0 (12 R326). -/
def Blk.arbFault (b : Blk) : Bool := b.twin.armFault && b.flag R.TWN_CFG_ARB_TEST

/-- The full copy of the mirror (12 R331). -/
def Blk.copySend (b : Blk) : Blk :=
  let b := { b with twin := { b.twin with mirrorSync := false, queue := 0, creditAt := b.up } }
  ((b.mirrorCopy ++ [.copyEnd]).foldl (fun b i => b.put (.mirror i)) (b.put (.welt weltCopy [])))

/-- A follower that has lost the link and cannot take over (12 R338). -/
def Blk.orphan (b : Blk) : Blk :=
  if b.twin.role = 2 && !b.twin.attached && b.twin.failAt.isNone && (b.twin.claimIn || b.arbFault) then
    Blk.recTwin { b with twin := { b.twin with role := 3, track := false, trackRun := 0 } } 9 0
  else b

/-- The Welt falls (12 R324, R337, R338): the pair is no longer attached; the leader keeps its claim. -/
def Blk.weltLost (b : Blk) : Blk :=
  let t := b.twin
  if !t.link then b else
    let b := { b with twin := { t with link := false, attached := false, mirrorSync := false, queue := 0, txMark := none, rxMark := none
                                       lostAt := if t.attached then some b.up else t.lostAt
                                       bothFrom := if t.claimOut && t.claimIn then some b.up else none } }
    let b := b.recTwin 2 0
    if t.attached then ((b.setF R.TWN_STATUS_PEER_LOST).inc C.TWN_LOSS).orphan else b

/-! ### FATAL (15 R404) -/

/-- Discard every frame that is not in transmission: sealed responses miss with reason TWIN, TX_FRAMEs complete
with DROPPED_POLICY. -/
def Blk.discardAll (b : Blk) : Blk :=
  let b := (List.range 32).foldl (fun b p => b.portDiscard C.NTS_MISS_TWIN stDropped p) b
  let waiting := (b.nts.ctxs.filter fun e => e.2.missed.isSome).map (·.1)
  waiting.foldl (fun b k => (((b.ctxFree k).inc C.NTS_MISS_TWIN).sealDrop).inc C.CLK_POLICY_DROP) b

/-- The steps of R404: service stops, the twin is told, frames are discarded, PERMIT clears, the mode becomes
COMMISSION from a serving mode. A follower detaches by it, and its EN[11] clears (12 R341; log entry 14). -/
def Blk.fatal (b : Blk) : Blk :=
  let b := b.reqsDiscard fun _ => true
  let b := if b.twin.attached && b.twin.role == 2 then
      b.wr R.RST_FEATURE_EN (putBit (b.rd R.RST_FEATURE_EN) featTwin false) else b
  let b := b.twinFail
  let b := b.discardAll
  let b := b.wr R.RST_SERVE_PERMIT 0
  if b.mode.serving then
    let b := b.changeMode .commission 8
    match b.modeReq with
    | some m => Blk.complete { b with modeReq := none } m.ref stOk []
    | none => b
  else b

/-! ### Holding and revoking -/

/-- The Bench of a unit code, for engines, Benches and Stitchers. -/
def unitBench (u : Nat) : Nat :=
  if u < 0x40 then u / 16 else if u < 0x48 then u - 0x40 else (u - 0x48) / 2

def isEngine (u : Nat) : Bool := u < 0x40
def isBench (u : Nat) : Bool := 0x40 ≤ u && u < 0x44
def isStitcher (u : Nat) : Bool := 0x48 ≤ u && u < 0x50
def isPort (u : Nat) : Bool := 0x60 ≤ u && u < 0x80

/-- Whether a reset that covers a unit runs (15 R396). -/
def Blk.covered (b : Blk) (u : Nat) : Bool :=
  if isEngine u then b.resetting 1 (u / 16) || b.resetting 2 u
  else if isBench u then b.resetting 1 (u - 0x40)
  else if isStitcher u then b.resetting 1 (unitBench u) || b.nts.iso.contains (u - 0x48)
  else if isPort u then b.resetting 3 (u - 0x60)
  else false

/-- Whether a unit's action covers another's (15 R397). -/
def unitCovers (a u : Nat) : Bool :=
  a == u || (isBench a && (isEngine u || isStitcher u) && unitBench u == unitBench a)

/-- Hold a unit isolated (15 R394); a Bench holds its ports down. -/
def Blk.hold1 (b : Blk) (u : Nat) : Blk :=
  if b.isHeld u then b else { b with err := { b.err with held := b.err.held ++ [u] } }
def Blk.holdUnit (b : Blk) (u : Nat) : Blk :=
  let b := b.hold1 u
  if isBench u then
    (b.benchPorts (u - 0x40)).foldl (fun b p => (b.linkFall p).hold1 (0x60 + p)) b
  else if isPort u then b.linkFall (u - 0x60)
  else if u = 0x86 then b.weltLost
  else if isStitcher u then
    ((b.nts.ctxs.filter fun e => e.1 / 128 == u - 0x48).map (·.1)).foldl Blk.ctxRevoke b
  else b

/-- What a unit reset that host software requests releases (15 R395, R398). -/
def Blk.release (b : Blk) (u : Nat) : Blk :=
  let mine := fun v => v == u || unitCovers u v
    || (isBench u && isPort v && benchOfPort (v - 0x60) == u - 0x40)
  { b with err := { b.err with held := b.err.held.filter (!mine ·), hist := b.err.hist.filter fun e => !mine e.1 } }

/-- Revoke the leases of a unit: bucket locks of its Lanes and Stitcher contexts (15 R402); how many. -/
def Blk.revoke (b : Blk) (u : Nat) : Blk × Nat :=
  let lanes := b.lanesOf fun l v => v.bucket.isSome && b.lockHolder (v.bucket.getD 0) == some l &&
    ((isEngine u && l / 4 == u) || (isBench u && l / 64 == u - 0x40))
  let ctxs := (b.nts.ctxs.filter fun e =>
      (isEngine u && (b.eng.invs.any fun v => v.1 / 4 == u && v.2.ctx == some e.1))
      || (isBench u && e.1 / 256 == u - 0x40) || (isStitcher u && e.1 / 128 == u - 0x48)).map (·.1)
  let n := lanes.length + ctxs.length
  let b := lanes.foldl (fun b l => match b.invAt? l with
    | some v => (b.setInv l { v with bucket := none, wb := none }).invUnlock l v
    | none => b) b
  let b := ctxs.foldl Blk.ctxRevoke b
  (b.incN C.ERR_REVOKED n, n)

/-! ### The log (15 R400) -/

/-- Word 0 of an entry. -/
def ErrEntry.w0 (e : ErrEntry) : Nat :=
  e.cls + 4 * b2n e.escalated + 8 * b2n e.queued + 16 * b2n e.preempted + 32 * b2n e.done + 64 * b2n e.injected
  + 128 + 256 * e.unit + 65536 * e.code

/-- Words 1 to 3. -/
def ErrEntry.w1 (e : ErrEntry) : Nat := shortOf e.time
def ErrEntry.w2 (e : ErrEntry) : Nat := e.detail % 0x100000000
def ErrEntry.w3 (e : ErrEntry) : Nat := satNat e.revoked 16 + 65536 * e.seq

/-- The entry of an index. -/
def Err.at? (e : Err) (i : Nat) : Option ErrEntry := (e.log.find? fun x => x.1 == i).map (·.2)

/-- The next place of the log: the first in circular order whose handling has ended (15 R400). -/
def Err.nextSlot (e : Err) : Nat :=
  let start := if e.ptr = 0x3F then 0 else (e.ptr + 1) % 32
  match (List.range 32).find? fun k => match e.at? ((start + k) % 32) with | some x => x.done | none => true with
  | some k => (start + k) % 32
  | none => start

/-- The counter of a class. -/
def errCounter (cls : Nat) : Nat :=
  match cls with | 0 => C.ERR_CORRECTED | 1 => C.ERR_CONTAINED | 2 => C.ERR_DEGRADED | _ => C.ERR_FATAL

/-- Write an entry. -/
def Blk.errPut (b : Blk) (i : Nat) (x : ErrEntry) : Blk := { b with err := { b.err with log := tput b.err.log i x } }

/-- Change an entry. -/
def Blk.errEdit (b : Blk) (i : Nat) (f : ErrEntry → ErrEntry) : Blk :=
  match b.err.at? i with | some x => b.errPut i (f x) | none => b

/-- The ERROR record of an entry (15 R401). -/
def Blk.errRecord (b : Blk) (i : Nat) : Blk :=
  match b.err.at? i with
  | none => b
  | some e => b.route 28 0x0C e.cls i e.time
      (leB 1 e.unit ++ leB 1 e.code ++ leB 1 (e.w0 / 4 % 32) ++ leB 1 0 ++ leB 4 e.detail ++ leB 2 (satNat e.revoked 16) ++ leB 2 e.seq)

/-- Log an error; its index. -/
def Blk.errLog (b : Blk) (cls : Nat) (esc queued done inj : Bool) (unit code detail : Nat) : Blk × Nat :=
  let i := b.err.nextSlot
  let x : ErrEntry := { cls := cls, escalated := esc, queued := queued, preempted := false, done := done
                        injected := inj, unit := unit % 256, code := code % 256, time := b.ins.now
                        detail := detail, revoked := 0, seq := b.err.seq }
  let b := b.errPut i x
  let b := { b with err := { b.err with ptr := i, seq := (b.err.seq + 1) % 65536 } }
  let b := b.wr R.ERR_STATUS_SEEN (b.rd R.ERR_STATUS_SEEN ||| 2 ^ cls)
  (b.inc (errCounter cls), i)

/-! ### Actions -/

/-- Set a reference slot to NO_SIGNAL after a parity error in it (15 R393). -/
def Blk.slotParity (b : Blk) (i : Nat) : Blk :=
  let s := b.slotOf i
  if s.st == .disabled then b
  else (b.setSlot i { s with st := .noSignal, bucket := 0, timer := none, hist := [], hasX := false }).recRef i 1 0 1

/-- Isolate a Stitcher until it has reloaded its key copies (09 R235). -/
def Blk.stitcherIsolate (b : Blk) (s : Nat) : Blk :=
  let b := ((b.nts.ctxs.filter fun e => e.1 / 128 == s).map (·.1)).foldl Blk.ctxRevoke b
  let b := b.staleAdd [s]
  { b with nts := { b.nts with iso := if b.nts.iso.contains s then b.nts.iso else b.nts.iso ++ [s] } }

/-- Both rows of a bucket become invalid (15 R393, 0x0E). -/
def Blk.bucketWipe (b : Blk) (i : Nat) : Blk := b.setBucket i {}

/-- A PTP session entry is freed (15 R393, 0x05): the one DETAIL numbers. -/
def Blk.sessFree (b : Blk) (i : Nat) : Blk :=
  { b with ptp := { b.ptp with sess := b.ptp.sess.take i ++ b.ptp.sess.drop (i + 1) } }

/-- Ask for a resynchronisation of the mirror (12 R333). -/
def Blk.mirrorResync (b : Blk) : Blk :=
  if b.twin.attached then
    let b := if b.twin.role = 1 then b.copySend else { b with twin := { b.twin with mirrorSync := false } }
    (b.inc C.TWN_RESYNC).recTwin 0xB 0
  else b

/-- A Laster entry is dropped as LATE_SKIP (15 R393, 0x09 and 0x10): the one of this index. What it acts for ends with it: a
frame held for launch is dropped, a TIME_ADJUST completes with DROPPED_POLICY; with NOTIFY set the skip writes its record (03
R67, R68). -/
def Blk.lstParity (b : Blk) (i : Nat) : Blk :=
  match b.lstAt? i with
  | none => b
  | some e =>
    let h := b.lstHandle i
    let d := b.lstDel i
    let d := { d with laster := { d.laster with lateSkip := (d.laster.lateSkip + 1) % 0x100000000 } }
    let d := match e.pay with
      | .host => d
      | .adjust ref _ _ => d.complete ref stDropped []
      | .launch id =>
        let q := d.portOf e.obj
        let fs := q.armed.filter (·.id == id)
        fs.foldl (fun b f => b.frameDrop C.NTS_MISS_AGED stDropped { f with entry := none })
          (d.setPort e.obj { q with armed := q.armed.filter (·.id != id) })
    if e.notify && e.owner < 4 then d.record e.owner 6 6 h d.ins.now (timeB (e.t0 + (e.k : Int) * e.period).toNat) else d

/-- The frame of this number, wherever it holds egress space, is discarded. -/
def Blk.frameParity (b : Blk) (id : Nat) : Blk :=
  (List.range 32).foldl (fun b p =>
    let q := b.portOf p
    let fs := (b.portFrames p).filter (·.id == id)
    if fs.isEmpty then b else
      let rest := fun l : List TxF => l.filter (·.id != id)
      let b := b.setPort p { q with queue := rest q.queue, armed := rest q.armed, commit := q.commit.filter (·.1.id != id) }
      fs.foldl (fun b f => b.frameDrop C.NTS_MISS_AGED stDropped f) b) b

/-- The waiting request of this number is discarded. -/
def Blk.reqParity (b : Blk) (n : Nat) : Blk := b.reqsDiscard fun r => r.num == n

/-- What parity in the buffers or on the data path takes (15 R393, 0x01 and 0x0C), by the item's kind: a frame or request
in flight that this model holds nowhere, a waiting request, a frame in the egress share, the request on a Lane. -/
def Blk.dataParity (b : Blk) (item : Nat) : Blk :=
  match item % 4 with
  | 1 => b.reqParity (item / 4)
  | 2 => b.frameParity (item / 4)
  | 3 => b.invDiscard (item / 4)
  | _ => b.inc C.CLK_POLICY_DROP

/-- What parity in the timing state takes (15 R393, 0x09): a reference slot, an Awl record of an Eyelet, a Laster entry. -/
def Blk.timingParity (b : Blk) (item : Nat) : Blk :=
  if item < 24 then b.slotParity item
  else if 32 ≤ item ∧ item < 48 then
    let x := b.eyeOf (item - 32)
    if x.queue.isEmpty then b else
      Blk.addF (b.setEye (item - 32) { x with queue := x.queue.drop 1, lost := x.lost + 1 }) (R.PIN_ECNT_LOST_COUNT (item - 32)) 1
  else if 64 ≤ item then b.lstParity (item - 64)
  else b

/-- The descriptor staged when the parity failed completes with PARITY (15 R393, 0x0A). -/
def Blk.stagingParity (b : Blk) (item : Nat) : Blk := b.complete ⟨item % 64, item / 64⟩ stParity []

/-- What an uncorrectable word of the other Store regions takes (15 R393, 0x10): a Laster spill entry, an exception frame, the
mirror staging, a log or histogram entry (which this model does not hold). -/
def Blk.storeParity (b : Blk) (item : Nat) : Blk :=
  match item % 4 with
  | 0 => b.lstParity (item / 4)
  | 1 =>
    if item / 4 < b.clk.exc.length then
      Blk.inc { b with clk := { b.clk with exc := b.clk.exc.take (item / 4) ++ b.clk.exc.drop (item / 4 + 1) } } C.CLK_EXC_DROP
    else b
  | 2 => b.mirrorResync
  | _ => b

/-- The action of 15 R393 for an error that was not escalated. What the code does besides belongs to the command
that raised it. -/
def Blk.act393 (b : Blk) (code unit detail item : Nat) : Blk :=
  match code with
  | 0x01 => b.dataParity item
  | 0x02 => b.unitBegin 2 unit false
  | 0x04 => b.unitBegin 1 (unit - 0x40) false
  | 0x05 => b.sessFree item
  | 0x08 => b.stitcherIsolate (unit - 0x48)
  | 0x09 => b.timingParity item
  | 0x0A => b.stagingParity item
  | 0x0B => b.mirrorResync
  | 0x0C => b.dataParity item
  | 0x0E => b.bucketWipe item
  | 0x10 => b.storeParity item
  | 0x12 => b.unitBegin 2 unit false
  | 0x18 => b.epochRetire (detail % 4)
  | _ => b

/-- In-flight Store transactions end: the invocations that wait for one (15 R394, unit 0x59). -/
def Blk.storeRestart (b : Blk) : Blk := (b.lanesOf fun _ v => v.storeWait).foldl Blk.invDiscard b

/-- The item of the error, discarded where the host block or the timing state is charged (15 R394). -/
def Blk.itemAct (b : Blk) (code item : Nat) : Blk :=
  match code with
  | 0x05 => b.sessFree item
  | 0x09 => b.timingParity item
  | 0x0A => b.stagingParity item
  | 0x0E => b.bucketWipe item
  | 0x10 => b.storeParity item
  | _ => b

/-- The action of 15 R394 at a class: 1 CONTAINED, 2 DEGRADED. -/
def Blk.act394 (b : Blk) (cls code unit detail item : Nat) : Blk :=
  if isEngine unit then b.unitBegin 2 unit false
  else if isBench unit then b.unitBegin 1 (unit - 0x40) false
  else if isStitcher unit then
    if cls ≥ 2 then b.holdUnit unit else b.stitcherIsolate (unit - 0x48)
  else if isPort unit then
    if cls ≥ 2 then b.holdUnit unit else b.unitBegin 3 (unit - 0x60) false
  else match unit with
  | 0x58 => b.reqsDiscard fun _ => true
  | 0x59 =>
    let b := (b.itemAct code item).storeRestart
    if cls ≥ 2 then { b with boot := { b.boot with trainAlt := true } } else b
  | 0x5A => if cls ≥ 2 then { b with ptp := { b.ptp with sess := [] } } else b.itemAct code item
  | 0x83 => b.itemAct code item
  | 0x85 => if cls ≥ 2 then b.hostBlockReset else b.itemAct code item
  | 0x86 => if cls ≥ 2 then b.holdUnit unit else b.mirrorResync
  | 0x87 => b.epochRetire (detail % 4)
  | _ => b

/-- OSCIN has stopped (15 R405): CORE, TIME and STORE stop, every port and the Welt fall, the Insole stops. -/
def Blk.oscStop (b : Blk) : Blk :=
  let b := (List.range 32).foldl Blk.linkFall b
  Blk.weltLost { b with err := { b.err with oscLost := true }, ins := { b.ins with running := false, timeValid := false } }

/-- Steps 2 and 3 of handling (15 R396): the leases go and the action is applied. -/
def Blk.errApply (b : Blk) (j : ErrJob) : Blk :=
  let r := b.revoke j.unit
  let b := r.1.errEdit j.idx fun e => { e with revoked := r.2 }
  if j.cls = 3 then
    if j.code = 0x17 && !j.injected then b.oscStop.fatal else b.fatal
  else if j.injected then b
  else if j.escalated then b.act394 j.cls j.code j.unit j.detail j.item
  else b.act393 j.code j.unit j.detail j.item

/-- Begin handling. -/
def Blk.errStart (b : Blk) (j : ErrJob) : Blk :=
  Blk.errApply { b with err := { b.err with cur := some j } } j

/-- A fault of the error machinery itself (15 R399): the FATAL actions without logging. -/
def Blk.machineFault (b : Blk) : Blk :=
  Blk.fatal { b with err := { b.err with machineFault := true } }

/-- The class at which an error is handled and whether it is escalated (15 R398), with the history after it. -/
def Blk.escalate (b : Blk) (unit cls : Nat) : Nat × Bool × Tab (List (Nat × Nat)) :=
  let h := tget [] b.err.hist unit
  let win := msU (atLeast1 (b.rd R.ERR_ESC_WINDOW_MS))
  match h with
  | [x, y] =>
    if b.up - x.1 ≤ win then (min 3 (max cls (max x.2 y.2) + 1), true, tdel b.err.hist unit)
    else (cls, false, tput b.err.hist unit [y, (b.up, cls)])
  | _ => (cls, false, tput b.err.hist unit (h ++ [(b.up, cls)]))

/-- The ceiling of a unit's escalation (15 R394). -/
def errCeil (u : Nat) : Nat :=
  if isEngine u || isBench u || isStitcher u || isPort u || u == 0x5A || u == 0x85 || u == 0x87 || u == 0x88 || u == 0x89
  then 2 else 3

/-- Raise an error of a given class (15 R396 to R399). -/
def Blk.raise0 (b : Blk) (code unit detail cls : Nat) (inj : Bool) (item : Nat) : Blk :=
  if code = 0x1A && !inj then b.machineFault
  else if !inj && b.covered unit then b
  else
    let held := b.isHeld unit
    let count := !inj && errEsc code && !held
    let x := if count then b.escalate unit cls else (cls, false, b.err.hist)
    let c := min x.1 (if x.2.1 then errCeil unit else 3)
    let b := { b with err := { b.err with hist := x.2.2 } }
    let handle := !held && decide (0 < c)
    let full := decide (16 ≤ b.err.queue.length)
    let higher := match b.err.cur with | some j => decide (c > j.cls) | none => true
    if handle && full && !higher then b.machineFault
    else if !handle && c = 0 && full then b.inc C.ERR_OVFL
    else
      let queued := handle && !higher
      let l := b.errLog c x.2.1 queued (!handle) inj unit code detail
      let b := if x.2.1 then l.1.inc C.ERR_ESCALATED else l.1
      let j : ErrJob := { idx := l.2, code := code, unit := unit, cls := c, escalated := x.2.1, injected := inj, detail := detail, item := item }
      if !handle then b.errRecord l.2
      else match b.err.cur with
      | none => b.errStart j
      | some k =>
        if higher then
          let b := (b.errEdit k.idx fun e => { e with preempted := true }).inc C.ERR_PREEMPTED
          Blk.errStart { b with err := { b.err with suspended := k :: b.err.suspended } } j
        else Blk.inc { b with err := { b.err with queue := b.err.queue ++ [j] } } C.ERR_QUEUED

/-- Whether error 0x19 holds: no fitted engine works and no reset runs that returns one (15 R393). -/
def Blk.noEngine (b : Blk) : Bool :=
  !b.boot.minimal && (List.range 64).all (fun e => !b.enginePresent e || b.isHeld e || b.isHeld (0x40 + e / 16))
  && !b.rst.units.any fun u => u.kind == 1 || u.kind == 2

/-- What follows from a change: NO_SEAL on entry (09 R249), and error 0x19 on entry. -/
def Blk.follow (old b : Blk) : Blk :=
  let b := if b.noSeal && !old.noSeal then b.raise0 0x27 0x89 0 2 false 0 else b
  if b.noEngine && !old.noEngine then b.raise0 0x19 0xFF 0 3 false 0 else b

/-- Raise an error of 15 R393 at its class. Nothing before S9 (15, introduction). -/
def Blk.raise (b : Blk) (code unit detail : Nat) : Blk :=
  if b.boot.done then Blk.follow b (b.raise0 code unit detail (errClass code) false 0) else b

/-- Codes of the conditions of 15 R393. -/
def errTempLost : Nat := 0x20
def errMismatch : Nat := 0x21
def errCalFail : Nat := 0x22
def errStorm : Nat := 0x23
def errHostStall : Nat := 0x24
def errBootAlt : Nat := 0x25
def errPatFallback : Nat := 0x26
def errNoSeal : Nat := 0x27
def errArbFault : Nat := 0x28

/-- Raise a condition of the environment; DETAIL as 15 R400. -/
def Blk.raiseEnv (b : Blk) (code detail : Nat) : Blk := b.raise code 0x89 detail

/-- A change of the epochs with what follows from it. -/
def Blk.withNoSeal (old b : Blk) : Blk :=
  let b := Blk.noSealRecord old b
  if b.noSeal && !old.noSeal then b.raise errNoSeal 0x89 0 else b

/-- Whether the current job's action still runs: a unit reset that recovery issued. -/
def Blk.errActing (b : Blk) (j : ErrJob) : Bool :=
  b.rst.units.any fun u => !u.byHost &&
    ((u.kind == 1 && j.unit == 0x40 + u.index) || (u.kind == 2 && j.unit == u.index) || (u.kind == 3 && j.unit == 0x60 + u.index))

/-- Whether a recovery reset belongs to a suspended job. -/
def Blk.errSuspends (b : Blk) (u : UnitReset) : Bool :=
  !u.byHost && b.err.suspended.any fun j =>
    (u.kind == 1 && j.unit == 0x40 + u.index) || (u.kind == 2 && j.unit == u.index) || (u.kind == 3 && j.unit == 0x60 + u.index)

/-- End the handling of a job: a Stitcher that reloaded returns, the entry is DONE, the record is written. -/
def Blk.errEnd (b : Blk) (j : ErrJob) : Blk :=
  let b := if isStitcher j.unit && !j.injected && j.cls < 2 then
      Blk.staleDel { b with nts := { b.nts with iso := b.nts.iso.filter (· != j.unit - 0x48) } } [j.unit - 0x48] else b
  (b.errEdit j.idx fun e => { e with done := true }).errRecord j.idx

/-- Take up what waits: a suspended job first, recorded as done where the job that ended covered its unit; then the
queue (15 R397). -/
def Blk.errNext (b : Blk) (ended : ErrJob) : Nat → Blk
  | 0 => b
  | n + 1 =>
    match b.err.suspended with
    | j :: rest =>
      let b := { b with err := { b.err with cur := some j, suspended := rest } }
      if unitCovers ended.unit j.unit then
        Blk.errNext (Blk.errEnd { b with err := { b.err with cur := none } } j) ended n
      else b
    | [] =>
      match b.err.queue with
      | j :: rest => Blk.errStart { b with err := { b.err with queue := rest } } j
      | [] => { b with err := { b.err with cur := none } }

/-- The handling in hand ends, if its action has completed. -/
def Blk.errDone (b : Blk) : Blk :=
  match b.err.cur with
  | none => b
  | some j =>
    if b.errActing j then b else
      let c := { b with err := { b.err with cur := none } }.errEnd j
      Blk.follow b (c.errNext j (b.err.suspended.length + 1))

end Sys2Proof.Machine
end

