-- ==== Sys2Proof/Machine/Host.lean ====
section
/-! DEFINITION. The host interface (11): sessions, rings, doorbells, descriptors and their checks, event rings,
interrupts and STATS_SNAPSHOT; the limits of 13 R355 on the host side. -/

namespace Sys2Proof.Machine

/-- BAR accesses reach the device: S9 has completed and PERST# is released (14 R372, R373). -/
def Blk.hostUp (b : Blk) : Bool := b.boot.done && !b.rst.perst

/-! ### Sessions (11 R290 to R294) -/

/-- The provisioning key of a function. -/
def Nvm.provOf (n : Nvm) (f : Nat) : Option ProvKey := (n.prov.find? fun e => e.1 == f).map (·.2)

/-- SES_STATUS.KEY_PRESENT. -/
def Nvm.keyPresent (n : Nvm) (f : Nat) : Bool := (n.provOf f).isSome

/-- n words of a register group as bytes, byte 4w in [31:24] (11 R291). -/
def Blk.wordBytes (b : Blk) (word : Nat → Nat) (n : Nat) : Bytes :=
  (List.range n).flatMap fun i => beB 4 (b.rdW (word i))

/-- The challenge C. -/
def Ses.challenge (x : Ses) : Bytes := freeBytes 16 x.chal

/-- M_h as it must be (11 R291). -/
def mhOf (key : Bytes) (f : Nat) (c nh : Bytes) : Bytes := hmac256 key (ascii "KSES-H" ++ leB 1 f ++ c ++ nh)

/-- M_d. -/
def mdOf (key : Bytes) (f : Nat) (c nh nd : Bytes) : Bytes := hmac256 key (ascii "KSES-D" ++ leB 1 f ++ c ++ nh ++ nd)

/-- K_s. -/
def ksOf (key : Bytes) (f tag : Nat) (c nh nd : Bytes) : Bytes :=
  hkdf32 key (c ++ nh ++ nd) (ascii "KSES-KEK" ++ leB 1 f ++ beB 2 tag)

/-- TAG + 1, skipping 0 (11 R292). -/
def tagNext (t : Nat) : Nat := if (t + 1) % 65536 = 0 then 1 else (t + 1) % 65536

/-- Lockout in seconds after `count` failures in a row (11 R293). -/
def lockoutS (count : Nat) : Nat := if count < 8 then 0 else min 256 (2 ^ (count - 8))

/-- A write of SES_CTRL.OPEN (11 R292). -/
def Blk.openWritten (nvm : Nvm) (f : Nat) (b : Blk) : Blk :=
  let x := b.sesOf f
  if !b.hostUp || x.st != .idle then b
  else if nvm.keyPresent f then
    b.setSes f { x with st := .verifying, hnonce := b.wordBytes (R.SES_HNONCE f) 4, hmac := b.wordBytes (R.SES_HMAC f) 8 }
  else b.setF (R.SES_STATUS_FAILED f)

/-- The privileges of a function: in the minimal configuration at most SETUP, STATS, MODE and PMC_READ (14 R375). -/
def Blk.privOf (b : Blk) (mask : Nat) : Nat := if b.boot.minimal then mask &&& 0x1A01 else mask

/-- Verification passed. -/
def Blk.sesOpened (k : ProvKey) (f : Nat) (b : Blk) : Blk :=
  let x := b.sesOf f
  let nd := freeBytes 16 b.freeCtr
  let tag := tagNext x.tag
  (b.setSes f { x with st := .opened, failCnt := 0, tag := tag, priv := b.privOf k.mask, idleFrom := b.up, dnonce := nd
                       dmac := mdOf k.key f x.challenge x.hnonce nd
                       ks := ksOf k.key f tag x.challenge x.hnonce nd }).draw 16

/-- Verification failed (11 R292, R293). -/
def Blk.sesRefused (f : Nat) (b : Blk) : Blk :=
  let x := b.sesOf f
  let n := min 16 (x.failCnt + 1)
  let l := lockoutS n
  let b := b.setSes f { x with failCnt := n, st := if l = 0 then .idle else .locked
                               lockUntil := if l = 0 then x.lockUntil else b.up + secU l }
  (b.setF (R.SES_STATUS_FAILED f)).newChal f

/-- Verification ends. -/
def Blk.verifyDone (nvm : Nvm) (f : Nat) (b : Blk) : Blk :=
  let x := b.sesOf f
  if x.st != .verifying then b else
  match nvm.provOf f with
  | none => b.sesRefused f
  | some k => if mhOf k.key f x.challenge x.hnonce = x.hmac then b.sesOpened k f else b.sesRefused f

def execSesOpen (w f : Nat) (s : State) : Host.Outcome State Fault Refusal :=
  s.upd w fun nvm b => b.openWritten nvm f

def execSessionVerifyDone (w f : Nat) (s : State) : Host.Outcome State Fault Refusal :=
  s.upd w fun nvm b => b.verifyDone nvm f

def execSesClose (w f : Nat) (s : State) : Host.Outcome State Fault Refusal :=
  s.upd w fun _ b => if b.hostUp then b.sesClose f 1 else b

def execLockoutEnd (w f : Nat) (s : State) : Host.Outcome State Fault Refusal :=
  s.upd w fun _ b =>
    let x := b.sesOf f
    if x.st == .locked && decide (x.lockUntil ≤ b.up) then b.setSes f { x with st := .idle } else b

/-- The idle timer has reached SES_IDLE.IDLE_S; 0 disables it (11 R294, R320). -/
def Blk.idleOver (b : Blk) (f : Nat) : Bool :=
  let n := b.rd (R.SES_IDLE_IDLE_S f)
  (b.sesOf f).st == .opened && n != 0 && decide ((b.sesOf f).idleFrom + secU n ≤ b.up)

def execIdleTimeout (w f : Nat) (s : State) : Host.Outcome State Fault Refusal :=
  s.upd w fun _ b => if b.idleOver f then b.sesClose f 4 else b

/-- SES_PROV on F0 in the states of 14 R381, while F0 has no key (14 R385). -/
def Nvm.provAllowed (n : Nvm) (f : Nat) : Bool :=
  f == 0 && !n.keyPresent 0 && (n.lifecycle == .blank || n.lifecycle == .retired || n.lifecycle == .rma)

def execSesProvLoad (w f : Nat) (s : State) : Host.Outcome State Fault Refusal :=
  s.updN w fun nvm b =>
    if b.hostUp && nvm.provAllowed f then
      ({ nvm with prov := tput nvm.prov f ⟨b.wordBytes (R.SES_PROV f) 8, 0x1FFF⟩ }, b)
    else (nvm, b)

/-- PERST#, or a loss of REFCLK, asserted or released (11 R318). -/
def execPerst (w : Nat) (on : Bool) (s : State) : Host.Outcome State Fault Refusal :=
  s.upd w fun _ b =>
    if on then
      if b.rst.perst then b else Blk.hostBlockReset { b with rst := { b.rst with perst := true } }
    else { b with rst := { b.rst with perst := false } }

/-- A function-level reset; PERST# covers it (14 R367). -/
def execFlr (w f : Nat) (s : State) : Host.Outcome State Fault Refusal :=
  s.upd w fun _ b => if b.rst.perst then b else b.hostReset f 2

/-! ### Rings (11 R296 to R300) -/

/-- A function with an open session. -/
def Blk.sesOpen (b : Blk) (f : Nat) : Bool := b.hostUp && (b.sesOf f).st == .opened

/-- The session of a ring pair's owner is open. -/
def Blk.ringSes (b : Blk) (r : Nat) : Bool := b.sesOpen (b.ringOwner r)

/-- Stop a ring pair with an error code (11 R300). -/
def Blk.ringErr (b : Blk) (r code : Nat) : Blk :=
  let x := b.ringOf r
  (b.setRing r { x with running := false, err := code }).record (b.ringOwner r) 0x0D r code b.ins.now []

/-- Entries of the two rings. -/
def Blk.sqLen (b : Blk) (r : Nat) : Nat := ringLen (b.rd (R.HRG_SIZE_SQ_LOG r))
def Blk.cqLen (b : Blk) (r : Nat) : Nat := ringLen (b.rd (R.HRG_SIZE_CQ_LOG r))

/-- The settings that ENABLE checks: aligned bases, a completion ring at least as large (11 R297). -/
def Blk.ringValid (b : Blk) (r : Nat) : Bool :=
  b.rdW (R.HRG_SQ_LO r) % 4096 == 0 && b.rdW (R.HRG_CQ_LO r) % 4096 == 0 && decide (b.sqLen r ≤ b.cqLen r)

def Blk.ringEnable (b : Blk) (r : Nat) : Blk :=
  if !b.ringSes r || b.flag (R.HRG_CTL_ENABLE r) || (b.ringOf r).running then b
  else
    let b := b.setF (R.HRG_CTL_ENABLE r)
    if b.ringValid r then b.setRing r { nextId := (b.ringOf r).nextId, running := true }
    else b.ringErr r 1

def execRingEnable (w r : Nat) (s : State) : Host.Outcome State Fault Refusal := s.upd w fun _ b => b.ringEnable r

/-- Whether a descriptor is a posted RX_BUFFER. -/
def Desc.isRx (d : Desc) : Bool := byteAt d.data 0 == 2 && d.begun

/-- Take an operation that waits for a resource out of every queue of waits. -/
def Blk.unwait (b : Blk) (ref : DRef) : Blk :=
  { b with flow := { b.flow with waits := b.flow.waits.filter (·.ref != ref), heldOps := b.flow.heldOps.filter (· != ref) }
           ct := { b.ct with waits := b.ct.waits.filter fun e => match e.2 with | .op x _ => x != ref | .lane _ => true } }

/-- A write of ENABLE = 0 (11 R297): what has not begun, and the posted buffers, complete with ABORTED_RESET;
RUNNING clears with the last begun operation. -/
def Blk.ringDisable (b : Blk) (r : Nat) : Blk :=
  if !b.ringSes r || !b.flag (R.HRG_CTL_ENABLE r) then b
  else
    let b := (b.wr (R.HRG_CTL_ENABLE r) 0).excSpill r
    let gone := (b.ringOf r).descs.filter fun d => !d.begun || d.isRx
    let b := gone.foldl (fun b d => (b.unwait ⟨r, d.id⟩).complete ⟨r, d.id⟩ stAborted []) b
    let x := b.ringOf r
    b.setRing r { x with err := 0, stopping := x.running && !x.descs.isEmpty, running := x.running && !x.descs.isEmpty }

def execRingDisable (w r : Nat) (s : State) : Host.Outcome State Fault Refusal := s.upd w fun _ b => b.ringDisable r

/-- Restart the idle timer of a function (11 R294). -/
def Blk.idleRestart (b : Blk) (f : Nat) : Blk := b.setSes f { b.sesOf f with idleFrom := b.up }

/-- The host-written words of one slot have been read: slot r of a ring pair, 64 + f of function f's event ring. -/
def Blk.slotRead (b : Blk) (slot pi ci : Nat) : Blk :=
  if slot < 64 then
    let x := b.ringOf slot
    let f := b.ringOwner slot
    if !x.running || x.err != 0 then b
    else
      let b := if x.sqPi = pi ∧ x.cqCi = ci then b else b.idleRestart f
      let b := b.setRing slot { x with sqPi := pi, cqCi := ci }
      if (pi + 0x100000000 - x.sqCi) % 0x100000000 > b.sqLen slot then b.ringErr slot 2
      else if (x.cqPi + 0x100000000 - ci) % 0x100000000 > b.cqLen slot then b.ringErr slot 3
      else b
  else
    let f := slot - 64
    let e := b.evtOf f
    if !e.running then b
    else (if e.ci = ci then b else b.idleRestart f).setEvt f { e with ci := ci }

/-- The words of a poll: slot, submission producer index, consumer index, and so on. -/
def Blk.pollRead (b : Blk) : List Nat → Blk
  | slot :: pi :: ci :: rest =>
    (b.slotRead slot (pi % 0x100000000) (ci % 0x100000000)).pollRead rest
  | _ => b

/-- The doorbell page of a function could not be read: its running ring pairs stop with code 5. -/
def Blk.pageLost (b : Blk) (f : Nat) : Blk :=
  (b.ringsOf f).foldl (fun b r => if (b.ringOf r).running && (b.ringOf r).err == 0 then b.ringErr r 5 else b) b

/-- The words of slots of the functions in a list only. -/
def Blk.pollOf (b : Blk) (fs : List Nat) : List Nat → List Nat
  | slot :: pi :: ci :: rest =>
    let f := if slot < 64 then b.ringOwner slot else slot - 64
    if fs.contains f && b.sesOpen f then slot :: pi :: ci :: b.pollOf fs rest else b.pollOf fs rest
  | _ => []

/-- A poll of the doorbell slots: `vals` gives slot, SQ_PI and CI of each slot read, `lost` the functions whose page
could not be read (11 R299, R300). -/
def execDoorbellPoll (w : Nat) (vals lost : List Nat) (s : State) : Host.Outcome State Fault Refusal :=
  s.upd w fun _ b =>
    if !b.hostUp then b else
      let b := (b.pmcEvent 0x92 0 1).pollRead (b.pollOf ([0, 1, 2, 3].filter (!lost.contains ·)) vals)
      lost.foldl Blk.pageLost b

/-- A write to HRG_NUDGE: function f's slots are read; ignored without an open session (11 R299). -/
def execHrgNudge (w f : Nat) (vals : List Nat) (s : State) : Host.Outcome State Fault Refusal :=
  s.upd w fun _ b => if b.sesOpen f then ((b.idleRestart f).pmcEvent 0x92 0 1).pollRead (b.pollOf [f] vals) else b

/-! ### Descriptors (11 R301, R302, R305) -/

/-- The privilege bit that an opcode needs (11 R289); none for an opcode outside R305. -/
def opPriv (op : Nat) : Option Nat :=
  match op with
  | 0x01 => some 1 | 0x02 => some 1 | 0x10 => some 2 | 0x11 => some 2 | 0x20 => some 3 | 0x21 => some 3
  | 0x22 => some 4 | 0x23 => some 4 | 0x24 => some 5 | 0x25 => some 5 | 0x30 => some 6 | 0x31 => some 7
  | 0x40 => some 8 | 0x50 => some 9 | 0x60 => some 10 | 0x70 => some 11
  | _ => none

/-- The first and the number of bytes that R305 lists for an opcode; every other byte from 8 on is zero. -/
def opBytes (op : Nat) : List (Nat × Nat) :=
  match op with
  | 0x01 => [(8, 24)]
  | 0x02 => [(8, 10)]
  | 0x10 => [(8, 2), (16, 8)]
  | 0x11 => [(8, 3)]
  | 0x20 => [(8, 2), (16, 6)]
  | 0x21 => [(8, 1), (10, 22)]
  | 0x22 => [(8, 4)]
  | 0x23 => [(8, 5), (14, 14)]
  | 0x24 => [(8, 8)]
  | 0x25 => [(8, 2)]
  | 0x30 => [(8, 6), (16, 16)]
  | 0x31 => [(8, 2), (12, 20)]
  | 0x40 => [(8, 24)]
  | 0x50 => [(8, 2), (16, 12)]
  | 0x60 => [(8, 1), (16, 12)]
  | 0x70 => [(8, 2)]
  | _ => []

/-- Bits of single bytes that R305 leaves zero: byte and mask. -/
def opZeroBits (op : Nat) : List (Nat × Nat) :=
  match op with
  | 0x01 => [(18, 0xE0)]
  | 0x11 => [(10, 0xFE)]
  | 0x30 => [(9, 0xFE), (11, 0xF0), (13, 0xF8)]
  | 0x60 => [(8, 0xFE)]
  | 0x70 => [(8, 0xF8), (9, 0xFE)]
  | _ => []

/-- Whether every byte marked zero in R303 and R305 is zero. -/
def opZero (d : Bytes) : Bool :=
  let op := byteAt d 0
  byteAt d 1 < 4
  && (List.range 24).all (fun i => (opBytes op).any (fun x => x.1 ≤ 8 + i && 8 + i < x.1 + x.2) || byteAt d (8 + i) == 0)
  && (opZeroBits op).all fun x => byteAt d x.1 &&& x.2 == 0

/-- Checks 1 to 4 of R302: the status with which a descriptor completes at once. -/
def Blk.descCheck (b : Blk) (f : Nat) (d : Bytes) : Option Nat :=
  if leAt d 2 2 != (b.sesOf f).tag then some stDenied
  else match opPriv (byteAt d 0) with
    | none => some stMalformed
    | some p =>
      if !bitOf (b.sesOf f).priv p then some stDenied
      else if !opZero d then some stMalformed
      else none

/-- A ring pair can fetch: it runs, a descriptor waits, a completion slot and staging are free (11 R301). -/
def Blk.canFetch (b : Blk) (r : Nat) : Bool :=
  let x := b.ringOf r
  b.ringSes r && x.running && x.err == 0 && !x.stopping && x.sqPi != x.sqCi
  && decide (x.descs.length < 1024)
  && decide ((x.cqPi + 0x100000000 - x.cqCi) % 0x100000000 + x.descs.length < b.cqLen r)

/-- Stage a fetched descriptor, with SQ_CI in the doorbell slot. -/
def Blk.stage (b : Blk) (r : Nat) (data : Bytes) : Blk :=
  let x := b.ringOf r
  let f := b.ringOwner r
  let ci := (x.sqCi + 1) % 0x100000000
  let b := b.setRing r { x with sqCi := ci, nextId := x.nextId + 1
                                descs := x.descs ++ [{ id := x.nextId, idx := x.sqCi, data := data }] }
  let b := b.put (.hostWrite f (b.addr64 (R.HRG_DBP_LO f) (R.HRG_DBP_HI f) + 0x40 * r + 16) (leB 4 ci))
  (b.idleRestart f).pmcEvent 0x90 r 1

/-- A descriptor has been read from host memory: its 32 bytes, or none where the read failed at PCIe level. -/
def Blk.fetch (b : Blk) (r : Nat) (data : Bytes) : Blk :=
  if !b.canFetch r then b
  else if data.length != 32 then b.ringErr r 4
  else
    let id := (b.ringOf r).nextId
    let c := b.stage r data
    match b.descCheck (b.ringOwner r) data with
    | some st => c.complete ⟨r, id⟩ st []
    | none => c

def execDescriptorFetch (w r : Nat) (data : Bytes) (s : State) : Host.Outcome State Fault Refusal :=
  s.upd w fun _ b => b.fetch r data

/-- Whether a descriptor waits for egress space or a bucket lock. -/
def Blk.isWaiting (b : Blk) (ref : DRef) : Bool :=
  b.flow.waits.any (·.ref == ref) || b.ct.waits.any fun e => match e.2 with | .op x _ => x == ref | .lane _ => false

/-- The descriptor that begins next on a ring pair, if it may begin now: ring order, and FENCE (11 R301). -/
def Blk.nextDesc (b : Blk) (r : Nat) : Option Desc :=
  let x := b.ringOf r
  if !b.ringSes r || !x.running || x.err != 0 || x.stopping then none else
  match x.descs.find? (!·.begun) with
  | none => none
  | some d =>
    if b.isWaiting ⟨r, d.id⟩ then none
    else if bitOf (byteAt d.data 1) 1 && (match x.descs with | e :: _ => e.id != d.id | [] => false) then none
    else some d

/-- Mark a descriptor as begun. -/
def Blk.beginDesc (b : Blk) (r : Nat) (d : Desc) : Blk :=
  let x := b.ringOf r
  b.setRing r { x with descs := x.descs.map fun e => if e.id = d.id then { e with begun := true } else e }

/-- A descriptor that waits for a resource has not begun; it begins with the grant (13 R349). -/
def Blk.setBegun (b : Blk) (ref : DRef) (v : Bool) : Blk :=
  let x := b.ringOf ref.ring
  b.setRing ref.ring { x with descs := x.descs.map fun e => if e.id = ref.id then { e with begun := v } else e }

/-- Begin the next descriptor of a ring pair, if it has this opcode and satisfies a condition on its bytes. -/
def Blk.withDesc (b : Blk) (r op : Nat) (p : Bytes → Bool) (f : DRef → Bytes → Blk → Blk) : Blk :=
  match b.nextDesc r with
  | none => b
  | some d => if byteAt d.data 0 == op && p d.data then f ⟨r, d.id⟩ d.data (b.beginDesc r d) else b

/-- The function that submitted a descriptor. -/
def Blk.funcOf (b : Blk) (ref : DRef) : Nat := b.ringOwner ref.ring

/-- A host-memory read for the next descriptor of a ring pair has failed: it ends with TIMEOUT and no effect (13
R355, 11 R304). -/
def execPcieCompletionTimeout (w r : Nat) (s : State) : Host.Outcome State Fault Refusal :=
  s.upd w fun _ b =>
    match b.nextDesc r with
    | none => b
    | some d =>
      if [0x01, 0x10, 0x24, 0x31, 0x40, 0x60].contains (byteAt d.data 0) then
        (b.beginDesc r d).complete ⟨r, d.id⟩ stTimeout []
      else b

/-- No posted credit for STALL_MS while a write waits (13 R355). -/
def execHostStall (w : Nat) (s : State) : Host.Outcome State Fault Refusal :=
  s.upd w fun _ b =>
    if b.hostUp then
      ((b.hostBlockReset.setF R.FLC_STATUS_HOST_STALL).inc C.FLC_HOST_STALL).raiseEnv errHostStall 0
    else b

/-! ### RX_BUFFER (11 R305) -/

/-- Post a buffer on the exception ring: the ring is checked before LEN. -/
def Blk.rxPost (b : Blk) (ref : DRef) (d : Bytes) : Blk :=
  let len := leAt d 16 2
  if ref.ring != b.rd R.CLK_EXC_RING then b.complete ref stDenied []
  else if len < 64 ∨ len > 16384 then b.complete ref stMalformed []
  else b

def execRxBuffer (w r : Nat) (s : State) : Host.Outcome State Fault Refusal :=
  s.upd w fun _ b => b.withDesc r 2 (fun _ => true) fun ref d b => b.rxPost ref d

/-! ### Event rings and interrupts (11 R310 to R315) -/

/-- Start a function's event ring: indices at zero and a RESUME anchor. -/
def Blk.evtEnable (b : Blk) (f : Nat) : Blk :=
  if !b.sesOpen f || b.flag (R.EVT_CTL_ENABLE f) then b
  else
    let b := (b.setF (R.EVT_CTL_ENABLE f)).setEvt f { running := true, gsum := b.gsum }
    b.offer f 1 (anchorBytes b.ins.stepGen b.ins.timeValid 4 b.ins.now 0)

def execEventRingEnable (w f : Nat) (s : State) : Host.Outcome State Fault Refusal :=
  s.upd w fun _ b => b.evtEnable f

/-- The last whole Insole second. -/
def wholeSec (t : Nat) : Nat := secU (secOf t)

/-- Anchors at a whole Insole second, within 10 µs of it (11 R313). -/
def execAnchor (w : Nat) (s : State) : Host.Outcome State Fault Refusal :=
  s.upd w fun _ b =>
    if b.ins.running && decide (b.ins.now - wholeSec b.ins.now ≤ usU 10) then b.anchorAll 0 (wholeSec b.ins.now) 0 else b

/-- Whether a count is due under COUNT and DELAY_US (11 R315). -/
def coalDue (count delay cnt first up : Nat) : Bool :=
  decide (atLeast1 count ≤ cnt) || (delay != 0 && cnt != 0 && decide (first + usU delay ≤ up))

/-- Whether vector v of function f is due or pending. -/
def Blk.vecDue (b : Blk) (f v : Nat) : Bool :=
  let e := b.evtOf f
  if v = 0 then
    b.flag (R.EVT_CTL_IRQ_EN f) && (e.pend.contains 0
      || coalDue (b.rd (R.EVT_COAL_COUNT f)) (b.rd (R.EVT_COAL_DELAY_US f)) e.cnt e.firstAt b.up)
  else
    let r := v - 1
    let x := b.ringOf r
    b.ringOwner r == f && b.flag (R.HRG_CTL_IRQ_EN r) && (e.pend.contains v
      || coalDue (b.rd (R.HRG_COAL_COUNT r)) (b.rd (R.HRG_COAL_DELAY_US r)) x.irqCnt x.irqAt b.up)

/-- An MSI-X vector is masked: its vector control word (11 R322). -/
def Blk.vecMasked (b : Blk) (f v : Nat) : Bool := bitOf (b.rdW (bank f (0x7000 + 16 * v + 12))) 0

/-- The event ring has room for the INTERRUPT record, or none runs. -/
def Blk.vecRoom (b : Blk) (f : Nat) : Bool :=
  let e := b.evtOf f
  !e.running || decide (3 ≤ evtFree (b.evtPlace f) e)

/-- Completions or records since the last interrupt on a vector. -/
def Blk.vecCount (b : Blk) (f v : Nat) : Nat := if v = 0 then (b.evtOf f).cnt else (b.ringOf (v - 1)).irqCnt

/-- The count of a vector starts again. -/
def Blk.vecClear (b : Blk) (f v : Nat) : Blk :=
  let e := b.evtOf f
  let b := b.setEvt f { e with pend := e.pend.filter (· != v), cnt := if v = 0 then 0 else e.cnt }
  if v = 0 then b else b.setRing (v - 1) { b.ringOf (v - 1) with irqCnt := 0 }

/-- Issue the MSI-X message. -/
def Blk.vecSend (b : Blk) (f v : Nat) : Blk :=
  let t := bank f (0x7000 + 16 * v)
  b.put (.msix f v (b.rdW t + 0x100000000 * b.rdW (t + 4)) (b.rdW (t + 8)))

/-- Assert a vector that is due: masked or without room it stays pending; else the INTERRUPT record, EV_PI and the
message, in this order (11 R315). -/
def Blk.interrupt (b : Blk) (f v : Nat) : Blk :=
  if !b.sesOpen f || !b.vecDue f v then b
  else if b.vecMasked f v || !b.vecRoom f then
    let e := b.evtOf f
    b.setEvt f { e with pend := if e.pend.contains v then e.pend else e.pend ++ [v] }
  else
    let n := b.vecCount f v
    let b := b.vecClear f v
    (b.record f 2 0 v b.ins.now (leB 4 n)).vecSend f v

def execInterrupt (w f v : Nat) (s : State) : Host.Outcome State Fault Refusal :=
  s.upd w fun _ b => b.interrupt f v

/-- A write to EVT_GINT_EN: a bit set while its IDC_GSUM bit reads 1 counts as rising (17 R443). -/
def Blk.gintWrite (b : Blk) (f v : Nat) : Blk :=
  let old := b.rd (R.EVT_GINT_EN_EN f)
  let g := b.gsum
  let set := (v % 16384) &&& (0x3FFF ^^^ old)
  (b.wr (R.EVT_GINT_EN_EN f) v).gsumOne (g &&& (0x3FFF ^^^ set)) f

def execEvtGintEnWrite (w f v : Nat) (s : State) : Host.Outcome State Fault Refusal :=
  s.upd w fun _ b => if b.sesOpen f then b.gintWrite f v else b

/-- The bits held back whose last record is 1 ms old or more. -/
def Blk.gsumReady (b : Blk) (f : Nat) : Nat :=
  let e := b.evtOf f
  (List.range 14).foldl (fun m i =>
    if bitOf e.gHeld i && decide (tget 0 e.gAt i + msU 1 ≤ b.up) then putBit m i true else m) 0

/-- The STATUS record of rises held back within 1 ms of the last record (17 R443). -/
def Blk.gsumReport (b : Blk) (f : Nat) : Blk :=
  let e := b.evtOf f
  let m := b.gsumReady f
  if !e.running || m = 0 then b
  else
    let b := b.setEvt f { e with gHeld := e.gHeld - m
                                 gAt := (List.range 14).foldl (fun t i => if bitOf m i then tput t i b.up else t) e.gAt }
    b.record f 0x0F 0 m b.ins.now (leB 4 b.gsum ++ leB 4 b.gstat)

def execGsumReport (w f : Nat) (s : State) : Host.Outcome State Fault Refusal := s.upd w fun _ b => b.gsumReport f

/-! ### STATS_SNAPSHOT (11 R309) -/

/-- The counters of a block, in order. -/
def Blk.statsOf (b : Blk) (bit : Nat) : List Nat :=
  let range := fun base n => (List.range n).map fun i => tget 0 b.ctr (base + 8 * i)
  match bit with
  | 0 => (List.range 32).flatMap fun p =>
      if b.portPresent p then range (0x10100 + 0x800 * p) 24 else List.replicate 24 0
  | 1 => range 0x20040 25
  | 2 => range 0x24100 5
  | 3 => if b.part.variant.stitchers = 0 then List.replicate 25 0 else range 0x26100 25
  | 4 => range 0x28E00 19
  | 5 => [b.laster.lateRun, b.laster.lateSkip, b.laster.lateNext, b.laster.nop]
  | 6 => (List.range 16).flatMap fun e =>
      if b.eyeletPresent e then
        [b.rd (R.PIN_ECNT_ACC_COUNT e), b.rd (R.PIN_ECNT_HELD_COUNT e), b.rd (R.PIN_ECNT_SUP_COUNT e), b.rd (R.PIN_ECNT_LOST_COUNT e)]
      else List.replicate 4 0
  | _ => (List.range 512).map fun i => tget 0 b.pmc.cnt i

/-- The image of a block: a 16-byte header and the counters as 64-bit values. -/
def Blk.statsImage (b : Blk) (bit : Nat) : Bytes :=
  let l := b.statsOf bit
  leB 1 bit ++ leB 1 0 ++ leB 2 l.length ++ leB 4 (shortOf b.ins.now) ++ leB 8 0 ++ l.flatMap (leB 8)

def Blk.snapshot (b : Blk) (ref : DRef) (d : Bytes) : Blk :=
  let blocks := leAt d 8 2
  let f := b.funcOf ref
  let img := ((List.range 8).filter (bitOf blocks ·)).flatMap b.statsImage
  if blocks ≥ 256 then b.complete ref stMalformed []
  else if bitOf blocks 7 && !bitOf (b.sesOf f).priv 12 then b.complete ref stDenied []
  else if leAt d 24 4 < img.length then b.complete ref stMalformed []
  else (b.put (.hostWrite f (leAt d 16 8) img)).complete ref stOk (leB 4 img.length)

def execStatsSnapshot (w r : Nat) (s : State) : Host.Outcome State Fault Refusal :=
  s.upd w fun _ b => b.withDesc r 0x50 (fun _ => true) fun ref d b => b.snapshot ref d

end Sys2Proof.Machine
end

