-- ==== Sys2Proof/Machine/RegBits.lean ====
section
/-! DEFINITION. How a write of the host reaches a register (00 R5, 17 R431): access codes, the values that a field
holds when it is written outside its range, reserved bits, and the lock of the RWL fields. -/

namespace Sys2Proof.Machine

/-- A field whose out-of-range values hold the nearer end of a range: base, stride and count of its register, its
lowest bit and width, the range. -/
structure RangeRow where
  base : Nat
  stride : Nat
  count : Nat
  lo : Nat
  w : Nat
  min_ : Nat
  max_ : Nat

/-- The fields of the register tables with such a range. -/
def rangeRows1 : List RangeRow :=
  [⟨0x8024, 0x0, 1, 0, 20, 1, 500000⟩,
   ⟨0x9040, 0x4, 16, 0, 7, 1, 64⟩,
   ⟨0xa000, 0x0, 1, 8, 4, 1, 15⟩,
   ⟨0xa00c, 0x0, 1, 0, 12, 1, 2000⟩,
   ⟨0xa010, 0x0, 1, 24, 8, 1, 255⟩,
   ⟨0xa018, 0x0, 1, 0, 8, 1, 255⟩,
   ⟨0xa018, 0x0, 1, 8, 8, 1, 255⟩,
   ⟨0xa018, 0x0, 1, 16, 8, 1, 255⟩,
   ⟨0xa018, 0x0, 1, 24, 8, 1, 255⟩,
   ⟨0xa100, 0x20, 24, 28, 4, 1, 15⟩,
   ⟨0xa104, 0x20, 24, 8, 8, 1, 255⟩,
   ⟨0xb000, 0x0, 1, 16, 16, 1, 65535⟩,
   ⟨0xb008, 0x0, 1, 24, 8, 1, 255⟩,
   ⟨0xb018, 0x0, 1, 0, 8, 1, 255⟩,
   ⟨0xb018, 0x0, 1, 8, 8, 1, 255⟩,
   ⟨0xb100, 0x20, 18, 16, 16, 1, 65535⟩,
   ⟨0xc008, 0x0, 1, 8, 8, 1, 255⟩,
   ⟨0xc108, 0x40, 16, 0, 30, 20, 1000000000⟩,
   ⟨0xc114, 0x40, 16, 16, 16, 1, 65535⟩,
   ⟨0xc118, 0x40, 16, 0, 24, 1, 16777215⟩,
   ⟨0xc11c, 0x40, 16, 27, 5, 1, 31⟩,
   ⟨0x10030, 0x800, 32, 4, 14, 100, 10000⟩,
   ⟨0x10030, 0x800, 32, 18, 8, 1, 255⟩,
   ⟨0x10034, 0x800, 32, 16, 8, 1, 255⟩,
   ⟨0x1003c, 0x800, 32, 8, 8, 1, 255⟩,
   ⟨0x20000, 0x0, 1, 16, 7, 32, 64⟩,
   ⟨0x20004, 0x0, 1, 0, 16, 1, 65535⟩,
   ⟨0x20004, 0x0, 1, 16, 16, 1, 65535⟩,
   ⟨0x20008, 0x0, 1, 8, 16, 1, 65535⟩,
   ⟨0x20010, 0x0, 1, 0, 7, 50, 100⟩,
   ⟨0x20010, 0x0, 1, 16, 16, 500, 65535⟩,
   ⟨0x20200, 0x8, 16, 0, 20, 1, 1048575⟩,
   ⟨0x20200, 0x8, 16, 20, 8, 1, 255⟩,
   ⟨0x20204, 0x8, 16, 8, 8, 1, 255⟩,
   ⟨0x24000, 0x0, 1, 0, 12, 256, 4095⟩]
def rangeRows2 : List RangeRow :=
  [⟨0x26008, 0x0, 1, 0, 17, 1000, 100000⟩,
   ⟨0x2600c, 0x0, 1, 0, 16, 1, 65535⟩,
   ⟨0x2600c, 0x0, 1, 16, 16, 10000, 65535⟩,
   ⟨0x2800c, 0x0, 1, 0, 10, 1, 1023⟩,
   ⟨0x28010, 0x0, 1, 0, 16, 1, 65535⟩,
   ⟨0x28010, 0x0, 1, 16, 16, 1, 65535⟩,
   ⟨0x28114, 0x20, 4, 0, 17, 0, 65536⟩,
   ⟨0x28804, 0x20, 32, 0, 8, 4, 255⟩,
   ⟨0x28804, 0x20, 32, 8, 4, 1, 15⟩,
   ⟨0x28804, 0x20, 32, 20, 12, 1, 4095⟩,
   ⟨0x28800, 0x20, 32, 24, 8, 1, 255⟩,
   ⟨0x28808, 0x20, 32, 0, 8, 1, 255⟩,
   ⟨0x4010, 0x40, 64, 0, 5, 6, 16⟩,
   ⟨0x4010, 0x40, 64, 8, 5, 6, 16⟩,
   ⟨0x4018, 0x40, 64, 0, 8, 1, 255⟩,
   ⟨0x5014, 0x0, 1, 0, 16, 250, 65535⟩,
   ⟨0x6008, 0x0, 1, 8, 5, 6, 16⟩,
   ⟨0x600c, 0x0, 1, 0, 8, 1, 255⟩,
   ⟨0x2a004, 0x0, 1, 0, 16, 10, 10000⟩,
   ⟨0x2a004, 0x0, 1, 16, 16, 1, 65535⟩,
   ⟨0x2a008, 0x0, 1, 0, 16, 200, 65535⟩,
   ⟨0x2a010, 0x0, 1, 0, 16, 1, 65535⟩,
   ⟨0x2c000, 0x0, 1, 0, 10, 16, 1023⟩,
   ⟨0x2c004, 0x0, 1, 0, 11, 0, 256⟩,
   ⟨0x2c008, 0x0, 1, 0, 16, 1100, 65535⟩,
   ⟨0x2c008, 0x0, 1, 16, 16, 1, 65535⟩,
   ⟨0x2c00c, 0x0, 1, 0, 8, 1, 255⟩,
   ⟨0x2c00c, 0x0, 1, 8, 8, 1, 255⟩,
   ⟨0x201c, 0x0, 1, 8, 6, 1, 60⟩,
   ⟨0x2e004, 0x0, 1, 0, 16, 1, 65535⟩,
   ⟨0x30000, 0x0, 1, 16, 8, 1, 255⟩,
   ⟨0x8038, 0x0, 1, 0, 18, 3600, 172800⟩,
   ⟨0x9000, 0x0, 1, 16, 10, 1, 1023⟩,
   ⟨0x9008, 0x0, 1, 0, 10, 10, 1000⟩,
   ⟨0x10014, 0x800, 32, 0, 14, 64, 9600⟩]

/-- Fields of which one code holds as another: the last two numbers are the code written and the code held. -/
def mapRows : List RangeRow :=
  [⟨0x8038, 0x0, 1, 18, 2, 3, 0⟩,
   ⟨0xa000, 0x0, 1, 0, 2, 2, 0⟩,
   ⟨0xa000, 0x0, 1, 0, 2, 3, 0⟩,
   ⟨0xb110, 0x20, 18, 30, 2, 3, 2⟩,
   ⟨0xc000, 0x0, 1, 0, 2, 3, 2⟩,
   ⟨0xc104, 0x40, 16, 1, 2, 3, 0⟩,
   ⟨0xc104, 0x40, 16, 4, 2, 3, 0⟩,
   ⟨0xc104, 0x40, 16, 6, 2, 3, 2⟩,
   ⟨0xc114, 0x40, 16, 0, 2, 3, 0⟩,
   ⟨0x10000, 0x800, 32, 0, 2, 3, 2⟩,
   ⟨0x10000, 0x800, 32, 4, 2, 3, 0⟩,
   ⟨0x10000, 0x800, 32, 8, 2, 3, 0⟩,
   ⟨0x20204, 0x8, 16, 0, 2, 3, 0⟩,
   ⟨0x28100, 0x20, 4, 12, 2, 3, 0⟩,
   ⟨0x28108, 0x20, 4, 16, 4, 0, 2⟩,
   ⟨0xa100, 0x20, 24, 0, 3, 7, 0⟩,
   ⟨0x28100, 0x20, 4, 1, 3, 6, 0⟩,
   ⟨0x28100, 0x20, 4, 1, 3, 7, 0⟩,
   ⟨0xb100, 0x20, 18, 0, 3, 5, 0⟩,
   ⟨0xb100, 0x20, 18, 0, 3, 6, 0⟩,
   ⟨0xb100, 0x20, 18, 0, 3, 7, 0⟩,
   ⟨0xb008, 0x0, 1, 0, 2, 3, 0⟩,
   ⟨0x28800, 0x20, 32, 8, 3, 6, 0⟩,
   ⟨0x28800, 0x20, 32, 8, 3, 7, 0⟩,
   ⟨0x28800, 0x20, 32, 12, 2, 3, 0⟩,
   ⟨0xc100, 0x40, 16, 0, 3, 5, 0⟩,
   ⟨0xc100, 0x40, 16, 0, 3, 6, 0⟩,
   ⟨0xc100, 0x40, 16, 0, 3, 7, 0⟩]

/-- The value a field holds after a write of v. -/
def heldIn (l : List RangeRow) (off lo w v : Nat) : Nat :=
  match l.find? fun r => r.lo == lo && r.w == w && inArray r.base r.stride r.count off with
  | some r => clampN r.min_ r.max_ v
  | none => v

/-- The value after the codes that hold as another. -/
def heldCode (off lo w v : Nat) : Nat :=
  match mapRows.find? fun r => r.lo == lo && r.w == w && r.min_ == v && inArray r.base r.stride r.count off with
  | some r => r.max_
  | none => v

/-- The value that a field holds when v is written to it (17 R431). -/
def heldValue (off lo w v : Nat) : Nat := heldIn rangeRows2 off lo w (heldIn rangeRows1 off lo w (heldCode off lo w v))

/-- Bits of the fields whose limit lies in another field of the register: FLC_EGPORT.MAX_KB and PTP_UNI.DUR_MAX are
at least MIN_KB and DUR_MIN, LEN of CLK_ACL_CFG is at most 32 on IPv4 and 64 on IPv6, and a KIND other than CLOCK of
units 16 and 17 reads as Off (05 R121). -/
def heldPair (off : Nat) (v : Word) : Word :=
  if off = R.FLC_EGPORT then withField v 16 12 (clampN (fieldOf v 0 11) 2048 (fieldOf v 16 12))
  else if off = R.PTP_UNI then withField v 16 10 (max (fieldOf v 0 10) (fieldOf v 16 10))
  else if inArray 0x20408 0x10 32 off then
    withField v 0 7 (min (fieldOf v 0 7) (if fieldOf v 7 1 = 1 then 64 else 32))
  else if (off = R.HLD_OCFG 16 ∨ off = R.HLD_OCFG 17) ∧ fieldOf v 0 3 ≠ 3 then withField v 0 3 0
  else v

/-- Write one field of a word by its access code (00 R5). -/
def fieldWrite (unlocked : Bool) (off : Nat) (v : Word) (old : Word) (f : RField) : Word :=
  let x := fieldOf v f.lo f.w
  match f.acc with
  | .rw => withField old f.lo f.w (heldValue off f.lo f.w x)
  | .rwl => if unlocked then withField old f.lo f.w (heldValue off f.lo f.w x) else old
  | .w1c => withField old f.lo f.w (fieldOf old f.lo f.w &&& (2 ^ f.w - 1 ^^^ x))
  | .ro => old
  | .wo => old

/-- Write a word to a register: every field by its code; reserved bits stay. -/
def rowWrite (unlocked : Bool) (row : RegRow) (off : Nat) (v old : Word) : Word :=
  let new := row.fields.foldl (fieldWrite unlocked off v) old
  if new = old then old else heldPair off new

/-- A plain write to the register at an offset as function f sees it (17 R432). -/
def Blk.regWrite (b : Blk) (f off : Nat) (v : Word) : Blk :=
  match regRow? off with
  | none => b
  | some (row, _) =>
    let k := if row.banked then bank f off else off
    { b with regs := rfPut b.regs k (rowWrite (b.mode == .commission) row off v (rfGet b.regs k)) }

end Sys2Proof.Machine
end

