-- ==== Sys2Proof/Machine/Pattern.lean ====
section
/-! DEFINITION. Pattern sets and Olfel images as bytes: their fields and the checks of 08 R212, R213 and of 14 R377,
R378. -/

namespace Sys2Proof.Machine

/-! ### Pattern sets (08 R212, R213) -/

/-- Whether an ENTRY offset lies in the body, or is 0. -/
def entryOk (bs : Bytes) (i : Nat) : Bool :=
  let o := leAt bs (20 + 4 * i) 4
  o == 0 || decide (o < leAt bs 16 4 - 96)

/-- Every byte before the signature. -/
def signedPart (bs : Bytes) : Bytes := bs.take (bs.length - 96)

/-- The signature. -/
def signature (bs : Bytes) : Bytes := bs.drop (bs.length - 96)

/-- The checks of R213 on an image of the length that the descriptor gives: the completion status and FAIL_CODE of
the first that fails. -/
def patCheck (svnMin rev : Nat) (diag : Bool) (bs : Bytes) : Option (Nat × Nat) :=
  if bs.length = 0 ∨ bs.length > 1048576 ∨ leAt bs 16 4 ≠ bs.length then some (stMalformed, 2)
  else if sliceB bs 0 4 ≠ ascii "KPAT" ∨ byteAt bs 4 ≠ 1 ∨ byteAt bs 5 ≥ 2 ∨ leAt bs 14 2 ≠ 0 ∨ allZero (sliceB bs 52 12) = false then
    some (stMalformed, 1)
  else if !((List.range 8).all (entryOk bs)) then some (stMalformed, 3)
  else if leAt bs 12 2 > rev then some (stMalformed, 4)
  else if byteAt bs 5 = 1 ∧ !diag then some (stDenied, 8)
  else if leAt bs 10 2 < svnMin then some (stDenied, 5)
  else if !ecdsaVerify Config.romPatternKey (signedPart bs) (signature bs) then some (stDenied, 6)
  else none

/-- The set that an image describes. -/
def PSet.ofBytes (source : Nat) (bs : Bytes) : PSet :=
  { id := leAt bs 6 2, major := byteAt bs 8, minor := byteAt bs 9, svn := leAt bs 10 2, test := byteAt bs 5 == 1
    entries := ((List.range 8).map fun i => if leAt bs (20 + 4 * i) 4 = 0 then 0 else 2 ^ i).sum, source := source }

/-- The ROM fallback set: every entry point except SELFTEST, 0 to 5 (08 R214; the set's own bytes, log entry 4). -/
def romSet : PSet := { PSet.ofBytes 3 Config.romPatternSet with entries := 0x3F, source := 3, test := false }

/-! ### Olfel images (14 R377, R378) -/

/-- The fields of the header, without signature and settings. -/
def olfelForm (bs : Bytes) : Bool :=
  let len := leAt bs 8 4
  let off := leAt bs 12 4
  let cnt := leAt bs 16 4
  sliceB bs 0 4 == ascii "OLFL" && byteAt bs 4 == 1 && decide (byteAt bs 5 < 2)
  && decide (len ≤ 4194304) && len == bs.length && decide (224 ≤ len)
  && decide (cnt ≤ 65536) && decide (off + 8 * cnt ≤ len) && decide (leAt bs 20 4 < len)
  && (byteAt bs 5 == 0 || allZero (sliceB bs 24 96)) && allZero (sliceB bs 120 8)

def olfelFactory (bs : Bytes) : Bool := byteAt bs 5 == 1
def olfelSvn (bs : Bytes) : Nat := leAt bs 6 2
def olfelOwner (bs : Bytes) : Bytes := sliceB bs 24 96

/-- The signature rule: which key verifies, and in which lifecycle states such an image is accepted. -/
def olfelSigned (lc : Lifecycle) (owner : Option Bytes) (bs : Bytes) : Bool :=
  if olfelFactory bs then
    (lc == .blank || lc == .provisioned) && ecdsaVerify Config.romImageKey (signedPart bs) (signature bs)
  else
    (lc == .provisioned || lc == .deployed) && owner == some (sha384 (olfelOwner bs))
    && ecdsaVerify (olfelOwner bs) (signedPart bs) (signature bs)

/-- The settings records: offset and value. -/
def olfelRecords (bs : Bytes) : List (Nat × Nat) :=
  (List.range (leAt bs 16 4)).map fun i => (leAt bs (leAt bs 12 4 + 8 * i) 4, leAt bs (leAt bs 12 4 + 8 * i + 4) 4)

/-- Whether a record names a register with a field that R377 admits. -/
def recordOk (r : Nat × Nat) : Bool :=
  r.1 == R.RST_SERVE ||
  match regRow? r.1 with
  | some (row, _) => row.fields.any fun f => f.acc == .rw || f.acc == .rwl
  | none => false

/-- What a check of R378 finds. -/
inductive OlfelFault where
  | form | sign | svn | settings
  deriving DecidableEq, Repr

/-- The checks of R378 in order; none where all pass. -/
def olfelCheck (n : Nvm) (bs : Bytes) : Option OlfelFault :=
  if !olfelForm bs then some .form
  else if !olfelSigned n.lifecycle n.owner bs then some .sign
  else if olfelSvn bs < n.svnFloor then some .svn
  else if !((olfelRecords bs).all recordOk) then some .settings
  else none

/-- The Pattern set that an Olfel image carries, if any: from PAT_OFF over the length the set states. -/
def olfelPattern (bs : Bytes) : Option Bytes :=
  let off := leAt bs 20 4
  if off = 0 then none else some ((bs.drop off).take (leAt (bs.drop off) 16 4))

end Sys2Proof.Machine
end

