-- ==== Sys2Proof/Machine/Reset.lean ====
section
/-! DEFINITION. Resets (14 R364 to R371, R388): device-reach sources, the Keep block, unit resets on request and
their end, the clocks of CFG (01 R17) and OSCIN (15 R405). -/

namespace Sys2Proof.Machine

/-! ### The Keep block (14 R371) -/

/-- The registers that KEEP holds: RST_KEEP and the boot log. -/
def isKeepKey (k : Nat) : Bool := k == R.RST_KEEP || decide (0x2040 ≤ k ∧ k < 0x2080)

/-- SEC of the Keep real-time clock at the present elapsed time; none while not valid (log entry 6). -/
def Blk.rtcNow (b : Blk) : Option Nat := b.rst.rtc.map fun r => r.1 + (b.up - r.2) / secU 1

/-- Whether the present attempt uses an alternative. -/
def Blk.bootAlt (b : Blk) : Bool := b.boot.copyB || b.boot.trainAlt || b.boot.patRom || b.boot.lanesAlt

/-- Write a boot log entry (14 R380); nothing while VKEEP is lost. -/
def Blk.bootLog (b : Blk) (step result : Nat) : Blk :=
  if !b.rst.vkeep then b else
    let i := (b.rd R.RST_KEEP_LOG_PTR + 1) % 16
    let rtc := match b.rtcNow with | some s => s % 65536 | none => 0
    (b.wr R.RST_KEEP_LOG_PTR i).wrW (R.RST_BOOTLOG i)
      (step + 16 * result + 256 * b.rst.cause + 4096 * b.rd R.RST_KEEP_FAIL_RUN + 32768 * b2n b.bootAlt + 65536 * rtc)

/-- Clear KEEP. -/
def Blk.keepClear (b : Blk) : Blk :=
  { b with regs := b.regs.filter fun e => !isKeepKey e.1, rst := { b.rst with rtc := none } }

/-! ### Device-reach resets (14 R364 to R367) -/

/-- Sources of group 1. -/
def srcGroup1 (code : Nat) : Bool := decide (code ≤ 3)

/-- Whether a source stays asserted until it is released: VIN power-on, RESET_N, thermal trip. -/
def srcLevel (code : Nat) : Bool := decide (code ≤ 3)

/-- Whether source x prevails over y as the cause: wider reach, then earlier, then the lower code (14 R366). -/
def srcBefore (x y : Nat × Nat) : Bool :=
  if srcGroup1 x.1 != srcGroup1 y.1 then srcGroup1 x.1
  else if x.2 ≠ y.2 then decide (x.2 < y.2) else decide (x.1 < y.1)

/-- The source that CAUSE takes. -/
def causeOf (seen : List (Nat × Nat)) : Nat :=
  match seen with
  | [] => 1
  | x :: rest => (rest.foldl (fun best y => if srcBefore y best then y else best) x).1

/-- The session of a function after a device-reach reset: a group 2 reset keeps the failure count and the remaining
lockout (17 R436, 11 R292, R293). -/
def sesAfter (x : Ses) (group1 : Bool) (up chal : Nat) : Ses :=
  if group1 then { chal := chal }
  else { chal := chal, failCnt := x.failCnt, lockUntil := x.lockUntil
         st := if x.st == .locked && decide (up < x.lockUntil) then .locked else .idle }

/-- The block after a device-reach reset: everything but KEEP, the pins and what the environment holds returns to its
reset value; new challenges and a new nonce are drawn (17 R436). -/
def Blk.reInit (b : Blk) (group1 : Bool) : Blk :=
  { part := b.part, up := b.up, out := b.out, tj := b.tj, freeCtr := b.freeCtr + 65
    regs := b.regs.filter fun e => isKeepKey e.1
    rst := { b.rst with units := [] }
    lcs := { nonce := b.freeCtr + 64, result := if group1 then 0 else b.lcs.result }
    ses := (List.range 4).map fun f => (f, sesAfter (b.sesOf f) group1 b.up (b.freeCtr + 16 * f))
    eyes := { sensed := b.eyes.sensed, ch := b.eyes.ch.map fun e => (e.1, { level := e.2.level, transAt := e.2.transAt }) }
    twin := { claimIn := b.twin.claimIn, lowFrom := b.twin.lowFrom } }

/-- A running boot is abandoned by a reset (14 R367). -/
def Blk.bootAbandon (b : Blk) : Blk :=
  if b.mode == .loading then b.bootLog (b.boot.step.getD 0) 7 else b

/-- A device-reach source asserts. All of one stay in DORMANT count as one reset (14 R366). -/
def Blk.devReset (b : Blk) (code : Nat) : Blk :=
  if b.rst.asserted.contains code then b else
    let first := b.mode != .dormant || b.rst.seen.isEmpty
    let b := b.bootAbandon
    let seen := if first then [(code, b.up)] else if b.rst.seen.any (·.1 == code) then b.rst.seen
      else b.rst.seen ++ [(code, b.up)]
    let b := b.reInit (srcGroup1 code)
    let b := if first && b.rst.vkeep then b.satF R.RST_KEEP_COUNT 1 else b
    { b with rst := { b.rst with asserted := if srcLevel code then b.rst.asserted ++ [code] else b.rst.asserted
                                 seen := seen, cause := causeOf seen, multi := decide (1 < seen.length) } }

/-- A source releases. -/
def Blk.devRelease (b : Blk) (code : Nat) : Blk :=
  { b with rst := { b.rst with asserted := b.rst.asserted.filter (· != code) } }

/-- VIN passes through the undervoltage lockout: on = it has fallen below. Power brings both CFG oscillators back
(log entry 7). -/
def execVinPowerOn (w : Nat) (on : Bool) (s : State) : Host.Outcome State Fault Refusal :=
  s.upd w fun _ b =>
    if on then { (b.devReset 1) with rst := { (b.devReset 1).rst with crystal := true, startOsc := true, oscin := true } }
    else b.devRelease 1

/-- The RESET_N pin: on = low. -/
def execResetN (w : Nat) (on : Bool) (s : State) : Host.Outcome State Fault Refusal :=
  s.upd w fun _ b => if on then b.devReset 2 else b.devRelease 2

/-- The die temperature passes 125 °C upwards or 105 °C downwards (14 R370). -/
def execThermalTrip (w : Nat) (tj : Int) (s : State) : Host.Outcome State Fault Refusal :=
  s.upd w fun _ b =>
    let b := { b with tj := tj }
    if tj ≥ 125 then b.devReset 3 else if tj ≤ 105 then b.devRelease 3 else b

/-- A watched unit has not signalled: a reset where the watchdog is armed (14 R369). -/
def execWatchdog (w : Nat) (s : State) : Host.Outcome State Fault Refusal :=
  s.upd w fun _ b => if b.boot.done && b.flag R.RST_WDOG_EN then b.devReset 4 else b

/-- A function whose open session has SETUP (11 R288). -/
def Blk.setup (b : Blk) (f : Nat) : Bool := b.sesOpen f && bitOf (b.sesOf f).priv 0

/-- A write of v to RST_CTRL (14 R388). -/
def Blk.rstCtrl (b : Blk) (f v : Nat) : Blk := if b.setup f && v % 256 == 0xA5 then b.devReset 5 else b

def execDevReset (w f v : Nat) (s : State) : Host.Outcome State Fault Refusal := s.upd w fun _ b => b.rstCtrl f v

/-! ### VKEEP (14 R367, R371) -/

/-- VKEEP rises: KEEP is cleared and KEEP_LOST is set. -/
def execVkeepPowerOn (w : Nat) (s : State) : Host.Outcome State Fault Refusal :=
  s.upd w fun _ b =>
    let b := b.keepClear
    Blk.wr { b with rst := { b.rst with vkeep := true } } R.RST_KEEP_KEEP_LOST 1

/-- VKEEP falls: the contents are lost. -/
def execVkeepLost (w : Nat) (s : State) : Host.Outcome State Fault Refusal :=
  s.upd w fun _ b =>
    let b := b.keepClear
    { b with rst := { b.rst with vkeep := false } }

/-! ### Clocks (01 R17) -/

/-- Both oscillators have failed: the device holds in DORMANT. No reset source has asserted, so the Keep counter and
CAUSE stay (log entry 8). -/
def Blk.cfgLost (b : Blk) : Blk := b.reInit true

/-- The crystal has stopped: CFG runs from the start-up oscillator, if that works. -/
def execCfgFallback (w : Nat) (s : State) : Host.Outcome State Fault Refusal :=
  s.upd w fun _ b =>
    if !b.rst.crystal then b else
      let c := { b with rst := { b.rst with crystal := false } }
      if !c.rst.startOsc then c.cfgLost
      else if c.mode == .dormant then c
      else (c.setF R.RST_BOOT_CFG_FALLBACK).raise 0x16 0x89 0

/-- The start-up oscillator fails. -/
def execStartupOscillatorLost (w : Nat) (s : State) : Host.Outcome State Fault Refusal :=
  s.upd w fun _ b =>
    if !b.rst.startOsc then b else
      let c := { b with rst := { b.rst with startOsc := false } }
      if c.rst.crystal then c else c.cfgLost

/-- OSCIN has stopped: FATAL error 0x17 once the error machinery runs (15 R405). -/
def execOscinLost (w : Nat) (s : State) : Host.Outcome State Fault Refusal :=
  s.upd w fun _ b =>
    if !b.rst.oscin then b else
      let c := { b with rst := { b.rst with oscin := false, oscinUp := b.up } }
      c.raise 0x17 0xFF 0

/-! ### Unit resets (14 R368) -/

/-- The unit code of a KIND and an INDEX. -/
def unitCode (kind index : Nat) : Nat := if kind = 1 then 0x40 + index else if kind = 2 then index else 0x60 + index

/-- Whether a request names a unit that can be reset: present, and no gang member. -/
def Blk.unitThere (b : Blk) (kind index : Nat) : Bool :=
  match kind with
  | 1 => b.benchPresent index
  | 2 => b.enginePresent index
  | _ => b.portPresent index

/-- Whether a reset of wider reach covers the unit. -/
def Blk.unitWider (b : Blk) (kind index : Nat) : Bool := kind == 2 && b.resetting 1 (index / 16)

/-- A request of RST_UNIT: KIND and INDEX as written. -/
def Blk.unitReset (b : Blk) (f kind index : Nat) : Blk :=
  if !b.setup f || kind = 0 then b
  else if !b.unitThere kind index || b.unitWider kind index then b.setF R.RST_UNIT_REFUSED
  else
    let c := b.release (unitCode kind index)
    if c.resetting kind index then c else Blk.follow b (c.unitBegin kind index true)

/-- A write to RST_UNIT: W1C of REFUSED, then the request. -/
def Blk.rstUnit (b : Blk) (f v : Nat) : Blk :=
  if !b.setup f then b else
    (b.regWrite f R.RST_UNIT (BitVec.ofNat 32 v)).unitReset f (bitsOf v 0 2) (bitsOf v 8 6)

def execBenchReset (w f index : Nat) (s : State) : Host.Outcome State Fault Refusal :=
  s.upd w fun _ b => b.unitReset f 1 index

def execEngineReset (w f index : Nat) (s : State) : Host.Outcome State Fault Refusal :=
  s.upd w fun _ b => b.unitReset f 2 index

def execPortReset (w f index : Nat) (s : State) : Host.Outcome State Fault Refusal :=
  s.upd w fun _ b => b.unitReset f 3 index

/-- Whether the error in hand keeps the unit isolated after this reset (15 R394). -/
def Blk.keepsHeld (b : Blk) (u : UnitReset) : Bool :=
  !u.byHost && match b.err.cur with
    | some j => j.escalated && j.cls == 2 && j.unit == unitCode u.kind u.index
    | none => false

/-- A unit reset ends. One whose handling is suspended goes on only when that is taken up again (15 R397). -/
def Blk.unitDone (b : Blk) (kind index : Nat) : Blk :=
  match b.rst.units.find? fun u => u.kind == kind && u.index == index with
  | none => b
  | some u =>
    if b.errSuspends u then b else
      let c := { b with rst := { b.rst with units := b.rst.units.filter fun v => !(v.kind == kind && v.index == index) } }
      let c := if kind = 1 then c.staleDel [2 * index, 2 * index + 1] else c
      Blk.follow b (if b.keepsHeld u then c.holdUnit (unitCode kind index) else c)

def execUnitResetDone (w kind index : Nat) (s : State) : Host.Outcome State Fault Refusal :=
  s.upd w fun _ b => b.unitDone kind index

end Sys2Proof.Machine
end

