-- ==== Sys2Proof/Machine/Lifecycle.lean ====
section
/-! DEFINITION. Lifecycle transitions, provisioning keys and the option store (14 R379, R381 to R385, R389). -/

namespace Sys2Proof.Machine

/-! ### Transitions (14 R382) -/

/-- The transitions that R382 lists. -/
def lcsAllowed (a t : Lifecycle) : Bool :=
  match a, t with
  | .blank, .provisioned => true
  | .provisioned, .deployed => true
  | .deployed, .provisioned => true
  | .provisioned, .retired => true
  | .deployed, .retired => true
  | .blank, .rma => true
  | .provisioned, .rma => true
  | .deployed, .rma => true
  | .retired, .rma => true
  | _, _ => false

/-- Whether copy A is valid and owner-signed. -/
def Nvm.copyAOwned (n : Nvm) : Bool :=
  n.copyA.valid && !olfelFactory n.copyA.bytes && olfelSigned .provisioned n.owner n.copyA.bytes

/-- The precondition of R382 for a target; `digest` is what LCS_OWNER holds. -/
def lcsReady (n : Nvm) (t : Lifecycle) (digest : Bytes) : Bool :=
  match n.lifecycle, t with
  | .blank, .provisioned => n.keyPresent 0 && !allZero digest
  | .provisioned, .deployed => n.copyAOwned
  | .deployed, .provisioned => n.reprovLeft != 0
  | _, _ => true

/-- What R382 erases for RETIRED and RMA. -/
def Nvm.eraseAll (n : Nvm) : Nvm := { n with prov := [], trained := false, copyA := {}, copyB := {} }

/-- Step 3 of R384: every transition erases K_p. -/
def Nvm.transitErase (n : Nvm) (t : Lifecycle) : Nvm :=
  let m := if t == .retired || t == .rma then n.eraseAll else n
  { m with kp := none, intent := none }

/-- Steps 3 to 5 of R384: erasures, then the fuses, then the intent record is cleared. -/
def Nvm.transit (n : Nvm) (t : Lifecycle) (digest : Bytes) : Nvm :=
  { n.transitErase t with
           lifecycle := t
           owner := match n.owner with
             | some o => some o
             | none => if n.lifecycle == .blank && t == .provisioned then some digest else none
           reprovLeft := if n.lifecycle == .deployed && t == .provisioned then n.reprovLeft - 1 else n.reprovLeft }

/-- Resume a transition that an intent record shows (14 R384); no transition of R382 leaves RMA or returns to BLANK. -/
def Nvm.resume (n : Nvm) : Nvm :=
  match n.intent with
  | some (t, d) => if lcsAllowed n.lifecycle t then n.transit t d else { n with intent := none }
  | none => n

/-! ### The command (14 R383) -/

/-- Draw a new LCS_NONCE. -/
def Blk.newNonce (b : Blk) : Blk := { b with lcs := { b.lcs with nonce := b.freeCtr }, freeCtr := b.freeCtr + 1 }

/-- LCS_NONCE. -/
def Blk.lcsNonce (b : Blk) : Nat := Config.freeNat b.lcs.nonce % 65536

/-- Show a result; a new nonce is drawn at each arm, refusal and completion. -/
def Blk.lcsResult (b : Blk) (r : Nat) (armed : Option (Nat × Nat × Nat)) : Blk :=
  Blk.newNonce { b with lcs := { b.lcs with result := r, armed := armed } }

/-- A write of v to LCS_ARM. -/
def Blk.lcsArm (b : Blk) (nvm : Nvm) (f v : Nat) : Blk :=
  if f ≠ 0 ∨ !b.setup f then b else
    let b := { b with lcs := { b.lcs with lastTarget := v % 8 } }
    if b.mode ≠ .commission then b.lcsResult 2 none
    else match Lifecycle.ofCode? (v % 8) with
    | none => b.lcsResult 3 none
    | some t =>
      if !lcsAllowed nvm.lifecycle t then b.lcsResult 3 none
      else if v / 65536 % 65536 ≠ b.lcsNonce then b.lcsResult 4 none
      else b.lcsResult 1 (some (v % 8, v, b.up))

def execLcsArm (w f v : Nat) (s : State) : Host.Outcome State Fault Refusal :=
  s.upd w fun nvm b => b.lcsArm nvm f v

/-- Whether LCS_GO confirms what is armed, in time. -/
def Blk.lcsConfirmed (b : Blk) (v : Nat) : Option Lifecycle :=
  match b.lcs.armed with
  | some (t, a, at_) =>
    if (0xFFFFFFFF ^^^ (a % 0x100000000)) = v % 0x100000000 ∧ b.up ≤ at_ + msU 100 then Lifecycle.ofCode? t else none
  | none => none

/-- The owner digest in LCS_OWNER. -/
def Blk.ownerDigest (b : Blk) : Bytes := b.wordBytes R.LCS_OWNER 12

/-- Close every session (14 R384). -/
def Blk.sesCloseAll (b : Blk) : Blk := (List.range 4).foldl (fun b f => b.sesClose f 1) b

/-- The Store is wiped (14 R384): client rows, entries and exception frames that lie in it. -/
def Blk.storeWipe (b : Blk) : Blk :=
  { b with ct := { b.ct with rows := [] }, laster := { b.laster with ents := b.laster.ents.filter fun e => !e.2.spilled }
           clk := { b.clk with exc := b.clk.exc.filter (!·.spilled) } }

/-- A write of v to LCS_GO. `stop` is what the fuses did: 0 programmed and verified, 1 failed to verify, 2 power or a
reset has interrupted the sequence after its intent record was written. -/
def lcsGo (nvm : Nvm) (b : Blk) (f v stop : Nat) : Nvm × Blk :=
  if f ≠ 0 ∨ !b.setup f then (nvm, b)
  else if b.mode ≠ .commission then (nvm, b.lcsResult 2 none)
  else match b.lcsConfirmed v with
  | none => (nvm, b.lcsResult 5 none)
  | some t =>
    if !lcsAllowed nvm.lifecycle t then (nvm, b.lcsResult 3 none)
    else if !lcsReady nvm t b.ownerDigest then (nvm, b.lcsResult 6 none)
    else if stop = 0 then
      let c := (b.sesCloseAll.lcsResult 8 none)
      (nvm.transit t b.ownerDigest, c.devReset 7)
    else if stop = 1 then (nvm.transitErase t, b.sesCloseAll.storeWipe.lcsResult 7 none)
    else ({ nvm with intent := some (t, b.ownerDigest) }, b.sesCloseAll.storeWipe.lcsResult 0 none)

def execLcsGo (w f v stop : Nat) (s : State) : Host.Outcome State Fault Refusal :=
  s.updN w fun nvm b => lcsGo nvm b f v stop

/-! ### Keys (14 R385) -/

/-- LCS_KEYCTL.RESULT. -/
def Blk.keyRes (b : Blk) (r : Nat) : Blk := { b with lcs := { b.lcs with keyResult := r } }

/-- A new key or an erasure closes the session of its function with cause CLOSE; F0's own new key does not. -/
def Blk.keyCloses (b : Blk) (func : Nat) (erase : Bool) : Blk :=
  if func = 0 ∧ !erase then b else b.sesClose func 1

/-- Install the wrapped key in LCS_KEY for function FUNC with mask PRIV. -/
def lcsInstall (nvm : Nvm) (b : Blk) (f func priv : Nat) : Nvm × Blk :=
  if f ≠ 0 ∨ !b.setup f then (nvm, b)
  else if b.mode ≠ .commission then (nvm, b.keyRes 3)
  else match keyUnwrap (b.sesOf 0).ks (b.wordBytes R.LCS_KEY 10) with
  | none => (nvm, b.keyRes 2)
  | some k => ({ nvm with prov := tput nvm.prov func ⟨k, priv⟩ }, (b.keyRes 1).keyCloses func false)

/-- Erase the key of function FUNC; that of F0 not in PROVISIONED or DEPLOYED. -/
def lcsErase (nvm : Nvm) (b : Blk) (f func : Nat) : Nvm × Blk :=
  if f ≠ 0 ∨ !b.setup f then (nvm, b)
  else if b.mode ≠ .commission ∨ (func = 0 ∧ (nvm.lifecycle = .provisioned ∨ nvm.lifecycle = .deployed)) then
    (nvm, b.keyRes 3)
  else ({ nvm with prov := tdel nvm.prov func }, (b.keyRes 1).keyCloses func true)

/-- A write of v to LCS_KEYCTL: FUNC and PRIV, then OP. -/
def lcsKeyCtl (nvm : Nvm) (b : Blk) (f v : Nat) : Nvm × Blk :=
  if !b.setup f then (nvm, b) else
    let b := b.regWrite f R.LCS_KEYCTL (BitVec.ofNat 32 v)
    let func := b.rd R.LCS_KEYCTL_FUNC
    match bitsOf v 2 2 with
    | 1 => lcsInstall nvm b f func (b.rd R.LCS_KEYCTL_PRIV)
    | 2 => lcsErase nvm b f func
    | _ => (nvm, b)

/-- The write of LCS_KEYCTL that carries OP install; `v` holds FUNC and PRIV at their places. -/
def execLcsKeyInstall (w f v : Nat) (s : State) : Host.Outcome State Fault Refusal :=
  s.updN w fun nvm b => lcsKeyCtl nvm b f (v / 16 * 16 + 4 + v % 4)

/-- The write of LCS_KEYCTL that carries OP erase. -/
def execLcsKeyErase (w f v : Nat) (s : State) : Host.Outcome State Fault Refusal :=
  s.updN w fun nvm b => lcsKeyCtl nvm b f (v / 16 * 16 + 8 + v % 4)

/-! ### The option store (14 R379) -/

/-- A copy of the image. -/
def Nvm.putCopy (n : Nvm) (copyB : Bool) (c : OlfelCopy) : Nvm :=
  if copyB then { n with copyB := c } else { n with copyA := c }

/-- START: the copy is marked invalid and the write begins; ignored while BUSY. -/
def optStart (nvm : Nvm) (b : Blk) (copyB : Bool) : Nvm × Blk :=
  if b.lcs.optBusy then (nvm, b)
  else (nvm.putCopy copyB {}, { b with lcs := { b.lcs with optBusy := true, optCopy := copyB, optResult := 0 } })

/-- RAISE_SVN: the floor becomes the SVN of the running image; the floor never falls. -/
def raiseSvn (nvm : Nvm) (b : Blk) : Nvm :=
  match b.boot.image with
  | some i => if b.mode = .commission then { nvm with svnFloor := max nvm.svnFloor i.svn } else nvm
  | none => nvm

/-- A write of v to LCS_OPT_CTRL. -/
def optCtrl (nvm : Nvm) (b : Blk) (f v : Nat) : Nvm × Blk :=
  if !b.setup f then (nvm, b) else
    let b := b.regWrite f R.LCS_OPT_CTRL (BitVec.ofNat 32 v)
    let nvm := if bitOf v 2 then raiseSvn nvm b else nvm
    if bitOf v 1 then optStart nvm b (bitOf v 0) else (nvm, b)

/-- The write of LCS_OPT_CTRL with START = 1 and the COPY bit given. -/
def execOptWriteStart (w f : Nat) (copyB : Bool) (s : State) : Host.Outcome State Fault Refusal :=
  s.updN w fun nvm b => optCtrl nvm b f (2 + b2n copyB)

/-- The write of LCS_OPT_CTRL with RAISE_SVN = 1. -/
def execRaiseSvn (w f : Nat) (s : State) : Host.Outcome State Fault Refusal :=
  s.updN w fun nvm b => optCtrl nvm b f (4 + b.rd R.LCS_OPT_CTRL_COPY)

/-- LCS_OPT_STATUS.RESULT of a check that fails. -/
def olfelResult : OlfelFault → Nat
  | .form => 2 | .sign => 3 | .svn => 4 | .settings => 5

/-- The image has been read from host memory (`bytes`) and written. `fault`: 0 none, 6 the host read failed, 7 a write
or read-back error. -/
def optDone (nvm : Nvm) (b : Blk) (bytes : Bytes) (fault : Nat) : Nvm × Blk :=
  if !b.lcs.optBusy then (nvm, b) else
    let res := fun r => { b with lcs := { b.lcs with optBusy := false, optResult := r } }
    if fault = 6 then (nvm, res 6)
    else match olfelCheck nvm bytes with
    | some x => (nvm, res (olfelResult x))
    | none =>
      if bytes.length ≠ b.rd R.LCS_OPT_LEN_VALUE then (nvm, res 2)
      else if fault = 7 then (nvm, res 7)
      else (nvm.putCopy b.lcs.optCopy { valid := true, bytes := bytes }, res 1)

def execOptWriteDone (w : Nat) (bytes : Bytes) (fault : Nat) (s : State) : Host.Outcome State Fault Refusal :=
  s.updN w fun nvm b => optDone nvm b bytes fault

end Sys2Proof.Machine
end

