-- ==== Sys2Proof/Machine/Net.lean ====
section
/-! DEFINITION. Frames as bytes: tags, IP and UDP headers, checksums (07 R166, R167), and the conversions of Insole
times into UTC, NTP and PTP fields (03 R46 to R48, R52). -/

namespace Sys2Proof.Machine

/-! ### Frame layout -/

/-- Write bytes at an offset. -/
def putB (bs : Bytes) (off : Nat) (new : Bytes) : Bytes := bs.take off ++ new ++ bs.drop (off + new.length)

/-- A recognised TPID (07 R166). -/
def isTpid (alt t : Nat) : Bool := t == 0x8100 || t == 0x88A8 || (alt != 0 && t == alt)

/-- Where the header after the tags begins, its EtherType, the number of tags, and whether a third tag follows. -/
structure Lay where
  off : Nat
  et : Nat
  tags : Nat
  third : Bool

def layOf (alt : Nat) (bs : Bytes) : Lay :=
  if isTpid alt (beAt bs 12 2) then
    if isTpid alt (beAt bs 16 2) then ⟨22, beAt bs 20 2, 2, isTpid alt (beAt bs 20 2)⟩
    else ⟨18, beAt bs 16 2, 1, false⟩
  else ⟨14, beAt bs 12 2, 0, false⟩

/-- The tag bytes of a frame, 4 for each tag. -/
def tagBytes (alt : Nat) (bs : Bytes) : Bytes := sliceB bs 12 ((layOf alt bs).off - 14)

/-- The payload of an IP packet: addresses, protocol, place and length. -/
structure IpPay where
  v6 : Bool
  src : Bytes
  dst : Bytes
  proto : Nat
  off : Nat
  len : Nat

/-- The IP packet of a frame, if its EtherType names one. -/
def ipOf (alt : Nat) (bs : Bytes) : Option IpPay :=
  let l := layOf alt bs
  if l.et = 0x0800 then
    let h := byteAt bs l.off % 16 * 4
    some ⟨false, sliceB bs (l.off + 12) 4, sliceB bs (l.off + 16) 4, byteAt bs (l.off + 9), l.off + h, beAt bs (l.off + 2) 2 - h⟩
  else if l.et = 0x86DD then
    some ⟨true, sliceB bs (l.off + 8) 16, sliceB bs (l.off + 24) 16, byteAt bs (l.off + 6), l.off + 40, beAt bs (l.off + 4) 2⟩
  else none

/-- The IPv4 packet is a fragment: MF set or a non-zero offset. -/
def ipFrag (alt : Nat) (bs : Bytes) : Bool :=
  let l := layOf alt bs
  l.et == 0x0800 && beAt bs (l.off + 6) 2 % 0x4000 != 0

/-- The pseudo-header of a UDP or ICMPv6 checksum over n bytes. -/
def pseudo (p : IpPay) (n : Nat) : Bytes :=
  if p.v6 then p.src ++ p.dst ++ beB 4 n ++ [0, 0, 0, BitVec.ofNat 8 p.proto]
  else p.src ++ p.dst ++ [0, BitVec.ofNat 8 p.proto] ++ beB 2 n

/-- The checksum over pseudo-header and n payload bytes with the checksum field at `at_` taken as zero. -/
def l4Sum (p : IpPay) (bs : Bytes) (n at_ : Nat) : Nat :=
  inetSum (pseudo p n ++ putB (sliceB bs p.off n) at_ [0, 0])

/-- The UDP length of a packet. -/
def udpLen (p : IpPay) (bs : Bytes) : Nat := beAt bs (p.off + 4) 2

/-- Complete the UDP checksum; 0x0000 is sent as 0xFFFF (07 R167). -/
def setUdpSum (alt : Nat) (bs : Bytes) : Bytes :=
  match ipOf alt bs with
  | some p =>
    if p.proto = 17 then
      let c := l4Sum p bs (udpLen p bs) 6
      putB bs (p.off + 6) (beB 2 (if c = 0 then 0xFFFF else c))
    else bs
  | none => bs

/-- Complete the IPv4 header checksum. -/
def setIpSum (alt : Nat) (bs : Bytes) : Bytes :=
  let l := layOf alt bs
  if l.et = 0x0800 then
    let h := putB (sliceB bs l.off (byteAt bs l.off % 16 * 4)) 10 [0, 0]
    putB bs (l.off + 10) (beB 2 (inetSum h))
  else bs

/-- The payload of the UDP datagram: place and length. -/
def udpPay (alt : Nat) (bs : Bytes) : Option (Nat × Nat) :=
  match ipOf alt bs with
  | some p => if p.proto = 17 then some (p.off + 8, udpLen p bs - 8) else none
  | none => none

/-- Where the PTP message of a frame begins: after an EtherType 0x88F7, or in a UDP datagram. -/
def ptpAt (alt : Nat) (bs : Bytes) : Option Nat :=
  let l := layOf alt bs
  if l.et = 0x88F7 then some l.off else (udpPay alt bs).map (·.1)

/-! ### Times in messages (03) -/

/-- One second in 2^-16 ns. -/
def oneS : Int := 65536000000000

/-- The offset of a leap at Insole time t in 2^-16 ns: smeared over its window, or stepped at S_L (03 R50, R52). -/
def Leap.offsetAt (l : Leap) (smeared : Bool) (t : Int) : Int :=
  if smeared then
    if t < l.w0U then l.dOld * oneS
    else if t ≥ l.w1U then (l.dOld + l.delta) * oneS
    else l.dOld * oneS + l.delta * oneS * (t - l.w0U) / (l.w1 - l.w0)
  else if t < l.sLU then l.dOld * oneS else (l.dOld + l.delta) * oneS

/-- Whether a leap is smeared: its sample, or, before W0, the present setting; a leap whose window has passed before
it was installed is not (03 R53). -/
def Leap.smears (l : Leap) (now : Bool) : Bool :=
  decide (l.w0 < l.w1) && (match l.sample with | some x => x | none => now)

/-- D as TBS_UTC holds it. -/
def Blk.utcD (b : Blk) : Int := b.rdS R.TBS_UTC_OFFSET

/-- The offset in force at Insole time t for NTP and NTS, in 2^-16 ns (03 R46, R52). -/
def Blk.offsetAt (b : Blk) (t : Int) : Int :=
  let sm := b.feat featSmear
  match b.ins.leap with
  | some l =>
    let l := { l with dOld := b.utcD }
    if t ≥ l.sLU || (l.smears sm && decide (t ≥ l.w0U)) then l.offsetAt (l.smears sm) t else b.utcD * oneS
  | none =>
    match b.ins.lastLeap with
    | some l => if t < l.sLU || (l.smears sm && decide (t < l.w1U)) then l.offsetAt (l.smears sm) t else b.utcD * oneS
    | none => b.utcD * oneS

/-- The 64-bit NTP timestamp of a UTC count in 2^-16 ns (03 R47): truncated. -/
def ntpOfUtc (u : Int) : Nat :=
  let n := ((u / oneS + 2208988800) % 0x100000000).toNat
  let frac := (u % oneS).toNat * 0x100000000 / 65536000000000
  n * 0x100000000 + frac

/-- The NTP timestamp of an Insole time. -/
def Blk.ntp64 (b : Blk) (t : Int) : Nat := ntpOfUtc (t - b.offsetAt t)

/-- The ten bytes of a PTP timestamp: seconds and nanoseconds (03 R48). -/
def ptpStamp (t : Nat) : Bytes := beB 6 (secOf t) ++ beB 4 (nsOf t)

/-- The signed correctionField of the PTP message at an offset. -/
def ptpCorr (bs : Bytes) (at_ : Nat) : Int := toSigned (beAt bs (at_ + 8) 8) 64

/-- Write a correctionField. -/
def putCorr (bs : Bytes) (at_ : Nat) (x : Int) : Bytes := putB bs (at_ + 8) (beB 8 (ofSigned x 64))

end Sys2Proof.Machine
end

