-- ==== Sys2Proof/Machine/PortOps.lean ====
section
/-! DEFINITION. What the transmit side of a port does (07 R157 to R181): modes, launch points, gates, reservations,
the start of a frame with the Closer's writes (08 R217, 10 R273, R276), launches and their misses (07 R181, 09 R255). -/

namespace Sys2Proof.Machine

/-! ### Modes and wire time (07 R157, R161) -/

/-- A port mode: ps per byte, launch-point spacing in ps, resolution in 0.01 ps, RS-FEC. -/
structure PMode where
  byte : Nat
  spacing : Nat
  res : Nat
  rs : Bool
  deriving DecidableEq, Repr

def Blk.portMode (b : Blk) (p : Nat) : Option PMode :=
  match b.rd (R.PRT_CTRL_SPEED p), b.rd (R.PRT_CTRL_FEC p), b.ganged p with
  | 0, 0, false => some ⟨8000, 16000, 80000, false⟩
  | 1, 0, false => some ⟨800, 6400, 20000, false⟩
  | 1, 1, false => some ⟨800, 6400, 20000, false⟩
  | 2, 0, false => some ⟨320, 2560, 20000, false⟩
  | 2, 1, false => some ⟨320, 2560, 20000, false⟩
  | 2, 2, false => some ⟨320, 2560, 20000, true⟩
  | 2, 2, true => if b.gangOk (p / 4) then some ⟨80, 640, 20000, true⟩ else none
  | _, _, _ => none

/-- The mode, with a stand-in for a port whose setting names none: such a port is down. -/
def Blk.pmode (b : Blk) (p : Nat) : PMode := (b.portMode p).getD ⟨320, 2560, 20000, false⟩

/-- PRT_STATUS.CFG_ERR. -/
def Blk.portCfgErr (b : Blk) (p : Nat) : Bool := (b.portMode p).isNone

/-- The time of n bytes on the wire. -/
def Blk.wireU (b : Blk) (p n : Nat) : Nat := n * (b.pmode p).byte * 65536 / 1000

/-- Round a time to a grid given in 0.01 ps: the nearest point, the earlier on a tie (03 R63). -/
def roundTo (res : Nat) (t : Int) : Int :=
  let k := -((-(2 * t * 100000 - 65536 * res)) / (2 * 65536 * res))
  k * res * 65536 / 100000

/-- TIME since the Insole started, without steps: what launch points and the wire follow (07 R179). -/
def Blk.tm (b : Blk) : Int := (b.ins.now : Int) - b.ins.stepSum

/-- The first launch point at or after an Insole time (log entry 9). -/
def Blk.launchPoint (b : Blk) (p : Nat) (t : Int) : Nat :=
  let m := b.pmode p
  let ph := Config.launchPhase p % m.spacing
  let x := t - b.ins.stepSum
  let k := (-(-(x * 1000 - ph * 65536) / (m.spacing * 65536))).toNat
  let k := if m.rs then k + Config.launchSkip p k % 64 else k
  (((k * m.spacing + ph) * 65536 / 1000 : Nat) + b.ins.stepSum).toNat

/-- Whether a near-end loopback acts on a port (02 R29). -/
def Blk.nearLoop (b : Blk) (p : Nat) : Bool := b.mode == .diagnostic && b.modeReq.isNone && b.rd (R.PRT_CTRL_LOOP p) == 1
def Blk.farLoop (b : Blk) (p : Nat) : Bool := b.mode == .diagnostic && b.modeReq.isNone && b.rd (R.PRT_CTRL_LOOP p) == 2

/-- Whether a port is held down whatever its PCS shows (07 R159, 14 R375, 15 R394). -/
def Blk.portDown (b : Blk) (p : Nat) : Bool :=
  !b.portPresent p || b.portCfgErr p || !b.flag (R.PRT_CTRL_ENABLE p) || b.isHeld (0x60 + p) || b.farLoop p
  || b.mode == .dormant || b.mode == .loading || b.resetting 3 p || b.err.oscLost

/-- LINK as R159 forms it. -/
def Blk.linkCond (b : Blk) (p : Nat) : Bool :=
  let q := b.portOf p
  !b.portDown p && q.lock && (b.rd (R.PRT_CTRL_FEC p) == 0 || q.fecLock) && (!b.ganged p || q.aligned) && !q.localFault

/-! ### Gates (07 R174 to R178) -/

/-- Starts of the entries of one cycle that begins at `c`, exact: entries at or beyond the cycle end are cut. -/
def gateStarts (cycle c : Int) : List (Nat × Nat) → Int → List (Int × Nat)
  | [], _ => []
  | (g, iv) :: rest, acc =>
    if acc ≥ cycle then [] else (roundTo 80000 (c + acc), g) :: gateStarts cycle c rest (acc + nsU iv)

/-- Starts of the cycles around an Insole time. -/
def GateList.starts (l : GateList) (t : Int) : List (Int × Nat) :=
  let cyc : Int := nsU l.cycle
  let n := (t - l.base) / cyc
  [n - 1, n, n + 1, n + 2].flatMap fun k => gateStarts cyc (l.base + k * cyc) l.entries 0

/-- The gate state at an Insole time. -/
def GateList.stateAt (l : GateList) (t : Int) : Nat :=
  match ((l.starts t).filter fun e => decide (e.1 ≤ t)).getLast? with
  | some e => e.2
  | none => 0xFF

/-- The first start after an Insole time. -/
def GateList.nextAt (l : GateList) (t : Int) : Int :=
  match (l.starts t).find? fun e => decide (t < e.1) with
  | some e => e.1
  | none => t + nsU l.cycle

/-- Whether gate c is open over [t, e). -/
def GateList.openOver (l : GateList) (c : Nat) (e : Int) : Nat → Int → Bool
  | 0, _ => true
  | n + 1, t => if t ≥ e then true else bitOf (l.stateAt t) c && l.openOver c e n (l.nextAt t)

/-- Entries a list can pass in one frame, and twice round: a bound for the walk. -/
def GateList.fuel (l : GateList) (t e : Int) : Nat := 4 + l.entries.length * (((e - t) / nsU l.cycle).toNat + 2)

def GateList.isOpen (l : GateList) (c : Nat) (t e : Int) : Bool := l.openOver c e (l.fuel t e) t

/-- The longest open run of gate c over the cyclic list, in 2^-16 ns; none where it never closes. -/
def GateList.longest (l : GateList) (c : Nat) : Option Nat :=
  let cut := fun (acc : Nat) (iv : Nat) => min (nsU iv) (nsU l.cycle - acc)
  let n := l.entries.length
  let segs := (l.entries.zipIdx.foldl (fun (x : Nat × List (Nat × Nat)) e =>
    let w := if e.2 + 1 = n then nsU l.cycle - x.1 else cut x.1 e.1.2
    (x.1 + w, x.2 ++ [(e.1.1, w)])) (0, [])).2
  if segs.all (fun s => bitOf s.1 c) then none
  else some ((segs ++ segs).foldl (fun (x : Nat × Nat) s =>
    let run := if bitOf s.1 c then x.1 + s.2 else 0
    (run, max x.2 run)) (0, 0)).2

/-- Whether gate c of a port is open over an interval: the list in force, and from T_c the pending one (07 R177, 09
R252). -/
def Blk.gateOpen (b : Blk) (p c : Nat) (t e : Int) : Bool :=
  if !b.pfeat p featGates then true else
    let q := b.portOf p
    let old := fun (x y : Int) => match q.gcl with | some l => l.isOpen c x y | none => true
    match q.pend with
    | some (l, tc, _) =>
      if (tc : Int) ≥ e then old t e
      else if t ≥ tc then l.isOpen c t e
      else old t tc && l.isOpen c tc e
    | none => old t e

/-! ### Pauses and reservations -/

/-- Whether a class of a port is paused now. -/
def Blk.paused (b : Blk) (p c : Nat) : Bool :=
  let q := b.portOf p
  decide (q.pauseEnd > b.up) || decide (tget 0 q.pfcEnd c > b.up)

/-- Frame length with its FCS. -/
def TxF.len (f : TxF) : Nat := f.data.length + 4

/-- The wire that a frame of n bytes whose timestamp point is at L occupies (07 R180). -/
def Blk.wireSpan (b : Blk) (p n : Nat) (L : Int) : Int × Int := (L - b.wireU p 8, L + b.wireU p (n + 12))

/-- Whether two intervals overlap. -/
def overlaps (x y : Int × Int) : Bool := decide (x.1 < y.2) && decide (y.1 < x.2)

/-- Whether a span overlaps the reservation of an armed launch of the port, other than frame `but`. -/
def Blk.reserved (b : Blk) (p but : Nat) (span : Int × Int) : Bool :=
  (b.portOf p).armed.any fun f => f.id != but && (match f.launch with
    | some L => overlaps span (b.wireSpan p f.len L) | none => false)

/-- Whether the wire is still taken at the start of a span by the frame in transmission. -/
def Blk.wireBusy (b : Blk) (p : Nat) (span : Int × Int) : Bool :=
  decide (span.1 - b.ins.stepSum < ((b.portOf p).busyEnd : Int))

/-! ### Queueing -/

/-- Put a frame that holds its egress space into its port's queue. -/
def Blk.queueFrame (b : Blk) (f : TxF) : Blk :=
  let q := b.portOf f.port
  let f := { f with id := b.flow.seq, heldFrom := b.leaseNow }
  { b.setPort f.port { q with queue := q.queue ++ [f], idleFrom := b.up } with flow := { b.flow with seq := b.flow.seq + 1 } }

/-- Whether an escalated TX_FRAME waits for egress space on a port: it comes before every new claimant (13 R359). -/
def Blk.egClaimed (b : Blk) (p : Nat) : Bool := b.flow.waits.any fun x => x.held && x.frame.port == p

/-- Whether a claimant other than a waiting TX_FRAME can have n bytes on a port. -/
def Blk.egGrants (b : Blk) (p n : Nat) : Bool := b.egFits p n && !b.egClaimed p

/-! ### Missed launches (07 R181, 09 R255, R256) -/

/-- The counter of a miss reason: 1 LINK, 2 PAUSE, 3 GATE, 4 OVERLOAD, 5 STEP. -/
def sealMissCounter (reason : Nat) : Nat :=
  match reason with
  | 1 => C.NTS_MISS_LINK | 2 => C.NTS_MISS_PAUSE | 3 => C.NTS_MISS_GATE | 4 => C.NTS_MISS_OVERLOAD | _ => C.NTS_MISS_STEP

/-- Whether NTS_SAL_MISS has a miss of this reason re-sealed. -/
def Blk.resealOn (b : Blk) (reason : Nat) : Bool :=
  match reason with
  | 2 => b.flag R.NTS_SAL_MISS_RS_PAUSE | 3 => b.flag R.NTS_SAL_MISS_RS_GATE
  | 4 => b.flag R.NTS_SAL_MISS_RS_OVERLOAD | 5 => b.flag R.NTS_SAL_MISS_RS_STEP | _ => false

def Blk.ctxAt? (b : Blk) (k : Nat) : Option Ctx := (b.nts.ctxs.find? fun e => e.1 == k).map (·.2)
def Blk.setCtx (b : Blk) (k : Nat) (c : Ctx) : Blk := { b with nts := { b.nts with ctxs := tput b.nts.ctxs k c } }

/-- A response of context k that holds `eg` bytes of egress space misses, or has no grant: it waits for its re-seal, or
is dropped. -/
def Blk.ctxMiss (b : Blk) (k eg reason : Nat) : Blk :=
  match b.ctxAt? k with
  | none => b
  | some c =>
    let b := b.inc (sealMissCounter reason)
    if b.resealOn reason && decide (c.reseals < b.rd R.NTS_SAL_MISS_RESEAL_MAX) && b.servesNtp (b.nearLoop c.req.port) then
      b.setCtx k { c with missed := some reason, ready := if reason = 2 then none else some b.up, eg := eg }
    else ((Blk.ctxFree (b.setCtx k { c with eg := eg }) k).sealDrop).inc C.CLK_POLICY_DROP

/-- A sealed response misses its launch: its entry and reservation go. -/
def Blk.sealMiss (b : Blk) (f : TxF) (reason : Nat) : Blk :=
  match f.ctx with
  | some k => (b.lstDel? f.entry).ctxMiss k f.eg reason
  | none => b

/-- Note the completion of a TX_FRAME that has left or missed its launch; TX_FRAME_DONE writes it. -/
def Blk.txDone (b : Blk) (f : TxF) (status : Nat) (result : Bytes) : Blk :=
  match f.ref with
  | some r => { b with flow := { b.flow with done := b.flow.done ++ [(r, status, result)] } }
  | none => b

/-- A TX_FRAME misses its launch: sent as soon as it can under LATE_RUN, discarded under LATE_SKIP. -/
def Blk.hostMiss (b : Blk) (f : TxF) : Blk :=
  let b := b.lstDel? f.entry
  if f.lateSkip then (Blk.egFree b f.port f.eg).txDone f stDropped []
  else
    let q := b.portOf f.port
    b.setPort f.port { q with armed := q.armed ++ [{ f with launch := none, entry := none, late := true }] }

/-- The reason of a sealed response for a port code of R181: LATE is an OVERLOAD (09 R255). -/
def sealReason (code : Nat) : Nat := match code with | 1 => 1 | 2 => 2 | 3 => 3 | _ => 4

/-- An armed launch misses with a code of R181; the frame is no longer armed. -/
def Blk.launchFail (b : Blk) (f : TxF) (code : Nat) : Blk :=
  let q := b.portOf f.port
  let b := b.setPort f.port { q with armed := q.armed.filter fun x => x.id != f.id }
  let b := b.launchMiss f.port code
  if f.sealed then b.sealMiss f (sealReason code) else b.hostMiss f

/-! ### Arming a launch -/

/-- What arming finds (07 R181): LATE, GATE, CONFLICT, LPI, in this order (log entry 10). -/
def Blk.armCode (b : Blk) (f : TxF) (L : Nat) : Option Nat :=
  let span := b.wireSpan f.port f.len L
  if (L : Int) < b.ins.now + nsU 200 then some 6
  else if !b.gateOpen f.port f.cls span.1 (L + b.wireU f.port f.len) then some 3
  else if b.reserved f.port f.id span || b.wireBusy f.port span then some 4
  else if (b.portOf f.port).lpiTx && decide (span.1 < (b.ins.now : Int) + usU (b.rd (R.PRT_LPI_TW_TX f.port))) then some 5
  else none

/-- Arm a frame that has its number: or it misses at once with the code that arming finds. -/
def Blk.armWith (b : Blk) (f : TxF) (target : Nat) : Blk :=
  let code := b.armCode f target
  if code.isSome then (b.launchMiss f.port (code.getD 0)).hostMiss f
  else
    let i := b.lstNext
    let b := b.lstArm { cls := 1, obj := f.port, t0 := target, policy := if f.lateSkip then 1 else 0, pay := .launch f.id }
    let q := b.portOf f.port
    b.setPort f.port { q with armed := q.armed ++ [{ f with entry := some i }] }

/-- Arm a TX_FRAME for launch: its LAUNCH entry, or the miss found at arming. The frame holds its egress space. -/
def Blk.armHost (b : Blk) (f : TxF) (target : Nat) : Blk :=
  Blk.armWith { b with flow := { b.flow with seq := b.flow.seq + 1 } }
    { f with id := b.flow.seq, heldFrom := b.leaseNow, launch := some target } target

/-- The grant of R252: the first launch point from E on whose reservation is free and whose gate is open, within the
search span; at most `n` points are tried. -/
def Blk.grantFrom (b : Blk) (p cls len : Nat) (last : Int) : Nat → Int → Option Nat
  | 0, _ => none
  | n + 1, t =>
    let L := b.launchPoint p t
    let span := b.wireSpan p len L
    if (L : Int) > last then none
    else if !b.reserved p 0xFFFFFFFFFFFF span && !b.wireBusy p span && b.gateOpen p cls span.1 span.2 then some L
    else b.grantFrom p cls len last n (L + 1)

/-- The launch instant granted to a response of `len` bytes, if any (09 R252). -/
def Blk.grant (b : Blk) (p len : Nat) : Option Nat :=
  if b.launchFree = 0 then none else
    let e : Int := b.ins.now + nsU (b.rd R.NTS_SAL_LEAD_NS)
    let span := b.rd R.NTS_SAL_SPAN_SPAN_NS
    b.grantFrom p (b.rd (R.PRT_TXCTL_SERVE_TC p)) len (e + nsU span) (span * 1000 / (b.pmode p).spacing + 2) e

/-- Arm a sealed response at its grant. -/
def Blk.armSeal (b : Blk) (f : TxF) (L : Nat) : Blk :=
  let i := b.lstNext
  let f := { f with id := b.flow.seq, heldFrom := b.leaseNow, launch := some L, entry := some i }
  let b := b.lstArm { cls := 1, obj := f.port, t0 := L, pay := .launch f.id }
  let q := b.portOf f.port
  { b.setPort f.port { q with armed := q.armed ++ [f] } with flow := { b.flow with seq := b.flow.seq + 1 } }

/-! ### The Closer's writes (07 R167, 08 R217, 10 R273, R276) -/

/-- PRT_VLAN.TPID_ALT. -/
def Blk.tpid (b : Blk) (p : Nat) : Nat := b.rd (R.PRT_VLAN_TPID_ALT p)

/-- A correctionField limited to its range, and whether it saturated. -/
def corrSat (x : Int) : Int × Bool := if x > 0x7FFFFFFFFFFFFFFF then (0x7FFFFFFFFFFFFFFF, true) else (x, false)

/-- The frame with the times written for t_tx = L; and whether a correctionField saturated. -/
def Blk.stamped (b : Blk) (f : TxF) (L : Nat) : Bytes × Bool :=
  let alt := b.tpid f.port
  match f.stamp with
  | .ntp => match udpPay alt f.data with
    | some (o, _) => (putB f.data (o + 40) (beB 8 (b.ntp64 L)), false)
    | none => (f.data, false)
  | .sync => match ptpAt alt f.data with
    | some o => (putCorr (putB f.data (o + 34) (ptpStamp L)) o (fracOf L), false)
    | none => (f.data, false)
  | .pdelayResp tRx => match ptpAt alt f.data with
    | some o => (putCorr f.data o (ptpCorr f.data o + ((L : Int) - tRx)), false)
    | none => (f.data, false)
  | .residence tRx steps _ => match ptpAt alt f.data with
    | some o =>
      let c := corrSat (ptpCorr f.data o + ((L : Int) - tRx - (b.ins.stepSum - steps)))
      (putCorr f.data o c.1, c.2)
    | none => (f.data, false)
  | _ => (f.data, false)

/-- Complete the checksums that a frame asks for. -/
def Blk.summed (b : Blk) (f : TxF) (bs : Bytes) : Bytes :=
  let alt := b.tpid f.port
  let bs := if f.ipCsum then setIpSum alt bs else bs
  if f.l4Csum then setUdpSum alt bs else bs

/-- The Closer commits a frame to a launch point: times and checksums are written. -/
def Blk.commitFrame (b : Blk) (f : TxF) (L : Nat) : TxF × Blk :=
  let x := b.stamped f L
  ({ f with data := b.summed f x.1, stamp := match f.stamp with | .clientReq s => .clientReq s | _ => .keep }, if x.2 then b.inc C.PTP_RES_SAT else b)

/-! ### The start of a frame -/

/-- The counter of a frame that leaves: ESMC PDUs, neighbour replies, copies forwarded, and the PTP messages of 10 R286. -/
def leftCounter (alt : Nat) (f : TxF) : Option Nat :=
  match f.src with
  | .esmc => some (C.PRT_ESMC_TX f.port)
  | .neighbour => if (layOf alt f.data).et = 0x0806 ∧ beAt f.data ((layOf alt f.data).off + 6) 2 = 1 then none else some (C.PRT_ND_REPLY f.port)
  | .fwd => some C.PTP_FWD
  | .ptp => match ptpAt alt f.data with
    | some o => (match byteAt f.data o % 16 with
      | 0 => some C.PTP_SYNC_TX | 3 => some C.PTP_PDRESP_TX | 8 => some C.PTP_FU_TX | 9 => some C.PTP_DRESP_TX
      | 0xA => some C.PTP_FU_TX | 0xB => some C.PTP_ANN_TX | _ => none)
    | none => none
  | _ => none

/-- What its source learns when a frame has left at t_tx. -/
def Blk.frameLeft (b : Blk) (f : TxF) (L : Nat) : Blk :=
  let fups : List Fup := match f.two with
    | some t => [{ port := f.port, tTx := L, two := t }]
    | none => []
  let b := { b with ptp := { b.ptp with fups := b.ptp.fups ++ fups } }
  let b := match f.stamp with
    | .clientReq s =>
      let c := b.clientOf f.port
      (match c.req with
        | some (n, _) => if n = s then b.setClient f.port { c with req := some (n, some (L : Int)) } else b
        | none => b)
    | _ => b
  let b := match leftCounter (b.tpid f.port) f with | some c => b.inc c | none => b
  b.txDone f (if f.late then stLate else stOk) (if f.wantTs then timeB L else [])

/-- A frame starts with its timestamp point at L: it is emitted with its FCS, its space and entry are free, the wire is
taken until its gap has passed. -/
def Blk.startBody (b : Blk) (f : TxF) (L : Nat) : Blk :=
  let x := b.commitFrame f L
  let f := x.1
  let b := x.2.frameFree f
  let q := b.portOf f.port
  let b := b.setPort f.port { q with busyEnd := ((L : Int) + b.wireU f.port (f.len + 12) - b.ins.stepSum).toNat, idleFrom := b.up }
  let b := ((b.inc (C.PRT_TX_FRAMES f.port)).incN (C.PRT_TX_BYTES f.port) f.len).pmcEvent 0x71 f.port 1
  (b.put (.frame f.port (f.data ++ fcsOf f.data) L)).frameLeft f L

/-- A frame is committed to the launch point L and starts there. -/
def Blk.startAt (b : Blk) (f : TxF) (L : Nat) : Blk := (b.pmcEvent 0x80 (benchOfPort f.port) 1).startBody f L

/-- What holds a launch at L: LINK, PAUSE (07 R181). -/
def Blk.launchBlock (b : Blk) (f : TxF) : Option Nat :=
  if !(b.portOf f.port).link then some 1 else if b.paused f.port f.cls then some 2 else none

/-- A LAUNCH entry runs at L: the frame is launched at the launch point there, or misses. -/
def Blk.launchRun (b : Blk) (f : TxF) (target : Nat) : Blk :=
  match b.launchBlock f with
  | some code => b.launchFail f code
  | none =>
    let q := b.portOf f.port
    let b := b.setPort f.port { q with armed := q.armed.filter fun x => x.id != f.id }
    let b := b.inc (C.PRT_LAUNCH_OK f.port)
    let b := if f.sealed then b.inc C.NTS_SAL_ONTIME else b
    b.startAt f (b.launchPoint f.port (roundTo (b.pmode f.port).res target))

/-- The armed frame of a number. -/
def Blk.armedFrame? (b : Blk) (p id : Nat) : Option TxF := (b.portOf p).armed.find? fun f => f.id == id

/-- A change of the gates: every armed launch whose gate is no longer open misses with reason GATE (07 R181). -/
def Blk.gateRecheck (b : Blk) (p : Nat) : Blk :=
  (b.portOf p).armed.foldl (fun b f => match f.launch with
    | some L => if b.gateOpen p f.cls (L - b.wireU p 8) (L + b.wireU p f.len) then b else b.launchFail f 3
    | none => b) b

/-! ### The choice at a free launch point (07 R173, R177) -/

/-- Whether a frame may start with its timestamp point at L. -/
def Blk.mayStart (b : Blk) (f : TxF) (L : Nat) : Bool :=
  let span := b.wireSpan f.port f.len L
  b.gateOpen f.port f.cls span.1 (L + b.wireU f.port f.len) && !b.paused f.port f.cls
  && !b.reserved f.port f.id span && !b.wireBusy f.port span

/-- Whether a frame can never start under the list in force (07 R177). -/
def Blk.noFit (b : Blk) (f : TxF) : Bool :=
  b.pfeat f.port featGates && match (b.portOf f.port).gcl with
    | some l => (match l.longest f.cls with | some n => decide (n < b.wireU f.port (f.len + 8)) | none => false)
    | none => false

/-- The head frame of a class. -/
def Blk.headOf (b : Blk) (p c : Nat) : Option TxF := (b.portOf p).queue.find? fun f => f.cls == c

/-- Drop head frames that can never start. -/
def Blk.dropNoFit (b : Blk) (p : Nat) : Nat → Blk
  | 0 => b
  | n + 1 =>
    match ((List.range 8).filterMap fun c => b.headOf p c).find? b.noFit with
    | some f =>
      let q := b.portOf p
      let b := b.setPort p { q with queue := q.queue.filter fun x => x.id != f.id }
      (((b.frameFree f).inc (C.PRT_GATE_NOFIT p)).frameDone f stDropped).dropNoFit p n
    | none => b

/-- The frame that starts at L: one whose launch was missed under LATE_RUN, else the head of the highest class whose
head may start. -/
def Blk.chooseAt (b : Blk) (p L : Nat) : Option TxF :=
  let q := b.portOf p
  match q.armed.find? fun f => f.late && b.mayStart f L with
  | some f => some f
  | none => ([7, 6, 5, 4, 3, 2, 1, 0].filterMap fun c => b.headOf p c).find? fun f => b.mayStart f L

/-- Take a frame out of its port's lists. -/
def Blk.takeFrame (b : Blk) (f : TxF) : Blk :=
  let q := b.portOf f.port
  b.setPort f.port { q with queue := q.queue.filter fun x => x.id != f.id, armed := q.armed.filter fun x => x.id != f.id }

/-- Whether the port can start a frame at all: LINK, not in low-power idle or its wake. -/
def Blk.canSend (b : Blk) (p : Nat) : Bool :=
  let q := b.portOf p
  q.link && !q.lpiTx && decide (q.wakeEnd ≤ b.up)

/-! ### TX_FRAMEs that wait (13 R349, R359) -/

/-- Whether a waiting TX_FRAME has what it needs. -/
def Blk.txFits (b : Blk) (f : TxF) : Bool := b.egFits f.port f.eg && (f.launch.isNone || b.launchFree != 0)

/-- A TX_FRAME takes its egress space and is queued or armed; with LINK = 0 a frame without launch is dropped. -/
def Blk.txGrant (b : Blk) (f : TxF) : Blk :=
  match f.launch with
  | some t => (b.egTake f.port f.eg).armHost f t
  | none =>
    if (b.portOf f.port).link then (b.egTake f.port f.eg).queueFrame f
    else (b.inc (C.PRT_TX_DISCARD f.port)).frameDone f stDropped

/-- Grant the waiting TX_FRAMEs that now fit, oldest first. -/
def Blk.txRetryN (b : Blk) : Nat → Blk
  | 0 => b
  | n + 1 =>
    match b.flow.waits.find? fun x => b.txFits x.frame with
    | some x =>
      let b := b.setBegun x.ref true
      (Blk.txGrant { b with flow := { b.flow with waits := b.flow.waits.filter fun y => y.ref != x.ref } } x.frame).txRetryN n
    | none => b
def Blk.txRetry (b : Blk) : Blk := b.txRetryN b.flow.waits.length

end Sys2Proof.Machine
end

