-- ==== Sys2Proof/Machine/PtpBase.lean ====
section
/-! DEFINITION. Which grandmaster instances act where (10 R266, R267), and the message intervals in use on each port
(03 R61, 10 R272). -/

namespace Sys2Proof.Machine

/-! ### Profiles (10 R267) -/

/-- What a profile admits. Transport 0 Ethernet, 1 UDP/IPv4, 2 UDP/IPv6; unicast 0 optional, 1 never, 2 required. -/
structure Prof where
  transports : List Nat
  delays : List Bool
  dom : Nat × Nat
  sync : Int × Int
  ann : Int × Int
  req : Int × Int
  uni : Nat

def ptpProf (code : Nat) : Prof :=
  match code with
  | 1 => ⟨[0, 1, 2], [true], (0, 127), (-7, 1), (-3, 4), (-7, 5), 0⟩
  | 2 => ⟨[0], [false], (24, 43), (-4, -4), (-3, -3), (-4, -4), 1⟩
  | 3 => ⟨[1, 2], [false], (44, 63), (-7, 0), (-3, 0), (-7, 0), 2⟩
  | 4 => ⟨[0], [true], (0, 0), (0, 0), (0, 0), (0, 0), 1⟩
  | 5 => ⟨[0], [true], (254, 254), (0, 0), (0, 0), (0, 0), 1⟩
  | _ => ⟨[0, 1, 2], [false], (0, 127), (-7, 1), (-3, 4), (-7, 5), 0⟩

def inRange (r : Int × Int) (x : Int) : Bool := decide (r.1 ≤ x ∧ x ≤ r.2)

/-- The range of logInterMessagePeriod of a message type: Announce, Sync, Delay_Resp or Pdelay_Resp. -/
def Prof.range (p : Prof) (msg : Nat) : Int × Int :=
  match msg with
  | 0x0B => p.ann
  | 0x00 => p.sync
  | _ => p.req

/-- The transport of an instance; 3 reads as Ethernet (10 R283). -/
def Blk.instTr (b : Blk) (i : Nat) : Nat := b.rd (R.PTP_INST_CFG_TRANSPORT i) % 3

def Blk.instProf (b : Blk) (i : Nat) : Prof := ptpProf (b.rd (R.PTP_INST_CFG_PROFILE i))

/-- Whether an instance's settings lie within its profile's limits. -/
def Blk.instOk (b : Blk) (i : Nat) : Bool :=
  let p := b.instProf i
  let d := b.rd (R.PTP_INST_CFG_DOMAIN i)
  let p2p := b.flag (R.PTP_INST_CFG_DELAY i)
  let uni := b.flag (R.PTP_INST_CFG_UNICAST i)
  p.transports.contains (b.instTr i) && p.delays.contains p2p
  && decide (p.dom.1 ≤ d ∧ d ≤ p.dom.2)
  && inRange p.sync (b.rdS (R.PTP_INST_RATE_LOG_SYNC i)) && inRange p.ann (b.rdS (R.PTP_INST_RATE_LOG_ANN i))
  && inRange p.req (if p2p then b.rdS (R.PTP_INST_RATE_LOG_PDREQ i) else b.rdS (R.PTP_INST_RATE_LOG_DREQ i))
  && (p.uni == 0 || (p.uni == 1 && !uni) || (p.uni == 2 && uni))

/-- A valid instance may be active on port p by its own settings. -/
def Blk.instOn (b : Blk) (i p : Nat) : Bool :=
  b.flag (R.PTP_INST_CFG_VALID i) && bitOf (b.rd (R.PTP_INST_PORTS_PORTS i)) p && b.portPresent p

/-- Two valid instances with the same domain and transport on one port. -/
def Blk.instClash (b : Blk) (i j p : Nat) : Bool :=
  i != j && b.instOn i p && b.instOn j p && b.rd (R.PTP_INST_CFG_DOMAIN i) == b.rd (R.PTP_INST_CFG_DOMAIN j)
  && b.instTr i == b.instTr j

/-- The reference client of port p runs: PTP_REF is effective there. -/
def Blk.clientOn (b : Blk) (p : Nat) : Bool := b.portPresent p && b.pfeat p featRef

/-- An instance is refused on a port whose reference client has the same domain (02 R35). -/
def Blk.instRefused (b : Blk) (i p : Nat) : Bool :=
  b.clientOn p && b.rd (R.PTP_RC_CFG_DOMAIN p) == b.rd (R.PTP_INST_CFG_DOMAIN i)

/-- Whether instance i is active on port p (10 R266). -/
def Blk.instActive (b : Blk) (i p : Nat) : Bool :=
  b.instOn i p && b.pfeat p featGm && b.instOk i && !([0, 1, 2, 3].any fun j => b.instClash i j p)
  && !b.instRefused i p

/-- PTP_STATUS.INST_ERR: a valid instance outside its limits, or the lower of two that clash. -/
def Blk.instErr (b : Blk) : Nat :=
  ([0, 1, 2, 3].map fun i =>
    if b.flag (R.PTP_INST_CFG_VALID i) && (!b.instOk i || [0, 1, 2, 3].any fun j => decide (i < j) &&
      (List.range 32).any fun p => b.instClash i j p) then 2 ^ i else 0).sum

/-- Whether an instance is PASSIVE on a port (10 R271). -/
def Blk.isPassive (b : Blk) (i p : Nat) : Bool :=
  bitOf (tget 0 b.ptp.passive i) p && b.flag (R.PTP_INST_CFG_BMCA_EN i) && b.rd (R.PTP_INST_CFG_PROFILE i) != 3

/-- The instance speaks on the port: active, not PASSIVE, in a mode that is not silent (02 R28). -/
def Blk.instSpeaks (b : Blk) (i p : Nat) : Bool := b.instActive i p && !b.isPassive i p && b.servesGm && !b.draining

/-! ### Sweeps (10 R272, 03 R61) -/

/-- A message interval of 2^n s in 2^-16 ns. -/
def logU (n : Int) : Nat := if n ≥ 0 then secU (2 ^ n.toNat) else secU 1 / 2 ^ (-n).toNat

/-- The multicast intervals of instance i: none under a profile without multicast; with the peer-delay mechanism that of its
Pdelay_Req too. -/
def Blk.instLogs (b : Blk) (i : Nat) : List Int :=
  if (b.instProf i).uni = 2 then []
  else [b.rdS (R.PTP_INST_RATE_LOG_SYNC i), b.rdS (R.PTP_INST_RATE_LOG_ANN i)]
    ++ (if b.flag (R.PTP_INST_CFG_DELAY i) then [b.rdS (R.PTP_INST_RATE_LOG_PDREQ i)] else [])

/-- The Sync and Announce grants of a session. -/
def PSess.logs (s : PSess) : List Int := (s.grants.filter fun g => g.msg == 0x0B || g.msg == 0x00).map (·.log)

/-- The message intervals in use on a port. -/
def Blk.logsInUse (b : Blk) (p : Nat) : List Int :=
  (([0, 1, 2, 3].filter fun i => b.instActive i p).flatMap b.instLogs
    ++ (b.ptp.sess.filter fun s => s.port == p).flatMap PSess.logs).eraseDups

/-- The key of a port and an interval. -/
def sweepKey (p : Nat) (n : Int) : Nat := 16 * p + (n + 8).toNat

/-- Grid points of an interval after `last` and before `lim`, counted. -/
def gridCount (iv : Nat) (last lim : Int) : Nat := if lim ≤ last + 1 then 0 else ((lim - 1) / iv - last / iv).toNat

/-- A forward step makes the sweeps in [t, lim) late: nothing is built for their points. -/
def Blk.sweepsLate (b : Blk) (t lim : Int) : Blk :=
  let keys := (List.range 32).flatMap fun p => (b.logsInUse p).map fun n => (p, n)
  keys.foldl (fun b k =>
    let iv := logU k.2
    let from_ := max (t - 1) (match tget none (b.ptp.sweeps.map fun e => (e.1, some e.2)) (sweepKey k.1 k.2) with
      | some x => (x : Int) | none => t - 1)
    let n := gridCount iv from_ lim
    if n = 0 then b else
      let b := { b with ptp := { b.ptp with sweeps := tput b.ptp.sweeps (sweepKey k.1 k.2) ((lim - 1) / iv * iv).toNat }
                        laster := { b.laster with lateNext := (b.laster.lateNext + n) % 0x100000000 } }
      b.incN C.PTP_SWEEP_LATE n) b

end Sys2Proof.Machine
end

