-- ==== Sys2Proof/Machine/LasterOps.lean ====
section
/-! DEFINITION. The Laster at work (03 R61 to R76, R471): what each class does when it runs, late policies, steps of the
Insole (03 R57, R58, R72, R73, 05 R122, 09 R257) and phase corrections (03 R54 to R56). -/

namespace Sys2Proof.Machine

/-! ### Entries -/

/-- The grid of a class in 0.01 ps (03 R63). -/
def Blk.clsRes (b : Blk) (e : LEntry) : Nat :=
  match e.cls with
  | 1 => (b.pmode e.obj).res
  | 3 => 625 | 4 => 625 | 5 => 625 | 6 => 625 | 7 => 625
  | _ => 80000

/-- The place of a class in the order of R64. -/
def clsOrder (cls : Nat) : Nat :=
  match cls with
  | 0x9 => 0 | 0xA => 1 | 0x8 => 2 | 0x2 => 3 | 0x4 => 4 | 0x3 => 5 | 0x6 => 6 | 0x5 => 7
  | 0x7 => 8 | 0x1 => 9 | 0xC => 10 | 0xB => 11 | _ => 12

/-- The exact target of occurrence k (03 R66). -/
def LEntry.targetAt (e : LEntry) (k : Nat) : Int := if e.cyc.isSome then e.t0 else e.t0 + (k : Int) * e.period

/-- The exact target of the next occurrence. -/
def LEntry.target (e : LEntry) : Int := e.targetAt e.k

/-- The rounded target. -/
def Blk.point (b : Blk) (e : LEntry) : Int := roundTo (b.clsRes e) e.target

/-- Whether occurrence k exists. -/
def LEntry.has (e : LEntry) (k : Nat) : Bool :=
  if e.period = 0 then k == 0 else e.count == 0 || decide (k < e.count)

/-- 200 ns (03 R65). -/
def leadU : Nat := nsU 200

/-- The first occurrence from k on whose target is not before a limit. -/
def LEntry.firstFrom (e : LEntry) (lim : Int) : Nat :=
  if e.period = 0 then (if e.t0 < lim then 1 else 0)
  else ((-(-(lim - e.t0) / (e.period : Int))).toNat)

/-- A cycle-based entry goes on: its next crossing has come already, or is waited for (03 R74). -/
def LEntry.nextCycle (e : LEntry) : LEntry :=
  let cyc := e.cyc.map fun c => { c with n := e.period - 1 - e.since.length }
  match e.since.drop (e.period - 1) with
  | (t, synth) :: rest => { e with t0 := t, cyc := cyc, synth := synth, since := rest }
  | [] => { e with cyc := cyc, resolved := false, synth := false, since := [] }

/-- The entry goes on with its occurrence k, or ends. One that ran under REARM is kept for a backward step (03 R73). -/
def Blk.lstNextOcc (b : Blk) (i : Nat) (e : LEntry) (k : Nat) : Blk :=
  let e := { e with k := k, issued := false }
  if e.cyc.isSome then
    if e.has k then
      { b with laster := { b.laster with ents := tput b.laster.ents i e.nextCycle } }
    else b.lstDel i
  else if e.has k then
    { b with laster := { b.laster with ents := tput b.laster.ents i { e with spilled := decide (e.target > (b.ins.now + b.hotU : Nat)) } } }
  else
    let b := b.lstDel i
    if e.rearm && e.ranAt.isSome then { b with laster := { b.laster with ended := tput b.laster.ended i e } } else b

/-- A LASTER record: what was done, flags, the target (11 R311). -/
def Blk.lstRecord (b : Blk) (i : Nat) (e : LEntry) (what : Nat) (late empty nop : Bool) (t target : Int) : Blk :=
  if e.owner ≥ 4 then b
  else b.record e.owner 6 (what + 4 * b2n late + 8 * b2n empty + 16 * b2n nop + 32 * b2n e.synth) (b.lstHandle i) t.toNat (timeB target.toNat)

/-! ### Start and stop actions (03 R75, R76) -/

/-- Whether a start and its stop round to the same point, or run late at one instant (03 R76). -/
def Blk.pairEmpty (b : Blk) (e : LEntry) (late : Bool) : Bool :=
  match e.pair with
  | none => false
  | some x =>
    let o := x.t0 + (e.k : Int) * e.period
    if e.cyc.isSome then x.same
    else roundTo (b.clsRes e) o == b.point e
      || (late && x.policy == 0 && e.policy == 0 && decide (o < b.ins.now + leadU))

/-- Set an output's gate; whether nothing changed. -/
def Blk.setGate (b : Blk) (u : Nat) (on : Bool) : Blk × Bool :=
  let o := b.outOf u
  if o.gate == on then (b, true) else (b.setOut u { o with gate := on }, false)

/-- Set an event input's window; whether nothing changed. -/
def Blk.setWindow (b : Blk) (e : Nat) (on : Bool) : Blk × Bool :=
  let x := b.eyeOf e
  if x.windowOpen == on then (b, true) else (b.setEye e { x with windowOpen := on }, false)

/-- Count a NOP. -/
def Blk.lstNop (b : Blk) (nop : Bool) : Blk :=
  if nop then { b with laster := { b.laster with nop := (b.laster.nop + 1) % 0x100000000 } } else b

/-! ### Gate lists (07 R176, 03 R471) -/

/-- The pending list of a port takes effect. -/
def Blk.gateTake (b : Blk) (p : Nat) : Blk :=
  let q := b.portOf p
  match q.pend with
  | some (l, _, _) => (b.setPort p { q with gcl := some l, pend := none }).gateRecheck p
  | none => b

/-! ### Epochs (09 R246) -/

/-- The activation of a slot. -/
def Blk.keyActivate (b : Blk) (n : Nat) : Blk :=
  let e := b.epochOf n
  if e.st ≠ 1 then b else
    let c := b.setEpoch n { e with actEntry := none }
    let c := match b.currentEpoch with | some m => c.epochState m 3 | none => c
    Blk.withNoSeal b (c.epochState n 2)

/-- The expiry of a slot. -/
def Blk.keyExpire (b : Blk) (n : Nat) : Blk := Blk.follow b (b.epochRetire n)

/-! ### Leaps (03 R50, R53, R73) -/

/-- Sample SMEAR for a leap whose W0 has come. -/
def Leap.sampled (l : Leap) (t : Int) (smear : Bool) : Leap :=
  if l.sample.isNone && decide (l.w0 ≤ t) then { l with sample := some (smear && decide (l.w0 < l.w1)) } else l

def Blk.smearSamples (b : Blk) : Blk :=
  let f := fun l : Leap => l.sampled b.ins.now (b.feat featSmear)
  { b with ins := { b.ins with leap := b.ins.leap.map f, lastLeap := b.ins.lastLeap.map f } }

/-- The pending leap takes effect: D becomes D + δ. -/
def Blk.leapTake (b : Blk) : Blk :=
  match b.ins.leap with
  | some l => Blk.wr { b with ins := { b.ins with leap := none, lastLeap := some { l with dOld := b.utcD } } } R.TBS_UTC_OFFSET
      (ofSigned (b.utcD + l.delta) 16)
  | none => b

/-- A backward step crosses S_L: D returns and the leap is pending again. -/
def Blk.leapUndo (b : Blk) : Blk :=
  match b.ins.lastLeap with
  | some l => Blk.wr { b with ins := { b.ins with leap := some l, lastLeap := none } } R.TBS_UTC_OFFSET (ofSigned l.dOld 16)
  | none => b

/-! ### Running an entry -/

/-- Units with FIRST_ALIGN realign at their next edge once TIME_VALID has become 1 (05 R124). -/
def Blk.firstAligns (b : Blk) : Blk :=
  (List.range 18).foldl (fun b u =>
    let o := b.outOf u
    if b.flag (R.HLD_OCFG_FIRST_ALIGN u) && o.running && o.realign.isNone then
      b.setOut u { o with firstAlign := true, realign := some { method := 1, rate := 0, apply := b.ins.now } }
    else b) b

/-- TIME_VALID is 1. -/
def Blk.markValid (b : Blk) : Blk := { b with ins := { b.ins with timeValid := true } }

/-- TIME_VALID becomes 1 with what f does, so that the anchor of a step shows it (11 R313). -/
def Blk.validWith (f : Blk → Blk) (b : Blk) : Blk :=
  let c := (f b.markValid).markValid
  if b.ins.timeValid then c else c.firstAligns

/-- Whether the mode permits a kind of TIME_ADJUST (03 R56). -/
def Blk.adjustOk (b : Blk) (kind : Nat) : Bool :=
  match b.mode with
  | .commission => true | .diagnostic => true
  | .acquire => kind != 2 | .holdover => kind != 2
  | _ => false

/-- The remaining slew and a correction, exact, in 10^-9 of 2^-16 ns. -/
def Blk.corrSum (b : Blk) (d : Int) : Int := d * 1000000000 + b.ins.slewRem

/-- Whether R54 steps a sum. -/
def Blk.steps54 (b : Blk) (sum : Int) (first : Bool) : Bool :=
  (first && !b.ins.timeValid && b.flag R.TBS_CTRL_FIRST_STEP)
  || (decide (sum.natAbs > b.rd R.TBS_STEP_LIMIT_LIMIT * 65536 * 1000000000) && b.flag R.TBS_CTRL_STEP_EN)

/-- A phase correction of the remaining slew to `sum` (03 R57), with the size it steps. -/
def Blk.correctAs (stp : Int → Blk → Blk) (b : Blk) (sum : Int) (steps : Bool) : Blk × Int :=
  if steps then
    let x := sum.tdiv 1000000000
    (stp x { b with ins := { b.ins with slewRem := 0 } }, x)
  else ({ b with ins := { b.ins with slewRem := sum } }, 0)

/-- A correction that TIME_ADJUST brings. -/
def Blk.correct (stp : Int → Blk → Blk) (b : Blk) (d : Int) : Blk × Int :=
  b.correctAs stp (b.corrSum d) (b.steps54 (b.corrSum d) false)

/-- KIND SET: a step by d to the value given, and TIME_VALID. -/
def Blk.adjustTo (stp : Int → Blk → Blk) (b : Blk) (ref : DRef) (d : Int) (status : Nat) : Blk :=
  (b.validWith (stp d)).complete ref status (leB 8 (ofSigned d 64))

/-- A TIME_ADJUST is applied and completes with a status (03 R56). -/
def Blk.adjustRun (stp : Int → Blk → Blk) (b : Blk) (ref : DRef) (kind : Nat) (value : Int) (status : Nat) : Blk :=
  if !b.adjustOk kind then b.complete ref stDenied []
  else match kind with
  | 1 =>
    let r := Blk.correct stp b value
    r.1.complete ref status (leB 8 (ofSigned r.2 64))
  | 2 => b.adjustTo stp ref (value - b.ins.now) status
  | _ => Blk.complete { b with ins := { b.ins with slewRem := 0 } } ref status (leB 8 0)

/-- The action of an entry at its occurrence; and whether it is a NOP. -/
def Blk.act (stp : Int → Blk → Blk) (b : Blk) (e : LEntry) (late empty : Bool) : Blk × Bool :=
  match e.cls with
  | 1 => match e.pay with
    | .launch id => match b.armedFrame? e.obj id with
      | some f => (if late then b.launchFail f 6 else b.launchRun f e.target.toNat, false)
      | none => (b, false)
    | _ => (b, false)
  | 2 => (b.gateTake e.obj, (b.portOf e.obj).pend.isNone)
  | 3 => if empty then (b, false) else b.setGate e.obj true
  | 4 => if empty then ((b.setGate e.obj false).1, false) else b.setGate e.obj false
  | 5 => if empty then (b, false) else b.setWindow e.obj true
  | 6 => if empty then ((b.setWindow e.obj false).1, false) else b.setWindow e.obj false
  | 0xA => match e.pay with
    | .adjust ref kind value => (b.adjustRun stp ref kind value (if late then stLate else stOk), false)
    | _ => (b, false)
  | _ => (b, false)

/-- Run the next occurrence of entry i: the entry goes on to occurrence k first, so that what its action does meets the
Laster after it. A LAUNCH entry's frame owns its entry. -/
def Blk.runEntry (stp : Int → Blk → Blk) (b : Blk) (i : Nat) (e : LEntry) (k : Nat) (late : Bool) : Blk :=
  let pt := b.point e
  let at_ : Int := if late then b.ins.now else pt
  let empty := b.pairEmpty e late
  let b := (b.lstNextOcc i { e with ranAt := some e.target } k).pmcEvent 0xA0 0 1
  let r := b.act stp e late empty
  let ss := e.cls == 3 || e.cls == 4 || e.cls == 5 || e.cls == 6
  let b := if ss then r.1.lstNop r.2 else r.1
  if e.notify || e.cls == 0xD then b.lstRecord i e 1 late empty r.2 at_ e.target else b

/-! ### Late policies (03 R67) -/

def Blk.lateCount (b : Blk) (policy n : Nat) : Blk :=
  let l := b.laster
  { b with laster := match policy with
      | 0 => { l with lateRun := (l.lateRun + 1) % 0x100000000 }
      | 1 => { l with lateSkip := (l.lateSkip + n) % 0x100000000 }
      | _ => { l with lateNext := (l.lateNext + n) % 0x100000000 } }

/-- Entry i is late for every occurrence before `lim`: its policy is applied now. -/
def Blk.lateEntry (stp : Int → Blk → Blk) (b : Blk) (i : Nat) (e : LEntry) (lim : Int) : Blk :=
  let k := if e.cyc.isSome then e.k + 1 else max (e.k + 1) (e.firstFrom lim)
  let k := if e.period ≠ 0 && e.count ≠ 0 then min k e.count else k
  let n := k - e.k
  if e.cls = 1 then b.runEntry stp i e k true
  else match e.policy with
  | 0 => (b.lateCount 0 1).runEntry stp i e k true
  | p =>
    let c := (b.lateCount p n).lstNextOcc i e k
    let tgt := if p = 1 then e.target else e.targetAt k
    if e.notify then c.lstRecord i e (if p = 1 then 2 else 3) true false false b.ins.now tgt else c

/-! ### Steps -/

/-- What a step may find late. -/
inductive LItem where
  | entry (i : Nat)
  | leap
  | keyAct (n : Nat)
  | keyExp (n : Nat)
  | gate (p : Nat)
  deriving DecidableEq, Repr

/-- An item with the point it rounds to, its class order and its arming order. -/
structure LKey where
  pt : Int
  cls : Nat
  seq : Nat
  item : LItem
  deriving DecidableEq, Repr

def LKey.before (x y : LKey) : Bool :=
  decide (x.pt < y.pt) || (x.pt == y.pt && (decide (x.cls < y.cls) || (x.cls == y.cls && decide (x.seq < y.seq))))

def insertKey (x : LKey) : List LKey → List LKey
  | [] => [x]
  | y :: rest => if x.before y then x :: y :: rest else y :: insertKey x rest

/-- The KEY_ROLL entries whose time lies before `lim`. -/
def Blk.keyRolls (b : Blk) (lim : Int) : List LKey :=
  (List.range 4).flatMap fun n =>
    let e := b.epochOf n
    (match e.actEntry with
      | some q => if e.st == 1 && decide ((e.act : Int) < lim) then [LKey.mk (roundTo 80000 e.act) 2 q (.keyAct n)] else []
      | none => [])
    ++ (match e.expEntry with
      | some q => if (e.exp : Int) < lim then [LKey.mk (roundTo 80000 e.exp) 2 q (.keyExp n)] else []
      | none => [])

/-- Every item whose target lies before `lim`, in the order of R64. -/
def Blk.dueBefore (b : Blk) (lim : Int) : List LKey :=
  let ents := b.laster.ents.filterMap fun x =>
    if x.2.resolved && decide (x.2.target < lim) then some (LKey.mk (b.point x.2) (clsOrder x.2.cls) x.2.seq (.entry x.1)) else none
  let leap := match b.ins.leap with
    | some l => if l.sLU < lim then [LKey.mk l.sLU 0 0 .leap] else [] | none => []
  let gates := (List.range 32).filterMap fun p =>
    match (b.portOf p).pend with
    | some (_, tc, seq) => if (tc : Int) < lim then some (LKey.mk (roundTo 80000 tc) 3 seq (.gate p)) else none
    | none => none
  (ents ++ leap ++ b.keyRolls lim ++ gates).foldl (fun l x => insertKey x l) []

/-- Apply the late policy of one item, if it is still due. Device entries found late are counted in LST_LATE_RUN. -/
def Blk.lateItem (stp : Int → Blk → Blk) (lim : Int) (b : Blk) (x : LKey) : Blk :=
  match x.item with
  | .entry i => match b.lstAt? i with
    | some e => if e.seq == x.seq && e.resolved && decide (e.target < lim) then b.lateEntry stp i e lim else b
    | none => b
  | .leap => match b.ins.leap with
    | some l => if l.sLU < lim then ((b.lateCount 0 1).pmcEvent 0xA0 0 1).leapTake else b
    | none => b
  | .keyAct n => if (b.epochOf n).st == 1 && (b.epochOf n).actEntry.isSome then ((b.lateCount 0 1).pmcEvent 0xA0 0 1).keyActivate n else b
  | .keyExp n => if (b.epochOf n).expEntry.isSome then ((b.lateCount 0 1).pmcEvent 0xA0 0 1).keyExpire n else b
  | .gate p => if (b.portOf p).pend.isSome then ((b.lateCount 0 1).pmcEvent 0xA0 0 1).gateTake p else b

/-- HOLD_CHECK under LATE_NEXT: occurrences before `lim` are counted. -/
def Blk.holdLate (b : Blk) (lim : Int) : Blk :=
  match b.laster.holdCheck with
  | some h =>
    if (h : Int) < lim then
      let n := (-(-(lim - h) / oneS)).toNat
      Blk.lateCount { b with laster := { b.laster with holdCheck := some (h + n * secU 1) } } 2 n
    else b
  | none => b

/-- A forward step from t: everything before `lim` = t + Δ + 200 ns is late (03 R72). -/
def Blk.stepForward (stp : Int → Blk → Blk) (b : Blk) (t lim : Int) : Blk :=
  let b := b.smearSamples
  let b := (b.dueBefore lim).foldl (fun b x => b.lateItem stp lim x) b
  (b.holdLate lim).sweepsLate t lim

/-- An entry under REARM after a backward step to `t1` from `t`: its first occurrence from t1 on (03 R73). -/
def LEntry.rewind (e : LEntry) (t1 t : Int) : Option LEntry :=
  if e.cyc.isSome then none else
    let k := e.firstFrom t1
    if k < e.k && e.has k && decide (e.targetAt k < t) then some { e with k := k, issued := false } else none

/-- A backward step from t to t1. -/
def Blk.stepBack (b : Blk) (t t1 : Int) : Blk :=
  let ents := b.laster.ents.map fun x =>
    if x.2.rearm then (x.1, (x.2.rewind t1 t).getD x.2) else x
  let back := b.laster.ended.filterMap fun x => (x.2.rewind t1 t).map fun e => (x.1, e)
  let ents := back.foldl (fun l x => if thas l x.1 then l else tput l x.1 x.2) ents
  let ended := b.laster.ended.filter fun x => !thas ents x.1
  let b := { b with laster := { b.laster with ents := ents, ended := ended } }
  match b.ins.lastLeap with
  | some l => if t1 < l.sLU && l.sLU ≤ t then b.leapUndo else b
  | none => b

/-- The period of a unit's waveform as a fraction of 2^-16 ns; none for an idle or CYCLE unit. -/
def Blk.unitPeriod (b : Blk) (u : Nat) : Option (Nat × Nat) :=
  match b.rd (R.HLD_OCFG_KIND u) with
  | 1 => some (secU (atLeast1 (b.rd (R.HLD_OCFG_PERIOD_S u))), 1)
  | 2 => some (nsU (b.rd (R.HLD_OPER_PERIOD_NS u)), 1)
  | 3 => some (65536 * 65536 * 1000000000, b.rd (R.HLD_OFREQ_FREQ u) * 65536 + b.rd (R.HLD_OFRAC_FRAC u))
  | _ => none

/-- M reduced into (−P/2, +P/2] (05 R123). -/
def reduceMis (p : Nat × Nat) (m : Int) : Int :=
  if p.1 = 0 ∨ p.2 = 0 then m else
    let k := -(((p.1 : Int) - 2 * m * p.2) / (2 * p.1))
    m - k * p.1 / p.2

/-- The output units keep their edges in real time (05 R122), and M moves (05 R123). -/
def Blk.unitsStep (b : Blk) (d : Int) : Blk :=
  { b with outs := { b.outs with units := b.outs.units.map fun x =>
      if x.2.running then
        (x.1, { x.2 with next := x.2.next + d, more := x.2.more.map (· + d), trail := x.2.trail.map (· + d), start := x.2.start + d
                         mis := match b.unitPeriod x.1 with | some p => reduceMis p (x.2.mis + d) | none => 0 })
      else x } }

/-- Granted launches of sealed responses that a change spoils are cancelled: each misses with reason STEP (09 R255, R257). -/
def Blk.sealSpoil (b : Blk) (bad : Blk → TxF → Bool) : Blk :=
  (List.range 32).foldl (fun c p =>
    ((c.portOf p).armed.filter fun f => f.sealed && bad b f).foldl (fun c f =>
      let q := c.portOf p
      (c.setPort p { q with armed := q.armed.filter fun x => x.id != f.id }).sealMiss f 5) c) b

/-- At a step every granted launch of a sealed response is cancelled (09 R257). -/
def Blk.sealStep (b : Blk) : Blk := b.sealSpoil fun _ _ => true

/-- The transmit timestamp that a sealed response carries is not the NTP value of its launch instant. -/
def Blk.t3Wrong (b : Blk) (f : TxF) : Bool :=
  match f.launch, udpPay (b.tpid f.port) f.data with
  | some L, some (o, _) => beAt f.data (o + 40) 8 != b.ntp64 L
  | _, _ => false

/-- A change of the conversion to UTC spoils the launches whose granted T3 it alters (09 R255). -/
def Blk.t3Check (b : Blk) : Blk := b.sealSpoil Blk.t3Wrong

/-- The largest Insole value, exclusive (03 R42). -/
def insoleLim : Nat := secU (2 ^ 48)

/-- Where a step leads. Outside the range of R42 the spec gives no value: a free one (log entry 3). -/
def Blk.stepTo (b : Blk) (d : Int) : Nat :=
  let x := (b.ins.now : Int) + d
  if 0 ≤ x ∧ x < (insoleLim : Int) then x.toNat else Config.freeNat b.freeCtr % insoleLim

/-- The value moves: count, size, flag, generation, anchors (03 R58). -/
def Blk.stepValue (b : Blk) (new : Nat) : Blk :=
  let d := (new : Int) - b.ins.now
  let b := { b with
    freeCtr := b.freeCtr + 1
    ins := { b.ins with now := new, stepCnt := satNat (b.ins.stepCnt + 1) 16, stepLast := d
                        stepGen := (b.ins.stepGen + 1) % 4, stepSum := b.ins.stepSum + d } }
  (b.setF R.TBS_STATUS_STEPPED).anchorAll 1 new d

/-- A step of d. `fuel` bounds the steps that ADJUST entries found late by a step make in turn. -/
def Blk.stepN : Nat → Int → Blk → Blk
  | 0, _, b => b
  | n + 1, d, b =>
    let t : Int := b.ins.now
    let new := b.stepTo d
    let d := (new : Int) - t
    let b := ((b.unitsStep d).stepValue new).sealStep
    if d ≥ 0 then b.stepForward (Blk.stepN n) t (t + d + leadU) else b.stepBack t (t + d)

/-- A step of the Insole. -/
def Blk.step (b : Blk) (d : Int) : Blk := Blk.stepN (b.laster.ents.length + 1) d b

/-- The step as the functions above take it. -/
def stepFn (d : Int) (b : Blk) : Blk := b.step d

end Sys2Proof.Machine
end

