-- ==== Sys2Proof/Machine/Time.lean ====
section
/-! DEFINITION. The commands of the Insole and the Laster (03): leaps, adjustments, arming, cancelling, issuing, and the
entries that run. -/

namespace Sys2Proof.Machine

/-! ### The Keep clock and slews -/

/-- Once per second SEC goes into the Keep real-time clock (03 R44). -/
def execKeepRtcLoad (w : Nat) (s : State) : Host.Outcome State Fault Refusal :=
  s.upd w fun _ b =>
    if b.ins.running && b.rst.vkeep then { b with rst := { b.rst with rtc := some (secOf b.ins.now, b.up) } } else b

/-- The remaining slew has reached zero: the passing of time has used it up exactly (03 R55), and SLEWING, which reads
the remainder, clears with it. -/
def execSlewDone (w : Nat) (s : State) : Host.Outcome State Fault Refusal := s.upd w fun _ b => b

/-! ### Leaps (03 R49 to R53) -/

/-- The window of a leap installed at `now` (03 R52, R53). -/
def smearWindow (now sLU : Int) (len pos : Nat) : Int × Int :=
  let L : Int := secU len
  let w0 := match pos with | 1 => sLU - L | 2 => sLU | _ => sLU - L / 2
  if w0 + L ≤ now then (now, now) else (max w0 now, w0 + L)

/-- δ and M of a LEAP_SET. -/
def leapArgs (d : Bytes) : Int × Nat := (toSigned (byteAt d 9) 8, leAt d 16 6)

/-- S_L of a leap in TAI seconds (03 R50). -/
def leapS (dOff delta : Int) (m : Nat) : Int := if delta > 0 then m + dOff else m + dOff - 1

/-- The leap that an install makes pending. -/
def Blk.newLeap (b : Blk) (delta : Int) (m : Nat) : Leap :=
  let sL := leapS b.utcD delta m
  let win := smearWindow b.ins.now (sL * oneS) (b.rd R.TBS_SMEAR_LEN) (b.rd R.TBS_SMEAR_POS)
  { delta := delta, m := m, dOld := b.utcD, sL := sL, w0 := win.1, w1 := win.2, sample := none }

/-- LEAP_SET install, and any OP that is neither install nor cancel (log entry 32). -/
def Blk.leapInstall (b : Blk) (ref : DRef) (d : Bytes) : Blk :=
  let a := leapArgs d
  if byteAt d 8 ≠ 1 ∨ a.2 % 86400 ≠ 0 ∨ (a.1 ≠ 1 ∧ a.1 ≠ -1) then b.complete ref stMalformed []
  else if leapS b.utcD a.1 a.2 * oneS < (b.ins.now : Int) + 2 * oneS then b.complete ref stDenied []
  else match b.ins.leap with
  | some l => b.complete ref (if l.m = a.2 ∧ l.delta = a.1 then stOk else stDenied) []
  | none => (Blk.smearSamples { b with ins := { b.ins with leap := some (b.newLeap a.1 a.2) } }).t3Check.complete ref stOk []

def execLeapInstall (w r : Nat) (s : State) : Host.Outcome State Fault Refusal :=
  s.upd w fun _ b => b.withDesc r 0x20 (fun d => byteAt d 8 != 2) fun ref d b => b.leapInstall ref d

/-- LEAP_SET cancel. The smear window has begun where a sampled leap is smeared, or W0 has come with SMEAR effective. -/
def Blk.leapCancel (b : Blk) (ref : DRef) : Blk :=
  match b.ins.leap with
  | none => b.complete ref stOk []
  | some l =>
    if (l.smears (b.feat featSmear) && decide (l.w0 ≤ (b.ins.now : Int))) || decide (l.sLU < (b.ins.now : Int) + oneS) then
      b.complete ref stDenied []
    else (Blk.t3Check { b with ins := { b.ins with leap := none } }).complete ref stOk []

def execLeapCancel (w r : Nat) (s : State) : Host.Outcome State Fault Refusal :=
  s.upd w fun _ b => b.withDesc r 0x20 (fun d => byteAt d 8 == 2) fun ref _ b => b.leapCancel ref

/-- The warning interval begins: LEAP_WARN, LI and the Announce flags are read from the Insole and the pending leap
(03 R51), so they change with the time that passes. -/
def execLeapWarnStart (w : Nat) (s : State) : Host.Outcome State Fault Refusal := s.upd w fun _ b => b

/-- At W0 SMEAR is sampled; a launch whose granted T3 this alters is missed (09 R255). -/
def execSmearSample (w : Nat) (s : State) : Host.Outcome State Fault Refusal := s.upd w fun _ b => b.smearSamples.t3Check

/-- W1 is reached: IN_SMEAR and the offset are read from the Insole and the leap (03 R52). -/
def execSmearEnd (w : Nat) (s : State) : Host.Outcome State Fault Refusal := s.upd w fun _ b => b

/-- The LEAP entry runs at S_L. -/
def execLeapEntry (w : Nat) (s : State) : Host.Outcome State Fault Refusal :=
  s.upd w fun _ b =>
    match b.ins.leap with
    | some l => if l.sLU ≤ (b.ins.now : Int) then (b.smearSamples.pmcEvent 0xA0 0 1).leapTake else b
    | none => b

/-! ### TIME_ADJUST (03 R56) -/

/-- The value of a TIME_ADJUST: Δ, or the time of a SET; none where that time is not one. -/
def adjustValue (d : Bytes) : Option Int :=
  match byteAt d 8 with
  | 1 => some (toSigned (leAt d 10 8) 64)
  | 2 => (timeAt d 10).map fun t => (t : Int)
  | 3 => some 0
  | _ => none

/-- Whether a function may take an entry of the general pool: DENIED at HOST_MAX, BUSY_RETRY where none is free. -/
def Blk.poolDeny (b : Blk) (f n : Nat) : Option Nat :=
  if b.poolFree < n then some stBusy else if b.hostHolds f + n > b.hostMax then some stDenied else none

/-- TIME_ADJUST. -/
def Blk.timeAdjust (b : Blk) (ref : DRef) (d : Bytes) : Blk :=
  match adjustValue d, time10At d 22 with
  | some v, some at_ =>
    let kind := byteAt d 8
    if !b.adjustOk kind then b.complete ref stDenied []
    else if allZero (sliceB d 22 10) then b.adjustRun stepFn ref kind v stOk
    else match b.poolDeny (b.funcOf ref) 1 with
    | some st => b.complete ref st []
    | none =>
      if at_ < b.ins.now + leadU then (b.lateCount 0 1).adjustRun stepFn ref kind v stLate
      else b.lstArm { cls := 0xA, obj := 0, t0 := at_, owner := b.funcOf ref, pay := .adjust ref kind v }
  | _, _ => b.complete ref stMalformed []

/-- TIME_ADJUST OFFSET, and any KIND outside R305. -/
def execTimeAdjustOffset (w r : Nat) (s : State) : Host.Outcome State Fault Refusal :=
  s.upd w fun _ b => b.withDesc r 0x21 (fun d => byteAt d 8 != 2 && byteAt d 8 != 3) fun ref d b => b.timeAdjust ref d

def execTimeAdjustSet (w r : Nat) (s : State) : Host.Outcome State Fault Refusal :=
  s.upd w fun _ b => b.withDesc r 0x21 (fun d => byteAt d 8 == 2) fun ref d b => b.timeAdjust ref d

def execSlewCancel (w r : Nat) (s : State) : Host.Outcome State Fault Refusal :=
  s.upd w fun _ b => b.withDesc r 0x21 (fun d => byteAt d 8 == 3) fun ref d b => b.timeAdjust ref d

/-! ### LASTER_ARM (03 R61 to R76, 11 R307) -/

/-- Whether the host may arm a class. -/
def hostClass (c : Nat) : Bool := c == 2 || c == 3 || c == 4 || c == 5 || c == 6 || c == 0xD

/-- The number of objects of a class, and whether object o is present. -/
def Blk.armObj (b : Blk) (c o : Nat) : Nat × Bool :=
  match c with
  | 2 => (32, b.portPresent o)
  | 3 => (18, b.unitPresent o)
  | 4 => (18, b.unitPresent o)
  | 5 => (16, b.eyeletPresent o)
  | 6 => (16, b.eyeletPresent o)
  | _ => (1, true)

/-- Where a target field of an arming block leads: a time, or a cycle number and a phase. -/
structure ArmTarget where
  t0 : Int
  cyc : Option CycTarget

def armTarget (d : Bytes) (off eye : Nat) (cycle : Bool) : Option ArmTarget :=
  if cycle then some ⟨0, some { eyelet := eye, n := leAt d off 4, phi := leAt d (off + 4) 2 }⟩
  else (timeAt d off).map fun t => ⟨t, none⟩

/-- The period and policy of an action are valid: at least 1 µs, and LATE_NEXT on a periodic entry only. -/
def armPolicy (period pol : Nat) (cycle : Bool) : Bool :=
  decide (pol ≤ 2) && !(pol == 2 && period == 0) && (period == 0 || cycle || decide (usU 1 ≤ period))

/-- The stop of a pair does not precede its start (03 R76). -/
def stopAfter (res : Nat) (x y : ArmTarget) : Bool :=
  match x.cyc, y.cyc with
  | some a, some c => decide (a.n * 65536 + a.phi ≤ c.n * 65536 + c.phi)
  | _, _ => decide (x.t0 ≤ y.t0) || roundTo res x.t0 == roundTo res y.t0

/-- The two actions of a pair name the same point of the same cycle. -/
def sameCycle (x y : ArmTarget) : Bool :=
  match x.cyc, y.cyc with
  | some a, some c => a.n == c.n && a.phi == c.phi
  | _, _ => false

/-- The entries of an arming block, the start first; none where it is malformed. -/
def armEntries (d : Bytes) (f : Nat) : Option (List LEntry) :=
  let cls := byteAt d 0
  let fl := byteAt d 3
  let cycle := bitOf fl 3
  let pair := bitOf fl 2
  let eye := byteAt d 14
  let period := leAt d 20 8
  let base : LEntry := { cls := cls, obj := byteAt d 1, t0 := 0, period := period, count := leAt d 4 4, rearm := bitOf fl 0
                         notify := bitOf fl 1, owner := f, resolved := !cycle }
  if fl ≥ 16 ∨ !allZero (sliceB d 41 23) ∨ !armPolicy period (byteAt d 2) cycle ∨ (cycle ∧ eye ≥ 16)
    ∨ (pair ∧ (cls ≠ 3 ∧ cls ≠ 5 ∨ !armPolicy period (byteAt d 40) cycle)) then none
  else match armTarget d 8 eye cycle with
  | none => none
  | some x =>
    let start := { base with policy := byteAt d 2, t0 := x.t0, cyc := x.cyc }
    if !pair then some [start] else
      match armTarget d 28 eye cycle with
      | none => none
      | some y =>
        if !stopAfter 625 x y then none else
          some [{ start with pair := some ⟨y.t0, byteAt d 40, sameCycle x y⟩ },
                { base with cls := cls + 1, policy := byteAt d 40, t0 := y.t0, cyc := y.cyc
                            pair := some ⟨x.t0, byteAt d 2, sameCycle x y⟩ }]

/-- What R68 answers for an entry at acceptance. -/
def Blk.armStatus (b : Blk) (e : LEntry) : Nat :=
  if e.cyc.isNone && decide (e.t0 < b.ins.now + leadU) then (match e.policy with | 0 => stLate | 1 => stDropped | _ => stOk)
  else stOk

/-- The worse of two outcomes (03 R75): DROPPED_POLICY, then LATE, then OK. -/
def worse (x y : Nat) : Nat := if x = stDropped ∨ y = stDropped then stDropped else if x = stLate ∨ y = stLate then stLate else stOk

/-- Arm entries in order; their indices. -/
def Blk.armAll (b : Blk) : List LEntry → Blk × List Nat
  | [] => (b, [])
  | e :: rest =>
    let i := b.lstNext
    let r := (b.lstArm e).armAll rest
    (r.1, i :: r.2)

/-- Handle by its late policy what is armed in the past. -/
def Blk.armLate (b : Blk) (l : List Nat) : Blk :=
  let lim : Int := b.ins.now + leadU
  l.foldl (fun b i => match b.lstAt? i with
    | some e => if e.resolved && decide (e.target < lim) then b.lateEntry stepFn i e lim else b
    | none => b) b

/-- The checks of a LASTER_ARM before its entries are armed. -/
def Blk.armCheck (b : Blk) (f : Nat) (d : Bytes) : Sum Nat (List LEntry) :=
  let cls := byteAt d 0
  let o := byteAt d 1
  if d.length ≠ 64 ∨ cls = 0 ∨ cls ≥ 0xE then .inl stMalformed
  else if !hostClass cls then .inl stDenied
  else match armEntries d f with
  | none => .inl stMalformed
  | some l =>
    if (b.armObj cls o).1 ≤ o then .inl stMalformed
    else if !(b.armObj cls o).2 || (bitOf (byteAt d 3) 3 && !b.eyeletPresent (byteAt d 14)) then .inl stAbsent
    else match b.poolDeny f l.length with
    | some st => .inl st
    | none => .inr l

/-- LASTER_ARM with its arming block. -/
def Blk.lasterArm (b : Blk) (ref : DRef) (d : Bytes) : Blk :=
  match b.armCheck (b.funcOf ref) d with
  | .inl st => b.complete ref st []
  | .inr l =>
    let st := (l.map b.armStatus).foldl worse stOk
    let r := b.armAll l
    let hs := r.2.flatMap fun i => leB 2 (r.1.lstHandle i)
    (r.1.armLate r.2).complete ref st hs

/-- LASTER_ARM; `block` is the 64-byte arming block read from host memory. -/
def execLasterArm (w r : Nat) (block : Bytes) (s : State) : Host.Outcome State Fault Refusal :=
  s.upd w fun _ b => b.withDesc r 0x24 (fun _ => true) fun ref _ b => b.lasterArm ref block

/-! ### LASTER_CANCEL (03 R69) -/

/-- The status of a cancel, and the state after it. -/
def Blk.lasterCancel (b : Blk) (ref : DRef) (h : Nat) : Blk :=
  let i := h % 4096
  if !thas b.laster.gens i || tget 0 b.laster.gens i ≠ h / 4096 then b.complete ref stMalformed []
  else match b.lstAt? i with
  | none => b.complete ref stLate []
  | some e =>
    if e.owner ≠ b.funcOf ref ∨ e.cls = 0xA then b.complete ref stDenied []
    else if !e.issued then (b.lstDel i).complete ref stOk []
    else if e.period = 0 then b.complete ref stLate []
    else Blk.complete { b with laster := { b.laster with ents := tput b.laster.ents i { e with count := e.k + 1, rearm := false } } } ref stOk []

def execLasterCancel (w r : Nat) (s : State) : Host.Outcome State Fault Refusal :=
  s.upd w fun _ b => b.withDesc r 0x25 (fun _ => true) fun ref d b => b.lasterCancel ref (leAt d 8 2)

/-! ### Spill, issue and the entries that run -/

/-- An entry's target has entered the hot horizon (03 R61). -/
def execLasterSpillFill (w i : Nat) (s : State) : Host.Outcome State Fault Refusal :=
  s.upd w fun _ b =>
    match b.lstAt? i with
    | some e =>
      if e.spilled && decide (e.target ≤ (b.ins.now + b.hotU : Nat)) then
        { b with laster := { b.laster with ents := tput b.laster.ents i { e with spilled := false } } }
      else b
    | none => b

/-- Entry i is issued to its unit at least 200 ns before its target, or is found late (03 R65, R67). -/
def Blk.lasterIssue (b : Blk) (i : Nat) : Blk :=
  match b.lstAt? i with
  | none => b
  | some e =>
    if e.issued || !e.resolved then b
    else if b.point e < b.ins.now + leadU then b.lateEntry stepFn i e (b.ins.now + leadU)
    else if e.spilled then b
    else { b with laster := { b.laster with ents := tput b.laster.ents i { e with issued := true } } }

def execLasterIssue (w i : Nat) (s : State) : Host.Outcome State Fault Refusal :=
  s.upd w fun _ b => (b.lasterIssue i).txRetry

/-- Entry i of a class runs at its target, once issued (03 R65). -/
def Blk.runIssued (b : Blk) (cls i : Nat) : Blk :=
  match b.lstAt? i with
  | none => b
  | some e =>
    if e.cls == cls && e.issued && decide (b.point e ≤ (b.ins.now : Int)) then b.runEntry stepFn i e (e.k + 1) false else b

/-- A LAUNCH entry runs at L. -/
def execLaunchEntry (w i : Nat) (s : State) : Host.Outcome State Fault Refusal :=
  s.upd w fun _ b => (b.runIssued 1 i).txRetry

/-- T_c of a port's pending list has come. -/
def Blk.gateDue (b : Blk) (p : Nat) : Bool :=
  match (b.portOf p).pend with
  | some (_, tc, _) => decide (roundTo 80000 tc ≤ (b.ins.now : Int))
  | none => false

/-- A GATE_LIST entry runs: the device's own of port i (`dev`), or the host's entry i (03 R471). -/
def execGateListEntry (w i : Nat) (dev : Bool) (s : State) : Host.Outcome State Fault Refusal :=
  s.upd w fun _ b => (if dev then (if b.gateDue i then (b.pmcEvent 0xA0 0 1).gateTake i else b) else b.runIssued 2 i).txRetry

def execOutputOn (w i : Nat) (s : State) : Host.Outcome State Fault Refusal := s.upd w fun _ b => b.runIssued 3 i
def execOutputOff (w i : Nat) (s : State) : Host.Outcome State Fault Refusal := s.upd w fun _ b => b.runIssued 4 i
def execCaptureOpen (w i : Nat) (s : State) : Host.Outcome State Fault Refusal := s.upd w fun _ b => b.runIssued 5 i
def execCaptureClose (w i : Nat) (s : State) : Host.Outcome State Fault Refusal := s.upd w fun _ b => b.runIssued 6 i
def execAdjustEntry (w i : Nat) (s : State) : Host.Outcome State Fault Refusal := s.upd w fun _ b => b.runIssued 0xA i
def execHostEvent (w i : Nat) (s : State) : Host.Outcome State Fault Refusal := s.upd w fun _ b => b.runIssued 0xD i

/-- Run one KEY_ROLL. -/
def Blk.keyItem (b : Blk) (x : LItem) : Blk :=
  match x with
  | .keyAct n => (b.pmcEvent 0xA0 0 1).keyActivate n
  | .keyExp n => (b.pmcEvent 0xA0 0 1).keyExpire n
  | _ => b

/-- A KEY_ROLL entry of slot n runs: its expiry, or its activation (09 R246), after those of an earlier instant and, at one
instant, those armed before it (03 R64). -/
def Blk.keyRoll (b : Blk) (n : Nat) (expiry : Bool) : Blk :=
  let due := ((b.keyRolls (b.ins.now + nsU 1)).filter fun x => decide (x.pt ≤ (b.ins.now : Int))).foldl (fun l x => insertKey x l) []
  let item := if expiry then LItem.keyExp n else LItem.keyAct n
  match due.findIdx? fun x => x.item == item with
  | some k => (due.take (k + 1)).foldl (fun b x => b.keyItem x.item) b
  | none => b

def execKeyRoll (w n : Nat) (expiry : Bool) (s : State) : Host.Outcome State Fault Refusal :=
  s.upd w fun _ b => b.keyRoll n expiry

/-! ### Cycle-based entries (03 R74) -/

/-- Whether an entry is based on the cycle input of Eyelet e and waits for its crossing. -/
def LEntry.waitsFor (x : LEntry) (e : Nat) : Bool := !x.resolved && (match x.cyc with | some c => c.eyelet == e | none => false)

/-- What a crossing at t makes of an entry that is based on its input. -/
def LEntry.cross (x : LEntry) (e : Nat) (t pEst : Int) (synth : Bool) : LEntry :=
  match x.cyc with
  | some c =>
    let target := t + c.phi * pEst / 65536
    if c.eyelet ≠ e then x
    else if x.resolved then { x with since := x.since ++ [(target, synth)] }
    else if c.n = 0 then { x with t0 := target, resolved := true, synth := synth }
    else { x with cyc := some { c with n := c.n - 1 } }
  | none => x

/-- A crossing of the cycle input on Eyelet e at t, real or synthetic; `lost`: MISS_MAX synthetic crossings have come in a
row, so every occurrence is late. -/
def Blk.cycCross (b : Blk) (e : Nat) (t pEst : Int) (synth lost : Bool) : Blk :=
  let idx := (b.laster.ents.filter fun x => x.2.waitsFor e).map (·.1)
  let ents := b.laster.ents.map fun x => (x.1, x.2.cross e t pEst synth)
  let b := { b with laster := { b.laster with ents := ents } }
  idx.foldl (fun b i => match b.lstAt? i with
    | some x =>
      if x.resolved && (lost || decide (x.t0 < (b.ins.now : Int) + leadU)) then b.lateEntry stepFn i x (b.ins.now + leadU) else b
    | none => b) b

end Sys2Proof.Machine
end

