-- ==== Sys2Proof/Machine/Outputs.lean ====
section
/-! DEFINITION. Output units (05 R121 to R128): settings, start, edges, squelch, realigns, and the cycle units. -/

namespace Sys2Proof.Machine

/-! ### Settings (05 R121) -/

/-- The function of an Eyelet (06 R133). -/
def Blk.eyeFn (b : Blk) (e : Nat) : Nat := b.rd (R.PIN_EFN_FN e)

/-- The period of a frequency in mHz, in 2^-16 ns. -/
def periodOfMHz (m : Nat) : Int := (1000 * secU 1 : Nat) / (atLeast1 m : Nat)

/-- P_est of the cycle input on Eyelet e: the mean of the last AVG measured periods (03 R74, 06 R149). -/
def Blk.pEst (b : Blk) (e : Nat) : Int :=
  let l := (b.eyeOf e).periods.take (atLeast1 (b.rd (R.LST_CYC_AVG e)))
  if l.isEmpty then periodOfMHz (b.rd (R.PIN_ECYC_NOM_MHZ e)) else l.sum / l.length

/-- WIDTH times UNIT. -/
def Blk.unitWidth (b : Blk) (u : Nat) : Nat :=
  let n := b.rd (R.HLD_OWIDTH_WIDTH u)
  match b.rd (R.HLD_OWIDTH_UNIT u) with | 0 => nsU n | 1 => usU n | _ => msU n

/-- OFFSET of the grid. -/
def Blk.unitOffset (b : Blk) (u : Nat) : Int := psU (b.rdS (R.HLD_OOFFS_OFFSET u))

/-- A width between 20 ns and a limit. -/
def widthOk (w lim : Nat) : Bool := decide (nsU 20 ≤ w ∧ w ≤ lim)

/-- The settings of a unit lie within the limits of R121. -/
def Blk.unitOk (b : Blk) (u : Nat) : Bool :=
  let wd := b.unitWidth u
  (decide (16 ≤ u) || b.eyeFn u == 4) &&
  match b.rd (R.HLD_OCFG_KIND u) with
  | 1 => widthOk wd (secU (atLeast1 (b.rd (R.HLD_OCFG_PERIOD_S u))) - nsU 20)
  | 2 =>
    let p := b.rd (R.HLD_OPER_PERIOD_NS u)
    decide (1000 ≤ p ∧ p ≤ 1000000000) && 1000000000 % p == 0 && widthOk wd (nsU p - nsU 20)
  | 3 =>
    let f := b.rd (R.HLD_OFREQ_FREQ u) * 65536 + b.rd (R.HLD_OFRAC_FRAC u)
    decide (65536 ≤ f ∧ f ≤ (if u < 16 then 125000000 else 800000000) * 65536)
  | 4 => widthOk wd (b.pEst (b.rd (R.HLD_OCFG_CYC_EY u))).toNat && decide (2 * wd ≤ (b.pEst (b.rd (R.HLD_OCFG_CYC_EY u))).toNat)
  | _ => true

/-- The first grid point at or after a time. -/
def Blk.gridNext (b : Blk) (u : Nat) (t : Int) : Int :=
  match b.unitPeriod u with
  | some (p, _) => let o := b.unitOffset u; -(-(t - o) / (p : Int)) * p + o
  | none => t

/-- The next whole Insole second. -/
def Blk.nextSec (b : Blk) : Nat := (secOf b.ins.now + 1) * secU 1

/-- A unit starts on its grid at the next whole second, or stays off (05 R121, R128); until S8 every unit is off. Its gate
is open (03 R75). A realign under way ends with the unit's run. -/
def Blk.unitStart (b : Blk) (u : Nat) : Blk :=
  if !b.unitPresent u || !b.ins.running then b
  else if b.rd (R.HLD_OCFG_KIND u) = 0 then b.setOut u {}
  else if !b.unitOk u then b.setOut u { cfgErr := true }
  else
    let t : Int := b.nextSec
    b.setOut u { running := true, next := b.gridNext u t, start := t + b.unitOffset u, gate := true }

def Blk.unitsStart (b : Blk) : Blk := (List.range 18).foldl Blk.unitStart b

/-! ### Squelch (05 R125) -/

/-- A condition that holds the output inactive. -/
def Blk.squelchNow (b : Blk) (u : Nat) : Bool :=
  (b.flag (R.HLD_OCFG_SQ_UNSYNC u) && (b.mode == .commission || b.mode == .acquire))
  || (b.flag (R.HLD_OCFG_SQ_EXP u) && b.holdExpired) || !(b.outOf u).gate

/-- HLD_OST.SQUELCHED. -/
def Blk.isSquelched (b : Blk) (u : Nat) : Bool := (b.outOf u).running && ((b.outOf u).squelched || b.squelchNow u)

/-! ### Realigns (05 R126, R127) -/

/-- A SLEW up to now: M moves towards zero at the rate, ended exactly. -/
def slewOut (up : Nat) (o : OutUnit) (r : Realign) : OutUnit :=
  let most := (up - r.from_) * r.rate / 1000000000
  let d := min most o.mis.natAbs
  let used := if r.rate = 0 then 0 else d * 1000000000 / r.rate
  let x : Int := if o.mis ≥ 0 then -(d : Int) else d
  { o with mis := o.mis + x, next := o.next + x, trail := o.trail, start := o.start + x, realign := some { r with from_ := r.from_ + used } }

/-- A unit with its SLEW brought up to date. -/
def Blk.outNow (b : Blk) (u : Nat) : OutUnit :=
  let o := b.outOf u
  match o.realign with
  | some r => if r.method = 2 ∧ r.started then slewOut b.up o r else o
  | none => o

/-- The instant of the last leading edge of a PULSE or FRAME unit. -/
def Blk.lastEdge (b : Blk) (u : Nat) (o : OutUnit) : Int :=
  match b.unitPeriod u with
  | some (p, _) => o.next - p
  | none => b.ins.now

/-- STEP at its start edge: the next interval of a PULSE or FRAME unit is lengthened or shortened; a CLOCK unit stretches
one low phase. -/
def Blk.stepAlign (b : Blk) (u : Nat) (o : OutUnit) : OutUnit :=
  match b.unitPeriod u with
  | some (p, q) =>
    if b.rd (R.HLD_OCFG_KIND u) = 3 then
      let s : Int := if o.mis ≤ 0 then -o.mis else (p : Int) / q - o.mis
      { o with start := o.start + s, mis := 0 }
    else
      let skip : Int := if 0 < o.mis ∧ (p : Int) - o.mis < 2 * (b.unitWidth u : Int) then p else 0
      { o with next := o.next - o.mis + skip, mis := 0 }
  | none => o

/-- Whether a realign that waits may start: a leading edge at or after its apply time has come. CLOCK edges come without
pause. -/
def Blk.alignDue (b : Blk) (u : Nat) (r : Realign) : Bool :=
  let k := b.rd (R.HLD_OCFG_KIND u)
  !r.started && decide ((r.apply : Int) ≤ (if k = 1 ∨ k = 2 then b.lastEdge u (b.outOf u) else b.ins.now))

/-- End a unit's realign; the OUTPUT_REALIGNs all of whose units have finished complete. -/
def Blk.alignEnd (b : Blk) (u : Nat) (o : OutUnit) : Blk :=
  let b := b.setOut u { o with realign := none, firstAlign := false }
  let open_ := fun (j : RealignJob) => (List.range 18).any fun v =>
    bitOf j.mask v && (match (b.outOf v).realign with | some r => r.ref == some j.ref | none => false)
  let done := b.outs.jobs.filter fun j => !open_ j
  let b := { b with outs := { b.outs with jobs := b.outs.jobs.filter open_ } }
  done.foldl (fun b j => b.complete j.ref stOk []) b

/-- The realign of a unit starts; with M = 0 it ends at once, and so does one of a CYCLE unit. -/
def Blk.alignStart (b : Blk) (u : Nat) : Blk :=
  let o := b.outOf u
  match o.realign with
  | none => b
  | some r =>
    if !b.alignDue u r then b
    else if o.mis = 0 ∨ b.rd (R.HLD_OCFG_KIND u) = 4 then b.alignEnd u o
    else if r.method = 2 then b.setOut u { o with realign := some { r with started := true, from_ := b.up } }
    else
      let o := b.stepAlign u o
      b.setOut u { o with realign := some { r with started := true, from_ := if b.rd (R.HLD_OCFG_KIND u) = 3 then 1 else 0 } }

/-- A realign ends: a SLEW at M = 0, a STEP at the edge on the grid. -/
def Blk.alignDone (b : Blk) (u : Nat) : Blk :=
  let o := b.outNow u
  match o.realign with
  | none => b
  | some r =>
    if r.started && (if r.method = 2 then o.mis == 0 else r.from_ == 1) then b.alignEnd u o else b.setOut u o

/-- CANCEL: a SLEW in progress stops. -/
def Blk.alignCancel (b : Blk) (u : Nat) : Blk :=
  let o := b.outNow u
  match o.realign with
  | some r => if r.method = 2 then b.alignEnd u o else b
  | none => b

/-- Units of a mask. -/
def maskUnits (m : Nat) : List Nat := (List.range 18).filter (bitOf m ·)

/-- OUTPUT_REALIGN. -/
def Blk.outputRealign (b : Blk) (ref : DRef) (d : Bytes) : Blk :=
  let mask := leAt d 8 4
  let method := byteAt d 12
  let rate := leAt d 14 4
  let us := maskUnits mask
  match time10At d 18 with
  | none => b.complete ref stMalformed []
  | some at_ =>
    if mask = 0 ∨ mask ≥ 2 ^ 18 ∨ method = 0 ∨ method > 3 ∨ rate > 500000 then b.complete ref stMalformed []
    else if us.any fun u => !b.unitPresent u then b.complete ref stAbsent []
    else if us.any fun u => !(b.outOf u).running then b.complete ref stDenied []
    else if method = 3 then
      let c := us.foldl Blk.alignCancel b
      c.complete ref stOk []
    else if us.any fun u => (b.outOf u).realign.isSome then b.complete ref stBusy []
    else
      let r : Realign := { method := method, rate := if rate = 0 then b.rd R.TBS_SLEW_RATE else rate
                           apply := max at_ b.ins.now, ref := some ref }
      let c := us.foldl (fun b u => b.setOut u { b.outOf u with realign := some r }) b
      { c with outs := { c.outs with jobs := c.outs.jobs ++ [{ ref := ref, mask := mask }] } }

def execOutputRealign (w r : Nat) (s : State) : Host.Outcome State Fault Refusal :=
  s.upd w fun _ b => b.withDesc r 0x23 (fun _ => true) fun ref d b => b.outputRealign ref d

def execRealignStart (w u : Nat) (s : State) : Host.Outcome State Fault Refusal :=
  s.upd w fun _ b => if (b.outOf u).firstAlign then b else b.alignStart u

def execRealignDone (w u : Nat) (s : State) : Host.Outcome State Fault Refusal := s.upd w fun _ b => b.alignDone u

/-- The unit realigns by STEP at its first edge after TIME_VALID has become 1 (05 R124). -/
def execFirstAlign (w u : Nat) (s : State) : Host.Outcome State Fault Refusal :=
  s.upd w fun _ b => if (b.outOf u).firstAlign then b.alignStart u else b

/-! ### Edges -/

/-- Put an edge out; with the bank level wrong every Eyelet is high-impedance (06 R132). -/
def Blk.edgeOut (b : Blk) (u : Nat) (leading : Bool) (t : Int) : Blk :=
  if u < 16 && b.eyes.mismatch then b else b.put (.edge u (leading != b.flag (R.HLD_OCFG_POL u)) (roundTo 625 t))

/-- The trailing edge of a pulse that was begun: no partial pulse is emitted. -/
def Blk.trailOut (b : Blk) (u : Nat) (t : Int) : Blk := (b.edgeOut u false t).setOut u { b.outOf u with trail := none }

/-- The leading edge of the pending target: squelched or emitted; the next grid point is armed. -/
def Blk.leadOut (b : Blk) (u : Nat) : Blk :=
  let o := b.outNow u
  let t := o.next
  let sq := b.squelchNow u
  let b := b.pmcEvent 0xA0 0 1
  let b := if sq then b else b.edgeOut u true t
  let nx := match b.unitPeriod u with | some (p, _) => t + p | none => o.more.headD t
  let re := o.realign.map fun r => if r.started && r.method == 1 then { r with from_ := 1 } else r
  b.setOut u { o with squelched := sq, next := nx, due := !o.more.isEmpty, more := o.more.tail, realign := re
                      trail := if sq then o.trail else some (t + b.unitWidth u) }

/-- Whether a unit has a pending target: PULSE and FRAME units always, a CYCLE unit once its crossing has come. -/
def Blk.edgePending (b : Blk) (u : Nat) : Bool :=
  let k := b.rd (R.HLD_OCFG_KIND u)
  (b.outOf u).running && (k == 1 || k == 2 || (k == 4 && (b.outOf u).due))

/-- The EDGE entry of a unit runs: the trailing edge of its pulse, or the next leading edge. -/
def Blk.outEdge (b : Blk) (u : Nat) : Blk :=
  let o := b.outOf u
  match o.trail with
  | some t =>
    if roundTo 625 t ≤ (b.ins.now : Int) then b.trailOut u t
    else b
  | none => if b.edgePending u && decide (roundTo 625 (b.outNow u).next ≤ (b.ins.now : Int)) then b.leadOut u else b

def execOutEdge (w u : Nat) (s : State) : Host.Outcome State Fault Refusal := s.upd w fun _ b => b.outEdge u

/-! ### Cycle units -/

/-- A crossing of the cycle input on Eyelet e resolves the target of its CYCLE units; one that is late is counted and not
emitted (03 R67, R74). -/
def Blk.cycUnits (b : Blk) (e : Nat) (t pEst : Int) (lost : Bool) : Blk :=
  (List.range 18).foldl (fun b u =>
    let o := b.outOf u
    if o.running && b.rd (R.HLD_OCFG_KIND u) == 4 && b.rd (R.HLD_OCFG_CYC_EY u) == e then
      let x := t + (b.rd (R.HLD_OPER_PERIOD_NS u) % 65536 : Nat) * pEst / 65536 + b.unitOffset u
      if lost || decide (x < (b.ins.now : Int) + leadU) then b.lateCount 2 1
      else if o.due then b.setOut u { o with more := o.more ++ [x] }
      else b.setOut u { o with next := x, due := true }
    else b) b

end Sys2Proof.Machine
end

