-- ==== Sys2Proof/Machine/Holdover.lean ====
section
/-! DEFINITION. The Heel and holdover (05 R110 to R120): temperature, learning by least squares, the entry frequency, the
budget and its expiry. -/

namespace Sys2Proof.Machine

/-! ### Temperature (05 R111, R112) -/

/-- HLD_TREF in 1/256 °C. -/
def Blk.tRef (b : Blk) : Int := b.rdS R.HLD_TREF_TREF

/-- T and Ṫ as the Heel uses them and HLD_TEMP shows them. -/
def Blk.heelSeen (b : Blk) : Bool := b.heel.seen && b.heel.src == b.rd R.HLD_TEMP_CFG_SRC
def Blk.heelT (b : Blk) : Int := if b.heelSeen then b.heel.t else b.tRef
def Blk.heelTdot (b : Blk) : Int := if b.heelSeen then b.heel.tdot else 0

/-- HLD_TEMP_CFG.RATE_WIN in 2^-16 ns. -/
def Blk.rateWin (b : Blk) : Nat := secU (10 * atLeast1 (b.rd R.HLD_TEMP_CFG_RATE_WIN))

/-- The slope over the span of a list of good readings, newest first, in 1/256 K/h. -/
def slopeOf (l : List (Nat × Int)) : Int :=
  match l, l.getLast? with
  | x :: _, some y => if x.1 = y.1 then 0 else (x.2 - y.2) * (secU 3600 : Nat) / ((x.1 : Int) - y.1)
  | _, _ => 0

/-- A reading within −55 °C to +125 °C. -/
def tempGood (t : Int) : Bool := decide (-55 * 256 ≤ t ∧ t ≤ 125 * 256)

/-- A change of SRC since the last sample. -/
def Blk.srcSync (b : Blk) : Blk :=
  let src := b.rd R.HLD_TEMP_CFG_SRC
  if b.heel.src = src then b
  else { b with heel := { b.heel with src := src, seen := false, bad := 0, good := 0, readings := [], t := 0, tdot := 0
                                      tempLost := b.heel.tempLost && src != 0 } }

/-! ### The model (05 R110, R130) -/

/-- The model terms: y_M in 10^-15 at an age in seconds, ΔT in 1/256 K and Ṫ in 1/256 K/h. Temperature terms are not used
with SRC = 0. -/
def Blk.modelTerms (b : Blk) (ageS dT tdot : Int) : List Rat :=
  let tau : Rat := ageS / 86400
  let u : Rat := if b.rd R.HLD_TEMP_CFG_SRC = 0 then 0 else 1
  [100 * (b.rdS R.HLD_F0_F0 : Rat), b.rdS R.HLD_A_A * tau, b.rdS R.HLD_B_B * tau * tau / 100,
   u * b.rdS R.HLD_C1_C1 * dT / 256, u * b.rdS R.HLD_C2_C2 * dT * dT / 65536, u * b.rdS R.HLD_C3_C3 * tdot / 256]

/-- The model age at an Insole second: SEC[31:0] − HLD_EPOCH modulo 2^32 (05 R114). -/
def Blk.modelAge (b : Blk) (sec : Nat) : Int := ((sec + 0x100000000 - b.rd R.HLD_EPOCH_SEC) % 0x100000000 : Nat)

/-- y_M at an Insole second with T and Ṫ, in 10^-15. -/
def Blk.yModel (b : Blk) (sec : Nat) (t tdot : Int) : Int :=
  ((b.modelTerms (b.modelAge sec) (t - b.tRef) tdot).sum).floor

/-! ### Holdover (05 R115 to R119) -/

/-- The averaging window for y_e in elapsed time, if the history is long enough. -/
def Blk.avgWindow (b : Blk) : Option (Nat × Nat) :=
  let g := b.rd R.HLD_CTRL_GUARD_S
  let a := atLeast1 (b.rd R.HLD_CTRL_AVG_S)
  match b.refs.fHist.getLast? with
  | some x =>
    if x.1 + secU (g + 16) ≤ b.up then some (max x.1 (b.up - secU (g + a)), b.up - secU g) else none
  | none => none

/-- The mean of a list of integers. -/
def meanI (l : List Int) : Int := if l.isEmpty then 0 else l.sum / l.length

/-- y_e in 0.001 ppb and t_m in elapsed time (05 R115). -/
def Blk.entryFreq (b : Blk) : Int × Nat :=
  match b.refs.sw with
  | some s => (s.freq, b.up)
  | none => match b.avgWindow with
    | some (x, y) =>
      let l := (b.refs.fHist.filter fun e => decide (x ≤ e.1 ∧ e.1 ≤ y)).map (·.2)
      (if l.isEmpty then b.refs.freq else meanI l, (x + y) / 2)
    | none => (b.refs.freq, b.up)

/-- T and Ṫ at an elapsed time, from the readings held. -/
def Blk.tempAt (b : Blk) (u : Nat) : Int × Int :=
  match b.heel.readings.filter fun e => decide (e.1 ≤ u) with
  | x :: rest => (x.2, slopeOf (x :: rest))
  | [] => (b.heelT, b.heelTdot)

/-- Seconds accrued under temperature loss up to an elapsed time, in 2^-16 ns. -/
def Hold.loss (h : Hold) (up : Nat) : Nat := h.lossAcc + (match h.lossFrom with | some x => up - x | none => 0)

/-- E in ns times 10^15, u elapsed units after t_h, with a loss term over `loss` units (05 R118). -/
def Blk.bound (b : Blk) (h : Hold) (u loss : Nat) : Nat :=
  let S := secU 1
  h.e0 + h.uf * u * 1000000000 / S + h.ua * u * u * 1000000000 / (2 * 86400 * S * S)
  + h.ub * u * u * u * 10000000 / (3 * 86400 * 86400 * S * S * S)
  + h.et * min u (secU (60 * b.rd R.HLD_BUD_TCAP)) * 1000000000 / S
  + b.rd R.HLD_TLOSS_VALUE * loss * 1000000000 / S

/-- E now. -/
def Blk.holdE (b : Blk) : Nat := b.bound b.hold (b.up - b.hold.thUp) (b.hold.loss b.up)

/-- LIMIT_NS in the scale of E. -/
def Blk.holdLimit (b : Blk) : Nat := b.rd R.HLD_LIMIT_VALUE * 1000000000000000

/-- E at s seconds after t_h, with the loss that is in force going on. -/
def Blk.boundAt (b : Blk) (h : Hold) (s : Nat) : Nat :=
  let at_ := h.thUp + secU s
  b.bound h (secU s) (h.lossAcc + (match h.lossFrom with | some x => at_ - x | none => 0))

/-- Bisection: the largest s in [lo, hi) with E(s) within the limit, E(lo) being so. -/
def Blk.solveE (b : Blk) (h : Hold) : Nat → Nat → Nat → Nat
  | 0, lo, _ => lo
  | n + 1, lo, hi =>
    if hi ≤ lo + 1 then lo else
      let m := (lo + hi) / 2
      if b.boundAt h m ≤ b.holdLimit then b.solveE h n m hi else b.solveE h n lo m

/-- HLD_PRED: the solution of E(s) = LIMIT_NS in whole seconds (05 R119). -/
def Blk.holdPred (b : Blk) (h : Hold) : Nat :=
  if b.boundAt h 0 > b.holdLimit then 0
  else if b.boundAt h 0xFFFFFFFE < b.holdLimit then 0xFFFFFFFF
  else b.solveE h 33 0 0xFFFFFFFF

/-- Steering passes to the Heel (05 R115, R116, R118). -/
def Blk.heelTake (b : Blk) : Blk :=
  if b.heel.steering then b else
    let y := b.entryFreq
    let tm := b.ins.now - (b.up - y.2)
    let mt := b.tempAt y.2
    let v := b.heel.modelValid
    let h : Hold :=
      { active := true, th := b.ins.now, thUp := b.up, tm := tm, ye := y.1
        ym := if v then b.yModel (secOf tm) mt.1 mt.2 else 0, ymValid := v
        e0 := b.rd R.HLD_BUD_E0_NS * 1000000000000000 + b.ins.slewRem.natAbs * 1000000 / 65536
        uf := b.rd R.HLD_UF_UF, ua := if v then b.rd R.HLD_UA_UA else 1000000, ub := if v then b.rd R.HLD_UB_UB else 0
        et := if v then b.rd R.HLD_ET_ET else 1000000
        lossFrom := if b.heel.tempLost then some b.up else none }
    let h := { h with budget := satNat (b.bound h 0 0 / 1000000000000000) 32, pred := b.holdPred h }
    { b with heel := { b.heel with steering := true }, hold := h }

/-- The Heel stops steering (05 R120); HLD_BUDGET keeps its value. -/
def Blk.heelStop (b : Blk) : Blk :=
  if !b.heel.steering then b
  else { b with heel := { b.heel with steering := false }, hold := { b.hold with active := false } }

/-- The frequency that the Heel steers, in 0.001 ppb (05 R116). -/
def Blk.heelFreq (b : Blk) : Int :=
  if b.hold.ymValid then b.hold.ye + (b.yModel (secOf b.ins.now) b.heelT b.heelTdot - b.hold.ym) / 1000 else b.hold.ye

/-- The next HOLD_CHECK target after one that has come. -/
def nextCheck (h now : Nat) : Nat := h + ((now - h) / secU 1 + 1) * secU 1

/-- E is evaluated and shown; beyond LIMIT_NS in HOLDOVER the budget has expired (05 R119, 02 R26). -/
def Blk.holdEval (b : Blk) : Blk :=
  if !b.heel.steering then b else
    let e := b.holdE
    let b := { b with hold := { b.hold with budget := satNat (e / 1000000000000000) 32, elapsed := satNat ((b.up - b.hold.thUp) / secU 1) 32 }
                      refs := { b.refs with freq := b.heelFreq } }
    if b.mode == .holdover && !b.holdExpired && decide (b.holdLimit < e) then { b with holdExpired := true }.recHold 2 else b

def execHoldCheck (w : Nat) (s : State) : Host.Outcome State Fault Refusal :=
  s.upd w fun _ b =>
    match b.laster.holdCheck with
    | some h =>
      if h ≤ b.ins.now then
        Blk.holdEval (Blk.pmcEvent { b with laster := { b.laster with holdCheck := some (nextCheck h b.ins.now) } } 0xA0 0 1)
      else b
    | none => b

/-! ### Temperature samples -/

/-- A good reading: T and Ṫ; three in a row end a loss. -/
def Blk.tempGoodAt (b : Blk) (t : Int) : Blk :=
  let h := b.heel
  let l := ((b.up, t) :: h.readings).filter fun e => decide (b.up ≤ e.1 + b.rateWin)
  let back := h.tempLost && decide (2 ≤ h.good)
  let b := { b with heel := { h with seen := true, bad := 0, good := h.good + 1, tempLost := h.tempLost && !back
                                     t := if h.tempLost && !back then h.t else t, readings := l
                                     tdot := if h.tempLost && !back then h.tdot else slopeOf l } }
  if back then
    { b with hold := { b.hold with lossAcc := b.hold.loss b.up, lossFrom := none } }.recHold 4
  else b

/-- A bad reading: the third in a row is a loss (05 R112). -/
def Blk.tempBadAt (b : Blk) : Blk :=
  let h := b.heel
  let b := { b with heel := { h with bad := h.bad + 1, good := 0 } }
  if h.tempLost || decide (h.bad < 2) then b
  else
    let b := { b with heel := { b.heel with tempLost := true }
                      hold := { b.hold with lossFrom := if b.hold.active then some b.up else none } }
    let b := { b with hold := { b.hold with pred := if b.hold.active then b.holdPred b.hold else b.hold.pred } }
    ((b.setF R.HLD_STATUS_TEMP_EVENT).recHold 3).raiseEnv errTempLost 0

/-- A sample of the oscillator temperature: `ok` false for a NACK or a bus timeout; `t` in 1/256 °C as the conversion of
R111 gives it (log entry 33). With SRC = 0 there is none. -/
def execTempSample (w : Nat) (ok : Bool) (t : Int) (s : State) : Host.Outcome State Fault Refusal :=
  s.upd w fun _ b =>
    let b := b.srcSync
    if !b.ins.running || b.rd R.HLD_TEMP_CFG_SRC = 0 then b
    else if ok && tempGood t then b.tempGoodAt t else b.tempBadAt

/-! ### Learning (05 R113, R114) -/

/-- Replace element i of a list of rationals. -/
def axpy (k : Rat) (x y : List Rat) : List Rat := List.zipWith (fun a c => a - k * c) x y

/-- Gauss-Jordan elimination of an augmented matrix from column c on; none where it is singular. -/
def gauss : Nat → Nat → List (List Rat) → Option (List (List Rat))
  | 0, _, m => some m
  | n + 1, c, m =>
    match ((List.range m.length).drop c).find? fun i => (m.getD i []).getD c 0 != 0 with
    | none => none
    | some i =>
      let ri := m.getD i []
      let rc := m.getD c []
      let piv := ri.map (· / ri.getD c 0)
      let sw := setAt (setAt m i rc) c piv
      gauss n (c + 1) (sw.zipIdx.map fun x => if x.2 = c then piv else axpy (x.1.getD c 0) x.1 piv)

/-- The normal equations of rows of regressors with the inverse of the normal matrix: solution and its diagonal. -/
def leastSquares (k : Nat) (rows : List (List Rat × Rat)) : Option (List Rat × List Rat) :=
  let e := fun i j => (rows.map fun r => r.1.getD i 0 * r.1.getD j 0).sum
  let v := fun i => (rows.map fun r => r.1.getD i 0 * r.2).sum
  let m := (List.range k).map fun i => (List.range k).map (e i ·) ++ [v i] ++ (List.range k).map fun j => if i = j then 1 else 0
  (gauss k 0 m).map fun m => (m.map (·.getD k 0), (List.range k).map fun i => (m.getD i []).getD (k + 1 + i) 0)

/-- The integer square root, by bisection over n steps. -/
def sqrtStep (x : Nat) : Nat → Nat → Nat → Nat
  | 0, lo, _ => lo
  | n + 1, lo, hi => if hi ≤ lo + 1 then lo else if (lo + hi) / 2 * ((lo + hi) / 2) ≤ x then sqrtStep x n ((lo + hi) / 2) hi else sqrtStep x n lo ((lo + hi) / 2)
def natSqrt (x : Nat) : Nat := sqrtStep x (x.log2 + 2) 0 (x + 1)

/-- The integer square root of a rational, rounded down. -/
def sqrtQ (x : Rat) : Nat := if x ≤ 0 then 0 else natSqrt (x.floor.toNat)

/-- The regressors of a sample: 1, τ, τ², ΔT, ΔT², Ṫ in the units of the terms, for values in 10^-15. -/
def Blk.regressors (b : Blk) (x : HeelSample) : List Rat :=
  let tau : Rat := b.modelAge x.sec.toNat / 86400
  let dT : Rat := ((x.t - b.tRef : Int) : Rat) / 256
  [1, tau, tau * tau, dT, dT * dT, (x.tdot : Rat) / 256]

/-- The terms that enter the fit (05 R113), in the order of LEARN. -/
def Blk.fitTerms (b : Blk) (l : List HeelSample) : List Nat :=
  let secs := l.map (·.sec)
  let ts := l.map (·.t)
  let span := (secs.foldl max (secs.headD 0)) - (secs.foldl min (secs.headD 0))
  let tspan := (ts.foldl max (ts.headD 0)) - (ts.foldl min (ts.headD 0))
  let dt : Int := (b.rd R.HLD_LEARN_DT_MIN : Nat) * 16
  let temp := b.heel.seen && !b.heel.tempLost && b.rd R.HLD_TEMP_CFG_SRC != 0
  let fast := (l.filter fun x => decide (128 < x.tdot.natAbs)).length
  let cond := fun i => match i with
    | 0 => true
    | 1 => decide (2 * 86400 ≤ span)
    | 2 => decide (14 * 86400 ≤ span)
    | 3 => temp && decide (dt ≤ tspan)
    | 4 => temp && decide (4 * dt ≤ tspan)
    | _ => temp && decide (l.length ≤ 10 * fast)
  (List.range 6).filter fun i => bitOf (b.rd R.HLD_CTRL_LEARN) i && cond i

/-- Values of terms in the fit, in 10^-15 and its multiples, as their registers hold them: f0 in 10^-13, b in 10^-17. -/
def termReg (i : Nat) (x : Rat) : Int :=
  match i with | 0 => (x / 100).floor | 2 => (x * 100).floor | _ => x.floor

def satS32 (x : Int) : Nat := ofSigned (clampSigned x 32) 32

/-- Write the model registers of a fit. -/
def Blk.putFit (b : Blk) (terms : List Nat) (sol diag : List Rat) (ssr : Rat) (n : Nat) : Blk :=
  let b := (terms.zip sol).foldl (fun b x => b.wrW (R.HLD_F0 + 4 * x.1) (satS32 (termReg x.1 x.2))) b
  let p := terms.length
  let b := if n ≤ p then b else
    (terms.zip diag).foldl (fun b x =>
      if x.1 < 3 then
        let var := ssr / ((n : Rat) - p) * x.2 * (if x.1 = 2 then 10000 else 1)
        b.wrW (R.HLD_UF + 4 * x.1) (satNat (sqrtQ (4 * var)) 32)
      else b) b
  b.wrW R.HLD_ET (satNat (sqrtQ (4 * ssr / (atLeast1 n : Rat))) 32)

/-- The fit over the samples of the window: terms outside the fit keep their register values. A singular system changes
nothing. -/
def Blk.heelFit (b : Blk) : Blk :=
  let l := b.heel.samples
  let terms := b.fitTerms l
  let fixed := fun (x : HeelSample) =>
    let m := b.modelTerms (b.modelAge x.sec.toNat) (x.t - b.tRef) x.tdot
    (((List.range 6).filter fun i => !terms.contains i).map fun i => m.getD i 0).sum
  let rows := l.map fun x => let r := b.regressors x; (terms.map fun i => r.getD i 0, (x.y : Rat) - fixed x)
  match leastSquares terms.length rows with
  | none => b
  | some (sol, diag) =>
    let ssr := (rows.map fun r => let d := r.2 - (List.zipWith (· * ·) r.1 sol).sum; d * d).sum
    let c := b.putFit terms sol diag ssr l.length
    { c with heel := { c.heel with learned := (terms.map (2 ^ ·)).sum } }

/-- Whether the Heel learns: the DPLL steers on a contributing reference in LOCKED or FOLLOWER. -/
def Blk.learns (b : Blk) : Bool :=
  (b.mode == .locked || b.mode == .follower) && !b.heel.steering && !b.switching

/-- Take a learning sample and fit. -/
def Blk.heelLearn (b : Blk) : Blk :=
  if !b.learns then b else
    let iv := atLeast1 (b.rd R.HLD_LEARN_INT_S)
    let ys := (b.refs.fHist.filter fun e => decide (b.up ≤ e.1 + secU iv)).map (·.2)
    let ts := (b.heel.readings.filter fun e => decide (b.up ≤ e.1 + secU iv)).map (·.2)
    let sec : Int := secOf b.ins.now
    let x : HeelSample := { sec := sec, y := 1000 * (if ys.isEmpty then b.refs.freq else meanI ys)
                            t := if ts.isEmpty || b.heel.tempLost then b.heelT else meanI ts, tdot := b.heelTdot }
    let win : Int := (86400 * atLeast1 (b.rd R.HLD_LEARN_WIN_D) : Nat)
    let b := if b.heel.epochTaken || b.rd R.HLD_EPOCH_SEC != 0 then b else b.wrW R.HLD_EPOCH (secOf b.ins.now % 0x100000000)
    let n := b.heel.count + 1
    let b := { b with heel := { b.heel with
      epochTaken := true, count := n, samples := (x :: b.heel.samples).filter fun y => decide (sec ≤ y.sec + win)
      modelValid := b.heel.modelValid || decide (3600 * b.rd R.HLD_LEARN_MIN_H ≤ n * iv) } }
    b.heelFit

def execHeelLearnSample (w : Nat) (s : State) : Host.Outcome State Fault Refusal := s.upd w fun _ b => b.heelLearn

end Sys2Proof.Machine
end

