-- ==== Sys2Proof/Machine/RefOps.lean ====
section
/-! DEFINITION. Reference slots and the DPLL (04): sources, monitors, qualification, selection and switches, the ensemble,
bandwidth steps, lock, and the passing of steering between the DPLL and the Heel. -/

namespace Sys2Proof.Machine

/-! ### Sources (04 R79, R80) -/

def Blk.slotKind (b : Blk) (k : Nat) : Nat := b.rd (R.REF_SRC_KIND k)
def Blk.slotObj (b : Blk) (k : Nat) : Nat := b.rd (R.REF_SRC_OBJ k)

/-- The Eyelet that a slot's source uses. -/
def Blk.slotEye (b : Blk) (k : Nat) : Option Nat :=
  match b.slotKind k with
  | 1 => some (b.slotObj k) | 2 => some (b.slotObj k) | 3 => some (b.rd (R.REF_SRC_PPS_EY k)) | _ => none

/-- Whether a slot's source is fitted. -/
def Blk.slotFitted (b : Blk) (k : Nat) : Bool :=
  match b.slotKind k with
  | 4 => b.portPresent (b.slotObj k)
  | 5 => b.portPresent (b.slotObj k)
  | 6 => b.capWelt == 3
  | _ => match b.slotEye k with | some e => b.eyeletPresent e | none => false

/-- Whether two bound slots use one source (log entry 35). -/
def Blk.sameSource (b : Blk) (j k : Nat) : Bool :=
  let x := b.slotKind j
  let y := b.slotKind k
  (match b.slotEye j, b.slotEye k with | some e, some f => e == f | _, _ => false)
  || (x == 3 && y == 3 && b.rd (R.REF_SRC_UART j) == b.rd (R.REF_SRC_UART k))
  || (x == y && (x == 4 || x == 5) && b.slotObj j == b.slotObj k) || (x == 6 && y == 6)

def Blk.slotConflict (b : Blk) (k : Nat) : Bool := (List.range k).any fun j => b.sameSource j k

/-- Time-capable kinds; an EYELET_PPS slot contributes frequency only while TIME_VALID = 0 (04 R81). -/
def timeKind (k : Nat) : Bool := k == 1 || k == 3 || k == 4 || k == 6
def Blk.slotTime (b : Blk) (k : Nat) : Bool := timeKind (b.slotKind k) && (b.slotKind k != 1 || b.ins.timeValid)

/-- Whether events of a slot's source reach it: its Eyelet is a REF input, its port's feature is effective, the twin is
linked. -/
def Blk.slotReceives (b : Blk) (k : Nat) : Bool :=
  match b.slotKind k with
  | 4 => b.clientOn (b.slotObj k)
  | 5 => b.pfeat (b.slotObj k) featSynceIn && (b.portOf (b.slotObj k)).link
  | 6 => b.twin.link
  | _ => match b.slotEye k with | some e => b.eyeFn e == 1 && !b.eyes.mismatch | none => false

/-- The comparison rate in mHz (04 R79). -/
def Blk.slotRate (b : Blk) (k : Nat) : Nat :=
  match b.slotKind k with
  | 2 => let f := b.rd (R.PIN_ECYC_NOM_MHZ (b.slotObj k)); f / atLeast1 (ceilDiv f 80000000)
  | 4 => let n := b.rdS (R.PTP_RC_CFG_LOG_SYNC (b.slotObj k))
    if n ≥ 0 then 1000 / 2 ^ n.toNat else 1000 * 2 ^ (-n).toNat
  | 5 => 80000000
  | 6 => 10000000
  | _ => 1000

/-! ### Monitors (04 R85 to R87) -/

def Blk.actFails (b : Blk) (k : Nat) : Bool := decide (b.rd (R.REF_ACT_REJ k) ≤ (b.slotOf k).bucket)
def Blk.actPasses (b : Blk) (k : Nat) : Bool := decide ((b.slotOf k).bucket ≤ b.rd (R.REF_ACT_ACC k))

/-- The limits in 0.01 ppb; a reject limit below the accept limit reads as that. -/
def Blk.accLimit (b : Blk) (k : Nat) : Nat := b.rd (R.REF_ACC_PPB_LIMIT k)
def Blk.rejLimit (b : Blk) (k : Nat) : Nat := max (b.rd (R.REF_REJ_PPB_LIMIT k)) (b.accLimit k)

/-- |y_k| within a limit; y_k must exist. -/
def yWithin (s : Slot) (lim : Nat) : Bool := s.yDen != 0 && decide (s.yNum.natAbs * 100000000000 ≤ lim * s.yDen)
def yBeyond (s : Slot) (lim : Nat) : Bool := s.yDen != 0 && decide (lim * s.yDen < s.yNum.natAbs * 100000000000)

/-- y_k in 10^-11. -/
def Slot.y11 (s : Slot) : Int := if s.yDen = 0 then 0 else s.yNum * 100000000000 / s.yDen

/-- The quality-level condition of a SYNCE slot with QL_EN: no QL-DNU, an ESMC message within 5 s. -/
def Blk.qlOk (b : Blk) (k : Nat) : Bool :=
  if b.slotKind k == 5 && b.flag (R.REF_SRC_QL_EN k) then
    let q := b.portOf (b.slotObj k)
    q.qlRx != 0xF && !q.qlTimeout
  else true

/-- The time-of-day check of a GNSS slot (04 R84). -/
def Blk.todOk (b : Blk) (k : Nat) : Bool := b.slotKind k != 3 || decide ((b.slotOf k).todBad < 3)

def Blk.frozenLong (b : Blk) (k : Nat) : Bool :=
  let s := b.slotOf k
  s.frozen && decide (s.frozenAt + secU (b.rd (R.REF_CFG_FREEZE_MAX k)) < b.up)

def Blk.accepts (b : Blk) (k : Nat) : Bool :=
  let s := b.slotOf k
  yWithin s (b.accLimit k) && !s.outvoted && b.qlOk k && b.todOk k

/-- The cause of the failing reject test, if it fails. -/
def Blk.rejectCause (b : Blk) (k : Nat) : Option Nat :=
  let s := b.slotOf k
  if yBeyond s (b.rejLimit k) then some 2
  else if s.outvoted then some 3
  else if !b.qlOk k then some 5
  else if !b.todOk k then some 6
  else if b.frozenLong k then some 4
  else none

/-! ### Qualification (04 R89) -/

/-- Departures from QUALIFIED within the last FLAP_WIN seconds. -/
def Blk.flapsNow (b : Blk) (k : Nat) : List Nat :=
  (b.slotOf k).flaps.filter fun t => decide (b.up ≤ t + secU (b.rd (R.REF_FLAP_FLAP_WIN k)))

/-- Move a slot to a state, with its record. -/
def Blk.slotMove (b : Blk) (k : Nat) (s : Slot) (st : SlotState) (cause : Nat) : Blk :=
  (b.setSlot k { s with st := st, cause := cause }).recRef k st.code cause (if st == .held then 2 else 1)

/-- A slot that enters NO_SIGNAL: B = CAP, the history restarts. -/
def Blk.toNoSignal (b : Blk) (k : Nat) (s : Slot) (cause : Nat) : Blk :=
  b.slotMove k { s with bucket := b.rd (R.REF_ACT_CAP k), timer := none, hist := [], yNum := 0, yDen := 0, past := []
                        hasX := false, edge := none, label := none, lastSec := none, todBad := 0 } .noSignal cause

def Blk.toQualifying (b : Blk) (k : Nat) (s : Slot) : Blk :=
  b.slotMove k { s with timer := some (b.up + secU (b.rd (R.REF_TIMES_QUAL_S k))) } .qualifying s.cause

/-- The first row of R80 and R89: why a slot is DISABLED. -/
def Blk.disableCause (b : Blk) (k : Nat) : Option Nat :=
  if b.slotKind k = 0 then some 0 else if !b.slotFitted k then some 9 else if b.slotConflict k then some 0xA else none

/-- A departure from QUALIFIED. -/
def Blk.flapped (b : Blk) (k : Nat) (s : Slot) : Slot := { s with flaps := b.up :: b.flapsNow k, timer := none }

/-- Whether a departure from QUALIFIED reaches FLAP_MAX. -/
def Blk.flapHeld (b : Blk) (k : Nat) : Bool :=
  let m := b.rd (R.REF_FLAP_FLAP_MAX k)
  m != 0 && decide (m ≤ (b.flapsNow k).length + 1)

/-- One evaluation of a slot: the first row of R89 that applies; a slot that fails because it has been FROZEN for FREEZE_MAX
is FROZEN no longer (10 R280). -/
def Blk.slotEval (b : Blk) (k : Nat) : Blk :=
  let s := b.slotOf k
  match b.disableCause k with
  | some c =>
    let held := s.lockoutHeld && b.slotKind k != 0
    if s.st == .disabled then b.setSlot k { s with cause := c, lockoutHeld := held }
    else b.slotMove k { lockoutHeld := held } .disabled c
  | none =>
    match s.st with
    | .disabled => if s.lockoutHeld then b.slotMove k s .lockedOut 8 else b.toNoSignal k { s with wasQual := false } 0
    | .qualified =>
      if b.actFails k || (b.rejectCause k).isSome then
        if b.flapHeld k then b.slotMove k (b.flapped k s) .held 7
        else if b.actFails k then b.toNoSignal k (b.flapped k s) 1
        else b.slotMove k { b.flapped k s with frozen := s.frozen && b.rejectCause k != some 4 } .failed ((b.rejectCause k).getD 0)
      else b
    | .wtr => if b.actFails k then b.toNoSignal k s 1 else if b.accepts k then b else b.toQualifying k s
    | .qualifying =>
      if b.actFails k then b.toNoSignal k s 1
      else if b.accepts k then b
      else b.setSlot k { s with timer := some (b.up + secU (b.rd (R.REF_TIMES_QUAL_S k))) }
    | .noSignal => if b.actPasses k then b.toQualifying k s else b
    | .failed => if b.actPasses k && b.accepts k then b.toQualifying k s else b
    | .held => b
    | .lockedOut => b

/-! ### Eligibility and contribution -/

/-- Whether a slot is eligible (04 R81, R88, R95). -/
def Blk.eligible (b : Blk) (k : Nat) : Bool :=
  let s := b.slotOf k
  s.st == .qualified && !s.frozen && (b.slotKind k != 6 || b.mode == .follower)

def Blk.eligMask (b : Blk) : Nat := ((List.range 24).map fun k => if b.eligible k then 2 ^ k else 0).sum

/-- Ensemble mode. -/
def Blk.ensMode (b : Blk) : Bool := b.rd R.REF_SEL_MODE == 1

/-- Slots that would contribute in ensemble mode: eligible time-capable ones with ENS, else frequency-only ones (04 R96,
R98). -/
def Blk.ensSlots (b : Blk) : List Nat :=
  let l := (List.range 24).filter fun k => b.eligible k && b.flag (R.REF_SRC_ENS k) && b.slotKind k != 6
  let t := l.filter b.slotTime
  if t.isEmpty then l else t

/-- Modes in which references contribute to the Insole: the DPLL runs in every mode from S8 (02 R25, R28); in HOLDOVER no
slot contributes (04 R93), in FOLLOWER the WELT slot alone (DEDUCED, log entry 42). -/
def Blk.disciplines (b : Blk) : Bool := b.ins.running && b.mode != .holdover && b.mode != .follower

/-- Modes in which a switch runs (04 R93). -/
def Blk.switches (b : Blk) : Bool := b.ins.running && (b.mode == .acquire || b.mode == .locked)

/-- The contributing slots. -/
def Blk.contrib (b : Blk) : List Nat :=
  if b.mode == .follower then (List.range 24).filter fun k => b.slotKind k == 6 && b.twin.attached && b.eligible k
  else if !b.disciplines then []
  else if b.ensMode then (match b.refs.sw with | some s => [s.target] | none => b.ensSlots)
  else match b.refs.sw with
    | some s => [s.target]
    | none => (b.refs.selected.filter b.eligible).toList

/-- REF_STATUS.FREQ_ONLY (04 R98). -/
def Blk.freqOnly (b : Blk) : Bool :=
  let l := b.contrib
  !l.isEmpty && l.all fun k => !b.slotTime k

/-! ### Selection (04 R92) -/

/-- The rank of an ESMC quality level under PRT_SYNCE.OPT: a lower number is better; a code that is not listed ranks just
above 0xF (07 R189). Without QL_EN none is better. -/
def qlRank (opt2 : Bool) (ssm : Nat) : Nat :=
  if opt2 then
    match ssm with
    | 0x1 => 0 | 0x0 => 1 | 0x7 => 2 | 0x4 => 3 | 0xD => 4 | 0xA => 5 | 0xC => 6 | 0xE => 7 | 0xF => 9 | _ => 8
  else
    match ssm with
    | 0x2 => 0 | 0x4 => 1 | 0x8 => 2 | 0xB => 3 | 0xF => 9 | _ => 8

def Blk.slotQl (b : Blk) (k : Nat) : Nat :=
  if b.slotKind k == 5 && b.flag (R.REF_SRC_QL_EN k) then
    qlRank (b.flag (R.PRT_SYNCE_OPT (b.slotObj k))) (b.portOf (b.slotObj k)).qlRx
  else 10

/-- Whether slot j is preferred to slot k: priority, then the selected slot, then quality level, then index. -/
def Blk.preferred (b : Blk) (j k : Nat) : Bool :=
  let pj := b.rd (R.REF_CFG_PRIO j)
  let pk := b.rd (R.REF_CFG_PRIO k)
  if pj ≠ pk then decide (pj < pk)
  else if b.refs.selected == some j then true
  else if b.refs.selected == some k then false
  else if b.slotQl j ≠ b.slotQl k then decide (b.slotQl j < b.slotQl k)
  else decide (j < k)

/-- The slot that R92 picks. -/
def Blk.pick (b : Blk) : Option Nat :=
  ((List.range 24).filter fun k => b.eligible k && b.rd (R.REF_CFG_PRIO k) != 0xFF && b.slotKind k != 6).foldl
    (fun best k => match best with | none => some k | some j => if b.preferred k j then some k else some j) none

/-- The choice that holds now: a force, the selected slot, or the pick. -/
def Blk.choice (b : Blk) : Option Nat :=
  match b.refs.selected with
  | some k =>
    if b.eligible k then
      if b.refs.forced then some k
      else if b.flag R.REF_SEL_REVERT then
        (match b.pick with | some j => if b.rd (R.REF_CFG_PRIO j) < b.rd (R.REF_CFG_PRIO k) then some j else some k | none => some k)
      else some k
    else b.pick
  | none => b.pick

/-- The mean frequency over the last 16 comparisons (04 R93). -/
def Blk.heldFreq (b : Blk) : Int :=
  let l := (b.refs.fHist.take 16).map (·.2)
  if l.isEmpty then b.refs.freq else meanI l

/-- Set the selected slot. -/
def Blk.setChoice (b : Blk) (k : Option Nat) : Blk :=
  { b with refs := { b.refs with selected := k, choiceFrom := b.up
                                 lastSel := match k with | some j => some j | none => b.refs.lastSel } }

/-- Begin a switch to slot k with a held frequency. -/
def Blk.switchTo (b : Blk) (k : Nat) (freq : Int) : Blk :=
  let c := b.setChoice (some k)
  Blk.recRef { c with refs := { c.refs with sw := some { target := k, freq := freq } } } k (b.slotOf k).st.code (b.slotOf k).cause 4

/-- A running switch is abandoned. -/
def Blk.abandon (b : Blk) (s : Switch) : Blk :=
  Blk.recRef { b with refs := { b.refs with sw := none, abandCnt := satNat (b.refs.abandCnt + 1) 16 } } s.target
    (b.slotOf s.target).st.code (b.slotOf s.target).cause 6

/-- Selection after a change of eligibility, priority or force (04 R92 to R94). -/
def Blk.reselect (b : Blk) : Blk :=
  let b := match b.refs.selected with
    | some k => if b.eligible k then b else { b with refs := { b.refs with forced := false } }
    | none => b
  let ch := b.choice
  match b.refs.sw with
  | some s =>
    if b.ensMode then (if b.eligible s.target then b else Blk.setChoice (b.abandon s) none)
    else if ch = some s.target then b
    else
      let c := b.abandon s
      match ch with
      | some k => c.switchTo k s.freq
      | none => c.setChoice none
  | none =>
    if b.ensMode then (if b.refs.selected.isSome then b.setChoice none else b)
    else if ch = b.refs.selected then b
    else match ch, b.refs.selected with
      | some k, some _ => if b.switches then b.switchTo k b.heldFreq else b.setChoice (some k)
      | x, _ => b.setChoice x

/-- Note since when each slot is eligible; a frequency-only phase starts again from there. -/
def Blk.eligSync (b : Blk) : Blk :=
  let ss := b.refs.slots.map fun e =>
    if b.eligible e.1 then (if e.2.eligFrom.isSome then e else (e.1, { e.2 with eligFrom := some b.up, base := none }))
    else (e.1, { e.2 with eligFrom := none, weight := 0, joinN := 0, means := [], sig2 := 0 })
  { b with refs := { b.refs with slots := ss } }

/-- The slot whose markings a holdover keeps (02 R30). -/
def Blk.holdSlotNow (b : Blk) : Option Nat := match b.refs.selected with | some k => some k | none => b.refs.lastSel

/-- Steering passes to the Heel where no reference contributes, and back where one does (05 R115). -/
def Blk.steerSync (b : Blk) : Blk :=
  if !b.ins.running then b
  else if b.contrib.isEmpty then
    if b.heel.steering then b
    else
      let c := b.heelTake
      { c with refs := { c.refs with holdSlot := c.holdSlotNow, sw := none } }
  else b.heelStop

/-- What follows a change in the slots. -/
def Blk.refsSettle (b : Blk) : Blk := (b.eligSync.reselect).steerSync

/-! ### The ensemble (04 R96) -/

/-- FLOOR squared, in (2^-16 ns)^2. -/
def Blk.floorSq (b : Blk) : Nat :=
  let f := (psU (10 * atLeast1 (b.rd R.REF_ENS_FLOOR) : Nat)).toNat
  f * f

/-- Weights with none above the cap: the excess is shared in proportion to u (04 R96). -/
def capWeights (cap : Rat) : Nat → List (Rat × Bool) → List (Rat × Bool)
  | 0, l => l
  | n + 1, l =>
    let fixed := (l.filter (·.2)).length
    let total := (l.map fun x => if x.2 then 0 else x.1).sum
    let left := 1 - cap * fixed
    let l' := l.map fun x => if x.2 then x else (x.1, decide (total ≠ 0 ∧ x.1 / total * left > cap))
    if (l'.filter (·.2)).length = fixed then l else capWeights cap n l'

/-- The weights of slots with their u and their interval number. -/
def ensWeights (wmax : Nat) (l : List (Nat × Rat × Nat)) : List (Nat × Rat) :=
  let n := l.length
  let cap : Rat := if n * wmax < 256 then 1 / (n : Rat) else (wmax : Rat) / 256
  let c := capWeights cap n (l.map fun x => (x.2.1, false))
  let fixed := (c.filter (·.2)).length
  let total := (c.map fun x => if x.2 then 0 else x.1).sum
  let ws := c.map fun x => if x.2 then cap else if total = 0 then 0 else x.1 / total * (1 - cap * fixed)
  let lim := (l.zip ws).map fun x => (x.1.1, x.1.2.2, if x.1.2.2 < 16 then x.2 * (x.1.2.2 : Rat) / 16 else x.2)
  let young := (lim.map fun x => if x.2.1 < 16 then x.2.2 else 0).sum
  let old := (lim.map fun x => if x.2.1 < 16 then 0 else x.2.2).sum
  lim.map fun x => (x.1, if old = 0 then (if young = 0 then 0 else x.2.2 / young)
    else if x.2.1 < 16 then x.2.2 else x.2.2 / old * (1 - young))

/-- Set the weights of the contributors, in 1/65536. -/
def Blk.reweigh (b : Blk) : Blk :=
  let fl := b.floorSq
  let l := b.ensSlots.map fun k => let s := b.slotOf k; (k, (1 : Rat) / (max s.sig2 fl : Nat), s.joinN)
  (ensWeights (atLeast1 (b.rd R.REF_ENS_W_MAX)) l).foldl (fun b x =>
    b.setSlot x.1 { b.slotOf x.1 with weight := (x.2 * 65536).floor.toNat }) b

/-- The slot of a list with the largest weight. -/
def Blk.heaviest (b : Blk) (l : List Nat) : Option Nat :=
  l.foldl (fun (x : Option Nat) k => match x with
    | none => some k | some j => if (b.slotOf j).weight < (b.slotOf k).weight then some k else some j) none

/-- One interval of the ensemble: estimates and weights (04 R96). -/
def Blk.ensembleUpdate (b : Blk) : Blk :=
  if !b.ensMode then b else
    let tau := secU (atLeast1 (b.rd R.REF_ENS_TAU))
    let m := atLeast1 (b.rd R.REF_ENS_M)
    let c := b.ensSlots.foldl (fun b k =>
      let s := b.slotOf k
      let xs := (s.past.filter fun e => decide (b.up ≤ e.1 + tau)).map (·.2.1)
      let means := (meanI xs :: s.means).take 3
      let sig0 := if s.joinN = 0 then 100 * b.floorSq else s.sig2
      let sig := match means with
        | [x, y, z] => let d := x - 2 * y + z
          ((sig0 : Int) + (d * d / 2 - sig0) / (m : Int)).toNat
        | _ => sig0
      b.setSlot k { s with means := means, sig2 := sig, joinN := min 16 (s.joinN + 1) }) b
    let d := c.reweigh
    let best := d.heaviest d.ensSlots
    { d with refs := { d.refs with lastSel := match best with | some k => some k | none => d.refs.lastSel
                                   ensAt := some (d.ins.now : Int) } }

/-! ### The DPLL (04 R97, R100 to R104) -/

/-- Minimum comparison rate of a step in mHz, and its time constant in 2^-16 ns (04 R100). -/
def bwMinRate (step : Nat) : Nat :=
  [20, 40, 80, 200, 400, 800, 2000, 4000, 8000, 20000, 60000, 200000, 600000, 2000000, 20000000, 80000000].getD step 0
def bwTau (step : Nat) : Nat :=
  usU ([159000000, 79600000, 39800000, 15900000, 7960000, 3980000, 1590000, 796000, 398000, 159000, 53100, 15900, 5310,
    1590, 159, 39].getD step 0)

/-- The highest step that a rate allows. -/
def maxStep (rate : Nat) : Nat := ((List.range 16).filter fun n => decide (bwMinRate n ≤ rate)).getLast?.getD 0

/-- The comparison rate that bounds the loop: of the slowest contributor. -/
def Blk.loopRate (b : Blk) : Option Nat :=
  match b.contrib.map b.slotRate with
  | [] => none
  | x :: rest => some (rest.foldl min x)

/-- The effective step of a requested one (04 R101). -/
def Blk.effStep (b : Blk) (want : Nat) : Nat := match b.loopRate with | some r => min want (maxStep r) | none => want

/-- The requested step: FOL_BW in FOLLOWER. -/
def Blk.wantBw (b : Blk) : Nat := if b.mode == .follower then b.rd R.TWN_CFG_FOL_BW else b.rd R.REF_SEL_BW

/-- REF_STATUS.EFF_BW: in ACQUIRE the acquisition step while it is wider. -/
def Blk.effBw (b : Blk) : Nat :=
  let e := b.effStep b.wantBw
  if b.mode == .acquire then max e b.refs.acqStep else e

/-- The limit of steering in 0.001 ppb. -/
def Blk.pull (b : Blk) : Int := (clampN 1 2000 (b.rd R.REF_DPLL_PULL) * 100000 : Nat)

/-- The steering after a comparison: how the loop filters e is not stated as numbers, so the value is free within ±PULL
(log entry 3). -/
def Blk.newFreq (b : Blk) : Int := max (-b.pull) (min b.pull (Config.freeInt b.freeCtr))

/-- The remaining slew in 2^-16 ns. -/
def Blk.slewNow (b : Blk) : Int := b.ins.slewRem / 1000000000

/-- The latest error of a list of slots, weighted in ensemble mode, less the remaining slew (04 R97). -/
def Blk.errOf (b : Blk) (l : List Nat) (weighted : Bool) : Int :=
  let x := if weighted then
      let tot := (l.map fun k => (b.slotOf k).weight).sum
      if tot = 0 then meanI (l.map fun k => (b.slotOf k).x) else (l.map fun k => (b.slotOf k).x * (b.slotOf k).weight).sum / tot
    else match l with | k :: _ => (b.slotOf k).x | [] => 0
  x - b.slewNow

/-- e from the latest errors of the contributors. -/
def Blk.phaseErr (b : Blk) : Int := b.errOf b.contrib (b.ensMode && b.mode != .follower && b.refs.sw.isNone)

/-- The slots that would contribute, measured in shadow in HOLDOVER (04 R103). -/
def Blk.shadow (b : Blk) : List Nat := if b.ensMode then b.ensSlots else (b.refs.selected.filter b.eligible).toList

/-- e in shadow: a frequency-only slot measures none. -/
def Blk.shadowErr (b : Blk) : Int := if b.shadow.any b.slotTime then b.errOf (b.shadow.filter b.slotTime) b.ensMode else 0

/-- LOCK_NS and UNLOCK_NS in 2^-16 ns. -/
def Blk.lockU (b : Blk) : Nat := nsU (b.rd R.REF_LOCK_LOCK_NS)
def Blk.unlockU (b : Blk) : Nat := nsU (b.rd R.REF_LOCK_UNLOCK_NS)

/-- The least-squares slope of e over the last 16 s. -/
def slopeLsq (l : List (Nat × Int)) : Rat :=
  let n : Rat := l.length
  let sx : Rat := (l.map fun e => (e.1 : Rat)).sum
  let sy : Rat := (l.map fun e => (e.2 : Rat)).sum
  let sxx : Rat := (l.map fun e => (e.1 : Rat) * e.1).sum
  let sxy : Rat := (l.map fun e => (e.1 : Rat) * e.2).sum
  let d := n * sxx - sx * sx
  if d = 0 then 0 else (n * sxy - sx * sy) / d

/-- |f| within LOCK_PPB (04 R103). -/
def Blk.slopeOk (b : Blk) : Bool :=
  let f := slopeLsq (b.refs.eHist.filter fun e => decide (b.up ≤ e.1 + secU 16))
  decide (f * 100000000000 ≤ b.rd R.REF_LOCK_F_LOCK_PPB ∧ -(f * 100000000000) ≤ b.rd R.REF_LOCK_F_LOCK_PPB)

/-- The lock criteria of ACQUIRE but for their dwell. -/
def Blk.lockOkNow (b : Blk) : Bool :=
  b.effBw == b.effStep b.wantBw && b.slopeOk
  && (if b.freqOnly then b.ins.timeValid else decide (b.refs.e.natAbs ≤ b.lockU))

/-- The loop takes a new e: history, steering, lock and unlock counts. -/
def Blk.loopStep (b : Blk) (e : Int) : Blk :=
  let f := b.newFreq
  let near := decide (e.natAbs ≤ b.lockU)
  let b := { b with
    freeCtr := b.freeCtr + 1
    refs := { b.refs with
      e := e, eHist := (b.up, e) :: b.refs.eHist.filter fun x => decide (b.up ≤ x.1 + secU 16)
      freq := f, fHist := (b.up, f) :: b.refs.fHist.filter fun x => decide (b.up ≤ x.1 + secU 65800)
      atPull := decide (f.natAbs = b.pull.natAbs)
      overCnt := if e.natAbs > b.unlockU then b.refs.overCnt + 1 else 0
      acqFrom := if near then some (b.refs.acqFrom.getD b.up) else none } }
  let ok := b.lockOkNow
  { b with refs := { b.refs with lockFrom := if ok then some (b.refs.lockFrom.getD b.up) else none } }

/-- The first alignment in ACQUIRE, or the Δ of a switch, is passed to the Insole under R54; a reference alignment makes
TIME_VALID 1 (03 R44). -/
def Blk.align (b : Blk) (d : Int) : Blk :=
  b.validWith fun c => (c.correctAs stepFn (b.corrSum d) (b.steps54 (b.corrSum d) true)).1

/-- The errors of a slot after a Δ has been issued are measured anew. -/
def Blk.phaseReset (b : Blk) (k : Nat) (tRef t : Int) : Blk :=
  let c := b.setSlot k { b.slotOf k with base := some (tRef, t - b.ins.stepSum) }
  { c with refs := { c.refs with e := 0, eHist := [], overCnt := 0 } }

/-- A comparison of the target of a switch (04 R93). -/
def Blk.switchCompare (b : Blk) (s : Switch) (tRef t x : Int) : Blk :=
  let taken := x :: s.taken
  if taken.length < atLeast1 (b.rd R.REF_SEL_SW_AVG) then { b with refs := { b.refs with sw := some { s with taken := taken } } }
  else
    let k := s.target
    let b := { b with refs := { b.refs with sw := none, freq := s.freq, swCnt := satNat (b.refs.swCnt + 1) 16 } }
    let b := if b.slotTime k then b.align (meanI taken - b.slewNow) else b
    (b.phaseReset k tRef t).recRef k (b.slotOf k).st.code (b.slotOf k).cause 5

/-- A contributor's comparison moves the loop. -/
def Blk.loopCompare (b : Blk) (k : Nat) (tRef t : Int) : Blk :=
  match b.refs.sw with
  | some s => if s.target = k then b.switchCompare s tRef t (b.slotOf k).x else b
  | none =>
    if !b.contrib.contains k then
      if b.mode == .holdover && b.shadow.contains k then { b with refs := { b.refs with e := b.shadowErr } } else b
    else if b.mode == .acquire && !b.refs.aligned && b.slotTime k then
      let b := { b with refs := { b.refs with aligned := true } }
      (b.align b.phaseErr).phaseReset k tRef t
    else b.loopStep b.phaseErr

/-! ### A comparison (04 R81, R85, R86, R89) -/

/-- y_k over the comparison events of the window. -/
def yOf (l : List (Int × Nat)) : Int × Nat :=
  match l, l.getLast? with
  | x :: _, some y => if x.2 = y.2 then (0, 0) else (x.1 - y.1 - ((x.2 - y.2 : Nat) : Int), x.2 - y.2)
  | _, _ => (0, 0)

/-- The nearest whole second; x lies in (−0.5 s, +0.5 s]. -/
def nearSec (t : Int) : Int := -((-(2 * t) + oneS) / (2 * oneS)) * oneS

/-- What the frequency monitor holds as the time of an event by the reference: of an EYELET_PPS slot, whole seconds counted
from its last event (04 R86). -/
def Blk.histRef (b : Blk) (k : Nat) (tRef : Int) (u : Nat) : Int :=
  match b.slotKind k, (b.slotOf k).hist with
  | 1, e :: _ => e.1 + nearSec (u - e.2 : Nat)
  | _, _ => tRef

/-- An expected event of slot k has arrived with reference time tRef at Insole time t and elapsed time u. -/
def Blk.slotEvent (b : Blk) (k : Nat) (tRef t : Int) (u : Nat) : Blk :=
  let s := b.slotOf k
  if s.st == .disabled then b else
    let win := secU (atLeast1 (b.rd (R.REF_CFG_FREQ_WIN k)))
    let hist := ((b.histRef k tRef u, u) :: s.hist).filter fun e => decide (u ≤ e.2 + win)
    let y := yOf hist
    let base := s.base.getD (tRef, t - b.ins.stepSum)
    let x := if b.slotTime k then tRef - t else (tRef - base.1) - (t - b.ins.stepSum - base.2)
    let s := { s with bucket := s.bucket - 1, hist := hist, yNum := y.1, yDen := y.2, x := x, hasX := b.slotTime k, base := some base, cmpAt := some t }
    let keep := secU (max (atLeast1 (b.rd R.REF_SENT_TAU)) (atLeast1 (b.rd R.REF_ENS_TAU)))
    let s := { s with past := (u, x, if s.yDen = 0 then none else some s.y11) :: s.past.filter fun e => decide (b.up ≤ e.1 + keep) }
    ((b.setSlot k s).slotEval k).refsSettle.loopCompare k tRef t |>.steerSync

end Sys2Proof.Machine
end

