-- ==== Sys2Proof/Machine/Refs.lean ====
section
/-! DEFINITION. The commands of the references (04): messages and comparisons, the evaluation of slots, timers, the drift
sentinel, ensemble and acquisition steps, and REF_COMMAND. -/

namespace Sys2Proof.Machine

/-! ### Time-of-day messages (04 R82 to R84) -/

/-- What a message says: the labelled second in TAI, QERR in ps, the accuracy in ns, and whether its OFFSET differs from
TBS_UTC.OFFSET. -/
structure Tod where
  sec : Int
  qerr : Int
  acc : Nat
  offsetDiffers : Bool
  deriving DecidableEq, Repr

/-- CRC-16 with polynomial 0x1021 and initial value 0xFFFF. -/
def crc16Bit (c : Nat) : Nat := if c ≥ 0x8000 then (2 * c % 0x10000) ^^^ 0x1021 else 2 * c
def crc16 (bs : Bytes) : Nat :=
  bs.foldl (fun c x => (List.range 8).foldl (fun c _ => crc16Bit c) (c ^^^ (x.toNat * 256))) 0xFFFF

/-- A Yastad binary message (04 R83). -/
def todBinary (d : Int) (bs : Bytes) : Option Tod :=
  let fl := byteAt bs 3
  if bs.length ≠ 20 ∨ beAt bs 0 2 ≠ 0x4B59 ∨ byteAt bs 2 ≠ 1 ∨ crc16 (bs.take 18) ≠ beAt bs 18 2 ∨ !bitOf fl 0 then none
  else
    let s : Int := beAt bs 4 6
    some { sec := if bitOf fl 1 then s else s + d, qerr := toSigned (beAt bs 14 2) 16, acc := beAt bs 12 2
           offsetDiffers := toSigned (beAt bs 10 2) 16 != d }

/-- Fields of a sentence between commas. -/
def splitComma : Bytes → List Bytes
  | [] => [[]]
  | x :: rest =>
    match splitComma rest with
    | f :: fs => if x == 0x2C then [] :: f :: fs else (x :: f) :: fs
    | [] => [[x]]

/-- A decimal number of ASCII digits. -/
def decOf (bs : Bytes) : Option Nat :=
  if bs.isEmpty then none
  else bs.foldl (fun n x => match n with
    | some n => if 0x30 ≤ x.toNat ∧ x.toNat ≤ 0x39 then some (10 * n + (x.toNat - 0x30)) else none
    | none => none) (some 0)

/-- A hexadecimal digit. -/
def hexOf (x : Byte) : Nat :=
  let n := x.toNat
  if 0x30 ≤ n ∧ n ≤ 0x39 then n - 0x30 else if 0x41 ≤ n ∧ n ≤ 0x46 then n - 0x37 else if 0x61 ≤ n ∧ n ≤ 0x66 then n - 0x57 else 256

/-- Days from 1970-01-01 to a date. -/
def daysOf (y m d : Nat) : Int :=
  let y' := if m ≤ 2 then y - 1 else y
  (365 * y' + y' / 4 - y' / 100 + y' / 400 + (153 * ((m + 9) % 12) + 2) / 5 + d - 1 : Nat) - 719468

/-- The UTC count of a date and a time hhmmss. -/
def utcOf (y m d : Option Nat) (hms : Bytes) : Option Int :=
  match y, m, d, decOf (sliceB hms 0 2), decOf (sliceB hms 2 2), decOf (sliceB hms 4 2) with
  | some y, some m, some d, some hh, some mm, some ss =>
    if 1 ≤ m ∧ m ≤ 12 ∧ 1 ≤ d ∧ d ≤ 31 ∧ hh < 24 ∧ mm < 60 ∧ ss ≤ 60 then
      some (daysOf y m d * 86400 + (3600 * hh + 60 * mm + ss : Nat))
    else none
  | _, _, _, _, _, _ => none

/-- The body of a sentence between `$` and `*`, with a correct checksum. -/
def nmeaBody (bs : Bytes) : Option Bytes :=
  let body := (bs.drop 1).takeWhile (· != 0x2A)
  let ck := (bs.drop (2 + body.length)).take 2
  if byteAt bs 0 = 0x24 ∧ ck.length = 2 ∧
      (body.foldl (· ^^^ ·) 0).toNat = 16 * hexOf (ck.getD 0 0) + hexOf (ck.getD 1 0) then some body else none

/-- Talkers and sentences that R82 accepts. -/
def nmeaTalkers : List Bytes := [ascii "GP", ascii "GL", ascii "GA", ascii "GB", ascii "GN"]

/-- The UTC count in an NMEA sentence (04 R82; the two digits of an RMC year count from 2000, log entry 36). -/
def nmeaUtc (bs : Bytes) : Option Int :=
  match nmeaBody bs with
  | none => none
  | some body =>
    let fs := splitComma body
    let f := fun i => fs.getD i []
    if !nmeaTalkers.contains (sliceB (f 0) 0 2) ∨ (f 0).length ≠ 5 then none
    else if sliceB (f 0) 2 3 = ascii "ZDA" then utcOf (decOf (f 4)) (decOf (f 3)) (decOf (f 2)) (f 1)
    else if sliceB (f 0) 2 3 = ascii "RMC" ∧ f 2 = ascii "A" then
      utcOf ((decOf (sliceB (f 9) 4 2)).map (· + 2000)) (decOf (sliceB (f 9) 2 2)) (decOf (sliceB (f 9) 0 2)) (f 1)
    else none

/-- What a message on the UART of slot k says, if it is accepted. -/
def Blk.todOf (b : Blk) (k : Nat) (bs : Bytes) : Option Tod :=
  if b.flag (R.REF_SRC_BIN k) then todBinary b.utcD bs
  else (nmeaUtc bs).map fun u => { sec := u + b.utcD, qerr := 0, acc := 65535, offsetDiffers := false }

/-- An interval of 20 ms to 980 ms between an edge and the end of a message (04 R84). -/
def labelWindow (x y : Nat) : Bool := decide (x + msU 20 ≤ y ∧ y ≤ x + msU 980)

/-- The time-of-day check of a labelled second (04 R84). -/
def Blk.todCheck (b : Blk) (k : Nat) (sec t : Int) : Blk :=
  let s := b.slotOf k
  let bad := b.ins.timeValid && (sec * oneS != nearSec t || (match s.lastSec with | some x => x + 1 != sec | none => false))
  b.setSlot k { s with lastSec := some sec, todBad := if bad then s.todBad + 1 else 0 }

/-- An edge at Insole time t and elapsed time u has its label: a comparison. -/
def Blk.labelled (b : Blk) (k : Nat) (sec qerr t : Int) (u : Nat) : Blk :=
  let t := t + psU qerr
  (b.todCheck k sec t).slotEvent k (sec * oneS) t u

/-- A message ends: it labels the edge that has come, or waits for the next. -/
def Blk.gnssMessage (b : Blk) (k : Nat) (bs : Bytes) : Blk :=
  if b.slotKind k != 3 || (b.slotOf k).st == .disabled then b else
  match b.todOf k bs with
  | none => b
  | some m =>
    let s := b.slotOf k
    let s := { s with acc := m.acc, cause := if m.offsetDiffers then 6 else s.cause }
    if b.flag (R.REF_SRC_LABEL_NEXT k) then b.setSlot k { s with label := some ⟨m.sec, m.qerr, b.up⟩ }
    else match s.edge with
    | some (t, u) =>
      let b := b.setSlot k { s with edge := none }
      if labelWindow u b.up then b.labelled k m.sec m.qerr t u else b
    | none => b.setSlot k s

def execGnssMessage (w slot : Nat) (bytes : Bytes) (s : State) : Host.Outcome State Fault Refusal :=
  s.upd w fun _ b => b.gnssMessage slot bytes

/-! ### Comparisons and evaluation -/

/-- An edge of a GNSS slot's PPS at Insole time t. -/
def Blk.gnssEdge (b : Blk) (k : Nat) (t : Int) : Blk :=
  let s := b.slotOf k
  if b.flag (R.REF_SRC_LABEL_NEXT k) then
    match s.label with
    | some l =>
      let b := b.setSlot k { s with label := none }
      if labelWindow l.at_ b.up then b.labelled k l.sec l.qerr t b.up else b
    | none => b
  else b.setSlot k { s with edge := some (t, b.up) }

/-- A slot takes a comparison event at Insole time t, to which its reference assigns tRef. Of an EYELET_PPS slot tRef is
the nearest whole second; a GNSS slot's edge takes its time from its label (04 R81). -/
def Blk.refComparison (b : Blk) (k : Nat) (t tRef : Int) : Blk :=
  if 24 ≤ k || (b.slotOf k).st == .disabled || !b.slotReceives k then b else
  match b.slotKind k with
  | 1 => b.slotEvent k (nearSec t) t b.up
  | 3 => b.gnssEdge k t
  | 4 => b
  | 6 => b
  | _ => b.slotEvent k tRef t b.up

def execRefComparison (w slot : Nat) (t tRef : Int) (s : State) : Host.Outcome State Fault Refusal :=
  s.upd w fun _ b => b.refComparison slot t tRef

/-- The evaluation of a slot; `missed`: a comparison interval has passed without its event (04 R85). -/
def Blk.refTick (b : Blk) (k : Nat) (missed : Bool) : Blk :=
  if 24 ≤ k || !b.ins.running then b else
    let s := b.slotOf k
    let b := if missed && s.st != .disabled then
        b.setSlot k { s with bucket := min (max s.bucket (b.rd (R.REF_ACT_CAP k))) (s.bucket + b.rd (R.REF_ACT_INC k)) } else b
    (b.slotEval k).refsSettle

def execRefEvalTick (w slot : Nat) (missed : Bool) (s : State) : Host.Outcome State Fault Refusal :=
  s.upd w fun _ b => b.refTick slot missed

/-- Whether a slot's timer has expired. -/
def Blk.timerOver (b : Blk) (k : Nat) : Bool := match (b.slotOf k).timer with | some t => decide (t ≤ b.up) | none => false

/-- A slot becomes QUALIFIED. -/
def Blk.toQualified (b : Blk) (k : Nat) : Blk :=
  (b.slotMove k { b.slotOf k with timer := none, wasQual := true } .qualified 0).refsSettle

/-- QUAL_S expires: QUALIFIED the first time, else WTR (04 R89). -/
def Blk.qualExpire (b : Blk) (k : Nat) : Blk :=
  let s := b.slotOf k
  if s.st != .qualifying || !b.timerOver k then b
  else if s.wasQual then
    (b.slotMove k { s with timer := some (b.up + secU (b.rd (R.REF_TIMES_WTR_S k))) } .wtr s.cause).refsSettle
  else b.toQualified k

def execQualTimerExpire (w slot : Nat) (s : State) : Host.Outcome State Fault Refusal :=
  s.upd w fun _ b => b.qualExpire slot

def execWtrTimerExpire (w slot : Nat) (s : State) : Host.Outcome State Fault Refusal :=
  s.upd w fun _ b => if (b.slotOf slot).st == .wtr && b.timerOver slot then b.toQualified slot else b

/-! ### The drift sentinel (04 R90, R91) -/

/-- What a round knows of a slot: means of x (2^-16 ns) and y (10^-11) over TAU, where it has any. -/
structure Peer where
  k : Nat
  time : Bool
  x : Option Int
  y : Option Int

def Blk.peerOf (b : Blk) (k : Nat) : Peer :=
  let tau := secU (atLeast1 (b.rd R.REF_SENT_TAU))
  let l := (b.slotOf k).past.filter fun e => decide (b.up ≤ e.1 + tau)
  let y := l.filterMap (·.2.2)
  let mean := fun (l : List Int) => if l.isEmpty then none else some (meanI l)
  ⟨k, b.slotTime k, mean (l.map (·.2.1)), mean y⟩

/-- |d_jk| against the limits of its kind; none where one of the two has no mean. -/
def peerDiff (p q : Peer) : Option (Bool × Nat) :=
  if p.time && q.time then
    match p.x, q.x with | some a, some c => some (true, (a - c).natAbs) | _, _ => none
  else match p.y, q.y with | some a, some c => some (false, (a - c).natAbs) | _, _ => none

/-- Whether two slots agree within AGREE, stand within LIM, differ by more than LIM. -/
def Blk.peerAgree (b : Blk) (p q : Peer) : Bool :=
  match peerDiff p q with
  | some (true, d) => decide (d ≤ nsU (b.rd R.REF_SENT_AGREE_NS))
  | some (false, d) => decide (d ≤ b.rd R.REF_SENT_F_AGREE_PPB)
  | none => false
def Blk.peerOver (b : Blk) (p q : Peer) : Bool :=
  match peerDiff p q with
  | some (true, d) => decide (nsU (b.rd R.REF_SENT_LIM_NS) < d)
  | some (false, d) => decide (b.rd R.REF_SENT_F_LIM_PPB < d)
  | none => false
def Blk.peerWithin (b : Blk) (p q : Peer) : Bool := (peerDiff p q).isSome && !b.peerOver p q

/-- The size of the largest group of a list in which every pair satisfies a relation. -/
def groupSize (r : Peer → Peer → Bool) (chosen : List Peer) : List Peer → Nat
  | [] => chosen.length
  | x :: rest =>
    let without := groupSize r chosen rest
    if chosen.all (r x) then max (groupSize r (x :: chosen) rest) without else without

/-- Whether the voters outvote a candidate. -/
def Blk.outvotes (b : Blk) (voters : List Peer) (c : Peer) : Bool :=
  let others := voters.filter fun v => v.k != c.k
  let g := groupSize b.peerAgree [] (others.filter (b.peerOver c))
  decide (2 ≤ g) && decide ((others.filter (b.peerWithin c)).length + 1 < g)

/-- Voters and candidates of a round. -/
def Blk.isVoter (b : Blk) (k : Nat) : Bool := (b.slotOf k).st == .qualified && !(b.slotOf k).frozen
def Blk.isCandidate (b : Blk) (k : Nat) : Bool :=
  let s := (b.slotOf k).st
  s != .disabled && s != .lockedOut && s != .held

/-- A round: slots outvoted are evaluated at once; a split is noted (04 R91). -/
def Blk.sentinelRound (b : Blk) : Blk :=
  if !b.ins.running then b else
    let voters := ((List.range 24).filter b.isVoter).map b.peerOf
    let cands := (List.range 24).filter b.isCandidate
    let out := cands.filter fun k => b.outvotes voters (b.peerOf k)
    let split := out.isEmpty && voters.any fun p => voters.any fun q => b.peerOver p q
    let slots := b.refs.slots.map fun e => (e.1, { e.2 with outvoted := out.contains e.1 })
    let first := split && !b.refs.split
    let c := { b with refs := { b.refs with slots := slots, split := split } }
    let c := if split then c.setF R.REF_STATUS_SENT_SPLIT else c
    let slot := (voters.head?.map (·.k)).getD 0
    let c := if first then c.recRef slot (c.slotOf slot).st.code (c.slotOf slot).cause 3 else c
    (cands.foldl Blk.slotEval c).refsSettle

def execSentinelRound (w : Nat) (s : State) : Host.Outcome State Fault Refusal := s.upd w fun _ b => b.sentinelRound

/-! ### Ensemble and acquisition -/

/-- Every τ_E seconds. -/
def execEnsembleUpdate (w : Nat) (s : State) : Host.Outcome State Fault Refusal :=
  s.upd w fun _ b => if b.ins.running then b.ensembleUpdate else b

/-- |e| has stayed within LOCK_NS for five time constants of the present step (04 R102). -/
def Blk.narrowDue (b : Blk) : Bool :=
  b.mode == .acquire && decide (b.effStep b.wantBw < b.refs.acqStep)
  && (match b.refs.acqFrom with | some t => decide (t + 5 * bwTau b.effBw ≤ b.up) | none => false)

def execAcqNarrow (w : Nat) (s : State) : Host.Outcome State Fault Refusal :=
  s.upd w fun _ b =>
    if b.narrowDue then { b with refs := { b.refs with acqStep := b.refs.acqStep - 1, acqFrom := some b.up } } else b

/-! ### REF_COMMAND (04 R105) -/

/-- The slot of a REF_COMMAND, where it is one (11 R306). -/
def refSlot (d : Bytes) : Nat := byteAt d 9

/-- Select a slot by force. -/
def Blk.forceSlot (b : Blk) (k : Nat) : Blk :=
  let b := { b with refs := { b.refs with forced := true } }
  match b.refs.sw with
  | some s => if s.target = k then b else (b.abandon s).switchTo k s.freq
  | none =>
    if b.refs.selected == some k then b
    else if b.switches && b.refs.selected.isSome then b.switchTo k b.heldFreq
    else b.setChoice (some k)

def Blk.refForce (b : Blk) (ref : DRef) (d : Bytes) : Blk :=
  let k := refSlot d
  if byteAt d 8 ≠ 1 ∨ 24 ≤ k ∨ b.slotKind k = 0 then b.complete ref stMalformed []
  else if !b.slotFitted k then b.complete ref stAbsent []
  else if !b.eligible k ∨ b.ensMode ∨ b.mode = .follower then b.complete ref stDenied []
  else ((b.forceSlot k).steerSync).complete ref stOk []

/-- FORCE, and every code outside R105. -/
def execRefForce (w r : Nat) (s : State) : Host.Outcome State Fault Refusal :=
  s.upd w fun _ b => b.withDesc r 0x22 (fun d => byteAt d 8 == 1 || byteAt d 8 == 0 || decide (9 < byteAt d 8)) fun ref d b => b.refForce ref d

def execRefRelease (w r : Nat) (s : State) : Host.Outcome State Fault Refusal :=
  s.upd w fun _ b => b.withDesc r 0x22 (fun d => byteAt d 8 == 2) fun ref _ b =>
    (Blk.refsSettle { b with refs := { b.refs with forced := false } }).complete ref stOk []

/-- LOCKOUT (04 R89). -/
def Blk.refLockout (b : Blk) (ref : DRef) (d : Bytes) : Blk :=
  let k := refSlot d
  let s := b.slotOf k
  if 24 ≤ k ∨ b.slotKind k = 0 then b.complete ref stMalformed []
  else if b.mode = .follower ∧ b.slotKind k = 6 then b.complete ref stDenied []
  else if s.st = .disabled then (b.setSlot k { s with lockoutHeld := true }).complete ref stOk []
  else ((b.slotMove k { s with lockoutHeld := true, timer := none } .lockedOut 8).refsSettle).complete ref stOk []

def execRefLockout (w r : Nat) (s : State) : Host.Outcome State Fault Refusal :=
  s.upd w fun _ b => b.withDesc r 0x22 (fun d => byteAt d 8 == 3) fun ref d b => b.refLockout ref d

/-- CLEAR. -/
def Blk.refClear (b : Blk) (ref : DRef) (d : Bytes) : Blk :=
  let k := refSlot d
  let s := b.slotOf k
  if 24 ≤ k then b.complete ref stMalformed []
  else if s.st = .held ∨ s.st = .lockedOut then
    ((b.toNoSignal k { s with flaps := [], lockoutHeld := false } s.cause).refsSettle).complete ref stOk []
  else if s.st = .disabled ∧ s.lockoutHeld then (b.setSlot k { s with lockoutHeld := false }).complete ref stOk []
  else b.complete ref stDenied []

def execRefClear (w r : Nat) (s : State) : Host.Outcome State Fault Refusal :=
  s.upd w fun _ b => b.withDesc r 0x22 (fun d => byteAt d 8 == 4) fun ref d b => b.refClear ref d

/-- CLEAR_WTR. -/
def Blk.refClearWtr (b : Blk) (ref : DRef) (d : Bytes) : Blk :=
  let k := refSlot d
  if 24 ≤ k then b.complete ref stMalformed []
  else if (b.slotOf k).st ≠ .wtr then b.complete ref stDenied []
  else (b.toQualified k).complete ref stOk []

def execRefClearWtr (w r : Nat) (s : State) : Host.Outcome State Fault Refusal :=
  s.upd w fun _ b => b.withDesc r 0x22 (fun d => byteAt d 8 == 5) fun ref d b => b.refClearWtr ref d

/-- SET_PRIO. -/
def Blk.refSetPrio (b : Blk) (ref : DRef) (d : Bytes) : Blk :=
  let k := refSlot d
  if 24 ≤ k ∨ b.slotKind k = 0 then b.complete ref stMalformed []
  else ((b.wr (R.REF_CFG_PRIO k) (byteAt d 10)).refsSettle).complete ref stOk []

def execRefSetPrio (w r : Nat) (s : State) : Host.Outcome State Fault Refusal :=
  s.upd w fun _ b => b.withDesc r 0x22 (fun d => byteAt d 8 == 6) fun ref d b => b.refSetPrio ref d

/-- SET_BW: a step or a field outside their ranges is MALFORMED (log entry 37). -/
def Blk.refSetBw (b : Blk) (ref : DRef) (d : Bytes) : Blk :=
  if byteAt d 10 > 15 ∨ byteAt d 11 > 1 then b.complete ref stMalformed []
  else (b.wr (if byteAt d 11 = 1 then R.REF_SEL_ACQ_BW else R.REF_SEL_BW) (byteAt d 10)).complete ref stOk []

def execRefSetBw (w r : Nat) (s : State) : Host.Outcome State Fault Refusal :=
  s.upd w fun _ b => b.withDesc r 0x22 (fun d => byteAt d 8 == 8) fun ref d b => b.refSetBw ref d

/-- Select to ensemble: the selected slot starts at weight 1, the others join under the ramp (04 R99). -/
def Blk.toEnsemble (b : Blk) : Blk :=
  let k := b.refs.selected
  let slots := b.refs.slots.map fun e => (e.1,
    if k == some e.1 then { e.2 with weight := 65536, joinN := 16, sig2 := 100 * b.floorSq, means := [] }
    else { e.2 with weight := 0, joinN := 0, means := [], sig2 := 0 })
  let c := b.setChoice none
  Blk.refsSettle (Blk.wr { c with refs := { c.refs with slots := slots, forced := false } } R.REF_SEL_MODE 1)

/-- Ensemble to select: a switch runs to the slot of R92. -/
def Blk.toSelect (b : Blk) : Blk :=
  let had := !b.contrib.isEmpty
  let c := b.wr R.REF_SEL_MODE 0
  (match c.pick with
    | some k => if had then c.switchTo k b.heldFreq else c.setChoice (some k)
    | none => c).refsSettle

/-- SET_MODE. -/
def Blk.refSetMode (b : Blk) (ref : DRef) (d : Bytes) : Blk :=
  let m := byteAt d 10
  if 1 < m then b.complete ref stMalformed []
  else if b.mode = .follower then b.complete ref stDenied []
  else if b.switching then b.completeBusy ref
  else if b.rd R.REF_SEL_MODE = m then b.complete ref stOk []
  else (if m = 1 then b.toEnsemble else b.toSelect).complete ref stOk []

def execRefSetMode (w r : Nat) (s : State) : Host.Outcome State Fault Refusal :=
  s.upd w fun _ b => b.withDesc r 0x22 (fun d => byteAt d 8 == 9) fun ref d b => b.refSetMode ref d

end Sys2Proof.Machine
end

