-- ==== Sys2Proof/Machine/Eyelets.lean ====
section
/-! DEFINITION. Eyelets and the Awl (06): conditioning of edges, timestamps, records and their queues, intervals,
frequency gates, cycle inputs, the timebase and calibration. -/

namespace Sys2Proof.Machine

/-! ### Channels -/

/-- The channel is in use: its function is not OFF, and an OUTPUT is read back. -/
def Blk.eyeUsed (b : Blk) (e : Nat) : Bool :=
  b.eyeletPresent e && b.eyeFn e != 0 && (b.eyeFn e != 4 || b.flag (R.PIN_EFN_RDBK e))

/-- Edges of the channel are timestamped: in use, bank level right, TIME present. -/
def Blk.eyeLive (b : Blk) (e : Nat) : Bool := b.eyeUsed e && !b.eyes.mismatch && b.eyes.tbPresent && b.ins.running

/-- The divisor of R79 where an EYELET_FREQ slot is bound to the Eyelet. -/
def Blk.freqDiv (b : Blk) (e : Nat) : Option Nat :=
  if b.eyeFn e == 1 && b.boundTo 2 e then some (atLeast1 (ceilDiv (b.rd (R.PIN_ECYC_NOM_MHZ e)) 80000000)) else none

/-- PIN_CAL.DT_K in °C. -/
def Blk.dtK (b : Blk) : Nat := atLeast1 (b.rd R.PIN_CAL_DT_K)

/-- PIN_EST.UNCAL (06 R153). -/
def Blk.uncal (b : Blk) (e : Nat) : Bool :=
  match (b.eyeOf e).calTemp with
  | none => true
  | some t => decide (2 * b.dtK < (b.tj - t).natAbs)

/-- The measurement interval pairs a channel's own transitions (06 R145). -/
def Blk.selfPair (b : Blk) (e : Nat) : Bool := b.rd (R.PIN_EMEAS_MEAS e) == 1 && b.rd (R.PIN_EMEAS_STOP_CH e) == e

/-- The timestamp of an edge whose TIME cycle begins at Insole time i: `pos` is w_c(p) in 0.01 ps (06 R139; log entry
40). -/
def Blk.stampOf (b : Blk) (e : Nat) (i pos : Nat) : Int :=
  let x : Int := (pos % 80000 : Nat) - (b.rd (R.PIN_EDLY_DLY e) : Int) - 100 * b.rdS (R.PIN_EBOARD_BOARD_PS e)
  i + (2 * x * 65536 + 100000) / 200000

/-! ### Records and queues (06 R141 to R144) -/

/-- Count a record dropped on a channel. -/
def Blk.awlLost (b : Blk) (e : Nat) : Blk :=
  (b.setEye e { b.eyeOf e with lost := (b.eyeOf e).lost + 1 }).addF (R.PIN_ECNT_LOST_COUNT e) 1

/-- Put a record into a channel's queue of 1,024 places, four of them for status records. -/
def Blk.awlPush (b : Blk) (e : Nat) (status : Bool) (r : PinRec) : Blk :=
  let x := b.eyeOf e
  if x.queue.length < (if status then 1024 else 1020) then b.setEye e { x with queue := x.queue ++ [r] } else b.awlLost e

/-- NOTV and UNCAL, SPARE. -/
def Blk.awlFlags (b : Blk) (e : Nat) : Nat :=
  2 * b2n (!b.ins.timeValid) + 4 * b2n (b.uncal e) + 4096 * b2n (b.eyeOf e).spare

/-- A record of a channel at Insole time t and elapsed time u. -/
def Blk.awlRec (b : Blk) (e ty chan flags : Nat) (t : Int) (u : Nat) (tail : Bytes) : Blk :=
  b.awlPush e (ty == 0x25) { t := t.toNat, tUp := u, ty := ty, chan := chan, flags := flags, tail := tail }

/-- The tail of a status record. -/
def statusTail (code count : Nat) : Bytes := leB 1 code ++ leB 3 0 ++ leB 4 (satNat count 32)

/-- A status record of a channel at an instant of elapsed time. -/
def Blk.awlStatus (b : Blk) (e code u count : Nat) : Blk :=
  b.awlRec e 0x25 e (b.awlFlags e) ((b.ins.now : Int) - (b.up - u : Nat)) u (statusTail code count)

/-- The function that receives a channel's records can: an open session and an event ring. -/
def Blk.awlFunc (b : Blk) (e : Nat) : Nat := b.rd (R.PIN_EFN_FUNC e)
def Blk.awlTakes (b : Blk) (e : Nat) : Bool := b.sesOpen (b.awlFunc e) && (b.evtOf (b.awlFunc e)).running

/-- The head of a channel's queue goes to the event ring: once TIME has been confirmed at or after its event, or as NOTB
after a loss (06 R142). -/
def Blk.awlDeliver (b : Blk) (e : Nat) : Blk :=
  let b := if b.eyes.tbPresent && b.rst.oscin && b.ins.running then
      { b with eyes := { b.eyes with confirmed := b.ins.now, confirmedUp := b.up } } else b
  let x := b.eyeOf e
  match x.queue with
  | [] => b
  | r :: rest =>
    let late := decide (b.eyes.confirmedUp < r.tUp)
    if late && b.eyes.tbPresent then b
    else
      let b := b.setEye e { x with queue := rest }
      if !b.awlTakes e then b.awlLost e
      else
        let t := if late then b.eyes.confirmed else r.t
        let fl := r.flags + b2n late + 8 * b2n (x.lost != 0)
        let tail := if r.ty = 0x21 then putB r.tail 4 (leB 2 (satNat x.lost 16)) else r.tail
        (b.setEye e { b.eyeOf e with lost := 0 }).record (b.awlFunc e) r.ty r.chan fl t tail

/-! ### Intervals (06 R145 to R147) -/

/-- The tie window in 2^-16 ns. -/
def Blk.tieU (b : Blk) (a : Nat) : Int := (b.rd (R.PIN_EMEAS_TIE a) * 4096 / 10 : Nat)

/-- Whether stamp x is taken before stamp y: by timestamp, the start first on a tie. -/
def PairStamp.before (x y : PairStamp) : Bool := decide (x.t < y.t) || (x.t == y.t && x.isStart)

def insertStamp (x : PairStamp) : List PairStamp → List PairStamp
  | [] => [x]
  | y :: rest => if x.before y then x :: y :: rest else y :: insertStamp x rest

/-- The interval of a start and a stop: steps between them are removed. -/
def Blk.interval (b : Blk) (a : Nat) (x y : PairStamp) : Blk :=
  let i := y.t - x.t - (y.steps - x.steps)
  let fl := b.awlFlags a + 64 * b2n (decide (y.t < x.t)) + 128 * b2n (x.steps != y.steps) + 256 * b2n (x.slews != y.slews)
  b.awlRec a 0x22 (a + 16 * b.rd (R.PIN_EMEAS_STOP_CH a)) fl x.t x.upAt (leB 8 (ofSigned i 64) ++ leB 4 x.seq)

/-- PAIR_MAX in 2^-16 ns. -/
def Blk.pairMax (b : Blk) (a : Nat) : Nat := usU (atLeast1 (b.rd (R.PIN_EPAIR_PAIR_MAX a)))

/-- A stop that meets no armed start: it pairs with a start that follows within the tie window, or is counted. -/
def Blk.stopAlone (b : Blk) (a : Nat) (y : PairStamp) (rest : List PairStamp) : Blk × List PairStamp :=
  match rest with
  | x :: more =>
    if x.isStart && decide (x.t - y.t ≤ b.tieU a) then (b.interval a x y, more)
    else (b.satF (R.PIN_ECNT_ODD_NOSTART a) 1, rest)
  | [] => (b.satF (R.PIN_ECNT_ODD_NOSTART a) 1, rest)

/-- Take one stamp; and the stamps that are left. -/
def Blk.pairOne (b : Blk) (a : Nat) (y : PairStamp) (rest : List PairStamp) : Blk × List PairStamp :=
  let e := b.eyeOf a
  if y.isStart then
    ((b.setEye a { e with armed := some y }).satF (R.PIN_ECNT_ODD_RESTART a) (b2n e.armed.isSome), rest)
  else match e.armed with
  | none => b.stopAlone a y rest
  | some x =>
    let b := b.setEye a { e with armed := none }
    if decide (y.t - x.t - (y.steps - x.steps) > (b.pairMax a : Int)) then
      (b.satF (R.PIN_ECNT_ODD_NOSTOP a) 1).stopAlone a y rest
    else (b.interval a x y, rest)

/-- Pair the stamps that have been held for 100 ns and the tie window; n bounds them. -/
def Blk.pairRun (b : Blk) (a : Nat) : Nat → Blk
  | 0 => b
  | n + 1 =>
    match (b.eyeOf a).stamps with
    | [] => b
    | y :: rest =>
      if (b.up : Int) < y.upAt + nsU 100 + b.tieU a then b
      else
        let r := b.pairOne a y rest
        (r.1.setEye a { r.1.eyeOf a with stamps := r.2 }).pairRun a n

/-- Bring the pairing of every channel up to date. -/
def Blk.pairAll (b : Blk) : Blk :=
  (b.eyes.ch.map (·.1)).foldl (fun b a => b.pairRun a (b.eyeOf a).stamps.length) b

/-- A stamp of channel c for the measurement of channel a. -/
def Blk.pairPut (b : Blk) (a : Nat) (isStart : Bool) (t : Int) (seq : Nat) : Blk :=
  let e := b.eyeOf a
  let y : PairStamp := { t := t, isStart := isStart, seq := seq, steps := b.ins.stepSum, upAt := b.up, slews := b.ins.slewSum }
  b.setEye a { e with stamps := insertStamp y e.stamps }

/-- An armed start whose PAIR_MAX has passed is discarded. -/
def Blk.pairExpire (b : Blk) (a : Nat) : Blk :=
  let b := b.pairAll
  let e := b.eyeOf a
  match e.armed with
  | some x => if x.upAt + b.pairMax a < b.up then (b.setEye a { e with armed := none }).satF (R.PIN_ECNT_ODD_NOSTOP a) 1 else b
  | none => b

/-! ### Frequency (06 R148) -/

/-- The gate length. -/
def Blk.gateU (b : Blk) (c : Nat) : Nat := msU (atLeast1 (b.rd (R.PIN_EMEAS_GATE_MS c)))

/-- Start the gate in which an Insole time lies. -/
def Blk.gateFresh (b : Blk) (c : Nat) (t : Nat) : Blk :=
  b.setEye c { b.eyeOf c with fN := 0, fI := 0, fT := 0, fII := 0, fIT := 0, fGate := t / b.gateU c * b.gateU c
                              fSteps := b.ins.stepSum, fSlew := b.ins.slewSum }

/-- Edges per index: the prescaler, or the divisor of an EYELET_FREQ slot. -/
def Blk.edgeDiv (b : Blk) (c : Nat) : Nat := (b.freqDiv c).getD (2 ^ b.rd (R.PIN_EFN_PRE c))

/-- f in 2^-32 Hz from the sums of a gate; 0 with fewer than two edges. -/
def freqOf (div : Nat) (e : Eyelet) : Nat :=
  let num : Int := e.fN * e.fII - e.fI * e.fI
  let den : Int := e.fN * e.fIT - e.fI * e.fT
  if e.fN < 2 ∨ den ≤ 0 then 0 else (0x100000000 * (div : Int) * secU 1 * num / den).toNat

/-- The gate ends: the fit and its record. -/
def Blk.gateEnd (b : Blk) (c : Nat) : Blk :=
  let e := b.eyeOf c
  let t := e.fGate + b.gateU c
  let fl := b.awlFlags c + 128 * b2n (e.fSteps != b.ins.stepSum) + 256 * b2n (e.fSlew != b.ins.slewSum)
  let b := b.awlRec c 0x23 c fl t b.up (leB 8 (freqOf (b.edgeDiv c) e) ++ leB 4 (satNat e.fN 32))
  b.gateFresh c b.ins.now

/-- The gate in force has ended. -/
def Blk.gateOver (b : Blk) (c : Nat) : Bool :=
  b.rd (R.PIN_EMEAS_MEAS c) == 2 && decide ((b.eyeOf c).fGate + b.gateU c ≤ b.ins.now)

/-- An admitted edge with its index enters the gate. -/
def Blk.gateAdd (b : Blk) (c : Nat) (t : Int) (idx : Nat) : Blk :=
  let b := if b.gateOver c then b.gateEnd c else b
  let e := b.eyeOf c
  let x := t - b.ins.stepSum - ((e.fGate : Int) - e.fSteps)
  if t < e.fGate then b else
    b.setEye c { e with fN := e.fN + 1, fI := e.fI + idx, fT := e.fT + x, fII := e.fII + idx * idx, fIT := e.fIT + idx * x }

/-! ### Cycle inputs (06 R149, R150, 03 R74) -/

/-- MISS_MAX synthetic crossings have come in a row. -/
def Blk.cycWindow (b : Blk) (c : Nat) : Bool := decide (b.rd (R.LST_CYC_MISS_MAX c) ≤ (b.eyeOf c).synthRun) && (b.eyeOf c).cycReal.isSome

/-- The expected point: the last crossing plus P_est; `cycLast` holds it without steps. -/
def Blk.cycNext (b : Blk) (c : Nat) (last : Int) : Int := last + b.ins.stepSum + b.pEst c

/-- Whether a crossing at t is accepted, and whether as a RESYNC. -/
def Blk.cycAccept (b : Blk) (c : Nat) (t : Int) : Option Bool :=
  let e := b.eyeOf c
  match e.cycLast, e.cycReal with
  | some l, some (r, steps) =>
    if b.cycWindow c then
      let i := t - r - (b.ins.stepSum - steps)
      if (usU 10 : Int) ≤ i ∧ i ≤ (secU 10 : Int) then some true else none
    else if e.cycOpen then some false
    else if 64 * (t - b.cycNext c l).natAbs ≤ atLeast1 (b.rd (R.PIN_ECYC_TOL c)) * (b.pEst c).toNat then some false else none
  | _, _ => some false

/-- The tail of an AWL_CYCLE record. -/
def cycTail (n : Nat) (period : Int) : Bytes := leB 4 n ++ leB 8 (ofSigned period 64)

/-- A real crossing at t. Of the first crossing, of one after synthetic ones and of a RESYNC the spec states no period: the
record's period is free (log entry 3). -/
def Blk.crossing (b : Blk) (c : Nat) (t : Int) : Blk :=
  match b.cycAccept c t with
  | none => b.satF (R.PIN_ECNT_ODD_CYC_REJ c) 1
  | some resync =>
    let e := b.eyeOf c
    let per : Option Int := match e.cycReal with
      | some (r, steps) => if resync || e.synthRun != 0 then none else some (t - r - (b.ins.stepSum - steps))
      | none => none
    let b := b.setEye c { e with cycN := e.cycN + 1, cycLast := some (t - b.ins.stepSum), cycReal := some (t, b.ins.stepSum)
                                 synthRun := 0, cycOpen := resync
                                 periods := match per with | some p => (p :: e.periods).take 64 | none => e.periods }
    let shown : Int := per.getD (Config.freeNat b.freeCtr)
    let b := if per.isNone then b.draw 1 else b
    let b := b.awlRec c 0x24 c (b.awlFlags c + 1024 * b2n resync) t b.up (cycTail e.cycN shown)
    ((b.cycCross c t (b.pEst c) false false).cycUnits c t (b.pEst c) false)

/-- No crossing has come within MISS_WIN × P_est of the last: a synthetic one (03 R74). -/
def Blk.synthCross (b : Blk) (c : Nat) : Blk :=
  let e := b.eyeOf c
  match e.cycLast with
  | none => b
  | some l =>
    let p := b.pEst c
    if b.eyeFn c != 3 || !b.ins.running || decide (16 * ((b.ins.now : Int) - b.ins.stepSum - l) < b.rd (R.LST_CYC_MISS_WIN c) * p) then b
    else
      let t := b.cycNext c l
      let run := e.synthRun + 1
      let lost := decide (b.rd (R.LST_CYC_MISS_MAX c) < run)
      let b := b.setEye c { e with cycN := e.cycN + 1, cycLast := some (l + p), synthRun := run }
      let b := b.awlRec c 0x24 c (b.awlFlags c + 512) t b.up (cycTail e.cycN p)
      ((b.cycCross c t p true lost).cycUnits c t p lost)

def execSynth (w e : Nat) (s : State) : Host.Outcome State Fault Refusal := s.upd w fun _ b => (b.synthCross e).txRetry

/-! ### An edge (06 R134 to R138) -/

/-- Where an edge ends: held off or filtered, dropped without a count, suppressed, or admitted. -/
inductive EdgeFate where
  | held | gone | sup | admitted
  deriving DecidableEq, Repr

/-- The EDGE setting as it acts: a CYCLE input takes active edges for both, a channel that pairs its own transitions takes
both (log entry 41). -/
def Blk.edgeSel (b : Blk) (e : Nat) : Nat :=
  let s := b.rd (R.PIN_ECOND_EDGE e)
  if b.selfPair e then 2 else if b.eyeFn e == 3 && s == 2 then 0 else s

/-- Stage 4. -/
def Blk.selected (b : Blk) (e : Nat) (act : Bool) : Bool :=
  match b.edgeSel e with | 0 => act | 1 => !act | _ => true

/-- CHAT_WIN and CHAT_QUIET in 2^-16 ns. -/
def Blk.chatWin (b : Blk) (e : Nat) : Nat := usU (10 * b.rd (R.PIN_ECHAT_CHAT_WIN e))
def Blk.chatQuiet (b : Blk) (e : Nat) : Nat := usU (10 * b.rd (R.PIN_ECHAT_CHAT_QUIET e))

/-- Stages 8 and 9 of an edge that is not in chatter. -/
def Blk.lastStages (b : Blk) (e : Nat) (x : Eyelet) : EdgeFate :=
  if x.stuck then .sup else if b.flag (R.PIN_EFN_GATED e) && !x.windowOpen then .sup else .admitted

/-- Stages 6 to 9 at elapsed time u and timestamp t: the channel after them, the fate, and whether chatter begins. -/
def Blk.stages6 (b : Blk) (e : Nat) (u : Nat) (x : Eyelet) : Eyelet × EdgeFate × Bool :=
  let x := { x with sixAt := u }
  if u < x.holdEnd then (x, .held, false)
  else
    let n := b.rd (R.PIN_ECHAT_CHAT_N e)
    let six := u :: x.six.filter fun v => decide (u ≤ v + b.chatWin e)
    let x := { x with holdEnd := u + nsU (max 20 (b.rd (R.PIN_EHOLD_HOLDOFF e))), six := if n = 0 then [] else six }
    if x.chatter then ({ x with supCnt := x.supCnt + 1 }, .sup, false)
    else if n ≠ 0 ∧ n < six.length then ({ x with chatter := true, supCnt := 1 }, .sup, true)
    else (x, b.lastStages e x, false)

/-- Stages 4 to 9. -/
def Blk.stages4 (b : Blk) (e : Nat) (act : Bool) (u : Nat) (x : Eyelet) : Eyelet × EdgeFate × Bool :=
  if !b.selected e act then (x, .gone, false)
  else
    let n := b.edgeDiv e
    let x := { x with preCnt := (x.preCnt + 1) % n }
    if x.preCnt ≠ 0 then (x, .gone, false)
    else
      let x := { x with idx := x.idx + 1 }
      if (b.freqDiv e).isSome then (x, .admitted, false) else b.stages6 e u x

/-- Count an edge by its fate. -/
def Blk.countFate (b : Blk) (e : Nat) (f : EdgeFate) : Blk :=
  match f with
  | .held => b.addF (R.PIN_ECNT_HELD_COUNT e) 1
  | .sup => b.addF (R.PIN_ECNT_SUP_COUNT e) 1
  | .admitted => b.addF (R.PIN_ECNT_ACC_COUNT e) 1
  | .gone => b

/-- An admitted edge serves as a start of its own channel and as a stop of the channels that name it. -/
def Blk.pairEdge (b : Blk) (e : Nat) (act : Bool) (t : Int) (seq : Nat) : Blk :=
  (List.range 16).foldl (fun b a =>
    if b.rd (R.PIN_EMEAS_MEAS a) != 1 || !b.eyeUsed a then b
    else if a = e then b.pairPut a (!b.selfPair e || act) t seq
    else if b.rd (R.PIN_EMEAS_STOP_CH a) == e then b.pairPut a false t seq else b) b

/-- REC and DECIM: the record of an admitted edge. -/
def Blk.recEdge (b : Blk) (e : Nat) (act : Bool) (t : Int) (seq phase : Nat) (chat : Bool) : Blk :=
  if !b.flag (R.PIN_EFN_REC e) then b else
    let x := b.eyeOf e
    if x.decim < b.rd (R.PIN_EFN_DECIM e) then b.setEye e { x with decim := x.decim + 1 }
    else
      let fl := b.awlFlags e + 16 * b2n chat + 32 * b2n (b.eyeFn e == 4) + 2048 * b2n (!act)
      (b.setEye e { x with decim := 0 }).awlRec e 0x21 e fl t b.up (leB 4 seq ++ leB 2 0 ++ leB 1 (phase % 128))

/-- What follows an admitted edge: SEQ, the measurement, the crossing, the record. -/
def Blk.admitEdge (b : Blk) (e : Nat) (act : Bool) (t : Int) (phase : Nat) : Blk :=
  let x := b.eyeOf e
  let b := b.setEye e { x with seq := (x.seq + 1) % 0x100000000, chatFlag := false }
  let b := b.pairEdge e act t x.seq
  let b := if b.rd (R.PIN_EMEAS_MEAS e) == 2 then b.gateAdd e t x.idx else b
  let b := if b.eyeFn e == 3 && act then b.crossing e t else b
  b.recEdge e act t x.seq phase x.chatFlag

/-- A transition that the glitch filter lets pass. -/
def Blk.transition (b : Blk) (e : Nat) (act : Bool) (t : Int) (phase : Nat) : Blk :=
  let x := { b.eyeOf e with level := act, transAt := b.up }
  let r := b.stages4 e act b.up x
  let fate := if x.stuck && r.2.1 == .admitted then .sup else r.2.1
  let b := (b.setEye e r.1).countFate e fate
  let b := if r.2.2 then b.awlRec e 0x25 e (b.awlFlags e) t b.up (statusTail 3 0) else b
  let b := if x.stuck && !act then
      (b.setEye e { b.eyeOf e with stuck := false }).awlRec e 0x25 e (b.awlFlags e) t b.up (statusTail 2 (b2n (fate == .sup)))
    else b
  if fate == .admitted then b.admitEdge e act t phase else b

/-- Stage 3: a level held for less than MINW is ignored; MINW is in 0.8 ns. -/
def Blk.narrow (b : Blk) (e held : Nat) : Bool :=
  (b.freqDiv e).isNone && decide (held * 5 < b.rd (R.PIN_ECOND_MINW e) * 262144)

/-- An edge at the pad of Eyelet e: the pad goes to `high` and stays there for `held`. -/
def Blk.eyeletEdge (b : Blk) (e : Nat) (high : Bool) (held pos phase : Nat) : Blk :=
  let act := high != b.flag (R.PIN_ECOND_POL e)
  let b := b.pairAll
  let x := b.eyeOf e
  if !b.eyeletPresent e then b
  else if !b.eyeLive e then b.setEye e { x with level := act, transAt := b.up }
  else if act == x.level then (if b.rd (R.PIN_ECOND_MINW e) = 0 then b else b.countFate e .held)
  else if b.narrow e held then b.countFate e .held
  else b.transition e act (b.stampOf e b.ins.now pos) phase

/-- An edge. `held` is how long the new level lasts, which the glitch filter waits for; `pos` is the calibrated position of
the phase in 0.01 ps, `phase` its raw code (log entry 40). -/
def execEyeletEdge (w e : Nat) (high : Bool) (held pos phase : Nat) (s : State) : Host.Outcome State Fault Refusal :=
  s.upd w fun _ b => (b.eyeletEdge e high held pos phase).txRetry

/-! ### Bank, stuck inputs, chatter, pairs and gates -/

/-- MISMATCH as SENSED and LEVEL give it (06 R132). -/
def Blk.bankCheck (b : Blk) : Blk :=
  let m := b.eyes.sensed == 3 || b.eyes.sensed != b.rd R.PIN_BANK_LEVEL
  let c := { b with eyes := { b.eyes with mismatch := m } }
  if m && !b.eyes.mismatch then c.raiseEnv errMismatch 0 else c

/-- The sensed class of VEY changes: 0 to 2 as LEVEL, 3 for none in range. -/
def execMismatch (w sensed : Nat) (s : State) : Host.Outcome State Fault Refusal :=
  s.upd w fun _ b => Blk.bankCheck { b with eyes := { b.eyes with sensed := min 3 sensed } }

/-- The instant at which STUCK_MS has elapsed at the active level, if it has. -/
def Blk.stuckAt (b : Blk) (e : Nat) : Option Nat :=
  let x := b.eyeOf e
  let n := b.rd (R.PIN_ESTUCK_STUCK_MS e)
  if x.stuck || !x.level || n = 0 || !b.eyeLive e || (b.freqDiv e).isSome || decide (b.up < x.transAt + msU n) then none
  else some (x.transAt + msU n)

def execStuckOn (w e : Nat) (s : State) : Host.Outcome State Fault Refusal :=
  s.upd w fun _ b =>
    match b.stuckAt e with
    | some u => (b.setEye e { b.eyeOf e with stuck := true }).awlStatus e 1 u 0
    | none => b

/-- Chatter ends after CHAT_QUIET. -/
def Blk.chatEnd (b : Blk) (e : Nat) : Blk :=
  let x := b.eyeOf e
  let u := x.sixAt + b.chatQuiet e
  if x.chatter && decide (u ≤ b.up) then
    (b.setEye e { x with chatter := false, chatFlag := true, supCnt := 0, six := [] }).awlStatus e 4 u x.supCnt
  else b

def execChatOff (w e : Nat) (s : State) : Host.Outcome State Fault Refusal := s.upd w fun _ b => b.chatEnd e

def execNostop (w e : Nat) (s : State) : Host.Outcome State Fault Refusal := s.upd w fun _ b => b.pairExpire e

def execFreqGateEnd (w e : Nat) (s : State) : Host.Outcome State Fault Refusal :=
  s.upd w fun _ b => if b.gateOver e && b.eyeUsed e then b.gateEnd e else b

/-! ### The timebase (06 R142) -/

/-- Functions that have a channel assigned. -/
def Blk.awlFuncs (b : Blk) : List Nat :=
  (List.range 4).filter fun f => (List.range 16).any fun e => b.eyeUsed e && b.awlFunc e == f

/-- A TB_LOST or TB_BACK record to every function that has a channel. -/
def Blk.tbRecord (b : Blk) (code t : Nat) : Blk :=
  b.awlFuncs.foldl (fun b f => if b.sesOpen f then b.record f 0x25 0xFF 0 t (statusTail code 0) else b) b

/-- The detector loses TIME; the last confirmed instant lies `back` before the end of TIME, at most 1 µs. -/
def Blk.tbLost (b : Blk) (back : Nat) : Blk :=
  if !b.eyes.tbPresent || b.rst.oscin then b else
    let t := max b.eyes.confirmed (b.ins.now - min back (usU 1))
    let c := { b with eyes := { b.eyes with tbPresent := false, confirmed := t
                                            confirmedUp := max b.eyes.confirmedUp (b.rst.oscinUp - min back (usU 1)) } }
    (c.setF R.PIN_STATUS_TB_EVENT).tbRecord 5 t

def execTbLost (w back : Nat) (s : State) : Host.Outcome State Fault Refusal := s.upd w fun _ b => b.tbLost back

/-- TIME is confirmed again: OSCIN runs. The Insole stays stopped until the next boot (15 R405). -/
def execTbBack (w : Nat) (s : State) : Host.Outcome State Fault Refusal :=
  s.upd w fun _ b =>
    if b.eyes.tbPresent || !b.boot.done then b else
      Blk.tbRecord { b with rst := { b.rst with oscin := true }
                            eyes := { b.eyes with tbPresent := true, confirmed := b.ins.now, confirmedUp := b.up } } 6 b.ins.now

def execAwlRecordDeliver (w e : Nat) (s : State) : Host.Outcome State Fault Refusal :=
  s.upd w fun _ b => b.pairAll.awlDeliver e

/-! ### Calibration (06 R152, R153) -/

/-- Channels of the fitted Eyelets. -/
def Blk.eyelets (b : Blk) : List Nat := (List.range 16).filter b.eyeletPresent

/-- The next channel of a rotation after c: the spare (16) comes last, alone with its code-density test. -/
def Blk.rotNext (b : Blk) (c : Nat) : Rotation :=
  match b.eyelets.find? fun e => decide (c < e) with
  | some e => ⟨e, 1⟩
  | none => ⟨16, 3⟩

/-- Start a rotation; one that runs takes the request in. -/
def Blk.rotStart (b : Blk) : Blk :=
  if b.eyes.rot.isSome || !b.ins.running then b
  else { b with eyes := { b.eyes with rot := some ⟨0, 1⟩, rotFrom := b.up } }

/-- A write of PIN_CAL.START: function f needs SETUP; ignored outside COMMISSION. -/
def Blk.calStart (b : Blk) (f : Nat) : Blk := if b.setup f && b.mode == .commission then b.rotStart else b

def execPinStart (w f : Nat) (s : State) : Host.Outcome State Fault Refusal := s.upd w fun _ b => b.calStart f

/-- A periodic start is due, or the die temperature has moved by DT_K since a channel's last calibration. -/
def Blk.calDue (b : Blk) : Bool :=
  let n := b.rd R.PIN_CAL_INT_MIN
  b.flag R.PIN_CAL_AUTO && ((n != 0 && decide (b.eyes.rotFrom + secU (60 * n) ≤ b.up))
    || b.eyelets.any fun e => match (b.eyeOf e).calTemp with | some t => decide (b.dtK ≤ (b.tj - t).natAbs) | none => false)

/-- The periodic check, with the die temperature in °C. -/
def execCalPeriodic (w : Nat) (tj : Int) (s : State) : Host.Outcome State Fault Refusal :=
  s.upd w fun _ b =>
    let b := { b with tj := tj }
    if b.calDue then b.rotStart else b

/-- A comparison of the two stamps of an edge that differ by more than 10 ps. -/
def Blk.calFail (b : Blk) (c diff : Nat) : Blk := (b.awlStatus c 8 b.up diff).raiseEnv errCalFail c

def Blk.setRot (b : Blk) (r : Option Rotation) : Blk := { b with eyes := { b.eyes with rot := r } }

/-- The step of a rotation ends. `edge`: an edge was stamped by both within the 2 ms, `diff` apart in 0.01 ps; `dly`: the d_c
that the calibration has found. A failed comparison skips step 5 (06 R152). -/
def Blk.calStep (b : Blk) (edge : Bool) (diff dly : Nat) : Blk :=
  match b.eyes.rot with
  | none => b
  | some r =>
    let c := r.chan
    let bad := edge && decide (1000 < diff)
    let x := b.eyeOf c
    match r.step with
    | 1 =>
      if bad then (b.calFail c diff).setRot (some ⟨c, 3⟩) else (b.setEye c { x with spare := true }).setRot (some ⟨c, 3⟩)
    | 3 =>
      if c = 16 then b.setRot none
      else ((b.setEye c { x with calTemp := some b.tj, calUp := b.up }).wr (R.PIN_EDLY_DLY c) dly).setRot (some ⟨c, 4⟩)
    | _ =>
      let b := b.setEye c { x with spare := false }
      let b := if bad then b.calFail c diff else if x.spare then b.awlStatus c 7 b.up (b.rd (R.PIN_EDLY_DLY c)) else b
      b.setRot (some (b.rotNext c))

def execCalStepDone (w : Nat) (edge : Bool) (diff dly : Nat) (s : State) : Host.Outcome State Fault Refusal :=
  s.upd w fun _ b => b.calStep edge diff dly

/-- POLICY_SET with the AWL_CAL selector. -/
def execAwlCal (w r : Nat) (s : State) : Host.Outcome State Fault Refusal :=
  s.upd w fun _ b => b.withDesc r 0x31 (fun d => byteAt d 8 == 4) fun ref _ b => b.rotStart.complete ref stOk []

/-! ### A change of function (06 R133) -/

/-- The function of an Eyelet has been set: its cycle input starts afresh, conditioning begins anew and its capture window
is closed (03 R75); SEQ and the queued records stay. -/
def Blk.eyeFnSet (b : Blk) (e : Nat) : Blk :=
  let x := b.eyeOf e
  (b.setEye e { x with stuck := false, chatter := false, supCnt := 0, preCnt := 0, holdEnd := 0, six := [], chatFlag := false
                       windowOpen := false, stamps := [], armed := none
                       cycLast := none, cycReal := none, periods := [], synthRun := 0, cycOpen := true }).gateFresh e b.ins.now

/-- The measurement of a channel has been set: nothing is armed, and the gate in force is the one that holds now. -/
def Blk.measSet (b : Blk) (e : Nat) : Blk := (b.setEye e { b.eyeOf e with stamps := [], armed := none }).gateFresh e b.ins.now

/-- At S8 every channel begins anew on the Insole. -/
def Blk.awlStart (b : Blk) : Blk := b.eyelets.foldl Blk.eyeFnSet b

end Sys2Proof.Machine
end

