-- ==== Sys2Proof/Machine/BootSteps.lean ====
section
/-! DEFINITION. Boot (14 R372 to R378): its start, the steps S0 to S9 with the checks the device makes itself, a failed
step, and the restart. -/

namespace Sys2Proof.Machine

/-! ### Entering a mode -/

/-- LINK falls on every port that is now held down (07 R159). -/
def Blk.linksSync (b : Blk) : Blk :=
  (List.range 32).foldl (fun b p => if (b.portOf p).link && !b.linkCond p then b.linkFall p else b) b

/-- Enter a mode: ACQUIRE starts its acquisition (04 R102); a switch runs in ACQUIRE and LOCKED only (04 R93); steering
follows what contributes (05 R115). -/
def Blk.modeEnter (b : Blk) (m : Mode) (cause : Nat) : Blk :=
  let c := b.changeMode m cause
  let c := if m == .acquire then
      { c with refs := { c.refs with acqStep := max (c.effStep (c.rd R.REF_SEL_ACQ_BW)) (c.effStep (c.rd R.REF_SEL_BW))
                                     acqFrom := none, lockFrom := none, aligned := false, overCnt := 0, atPull := false } }
    else { c with refs := { c.refs with acqFrom := none, lockFrom := none, overCnt := 0, atPull := false } }
  let c := c.linksSync.refsSettle
  if c.switches then c else { c with refs := { c.refs with sw := none } }

/-! ### Start and restart -/

/-- Boot from S0 (14 R372): CFG_FALLBACK shows a start on the start-up oscillator (01 R17). -/
def Blk.bootFrom0 (b : Blk) : Blk :=
  let b := { b with boot := { b.boot with step := some 0, restart := false, done := false } }
  if b.rst.crystal then b else b.setF R.RST_BOOT_CFG_FALLBACK

/-- All device-reach sources are released and CFG runs. -/
def Blk.bootStart (b : Blk) : Blk :=
  if b.mode == .dormant && b.rst.asserted.isEmpty && (b.rst.crystal || b.rst.startOsc) then
    Blk.bootFrom0 (Blk.changeMode { b with rst := { b.rst with seen := [] } } .loading 0)
  else b

def execBootStart (w : Nat) (s : State) : Host.Outcome State Fault Refusal := s.upd w fun _ b => b.bootStart

/-- What an attempt has loaded is set aside: registers return to their reset values, but for KEEP, RST_BOOT and the errors
seen. -/
def Blk.bootRewind (b : Blk) : Blk :=
  { b with regs := b.regs.filter fun e => isKeepKey e.1 || e.1 == R.RST_BOOT || e.1 == R.ERR_STATUS
           ct := {}, eng := {}, ins := {}, laster := {}, refs := {}, heel := {}, hold := {}, outs := {}
           eyes := { sensed := b.eyes.sensed, ch := b.eyes.ch.map fun e => (e.1, { level := e.2.level, transAt := e.2.transAt }) }
           boot := { b.boot with image := none } }

/-- 100 CFG cycles after a failed step. -/
def execBootRestart (w : Nat) (s : State) : Host.Outcome State Fault Refusal :=
  s.upd w fun _ b => if b.mode == .loading && b.boot.restart then b.bootRewind.bootFrom0 else b

/-! ### A failed step (14 R374, R375) -/

/-- Flag the alternative of a step. -/
def Blk.bootFlag (b : Blk) (step lanes0 lanes1 : Nat) : Blk :=
  match step with
  | 2 => { b with boot := { b.boot with copyB := true } }
  | 4 => { b with boot := { b.boot with trainAlt := true } }
  | 6 => { b with boot := { b.boot with lanesAlt := true, laneFail0 := b.boot.laneFail0 ||| lanes0 % 0x100000000
                                        laneFail1 := b.boot.laneFail1 ||| lanes1 % 4 } }
  | 7 => { b with boot := { b.boot with patRom := true } }
  | _ => b

/-- The boot goes on in the minimal configuration, with no alternative. -/
def Blk.bootMinimal (b : Blk) : Blk :=
  { b with boot := { b.boot with minimal := true, copyB := false, trainAlt := false, patRom := false, lanesAlt := false
                                 laneFail0 := 0, laneFail1 := 0 } }

/-- The step after one. -/
def bootNext (minimal : Bool) (n : Nat) : Nat :=
  if !minimal then n + 1 else match n with | 0 => 1 | 1 => 3 | 3 => 8 | _ => 9

/-- S9 has completed in the minimal configuration (02 R26, 14 R375). -/
def Blk.bootDoneMinimal (b : Blk) : Blk :=
  let b := b.bootLog 0xF 8
  Blk.modeEnter { b with boot := { b.boot with done := true, step := none } } .commission 9

/-- A step n fails with a RESULT of R380. In the minimal configuration this is recorded and the boot goes on. -/
def Blk.bootFail (b : Blk) (n result lanes0 lanes1 : Nat) : Blk :=
  if b.boot.minimal then
    let b := b.bootLog n result
    if n = 9 then b.bootDoneMinimal else { b with boot := { b.boot with step := some (bootNext true n) } }
  else
    let b := if b.rst.vkeep then b.satF R.RST_KEEP_FAIL_RUN 1 else b
    let b := (b.bootLog n result).bootFlag n lanes0 lanes1
    let b := { b with boot := { b.boot with restart := true } }
    if 3 ≤ b.rd R.RST_KEEP_FAIL_RUN then b.bootMinimal else b

/-- A step fails its check or passes its limit: RESULT 1 to 5 of R380; at S6 the lanes that failed. -/
def execBootStepFail (w result lanes0 lanes1 : Nat) (s : State) : Host.Outcome State Fault Refusal :=
  s.upd w fun _ b =>
    match b.boot.step with
    | some n => if b.mode == .loading && !b.boot.restart then b.bootFail n (result % 16) lanes0 lanes1 else b
    | none => b

/-! ### The steps -/

/-- What a step that has done its work answers: RESULT of a check that the device makes itself and that fails, with the
fuses and the block after it. -/
abbrev StepOut := Nat × Nvm × Blk

/-- S1: an interrupted lifecycle transition is resumed (14 R384); RETIRED and RMA boot minimal (14 R381). -/
def bootS1 (nvm : Nvm) (b : Blk) : StepOut :=
  let b := if nvm.intent.isSome then { b with lcs := { b.lcs with result := 8 } } else b
  let n := nvm.resume
  (0, n, if n.lifecycle == .retired || n.lifecycle == .rma then b.bootMinimal else b)

/-- One settings record (14 R377): written to every function's copy of a banked register; AUTOSTART is the one RO field that
a record sets. -/
def Blk.applyRecord (b : Blk) (r : Nat × Nat) : Blk :=
  match regRow? r.1 with
  | none => b
  | some (row, _) =>
    let v : Word := BitVec.ofNat 32 r.2
    let keys := if row.banked then (List.range 4).map fun f => bank f r.1 else [r.1]
    let b := keys.foldl (fun b k => { b with regs := rfPut b.regs k (rowWrite true row r.1 v (rfGet b.regs k)) }) b
    if r.1 = R.RST_SERVE then b.wr R.RST_SERVE_AUTOSTART (bitsOf r.2 3 1) else b

/-- The copy that S2 loads. -/
def Blk.bootCopy (nvm : Nvm) (b : Blk) : OlfelCopy := if b.boot.copyB then nvm.copyB else nvm.copyA

/-- S2: a check of R378; an alternative that cannot be taken is RESULT 6. -/
def bootS2 (nvm : Nvm) (b : Blk) : StepOut :=
  let c := b.bootCopy nvm
  if !c.valid then (if b.boot.copyB then 6 else 2, nvm, b)
  else match olfelCheck nvm c.bytes with
  | some .sign => (3, nvm, b)
  | some _ => (2, nvm, b)
  | none =>
    let b := { b with boot := { b.boot with image := some ⟨olfelSvn c.bytes, olfelFactory c.bytes⟩ } }
    (0, nvm, (olfelRecords c.bytes).foldl Blk.applyRecord b)

/-- S4: the trained values are saved, or the saved ones used. -/
def bootS4 (nvm : Nvm) (b : Blk) : StepOut :=
  if b.boot.trainAlt then (if nvm.trained then 0 else 6, nvm, b) else (0, { nvm with trained := true }, b)

/-- S5: the Store is wiped; the key of the client hash is drawn (08 R201). -/
def bootS5 (nvm : Nvm) (b : Blk) : StepOut :=
  (0, nvm, Blk.draw { b with ct := { key := freeBytes 16 b.freeCtr } } 16)

/-- S6: the fixed parts of the timestamp delays of each lane that is present, as measured (log entry 3). -/
def bootS6 (nvm : Nvm) (b : Blk) : StepOut :=
  (0, nvm, (List.range 32).foldl (fun b p =>
    if p < b.part.variant.ports && !bitOf b.boot.laneFail0 p then
      let c := (b.wr (R.PRT_TSDLY_TX_INT p) (Config.freeNat b.freeCtr)).wr (R.PRT_TSDLY_RX_INT p) (Config.freeNat (b.freeCtr + 1))
      c.draw 2
    else b) b)

/-- A Pattern set runs on every fitted Bench. -/
def Blk.runSet (b : Blk) (p : PSet) : Blk :=
  { b with eng := { b.eng with sets := (List.range b.part.variant.benches).map fun i => (i, p) } }

/-- S7: the image's set, or the ROM fallback set where the image carries none or by alternative. -/
def bootS7 (nvm : Nvm) (b : Blk) : StepOut :=
  let rom := Blk.runSet { b with eng := { b.eng with op := some romSet, opImage := [] } } romSet
  if b.boot.patRom then (0, nvm, rom)
  else match olfelPattern (b.bootCopy nvm).bytes with
  | none => (0, nvm, rom)
  | some img =>
    match patCheck nvm.engSvnMin b.part.silicon false img with
    | some x => (if x.2 = 6 then 3 else 2, nvm, b)
    | none => (0, nvm, Blk.runSet { b with eng := { b.eng with op := some (PSet.ofBytes 1 img), opImage := img } } (PSet.ofBytes 1 img))

/-- The Awl's seventeen interpolators are calibrated (06 R151): the delay of each channel as measured (log entry 3). -/
def Blk.awlCalAll (b : Blk) : Blk :=
  (List.range 16).foldl (fun b e =>
    if b.eyeletPresent e then
      Blk.draw ((b.setEye e { b.eyeOf e with calTemp := some b.tj, calUp := b.up }).wr (R.PIN_EDLY_DLY e) (Config.freeNat b.freeCtr)) 1
    else b) b

/-- S8: the Insole starts from the Keep clock or from 0 (03 R44); the DPLL, the Heel, the outputs and the Eyelets start. -/
def Blk.insoleStart (b : Blk) : Blk :=
  let now := secU (b.rtcNow.getD 0)
  let b := { b with ins := { now := now, running := true }
                    eyes := { b.eyes with tbPresent := true, confirmed := now, confirmedUp := b.up, rotFrom := b.up }
                    laster := { b.laster with holdCheck := some (now + secU 1) } }
  let b := b.bankCheck.awlCalAll.srcSync
  let b := (List.range 24).foldl Blk.slotEval b
  b.refsSettle.unitsStart.awlStart

/-- S8 fails where OSCIN is absent: TIME does not lock. -/
def bootS8 (nvm : Nvm) (b : Blk) : StepOut := if b.rst.oscin then (0, nvm, b.insoleStart) else (2, nvm, b)

/-- One DEGRADED error for each alternative in use (14 R374); the detail is the step. -/
def Blk.bootAltErrors (b : Blk) : Blk :=
  let b := if b.boot.copyB then b.raiseEnv errBootAlt 2 else b
  let b := if b.boot.trainAlt then b.raiseEnv errBootAlt 4 else b
  let b := if b.boot.lanesAlt then b.raiseEnv errBootAlt 6 else b
  if b.boot.patRom then b.raiseEnv errBootAlt 7 else b

/-- S9: the boot is complete (14 R374, R375, R380; 02 R26). -/
def bootS9 (nvm : Nvm) (b : Blk) : StepOut :=
  if b.boot.minimal then (0, nvm, b.bootDoneMinimal) else
    let b := (b.wr R.RST_KEEP_FAIL_RUN 0).bootLog 0xF 0
    let b := { b with boot := { b.boot with done := true, step := none } }
    let b := b.modeEnter (if nvm.lifecycle == .deployed && b.flag R.RST_SERVE_AUTOSTART then .acquire else .commission) 0
    (0, nvm, b.bootAltErrors)

/-- The work of step n, once it is done. -/
def bootWork (nvm : Nvm) (b : Blk) : Nat → StepOut
  | 0 => (if b.rst.oscin then 0 else 2, nvm, b)
  | 1 => bootS1 nvm b
  | 2 => bootS2 nvm b
  | 4 => bootS4 nvm b
  | 5 => bootS5 nvm b
  | 6 => bootS6 nvm b
  | 7 => bootS7 nvm b
  | 8 => bootS8 nvm b
  | 9 => bootS9 nvm b
  | _ => (0, nvm, b)

/-- The step that runs has done its work and passes or fails the checks the device makes. -/
def bootStepDone (nvm : Nvm) (b : Blk) : Nvm × Blk :=
  match b.boot.step with
  | none => (nvm, b)
  | some n =>
    if b.mode != .loading || b.boot.restart then (nvm, b) else
      let x := bootWork nvm b n
      if x.1 ≠ 0 then (x.2.1, x.2.2.bootFail n x.1 0 0)
      else if n = 9 then x.2
      else (x.2.1, { x.2.2 with boot := { x.2.2.boot with step := some (bootNext x.2.2.boot.minimal n) } })

def execBootStepDone (w : Nat) (s : State) : Host.Outcome State Fault Refusal := s.updN w bootStepDone

end Sys2Proof.Machine
end

