-- ==== Sys2Proof/Machine/Modes.lean ====
section
/-! DEFINITION. Mode changes of 02: MODE_REQUEST, the drain and the exit from DIAGNOSTIC, lock gained and lost, POLICY_SET
with the FEATURES selector; and the detach of a pair (12 R341), which MODE_REQUEST may bring about. -/

namespace Sys2Proof.Machine

/-! ### Detach (12 R341) -/

/-- At the instant a device ceases to be leader, its sealed responses miss with reason TWIN (09 R258). -/
def Blk.sealTwin (b : Blk) : Blk :=
  let gone := (List.range 32).flatMap fun p => (b.portFrames p).filter TxF.sealed
  let c := gone.foldl (fun b f => Blk.setPort b f.port { b.portOf f.port with armed := (b.portOf f.port).armed.filter fun x => x.id != f.id }) b
  let c := gone.foldl (fun b f => b.frameDrop C.NTS_MISS_TWIN stDropped f) c
  let waiting := (c.nts.ctxs.filter fun e => e.2.missed.isSome).map (·.1)
  waiting.foldl (fun b k => (((b.ctxFree k).inc C.NTS_MISS_TWIN).sealDrop).inc C.CLK_POLICY_DROP) c

/-- Both modules stop the mirror and clear EN[11]; a follower moves to ACQUIRE. -/
def Blk.detached (b : Blk) : Blk :=
  let was := b.twin.attached
  let b := if b.twin.role = 1 then b.sealTwin else b
  let b := b.wr R.RST_FEATURE_EN (putBit (b.rd R.RST_FEATURE_EN) featTwin false)
  let b := b.twinLeave
  let b := if was then b.recTwin 8 0 else b
  if b.mode == .follower then b.modeEnter .acquire 7 else b

/-- A detach from this side is announced over the Welt. -/
def Blk.detach (b : Blk) : Blk :=
  Blk.detached (if b.twin.attached && b.twin.link then b.put (.welt weltDetach []) else b)

/-- A switchover or a handover runs. -/
def Blk.roleChange (b : Blk) : Bool := b.twin.switchRef.isSome || b.twin.handed

/-! ### MODE_REQUEST (02 R38) -/

/-- Whether a signed operational Pattern set is loaded: every working Bench runs it (02 R38; log entry 43). -/
def Blk.opLoaded (b : Blk) : Bool :=
  b.eng.op.isSome && !b.eng.sets.isEmpty && b.eng.sets.all fun e => !e.2.test

/-- MODE_REQUEST to ACQUIRE from another mode. -/
def Blk.askAcquire (b : Blk) (lc : Lifecycle) (ref : DRef) : Blk :=
  if b.mode ≠ .commission ∨ lc = .blank ∨ lc = .retired ∨ lc = .rma ∨ !b.opLoaded ∨ b.err.machineFault ∨ b.err.oscLost then
    b.complete ref stDenied []
  else (b.modeEnter .acquire 1).complete ref stOk []

/-- Begin a drain or an exit. -/
def Blk.askBegin (b : Blk) (ref : DRef) (handover : Bool) : Blk :=
  { b with modeReq := some { target := .commission, handover := handover, ref := ref, from_ := b.flow.seq } }

/-- Every Bench's work in flight ends (02 R40). -/
def Blk.allBenchWork (b : Blk) : Blk := (List.range b.part.variant.benches).foldl Blk.benchWork b

/-- MODE_REQUEST to COMMISSION from another mode. -/
def Blk.askCommission (b : Blk) (ref : DRef) (handover : Bool) : Blk :=
  if b.mode = .diagnostic then (b.askBegin ref false).allBenchWork
  else if b.twin.attached ∧ b.twin.role = 1 then
    if handover then b.askBegin ref true else b.complete ref stDenied []
  else if b.mode = .follower then b.detach.askBegin ref false
  else if b.mode.serving then b.askBegin ref false
  else b.complete ref stDenied []

/-- The rows of R38 in order; the privilege is checked when the descriptor is fetched. -/
def Blk.modeRequest (b : Blk) (lc : Lifecycle) (ref : DRef) (d : Bytes) : Blk :=
  let t := bitsOf (byteAt d 8) 0 3
  if t = 0 ∨ t = 1 ∨ t = 4 ∨ t = 5 ∨ t = 6 then b.complete ref stMalformed []
  else if t = b.mode.code then b.complete ref stOk []
  else if b.modeReq.isSome ∨ b.roleChange then b.complete ref stBusy []
  else if t = 3 then b.askAcquire lc ref
  else if t = 7 then
    if b.mode = .commission then (b.modeEnter .diagnostic 1).complete ref stOk [] else b.complete ref stDenied []
  else b.askCommission ref (bitOf (byteAt d 9) 0)

def execModeRequest (w r : Nat) (s : State) : Host.Outcome State Fault Refusal :=
  s.upd w fun nvm b => b.withDesc r 0x70 (fun _ => true) fun ref d b => b.modeRequest nvm.lifecycle ref d

/-! ### The drain (02 R39) -/

/-- A port whose PAUSE hold exceeds 10 ms drops its remaining responses. -/
def Blk.drainPaused (b : Blk) (p : Nat) : Blk :=
  let q := b.portOf p
  let held := decide (b.up < q.pauseEnd) && (match q.runFrom.find? fun e => e.1 == 8 with
    | some e => decide (e.2 + msU 10 < b.up) | none => false)
  if !held then b else
    let gone := q.queue.filter fun f => f.src == .response
    let b := b.setPort p { q with queue := q.queue.filter fun f => f.src != .response }
    gone.foldl (fun b f => b.frameDrop C.NTS_MISS_PAUSE stDropped f) b

/-- Whether a frame delays the drain: it held egress space before number n, or is a response; a TX_FRAME held for its
launch does not. -/
def drainWaits (n : Nat) (f : TxF) : Bool := f.src == .response || (decide (f.id < n) && !(f.src == .host && f.launch.isSome))

/-- Steps 1 to 3 have ended, and every frame of step 4 below number n has left. -/
def Blk.drained (b : Blk) (n : Nat) : Bool :=
  b.clk.reqs.isEmpty && (b.eng.invs.all fun e => e.2.self) && b.nts.ctxs.isEmpty
  && (List.range 32).all fun p => (b.portFrames p).all fun f => !drainWaits n f

/-- HANDOVER is sent and the claim released (12 R340). -/
def Blk.handOver (b : Blk) : Blk :=
  let b := if b.twin.link then b.put (.welt weltHandover []) else b
  Blk.inc { b with twin := { b.twin with handed := true, claimOut := false } } C.TWN_SWITCHOVER

/-- A drain has ended: of a handover, of a switchover, or of a MODE_REQUEST. -/
def Blk.drainDone (b : Blk) : Blk :=
  let b := (List.range 32).foldl Blk.drainPaused b
  match b.modeReq with
  | some m =>
    if !b.mode.serving || b.twin.handed then b
    else if m.handover then (if b.drained 0 then b.handOver else b)
    else if b.drained m.from_ then (Blk.modeEnter { b with modeReq := none } .commission 1).complete m.ref stOk []
    else b
  | none => if b.twin.switchRef.isSome && !b.twin.handed && b.drained 0 then b.handOver else b

def execDrainDone (w : Nat) (s : State) : Host.Outcome State Fault Refusal := s.upd w fun _ b => b.drainDone.txRetry

/-! ### The exit from DIAGNOSTIC (02 R40) -/

/-- Reload the signed operational set; `ok`: its signature check passes, else the ROM fallback set is loaded. -/
def Blk.reloadOp (b : Blk) (ok : Bool) : Blk :=
  match b.eng.op with
  | none => b
  | some p =>
    if ok then b.runSet p
    else Blk.raiseEnv (Blk.runSet { b with eng := { b.eng with op := some romSet, opImage := [] } } romSet) errPatFallback 0

/-- The exit sequence completes. -/
def Blk.diagExit (b : Blk) (ok : Bool) : Blk :=
  match b.modeReq with
  | some m =>
    if b.mode ≠ .diagnostic then b
    else (((Blk.allBenchWork { b with modeReq := none }).reloadOp ok).modeEnter .commission 1).complete m.ref stOk []
  | none => b

def execDiagnosticExitDone (w : Nat) (ok : Bool) (s : State) : Host.Outcome State Fault Refusal :=
  s.upd w fun _ b => (b.diagExit ok).txRetry

/-! ### Lock (04 R103, R104) -/

/-- LOCK_S in elapsed time. -/
def Blk.lockS (b : Blk) : Nat := secU (b.rd R.REF_LOCK_F_LOCK_S)

/-- In ACQUIRE the criteria have held for LOCK_S. -/
def Blk.acqLocked (b : Blk) : Bool :=
  b.refs.sw.isNone && !b.contrib.isEmpty && b.lockOkNow
  && (match b.refs.lockFrom with | some t => decide (t + b.lockS ≤ b.up) | none => false)

/-- In HOLDOVER, the slots whose dwell counts. -/
def Blk.dwelt (b : Blk) (k : Nat) : Bool :=
  match (b.slotOf k).eligFrom with
  | some t => decide (max (max b.hold.thUp t) (if b.ensMode then 0 else b.refs.choiceFrom) + b.lockS ≤ b.up)
  | none => false

/-- From HOLDOVER: the shadow e is passed to the Insole, and the DPLL takes over at a frequency of its own measure (log
entry 3). -/
def Blk.relock (b : Blk) : Blk :=
  let time := b.shadow.any b.slotTime
  let b := if time then b.align b.shadowErr else b
  let f := b.newFreq
  let b := Blk.draw { b with refs := { b.refs with freq := f, e := 0, eHist := [], fHist := (b.up, f) :: b.refs.fHist } } 1
  b.modeEnter .locked 2

def execLockGained (w : Nat) (s : State) : Host.Outcome State Fault Refusal :=
  s.upd w fun _ b =>
    match b.mode with
    | .acquire => if b.acqLocked then b.modeEnter .locked 2 else b
    | .holdover => if b.shadow.any b.dwelt then b.relock else b
    | _ => b

/-- In LOCKED: no reference contributes (0x04), or the criteria are no longer met (0x03). During a switch the lock state
holds. -/
def Blk.lockLost (b : Blk) : Blk :=
  if b.mode ≠ .locked then b
  else if b.contrib.isEmpty then (b.modeEnter .holdover 4).recHold 1
  else if b.refs.sw.isSome then b
  else if 3 ≤ b.refs.overCnt ∨ b.refs.atPull then (b.modeEnter .holdover 3).recHold 1
  else b

def execLockLost (w : Nat) (s : State) : Host.Outcome State Fault Refusal := s.upd w fun _ b => b.lockLost

/-! ### POLICY_SET FEATURES (02 R37) -/

/-- The new enables of a field: VALUE under MASK. -/
def maskedBits (old value mask : Nat) : Nat := ((old &&& (0xFFFF ^^^ mask)) ||| (value &&& mask)) % 0x2000

/-- The FEATURES selector; a selector outside R308 is MALFORMED. -/
def Blk.setFeatures (b : Blk) (ref : DRef) (d : Bytes) : Blk :=
  let o := byteAt d 9
  let v := leAt d 24 2
  let m := leAt d 26 2
  if byteAt d 8 ≠ 1 then b.complete ref stMalformed []
  else if o = 0xFF then
    let old := b.rd R.RST_FEATURE_EN
    let new := maskedBits old v m
    if bitOf old featTwin ≠ bitOf new featTwin ∨ b.mode = .follower then b.complete ref stDenied []
    else ((b.wr R.RST_FEATURE_EN new).refsSettle).complete ref stOk []
  else if 32 ≤ o then b.complete ref stMalformed []
  else if !b.portPresent o then b.complete ref stAbsent []
  else ((b.wr (R.PRT_FEATURE_EN o) (maskedBits (b.rd (R.PRT_FEATURE_EN o)) v m &&& 0x3FC)).refsSettle).complete ref stOk []

def execPolicySetFeatures (w r : Nat) (s : State) : Host.Outcome State Fault Refusal :=
  s.upd w fun _ b => b.withDesc r 0x31 (fun d => byteAt d 8 == 1 || byteAt d 8 == 0 || decide (7 < byteAt d 8)) fun ref d b =>
    (b.setFeatures ref d).txRetry

end Sys2Proof.Machine
end

