-- ==== Sys2Proof/Machine/Ports.lean ====
section
/-! DEFINITION. The commands of the ports (07): LINK, pauses, the start of a frame, low-power idle, ESMC, gate lists, and
TX_FRAME (11 R305). -/

namespace Sys2Proof.Machine

/-- The port MAC, octet 0 first (07 R191). -/
def Blk.portMac (b : Blk) (p : Nat) : Bytes := beB 2 (b.rdW (R.PRT_MAC1 p)) ++ beB 4 (b.rdW (R.PRT_MAC0 p))

/-! ### LINK (07 R159) -/

/-- What the PCS of a port shows. -/
structure PcsState where
  lock : Bool
  fec : Bool
  aligned : Bool
  local_ : Bool
  remote : Bool
  lpi : Bool

/-- The PCS of port p shows a new state; LINK follows it. -/
def Blk.pcsChange (b : Blk) (p : Nat) (x : PcsState) : Blk :=
  let q := b.portOf p
  let c := b.setPort p { q with lock := x.lock, fecLock := x.fec, aligned := x.aligned, localFault := x.local_
                                remoteFault := x.remote, lpiRx := x.lpi }
  if c.linkCond p == q.link then c
  else if q.link then c.linkFall p
  else ((c.setPort p { c.portOf p with link := true, idleFrom := c.up }).setF (R.PRT_STATUS_LINK_EVENT p)).recLink p true

/-- Slots bound to an object of a kind are evaluated. -/
def Blk.evalBound (b : Blk) (kind obj : Nat) : Blk :=
  (((List.range 24).filter fun k => b.slotKind k == kind && b.slotObj k == obj).foldl Blk.slotEval b).refsSettle

def execLinkChange (w p : Nat) (lock fec aligned localFault remoteFault lpi : Bool) (s : State) : Host.Outcome State Fault Refusal :=
  s.upd w fun _ b =>
    if b.portPresent p then ((b.pcsChange p ⟨lock, fec, aligned, localFault, remoteFault, lpi⟩).evalBound 5 p).txRetry else b

/-! ### PAUSE and PFC (07 R169 to R171) -/

/-- The class of responses of a port. -/
def Blk.serveTc (b : Blk) (p : Nat) : Nat := b.rd (R.PRT_TXCTL_SERVE_TC p)

/-- Missed responses of a port that wait for its pause to end may be re-sealed (09 R256). -/
def Blk.pauseOver (b : Blk) (p : Nat) : Blk :=
  if b.paused p (b.serveTc p) then b else
    { b with nts := { b.nts with ctxs := b.nts.ctxs.map fun e =>
      if e.2.req.port == p && e.2.missed == some 2 && e.2.ready.isNone then (e.1, { e.2 with ready := some b.up }) else e } }

/-- A timer has run out: the pause is over by itself; the re-seals that wait for it may begin. -/
def execPauseExpire (w p : Nat) (s : State) : Host.Outcome State Fault Refusal := s.upd w fun _ b => b.pauseOver p

/-- A hold of the port (key 8) or of a class by pauses without a gap of 1 µs. -/
def pauseHolds (q : Port) (key up : Nat) : Bool := decide (up < (if key = 8 then q.pauseEnd else tget 0 q.pfcEnd key) + usU 1)

/-- Whether a hold has lasted LIMIT_US. -/
def Blk.stormDue (b : Blk) (p : Nat) : Bool :=
  let q := b.portOf p
  q.stormEnd.isNone && q.runFrom.any fun e =>
    pauseHolds q e.1 b.up && decide (e.2 + usU (b.rd (R.PRT_PAUSE_LIMIT_US p)) ≤ b.up)

/-- The port enters the storm state. -/
def Blk.stormBegin (b : Blk) (p : Nat) : Blk :=
  if !b.stormDue p then b else
    let q := b.portOf p
    let c := b.setPort p { q with stormEnd := some (b.up + msU (atLeast1 (b.rd (R.PRT_PAUSE_IGNORE_MS p)))), pauseEnd := b.up
                                  pfcEnd := [], runFrom := [] }
    ((c.inc (C.PRT_PSTORM p)).raiseEnv errStorm p).pauseOver p

def execStorm (w p : Nat) (s : State) : Host.Outcome State Fault Refusal := s.upd w fun _ b => b.stormBegin p

def execStormEnd (w p : Nat) (s : State) : Host.Outcome State Fault Refusal :=
  s.upd w fun _ b =>
    let q := b.portOf p
    match q.stormEnd with
    | some e => if e ≤ b.up then b.setPort p { q with stormEnd := none } else b
    | none => b

/-! ### The start of a frame (07 R173) -/

/-- A committed frame waits again, ahead of its class (log entry 78). -/
def Blk.uncommit (b : Blk) (p : Nat) : Blk :=
  let q := b.portOf p
  match q.commit with
  | some (f, _) =>
    if f.late then b.setPort p { q with commit := none, armed := f :: q.armed } else b.setPort p { q with commit := none, queue := f :: q.queue }
  | none => b

/-- A committed frame starts its preamble, 8 bytes before its point; a pause that has come since holds it. -/
def Blk.startCommit (b : Blk) (f : TxF) (at_ : Int) : Blk :=
  if b.paused f.port f.cls then b.uncommit f.port
  else if b.tm < at_ - b.wireU f.port 8 then b
  else (b.setPort f.port { b.portOf f.port with commit := none }).startBody f (at_ + b.ins.stepSum).toNat

/-- The Closer commits the frame that R173 chooses to the launch point 160 ns ahead (08 R217). -/
def Blk.closerCommit (b : Blk) (p : Nat) : Blk :=
  if !b.canSend p || (b.portOf p).commit.isSome then b else
    let b := b.dropNoFit p (b.portOf p).queue.length
    let L := b.launchPoint p (b.ins.now + nsU 160)
    match b.chooseAt p L with
    | none => b
    | some f =>
      let x := (b.takeFrame f).commitFrame f L
      let c := x.2
      (c.setPort p { c.portOf p with commit := some (f, x.1, (L : Int) - c.ins.stepSum) }).pmcEvent 0x80 (benchOfPort p) 1

def execCloserCommit (w p : Nat) (s : State) : Host.Outcome State Fault Refusal := s.upd w fun _ b => (b.closerCommit p).txRetry

/-- The wire is free: the frame that R173 chooses starts its preamble, its timestamp point at the first launch point that
leaves room for the 8 bytes before it. -/
def Blk.frameStart (b : Blk) (p : Nat) : Blk :=
  if !b.canSend p then b else
    match (b.portOf p).commit with
    | some (_, f, at_) => b.startCommit f at_
    | none =>
      let b := b.dropNoFit p (b.portOf p).queue.length
      let L := b.launchPoint p (b.ins.now + b.wireU p 8)
      match b.chooseAt p L with
      | some f => (b.takeFrame f).startAt f L
      | none => b

def execFrameStart (w p : Nat) (s : State) : Host.Outcome State Fault Refusal := s.upd w fun _ b => (b.frameStart p).txRetry

/-! ### Low-power idle (07 R182, R183) -/

/-- Whether LPI is effective. -/
def Blk.lpiOn (b : Blk) (p : Nat) : Bool :=
  b.pfeat p featLpi && !b.ganged p && b.rd (R.PRT_CTRL_SPEED p) != 0 && !b.portCfgErr p && b.rd (R.PRT_LPI_TW_TX p) != 0

/-- TW_TX. -/
def Blk.twTx (b : Blk) (p : Nat) : Nat := usU (b.rd (R.PRT_LPI_TW_TX p))

/-- Nothing is queued: no frame waits, none is committed, none is late. -/
def Port.idle (q : Port) : Bool := q.queue.isEmpty && q.commit.isNone && q.armed.all fun f => !f.late

/-- A launch lies less than a time away. -/
def Blk.launchWithin (b : Blk) (p u : Nat) : Bool :=
  (b.portOf p).armed.any fun f => match f.launch with | some L => decide (L < b.ins.now + u) | none => false

def execLpiEnter (w p : Nat) (s : State) : Host.Outcome State Fault Refusal :=
  s.upd w fun _ b =>
    let q := b.portOf p
    if b.canSend p && b.lpiOn p && q.idle && decide (q.busyEnd ≤ b.tm)
      && decide (q.idleFrom + usU (atLeast1 (b.rd (R.PRT_LPI_IDLE_US p))) ≤ b.up) && !b.launchWithin p (b.twTx p + usU 2) then
      (b.setPort p { q with lpiTx := true }).inc (C.PRT_LPI_ENTRY p)
    else b

/-- A wake begins: for a queued frame, for a launch, or because LPI is no longer effective. -/
def Blk.lpiWake (b : Blk) (p : Nat) : Blk :=
  let q := b.portOf p
  if q.lpiTx && (!q.idle || b.launchWithin p (b.twTx p + usU 1 + 1) || !b.lpiOn p) then
    b.setPort p { q with lpiTx := false, wakeEnd := b.up + b.twTx p }
  else b

def execLpiWake (w p : Nat) (s : State) : Host.Outcome State Fault Refusal := s.upd w fun _ b => b.lpiWake p

/-! ### ESMC (07 R189, R190) -/

def execQlTimeout (w p : Nat) (s : State) : Host.Outcome State Fault Refusal :=
  s.upd w fun _ b =>
    let q := b.portOf p
    if !q.qlTimeout && decide (q.esmcAt + secU 5 ≤ b.up) then
      (b.setPort p { q with qlTimeout := true, qlRx := 0xF }).evalBound 5 p
    else b

/-- The code a port sends. -/
def Blk.qlCode (b : Blk) (p : Nat) : Nat :=
  if b.contrib.any (fun k => b.slotKind k == 5 && b.slotObj k == p)
    || (match b.refs.selected with | some k => b.slotKind k == 5 && b.slotObj k == p | none => false) then 0xF
  else match b.mode with
  | .locked => b.rd (R.PRT_SYNCE_QL_LOCK p)
  | .follower => b.rd (R.PRT_SYNCE_QL_LOCK p)
  | .holdover => if b.holdExpired then b.rd (R.PRT_SYNCE_QL_UNSYNC p) else b.rd (R.PRT_SYNCE_QL_HOLD p)
  | _ => b.rd (R.PRT_SYNCE_QL_UNSYNC p)

/-- An ESMC PDU: an event PDU or an information PDU with the QL TLV (ITU-T G.8264). -/
def Blk.esmcFrame (b : Blk) (p code : Nat) (event : Bool) : Bytes :=
  let h : Bytes := [0x01, 0x80, 0xC2, 0x00, 0x00, 0x02] ++ b.portMac p ++ [0x88, 0x09, 0x0A, 0x00, 0x19, 0xA7, 0x00, 0x01]
    ++ [if event then 0x18 else 0x10, 0, 0, 0, 0x01, 0x00, 0x04, BitVec.ofNat 8 code]
  h ++ List.replicate (60 - h.length) 0

/-- Queue a frame that the device builds, if there is egress space for it. -/
def Blk.sendBuilt (b : Blk) (f : TxF) : Option Blk :=
  if b.egGrants f.port f.len then some ((b.egTake f.port f.len).queueFrame { f with eg := f.len }) else none

/-- A frame of a port's own making. -/
def builtFrame (p cls : Nat) (src : TxSrc) (data : Bytes) : TxF :=
  { id := 0, port := p, cls := cls, data := data, src := src, eg := 0, heldFrom := 0, stamp := .keep }

/-- An event PDU on a change of the code sent, an information PDU every second. -/
def Blk.esmcTx (b : Blk) (p : Nat) : Blk :=
  let q := b.portOf p
  let code := b.qlCode p
  let event := code != q.qlSent
  if !b.pfeat p featSynceOut || !q.link || b.nearLoop p || !(event || decide (q.esmcTxAt + secU 1 ≤ b.up)) then b
  else match b.sendBuilt (builtFrame p (b.rd (R.PRT_TXCTL_PTP_TC p)) .esmc (b.esmcFrame p code event)) with
  | some c => c.setPort p { c.portOf p with qlSent := code, esmcTxAt := if event then q.esmcTxAt else b.up }
  | none => b

def execEsmcTx (w p : Nat) (s : State) : Host.Outcome State Fault Refusal := s.upd w fun _ b => b.esmcTx p

/-! ### Gate lists (07 R175, R176) -/

/-- The list that an image spells; none where a field is out of its range. -/
def gateImage (word : Nat → Nat) : Option GateList :=
  let n := word 0 % 512
  let sec := word 1 % 0x100000000 + word 2 % 0x10000 * 0x100000000
  let ns := word 3 % 0x40000000
  let cyc := word 4 % 0x40000000
  let ents := (List.range n).map fun i => (word (8 + 2 * i) % 256, word (9 + 2 * i) % 0x100000000)
  if 1 ≤ n ∧ n ≤ 256 ∧ ns < 1000000000 ∧ 1000 ≤ cyc ∧ cyc ≤ 1000000000 ∧ ents.all (fun e => 1 ≤ e.2 ∧ e.2 ≤ 1000000000) then
    some { base := secU sec + nsU ns, cycle := cyc, entries := ents }
  else none

/-- The change time T_c of a list accepted now. -/
def GateList.changeAt (l : GateList) (now : Nat) : Nat :=
  let lim := now + usU 10
  if lim ≤ l.base then l.base else l.base + ceilDiv (lim - l.base) (nsU l.cycle) * nsU l.cycle

/-- Sealed launches of a port whose reservation meets a closed gate under the lists in force and pending miss with reason GATE
(09 R255). -/
def Blk.gateSealed (b : Blk) (p : Nat) : Blk :=
  ((b.portOf p).armed.filter TxF.sealed).foldl (fun b f => match f.launch with
    | some L =>
      let span := b.wireSpan p f.len L
      if b.gateOpen p f.cls span.1 span.2 then b else b.launchFail f 3
    | none => b) b

/-- Arm the change of a port; sealed launches that it closes are missed at once. -/
def Blk.gateArm (b : Blk) (p : Nat) (l : GateList) : Blk :=
  let q := b.portOf p
  Blk.gateSealed { b.setPort p { q with pend := some (l, l.changeAt b.ins.now, b.laster.seq) } with
    laster := { b.laster with seq := b.laster.seq + 1 } } p

/-- An image is rejected. -/
def Blk.gateReject (b : Blk) (p : Nat) : Blk := b.setF (R.PRT_GCL_STATUS_REJECTED p)

/-- POLICY_SET with the GATE_LIST selector; `img` is what host memory held. -/
def Blk.policyGate (b : Blk) (ref : DRef) (d img : Bytes) : Blk :=
  let p := byteAt d 9
  let bs := sliceB img 0 (leAt d 12 4)
  if 32 ≤ p then b.complete ref stMalformed []
  else if !b.portPresent p then b.complete ref stAbsent []
  else match gateImage fun i => leAt bs (4 * i) 4 with
  | none => (b.gateReject p).complete ref stMalformed []
  | some l => if (b.portOf p).pend.isSome then b.complete ref stBusy [] else (b.gateArm p l).complete ref stOk []

def execPolicySetGateList (w r : Nat) (img : Bytes) (s : State) : Host.Outcome State Fault Refusal :=
  s.upd w fun _ b => b.withDesc r 0x31 (fun d => byteAt d 8 == 2) fun ref d b => b.policyGate ref d img

/-- POLICY_SET with the PORT_LPI selector (07 R184). -/
def Blk.policyLpi (b : Blk) (ref : DRef) (d : Bytes) : Blk :=
  let p := byteAt d 9
  if 32 ≤ p then b.complete ref stMalformed []
  else if !b.portPresent p then b.complete ref stAbsent []
  else (b.wr (R.PRT_LPI_TW_TX p) (leAt d 24 2)).complete ref stOk []

def execPolicySetPortLpi (w r : Nat) (s : State) : Host.Outcome State Fault Refusal :=
  s.upd w fun _ b => b.withDesc r 0x31 (fun d => byteAt d 8 == 3) fun ref d b => b.policyLpi ref d

/-- PRT_GCL_CTRL.COMMIT written by function f: the image in the port's own buffer replaces any pending change. -/
def Blk.gateCommit (b : Blk) (f p : Nat) : Blk :=
  if !b.setup f || b.mode != .commission || !b.portPresent p then b
  else match gateImage fun i => tget 0 (b.portOf p).image i with
  | none => b.gateReject p
  | some l => b.gateArm p l

def execGclCommit (w f p : Nat) (s : State) : Host.Outcome State Fault Refusal := s.upd w fun _ b => b.gateCommit f p

/-- PRT_GCL_CTRL.ABORT written by function f. -/
def Blk.gateAbort (b : Blk) (f p : Nat) : Blk :=
  if !b.setup f || b.mode != .commission || !b.portPresent p then b else b.setPort p { b.portOf p with pend := none }

def execGclAbort (w f p : Nat) (s : State) : Host.Outcome State Fault Refusal := s.upd w fun _ b => b.gateAbort f p

/-- ADDR advances. -/
def Blk.gateNext (b : Blk) (p : Nat) : Blk := b.addF (R.PRT_GCL_ADDR_ADDR p) 1

/-- A read of PRT_GCL_DATA by function f. -/
def Blk.gateRead (b : Blk) (f p : Nat) : Blk × Nat :=
  if !b.sesOpen f || !b.portPresent p then (b, 0)
  else
    let a := b.rd (R.PRT_GCL_ADDR_ADDR p)
    (b.gateNext p, if a < 520 then tget 0 (b.portOf p).image a else 0)

/-- A write of v to PRT_GCL_DATA by function f: DATA is RWL. -/
def Blk.gateWrite (b : Blk) (f p v : Nat) : Blk :=
  if !b.setup f || !b.portPresent p then b else
    let a := b.rd (R.PRT_GCL_ADDR_ADDR p)
    let q := b.portOf p
    let c := if b.mode == .commission && decide (a < 520) then
        b.setPort p { q with image := if v % 0x100000000 = 0 then tdel q.image a else tput q.image a (v % 0x100000000) }
      else b
    c.gateNext p

def execPrtGclDataAccess (w f p : Nat) (write : Bool) (v : Nat) (s : State) : Host.Outcome State Fault Refusal :=
  s.upd w fun _ b =>
    if write then b.gateWrite f p v
    else (b.gateRead f p).1.put (.readData f (R.PRT_GCL_DATA p) [BitVec.ofNat 32 (b.gateRead f p).2])

/-! ### TX_FRAME (11 R305, 07 R165, R168) -/

/-- Whether the Closer can compute the checksums asked for (07 R168). -/
def csumOk (alt : Nat) (ip l4 : Bool) (bs : Bytes) : Bool :=
  if !ip && !l4 then true else
    let l := layOf alt bs
    if l.third then false
    else if l.et = 0x0800 then
      let ihl := byteAt bs l.off % 16
      let tot := beAt bs (l.off + 2) 2
      if ihl < 5 ∨ bs.length < l.off + tot ∨ tot < 4 * ihl then false
      else if !l4 then true
      else !ipFrag alt bs && byteAt bs (l.off + 9) == 17 && decide (8 ≤ beAt bs (l.off + 4 * ihl + 4) 2)
        && decide (beAt bs (l.off + 4 * ihl + 4) 2 ≤ tot - 4 * ihl)
    else if l.et = 0x86DD then
      !ip && byteAt bs (l.off + 6) == 17 && decide (l.off + 40 + beAt bs (l.off + 4) 2 ≤ bs.length)
        && decide (8 ≤ beAt bs (l.off + 44) 2) && decide (beAt bs (l.off + 44) 2 ≤ beAt bs (l.off + 4) 2)
    else false

/-- The launch time of a descriptor: none where LAUNCH = 0; an all-zero time names none and is MALFORMED with LAUNCH = 1,
as is one more than 100 ms after acceptance. -/
def launchTime (now : Nat) (d : Bytes) : Option (Option Nat) :=
  if !bitOf (byteAt d 19) 5 then some none
  else match timeAt d 20 with
  | none => none
  | some t => if t = 0 ∨ now + msU 100 < t then none else some (some t)

/-- The frame of a TX_FRAME, padded. -/
def Blk.txFrameOf (b : Blk) (ref : DRef) (d data : Bytes) (L : Option Nat) : TxF :=
  let fl := byteAt d 19
  let p := byteAt d 18 % 32
  let data := data ++ List.replicate (60 - data.length) 0
  { id := 0, port := p, cls := fl % 8, data := data, src := .host, eg := data.length + 4, heldFrom := b.leaseNow, stamp := .keep
    ipCsum := bitOf fl 3, l4Csum := bitOf fl 4, launch := L, lateSkip := bitOf fl 6, ref := some ref, wantTs := bitOf fl 5 || bitOf fl 7 }

/-- A TX_FRAME takes its resources, or waits for them: up to TXW_US, or under escalation before every new claimant. -/
def Blk.txClaim (b : Blk) (ref : DRef) (f : TxF) : Blk :=
  if f.launch.isNone && !(b.portOf f.port).link then b.txGrant f
  else if b.txFits f && !b.egClaimed f.port then b.txGrant f
  else
    let esc := b.escalated ref.ring 1
    let c := b.setBegun ref false
    let c := { c with flow := { c.flow with waits := (if esc then [TxWait.mk ref f b.up true] else []) ++ c.flow.waits
                                                       ++ (if esc then [] else [TxWait.mk ref f b.up false]) } }
    if esc then c.inc C.FLC_RETRY_HELD else c

/-- A TX_FRAME begins; `data` is what host memory held. -/
def Blk.txFrame (b : Blk) (ref : DRef) (d data : Bytes) : Blk :=
  let p := byteAt d 18 % 32
  let fl := byteAt d 19
  let n := leAt d 16 2
  let data := sliceB data 0 n
  if !b.portPresent p then b.complete ref stAbsent []
  else match launchTime b.ins.now d with
  | none => b.complete ref stMalformed []
  | some L =>
    if b.rd (R.PRT_MAXFRAME_MAXFRAME p) < n + 4 then (b.inc (C.PRT_TX_OVERSIZE p)).complete ref stMalformed []
    else if n < 14 ∨ (n < 60 ∧ !b.flag (R.PRT_TXCTL_PAD p)) then b.complete ref stMalformed []
    else if !csumOk (b.tpid p) (bitOf fl 3) (bitOf fl 4) data then b.complete ref stMalformed []
    else
      let b := if n < 60 then b.inc (C.PRT_TX_PAD p) else b
      b.txClaim ref (b.txFrameOf ref d data L)

def execTxFrame (w r : Nat) (data : Bytes) (s : State) : Host.Outcome State Fault Refusal :=
  s.upd w fun _ b => b.withDesc r 0x01 (fun _ => true) fun ref d b => b.txFrame ref d data

/-- The completion of the oldest TX_FRAME that has left or missed its launch is written. -/
def execTxFrameDone (w : Nat) (s : State) : Host.Outcome State Fault Refusal :=
  s.upd w fun _ b =>
    match b.flow.done with
    | x :: rest => Blk.complete { b with flow := { b.flow with done := rest } } x.1 x.2.1 x.2.2
    | [] => b

end Sys2Proof.Machine
end

