-- ==== Sys2Proof/Machine/Respond.lean ====
section
/-! DEFINITION. What leaves the serving path: the exception path (08 R196, R197), the markings of responses (02 R30), the
headers of 08 R216 with the plain Kiss-o'-Death of R203, and service addresses (R194). -/

namespace Sys2Proof.Machine

/-! ### The exception path (08 R196, R197) -/

def excNotService : Nat := 1
def excMode : Nat := 2
def excVersion : Nat := 3
def excFormat : Nat := 4
def excNtpUnserved : Nat := 5
def excNtsUnserved : Nat := 6
def excMalformed : Nat := 7
def excNeighbour : Nat := 8
def excLldp : Nat := 9
def excPtp : Nat := 10
def excNts : Nat := 11
def excPattern : Nat := 12
def excOverrun : Nat := 13
def excOther : Nat := 14
def excSlow : Nat := 15

/-- A token bucket in units of 1/65536000000000: the tokens after the time since they were counted, at `rate` tokens a
second with a depth of `burst`. -/
def bucketNow (tokens at_ up rate burst : Nat) : Nat := min (burst * secU 1) (tokens + (up - at_) * rate)

/-- Slots of 16 KiB in the exception frame spill (01 R19). -/
def Variant.spillSlots : Variant → Nat
  | .kt880 => 32768 | .kt860 => 32768 | _ => 16384

/-- The posted buffers of the exception ring, oldest first, while its function has an open session. -/
def Blk.rxBufs (b : Blk) : List Desc :=
  let r := b.rd R.CLK_EXC_RING
  if b.ringSes r then (b.ringOf r).descs.filter Desc.isRx else []

/-- A frame joins those that wait for a buffer, or is dropped where the spill is full. -/
def Blk.excHold (b : Blk) (e : ExcF) : Blk :=
  let spilled := decide (b.rxBufs.length ≤ b.clk.exc.length)
  if spilled && decide (b.part.variant.spillSlots ≤ (b.clk.exc.filter (·.spilled)).length) then b.inc C.CLK_EXC_DROP
  else { b with clk := { b.clk with exc := b.clk.exc ++ [{ e with spilled := spilled }] } }

/-- A frame bound for the exception ring: masked, over the rate, or held for delivery in the order of classification, in
the spill where no buffer waits for it. -/
def Blk.excPut (b : Blk) (p t2 : Nat) (steps : Int) (reason : Nat) (data : Bytes) : Blk :=
  if !bitOf (b.rd R.CLK_EXC_MASK_PASS) reason then b.inc C.CLK_EXC_MASKED
  else
    let tok := bucketNow b.clk.excTokens b.clk.excAt b.up (100 * atLeast1 (b.rd R.CLK_EXC_RATE)) 1024
    if tok < secU 1 then Blk.inc { b with clk := { b.clk with excTokens := tok, excAt := b.up } } C.CLK_EXC_LIMIT
    else
      Blk.excHold { b with clk := { b.clk with excTokens := tok - secU 1, excAt := b.up } } ⟨p, t2, steps, reason, data, false⟩

/-- The 16 result bytes of an RX_BUFFER completion (11 R305). -/
def excResult (e : ExcF) (t2 len : Nat) : Bytes :=
  leB 2 e.data.length ++ leB 1 e.port ++ leB 1 e.reason ++ leB 4 (shortOf t2)
    ++ leB 1 (b2n (decide (len < e.data.length)) + 2 * b2n e.spilled)

/-- The oldest held frame fills the oldest posted buffer; T2 is moved by the steps since (11 R316). -/
def Blk.excDeliver (b : Blk) : Blk :=
  match b.clk.exc, b.rxBufs with
  | e :: rest, d :: _ =>
    let ref : DRef := ⟨b.rd R.CLK_EXC_RING, d.id⟩
    let len := leAt d.data 16 2
    let adj := b.ins.stepSum - e.steps
    let t2 := ((e.t2 : Int) + adj).toNat
    let c := Blk.put { b with clk := { b.clk with exc := rest } } (.hostWrite (b.funcOf ref) (leAt d.data 8 8) (e.data.take len))
    (c.inc C.CLK_EXC_FRAMES).completeX ref stOk (excResult e t2 len) (adj != 0)
  | _, _ => b

def execExcDeliver (w : Nat) (s : State) : Host.Outcome State Fault Refusal := s.upd w fun _ b => b.excDeliver

/-! ### Service addresses (08 R194) -/

/-- The address of service entry i. -/
def Blk.svcAddr (b : Blk) (i : Nat) : Bytes :=
  let a := beB 4 (b.rdW (R.CLK_SVC_ADDR0 i))
  if b.flag (R.CLK_SVC_CFG_V6 i) then
    a ++ beB 4 (b.rdW (R.CLK_SVC_ADDR1 i)) ++ beB 4 (b.rdW (R.CLK_SVC_ADDR2 i)) ++ beB 4 (b.rdW (R.CLK_SVC_ADDR3 i))
  else a

/-- The innermost VID of a frame, 0 where it is untagged. -/
def innerVid (alt : Nat) (bs : Bytes) : Nat :=
  let l := layOf alt bs
  if l.tags = 0 then 0 else beAt bs (l.off - 4) 2 % 4096

/-- Whether service entry i is valid on port p for a VID. -/
def Blk.svcValid (b : Blk) (p vid i : Nat) : Bool :=
  b.flag (R.CLK_SVC_CFG_VALID i) && bitOf (b.rdW (R.CLK_SVC_PORTS i)) p
  && (b.flag (R.CLK_SVC_CFG_VID_ANY i) || b.rd (R.CLK_SVC_CFG_VID i) == vid)

/-- The lowest entry valid on port p whose address is this one. -/
def Blk.svcMatch (b : Blk) (p vid : Nat) (v6 : Bool) (addr : Bytes) : Option Nat :=
  (List.range 64).find? fun i => b.svcValid p vid i && b.flag (R.CLK_SVC_CFG_V6 i) == v6 && b.svcAddr i == addr

/-! ### Markings (02 R30) -/

/-- The slot whose markings responses carry: none in an unsynchronised state. -/
def Blk.markSlot (b : Blk) : Option Nat :=
  if b.unsync then none
  else match b.mode with
  | .holdover => b.refs.holdSlot
  | _ => if b.ensMode then b.heaviest b.contrib else b.refs.selected

/-- The time error E in ns times 10^15: the estimate of the reference or of the ensemble, for which the spec gives no
number (log entry 3), with a slew in progress (04 R104); the Heel's bound; 16 s while unsynchronised. -/
def Blk.timeErr (b : Blk) : Nat :=
  if b.unsync then 16000000000 * 1000000000000000
  else match b.mode with
  | .holdover => b.holdE
  | _ => Config.freeNat b.freeCtr + (if b.ensMode then 0 else ceilDiv (b.ins.slewRem.natAbs * 1000000) 65536)

/-- Seconds in an unsigned 16.16 format, rounded up, of a time in ns times 10^15. -/
def to1616 (e : Nat) : Nat := min 0xFFFFFFFF (ceilDiv (e * 65536) 1000000000000000000000000)

/-- The stratum: of the slot, or in LOCKED and ensemble mode the lowest of the contributors. -/
def Blk.markStratum (b : Blk) : Nat :=
  match b.markSlot with
  | none => 16
  | some k =>
    if b.mode != .holdover && b.ensMode then (b.contrib.map fun j => b.rd (R.REF_SRC_STRATUM j)).foldl min 15
    else b.rd (R.REF_SRC_STRATUM k)

/-- The reference identifier. -/
def Blk.markId (b : Blk) : Bytes :=
  match b.markSlot with
  | none => ascii "INIT"
  | some k => beB 4 (b.rd (R.REF_REFID_ID k))

/-- The reference timestamp as an Insole time (08 R216); none while unsynchronised. -/
def Blk.markTime (b : Blk) : Option Int :=
  match b.markSlot with
  | none => none
  | some k =>
    if b.mode == .holdover then some (b.hold.th : Int)
    else if b.ensMode then b.refs.ensAt else (b.slotOf k).cmpAt

/-- The root delay in 16.16 seconds (08 R216): twice the mean path delay of a selected PTP_REF slot. The spec gives no value
where that delay is negative (log entry 3). -/
def Blk.rootDelay (b : Blk) : Nat :=
  if b.ensMode then 0 else
  match b.refs.selected with
  | some k =>
    if b.slotKind k = 4 then
      let d := (b.clientOf (b.slotObj k)).hat
      if d < 0 then Config.freeNat (b.freeCtr + 1) % 0x100000000 else min 0xFFFFFFFF (ceilDiv (2 * d.toNat) 1000000000)
    else 0
  | none => 0

/-! ### NTP headers (08 R203, R216) -/

/-- The 48 bytes of the NTP header of a request. -/
def Req.ntp (alt : Nat) (r : Req) : Bytes :=
  match udpPay alt r.data with
  | some (o, _) => sliceB r.data o 48
  | none => List.replicate 48 0

/-- LI, VN of the request, mode 4. -/
def ntpFirst (li : Nat) (req : Bytes) : Bytes := [BitVec.ofNat 8 (64 * li + byteAt req 0 / 8 % 8 * 8 + 4)]

/-- The precision of a port. -/
def Blk.ntpPrecision (b : Blk) (p : Nat) : Byte := if b.rd (R.PRT_CTRL_SPEED p) = 0 then 0xE2 else 0xE0

/-- The header of a normal response; its transmit timestamp is x. -/
def Blk.ntpHead (b : Blk) (r : Req) (x : Nat) : Bytes :=
  let q := r.ntp (b.tpid r.port)
  let li := if b.unsync then 3 else b.leapInd
  ntpFirst li q ++ leB 1 b.markStratum ++ sliceB q 2 1 ++ [b.ntpPrecision r.port] ++ beB 4 b.rootDelay ++ beB 4 (to1616 b.timeErr)
    ++ b.markId ++ beB 8 (match b.markTime with | some t => b.ntp64 t | none => 0) ++ sliceB q 40 8 ++ beB 8 (b.ntp64 r.t2) ++ beB 8 x

/-- The larger of two poll exponents, which are signed. -/
def pollMax (x y : Nat) : Nat := if toSigned x 8 < toSigned y 8 then y else x

/-- The header of a Kiss-o'-Death (08 R203, 09 R242): no server time. -/
def Blk.kodHead (b : Blk) (r : Req) (code : String) (poll : Nat) : Bytes :=
  let q := r.ntp (b.tpid r.port)
  let x := sliceB q 40 8
  ntpFirst 3 q ++ [0] ++ leB 1 poll ++ [b.ntpPrecision r.port] ++ List.replicate 8 0 ++ ascii code ++ List.replicate 8 0 ++ x ++ x ++ x

/-- The poll of a request. -/
def Blk.reqPoll (b : Blk) (r : Req) : Nat := byteAt (r.ntp (b.tpid r.port)) 2

/-! ### Response frames (08 R216, 07 R166) -/

/-- An IP packet with UDP from the addresses given; checksums are the Closer's. -/
def udpPacket (v6 : Bool) (src dst : Bytes) (sport dport ttl tos : Nat) (pay : Bytes) : Bytes :=
  let udp := beB 2 sport ++ beB 2 dport ++ beB 2 (pay.length + 8) ++ [0, 0] ++ pay
  if v6 then
    beB 4 (0x60000000 + tos * 0x100000) ++ beB 2 udp.length ++ [17, BitVec.ofNat 8 ttl] ++ src ++ dst ++ udp
  else
    [0x45, BitVec.ofNat 8 tos] ++ beB 2 (20 + udp.length) ++ [0, 0, 0x40, 0] ++ [BitVec.ofNat 8 ttl, 17, 0, 0] ++ src ++ dst ++ udp

/-- Pad a frame without its FCS to 60 bytes. -/
def pad60 (bs : Bytes) : Bytes := bs ++ List.replicate (60 - bs.length) 0

/-- The frame that answers a request with an NTP payload: addresses and ports swapped, its tags kept. -/
def Blk.answerFrame (b : Blk) (r : Req) (pay : Bytes) : Bytes :=
  let alt := b.tpid r.port
  match ipOf alt r.data with
  | none => []
  | some ip =>
    let et : Bytes := if ip.v6 then [0x86, 0xDD] else [0x08, 0x00]
    pad60 (sliceB r.data 6 6 ++ b.portMac r.port ++ tagBytes alt r.data ++ et
      ++ udpPacket ip.v6 ip.dst ip.src (beAt r.data (ip.off + 2) 2) (beAt r.data ip.off 2) (b.rd R.CLK_CTRL_TTL) (4 * b.rd R.CLK_CTRL_DSCP) pay)

/-- A response as a frame in the class SERVE_TC. -/
def Blk.answer (b : Blk) (r : Req) (eg : Nat) (stamp : Stamp) (pay : Bytes) : TxF :=
  { builtFrame r.port (b.serveTc r.port) .response (b.answerFrame r pay) with eg := eg, stamp := stamp, ipCsum := true, l4Csum := true }

end Sys2Proof.Machine
end

