-- ==== Sys2Proof/Machine/Nts.lean ====
section
/-! DEFINITION. NTS (09): extension fields and their structure (08 R195, 09 R238), opening of cookies and checking of
requests (R239), new cookies and sealed payloads (R241 to R243), and the commands that install, retire and empty key epochs
(R245 to R248) and end context leases (R233). -/

namespace Sys2Proof.Machine

/-! ### Extension fields -/

/-- One extension field: its type, place in the UDP payload and length. -/
structure Ext where
  ty : Nat
  off : Nat
  len : Nat

/-- The chain of extension fields from an offset to the end of a payload (08 R195 stage 4). -/
def extChain (pay : Bytes) : Nat → Nat → Option (List Ext)
  | 0, off => if off = pay.length then some [] else none
  | n + 1, off =>
    if off = pay.length then some []
    else
      let len := beAt pay (off + 2) 2
      if len < 16 ∨ len % 4 ≠ 0 ∨ pay.length < off + len then none
      else (extChain pay n (off + len)).map fun l => ⟨beAt pay off 2, off, len⟩ :: l

/-- The extension fields of an NTP payload. -/
def extsOf (pay : Bytes) : Option (List Ext) := extChain pay (pay.length / 16) 48

/-- Whether a field is one of NTS. -/
def Ext.nts (e : Ext) : Bool := e.ty == 0x0104 || e.ty == 0x0204 || e.ty == 0x0304 || e.ty == 0x0404

/-- The number of new cookies a request asks for (08 R219). -/
def cookiesAsked (l : List Ext) : Nat := min 8 (1 + (l.filter fun e => e.ty == 0x0304).length)

/-- The UDP payload of a request. -/
def Req.pay (alt : Nat) (r : Req) : Bytes :=
  match udpPay alt r.data with
  | some (o, n) => sliceB r.data o n
  | none => []

/-- What R238 finds in an NTS request: the Unique Identifier field whole, the cookie, the bytes before the authenticator, its
nonce and its ciphertext. -/
structure NtsReq where
  uid : Bytes
  cookie : Bytes
  ad : Bytes
  nonce : Bytes
  ct : Bytes

/-- Round up to a multiple of 4. -/
def pad4 (n : Nat) : Nat := (n + 3) / 4 * 4

/-- The structure checks of R238. -/
def ntsParse (pay : Bytes) : Option NtsReq :=
  match extsOf pay with
  | none => none
  | some l =>
    let of_ := fun t => l.filter fun e => e.ty == t
    match of_ 0x0104, of_ 0x0204, of_ 0x0404, l.getLast? with
    | [u], [c], [_], some a =>
      let cookie := sliceB pay (c.off + 4) 104
      let nl := beAt pay (a.off + 4) 2
      let cl := beAt pay (a.off + 6) 2
      if a.ty = 0x0404 ∧ 36 ≤ u.len ∧ u.len ≤ 68 ∧ c.len = 108 ∧ byteAt cookie 0 = 1 ∧ byteAt cookie 103 = 0
          ∧ (of_ 0x0304).all (fun e => e.len == 108) ∧ 16 ≤ nl ∧ 16 ≤ cl ∧ 8 + pad4 nl + pad4 cl = a.len then
        some { uid := sliceB pay u.off u.len, cookie := cookie, ad := sliceB pay 0 a.off, nonce := sliceB pay (a.off + 8) nl
               ct := sliceB pay (a.off + 8 + pad4 nl) cl }
      else none
    | _, _, _, _ => none

/-! ### Cookies (09 R236 to R239) -/

/-- The pool index cookies carry: the leader's on a follower (02 R35). -/
def Blk.poolIdx (b : Blk) : Nat := b.twin.poolIdx.getD (b.rd R.NTS_POOL_INDEX)

/-- The slot of a live epoch with an identifier. -/
def Blk.liveEpoch (b : Blk) (id : Nat) : Option Nat :=
  (List.range 4).find? fun n => let e := b.epochOf n; (e.st == 1 || e.st == 2 || e.st == 3) && e.id == id

/-- What opening a cookie finds: the counter of the check that fails, or the slot of its epoch, its pool index and the keys C2S
and S2C. -/
inductive Opened where
  | fail (counter : Nat)
  | ok (slot pool : Nat) (c2s s2c : Bytes)

/-- Checks 1 to 4 of R239. -/
def Blk.cookieOpen (b : Blk) (c : Bytes) : Opened :=
  let pool := beAt c 3 2
  match b.liveEpoch (beAt c 1 2) with
  | none => .fail C.NTS_OPEN_FAIL_EPOCH
  | some n =>
    if pool / 4096 ≠ 0 ∨ (!b.feat featPool ∧ pool % 4096 ≠ b.poolIdx) then .fail C.NTS_OPEN_FAIL_POOL
    else match sivOpen (b.epochOf n).key [sliceB c 0 5, sliceB c 5 16] (sliceB c 87 16) (sliceB c 21 66) with
    | none => .fail C.NTS_OPEN_FAIL_SIV
    | some p => if beAt p 0 2 ≠ 0x000F then .fail C.NTS_OPEN_FAIL_SIV else .ok n (pool % 4096) (sliceB p 2 32) (sliceB p 34 32)

/-- Check 5 of R239: the request's authenticator under C2S. -/
def NtsReq.authentic (q : NtsReq) (c2s : Bytes) : Bool :=
  (sivOpen c2s [q.ad, q.nonce] (sliceB q.ct 0 16) (q.ct.drop 16)).isSome

/-- The checks of R239 with their counters: the keys where all pass. -/
def Blk.ntsCheck (b : Blk) (q : NtsReq) : Blk × Option (Bytes × Bytes) :=
  match b.cookieOpen q.cookie with
  | .fail c => (b.inc c, none)
  | .ok n pool c2s s2c =>
    let b := (b.inc C.NTS_OPEN_OK).inc (C.NTS_EPOCH_OPEN n)
    let b := if pool ≠ b.poolIdx then b.inc C.NTS_FOREIGN else b
    if q.authentic c2s then (b, some (c2s, s2c)) else (b.inc C.NTS_AUTH_FAIL, none)

/-- A new NTS Cookie field for keys C2S and S2C under epoch slot n, its nonce drawn (R236, R237). -/
def Blk.cookieField (b : Blk) (n : Nat) (c2s s2c nonce : Bytes) : Bytes :=
  let e := b.epochOf n
  let head : Bytes := [1] ++ beB 2 e.id ++ beB 2 b.poolIdx
  let x := sivSeal e.key [head, nonce] ([0x00, 0x0F] ++ c2s ++ s2c)
  [0x02, 0x04, 0x00, 0x6C] ++ head ++ nonce ++ x.2 ++ x.1 ++ [0]

/-- k new cookie fields, their nonces the free bytes from index i on. -/
def Blk.cookieFields (b : Blk) (n : Nat) (c2s s2c : Bytes) : Nat → Nat → Bytes
  | 0, _ => []
  | k + 1, i => b.cookieField n c2s s2c (freeBytes 16 i) ++ b.cookieFields n c2s s2c k (i + 16)

/-- A new set of k cookies for context c: sealed under the CURRENT epoch, none where no epoch is CURRENT. -/
def Blk.cookiesNew (b : Blk) (ctx : Nat) (c : Ctx) : Option Blk :=
  match b.currentEpoch with
  | none => none
  | some n =>
    let k := c.req.k
    let f := b.cookieFields n c.c2s c.s2c k b.freeCtr
    some (((b.setCtx ctx { c with cookies := f, cookieEpoch := (b.epochOf n).id }).draw (16 * k)).incN C.NTS_COOKIES k)

/-- An NTP payload with the Unique Identifier field and an authenticator under S2C over a plaintext (R241, R243). -/
def sealedPay (head uid s2c nonce plain : Bytes) : Bytes :=
  let x := sivSeal s2c [head ++ uid, nonce] plain
  let ct := x.1 ++ x.2
  head ++ uid ++ [0x04, 0x04] ++ beB 2 (24 + pad4 ct.length) ++ beB 2 16 ++ beB 2 ct.length ++ nonce ++ ct
    ++ List.replicate (pad4 ct.length - ct.length) 0

/-! ### Epochs: KEY_INSTALL (09 R247) -/

/-- This device is the follower of an attached twin. -/
def Blk.following (b : Blk) : Bool := b.twin.attached && b.twin.role == 2

/-- What a KEY_INSTALL asks for. -/
structure KeyReq where
  id : Nat
  key : Bytes
  act : Nat
  exp : Nat

/-- A slot in a state. -/
def Blk.epochIn (b : Blk) (st : Nat) : Option Nat := (List.range 4).find? fun n => (b.epochOf n).st == st

/-- The key goes into an EMPTY slot, the lowest: PENDING with its KEY_ROLL entries armed, or CURRENT at once where its
activation is past (R246). -/
def Blk.epochInstall (b : Blk) (n : Nat) (k : KeyReq) : Blk :=
  let q := b.laster.seq
  let later := decide (b.ins.now < k.act)
  let e : Epoch := { st := 0, id := k.id, key := k.key, act := k.act, exp := k.exp
                     actEntry := if later then some q else none, expEntry := if k.exp ≠ 0 then some (q + 1) else none }
  let b := { b with laster := { b.laster with seq := q + 2 } }
  let b := (b.setEpoch n e).epochState n 1
  if k.act ≠ 0 ∧ !later then b.keyActivate n else b

/-- The rows of R247 from the one on live identifiers on. -/
def Blk.keyPlace (b : Blk) (ref : DRef) (k : KeyReq) : Blk :=
  let slots := (List.range 4).map b.epochOf
  let live := fun e : Epoch => e.st == 1 || e.st == 2 || e.st == 3
  if slots.any fun e => live e && e.id == k.id && e.key == k.key && e.act == k.act && e.exp == k.exp then b.complete ref stOk []
  else if slots.any fun e => e.st != 0 && e.id == k.id then b.complete ref stDenied []
  else if slots.all live then b.complete ref stDenied []
  else match b.epochIn 0 with
  | some n => (b.epochInstall n k).complete ref stOk []
  | none => { b with nts := { b.nts with waits := b.nts.waits ++ [(ref, k.id, k.key, k.act, k.exp)] } }

/-- KEY_INSTALL; `blk` is what host memory held. -/
def Blk.keyInstall (b : Blk) (ref : DRef) (d blk : Bytes) : Blk :=
  let id := leAt d 8 2
  if b.part.variant.stitchers = 0 then b.complete ref stAbsent []
  else if b.following then b.complete ref stDenied []
  else match timeAt blk 72, timeAt blk 84 with
  | some act, some exp =>
    if id = 0 ∨ (act ≠ 0 ∧ exp ≠ 0 ∧ exp ≤ act) ∨ (exp ≠ 0 ∧ exp ≤ b.ins.now) then b.complete ref stMalformed []
    else match keyUnwrap (b.sesOf (b.funcOf ref)).ks (sliceB blk 0 72) with
    | none => b.complete ref stDenied []
    | some key => b.keyPlace ref ⟨id, key, act, exp⟩
  | _, _ => b.complete ref stMalformed []

def execKeyInstall (w r : Nat) (blk : Bytes) (s : State) : Host.Outcome State Fault Refusal :=
  s.upd w fun _ b => b.withDesc r 0x10 (fun _ => true) fun ref d b => b.keyInstall ref d blk

/-! ### KEY_RETIRE and EMPTY (09 R246, R248) -/

/-- The slot that holds an identifier, live or RETIRING. -/
def Blk.epochOfId (b : Blk) (id : Nat) : Option Nat :=
  (List.range 4).find? fun n => (b.epochOf n).st != 0 && (b.epochOf n).id == id

/-- A KEY_RETIRE waits for its slot to be EMPTY. -/
def Blk.epochWait (b : Blk) (n : Nat) (ref : DRef) : Blk :=
  let e := b.epochOf n
  b.setEpoch n { e with refs := e.refs ++ [ref] }

def Blk.keyRetire (b : Blk) (ref : DRef) (d : Bytes) : Blk :=
  let id := leAt d 8 2
  if b.part.variant.stitchers = 0 then b.complete ref stAbsent []
  else if b.following then b.complete ref stDenied []
  else if id = 0 then b.complete ref stMalformed []
  else match b.epochOfId id with
  | none => b.complete ref stOk []
  | some n =>
    if (b.epochOf n).st = 4 then b.epochWait n ref
    else if (b.epochOf n).st = 2 ∧ !bitOf (byteAt d 10) 0 then b.complete ref stDenied []
    else (b.keyExpire n).epochWait n ref

def execKeyRetire (w r : Nat) (s : State) : Host.Outcome State Fault Refusal :=
  s.upd w fun _ b => b.withDesc r 0x11 (fun _ => true) fun ref d b => b.keyRetire ref d

/-- A RETIRING slot under whose key no Stitcher operation remains becomes EMPTY: its key is zeroised, its KEY_RETIREs complete,
and the KEY_INSTALLs that waited for a slot go on. -/
def Blk.epochEmpty (b : Blk) (n : Nat) : Blk :=
  let e := b.epochOf n
  if e.st ≠ 4 then b else
    let b := (b.setEpoch n {}).recNts n e.id 1
    let b := { b.setF R.NTS_STATUS_KEY_EVENT with ctr := tdel b.ctr (C.NTS_EPOCH_OPEN n) }
    let b := e.refs.foldl (fun b r => b.complete r stOk []) b
    let ws := b.nts.waits
    ws.foldl (fun b x => b.keyPlace x.1 ⟨x.2.1, x.2.2.1, x.2.2.2.1, x.2.2.2.2⟩) { b with nts := { b.nts with waits := [] } }

def execKeyEmpty (w n : Nat) (s : State) : Host.Outcome State Fault Refusal :=
  s.upd w fun _ b => if n < 4 then b.epochEmpty n else b

/-! ### Context leases (09 R233) -/

/-- The lease of context k expires: its response is dropped with reason AGED. -/
def execAged (w k : Nat) (s : State) : Host.Outcome State Fault Refusal :=
  s.upd w fun _ b =>
    match b.ctxAt? k with
    | some c => if c.leaseEnd ≤ b.leaseNow then (b.ctxRevoke k).txRetry else b
    | none => b

end Sys2Proof.Machine
end

