-- ==== Sys2Proof/Machine/PtpTx.lean ====
section
/-! DEFINITION. The PTP messages that the device builds (10 R262, R265, R268 to R270, R273): their fields, the addresses
they are sent to, and the sending of one. -/

namespace Sys2Proof.Machine

/-! ### Messages (IEEE 1588-2019 clause 13; log entry 70) -/

/-- Ten zero bytes. -/
def zeroStamp : Bytes := List.replicate 10 0

/-- controlField of a message type. -/
def ptpControl (ty : Nat) : Nat := match ty with | 0 => 0 | 1 => 1 | 8 => 2 | 9 => 3 | _ => 5

/-- The header fields of a message that the device fills in. -/
structure PtpHead where
  ty : Nat
  dom : Nat
  flags : Nat
  corr : Int
  seq : Nat
  log : Nat

/-- clockIdentity and sourcePortIdentity (10 R265). -/
def Blk.clockId (b : Blk) : Bytes := beB 4 (b.rdW R.PTP_CLKID1) ++ beB 4 (b.rdW R.PTP_CLKID0)
def Blk.portIdent (b : Blk) (p : Nat) : Bytes := b.clockId ++ beB 2 (p + 1)

/-- A message of port p: versionPTP 2, minorVersionPTP 1. -/
def Blk.ptpMsg (b : Blk) (p : Nat) (h : PtpHead) (body : Bytes) : Bytes :=
  leB 1 h.ty ++ [0x12] ++ beB 2 (34 + body.length) ++ leB 1 h.dom ++ [0] ++ beB 2 h.flags ++ beB 8 (ofSigned h.corr 64)
    ++ [0, 0, 0, 0] ++ b.portIdent p ++ beB 2 h.seq ++ leB 1 (ptpControl h.ty) ++ leB 1 h.log ++ body

/-- twoStepFlag and unicastFlag in flagField. -/
def flagTwoStep (x : Bool) : Nat := if x then 0x200 else 0
def flagUnicast (x : Bool) : Nat := if x then 0x400 else 0

/-- logMessageInterval of a message: 0x7F where it is unicast. -/
def msgLog (uni : Bool) (n : Int) : Nat := if uni then 0x7F else ofSigned n 8

/-! ### Addresses (10 R262) -/

/-- Where a message goes: transport, destination MAC, source and destination IP, tags, TTL. -/
structure PtpVia where
  tr : Nat
  mac : Bytes
  src : Bytes
  dst : Bytes
  tags : Bytes
  ttl : Nat

/-- Bytes of an IP address of a transport. -/
def ipLen (tr : Nat) : Nat := if tr = 2 then 16 else 4

/-- The multicast destination of a transport: MAC and IP address. -/
def multiAddr (tr l2 scope : Nat) (peer : Bool) : Bytes × Bytes :=
  match tr, peer with
  | 0, false => (if l2 = 1 then [0x01, 0x80, 0xC2, 0, 0, 0x0E] else [0x01, 0x1B, 0x19, 0, 0, 0], [])
  | 0, true => ([0x01, 0x80, 0xC2, 0, 0, 0x0E], [])
  | 1, false => ([0x01, 0x00, 0x5E, 0x00, 0x01, 0x81], [224, 0, 1, 129])
  | 1, true => ([0x01, 0x00, 0x5E, 0x00, 0x00, 0x6B], [224, 0, 0, 107])
  | _, false => ([0x33, 0x33, 0, 0, 0x01, 0x81], [0xFF, BitVec.ofNat 8 scope] ++ List.replicate 12 0 ++ [0x01, 0x81])
  | _, true => ([0x33, 0x33, 0, 0, 0, 0x6B], [0xFF, 0x02] ++ List.replicate 12 0 ++ [0x00, 0x6B])

/-- Free bytes that a built message may take are those from the counter plus 2 on (log entry 3): this many values pass with
each message built. -/
def ptpDraws : Nat := 32

/-- The source address of instance i: of its service entry; free where that entry is of the other family (log entry 3). -/
def Blk.instSrc (b : Blk) (i : Nat) : Bytes :=
  let a := b.svcAddr (b.rd (R.PTP_INST_CFG_SVC_IDX i))
  let n := ipLen (b.instTr i)
  if a.length = n then a else freeBytes n (b.freeCtr + 2)

/-- The time to live: 1 for peer delay (log entry 70). -/
def Blk.ptpTtl (b : Blk) (peer : Bool) : Nat := if peer then 1 else b.rd R.CLK_CTRL_TTL

/-- The multicast address of instance i. -/
def Blk.instMulti (b : Blk) (i : Nat) (peer : Bool) : PtpVia :=
  let tr := b.instTr i
  let a := multiAddr tr (b.rd (R.PTP_INST_CFG_L2_ADDR i)) (b.rd (R.PTP_INST_CFG_V6_SCOPE i)) peer
  ⟨tr, a.1, b.instSrc i, a.2, [], b.ptpTtl peer⟩

/-- The client of a session. -/
def Blk.instUni (b : Blk) (s : PSess) : PtpVia :=
  ⟨b.instTr s.inst, s.mac, b.instSrc s.inst, s.addr, s.tags, b.ptpTtl false⟩

/-! ### Sending -/

/-- The frame of a message: event messages use UDP port 319, general messages 320. -/
def Blk.ptpFrame (b : Blk) (p : Nat) (v : PtpVia) (event : Bool) (msg : Bytes) : Bytes :=
  let port := if event then 319 else 320
  let tos := 4 * b.rd R.CLK_CTRL_DSCP
  let pay : Bytes := match v.tr with
    | 0 => [0x88, 0xF7] ++ msg
    | 1 => [0x08, 0x00] ++ udpPacket false v.src v.dst port port v.ttl tos msg
    | _ => [0x86, 0xDD] ++ udpPacket true v.src v.dst port port v.ttl tos msg
  pad60 (v.mac ++ b.portMac p ++ v.tags ++ pay)

/-- A PTP frame of the device's own, in the class PTP_TC. -/
def Blk.ptpTx (b : Blk) (p : Nat) (stamp : Stamp) (two : Option TwoStep) (data : Bytes) : TxF :=
  { builtFrame p (b.rd (R.PRT_TXCTL_PTP_TC p)) .ptp data with stamp := stamp, two := two, ipCsum := true, l4Csum := true }

/-- Queue a built frame: nothing on a port with LINK = 0; without egress space it is not sent. -/
def Blk.ptpPut (b : Blk) (f : TxF) : Blk :=
  let b := b.draw ptpDraws
  if !(b.portOf f.port).link then b
  else match b.sendBuilt f with
  | some c => c
  | none => b.inc C.FLC_EG_WAIT

/-- Build and queue a general message. -/
def Blk.ptpGeneral (b : Blk) (p : Nat) (v : PtpVia) (h : PtpHead) (body : Bytes) : Blk :=
  b.ptpPut (b.ptpTx p .keep none (b.ptpFrame p v false (b.ptpMsg p h body)))

/-- Build and queue an event message with its stamp; `two` gives the kind, the role and t_rx of a two-step message. -/
def Blk.ptpEvent (b : Blk) (p : Nat) (v : PtpVia) (h : PtpHead) (body : Bytes) (stamp : Stamp) (two : Option (Nat × Nat × Nat)) : Blk :=
  let data := b.ptpFrame p v true (b.ptpMsg p h body)
  b.ptpPut (b.ptpTx p stamp (two.map fun x => ⟨x.1, x.2.1, x.2.2, data⟩) data)

/-- The key of a multicast sequence: instance (4 for the port), port, message type. -/
def seqKey (i p ty : Nat) : Nat := (i * 32 + p) * 16 + ty
def Blk.ptpSeq (b : Blk) (k : Nat) : Nat := tget 0 b.ptp.seqs k
def Blk.ptpSeqNext (b : Blk) (k : Nat) : Blk :=
  { b with ptp := { b.ptp with seqs := tput b.ptp.seqs k ((b.ptpSeq k + 1) % 0x10000) } }

/-! ### Announce (10 R268 to R270, 02 R31) -/

/-- The bounds of the clockAccuracy enumeration from 0x20 on, in ns (IEEE 1588-2019 table 5). -/
def accBounds : List Nat :=
  [25, 100, 250, 1000, 2500, 10000, 25000, 100000, 250000, 1000000, 2500000, 10000000, 25000000, 100000000, 250000000,
   1000000000, 10000000000]

/-- Acc(E), E in ns times 10^15. -/
def accOf (e : Nat) : Nat := 0x20 + (accBounds.takeWhile fun n => decide (n * 1000000000000000 < e)).length

/-- G.8275.1 and G.8275.2. -/
def profG8275 (code : Nat) : Bool := code == 2 || code == 3

/-- The TRACEABLE flag of the slot whose markings hold; 0 while unsynchronised. -/
def Blk.traceable (b : Blk) : Bool := match b.markSlot with | some k => b.flag (R.REF_SRC_TRACEABLE k) | none => false

def Blk.clockClass (b : Blk) (g : Bool) : Nat :=
  match b.mode with
  | .locked => if b.traceable then 6 else if g then 248 else 13
  | .holdover =>
    if !b.holdExpired then 7
    else if g then (match b.rd R.RST_SERVE_EXP_CAT with | 0 => 140 | 1 => 150 | _ => 160) else 52
  | _ => 248

def Blk.clockAcc (b : Blk) (g : Bool) : Nat :=
  if b.unsync then 0xFE
  else if g then (if b.mode == .holdover then 0xFE else 0x21)
  else accOf b.timeErr

def Blk.timeSource (b : Blk) : Nat :=
  match b.markSlot with
  | none => 0xA0
  | some k =>
    if b.mode != .holdover && b.freqOnly then 0xA0
    else match b.slotKind k with
    | 3 => 0x20
    | 4 => 0x40
    | 1 => b.rd R.PTP_CTRL_TS_EY
    | 2 => b.rd R.PTP_CTRL_TS_EY
    | _ => 0xA0

/-- flagField of an Announce. -/
def Blk.annFlags (b : Blk) (uni : Bool) : Nat :=
  let ok := b.ins.timeValid && (b.mode == .locked || b.mode == .holdover)
  flagUnicast uni + b.ptpLeap + 4 * b2n ok + 8 + 0x30 * b2n b.traceable

/-- What an instance announces of the grandmaster: priority1, clockQuality, priority2, identity. -/
structure GmSet where
  p1 : Nat
  cls : Nat
  acc : Nat
  oslv : Nat
  p2 : Nat
  id : Bytes
  steps : Nat
  deriving DecidableEq, Repr

def Blk.gmSet (b : Blk) (i : Nat) : GmSet :=
  let g := profG8275 (b.rd (R.PTP_INST_CFG_PROFILE i))
  { p1 := b.rd (R.PTP_INST_DS_PRIO1 i), cls := b.clockClass g, acc := b.clockAcc g
    oslv := if b.mode == .locked then b.rd (R.PTP_INST_QUAL_OSLV i) else 0xFFFF
    p2 := b.rd (R.PTP_INST_DS_PRIO2 i), id := b.clockId, steps := 0 }

/-- The IEEE_C37_238 TLV (10 R270; its layout: log entry 70). -/
def Blk.c37Tlv (b : Blk) (i : Nat) : Bytes :=
  [0x00, 0x03, 0x00, 0x12, 0x1C, 0x12, 0x9D, 0x00, 0x00, 0x02] ++ beB 2 (b.rd (R.PTP_INST_DS_GMID i)) ++ [0, 0, 0, 0]
    ++ beB 4 (min 0xFFFFFFFF (ceilDiv b.timeErr 1000000000000000)) ++ [0, 0]

/-- The body of an Announce of instance i. -/
def Blk.annBody (b : Blk) (i : Nat) : Bytes :=
  let g := b.gmSet i
  ptpStamp b.ins.now ++ beB 2 (ofSigned b.utcD 16) ++ [0] ++ leB 1 g.p1 ++ leB 1 g.cls ++ leB 1 g.acc ++ beB 2 g.oslv ++ leB 1 g.p2
    ++ g.id ++ beB 2 g.steps ++ leB 1 b.timeSource ++ (if b.rd (R.PTP_INST_CFG_PROFILE i) = 5 then b.c37Tlv i else [])

/-! ### Messages of an instance -/

def Blk.instDom (b : Blk) (i : Nat) : Nat := b.rd (R.PTP_INST_CFG_DOMAIN i)

/-- A Sync of instance i. -/
def Blk.sendSync (b : Blk) (i p : Nat) (v : PtpVia) (uni : Bool) (seq log : Nat) : Blk :=
  let two := b.flag (R.PTP_INST_CFG_TWO_STEP i)
  b.ptpEvent p v ⟨0, b.instDom i, flagTwoStep two + flagUnicast uni, 0, seq, log⟩ (if two then ptpStamp b.ins.now else zeroStamp)
    (if two then .keep else .sync) (if two then some (0, i, 0) else none)

/-- An Announce of instance i. -/
def Blk.sendAnn (b : Blk) (i p : Nat) (v : PtpVia) (uni : Bool) (seq log : Nat) : Blk :=
  b.ptpGeneral p v ⟨0xB, b.instDom i, b.annFlags uni, 0, seq, log⟩ (b.annBody i)

/-- A Pdelay_Req of instance i. -/
def Blk.sendPdelayReq (b : Blk) (i p : Nat) : Blk :=
  let k := seqKey 4 p 2
  (b.ptpEvent p (b.instMulti i true) ⟨2, b.instDom i, 0, 0, b.ptpSeq k, 0x7F⟩ (zeroStamp ++ zeroStamp) .keep none).ptpSeqNext k

/-- The body of a message that answers a request: a timestamp and requestingPortIdentity, the source of the message at `o`. -/
def answerBody (stamp msg : Bytes) : Bytes := stamp ++ sliceB msg 20 10

/-- sequenceId, source identity, domain and flags of a message. -/
def msgSeq (m : Bytes) : Nat := beAt m 30 2
def msgIdent (m : Bytes) : Bytes := sliceB m 20 10
def msgDom (m : Bytes) : Nat := byteAt m 4
def msgFlags (m : Bytes) : Nat := beAt m 6 2
def msgCorr (m : Bytes) : Int := ptpCorr m 0

/-- The Delay_Resp that answers Delay_Req m received at tRx. -/
def Blk.sendDelayResp (b : Blk) (i p : Nat) (v : PtpVia) (uni : Bool) (m : Bytes) (tRx : Nat) : Blk :=
  b.ptpGeneral p v ⟨9, b.instDom i, flagUnicast uni, msgCorr m - fracOf tRx, msgSeq m, msgLog uni (b.rdS (R.PTP_INST_RATE_LOG_DREQ i))⟩
    (answerBody (ptpStamp tRx) m)

/-- The Pdelay_Resp that answers Pdelay_Req m: one-step, or two-step for role i. -/
def Blk.sendPdelayResp (b : Blk) (p : Nat) (v : PtpVia) (two : Option Nat) (uni : Bool) (m : Bytes) (tRx : Nat) : Blk :=
  match two with
  | some i => b.ptpEvent p v ⟨3, msgDom m, flagTwoStep true + flagUnicast uni, 0, msgSeq m, 0x7F⟩ (answerBody (ptpStamp tRx) m)
      .keep (some (1, i, tRx))
  | none => b.ptpEvent p v ⟨3, msgDom m, flagUnicast uni, msgCorr m, msgSeq m, 0x7F⟩ (answerBody zeroStamp m) (.pdelayResp tRx) none

/-- The frame of the follow-up of a two-step event message that left at tTx: the event frame with its message replaced; over UDP
the ports are those of general messages. -/
def Blk.followFrame (b : Blk) (x : Fup) : Bytes :=
  match ptpAt (b.tpid x.port) x.two.frame with
  | none => []
  | some o =>
    let m := x.two.frame.drop o
    let sync := x.two.kind == 0
    let h : PtpHead := { ty := if sync then 8 else 0xA, dom := msgDom m, flags := msgFlags m &&& 0x400
                         corr := (fracOf x.tTx : Int) - (if sync then 0 else fracOf x.two.tRx), seq := msgSeq m, log := byteAt m 33 }
    let body := if sync then ptpStamp x.tTx else ptpStamp x.tTx ++ sliceB m 44 10
    let data := putB x.two.frame o (b.ptpMsg x.port h body)
    if (layOf (b.tpid x.port) data).et = 0x88F7 then data else putB data (o - 8) (beB 2 320 ++ beB 2 320)

end Sys2Proof.Machine
end

