-- ==== Sys2Proof/Machine/PtpClient.lean ====
section
/-! DEFINITION. The reference client of a port (10 R277 to R280): masters and their comparison (R271), the Sync and delay
exchanges, the filter of the path delay, path steps, and the asymmetry estimate. -/

namespace Sys2Proof.Machine

/-! ### A message as it was received -/

/-- A PTP message with what its frame says of it: port, t_rx and the step total then, transport, source MAC and IP address,
tags, whether its destination is a group address, the message and the frame. -/
structure PtpIn where
  port : Nat
  tRx : Nat
  steps : Int
  tr : Nat
  mac : Bytes
  ip : Bytes
  tags : Bytes
  group : Bool
  m : Bytes
  data : Bytes

def PtpIn.ty (x : PtpIn) : Nat := byteAt x.m 0 % 16
def PtpIn.addr (x : PtpIn) : Bytes := if x.tr = 0 then x.mac else x.ip

/-- The message timestamp at offset 34. -/
def msgStamp (m : Bytes) : Int := secU (beAt m 34 6) + nsU (beAt m 40 4)

/-! ### Foreign masters and the comparison of datasets (10 R271) -/

/-- The data set of an Announce body. -/
def gmOf (ds : Bytes) : GmSet :=
  { p1 := byteAt ds 13, cls := byteAt ds 14, acc := byteAt ds 15, oslv := beAt ds 16 2, p2 := byteAt ds 18
    id := sliceB ds 19 8, steps := beAt ds 27 2 }

/-- The rank of a data set under the comparison of IEEE 1588-2019 9.3.4, or under that of G.8275.1 with a localPriority: the
smaller in lexicographic order is the better. -/
def GmSet.rank (g : GmSet) (alt : Bool) (localPrio : Nat) (ident : Bytes) : List Nat :=
  if alt then [g.cls, g.acc, g.oslv, g.p2, localPrio] ++ (if g.cls ≤ 127 then [] else [beNat g.id]) ++ [g.steps, beNat ident]
  else [g.p1, g.cls, g.acc, g.oslv, g.p2, beNat g.id, g.steps, beNat ident]

/-- Lexicographic order. -/
def lexLt : List Nat → List Nat → Bool
  | x :: xs, y :: ys => if x = y then lexLt xs ys else decide (x < y)
  | [], _ :: _ => true
  | _, [] => false

/-- A foreign master is qualified: its last two Announces within four Announce intervals. -/
def Foreign.qualified (f : Foreign) : Bool :=
  match f.seen with
  | [x, y] => decide (x - y ≤ 4 * f.iv)
  | _ => false

/-- Note an Announce of a foreign master. -/
def Blk.foreignPut (b : Blk) (f : Foreign) : Blk :=
  let same := fun g : Foreign => g.who == f.who && g.port == f.port && g.ident == f.ident
  let old := ((b.ptp.foreign.find? same).map (·.seen)).getD []
  { b with ptp := { b.ptp with foreign := b.ptp.foreign.filter (fun g => !same g) ++ [{ f with seen := (b.up :: old).take 2 }] } }

/-- The foreign master of an Announce; its interval is the message's, or `dflt` where it gives none. -/
def PtpIn.foreign (x : PtpIn) (who entry : Nat) (dflt : Int) : Foreign :=
  let n := byteAt x.m 33
  { who := who, port := x.port, ident := msgIdent x.m, ds := x.m.drop 34, flags := msgFlags x.m, seen := [], entry := entry
    iv := logU (if n = 0x7F then dflt else toSigned n 8), mac := x.mac, tags := x.tags }

/-! ### The client's settings -/

/-- The client of port p runs: PTP_REF is effective there and a slot is bound to it. -/
def Blk.clientRuns (b : Blk) (p : Nat) : Bool := b.clientOn p && b.boundTo 4 p

/-- The slot of the client of port p. -/
def Blk.clientSlot (b : Blk) (p : Nat) : Option Nat := (List.range 24).find? fun k => b.slotKind k == 4 && b.slotObj k == p

def Blk.clientTr (b : Blk) (p : Nat) : Nat := b.rd (R.PTP_RC_CFG_TRANSPORT p) % 3
def Blk.clientUni (b : Blk) (p : Nat) : Bool := b.flag (R.PTP_RC_CFG_UNICAST p)
def Blk.clientP2p (b : Blk) (p : Nat) : Bool := b.flag (R.PTP_RC_CFG_DELAY p)
def Blk.clientAlt (b : Blk) (p : Nat) : Bool := profG8275 (b.rd (R.PTP_RC_CFG_PROFILE p))

/-- The Announce interval the client asks for and presumes: 2 s, or the profile's longest where that is shorter (log entry 71). -/
def Blk.clientAnnLog (b : Blk) (p : Nat) : Int := min 1 (ptpProf (b.rd (R.PTP_RC_CFG_PROFILE p))).ann.2

/-- W, STEP_N, STEP_NS and ASYM_S. -/
def Blk.dwin (b : Blk) (p : Nat) : Nat := max 4 (b.rd (R.PTP_RC_FILT_DWIN p))
def Blk.pathN (b : Blk) (p : Nat) : Nat := atLeast1 (b.rd (R.PTP_RC_FILT_STEP_N p))
def Blk.stepLim (b : Blk) (p : Nat) : Nat := nsU (atLeast1 (b.rd (R.PTP_RC_FILT_STEP_NS p)))
def Blk.asymU (b : Blk) (p : Nat) : Nat := secU (atLeast1 (b.rd (R.PTP_RC_ASYM_CFG_ASYM_S p)))

/-- A in 2^-16 ns. -/
def Blk.asymA (b : Blk) (p : Nat) : Int := psU (b.rdS (R.PTP_RC_ASYM_VALUE p))

/-- A time in ps as its registers hold it (10 R285). -/
def toPs (x : Int) : Int := max (-2147483647) (min 2147483647 (x * 1000 / 65536))
def Blk.wrPs (b : Blk) (f : BF) (ps : Int) : Blk := b.wr f (ofSigned ps 32)

/-! ### Master entries (10 R284) -/

def Blk.masterAddr (b : Blk) (m : Nat) : Bytes :=
  let a := beB 4 (b.rdW (R.PTP_MASTER_ADDR0 m))
  if b.flag (R.PTP_MASTER_CFG_V6 m) then
    a ++ beB 4 (b.rdW (R.PTP_MASTER_ADDR1 m)) ++ beB 4 (b.rdW (R.PTP_MASTER_ADDR2 m)) ++ beB 4 (b.rdW (R.PTP_MASTER_ADDR3 m))
  else a

/-- Entry m may be used by the client of port p. -/
def Blk.masterOn (b : Blk) (p m : Nat) : Bool :=
  b.flag (R.PTP_MASTER_CFG_VALID m) && b.rd (R.PTP_MASTER_CFG_PORT m) == p
  && b.flag (R.PTP_MASTER_CFG_V6 m) == decide (b.clientTr p = 2) && b.clientTr p != 0

/-- The entry whose address a message came from. -/
def Blk.masterEntry (b : Blk) (p : Nat) (ip : Bytes) : Option Nat :=
  (List.range 32).find? fun m => b.masterOn p m && b.masterAddr m == ip

/-! ### The master followed (10 R277) -/

/-- The localPriority of a foreign master. -/
def Blk.localPrio (b : Blk) (f : Foreign) : Nat := if f.entry < 32 then b.rd (R.PTP_MASTER_CFG_LOCAL_PRIO f.entry) else 128

/-- A master the client of port p may follow. -/
def Blk.mayFollow (b : Blk) (p : Nat) (f : Foreign) : Bool :=
  f.who == 8 && f.port == p && f.qualified && decide ((gmOf f.ds).cls ≤ b.rd (R.PTP_RC_FILT_CLASS_MAX p)) && bitOf f.flags 3

def Blk.clientRank (b : Blk) (p : Nat) (f : Foreign) : List Nat := (gmOf f.ds).rank (b.clientAlt p) (b.localPrio f) f.ident

/-- The best qualified master. -/
def Blk.clientBest (b : Blk) (p : Nat) : Option Foreign :=
  (b.ptp.foreign.filter (b.mayFollow p)).foldl (fun best f => match best with
    | none => some f
    | some g => if lexLt (b.clientRank p f) (b.clientRank p g) then some f else some g) none

/-- The slot of port p becomes FROZEN, with its record (04 R95). -/
def Blk.freeze (b : Blk) (p : Nat) : Blk :=
  match b.clientSlot p with
  | none => b
  | some k =>
    let s := b.slotOf k
    if s.frozen then b
    else ((b.setSlot k { s with frozen := true, frozenAt := b.up }).recRef k s.st.code s.cause 7).refsSettle

/-- The slot of port p is FROZEN no longer. -/
def Blk.thaw (b : Blk) (p : Nat) : Blk :=
  let b := b.setClient p { b.clientOf p with freeze := 0 }
  match b.clientSlot p with
  | none => b
  | some k => ((b.setSlot k { b.slotOf k with frozen := false }).slotEval k).refsSettle

/-- Whether the slot of port p is FROZEN. -/
def Blk.clientFrozen (b : Blk) (p : Nat) : Bool := match b.clientSlot p with | some k => (b.slotOf k).frozen | none => false

/-- The anchor of an estimate whose pre-step window ends at elapsed time t: the lowest other time-capable slot that has been
eligible throughout it. -/
def Blk.anchorAt (b : Blk) (p t : Nat) : Option Nat :=
  if !b.flag (R.PTP_RC_ASYM_CFG_ASYM_EN p) then none
  else (List.range 24).find? fun j => b.clientSlot p != some j && b.slotTime j && b.eligible j
    && (match (b.slotOf j).eligFrom with | some e => decide (e + b.asymU p ≤ t) | none => false)

/-- An estimate is abandoned or not applied. -/
def Blk.estFail (b : Blk) (p : Nat) : Blk :=
  ((b.setClient p { b.clientOf p with estDone := true }).setF (R.PTP_RC_ST_NO_ANCHOR p)).recPtp p 0xFF 6

/-- The estimate of a freeze whose pre-step window ends at elapsed time t begins, or finds no anchor. -/
def Blk.estBegin (b : Blk) (p t : Nat) : Blk :=
  let a := b.anchorAt p t
  let c := b.setClient p { b.clientOf p with stepAt := t, anchor := a, postFrom := none, estDone := !b.flag (R.PTP_RC_ASYM_CFG_ASYM_EN p) }
  if a.isNone && b.flag (R.PTP_RC_ASYM_CFG_ASYM_EN p) then c.estFail p else c

/-- The post-step window begins when the new delay window first holds W samples. -/
def Blk.estWindow (b : Blk) (p : Nat) : Blk :=
  let c := b.clientOf p
  if c.freeze ≠ 0 ∧ c.postFrom.isNone ∧ b.dwin p ≤ c.win.length then b.setClient p { c with postFrom := some b.up } else b

/-- The client follows another master, or none. A change of master freezes the slot as a path step does (10 R279). -/
def Blk.clientFollow (b : Blk) (p : Nat) (f : Option Foreign) : Blk :=
  let c := b.clientOf p
  let id := f.map (·.ident)
  if c.master = id then b
  else
    let entry := match f with | some g => g.entry | none => 0x3F
    let d := { c with master := id, entry := entry, lastMaster := id.or c.lastMaster, sync := none, syncWait := none, req := none }
    if id.isSome && c.lastMaster.isSome && c.lastMaster != id && c.hasHat then
      let b := b.setClient p { d with pre := c.win, preHat := c.hat, win := [], held := [], freeze := 2, back := 0, masterNew := true }
      ((((b.inc C.PTP_PATH_STEP).recPtp p 0xFF 4).freeze p).estBegin p b.up)
    else b.setClient p d

/-- Choose the master again. -/
def Blk.clientChoose (b : Blk) (p : Nat) : Blk := b.clientFollow p (b.clientBest p)

/-- An Announce at the client. -/
def Blk.clientAnnounce (b : Blk) (x : PtpIn) : Blk :=
  if b.clientUni x.port then
    match b.masterEntry x.port x.ip with
    | some m => (b.foreignPut (x.foreign 8 m (b.clientAnnLog x.port))).clientChoose x.port
    | none => b
  else (b.foreignPut (x.foreign 8 0x3F (b.clientAnnLog x.port))).clientChoose x.port

/-! ### The path delay (10 R279, R280) -/

/-- The mean of the lowest quarter, at least one. -/
def lowQuarter (l : List Int) : Int := meanI ((l.insertionSort (· ≤ ·)).take (max 1 (l.length / 4)))

/-- A window and its mean path delay; PTP_RC_MPD shows it. -/
def Blk.setHat (b : Blk) (p : Nat) (c : PClient) (win : List Int) (hat : Int) : Blk :=
  (b.setClient p { c with win := win, hat := hat, hasHat := true }).wrPs (R.PTP_RC_MPD_VALUE p) (toPs hat)

/-- A path step: the run of held samples starts a new window. -/
def Blk.pathStep (b : Blk) (p : Nat) (c : PClient) (run : List Int) : Blk :=
  let d := { c with pre := c.win, preHat := c.hat, held := [], freeze := 1, back := 0 }
  let b := (b.setHat p d run (lowQuarter run)).wrPs (R.PTP_RC_DSTEP_VALUE p) (toPs (meanI run - c.hat))
  (((b.inc C.PTP_PATH_STEP).recPtp p 0xFF 3).freeze p).estBegin p c.runAt

/-- The samples come back to the pre-step mean: a transient. -/
def Blk.pathBack (b : Blk) (p : Nat) (c : PClient) : Blk :=
  (b.setHat p { c with held := [], back := 0, estDone := true, masterNew := false } c.pre c.preHat).thaw p

/-- A delay sample. -/
def Blk.delaySample (b : Blk) (p : Nat) (d : Int) : Blk :=
  let frozen := b.clientFrozen p && (b.clientOf p).freeze != 0
  let c := b.clientOf p
  let near := fun h : Int => decide ((d - h).natAbs ≤ b.stepLim p)
  let c := { c with back := if frozen && near c.preHat then c.back + 1 else 0 }
  if !c.hasHat then b.setHat p { c with held := [], masterNew := false } [d] d
  else if frozen && decide (b.pathN p ≤ c.back) then b.pathBack p c
  else if c.masterNew then
    ((b.setHat p { c with masterNew := false } [d] d).wrPs (R.PTP_RC_DSTEP_VALUE p) (toPs (d - c.preHat))).estWindow p
  else if near c.hat then
    let win := (d :: c.win).take (b.dwin p)
    (Blk.setHat (b.incN C.PTP_OUTLIER c.held.length) p { c with held := [] } win (lowQuarter win)).estWindow p
  else
    let c := { c with runAt := if c.held.isEmpty then b.up else c.runAt }
    let run := d :: c.held
    if b.pathN p ≤ run.length then (b.pathStep p c run).estWindow p else b.setClient p { c with held := run }

/-! ### The asymmetry estimate (10 R280) -/

/-- Note q against every other eligible time-capable slot; samples before the windows that still count go. -/
def Blk.noteQ (b : Blk) (p k : Nat) : Blk :=
  let c := b.clientOf p
  let x := (b.slotOf k).x
  let new := ((List.range 24).filter fun j => j != k && b.slotTime j && b.eligible j && (b.slotOf j).hasX).map fun j =>
    (b.up, j, x - (b.slotOf j).x)
  let from_ := if c.freeze ≠ 0 then min c.stepAt b.up else if c.held.isEmpty then b.up else c.runAt
  b.setClient p { c with q := new ++ c.q.filter fun e => decide (from_ ≤ e.1 + b.asymU p) }

/-- The anchor still qualifies. -/
def Blk.anchorHolds (b : Blk) (p : Nat) : Bool :=
  let c := b.clientOf p
  match c.anchor with
  | none => false
  | some j => b.slotTime j && b.eligible j
    && (match (b.slotOf j).eligFrom with | some e => decide (e + b.asymU p ≤ c.stepAt) | none => false)

/-- An estimate that has lost its anchor is abandoned. -/
def Blk.estCheck (b : Blk) (p : Nat) : Blk :=
  let c := b.clientOf p
  if c.freeze ≠ 0 ∧ b.clientFrozen p ∧ !c.estDone ∧ !b.anchorHolds p then b.estFail p else b

/-- The mean of q over the window of ASYM_S seconds that begins at an elapsed time, against the anchor. -/
def Blk.meanQ (b : Blk) (p from_ : Nat) : Int :=
  let c := b.clientOf p
  meanI ((c.q.filter fun e => c.anchor == some e.2.1 && decide (from_ ≤ e.1) && decide (e.1 ≤ from_ + b.asymU p)).map (·.2.2))

/-- The post-step window has ended: the estimate is applied, or the slot stays FROZEN. -/
def Blk.estEnd (b : Blk) (p : Nat) : Blk :=
  let b := b.estCheck p
  let c := b.clientOf p
  match c.postFrom with
  | none => b
  | some t =>
    if c.freeze = 0 ∨ !b.clientFrozen p ∨ c.estDone ∨ b.up < t + b.asymU p then b
    else
      let dx := b.meanQ p t - b.meanQ p (c.stepAt - b.asymU p)
      if nsU (b.rd (R.PTP_RC_ASYM_CFG_ASYM_MAX p)) < dx.natAbs then b.estFail p
      else
        let a := max (-2147483647) (min 2147483647 (b.rdS (R.PTP_RC_ASYM_VALUE p) - toPs dx))
        let b := (b.setClient p { c with estDone := true }).wrPs (R.PTP_RC_ASYM_VALUE p) a
        ((((b.setF (R.PTP_RC_ST_ASYM_EVENT p)).inc C.PTP_ASYM_EST).recPtp p 0xFF 5).thaw p)

/-! ### Exchanges (10 R278) -/

/-- A Sync with its t1 and t2: the time error of the slot, as its comparison. -/
def Blk.clientSync (b : Blk) (p : Nat) (t1 t2 : Int) : Blk :=
  let c := b.clientOf p
  let b := b.setClient p { c with sync := some (t1, t2), syncWait := none }
  if !c.hasHat then b else
  match b.clientSlot p with
  | none => b
  | some k => ((b.slotEvent k (t1 + c.hat + b.asymA p) t2 b.up).noteQ p k).estCheck p

/-- A Delay_Resp to the client's Delay_Req. -/
def Blk.clientDelay (b : Blk) (p : Nat) (m : Bytes) : Blk :=
  let c := b.clientOf p
  match c.req, c.sync with
  | some (n, some t3), some (t1, t2) =>
    if n = msgSeq m ∧ sliceB m 44 10 = b.portIdent p then
      (b.setClient p { c with req := none }).delaySample p (((t2 - t1) + (msgStamp m - msgCorr m - t3)) / 2)
    else b
  | _, _ => b

/-- A Pdelay_Resp to the client's Pdelay_Req; a two-step one waits for its follow-up. -/
def Blk.clientPdelay (b : Blk) (x : PtpIn) : Blk :=
  let p := x.port
  let c := b.clientOf p
  match c.req with
  | some (n, some t1) =>
    if n = msgSeq x.m ∧ sliceB x.m 44 10 = b.portIdent p then
      let t4 : Int := (x.tRx : Int) - msgCorr x.m
      if bitOf (msgFlags x.m) 9 then b.setClient p { c with pd := some (n, msgStamp x.m, t4) }
      else (b.setClient p { c with req := none }).delaySample p ((t4 - t1) / 2)
    else b
  | _ => b

/-- The Pdelay_Resp_Follow_Up of a two-step answer. -/
def Blk.clientPdelayFup (b : Blk) (p : Nat) (m : Bytes) : Blk :=
  let c := b.clientOf p
  match c.req, c.pd with
  | some (_, some t1), some (n, t2, t4) =>
    if n = msgSeq m ∧ sliceB m 44 10 = b.portIdent p then
      (b.setClient p { c with req := none, pd := none }).delaySample p (((t4 - t1) - (msgStamp m - t2) - msgCorr m) / 2)
    else b
  | _, _ => b

/-! ### Unicast (10 R277) -/

/-- TLVs of a Signaling message: type, place and length of the value; none where one runs past the end. -/
def tlvsOf (m : Bytes) : Nat → Nat → Option (List (Nat × Nat × Nat))
  | 0, off => if off = m.length then some [] else none
  | n + 1, off =>
    if off = m.length then some []
    else
      let len := beAt m (off + 2) 2
      if m.length < off + 4 + len then none else (tlvsOf m n (off + 4 + len)).map fun l => (beAt m off 2, off + 4, len) :: l

/-- The TLVs of a message whose messageLength has been taken. -/
def sigTlvs (m : Bytes) : Option (List (Nat × Nat × Nat)) := tlvsOf m (m.length / 4) 44

/-- A unicast Signaling message with TLVs; its sequence is the device's own. -/
def Blk.sendSignal (b : Blk) (p dom : Nat) (v : PtpVia) (target tlvs : Bytes) : Blk :=
  let c := b.ptpGeneral p v ⟨0xC, dom, 0x400, 0, b.ptp.sigSeq, 0x7F⟩ (target ++ tlvs)
  { c with ptp := { c.ptp with sigSeq := (c.ptp.sigSeq + 1) % 0x10000 } }

/-- GRANT and CANCEL TLVs from a master of the client. -/
def Blk.clientTlv (b : Blk) (x : PtpIn) (m : Nat) (t : Nat × Nat × Nat) : Blk :=
  let p := x.port
  let c := b.clientOf p
  let msg := byteAt x.m t.2.1 / 16
  let rest := c.grants.filter fun g => !(g.1 == m && g.2.1 == msg)
  match t.1 with
  | 5 =>
    let dur := secU (beAt x.m (t.2.1 + 2) 4)
    b.setClient p { c with grants := if dur = 0 then rest else rest ++ [(m, msg, b.up + dur, dur)] }
  | 6 =>
    let v : PtpVia := ⟨x.tr, x.mac, freeBytes (ipLen x.tr) (b.freeCtr + 2), x.ip, x.tags, b.ptpTtl false⟩
    (b.setClient p { c with grants := rest }).sendSignal p (msgDom x.m) v (msgIdent x.m)
      ([0x00, 0x07, 0x00, 0x02] ++ leB 1 (16 * msg) ++ [0])
  | _ => b

/-- A Signaling message at the client. -/
def Blk.clientSignal (b : Blk) (x : PtpIn) : Blk :=
  match b.masterEntry x.port x.ip, sigTlvs x.m with
  | some m, some l => if b.clientUni x.port then l.foldl (fun b t => b.clientTlv x m t) b else b
  | _, _ => b

/-- Where the client sends to entry m, or to its multicast address; its source address is free: no register names its service
entry (log entry 3). The MAC of a master that has not been heard is free too. -/
def Blk.clientVia (b : Blk) (p entry : Nat) (peer : Bool) : PtpVia :=
  let tr := b.clientTr p
  let src := freeBytes (ipLen tr) (b.freeCtr + 2)
  if entry < 32 then
    let f := b.ptp.foreign.find? fun f => f.who == 8 && f.port == p && f.entry == entry
    ⟨tr, (f.map (·.mac)).getD (freeBytes 6 (b.freeCtr + 18)), src, b.masterAddr entry, (f.map (·.tags)).getD [], b.ptpTtl false⟩
  else
    let a := multiAddr tr 0 0xE peer
    ⟨tr, a.1, src, a.2, [], b.ptpTtl peer⟩

/-- The message types for which the client holds grants. -/
def Blk.clientWants (b : Blk) (p msg : Nat) : Bool := msg == 0xB || msg == 0 || msg == (if b.clientP2p p then 3 else 9)

/-- The grant of entry m for a message type is absent, or half of it has passed. -/
def Blk.renewDue (b : Blk) (p m msg : Nat) : Bool :=
  match (b.clientOf p).grants.find? fun g => g.1 == m && g.2.1 == msg with
  | some g => decide (g.2.2.1 ≤ b.up + g.2.2.2 / 2)
  | none => true

/-- The client requests or renews a grant. -/
def Blk.clientRenew (b : Blk) (p m msg : Nat) : Blk :=
  if p < 32 && b.clientRuns p && b.clientUni p && m < 32 && b.masterOn p m && b.clientWants p msg && b.renewDue p m msg then
    let n : Int := match msg with
      | 0xB => b.clientAnnLog p | 0 => b.rdS (R.PTP_RC_CFG_LOG_SYNC p) | _ => b.rdS (R.PTP_RC_CFG_LOG_DREQ p)
    let tlv : Bytes := [0x00, 0x04, 0x00, 0x06] ++ leB 1 (16 * msg) ++ leB 1 (ofSigned n 8)
      ++ beB 4 (10 * atLeast1 (b.rd (R.PTP_RC_CFG_DUR_10S p)))
    b.sendSignal p (b.rd (R.PTP_RC_CFG_DOMAIN p)) (b.clientVia p m false) (List.replicate 10 0xFF) tlv
  else b

/-- The client's Delay_Req or Pdelay_Req; t_tx returns to it. -/
def Blk.clientRequest (b : Blk) (p : Nat) : Blk :=
  let c := b.clientOf p
  let p2p := b.clientP2p p
  if !b.clientRuns p || (!p2p && c.master.isNone) then b else
    let k := seqKey 4 p 2
    let seq := if p2p then b.ptpSeq k else c.seqId
    let b := if p2p then b.ptpSeqNext k else b
    let b := b.setClient p { c with seqId := if p2p then c.seqId else (seq + 1) % 0x10000, req := some (seq, none), pd := none }
    let uni := decide (c.entry < 32) && !p2p
    b.ptpEvent p (b.clientVia p (if uni then c.entry else 0x3F) p2p)
      ⟨if p2p then 2 else 1, b.rd (R.PTP_RC_CFG_DOMAIN p), flagUnicast uni, 0, seq, 0x7F⟩
      (if p2p then zeroStamp ++ zeroStamp else zeroStamp) (.clientReq seq) none

/-- A message in the client's domain (10 R264 row 4): those of its transport act. -/
def Blk.clientRx (b : Blk) (x : PtpIn) : Blk :=
  let p := x.port
  let c := b.clientOf p
  let fromMaster := c.master == some (msgIdent x.m)
  if !b.clientRuns p || x.tr != b.clientTr p then b else
  match x.ty with
  | 0x0 =>
    if !fromMaster then b
    else if bitOf (msgFlags x.m) 9 then b.setClient p { c with syncWait := some (msgSeq x.m, msgCorr x.m, x.tRx) }
    else b.clientSync p (msgStamp x.m + msgCorr x.m) x.tRx
  | 0x8 => match c.syncWait with
    | some (n, corr, t2) =>
      if fromMaster && n == msgSeq x.m then b.clientSync p (msgStamp x.m + corr + msgCorr x.m) t2 else b
    | none => b
  | 0x9 => if fromMaster then b.clientDelay p x.m else b
  | 0xB => b.clientAnnounce x
  | 0xC => b.clientSignal x
  | _ => b

end Sys2Proof.Machine
end

