-- ==== Sys2Proof/Machine/PtpRx.lean ====
section
/-! DEFINITION. What the Clicker does with a PTP frame (10 R263, R264): peer delay, the reference client, the grandmaster
instances with unicast negotiation and the best-master comparison (R271, R273, R274), forwarding (R275, R276). -/

namespace Sys2Proof.Machine

/-! ### Messages of a role -/

/-- Bytes that a message of a type needs (IEEE 1588-2019 clause 13); none for a type that R263 does not list. -/
def ptpNeeds (ty : Nat) : Option Nat :=
  match ty with
  | 0x0 => some 44 | 0x1 => some 44 | 0x2 => some 54 | 0x3 => some 54 | 0x8 => some 44 | 0x9 => some 54 | 0xA => some 54
  | 0xB => some 64 | 0xC => some 44 | 0xD => some 48 | _ => none

/-- Whether a role can take the message: its type is known and its body whole. -/
def PtpIn.whole (x : PtpIn) : Bool := match ptpNeeds x.ty with | some n => decide (n ≤ x.m.length) | none => false

/-- The exception path with reason PTP. -/
def Blk.ptpExc (b : Blk) (x : PtpIn) : Blk := b.excPut x.port x.tRx x.steps excPtp x.data

/-- The sender of a message as a destination; its source address is of instance i. -/
def Blk.replyVia (b : Blk) (x : PtpIn) (i : Nat) : PtpVia := ⟨x.tr, x.mac, b.instSrc i, x.ip, x.tags, b.ptpTtl false⟩

/-! ### The peer-delay responder (R264 row 3) -/

def Blk.instP2p (b : Blk) (i : Nat) : Bool := b.flag (R.PTP_INST_CFG_DELAY i)

/-- Active peer-to-peer instances of a port. -/
def Blk.peerInsts (b : Blk) (p : Nat) : List Nat := [0, 1, 2, 3].filter fun i => b.instActive i p && b.instP2p i

/-- The client of the port uses P2P. -/
def Blk.peerClient (b : Blk) (p : Nat) : Bool := b.clientRuns p && b.clientP2p p

/-- The instance that answers: of the message's domain, else the lowest (log entry 72). -/
def Blk.peerInst (b : Blk) (x : PtpIn) : Option Nat :=
  let l := b.peerInsts x.port
  match l.find? fun i => b.instDom i == msgDom x.m with
  | some i => some i
  | none => l.head?

/-- Where the answer to a Pdelay_Req goes: to its multicast address, or back to a unicast sender. The source address is the
instance's, free where the instance uses another transport or the client answers (log entry 3). -/
def Blk.peerVia (b : Blk) (x : PtpIn) (i : Option Nat) : PtpVia :=
  let src := match i with
    | some i => if b.instTr i = x.tr then b.instSrc i else freeBytes (ipLen x.tr) (b.freeCtr + 2)
    | none => freeBytes (ipLen x.tr) (b.freeCtr + 2)
  if x.group then
    let a := multiAddr x.tr 0 0xE true
    ⟨x.tr, a.1, src, a.2, [], b.ptpTtl true⟩
  else ⟨x.tr, x.mac, src, x.ip, x.tags, b.ptpTtl false⟩

def Blk.pdelayReq (b : Blk) (x : PtpIn) : Blk :=
  match b.peerInst x with
  | some i =>
    if b.servesGm then
      b.sendPdelayResp x.port (b.peerVia x (some i)) (if b.flag (R.PTP_INST_CFG_TWO_STEP i) then some i else none) (!x.group) x.m x.tRx
    else if b.peerClient x.port then b.sendPdelayResp x.port (b.peerVia x none) none (!x.group) x.m x.tRx
    else b.inc C.CLK_MODEDROP
  | none => b.sendPdelayResp x.port (b.peerVia x none) none (!x.group) x.m x.tRx

def Blk.pdelayRx (b : Blk) (x : PtpIn) : Blk :=
  if !x.whole then b.inc C.PTP_MALF
  else match x.ty with
  | 2 => b.pdelayReq x
  | 3 => if b.peerClient x.port then b.clientPdelay x else b
  | _ => if b.peerClient x.port then b.clientPdelayFup x.port x.m else b

/-! ### Unicast sessions (R274) -/

def Blk.sessAt (b : Blk) (x : PtpIn) (i : Nat) : Option PSess :=
  b.ptp.sess.find? fun s => s.port == x.port && s.inst == i && s.ident == msgIdent x.m && s.addr == x.addr

/-- Put a session in place of the one it continues, or at the end; one without a grant is freed. -/
def Blk.sessPut (b : Blk) (s : PSess) : Blk :=
  let l := if b.ptp.sess.any (sameSess s) then b.ptp.sess.map fun o => if sameSess s o then s else o else b.ptp.sess ++ [s]
  { b with ptp := { b.ptp with sess := l.filter fun o => !o.grants.isEmpty } }

/-- A GRANT_UNICAST_TRANSMISSION TLV; its renewal invitation is free (log entry 3). -/
def Blk.grantTlv (b : Blk) (msg log dur : Nat) : Bytes :=
  [0x00, 0x05, 0x00, 0x08] ++ leB 1 (16 * msg) ++ leB 1 log ++ beB 4 dur ++ [0]
    ++ leB 1 (if dur = 0 then 0 else Config.freeNat (b.freeCtr + 2) % 2)

/-- Message types that an instance grants. -/
def Blk.grants (b : Blk) (i msg : Nat) : Bool := msg == 0xB || msg == 0 || msg == 9 || (msg == 3 && b.instP2p i)

/-- No room for a new session. -/
def Blk.sessFull (b : Blk) (i : Nat) : Bool :=
  decide (65536 ≤ b.ptp.sess.length) || decide (b.rd (R.PTP_INST_LIMIT_MAX_SESS i) ≤ (b.ptp.sess.filter fun s => s.inst == i).length)

/-- The granted duration. -/
def Blk.grantDur (b : Blk) (asked : Nat) : Nat :=
  let lo := atLeast1 (b.rd R.PTP_UNI_DUR_MIN)
  clampN lo (max lo (b.rd R.PTP_UNI_DUR_MAX)) asked

/-- A grant of message type msg in session s from now on. -/
def Blk.grantNew (b : Blk) (s : PSess) (msg : Nat) (log : Int) (dur : Nat) : Blk :=
  let old := s.grants.find? fun g => g.msg == msg
  let g : Grant := { msg := msg, log := log, dur := dur, endUp := b.up + secU dur, seqId := (old.map (·.seqId)).getD 0
                     tokens := 2 * 16777216000000000, at_ := b.up }
  b.sessPut { s with grants := s.grants.filter (fun g => g.msg != msg) ++ [g] }

/-- A REQUEST_UNICAST_TRANSMISSION TLV at instance i: the state after it and the TLV that answers it. -/
def Blk.uniRequest (b : Blk) (x : PtpIn) (i at_ : Nat) : Blk × Bytes :=
  let msg := byteAt x.m at_ / 16
  let log := byteAt x.m (at_ + 1)
  let n := toSigned log 8
  if b.isPassive i x.port then (b.inc C.CLK_MODEDROP, [])
  else if !b.grants i msg || !inRange ((b.instProf i).range msg) n then (b.inc C.PTP_DENY, b.grantTlv msg log 0)
  else
    let dur := b.grantDur (beAt x.m (at_ + 2) 4)
    match b.sessAt x i with
    | some s => ((b.grantNew { s with mac := x.mac, tags := x.tags } msg n dur).inc C.PTP_GRANT, b.grantTlv msg log dur)
    | none =>
      if b.sessFull i then ((b.setF R.PTP_STATUS_TABLE_FULL).inc C.PTP_DENY, b.grantTlv msg log 0)
      else ((b.grantNew ⟨x.port, i, msgIdent x.m, x.addr, x.mac, x.tags, []⟩ msg n dur).inc C.PTP_GRANT, b.grantTlv msg log dur)

/-- A CANCEL_UNICAST_TRANSMISSION TLV. -/
def Blk.uniCancel (b : Blk) (x : PtpIn) (i at_ : Nat) : Blk × Bytes :=
  let msg := byteAt x.m at_ / 16
  let ack : Bytes := [0x00, 0x07, 0x00, 0x02] ++ leB 1 (16 * msg) ++ [0]
  match b.sessAt x i with
  | some s => (b.sessPut { s with grants := s.grants.filter fun g => g.msg != msg }, ack)
  | none => (b, ack)

/-- One TLV at instance i, with the answers so far. -/
def sigStep (x : PtpIn) (i : Nat) (a : Blk × Bytes) (t : Nat × Nat × Nat) : Blk × Bytes :=
  match t.1 with
  | 4 => let r := a.1.uniRequest x i t.2.1; (r.1, a.2 ++ r.2)
  | 6 => let r := a.1.uniCancel x i t.2.1; (r.1, a.2 ++ r.2)
  | _ => a

/-- TLVs of the unicast negotiation. -/
def uniTlv (ty : Nat) : Bool := ty == 4 || ty == 5 || ty == 6 || ty == 7

/-- Whether a Signaling message is addressed to this port. -/
def Blk.sigForUs (b : Blk) (x : PtpIn) : Bool :=
  let t := sliceB x.m 34 10
  (t.take 8 == b.clockId || t.take 8 == List.replicate 8 0xFF) && (t.drop 8 == beB 2 (x.port + 1) || t.drop 8 == [0xFF, 0xFF])

/-- A Signaling message at instance i; one with any TLV that is not handled goes to the exception ring too. -/
def Blk.instSignal (b : Blk) (x : PtpIn) (i : Nat) : Blk :=
  match sigTlvs x.m with
  | none => b.inc C.PTP_MALF
  | some l =>
    if !b.sigForUs x then b else
      let uni := b.flag (R.PTP_INST_CFG_UNICAST i)
      let b := if l.any (fun t => !uni || !uniTlv t.1) then b.ptpExc x else b
      if !uni then b else
        let r := l.foldl (sigStep x i) (b, [])
        if r.2.isEmpty then r.1 else r.1.sendSignal x.port (b.instDom i) (b.replyVia x i) (msgIdent x.m) r.2

/-- The tokens of a grant for Delay_Req answers: twice the granted rate, 2 deep (log entry 73). -/
def Blk.dreqTokens (b : Blk) (g : Grant) : Nat :=
  let rate := if g.log ≥ 0 then 512 / 2 ^ g.log.toNat else 512 * 2 ^ (-g.log).toNat
  min (2 * 16777216000000000) (g.tokens + (b.up - g.at_) * rate)

/-- A Delay_Req at instance i (R271, R273, R274). -/
def Blk.delayReq (b : Blk) (x : PtpIn) (i : Nat) : Blk :=
  if x.group then
    if b.isPassive i x.port || b.instP2p i || (b.instProf i).uni == 2 then b.inc C.PTP_NOGRANT
    else b.sendDelayResp i x.port (b.instMulti i false) false x.m x.tRx
  else match b.sessAt x i with
  | none => b.inc C.PTP_NOGRANT
  | some s => match s.grants.find? fun g => g.msg == 9 && decide (b.up < g.endUp) with
    | none => b.inc C.PTP_NOGRANT
    | some g =>
      let t := b.dreqTokens g
      if t < 16777216000000000 then b.inc C.PTP_NOGRANT
      else
        let g' := { g with tokens := t - 16777216000000000, at_ := b.up }
        let b := b.sessPut { s with grants := s.grants.map fun o => if o.msg = 9 then g' else o }
        b.sendDelayResp i x.port (b.replyVia x i) true x.m x.tRx

/-! ### The best-master comparison of an instance (R271) -/

/-- The key of an instance and a port in `betterAt`. -/
def bmcaKey (i p : Nat) : Nat := 32 * i + p

/-- Whether the sender of an Announce is a better master than instance i. -/
def Blk.better (b : Blk) (i p : Nat) (f : Foreign) : Bool :=
  let alt := profG8275 (b.rd (R.PTP_INST_CFG_PROFILE i))
  let g := gmOf f.ds
  f.qualified && g.id != b.clockId && decide (g.steps < 255)
  && lexLt (g.rank alt 128 f.ident) ((b.gmSet i).rank alt 128 (b.portIdent p))

/-- An Announce at instance i. -/
def Blk.instAnnounce (b : Blk) (x : PtpIn) (i : Nat) : Blk :=
  let p := x.port
  if !b.flag (R.PTP_INST_CFG_BMCA_EN i) || b.rd (R.PTP_INST_CFG_PROFILE i) == 3 || (msgIdent x.m).take 8 == b.clockId then b
  else
    let f := x.foreign i 0x3F (b.rdS (R.PTP_INST_RATE_LOG_ANN i))
    let b := b.foreignPut f
    match b.ptp.foreign.getLast? with
    | none => b
    | some g =>
      if !b.better i p g then b.draw 2
      else
        let was := bitOf (tget 0 b.ptp.passive i) p
        let b := Blk.draw { b with ptp := { b.ptp with betterAt := tput b.ptp.betterAt (bmcaKey i p) b.up
                                                       passive := tput b.ptp.passive i (putBit (tget 0 b.ptp.passive i) p true) } } 2
        if was then b else (b.inc C.PTP_PASSIVE).recPtp p i 1

/-- A message at instance i (R263, R264 row 5). -/
def Blk.instRx (b : Blk) (x : PtpIn) (i : Nat) : Blk :=
  if !x.whole then b.inc C.PTP_MALF
  else if !b.servesGm || b.draining then b.inc C.CLK_MODEDROP
  else match x.ty with
  | 0xD => b.ptpExc x
  | 0x1 => b.delayReq x i
  | 0xB => b.instAnnounce x i
  | 0xC => b.instSignal x i
  | _ => b

/-! ### The client's domain (R264 row 4) -/

/-- The instance whose session requests the client's domain refuses (R266). -/
def Blk.refusedInst (b : Blk) (x : PtpIn) : Option Nat :=
  [0, 1, 2, 3].find? fun i => b.instOn i x.port && b.pfeat x.port featGm && b.instOk i && b.flag (R.PTP_INST_CFG_UNICAST i)
    && b.instRefused i x.port && b.instTr i == x.tr

/-- Requests for sessions of a refused instance are denied. -/
def Blk.refuseSignal (b : Blk) (x : PtpIn) : Blk :=
  match b.refusedInst x, sigTlvs x.m with
  | some i, some l =>
    let reqs := l.filter fun t => t.1 == 4
    if reqs.isEmpty || !b.sigForUs x then b
    else if !b.servesGm || b.draining then b.incN C.CLK_MODEDROP reqs.length
    else
      let tlvs := reqs.flatMap fun t => b.grantTlv (byteAt x.m t.2.1 / 16) (byteAt x.m (t.2.1 + 1)) 0
      (b.incN C.PTP_GM_REFUSED reqs.length).sendSignal x.port (b.instDom i) (b.replyVia x i) (msgIdent x.m) tlvs
  | _, _ => b

def Blk.domainRx (b : Blk) (x : PtpIn) : Blk :=
  if !x.whole then b.inc C.PTP_MALF
  else if x.ty = 0xD then b.ptpExc x
  else if x.ty = 0xC then (b.refuseSignal x).clientRx x
  else b.clientRx x

/-! ### Forwarding (R275, R276) -/

/-- A frame whose residence is written: Sync and Delay_Req. -/
def PtpIn.resides (x : PtpIn) : Bool := x.ty == 0 || x.ty == 1

/-- An IPv4 UDP checksum received as zero. -/
def zeroUdpSum (alt : Nat) (bs : Bytes) : Bool :=
  match ipOf alt bs with
  | some ip => !ip.v6 && ip.proto == 17 && beAt bs (ip.off + 6) 2 == 0
  | none => false

/-- One copy, to port q. -/
def Blk.forwardTo (b : Blk) (x : PtpIn) (q : Nat) : Blk :=
  if !b.portPresent q || !b.pfeat q featTc || !(b.portOf q).link || b.nearLoop q then b
  else if b.rd (R.PRT_MAXFRAME_MAXFRAME q) < x.data.length + 4 then b.inc (C.PRT_TX_OVERSIZE q)
  else
    let z := zeroUdpSum (b.tpid x.port) x.data
    let f := { builtFrame q (b.rd (R.PRT_TXCTL_PTP_TC q)) .fwd x.data with
      stamp := if x.resides then .residence x.tRx x.steps z else .keep, l4Csum := x.resides && !z }
    match b.sendBuilt f with
    | some c => c
    | none => b.inc C.PTP_FWD_DROP

/-- The frame is copied to the other ports of its group, up to the rate of the input port. -/
def Blk.forward (b : Blk) (x : PtpIn) (g : Nat) : Blk :=
  if (ptpNeeds x.ty).isNone then b.inc C.PTP_MALF
  else if x.ty = 2 ∨ x.ty = 3 ∨ x.ty = 0xA then b
  else
    let q := b.portOf x.port
    let sec := b.up / secU 1
    let used := if q.fwdAt = sec then q.fwdTokens else 0
    if atLeast1 (b.rd R.PTP_FWD_CTRL_RATE_K) * 1000 ≤ used then b.inc C.PTP_FWD_DROP
    else
      let b := b.setPort x.port { q with fwdTokens := used + 1, fwdAt := sec }
      ((List.range 32).filter fun p => p != x.port && bitOf (b.rdW (R.PTP_FWD g)) p && b.fwdGroup p == some g).foldl (fun b p => b.forwardTo x p) b

/-! ### The rows of R264 -/

def Blk.ptpRows (b : Blk) (x : PtpIn) : Blk :=
  let p := x.port
  let pd := x.ty == 2 || x.ty == 3 || x.ty == 0xA
  if pd && (!(b.peerInsts p).isEmpty || b.peerClient p) then b.pdelayRx x
  else if b.clientOn p && b.rd (R.PTP_RC_CFG_DOMAIN p) == msgDom x.m then b.domainRx x
  else match [0, 1, 2, 3].find? fun i => b.instActive i p && b.instDom i == msgDom x.m && b.instTr i == x.tr with
  | some i => b.instRx x i
  | none => match (if b.pfeat p featTc && !b.nearLoop p then b.fwdGroup p else none) with
    | some g => b.forward x g
    | none => b.ptpExc x

/-- A PTP frame at the Clicker, whose message begins at `at_` with n bytes of payload (R264 rows 1 and 2; a minorVersionPTP
that R262 does not accept is malformed, log entry 74). -/
def Blk.ptpRx (b : Blk) (p tRx : Nat) (data : Bytes) (tr at_ n : Nat) : Blk :=
  let v := byteAt data (at_ + 1)
  let len := beAt data (at_ + 2) 2
  if 2 ≤ n ∧ v % 16 ≠ 2 then b.inc C.PTP_BADVER
  else if n < 34 ∨ len < 34 ∨ n < len ∨ 2 ≤ v / 16 then b.inc C.PTP_MALF
  else
    let alt := b.tpid p
    let ip := ((ipOf alt data).map (·.src)).getD []
    b.ptpRows { port := p, tRx := tRx, steps := b.ins.stepSum, tr := tr, mac := sliceB data 6 6, ip := ip, tags := tagBytes alt data
                group := bitOf (byteAt data 0) 0, m := sliceB data at_ len, data := data }

end Sys2Proof.Machine
end

