-- ==== Sys2Proof/Machine/Ptp.lean ====
section
/-! DEFINITION. The commands of PTP (10): sweeps, follow-ups, grants and their renewal, the Announce timeout, the residence
limit, the end of an asymmetry estimate, and ACCEPT_PATH (04 R105). -/

namespace Sys2Proof.Machine

/-! ### Sweeps (R272, 03 R61) -/

/-- The multicast messages of instance i due on port p at an interval. -/
def Blk.sweepMulti (b : Blk) (i p : Nat) (n : Int) : Blk :=
  let speaks := b.instSpeaks i p && (b.instProf i).uni != 2
  let v := b.instMulti i false
  let log := msgLog false n
  let b := if speaks && b.rdS (R.PTP_INST_RATE_LOG_SYNC i) == n then
      (b.sendSync i p v false (b.ptpSeq (seqKey i p 0)) log).ptpSeqNext (seqKey i p 0) else b
  let b := if speaks && b.rdS (R.PTP_INST_RATE_LOG_ANN i) == n then
      (b.sendAnn i p v false (b.ptpSeq (seqKey i p 0xB)) log).ptpSeqNext (seqKey i p 0xB) else b
  if b.instActive i p && b.instP2p i && b.servesGm && !b.draining && b.rdS (R.PTP_INST_RATE_LOG_PDREQ i) == n then b.sendPdelayReq i p else b

/-- The next sequenceId of a grant. -/
def PSess.seqNext (s : PSess) (msg : Nat) : PSess :=
  { s with grants := s.grants.map fun g => (if g.msg = msg then { g with seqId := (g.seqId + 1) % 0x10000 } else g) }
def Blk.grantSeqNext (b : Blk) (s : PSess) (msg : Nat) : Blk :=
  let l := b.ptp.sess.map fun o => if sameSess s o then o.seqNext msg else o
  { b with ptp := { b.ptp with sess := l } }

/-- The message of a grant of a session, if it is due at this interval. -/
def Blk.sweepGrant (b : Blk) (s : PSess) (n : Int) (msg : Nat) : Blk :=
  match s.grants.find? fun g => g.msg == msg && g.log == n && decide (b.up < g.endUp) with
  | none => b
  | some g =>
    let c := if msg = 0 then b.sendSync s.inst s.port (b.instUni s) true g.seqId 0x7F else b.sendAnn s.inst s.port (b.instUni s) true g.seqId 0x7F
    c.grantSeqNext s msg

/-- The messages of the sessions of instance i due on port p. -/
def Blk.sweepUni (b : Blk) (i p : Nat) (n : Int) : Blk :=
  if !b.instSpeaks i p then b
  else (b.ptp.sess.filter fun s => s.inst == i && s.port == p).foldl (fun b s => (b.sweepGrant s n 0).sweepGrant s n 0xB) b

/-- The grid point of an interval that has come, unless it has been passed. -/
def Blk.gridDue (b : Blk) (key iv : Nat) : Option Nat :=
  let t := b.ins.now / iv * iv
  if thas b.ptp.sweeps key && decide (t ≤ tget 0 b.ptp.sweeps key) then none else some t

/-- The messages of the instances due at the grid point of an interval that has come on port p. -/
def Blk.sweep (b : Blk) (p : Nat) (n : Int) : Blk :=
  if !b.ins.running || !b.portPresent p || n < -8 || 7 < n then b else
  match b.gridDue (sweepKey p n) (logU n) with
  | none => b
  | some t =>
    let b := Blk.pmcEvent { b with ptp := { b.ptp with sweeps := tput b.ptp.sweeps (sweepKey p n) t } } 0xA0 0 1
    if (b.portOf p).link then [0, 1, 2, 3].foldl (fun b i => (b.sweepMulti i p n).sweepUni i p n) b else b

/-- The client's request of an interval, at an offset in its first half (R278): the offset is the command's instant. -/
def Blk.sweepClient (b : Blk) (p : Nat) : Blk :=
  let iv := logU (b.rdS (R.PTP_RC_CFG_LOG_DREQ p))
  if !b.ins.running || !b.portPresent p || decide (iv ≤ 2 * (b.ins.now % iv)) then b else
  match b.gridDue (512 + p) iv with
  | none => b
  | some t =>
    let b := Blk.pmcEvent { b with ptp := { b.ptp with sweeps := tput b.ptp.sweeps (512 + p) t } } 0xA0 0 1
    if (b.portOf p).link then b.clientRequest p else b

/-- PTP_SWEEP: `client` tells the request of the reference client of port p from the messages of the instances. -/
def execPtpSweep (w p : Nat) (n : Int) (client : Bool) (s : State) : Host.Outcome State Fault Refusal :=
  s.upd w fun _ b => if client then b.sweepClient p else b.sweep p n

/-! ### Follow-ups (R273) -/

/-- The engine builds the follow-up of the oldest two-step event message that has left. -/
def Blk.followUp (b : Blk) : Blk :=
  match b.ptp.fups with
  | [] => b
  | x :: rest =>
    let b := { b with ptp := { b.ptp with fups := rest } }
    b.ptpPut (b.ptpTx x.port .keep none (b.followFrame x))

def execFollowUp (w : Nat) (s : State) : Host.Outcome State Fault Refusal := s.upd w fun _ b => b.followUp

/-! ### Grants (R274, R277) -/

/-- A grant of the session at an index ends by time; a session without grants is freed. -/
def Blk.grantExpire (b : Blk) (i msg : Nat) : Blk :=
  match b.ptp.sess[i]? with
  | some s => b.sessPut { s with grants := s.grants.filter fun g => !(g.msg == msg && decide (g.endUp ≤ b.up)) }
  | none => b

def execGrantExpire (w i msg : Nat) (s : State) : Host.Outcome State Fault Refusal := s.upd w fun _ b => b.grantExpire i msg

def execClientRenew (w p m msg : Nat) (s : State) : Host.Outcome State Fault Refusal := s.upd w fun _ b => b.clientRenew p m msg

/-! ### The Announce timeout (R271) -/

/-- Foreign masters of a role on a port that have not been heard for n of their intervals are forgotten. -/
def Blk.foreignDrop (b : Blk) (who p n : Nat) : Blk :=
  { b with ptp := { b.ptp with foreign := b.ptp.foreign.filter fun f =>
      !(f.who == who && f.port == p && decide (f.seen.headD 0 + n * f.iv ≤ b.up)) } }

/-- announceReceiptTimeout intervals have passed without a better Announce: the instance is MASTER again. -/
def Blk.instTimeout (b : Blk) (i p : Nat) : Blk :=
  let n := b.rd (R.PTP_INST_RATE_ANN_TIMEOUT i)
  let b := b.foreignDrop i p n
  if bitOf (tget 0 b.ptp.passive i) p && decide (tget 0 b.ptp.betterAt (bmcaKey i p) + n * logU (b.rdS (R.PTP_INST_RATE_LOG_ANN i)) ≤ b.up) then
    Blk.recPtp { b with ptp := { b.ptp with passive := tput b.ptp.passive i (putBit (tget 0 b.ptp.passive i) p false) } } p i 2
  else b

/-- ANNOUNCE_TIMEOUT of an instance, or of the client (`who` 8) after three intervals (log entry 71). -/
def execAnnounceTimeout (w p who : Nat) (s : State) : Host.Outcome State Fault Refusal :=
  s.upd w fun _ b =>
    if 32 ≤ p then b
    else if who < 4 then b.instTimeout who p
    else
      let b := b.foreignDrop 8 p 3
      if b.clientRuns p then b.clientChoose p else b

/-! ### The residence limit (R276) -/

/-- The residence of a forwarded copy by now. -/
def Blk.resideNow (b : Blk) (f : TxF) : Option Int :=
  match f.stamp with
  | .residence tRx steps _ => some ((b.ins.now : Int) - tRx - (b.ins.stepSum - steps))
  | _ => none

/-- A copy whose residence has reached MAX_RES_US is dropped. -/
def Blk.maxRes (b : Blk) (p id : Nat) : Blk :=
  match (b.portOf p).queue.find? fun f => f.id == id with
  | none => b
  | some f => match b.resideNow f with
    | some r =>
      if (usU (atLeast1 (b.rd R.PTP_FWD_CTRL_MAX_RES_US)) : Int) ≤ r then (((b.takeFrame f).frameFree f).inc C.PTP_FWD_DROP).txRetry else b
    | none => b

def execMaxResExpire (w p id : Nat) (s : State) : Host.Outcome State Fault Refusal := s.upd w fun _ b => b.maxRes p id

/-! ### Path steps (R280) -/

def execAsymEstimateDone (w p : Nat) (s : State) : Host.Outcome State Fault Refusal :=
  s.upd w fun _ b => if p < 32 then b.estEnd p else b

/-- ACCEPT_PATH: the new delay stands. -/
def Blk.acceptPath (b : Blk) (ref : DRef) (d : Bytes) : Blk :=
  let k := refSlot d
  if 24 ≤ k then b.complete ref stMalformed []
  else if !(b.slotOf k).frozen then b.complete ref stDenied []
  else (b.thaw (b.slotObj k)).complete ref stOk []

def execRefAcceptPath (w r : Nat) (s : State) : Host.Outcome State Fault Refusal :=
  s.upd w fun _ b => b.withDesc r 0x22 (fun d => byteAt d 8 == 7) fun ref d b => b.acceptPath ref d

end Sys2Proof.Machine
end

