-- ==== Sys2Proof/Machine/Serve.lean ====
section
/-! DEFINITION. The serving pipeline (08, 09 R240 to R256): the Dispatcher's reservations and assignments, the invocations of
the engines and what they decide, their returns and the responses, re-seals, shedding by age and by fairness. -/

namespace Sys2Proof.Machine

/-! ### The Dispatcher (08 R206, 09 R233, 13 R347, R352) -/

/-- Engines that a SELFTEST keeps from new work (08 R215). -/
def Blk.testing (b : Blk) (e : Nat) : Bool := match b.eng.self with | some t => t.engines.contains e | none => false

/-- A free Lane of an engine that takes work. -/
def Blk.laneOf (b : Blk) (e : Nat) : Option Nat :=
  if b.engineWorking e && !b.testing e then ((List.range 4).map (4 * e + ·)).find? fun l => (b.invAt? l).isNone else none

/-- Free Lanes of a Bench that take work. -/
def Blk.openLanes (b : Blk) (i : Nat) : Nat :=
  ((List.range 64).filter fun l => let e := 16 * i + l / 4
    b.engineWorking e && !b.testing e && (b.invAt? (64 * i + l)).isNone).length

/-- The Lane of a Bench that is next: engines take turns. -/
def Blk.nextLane (b : Blk) (i : Nat) : Option Nat :=
  let first := tget 0 b.clk.rr i
  ((List.range 16).map fun k => 16 * i + (first + k) % 16).findSome? b.laneOf

/-- A free context of a working Stitcher of a Bench: the lowest (log entry 75). -/
def Blk.nextCtx (b : Blk) (i : Nat) : Option Nat :=
  [2 * i, 2 * i + 1].findSome? fun s =>
    if b.stitcherWorking s && !b.nts.stale.contains s then ((List.range 128).map (128 * s + ·)).find? fun k => (b.ctxAt? k).isNone else none

/-- Egress bytes of a request's response. -/
def Req.egNeed (r : Req) : Nat := if r.nts then 352 + 108 * (r.k - 1) else 128

/-- The Bench of a free Lane for a request: the port's own, else the one with the most free Lanes, the lower on a tie. -/
def Blk.pickBench (b : Blk) (r : Req) : Option Nat :=
  let ok := fun i => decide (0 < b.openLanes i) && (!r.nts || (b.nextCtx i).isSome)
  let own := benchOfPort r.port
  if ok own then some own
  else ((List.range 4).filter ok).foldl (fun (x : Option Nat) i => match x with
    | none => some i
    | some j => if b.openLanes j < b.openLanes i then some i else some j) none

/-- The lease time from which a request is too old (08 R222, 15 R403). -/
def Blk.ageEnd (b : Blk) (r : Req) : Nat := r.t2Up + nsU (clampN 500 65535 (b.rd R.CLK_SHED_AGE_NS))

/-- The heads of the port queues, in the order of admission. -/
def reqHeads (l : List Req) : List Req :=
  l.foldl (fun hs r => if hs.any fun h => h.port == r.port then hs else hs ++ [r]) []

/-- Replace a waiting request by itself changed. -/
def Blk.reqPut (b : Blk) (r : Req) : Blk :=
  { b with clk := { b.clk with reqs := b.clk.reqs.map fun q => if q.num = r.num then r else q } }

/-- Reserve egress space for a head: it waits, counted once, where there is none. -/
def Blk.reqReserve (b : Blk) (r : Req) : Blk × Option Req :=
  if r.eg ≠ 0 then (b, some r)
  else if b.egGrants r.port r.egNeed then
    let r := { r with eg := r.egNeed, egWait := false }
    ((b.egTake r.port r.egNeed).reqPut r, some r)
  else if r.egWait then (b, none)
  else ((b.reqPut { r with egWait := true }).inc C.FLC_EG_WAIT, none)

/-- Start the wait for a bucket lock, or take it. -/
def Blk.lockAsk (b : Blk) (lane bkt : Nat) : Blk :=
  if (b.lockHolder bkt).isNone then b.lockTake bkt lane
  else
    let b := match b.invAt? lane with | some v => b.setInv lane { v with lockWait := true } | none => b
    Blk.inc { b with ct := { b.ct with waits := b.ct.waits ++ [(bkt, .lane lane)] } } C.ENG_ROW_WAIT

/-- The client key of a request: its IP version and key bytes. -/
def Blk.reqKey (b : Blk) (r : Req) : Bool × Bytes :=
  match ipOf (b.tpid r.port) r.data with
  | some ip => (ip.v6, b.keyBytes ip.v6 ip.src)
  | none => (false, [])

/-- The end of a context's lease. -/
def Blk.leaseEnd (b : Blk) (r : Req) : Nat := r.t2Up + usU (clampN 10000 65535 (b.rd R.NTS_SAL_SPAN_MAX_HOLD_US))

/-- Put an invocation on a Lane of Bench i: the engine's turn passes. -/
def Blk.place (b : Blk) (i lane : Nat) (v : Inv) : Blk :=
  let b := b.setInv lane { v with heldFrom := b.up, startUp := b.leaseNow }
  Blk.pmcEvent { b with clk := { b.clk with rr := tput b.clk.rr i ((lane / 4 + 1) % 16) } } 0x30 i 1

/-- Assign a request that holds its egress space to a Lane of Bench i. -/
def Blk.assign (b : Blk) (r : Req) (i lane : Nat) : Blk :=
  let ctx := if r.nts then b.nextCtx i else none
  let b := match ctx with | some k => b.setCtx k { req := r, leaseEnd := b.leaseEnd r } | none => b
  let b := { b with clk := { b.clk with reqs := b.clk.reqs.filter fun q => q.num != r.num } }
  let bkt := b.bucketOf (b.reqKey r).2
  let b := b.place i lane { entry := if r.nts then 1 else 0, req := r, eg := r.eg, ctx := ctx, bucket := some bkt }
  let b := if i = benchOfPort r.port then b else b.pmcEvent 0x33 (benchOfPort r.port) 1
  b.lockAsk lane bkt

/-- Try one head; whether it has been assigned. -/
def Blk.tryHead (b : Blk) (r : Req) : Blk × Bool :=
  match b.reqReserve r with
  | (b, none) => (b, false)
  | (b, some r) =>
    match b.pickBench r with
    | some i => match b.nextLane i with
      | some l => (b.assign r i l, true)
      | none => (b, false)
    | none =>
      let noCtx := r.nts && (List.range 4).any (fun i => decide (0 < b.openLanes i))
        && (List.range 4).all fun i => (b.nextCtx i).isNone || b.openLanes i == 0
      (b.reqPut { r with ctxWait := noCtx }, false)

/-- Assign the first head that can be. -/
def Blk.tryHeads (b : Blk) : List Req → Blk
  | [] => b
  | r :: rest => match b.tryHead r with
    | (b, true) => b
    | (b, false) => b.tryHeads rest

/-- The oldest re-seal that can start: its context and a Lane of its Bench. -/
def Blk.resealNext (b : Blk) : Option (Nat × Ctx × Nat) :=
  let ready := b.nts.ctxs.filterMap fun e => match e.2.ready with | some t => some (t, e.1, e.2) | none => none
  (ready.foldl (fun (l : List (Nat × Nat × Ctx)) x => (l.filter fun y => decide (y.1 ≤ x.1)) ++ [x] ++ l.filter fun y => decide (x.1 < y.1)) []).findSome? fun x =>
    (b.nextLane (x.2.1 / 256)).map fun l => (x.2.1, x.2.2, l)

/-- One assignment: a re-seal before any request. -/
def Blk.dispatch (b : Blk) : Blk :=
  match b.resealNext with
  | some (k, c, l) =>
    (b.setCtx k { c with ready := none }).place (k / 256) l { entry := 2, req := c.req, eg := 0, ctx := some k }
  | none => b.tryHeads ((reqHeads b.clk.reqs).filter fun r => decide (b.leaseNow < b.ageEnd r))

def execDispatchAssign (w : Nat) (s : State) : Host.Outcome State Fault Refusal := s.upd w fun _ b => b.dispatch

/-- Waiting requests that have reached their age are shed (08 R222). -/
def Blk.ageShed (b : Blk) : Blk :=
  let gone := b.clk.reqs.filter fun r => decide (b.ageEnd r ≤ b.leaseNow)
  gone.foldl (fun b r => (b.reqFree r).inc C.CLK_SHED_AGE)
    { b with clk := { b.clk with reqs := b.clk.reqs.filter fun r => decide (b.leaseNow < b.ageEnd r) } }

def execAgeShed (w : Nat) (s : State) : Host.Outcome State Fault Refusal := s.upd w fun _ b => b.ageShed.txRetry

/-! ### SELFTEST begins (08 R215) -/

/-- Once every named engine is idle, one invocation starts on Lane 0 of each. -/
def Blk.selfSync (b : Blk) : Blk :=
  match b.eng.self with
  | none => b
  | some t =>
    if t.started || b.eng.invs.any fun e => t.engines.contains (e.1 / 4) then b
    else
      let req : Req := { num := 0, port := 0, data := [], t2 := 0, t2Up := 0, svc := 0, nts := false, k := 0, cost := 0 }
      let b := { b with eng := { b.eng with self := some { t with started := true, count := t.engines.length } } }
      let v : Inv := { entry := 6, req := req, eg := 0, started := true, heldFrom := b.up, startUp := b.leaseNow, self := true }
      t.engines.foldl (fun b e => ((b.setInv (4 * e) v).inc C.ENG_INVOKE).pmcEvent 0x22 e 1) b

/-! ### The decision (08 R201 to R203, 09 R240) -/

/-- The row of a request's client: its place, the row, whether it is inserted and whether it replaces a valid one. No place:
both rows are PINNED. -/
structure RowPick where
  pos : Option Nat
  row : Row
  inserted : Bool
  evicted : Bool

def Blk.rowPick (b : Blk) (k : Bucket) (v6 : Bool) (key : Bytes) (now : Nat) : RowPick :=
  match findRow k v6 key with
  | some i => let r := rowAt k i; ⟨some i, if b.rematch r then b.matchRow r key else r, false, false⟩
  | none => match victim k now with
    | some i => ⟨some i, b.newRow v6 key now, true, (rowAt k i).valid⟩
    | none => ⟨none, b.newRow v6 key now, false, false⟩

/-- Whether a request's lookup matches against the access list. -/
def Blk.rowMatches (b : Blk) (k : Bucket) (v6 : Bool) (key : Bytes) : Bool :=
  match findRow k v6 key with | some i => b.rematch (rowAt k i) | none => true

/-- What follows from the verdict of R202 by R203: the plan, and the row as a KoD would leave it. -/
def actOf (p : Profile) (now : Nat) (v : Verdict) (r : Row) : Plan × Row :=
  let kod := fun deny => if kodDue p now r then (Plan.kod deny, kodSent now r) else (Plan.drop C.CLK_KOD_SUPP true, r)
  match v with
  | .serve => (.serve, r)
  | .deny => if p.denyAct then kod true else (.drop C.CLK_DENY_DROP true, r)
  | .limit => match p.limitAct with
    | 1 => kod false
    | 2 => (.serve, r)
    | _ => (.drop C.CLK_LIMITED_DROP true, r)

/-- The decision on the row of a request, at the instant its engine holds the bucket. -/
def Blk.decideRow (b : Blk) (v : Inv) : Blk × Plan × Option WriteBack :=
  let now := now16 b.ins.now
  let at_ := v.bucket.getD 0
  let bk := b.bucketAt at_
  let key := b.reqKey v.req
  let x := b.rowPick bk key.1 key.2 now
  let b := if b.rowMatches bk key.1 key.2 then b.aclCount (b.aclMatch key.1 key.2) else b
  let prof := b.profile x.row.profile
  let d := rateDecide prof now { x.row with lastPort := v.req.port }
  let a := actOf prof now d.1 d.2
  match x.pos with
  | some i => (b, a.1, some ⟨at_, i, d.2, a.2, x.inserted, x.evicted⟩)
  | none => (b.inc C.CLK_CT_NOROW, a.1, none)

/-- Whether a plan answers the client. -/
def Plan.answers : Plan → Bool
  | .serve => true | .kod _ => true | _ => false

/-- What an NTS request that fails R239 ends in (R242, R243). -/
def Blk.ntsFail (b : Blk) (p : Plan) : Plan :=
  if p = .serve ∧ b.flag R.NTS_CTRL_NAK_ACT then .nak else .drop C.CLK_POLICY_DROP false

/-- The decision on an NTS request whose structure is sound (R240 steps 2 and 3). -/
def Blk.decideNts (b : Blk) (v : Inv) (q : NtsReq) : Blk × Plan × Option WriteBack :=
  let d := b.decideRow v
  if !d.2.1.answers then d
  else
    let c := d.1.ntsCheck q
    match c.2, v.ctx with
    | some (c2s, s2c), some k =>
      (match c.1.ctxAt? k with
        | some x => (c.1.setCtx k { x with c2s := c2s, s2c := s2c }, d.2)
        | none => (c.1, d.2))
    | _, _ => (c.1, c.1.ntsFail d.2.1, d.2.2.map fun w => { w with kodRow := w.row })

/-- An invocation at entry point NTP or NTS holds its bucket and decides. -/
def Blk.decideReq (b : Blk) (lane : Nat) (v : Inv) : Blk :=
  let d := if v.entry = 0 then b.decideRow v
    else match ntsParse (v.req.pay (b.tpid v.req.port)) with
      | none => (b, .exceptNts, none)
      | some q => if b.noSeal then (b, .exceptNts, none) else b.decideNts v q
  d.1.setInv lane { v with started := true, storeWait := false, plan := some d.2.1, wb := d.2.2 }

/-! ### Invocations (08 R207, R199) -/

/-- The running Pattern set of a Bench. -/
def Blk.setOf (b : Blk) (i : Nat) : PSet := tget romSet b.eng.sets i

/-- An invocation ends with its request at the exception ring. -/
def Blk.invExcept (b : Blk) (lane : Nat) (v : Inv) (reason : Nat) : Blk :=
  let c := if v.entry = 2 then (b.invAbort lane).sealDrop else b.invAbort lane
  (c.excPut v.req.port v.req.t2 b.ins.stepSum reason v.req.data).selfSync

/-- An invocation at entry point RELAUNCH starts: a mode that does not serve NTS drops the response (09 R256). -/
def Blk.relaunchStart (b : Blk) (lane : Nat) (v : Inv) : Blk :=
  let b := b.inc C.ENG_INVOKE
  if b.servesNtp (b.nearLoop v.req.port) then
    let b := b.setInv lane { v with started := true, startUp := b.leaseNow, plan := some .serve }
    match v.ctx with
    | some k => (match b.ctxAt? k with
      | some c => (b.setCtx k { c with reseals := c.reseals + 1, missed := none }).inc C.NTS_RESEAL
      | none => b)
    | none => b
  else (((b.invAbort lane).sealDrop).inc C.CLK_POLICY_DROP).selfSync

/-- A Lane starts its invocation. `hit`: its bucket lies in the client-row cache, so that it decides at once. -/
def Blk.invoke (b : Blk) (lane : Nat) (hit : Bool) : Blk :=
  match b.invAt? lane with
  | none => b
  | some v =>
    if v.started || v.lockWait then b
    else if !bitOf (b.setOf (lane / 64)).entries v.entry then b.invExcept lane v excPattern
    else
      let b := b.pmcEvent 0x22 (lane / 4) 1
      if v.entry = 2 then b.relaunchStart lane v
      else
        let b := b.inc C.ENG_INVOKE
        let b := if v.entry = 1 then b.inc C.NTS_REQ else b
        let b := (b.pmcEvent 0x40 0 1).pmcEvent 0x42 0 1
        let v := { v with started := true, startUp := b.leaseNow }
        if hit then (b.inc C.CLK_CACHE_HIT).decideReq lane v
        else (b.setInv lane { v with storeWait := true }).inc C.CLK_CACHE_MISS

def execEngineInvoke (w lane : Nat) (hit : Bool) (s : State) : Host.Outcome State Fault Refusal :=
  s.upd w fun _ b => (b.invoke lane hit).txRetry

/-- The bucket of a waiting invocation arrives from the Store. -/
def execBucketArrive (w lane : Nat) (s : State) : Host.Outcome State Fault Refusal :=
  s.upd w fun _ b => match b.invAt? lane with
    | some v => if v.storeWait then b.decideReq lane v else b
    | none => b

/-- A re-seal begins on a Lane that the Dispatcher has given it (09 R256). -/
def execResealStart (w lane : Nat) (s : State) : Host.Outcome State Fault Refusal :=
  s.upd w fun _ b => match b.invAt? lane with
    | some v => if v.entry = 2 then (b.invoke lane true).txRetry else b
    | none => b

/-! ### Returns (08 R209) -/

/-- Write an invocation's row back. -/
def Blk.writeBack (b : Blk) (v : Inv) (kod : Bool) : Blk :=
  match v.wb with
  | none => b
  | some w =>
    let b := b.setBucket w.bucket (putRow (b.bucketAt w.bucket) w.pos (if kod then w.kodRow else w.row))
    let b := if w.inserted then b.inc C.CLK_CT_INSERT else b
    let b := if w.evicted then b.inc C.CLK_CT_EVICT else b
    (b.pmcEvent 0x41 0 1).pmcEvent 0x42 0 1

/-- A response fits its reservation and MAXFRAME. -/
def Blk.fits (b : Blk) (f : TxF) : Bool := decide (f.len ≤ f.eg) && decide (f.len ≤ b.rd (R.PRT_MAXFRAME_MAXFRAME f.port))

/-- A response that does not fit is not sent (08 R225): DROP_POLICY. -/
def Blk.tooLong (b : Blk) (f : TxF) : Blk :=
  let b := if b.rd (R.PRT_MAXFRAME_MAXFRAME f.port) < f.len then b.inc (C.PRT_TX_OVERSIZE f.port) else b
  (b.frameFree f).inc C.CLK_POLICY_DROP

/-- Queue a response if it fits, and count it. -/
def Blk.sendFrame (b : Blk) (f : TxF) (counter : Nat) : Blk := if b.fits f then (b.queueFrame f).inc counter else b.tooLong f

/-- The Unique Identifier field of a request. -/
def Blk.reqUid (b : Blk) (r : Req) : Bytes := match ntsParse (r.pay (b.tpid r.port)) with | some q => q.uid | none => []

/-- The length of the NTP payload of a served NTS request with a uid field of n bytes and k cookies. -/
def sealedLen (n k : Nat) : Nat := 48 + n + 24 + pad4 (16 + 108 * k)

/-- The response of R241 of context k with its transmit timestamp x: two draws for the header, sixteen for the nonce. -/
def Blk.ntsFrame (b : Blk) (k : Nat) (c : Ctx) (eg x : Nat) : Blk × TxF :=
  let head := b.ntpHead c.req x
  let b := b.draw 2
  let pay := sealedPay head (b.reqUid c.req) c.s2c (freeBytes 16 b.freeCtr) c.cookies
  (b.draw 16, { b.answer c.req eg .keep pay with ctx := some k })

/-- SEND_AT: the response of context k is granted a launch, sealed and armed; no grant is an OVERLOAD miss (09 R252). -/
def Blk.sealSend (b : Blk) (k : Nat) (c : Ctx) (eg : Nat) : Blk :=
  let p := c.req.port
  let probe := { b.answer c.req eg .keep (List.replicate (sealedLen (b.reqUid c.req).length c.req.k) 0) with ctx := some k }
  if !b.fits probe then b.tooLong probe
  else match b.grant p probe.len with
  | none => b.ctxMiss k eg 4
  | some L =>
    let x := b.ntsFrame k c eg (b.ntp64 L)
    (x.1.armSeal x.2 L).inc C.CLK_SERVED

/-- The end of a served NTS request (R241, R244): no CURRENT epoch sends it to the exception ring. -/
def Blk.ntsServe (b : Blk) (v : Inv) (k : Nat) (c : Ctx) : Blk :=
  match b.cookiesNew k c with
  | none =>
    ((((b.egFree v.req.port v.eg).ctxFree k).inc C.NTS_EXC).excPut v.req.port v.req.t2 b.ins.stepSum excNts v.req.data)
  | some b =>
    match b.ctxAt? k with
    | none => b
    | some c =>
      if b.pfeat v.req.port featSeal then b.sealSend k c v.eg
      else
        let x := b.ntsFrame k c v.eg (b.ntp64 (b.ins.now + nsU (b.rd R.NTS_CTRL_NOSAL_ADV_NS)))
        x.1.sendFrame x.2 C.CLK_SERVED

/-- The profile under which a request was decided: of its row, or the one that matching gives without a row. -/
def Blk.planProfile (b : Blk) (v : Inv) : Profile :=
  let key := b.reqKey v.req
  b.profile (match v.wb with | some w => w.row.profile | none => (b.aclSet (b.aclMatch key.1 key.2)).1)

/-- A Kiss-o'-Death (R203), with an authenticator for an NTS request (R243). -/
def Blk.kodSend (b : Blk) (v : Inv) (deny : Bool) : Blk :=
  let r := v.req
  let poll := b.reqPoll r
  let head := if deny then b.kodHead r "DENY" poll else b.kodHead r "RATE" (pollMax poll (b.planProfile v).kodPoll)
  let counter := if deny then C.CLK_KOD_DENY else C.CLK_KOD_RATE
  match v.ctx with
  | none => b.sendFrame (b.answer r v.eg .keep head) counter
  | some k => match b.ctxAt? k with
    | none => b
    | some c =>
      let f := { b.answer r v.eg .keep (sealedPay head (b.reqUid r) c.s2c (freeBytes 16 b.freeCtr) []) with ctx := some k }
      let d := (b.draw 16).sendFrame f counter
      if b.fits f then d.inc C.NTS_KOD else d

/-- An NTS NAK (R242). -/
def Blk.nakSend (b : Blk) (v : Inv) : Blk :=
  let r := v.req
  b.sendFrame { b.answer r v.eg .keep (b.kodHead r "NTSN" (b.reqPoll r) ++ b.reqUid r) with ctx := v.ctx } C.NTS_NAK

/-- The reservations of an invocation that sends nothing. -/
def Blk.invRelease (b : Blk) (v : Inv) : Blk := (b.egFree v.req.port v.eg).ctxFree? v.ctx

/-- The response, exception or drop of a request that has been decided. -/
def Blk.planEnd (b : Blk) (v : Inv) (p : Plan) : Blk :=
  match p with
  | .serve => match v.ctx with
    | some k => (match b.ctxAt? k with | some c => b.ntsServe v k c | none => b)
    | none => (b.sendFrame (b.answer v.req v.eg .ntp (b.ntpHead v.req 0)) C.CLK_SERVED).draw 2
  | .kod deny => b.kodSend v deny
  | .drop c _ => (b.invRelease v).inc c
  | .nak => b.nakSend v
  | .exceptNts => ((b.invRelease v).inc C.NTS_EXC).excPut v.req.port v.req.t2 b.ins.stepSum excNts v.req.data

/-- The end of a re-seal (09 R256): cookies of an epoch that is no longer live are sealed anew. -/
def Blk.relaunchEnd (b : Blk) (k : Nat) (c : Ctx) : Blk :=
  let b1 := if (b.liveEpoch c.cookieEpoch).isSome then some b else b.cookiesNew k c
  match b1 with
  | none => (((b.ctxFree k).sealDrop).inc C.CLK_POLICY_DROP)
  | some b => match b.ctxAt? k with
    | none => b
    | some c =>
      let eg := c.eg
      (b.setCtx k { c with eg := 0 }).sealSend k { c with eg := 0 } eg

/-- A planned return: the row is written back, the lock released, the response goes to the Closer. -/
def Blk.planReturn (b : Blk) (lane : Nat) (v : Inv) (p : Plan) : Blk :=
  let cyc := b.laneCycles v
  let b := b.writeBack v (match p with | .kod _ => true | _ => false)
  let b := (b.invLeave lane v).pmcEvent 0x10 (lane / 64) cyc
  if v.entry = 2 then
    match v.ctx with
    | some k => (match b.ctxAt? k with | some c => b.relaunchEnd k c | none => b)
    | none => b
  else b.planEnd v p

/-- FAULT: no response, an error on the engine. -/
def Blk.invFault (b : Blk) (lane : Nat) (v : Inv) : Blk :=
  let b := (b.invAbort lane).inc C.ENG_FAULT
  let b := if v.entry = 2 then b.sealDrop else b
  b.raise 0x12 (lane / 4) 0

/-- The SELFTEST invocation of an engine ends with a code. -/
def Blk.selfEnd (b : Blk) (lane code instr : Nat) (scratch : Bytes) : Blk :=
  match b.eng.self with
  | none => b
  | some t =>
    let e := lane / 4
    let t := { t with ends := t.ends ++ [(e, code)], instr := max t.instr instr, results := t.results ++ [(e, scratch)] }
    { b with eng := { b.eng with self := some t } }

/-- Return codes with a response or a drop of the plan's own. -/
def planned (code : Nat) : Bool :=
  code == 0x00 || code == 0x01 || code == 0x02 || code == 0x10 || code == 0x11 || code == 0x21

/-- A Pattern returns: `instr` instructions were issued; `scratch` is the scratch a SELFTEST leaves. Where a request was decided, the
plan says what R209 does; the code of the Pattern tells an EXCEPT and a FAULT from it (log entry 76). -/
def Blk.patReturn (b : Blk) (lane code instr : Nat) (scratch : Bytes) : Blk :=
  match b.invAt? lane with
  | none => b
  | some v =>
    if !v.started then b
    else
      let n := b.pmcEvent 0x20 (lane / 4) instr
      if v.self then
        let c := (n.invLeave lane v).pmcEvent (if planned code then 0x10 else 0x11) (lane / 64) (b.laneCycles v)
        let c := c.selfEnd lane code instr scratch
        if planned code then c
        else if code = 0x20 then c.inc C.ENG_EXCEPT
        else (c.inc C.ENG_FAULT).raise 0x12 (lane / 4) 0
      else if code = 0x20 then (n.inc C.ENG_EXCEPT).invExcept lane v excPattern
      else if !planned code then (n.invFault lane v).selfSync
      else match v.plan with
        | some p => (n.planReturn lane v p).selfSync
        | none => b

def execPatternReturn (w lane code instr : Nat) (scratch : Bytes) (s : State) : Host.Outcome State Fault Refusal :=
  s.upd w fun _ b => (b.patReturn lane code instr scratch).txRetry

/-- An invocation passes its instruction limit and is stopped (08 R210); a SELFTEST ends with a code the spec does not give (log
entry 3). -/
def Blk.overrunAt (b : Blk) (lane instr : Nat) (scratch : Bytes) : Blk :=
  match b.invAt? lane with
  | none => b
  | some v =>
    if !v.started || instr ≤ clampN 256 4095 (b.rd R.ENG_CTRL_LIMIT) then b
    else
      let n := (b.inc C.ENG_OVERRUN).pmcEvent 0x20 (lane / 4) instr
      let c := if v.self then ((n.invAbort lane).selfEnd lane (n.freeBelow 256) instr scratch).draw 1
        else if v.entry = 2 then (((n.invAbort lane).sealDrop).inc C.CLK_POLICY_DROP).selfSync
        else n.invExcept lane v excOverrun
      c.raise 0x13 (lane / 4) 0

def execOverrun (w lane instr : Nat) (scratch : Bytes) (s : State) : Host.Outcome State Fault Refusal :=
  s.upd w fun _ b => (b.overrunAt lane instr scratch).txRetry

/-- A bucket lock has been held for its lease of 4 µs: it is revoked as error 0x14 (08 R211, 15 R403). -/
def Blk.leaseExpire (b : Blk) (lane : Nat) : Blk :=
  match b.invAt? lane with
  | none => b
  | some v => match v.bucket with
    | some k =>
      if b.lockHolder k = some lane ∧ v.lockFrom + usU 4 ≤ b.leaseNow then ((b.raise 0x14 (lane / 4) 0).invDiscard lane).selfSync else b
    | none => b

def execBucketLeaseExpire (w lane : Nat) (s : State) : Host.Outcome State Fault Refusal :=
  s.upd w fun _ b => (b.leaseExpire lane).txRetry

/-- A Store transaction of a Lane exceeds STORE_TMO_US: its invocation ends as a FAULT, with an error on the Store controller (13
R355). -/
def Blk.storeTimeout (b : Blk) (lane : Nat) : Blk :=
  match b.invAt? lane with
  | none => b
  | some v =>
    if v.started && v.storeWait && decide (v.startUp + usU (atLeast1 (b.rd R.FLC_LIMIT_STORE_TMO_US)) ≤ b.leaseNow) then
      (((b.inc C.FLC_STORE_TMO).invFault lane v).raise 0x15 0x59 0).selfSync
    else b

def execStoreTimeout (w lane : Nat) (s : State) : Host.Outcome State Fault Refusal := s.upd w fun _ b => (b.storeTimeout lane).txRetry

/-! ### Fair admission (08 R220, R221) -/

/-- Q, and the quota as a fraction: numerator and denominator. -/
def Blk.quotaNum (b : Blk) : Nat := b.part.variant.fullQuota * b.workingEngines * clampN 50 100 (b.rd R.CLK_SHED_LIMIT_PCT)
def Blk.quotaDen (b : Blk) : Nat := 16 * b.part.variant.benches * 100

/-- Σ min(d, F) within Q. -/
def Blk.underQuota (b : Blk) (l : List Nat) (f : Nat) : Bool := decide ((l.map (min · f)).sum * b.quotaDen ≤ b.quotaNum)

/-- The largest F whose sum stays within Q, between lo, which does, and hi, which does not, in n halvings. -/
def Blk.fairSearch (b : Blk) (l : List Nat) : Nat → Nat → Nat → Nat
  | 0, lo, _ => lo
  | n + 1, lo, hi =>
    if hi ≤ lo + 1 then lo
    else
      let m := (lo + hi) / 2
      if b.underQuota l m then b.fairSearch l n m hi else b.fairSearch l n lo m

/-- The number of the running epoch. -/
def Blk.epochNo (b : Blk) : Nat := b.up / usU 10

/-- A new epoch: the level from what was offered in the epoch before it; an epoch that has passed without a frame was offered
nothing. -/
def Blk.fairRoll (b : Blk) : Blk :=
  let n := b.epochNo
  if n = b.clk.epoch then b
  else
    let next := n = b.clk.epoch + 1
    let d := b.clk.offered.map (·.2)
    let shed := !b.underQuota d d.sum
    let f := if shed && next then b.fairSearch d 64 0 d.sum else 0xFFFFFF
    let c := { b with clk := { b.clk with epoch := n, offered := [], admitted := [], fair := f, shedding := shed && next } }
    if shed then c.inc C.CLK_SHED_EPOCHS else c

def execFairEpoch (w : Nat) (s : State) : Host.Outcome State Fault Refusal := s.upd w fun _ b => b.fairRoll

end Sys2Proof.Machine
end

