-- ==== Sys2Proof/Machine/Clicker.lean ====
section
/-! DEFINITION. A received frame: the port's checks (07 R160 to R164), PAUSE and PFC (R169 to R171), classification (08 R193 to
R195), ESMC (07 R189), the ARP and neighbour responders (R185 to R187), and admission (08 R219, R221). -/

namespace Sys2Proof.Machine

/-- A frame that has passed the port's checks 1 to 4: its port, t_rx, and its bytes without the FCS. -/
structure RxF where
  port : Nat
  tRx : Nat
  data : Bytes

/-- The frame goes to the exception path. -/
def Blk.rxExc (b : Blk) (x : RxF) (reason : Nat) : Blk := b.excPut x.port x.tRx b.ins.stepSum reason x.data

/-! ### PAUSE and PFC (07 R169, R170) -/

/-- The addresses of a PAUSE frame. -/
def Blk.pauseAddr (b : Blk) (p : Nat) (dst : Bytes) : Bool := dst == [0x01, 0x80, 0xC2, 0x00, 0x00, 0x01] || dst == b.portMac p

/-- Where a run of pauses without a gap of 1 µs began, once a pause of this key (8 for PAUSE, a class for PFC) begins now. -/
def runStart (q : Port) (key up : Nat) : Tab Nat :=
  if pauseHolds q key up && q.runFrom.any (fun e => e.1 == key) then q.runFrom else tput q.runFrom key up

/-- PAUSE with n quanta. -/
def Blk.pauseSet (b : Blk) (p n : Nat) : Blk :=
  let q := b.portOf p
  if n = 0 then (b.setPort p { q with pauseEnd := min q.pauseEnd b.up }).pauseOver p
  else b.setPort p { q with runFrom := runStart q 8 b.up, pauseEnd := b.up + b.wireU p (64 * n) }

/-- PFC with n quanta for a class. -/
def Blk.pfcSet (b : Blk) (p c n : Nat) : Blk :=
  let q := b.portOf p
  if n = 0 then (b.setPort p { q with pfcEnd := tput q.pfcEnd c (min (tget 0 q.pfcEnd c) b.up) }).pauseOver p
  else b.setPort p { q with runFrom := runStart q c b.up, pfcEnd := tput q.pfcEnd c (b.up + b.wireU p (64 * n)) }

/-- The classes a PFC frame enables. -/
def Blk.pfcAll (b : Blk) (p : Nat) (body : Bytes) : Blk :=
  (List.range 8).foldl (fun b c => if bitOf (beAt body 2 2) c then b.pfcSet p c (beAt body (4 + 2 * c) 2) else b) b

/-- A MAC control frame whose body begins with its opcode. -/
def Blk.macControl (b : Blk) (p : Nat) (dst body : Bytes) : Blk :=
  let b := b.inc (C.PRT_MACCTL p)
  if (b.portOf p).stormEnd.isSome then b
  else if b.flag (R.PRT_PAUSE_PFC_EN p) then
    if beAt body 0 2 = 0x0101 then b.pfcAll p body else b
  else if b.flag (R.PRT_PAUSE_RX_EN p) && beAt body 0 2 == 1 && b.pauseAddr p dst then b.pauseSet p (beAt body 2 2)
  else b

/-! ### Checks 6 to 11 (07 R164) -/

/-- The outcome of the checks: none passed all; some true: a checksum is wrong; some false: malformed. A fragment carries no whole
UDP datagram, so checks 10 and 11 do not apply to it (log entry 77). -/
def headerFault (alt : Nat) (bs : Bytes) : Option Bool :=
  let l := layOf alt bs
  let udp := fun p : IpPay =>
    if p.proto ≠ 17 then none
    else
      let n := udpLen p bs
      if p.len < 8 ∨ n < 8 ∨ p.len < n then some false
      else if beAt bs (p.off + 6) 2 = 0 then (if p.v6 then some true else none)
      else if inetSum (pseudo p n ++ sliceB bs p.off n) ≠ 0 then some true
      else none
  if l.third then some false
  else match ipOf alt bs with
  | none => none
  | some p =>
    if p.v6 then (if bs.length < p.off + p.len then some false else udp p)
    else
      let v := byteAt bs l.off
      let tot := beAt bs (l.off + 2) 2
      if v / 16 ≠ 4 ∨ v % 16 < 5 ∨ tot < 4 * (v % 16) ∨ bs.length < l.off + tot then some false
      else if inetSum (sliceB bs l.off (4 * (v % 16))) ≠ 0 then some true
      else if ipFrag alt bs then none
      else udp p

/-- A frame that fails one of checks 6 to 11. -/
def Blk.badFrame (b : Blk) (x : RxF) (sum : Bool) : Blk :=
  let b := b.inc (if sum then C.PRT_RX_CSUM x.port else C.PRT_MALF x.port)
  if b.flag (R.PRT_RXCHK_BAD_EXC x.port) then b.rxExc x excMalformed else b

/-! ### Which frames are for the device (08 R193 order 1) -/

/-- The low 24 bits of an IPv6 service address that is valid on the port. -/
def Blk.solicited (b : Blk) (p vid : Nat) (low : Bytes) : Bool :=
  (List.range 64).any fun i => b.svcValid p vid i && b.flag (R.CLK_SVC_CFG_V6 i) && sliceB (b.svcAddr i) 13 3 == low

/-- The multicast addresses of PTP (10). -/
def ptpMacs : List Bytes :=
  [0, 1, 2].flatMap fun tr => [false, true].map fun peer => (multiAddr tr 0 0 peer).1

def Blk.forUs (b : Blk) (x : RxF) : Bool :=
  let d := sliceB x.data 0 6
  d == b.portMac x.port || d == List.replicate 6 0xFF
  || (d.take 5 == [0x01, 0x80, 0xC2, 0x00, 0x00] && decide (byteAt d 5 < 16))
  || ptpMacs.contains d || d == [0x33, 0x33, 0x00, 0x00, 0x00, 0x01]
  || (d.take 3 == [0x33, 0x33, 0xFF] && b.solicited x.port (innerVid (b.tpid x.port) x.data) (d.drop 3))

/-! ### ESMC (07 R189) -/

/-- Whether a slow-protocol frame is an ESMC PDU: subtype, OUI, ITU subtype and address. -/
def esmcShaped (bs : Bytes) (off : Nat) : Bool :=
  sliceB bs off 6 == [0x0A, 0x00, 0x19, 0xA7, 0x00, 0x01] && sliceB bs 0 6 == [0x01, 0x80, 0xC2, 0x00, 0x00, 0x02]

/-- The SSM code of an ESMC PDU of version 1 whose first TLV is the QL TLV. -/
def esmcCode (bs : Bytes) (off : Nat) : Option Nat :=
  if byteAt bs (off + 6) / 16 = 1 ∧ sliceB bs (off + 10) 3 = [0x01, 0x00, 0x04] then some (byteAt bs (off + 13) % 16) else none

def Blk.esmcRx (b : Blk) (x : RxF) (off : Nat) : Blk :=
  match esmcCode x.data off with
  | none => b.rxExc x excNeighbour
  | some c =>
    let q := b.portOf x.port
    let b := (b.setPort x.port { q with qlRx := c, qlTimeout := false, esmcAt := b.up }).inc (C.PRT_ESMC_RX x.port)
    (if c = q.qlRx then b else b.setF (R.PRT_SYNCE_QL_EVENT x.port)).evalBound 5 x.port

/-! ### The responders (07 R185 to R187) -/

/-- A reply of the responder: over the reply rate, without egress space (log entry 79), or queued. -/
def Blk.ndReply (b : Blk) (p : Nat) (data : Bytes) : Blk :=
  if !b.responds then b.inc (C.PRT_ND_DROP p)
  else
    let q := b.portOf p
    let tok := bucketNow q.ndTokens q.ndAt b.up (1000 * atLeast1 (b.rd (R.PRT_ND_RATE p))) 64
    if tok < secU 1 then Blk.inc (b.setPort p { q with ndTokens := tok, ndAt := b.up }) (C.PRT_ND_LIMIT p)
    else
      let c := b.setPort p { q with ndTokens := tok - secU 1, ndAt := b.up }
      (c.sendBuilt (builtFrame p (c.serveTc p) .neighbour (pad60 data))).getD c

/-- An ARP message at an offset. -/
def Blk.arpRx (b : Blk) (x : RxF) (off : Nat) : Blk :=
  let alt := b.tpid x.port
  let m := sliceB x.data off 28
  let vid := innerVid alt x.data
  let claim := (b.svcMatch x.port vid false (sliceB m 14 4)).isSome && sliceB m 8 6 != b.portMac x.port
  if b.flag (R.PRT_ND_ARP_EN x.port) && m.take 8 == [0, 1, 0x08, 0, 6, 4, 0, 1] && !claim
      && (b.svcMatch x.port vid false (sliceB m 24 4)).isSome then
    b.ndReply x.port (sliceB x.data 6 6 ++ b.portMac x.port ++ tagBytes alt x.data ++ [0x08, 0x06, 0, 1, 0x08, 0, 6, 4, 0, 2]
      ++ b.portMac x.port ++ sliceB m 24 4 ++ sliceB m 8 10)
  else b.rxExc x excNeighbour

/-- A neighbour solicitation passes the checks of R186. -/
def nsOk (bs : Bytes) (p : IpPay) (hop : Nat) : Bool :=
  hop == 255 && byteAt bs (p.off + 1) == 0 && decide (24 ≤ p.len) && byteAt bs (p.off + 8) != 0xFF
  && inetSum (pseudo p p.len ++ sliceB bs p.off p.len) == 0

/-- The neighbour advertisement that answers a solicitation for a target. -/
def Blk.advert (b : Blk) (x : RxF) (p : IpPay) (target : Bytes) : Bytes :=
  let alt := b.tpid x.port
  let uni := p.src != List.replicate 16 0
  let dst : Bytes := if uni then p.src else [0xFF, 0x02] ++ List.replicate 13 0 ++ [0x01]
  let mac : Bytes := if uni then sliceB x.data 6 6 else [0x33, 0x33, 0, 0, 0, 1]
  let ip : IpPay := ⟨true, target, dst, 58, 0, 32⟩
  let m := [0x88, 0, 0, 0, if uni then 0x60 else 0x20, 0, 0, 0] ++ target ++ [2, 1] ++ b.portMac x.port
  let m := putB m 2 (beB 2 (inetSum (pseudo ip 32 ++ m)))
  mac ++ b.portMac x.port ++ tagBytes alt x.data ++ [0x86, 0xDD, 0x60, 0, 0, 0, 0, 32, 58, 255] ++ target ++ dst ++ m

/-- An ICMPv6 message. -/
def Blk.icmpRx (b : Blk) (x : RxF) (p : IpPay) (hop : Nat) : Blk :=
  let vid := innerVid (b.tpid x.port) x.data
  let target := sliceB x.data (p.off + 8) 16
  let claim := (b.svcMatch x.port vid true p.src).isSome && sliceB x.data 6 6 != b.portMac x.port
  if byteAt x.data p.off ≠ 135 || !b.flag (R.PRT_ND_NS_EN x.port) || claim || (b.svcMatch x.port vid true target).isNone then
    b.rxExc x excNeighbour
  else if nsOk x.data p hop then b.ndReply x.port (b.advert x p target)
  else b.inc (C.PRT_ND_DROP x.port)

/-! ### NTP classification (08 R195) -/

/-- The kind of an NTP payload of 48 bytes or more: some none plain, some (some k) an NTS request for k cookies. -/
def ntpKind (pay : Bytes) : Option (Option Nat) :=
  if pay.length = 48 then some none
  else match extsOf pay with
  | some l => if l.all Ext.nts then some (some (cookiesAsked l)) else none
  | none => none

/-- The cost of a request (08 R219). -/
def reqCost : Option Nat → Nat
  | none => 84
  | some k => 350 + 100 * (k - 1)

/-- A request at the ingress share and the fair admission. -/
def Blk.admitFrame (b : Blk) (x : RxF) (svc : Nat) (kind : Option Nat) : Blk :=
  let p := x.port
  if b.ingSize p < b.ingUsed p + x.data.length then b.inc C.CLK_ING_FULL
  else
    let r : Req := { num := b.clk.seq, port := p, data := x.data, t2 := x.tRx, t2Up := b.leaseAt x.tRx, svc := svc
                     nts := kind.isSome, k := kind.getD 0, cost := reqCost kind }
    let h := benchOfPort p * 65536 + b.keyHash (b.reqKey r).2 % 65536
    let off := tput b.clk.offered h (tget 0 b.clk.offered h + r.cost)
    let adm := tget 0 b.clk.admitted h + r.cost
    if b.clk.shedding && decide (b.clk.fair < adm) then Blk.inc { b with clk := { b.clk with offered := off } } C.CLK_SHED_FAIR
    else
      let c := { b with clk := { b.clk with offered := off, admitted := tput b.clk.admitted h adm, reqs := b.clk.reqs ++ [r]
                                            seq := b.clk.seq + 1, ingUsed := tput b.clk.ingUsed p (b.ingUsed p + x.data.length) } }
      c.inc (if kind.isSome then C.CLK_REQ_NTS else C.CLK_REQ_NTP)

/-- Stages 4 to 7 for a request of a kind. -/
def Blk.ntpServed (b : Blk) (x : RxF) (svc : Nat) (kind : Option Nat) : Blk :=
  let on := match kind with | none => b.flag (R.CLK_SVC_CFG_NTP svc) | some _ => b.flag (R.CLK_SVC_CFG_NTS svc)
  if !on then b.rxExc x excNotService
  else if !b.servesNtp (b.nearLoop x.port) then b.inc C.CLK_MODEDROP
  else if !b.feat (if kind.isSome then featNts else featNtp) then b.rxExc x (if kind.isSome then excNtsUnserved else excNtpUnserved)
  else b.admitFrame x svc kind

/-- A UDP datagram to port 123 of service entry svc. -/
def Blk.ntpRx (b : Blk) (x : RxF) (svc : Nat) (pay : Bytes) : Blk :=
  let v := byteAt pay 0 / 8 % 8
  if pay.length < 48 then b.rxExc x excFormat
  else if !(v == 4 || (v == 3 && b.flag R.CLK_CTRL_V3_ANSWER)) then b.rxExc x excVersion
  else if byteAt pay 0 % 8 ≠ 3 then b.rxExc x excMode
  else match ntpKind pay with
  | none => b.rxExc x excFormat
  | some kind => b.ntpServed x svc kind

/-! ### Classification (08 R193) -/

/-- A whole UDP datagram. -/
def Blk.udpRx (b : Blk) (x : RxF) (p : IpPay) : Blk :=
  let dport := beAt x.data (p.off + 2) 2
  let n := udpLen p x.data - 8
  if dport = 319 ∨ dport = 320 then b.ptpRx x.port x.tRx x.data (if p.v6 then 2 else 1) (p.off + 8) n
  else if dport = 123 then
    match b.svcMatch x.port (innerVid (b.tpid x.port) x.data) p.v6 p.dst with
    | some i => b.ntpRx x i (sliceB x.data (p.off + 8) n)
    | none => b.rxExc x excNotService
  else b.rxExc x excNotService

/-- Orders 2 to 9. -/
def Blk.classify (b : Blk) (x : RxF) : Blk :=
  let alt := b.tpid x.port
  let l := layOf alt x.data
  if l.et = 0x8809 then (if esmcShaped x.data l.off then b.esmcRx x l.off else b.rxExc x excSlow)
  else if l.et = 0x88CC then b.rxExc x excLldp
  else if l.et = 0x88F7 then b.ptpRx x.port x.tRx x.data 0 l.off (x.data.length - l.off)
  else if l.et = 0x0806 then b.arpRx x l.off
  else match ipOf alt x.data with
  | none => b.rxExc x excOther
  | some p =>
    if p.v6 && p.proto == 58 then b.icmpRx x p (byteAt x.data (l.off + 7))
    else if p.proto = 17 ∧ !ipFrag alt x.data then b.udpRx x p
    else b.rxExc x excNotService

/-- A frame that has passed checks 1 to 4. -/
def Blk.frameIn (b : Blk) (x : RxF) : Blk :=
  let alt := b.tpid x.port
  let l := layOf alt x.data
  if l.et = 0x8808 then b.macControl x.port (sliceB x.data 0 6) (x.data.drop l.off)
  else match headerFault alt x.data with
  | some sum => b.badFrame x sum
  | none =>
    if !b.benchUp (benchOfPort x.port) then b.inc C.CLK_ING_FULL
    else if b.forUs x then b.classify x
    else b.inc C.CLK_NOTME

/-- t_rx of a frame whose timestamp point was sampled `age` ago, with the variable part of RX_INT in ps (07 R160). -/
def Blk.rxTime (b : Blk) (p age : Nat) (var : Int) : Nat :=
  ((b.ins.now : Int) - age - psU ((b.rd (R.PRT_TSDLY_RX_INT p) : Int) + var + b.rdS (R.PRT_TSCOMP_RX_BOARD p))).toNat

/-- A frame with its FCS ends on port p: the first checks, in order. -/
def Blk.frameRx (b : Blk) (p : Nat) (bs : Bytes) (age : Nat) (var : Int) (bad : Bool) : Blk :=
  let data := bs.take (bs.length - 4)
  if !b.portPresent p || !(b.portOf p).link then b
  else if bad then b.inc (C.PRT_RX_ERR p)
  else if bs.length < 64 then b.inc (C.PRT_RUNT p)
  else if b.rd (R.PRT_MAXFRAME_MAXFRAME p) < bs.length then b.inc (C.PRT_OVERSIZE p)
  else if fcsOf data ≠ bs.drop (bs.length - 4) then b.inc (C.PRT_FCS p)
  else
    let c := ((b.inc (C.PRT_RX_FRAMES p)).incN (C.PRT_RX_BYTES p) bs.length).pmcEvent 0x70 p 1
    c.fairRoll.frameIn { port := p, tRx := c.rxTime p age var, data := data }

/-- A frame has been received: `age` is the time since its timestamp point was sampled, `var` the variable part of the receive delay in
ps, `bad` an error within the frame. -/
def execFrameReceived (w p : Nat) (bs : Bytes) (age : Nat) (var : Int) (bad : Bool) (s : State) : Host.Outcome State Fault Refusal :=
  s.upd w fun _ b => b.frameRx p bs age var bad

end Sys2Proof.Machine
end

