-- ==== Sys2Proof/Machine/ErrorCmds.lean ====
section
/-! DEFINITION. The commands of 15: an error raised, the end of its handling, ERR_INJECT and a read of ERR_LOG. -/

namespace Sys2Proof.Machine

/-- What may go on once the error controller has freed, held or returned units. -/
def Blk.errSettle (b : Blk) : Blk := (b.selfSync.refsSettle).txRetry

/-- An error of 15 R393 found by a unit, and the item that it affects (log entry 86); a corrected Store word is counted (16 R411). Code 0x1B is raised through ERR_INJECT
only; the machinery starts at S9. -/
def Blk.errRaised (b : Blk) (code unit detail item : Nat) : Blk :=
  if b.boot.done && code != 0x1B then
    let b := if code = 0x0D then b.pmcEvent 0x43 0 1 else b
    (Blk.follow b (b.raise0 (code % 256) (unit % 256) (detail % 0x100000000) (errClass (code % 256)) false item)).errSettle
  else b

def execErrorRaised (w code unit detail item : Nat) (s : State) : Host.Outcome State Fault Refusal :=
  s.upd w fun _ b => b.errRaised code unit detail item

def execErrorHandlingDone (w : Nat) (s : State) : Host.Outcome State Fault Refusal :=
  s.upd w fun _ b => if b.err.cur.isSome then b.errDone.errSettle else b

/-- A write of ERR_INJECT (15 R408): with GO, in DIAGNOSTIC, the error is raised as written. -/
def Blk.injected (b : Blk) (f v : Nat) : Blk :=
  if b.hostUp && b.setup f && b.mode == .diagnostic && bitOf v 18 then
    (Blk.follow b (b.raise0 (v / 256 % 256) (v % 256) 0 (v / 65536 % 4) true 0)).errSettle
  else b

def execGoInject (w f v : Nat) (s : State) : Host.Outcome State Fault Refusal :=
  s.upd w fun _ b => b.injected f v

/-- The words of ERR_LOG i as they stand (15 R400). -/
def Blk.errWords (b : Blk) (i : Nat) : List Nat :=
  match b.err.at? (i % 32) with
  | some e => [e.w0, e.w1, e.w2, e.w3]
  | none => [0, 0, 0, 0]

/-- Latch words for a function: the word at an offset and those that follow it (17 R429). -/
def Blk.latchAt (b : Blk) (f off : Nat) : List Nat → Blk
  | [] => b
  | v :: rest => Blk.latchAt { b with latch := tput b.latch (bank f off) v } f (off + 4) rest

/-- A latched word as a function reads it. -/
def Blk.latched (b : Blk) (f off : Nat) : Nat := tget 0 b.latch (bank f off)

/-- A read of word 0 of ERR_LOG i latches words 1 to 3. -/
def Blk.errLogRead (b : Blk) (f i : Nat) : Blk × Nat :=
  let ws := b.errWords i
  (b.latchAt f (0x2E204 + 0x10 * (i % 32)) (ws.drop 1), ws.headD 0)

/-- A function whose session is OPEN reads a word. -/
def Blk.readFor (b : Blk) (f off : Nat) (x : Blk × Nat) : Blk :=
  if b.hostUp && b.sesOpen f then x.1.put (.readData f off [BitVec.ofNat 32 x.2]) else b

def execErrLogRead (w f i : Nat) (s : State) : Host.Outcome State Fault Refusal :=
  s.upd w fun _ b => b.readFor f (0x2E200 + 0x10 * (i % 32)) (b.errLogRead f i)

end Sys2Proof.Machine
end

