-- ==== Sys2Proof/Machine/Table.lean ====
section
/-! DEFINITION. CLIENT_TABLE_OP and the ageing scan (08 R204, R205; 12 R332; 13 R359). -/

namespace Sys2Proof.Machine

/-- The sub-operation of a CLIENT_TABLE_OP. -/
def subOp (d : Bytes) : Nat := byteAt d 8

/-- A key whose prefix length lies outside 32 to 64 on IPv6, or a sub-operation outside R205: MALFORMED. -/
def ctBad (d : Bytes) : Bool :=
  subOp d == 0 || decide (6 < subOp d)
  || (decide (subOp d ≤ 4) && bitOf (byteAt d 9) 0 && (decide (byteAt d 10 < 32) || decide (64 < byteAt d 10)))

/-- What R332 denies on a follower: UPSERT, DELETE and FLUSH. -/
def Blk.ctDenied (b : Blk) (d : Bytes) : Bool := b.mode == .follower && (subOp d == 2 || subOp d == 3 || subOp d == 5)

/-- A sub-operation on one row asks for its bucket; until it holds it, it has not begun. -/
def Blk.ctRowOp (b : Blk) (ref : DRef) (d : Bytes) : Blk :=
  if ctBad d then b.complete ref stMalformed []
  else if b.ctDenied d then b.complete ref stDenied []
  else
    let bkt := b.bucketOf (ctOpKey d).2
    let b := if (b.lockHolder bkt).isNone then b else b.setBegun ref false
    b.ctOpAsk ref bkt (b.escalated ref.ring 0x30)

/-- Begin a CLIENT_TABLE_OP of a sub-operation on one row. -/
def Blk.ctRow (b : Blk) (r sub : Nat) : Blk := b.withDesc r 0x30 (fun d => subOp d == sub) fun ref d b => b.ctRowOp ref d

/-- LOOKUP; a sub-operation outside R205 is MALFORMED. -/
def execCtLookup (w r : Nat) (s : State) : Host.Outcome State Fault Refusal :=
  s.upd w fun _ b => b.withDesc r 0x30 (fun d => subOp d == 1 || subOp d == 0 || decide (6 < subOp d)) fun ref d b => b.ctRowOp ref d

def execCtUpsert (w r : Nat) (s : State) : Host.Outcome State Fault Refusal := s.upd w fun _ b => b.ctRow r 2

def execCtDelete (w r : Nat) (s : State) : Host.Outcome State Fault Refusal := s.upd w fun _ b => b.ctRow r 3

def execCtResetCounts (w r : Nat) (s : State) : Host.Outcome State Fault Refusal := s.upd w fun _ b => b.ctRow r 4

/-- A FLUSH runs, or a scan that a SCAN_NOW has asked for (CLK_STATUS shows them). -/
def Blk.tableBusy (b : Blk) : Bool := b.ct.flushBusy || (b.ct.scanBusy && !b.ct.scanRefs.isEmpty)

def execCtFlush (w r : Nat) (s : State) : Host.Outcome State Fault Refusal :=
  s.upd w fun _ b => b.withDesc r 0x30 (fun d => subOp d == 5) fun ref d b =>
    if b.ctDenied d then b.complete ref stDenied []
    else if b.tableBusy then b.complete ref stBusy []
    else b.flushStart ref

def execCtScanNow (w r : Nat) (s : State) : Host.Outcome State Fault Refusal :=
  s.upd w fun _ b => b.withDesc r 0x30 (fun d => subOp d == 6) fun ref _ b =>
    if b.tableBusy then b.complete ref stBusy [] else b.scanStart (some ref)

/-- The periodic scan begins; one that runs goes on. -/
def execAgeingScan (w : Nat) (s : State) : Host.Outcome State Fault Refusal :=
  s.upd w fun _ b => if b.ct.scanBusy then b else b.scanStart none

/-- A scan visits the buckets that were locked when it passed; once none is left, it is done. -/
def Blk.scanDone (b : Blk) : Blk :=
  if !b.ct.scanBusy then b else
    let free := b.ct.scanLeft.filter fun i => (b.lockHolder i).isNone
    let left := b.ct.scanLeft.filter fun i => (b.lockHolder i).isSome
    let c := free.foldl Blk.scanBucket b
    if left.isEmpty then
      c.ct.scanRefs.foldl (fun b ref => b.complete ref stOk [])
        { c with ct := { c.ct with scanBusy := false, scanRefs := [], scanLeft := [] } }
    else { c with ct := { c.ct with scanLeft := left } }

def execCtScanDone (w : Nat) (s : State) : Host.Outcome State Fault Refusal := s.upd w fun _ b => b.scanDone

/-- A flush likewise. -/
def Blk.flushDone (b : Blk) : Blk :=
  if !b.ct.flushBusy then b else
    let free := b.ct.flushLeft.filter fun i => (b.lockHolder i).isNone
    let left := b.ct.flushLeft.filter fun i => (b.lockHolder i).isSome
    let c := free.foldl Blk.flushBucket b
    if left.isEmpty then
      let d := { c with ct := { c.ct with flushBusy := false, flushRef := none, flushLeft := [] } }
      match c.ct.flushRef with
      | some ref => Blk.complete d ref stOk []
      | none => d
    else { c with ct := { c.ct with flushLeft := left } }

def execCtFlushDone (w : Nat) (s : State) : Host.Outcome State Fault Refusal := s.upd w fun _ b => b.flushDone

/-- The operations that have waited 8 µs for their bucket, but for those that wait under escalation. -/
def Blk.lockLate (b : Blk) : List (Nat × DRef) :=
  b.ct.waits.filterMap fun e => match e.2 with
    | .op ref t => if decide (t + usU 8 ≤ b.up) && !b.flow.heldOps.contains ref then some (e.1, ref) else none
    | .lane _ => none

/-- They leave the wait and complete with a BUSY_RETRY that counts towards escalation. -/
def Blk.lockTimeout (b : Blk) : Blk :=
  let late := b.lockLate.map (·.2)
  let gone := fun e : Nat × Waiter => match e.2 with | .op ref _ => late.contains ref | .lane _ => false
  late.foldl (fun b ref => b.completeBusy ref) { b with ct := { b.ct with waits := b.ct.waits.filter (!gone ·) } }

def execClientTableLockTimeout (w : Nat) (s : State) : Host.Outcome State Fault Refusal := s.upd w fun _ b => b.lockTimeout

end Sys2Proof.Machine
end

