-- ==== Sys2Proof/Machine/PatternCmds.lean ====
section
/-! DEFINITION. PATTERN_LOAD (08 R213, R214), the SELFTEST selector (R215), and the CLIENT_POLICY and SERVICE_ADDR selectors of
POLICY_SET (R228, 11 R308, 12 R332). -/

namespace Sys2Proof.Machine

/-! ### PATTERN_LOAD -/

/-- The bytes that a descriptor names: none where its length lies outside R212. -/
def patBytes (d img : Bytes) : Bytes :=
  let n := leAt d 24 4
  if n = 0 ∨ 1048576 < n ∨ img.length < n then [] else img.take n

/-- A PATTERN_LOAD begins: the Benches drain. -/
def Blk.loadStart (b : Blk) (ref : DRef) (d img : Bytes) : Blk :=
  let quiet := b.mode == .commission || b.mode == .diagnostic
  let rolling := bitOf (byteAt d 8) 0
  if b.eng.load.isSome then b.complete ref stBusy []
  else if !quiet && !rolling then b.complete ref stDenied []
  else
    let l : PLoad := { bytes := patBytes d img, rolling := rolling && !quiet, left := List.range b.part.variant.benches, first := true, ref := ref }
    { b with eng := { b.eng with load := some l } }

def execPatternLoad (w r : Nat) (img : Bytes) (s : State) : Host.Outcome State Fault Refusal :=
  s.upd w fun _ b => b.withDesc r 0x60 (fun _ => true) fun ref d b => b.loadStart ref d img

/-- The Benches that a load drains now. -/
def PLoad.now (l : PLoad) : List Nat := if l.rolling then l.left.take 1 else l.left

/-- A load fails: the previous set runs on every Bench. -/
def Blk.loadFail (b : Blk) (l : PLoad) (status code : Nat) : Blk :=
  let c := if l.first then b else match b.eng.op with | some p => b.runSet p | none => b
  let c := { c with eng := { c.eng with load := none, failCode := code } }
  (c.setF R.ENG_PSTAT_LOAD_FAIL).complete l.ref status []

/-- The Benches drained now run the new set; the load ends with the last. -/
def Blk.loadNext (b : Blk) (l : PLoad) : Blk :=
  let p := PSet.ofBytes 2 l.bytes
  let sets := l.now.foldl (fun t i => tput t i p) b.eng.sets
  let left := l.left.filter (!l.now.contains ·)
  if left.isEmpty then
    let e := { b.eng with sets := sets, load := none }
    let e := if p.test then e else { e with op := some p, opImage := l.bytes }
    Blk.complete { b with eng := e } l.ref stOk []
  else { b with eng := { b.eng with sets := sets, load := some { l with left := left, first := false } } }

/-- The Benches drained hold no invocation: the image is checked, or copied. -/
def Blk.benchDrained (b : Blk) (svnMin : Nat) (parity : Bool) : Blk :=
  match b.eng.load with
  | none => b
  | some l =>
    if b.eng.invs.any fun e => l.now.contains (e.1 / 64) then b
    else match (if l.first then patCheck svnMin b.part.silicon (b.mode == .diagnostic) l.bytes else none) with
    | some x => b.loadFail l x.1 x.2
    | none => if parity then b.loadFail l stParity 7 else b.loadNext l

/-- `parity`: a parity error while the set is copied. -/
def execBenchDrained (w : Nat) (parity : Bool) (s : State) : Host.Outcome State Fault Refusal :=
  s.upd w fun nvm b => b.benchDrained nvm.engSvnMin parity

/-! ### SELFTEST -/

/-- Whether an engine is isolated, or its Bench. -/
def Blk.engineOut (b : Blk) (e : Nat) : Bool := !b.benchUp (e / 16) || b.isHeld e || b.resetting 2 e

/-- The engines that OBJECT names. -/
def Blk.testEngines (b : Blk) (o : Nat) : List Nat :=
  if o = 0xFF then (List.range 64).filter fun e => b.enginePresent e && !b.engineOut e else [o]

/-- POLICY_SET with the SELFTEST selector, by the rows of R215. -/
def Blk.selftest (b : Blk) (ref : DRef) (d buf : Bytes) : Blk :=
  let o := byteAt d 9
  let len := leAt d 12 4
  let es := b.testEngines o
  if b.mode ≠ .diagnostic then b.complete ref stDenied []
  else if (63 < o ∧ o ≠ 0xFF) ∨ len < 64 ∨ 4096 < len then b.complete ref stMalformed []
  else if o ≠ 0xFF ∧ !b.enginePresent o then b.complete ref stAbsent []
  else if es.any fun e => !bitOf (b.setOf (e / 16)).entries 6 then b.complete ref stDenied []
  else if es.all b.engineOut then b.complete ref stDenied []
  else if b.eng.self.isSome || b.eng.load.isSome then b.complete ref stBusy []
  else
    let t : SelfT := { engines := es, addr := leAt d 16 8, buf := sliceB buf 0 len, ref := ref }
    Blk.selfSync { b with eng := { b.eng with self := some t } }

def execSelftest (w r : Nat) (buf : Bytes) (s : State) : Host.Outcome State Fault Refusal :=
  s.upd w fun _ b => b.withDesc r 0x31 (fun d => byteAt d 8 == 7) fun ref d b => b.selftest ref d buf

/-- The invocations that ended with a code other than SEND, lowest engine first; one that was revoked has no code. -/
def SelfT.bad (t : SelfT) : List (Nat × Nat) :=
  t.engines.filterMap fun e => t.ends.find? fun x => x.1 == e && x.2 != 0

/-- The 16 result bytes: started, ended otherwise (the revoked ones among them, log entry 80), code, engine, instructions. -/
def SelfT.result (t : SelfT) : Bytes :=
  let first := t.bad.head?.getD (0, 0)
  leB 2 t.count ++ leB 2 (t.bad.length + (t.count - t.ends.length)) ++ leB 1 first.2 ++ leB 1 first.1 ++ leB 2 0 ++ leB 4 t.instr

/-- Every invocation has returned. -/
def Blk.selfDone (b : Blk) : Blk :=
  match b.eng.self with
  | none => b
  | some t =>
    if !t.started || b.eng.invs.any (fun e => e.2.self) then b
    else
      let b := { b with eng := { b.eng with self := none } }
      let b := match t.results.find? fun x => some x.1 == t.engines.head? with
        | some x => b.put (.hostWrite (b.funcOf t.ref) t.addr (sliceB x.2 0 t.buf.length))
        | none => b
      b.complete t.ref stOk t.result

def execSelftestDone (w : Nat) (s : State) : Host.Outcome State Fault Refusal := s.upd w fun _ b => b.selfSync.selfDone

/-! ### Record lists (11 R308) -/

/-- The records of a list. -/
def recordsOf (bs : Bytes) : List (Nat × Nat) :=
  (List.range (bs.length / 8)).map fun i => (leAt bs (8 * i) 4, leAt bs (8 * i + 4) 4)

/-- Offsets of the profiles and the writable words of the access list. -/
def policyOff (o : Nat) : Bool :=
  inArray 0x20200 8 16 o || inArray 0x20204 8 16 o || [0, 4, 8].any fun k => inArray (0x20400 + k) 0x10 32 o

/-- Offsets of the writable words of the service addresses. -/
def serviceOff (o : Nat) : Bool := [0, 4, 8, 12, 16, 20].any fun k => inArray (0x20800 + k) 0x20 64 o

/-- Write a register as COMMISSION would. -/
def Blk.recordPut (b : Blk) (x : Nat × Nat) : Blk :=
  match regRow? x.1 with
  | none => b
  | some (row, _) => { b with regs := rfPut b.regs x.1 (rowWrite true row x.1 (BitVec.ofNat 32 x.2) (rfGet b.regs x.1)) }

/-- The writable words of the access list. -/
def Blk.aclWords (b : Blk) : List Word :=
  (List.range 32).flatMap fun i => [0, 4, 8].map fun k => rfGet b.regs (0x20400 + 0x10 * i + k)

/-- A change of the access list since `old` advances its generation. -/
def Blk.aclNext (old b : Blk) : Blk :=
  if old.aclWords = b.aclWords then b else { b with ct := { b.ct with aclGen := (b.ct.aclGen + 1) % 256 } }

/-- Apply a record list whose offsets a condition admits. -/
def Blk.policyRecords (b : Blk) (ref : DRef) (d img : Bytes) (ok : Nat → Bool) : Blk :=
  let n := leAt d 12 4
  let rs := recordsOf (sliceB img 0 n)
  if b.mode = .follower then b.complete ref stDenied []
  else if n % 8 ≠ 0 ∨ n = 0 ∨ 4096 < n ∨ !(rs.all fun x => ok x.1) then b.complete ref stMalformed []
  else (Blk.aclNext b (rs.foldl Blk.recordPut b)).complete ref stOk []

def execClientPolicy (w r : Nat) (img : Bytes) (s : State) : Host.Outcome State Fault Refusal :=
  s.upd w fun _ b => b.withDesc r 0x31 (fun d => byteAt d 8 == 5) fun ref d b => b.policyRecords ref d img policyOff

def execServiceAddr (w r : Nat) (img : Bytes) (s : State) : Host.Outcome State Fault Refusal :=
  s.upd w fun _ b => b.withDesc r 0x31 (fun d => byteAt d 8 == 6) fun ref d b => b.policyRecords ref d img serviceOff

end Sys2Proof.Machine
end

