-- ==== Sys2Proof/Machine/Twin.lean ====
section
/-! DEFINITION. The twin (12): the Welt and the arbitration pins, attach and election, the mirror as the follower applies it,
time markers and the WELT slot, takeover, and TWIN_COMMAND. -/

namespace Sys2Proof.Machine

/-! ### The link (R323, R324) -/

def execWeltLinkUp (w : Nat) (s : State) : Host.Outcome State Fault Refusal :=
  s.upd w fun _ b =>
    if b.capWelt = 3 ∧ !b.isHeld 0x86 ∧ !b.err.oscLost ∧ b.mode.serving ∧ !b.twin.link then
      Blk.recTwin { b with twin := { b.twin with link := true, bothFrom := none } } 1 0
    else b

/-- `fails` blocks with a failing tag have been dropped within 1 ms: sixteen are a loss of the link; none: no valid block has come for
LOSS_US. -/
def execWeltLinkLost (w fails : Nat) (s : State) : Host.Outcome State Fault Refusal :=
  s.upd w fun _ b =>
    let b := b.incN C.TWN_AUTH_FAIL fails
    if fails = 0 ∨ 16 ≤ fails then b.weltLost.refsSettle else b

/-! ### The arbitration pins (R325, R326) -/

/-- A test of the pin pair has failed or passed. -/
def Blk.arbResult (b : Blk) (ok : Bool) : Blk :=
  let t := b.twin
  if ok then { b with twin := { t with testFails := 0, armFault := false } }
  else
    let c := { b with twin := { t with testFails := t.testFails + 1, armFault := t.armFault || decide (1 ≤ t.testFails) } }
    if c.twin.armFault && !t.armFault then (c.recTwin 0xA 0).raiseEnv errArbFault 0 else c

/-- This module tests the pin pair; `ok`: the peer reports that TWARB_B followed. -/
def execArbTest (w : Nat) (ok : Bool) (s : State) : Host.Outcome State Fault Refusal :=
  s.upd w fun _ b =>
    if b.twin.attached && b.twin.link && b.flag R.TWN_CFG_ARB_TEST then (b.put (.welt weltArbTest [])).arbResult ok else b

/-! ### Capability and Pattern words (17 R440, 08 R229) -/

/-- IDC_CAP0 to IDC_CAP3. -/
def Blk.capWord (b : Blk) (i : Nat) : Nat :=
  let v := b.part.variant
  match i with
  | 0 => b.capPorts
  | 1 => (2 ^ v.eyelets - 1) + 0x10000 * (2 ^ v.benches - 1) + 0x100000 * b.capWelt + 0x1000000 * (2 ^ v.stitchers - 1)
  | 2 => v.storeGib + 0x100 * v.ctLog2 + 0x10000 * (16 * v.benches)
  | _ => v.cap3 + 0x100 * ((List.range 8).map fun g => if b.gangOk g then 2 ^ g else 0).sum

/-- The running set, as ENG_PSET and ENG_PSTAT show it: of the lowest Bench. -/
def Blk.shownSet (b : Blk) : Option PSet := b.eng.sets.head?.map (·.2)

/-- ENG_PSET. -/
def Blk.psetWord (b : Blk) : Nat :=
  match b.shownSet with
  | some p => p.id % 0x10000 + 0x10000 * (p.minor % 256) + 0x1000000 * (p.major % 256)
  | none => 0

/-- ENG_PSTAT.SVN. -/
def Blk.psetSvn (b : Blk) : Nat := match b.shownSet with | some p => p.svn | none => 0

/-! ### Attach (R327, R328) -/

/-- S, from the words it covers (log entry 81: each as four bytes, least significant first). -/
def attachDigest (caps : List Nat) (en pset svn board : Nat) : Bytes :=
  sha256 ((caps ++ [en, pset, svn, board]).flatMap (leB 4))

/-- P of a module of a side. -/
def attachProof (kp : Bytes) (side : Nat) (n0 n1 digest : Bytes) : Bytes :=
  hmac256 kp (ascii "KTWN-P" ++ leB 1 side ++ n0 ++ n1 ++ digest)

/-- The words of this module. -/
def Blk.ownDigest (b : Blk) : Bytes :=
  attachDigest ([0, 1, 2, 3].map b.capWord) (b.rd R.RST_FEATURE_EN) b.psetWord b.psetSvn (b.rdW R.TWN_BOARD)

/-- The code of R328 that names why an attempt fails, if it does: the proof is checked under S as the peer states it, so that
codes 0x4 to 0x7 name a difference of S (log entry 82). -/
def Blk.attachCode (b : Blk) (kp : Option Bytes) (deployed : Bool) (nonce : Bytes) : Option TwinPeer → Option Nat
  | none => some 9
  | some x =>
    let side := b.rd R.TWN_CFG_SIDE
    let n0 := if side = 0 then nonce else x.nonce
    let n1 := if side = 0 then x.nonce else nonce
    match kp with
    | none => some 2
    | some k =>
      if !x.keyed then some 2
      else if x.side = side then some 3
      else if x.proof ≠ attachProof k x.side n0 n1 (attachDigest x.caps x.en x.pset x.svn x.board) then some 1
      else if x.caps ≠ [0, 1, 2, 3].map b.capWord then some 4
      else if x.en ≠ b.rd R.RST_FEATURE_EN then some 5
      else if x.pset ≠ b.psetWord ∨ x.svn ≠ b.psetSvn then some 6
      else if x.board ≠ b.rdW R.TWN_BOARD then some 7
      else if !deployed ∨ !x.deployed then some 8
      else none

/-- The place of a mode in the election; an orphan comes last. -/
def modeRank (code : Nat) (expired : Bool) : Nat :=
  match code with | 4 => 0 | 5 => if expired then 2 else 1 | 3 => 3 | _ => 4

/-- Whether this module leads (R329). -/
def Blk.elected (b : Blk) (x : TwinPeer) : Bool :=
  let own := modeRank b.mode.code b.holdExpired
  let peer := modeRank x.mode x.expired
  if b.twin.claimOut != x.claims then b.twin.claimOut
  else if own ≠ peer then decide (own < peer)
  else if b.rd R.TWN_CFG_PRIO ≠ x.prio then decide (b.rd R.TWN_CFG_PRIO < x.prio)
  else b.rd R.TWN_CFG_SIDE == 0

/-! ### Roles (R329, R335, 02 R26) -/

/-- This module becomes follower: sealed responses miss, the mode is FOLLOWER. -/
def Blk.toFollower (b : Blk) : Blk :=
  let b := b.sealTwin
  let b := { b with twin := { b.twin with role := 2, claimOut := false, track := false, trackRun := 0, handed := false, failAt := none
                                          lostAt := none, poolIdx := some b.poolIdx } }
  if b.mode = .follower then b else b.modeEnter .follower 5

/-- A reference of this device meets the lock criteria in shadow (log entry 83). -/
def Blk.shadowLock (b : Blk) : Bool :=
  decide (b.shadowErr.natAbs ≤ b.lockU) && b.shadow.any fun k => match (b.slotOf k).eligFrom with
    | some t => decide (t + b.lockS ≤ b.up) | none => false

/-- The mode of a takeover. -/
def Blk.takeoverMode (b : Blk) : Mode :=
  if b.twin.peerMode = 3 then .acquire else if b.shadowLock then .locked else .holdover

/-- A follower becomes leader: the Insole and the outputs stay as they are. -/
def Blk.leadFrom (b : Blk) : Blk :=
  let m := b.takeoverMode
  let b := { b with twin := { b.twin with role := 1, claimOut := true, track := false, trackRun := 0, failAt := none, lostAt := none } }
  let b := b.modeEnter m 6
  if m = .holdover then b.recHold 1 else b

/-- Both modules have passed the checks and elected. -/
def Blk.attachRole (b : Blk) (x : TwinPeer) : Blk :=
  if b.elected x then
    let b := if b.mode = .follower then b.leadFrom else { b with twin := { b.twin with role := 1, claimOut := true } }
    (b.recTwin 5 0).copySend
  else Blk.recTwin (Blk.toFollower { b with ct := { b.ct with rows := [] } }) 6 0

/-- An attach completes. -/
def Blk.attachDone (b : Blk) (kp nonce : Bytes) (x : TwinPeer) : Blk :=
  let side := b.rd R.TWN_CFG_SIDE
  let salt := if side = 0 then nonce ++ x.nonce else x.nonce ++ nonce
  let b := { b with twin := { b.twin with attached := true, linkKey := hkdf32 kp salt (ascii "KTWN-LINK"), proofFails := 0, retryAt := 0
                                          resetOk := b.flag R.TWN_CFG_ALLOW_RESET, peerResetOk := x.allowReset, testFails := 0
                                          peerMode := x.mode, mirrorSync := false, txMark := none, rxMark := none, lostAt := none } }
  let b := ((b.inc C.TWN_ATTACH).recTwin 3 0).attachRole x
  match b.twin.attachRef with
  | some (ref, _) => Blk.complete { b with twin := { b.twin with attachRef := none } } ref stOk []
  | none => b

/-- An attempt fails with a code. -/
def Blk.attachFail (b : Blk) (code : Nat) : Blk :=
  let n := if code = 1 then b.twin.proofFails + 1 else 0
  let b := { b with twin := { b.twin with attFail := code, proofFails := n, retryAt := b.up + secU 10, autoStop := b.twin.autoStop || decide (5 ≤ n) } }
  (b.inc C.TWN_ATT_FAIL).recTwin 4 code

/-- HELLO and PROOF cross, the checks follow. -/
def Blk.attempt (b : Blk) (kp : Option Bytes) (deployed : Bool) (peer : Option TwinPeer) : Blk :=
  let nonce := freeBytes 16 b.freeCtr
  let b := (b.draw 16).put (.welt weltHello nonce)
  let b := match peer with | some x => { b with twin := { b.twin with peerSerial := x.serial } } | none => b
  let b := match kp, peer with
    | some k, some x =>
      let side := b.rd R.TWN_CFG_SIDE
      b.put (.welt weltProof (attachProof k side (if side = 0 then nonce else x.nonce) (if side = 0 then x.nonce else nonce) b.ownDigest))
    | _, _ => b
  match b.attachCode kp deployed nonce peer, kp, peer with
  | none, some k, some x => b.attachDone k nonce x
  | some c, _, _ => b.attachFail c
  | _, _, _ => b

/-- The conditions of R328 but the wish to attach; an orphan attaches from FOLLOWER (R338). -/
def Blk.mayAttach (b : Blk) : Bool :=
  b.feat featTwin && b.twin.link && !b.twin.attached
  && (b.mode == .acquire || b.mode == .locked || b.mode == .holdover || (b.mode == .follower && b.twin.role == 3))

/-- A first attempt of AUTO, or one that ATTACH asks for. -/
def execAttachAttempt (w : Nat) (peer : Option TwinPeer) (s : State) : Host.Outcome State Fault Refusal :=
  s.upd w fun nvm b =>
    if b.mayAttach && (b.twin.attachRef.isSome || (b.flag R.TWN_CFG_AUTO && !b.twin.autoStop && b.twin.retryAt == 0)) then
      b.attempt nvm.kp (nvm.lifecycle == .deployed) peer
    else b

/-- AUTO retries 10 s after a failure. -/
def execAttachRetry (w : Nat) (peer : Option TwinPeer) (s : State) : Host.Outcome State Fault Refusal :=
  s.upd w fun nvm b =>
    if b.mayAttach && b.flag R.TWN_CFG_AUTO && !b.twin.autoStop && b.twin.retryAt != 0 && decide (b.twin.retryAt ≤ b.up) then
      b.attempt nvm.kp (nvm.lifecycle == .deployed) peer
    else b

/-! ### The mirror (R331 to R333) -/

/-- A mirrored epoch takes its slot, with its KEY_ROLL entries. -/
def Blk.epochMirror (b : Blk) (n st id : Nat) (key : Bytes) (act exp : Nat) : Blk :=
  let q := b.laster.seq
  let e : Epoch := { b.epochOf n with st := st, id := id, key := key, act := act, exp := exp
                                      actEntry := if st = 1 && act != 0 then some q else none
                                      expEntry := if st ≠ 0 ∧ st ≠ 4 ∧ exp ≠ 0 then some (q + 1) else none }
  Blk.withNoSeal b (Blk.setEpoch { b with laster := { b.laster with seq := q + 2 } } n e)

/-- A mirrored session; without grants it has ended. -/
def Blk.sessMirror (b : Blk) (x : PSess) : Blk :=
  let rest := b.ptp.sess.filter (!sameSess x ·)
  { b with ptp := { b.ptp with sess := if x.grants.isEmpty then rest else rest ++ [x] } }

/-- One item of the mirror. -/
def Blk.mirrorApply (b : Blk) : Mirror → Blk
  | .hashKey k => { b with ct := { b.ct with key := k } }
  | .pool i => { b with twin := { b.twin with poolIdx := some i } }
  | .row k pos bs => b.setBucket k (putRow (b.bucketAt k) pos (if bitOf (byteAt bs 8) 0 then rowOf bs else {}))
  | .epoch n st id key act exp => b.epochMirror n st id key act exp
  | .utc o l sm => ((b.wrW R.TBS_UTC o).wrW R.TBS_LEAP l).wrW R.TBS_SMEAR sm
  | .leap delta m sL w0 w1 sample =>
    { b with ins := { b.ins with leap := some { delta := delta, m := m, dOld := b.utcD, sL := sL, w0 := w0, w1 := w1, sample := sample } } }
  | .noLeap => { b with ins := { b.ins with leap := none } }
  | .reg off v => Blk.aclNext b (b.wrW off v)
  | .features en =>
    (b.wr R.RST_FEATURE_EN (putBit (en % 0x2000) featTwin (bitOf (b.rd R.RST_FEATURE_EN) featTwin))).refsSettle
  | .sess port inst ident addr mac tags grants =>
    b.sessMirror { port := port, inst := inst, ident := ident, addr := addr, mac := mac, tags := tags, grants := grants.map fun g =>
      { msg := g.1, log := g.2.1, dur := g.2.2.1, endUp := b.up + g.2.2.2.1, seqId := g.2.2.2.2, tokens := 2 * 16777216000000000, at_ := b.up } }
  | .copyEnd => { b with twin := { b.twin with mirrorSync := true } }

/-- The follower applies an item and returns a credit; on the leader, the command stands for the credit that returns. -/
def execMirrorApply (w : Nat) (item : Mirror) (s : State) : Host.Outcome State Fault Refusal :=
  s.upd w fun _ b =>
    if !b.twin.attached || !b.twin.link then b
    else if b.twin.role = 2 then (b.mirrorApply item).put (.welt weltCredit [])
    else { b with twin := { b.twin with queue := b.twin.queue - 1, creditAt := b.up } }

/-- CREDIT_US in elapsed time. -/
def Blk.creditU (b : Blk) : Nat := usU (atLeast1 (b.rd R.TWN_TMO_CREDIT_US))

/-- No credit has returned, or the queue is full: a resynchronisation. -/
def execMirrorCreditTimeout (w : Nat) (full : Bool) (s : State) : Host.Outcome State Fault Refusal :=
  s.upd w fun _ b =>
    if b.twin.attached && b.twin.role == 1 && (full || (b.twin.queue != 0 && decide (b.twin.creditAt + b.creditU ≤ b.up))) then b.mirrorResync
    else b

/-- The copy is complete and the queue is empty. -/
def execMirrorSync (w : Nat) (s : State) : Host.Outcome State Fault Refusal :=
  s.upd w fun _ b =>
    if b.twin.attached && b.twin.role == 1 then { b with twin := { b.twin with mirrorSync := true, queue := 0 } } else b

/-! ### Markers (R334) -/

/-- What a marker carries of its module: mode and TWN_STATUS[7:0]. -/
def Blk.twinStatus8 (b : Blk) : Nat :=
  b2n b.twin.link + 2 * b2n b.twin.attached + 4 * b.twin.role + 16 * b2n b.twin.track + 32 * b2n b.twin.claimOut + 64 * b2n b.twin.claimIn
  + 128 * b2n b.arbFault

/-- A marker departs: the leader's carries its own departure and the arrival of the follower's last marker. Once a second the leader
sends its sessions anew. -/
def Blk.markerTx (b : Blk) : Blk :=
  let now := b.ins.now
  let last : Int := match b.twin.txMark with | some t => t / oneS | none => -1
  let t4 := match b.twin.rxMark with | some x => timeB x.1.toNat | none => []
  let c := b.put (.welt weltMarker (leB 1 b.mode.code ++ leB 1 b.twinStatus8 ++ timeB now ++ t4))
  let c := if b.twin.role = 1 ∧ last ≠ secOf now then b.ptp.sess.foldl (fun c s => c.put (.mirror (mirrorSess b.up s))) c else c
  { c with twin := { c.twin with txMark := some now } }

def execMarkerTx (w : Nat) (s : State) : Host.Outcome State Fault Refusal :=
  s.upd w fun _ b => if b.twin.attached && b.twin.link && b.ins.running then b.markerTx else b

/-- A_w in ps: this module follows, so its leader has the other SIDE. -/
def Blk.asymW (b : Blk) : Int := if b.rd R.TWN_CFG_SIDE = 1 then b.rdS R.TWN_BOARD_ASYM_PS else -b.rdS R.TWN_BOARD_ASYM_PS

/-- x of a measurement in 2^-16 ns. -/
def Blk.twinX (b : Blk) (t1 t2 t3 t4 : Int) : Int := ((t4 - t3) - (t2 - t1)) / 2 + psU b.asymW

/-- The follower takes a time error: TRACK, then the WELT slot. -/
def Blk.measured (b : Blk) (x : Int) : Blk :=
  let ps := (x * 1000 + 32768) / 65536
  let near := decide (x.natAbs * 1000 ≤ atLeast1 (b.rd R.TWN_TRACK_TRACK_PS) * 65536)
  let run := if near then min 1000 (b.twin.trackRun + 1) else 0
  let was := b.twin.track
  let b := { b with twin := { b.twin with xPs := max (-0x7FFFFFFF) (min 0x7FFFFFFF ps), trackRun := run, track := run == 1000 } }
  let b := b.inc C.TWN_MEAS
  let b := if was && !near then b.recTwin 0xC 0 else b
  let ks := (List.range 24).filter fun k => b.slotKind k == 6 && b.slotReceives k
  ks.foldl (fun b k => b.slotEvent k ((b.ins.now : Int) + x) b.ins.now b.up) b

/-- A marker has arrived `age` ago: the peer's mode and status, and, from the leader, the times t1 and t4 of its marker before. -/
def Blk.markerRx (b : Blk) (age mode status : Nat) (have4 : Bool) (t1 t4 : Int) : Blk :=
  let t := b.twin
  let t2 := (b.ins.now : Int) - age
  let b := { b with twin := { t with peerMode := mode, peerStatus := status, peerTrack := bitOf status 4, rxMark := some (t2, b.ins.stepSum) } }
  match t.rxMark, t.txMark with
  | some (old2, steps), some t3 =>
    if t.role = 2 ∧ have4 ∧ steps = b.ins.stepSum ∧ old2 ≤ t3 then b.measured (b.twinX t1 old2 t3 t4) else b
  | _, _ => b

def execMarkerRx (w age mode status : Nat) (have4 : Bool) (t1 t4 : Int) (s : State) : Host.Outcome State Fault Refusal :=
  s.upd w fun _ b => if b.twin.attached && b.twin.link && b.ins.running then b.markerRx age mode status have4 t1 t4 else b

/-! ### Takeover (R335, R338) -/

/-- SETTLE_NS. -/
def Blk.settleU (b : Blk) : Nat := nsU (max 200 (b.rd R.TWN_ARB_SETTLE_NS))

/-- A FAIL block, after which the leader has left the pair, or a HANDOVER block comes from the leader. -/
def execFailBlockRx (w : Nat) (handover : Bool) (s : State) : Host.Outcome State Fault Refusal :=
  s.upd w fun _ b =>
    if b.twin.attached && b.twin.link && b.twin.role == 2 then
      Blk.refsSettle { b with twin := { b.twin with failAt := some b.up, attached := handover, mirrorSync := b.twin.mirrorSync && handover } }
    else b

/-- The peer claims after a handover of this module: under SWITCHOVER it follows, under MODE_REQUEST both detach. -/
def Blk.handedOver (b : Blk) : Blk :=
  match b.twin.switchRef, b.modeReq with
  | some ref, _ => ((Blk.toFollower { b with twin := { b.twin with switchRef := none } }).recTwin 6 0).complete ref stOk []
  | none, some m => Blk.detach { b with modeReq := some { m with handover := false } }
  | none, none => { b with twin := { b.twin with handed := false } }

/-- The level on TWARB_B. -/
def Blk.twarbB (b : Blk) (level : Bool) : Blk :=
  let t := b.twin
  let c := { b with twin := { t with claimIn := level, lowFrom := if t.claimIn && !level then b.up else t.lowFrom
                                     bothFrom := if level && t.claimOut && !t.link then some (t.bothFrom.getD b.up) else none } }
  if level && t.handed then c.handedOver else c.orphan

def execTwarbBChange (w : Nat) (level : Bool) (s : State) : Host.Outcome State Fault Refusal :=
  s.upd w fun _ b => if b.part.variant.welt then (b.twarbB level).txRetry else b

/-- A frame that announces service entry i: a gratuitous ARP, or an unsolicited neighbour advertisement. -/
def Blk.announce (b : Blk) (p i : Nat) : Bytes :=
  let a := b.svcAddr i
  let vid := b.rd (R.CLK_SVC_CFG_VID i)
  let tag : Bytes := if b.flag (R.CLK_SVC_CFG_VID_ANY i) || vid == 0 then [] else [0x81, 0x00] ++ beB 2 vid
  let mac := b.portMac p
  if b.flag (R.CLK_SVC_CFG_V6 i) then
    let dst : Bytes := [0xFF, 0x02] ++ List.replicate 13 0 ++ [0x01]
    let m : Bytes := [0x88, 0, 0, 0, 0x20, 0, 0, 0] ++ a ++ [2, 1] ++ mac
    let m := putB m 2 (beB 2 (inetSum (pseudo ⟨true, a, dst, 58, 0, 32⟩ 32 ++ m)))
    [0x33, 0x33, 0, 0, 0, 1] ++ mac ++ tag ++ [0x86, 0xDD, 0x60, 0, 0, 0, 0, 32, 58, 255] ++ a ++ dst ++ m
  else
    List.replicate 6 0xFF ++ mac ++ tag ++ [0x08, 0x06, 0, 1, 0x08, 0, 6, 4, 0, 1] ++ mac ++ a ++ List.replicate 6 0 ++ a

/-- GARP: one frame for each valid service address on each port where it is valid. -/
def Blk.announceAll (b : Blk) : Blk :=
  if !b.flag R.TWN_CFG_GARP then b else
    let l := (List.range 32).flatMap fun p => (List.range 64).filterMap fun i =>
      if b.portPresent p && (b.portOf p).link && b.flag (R.CLK_SVC_CFG_VALID i) && bitOf (b.rdW (R.CLK_SVC_PORTS i)) p then some (p, i) else none
    l.foldl (fun b x => (b.sendBuilt (builtFrame x.1 (b.serveTc x.1) .neighbour (pad60 (b.announce x.1 x.2)))).getD b) b

/-- Whether a condition of R335 holds: TWARB_B has been low for SETTLE_NS, after a FAIL or HANDOVER or with the link lost. -/
def Blk.takesOver (b : Blk) : Bool :=
  let t := b.twin
  b.mode == .follower && (t.role == 2 || t.role == 3) && !t.claimIn && decide (t.lowFrom + b.settleU ≤ b.up)
  && (t.failAt.isSome || (t.lostAt.isSome && !t.link && !b.arbFault))

def Blk.takeover (b : Blk) : Blk :=
  if !b.takesOver then b else
    let arg := b2n (!b.twin.track)
    let c := ((b.leadFrom.inc C.TWN_TAKEOVER).recTwin 7 arg).announceAll
    if c.twin.attached then c.copySend else c

def execTakeover (w : Nat) (s : State) : Host.Outcome State Fault Refusal := s.upd w fun _ b => b.takeover.txRetry

/-- Both modules claim with the link down: SIDE 1 gives way and is orphaned (R338). -/
def Blk.bothClaim (b : Blk) : Blk :=
  match b.twin.bothFrom with
  | none => b
  | some t =>
    if b.up < t + b.settleU ∨ b.twin.link ∨ !b.twin.claimOut ∨ !b.twin.claimIn ∨ b.rd R.TWN_CFG_SIDE = 0 then b
    else
      let c := b.toFollower
      Blk.recTwin { c with twin := { c.twin with role := 3, bothFrom := none, lostAt := some b.up } } 9 0

def execBothClaimSettle (w : Nat) (s : State) : Host.Outcome State Fault Refusal := s.upd w fun _ b => b.bothClaim.txRetry

/-! ### TWIN_COMMAND (R339) -/

/-- Begin the sub-commands that satisfy a condition; without the Welt every one is ABSENT. -/
def Blk.twinCmd (b : Blk) (r : Nat) (p : Nat → Bool) (f : DRef → Bytes → Blk → Blk) : Blk :=
  b.withDesc r 0x40 (fun d => p (byteAt d 8)) fun ref d b => if b.part.variant.welt then f ref d b else b.complete ref stAbsent []

def execTwinAttach (w r : Nat) (s : State) : Host.Outcome State Fault Refusal :=
  s.upd w fun _ b => b.twinCmd r (· == 1) fun ref _ b =>
    if b.twin.attachRef.isSome then b.complete ref stBusy []
    else if b.twin.attached then b.complete ref stOk []
    else
      let b := b.wr R.RST_FEATURE_EN (putBit (b.rd R.RST_FEATURE_EN) featTwin true)
      { b with twin := { b.twin with attachRef := some (ref, b.up), autoStop := false, proofFails := 0 } }

/-- No attach within 10 s; EN[11] stays set. -/
def execAttachTimeout (w : Nat) (s : State) : Host.Outcome State Fault Refusal :=
  s.upd w fun _ b =>
    match b.twin.attachRef with
    | some (ref, t) => if t + secU 10 ≤ b.up then Blk.complete { b with twin := { b.twin with attachRef := none } } ref stTimeout [] else b
    | none => b

/-- DETACH of ring pair r; `peer`: the other module has detached. -/
def execTwinDetach (w r : Nat) (peer : Bool) (s : State) : Host.Outcome State Fault Refusal :=
  s.upd w fun _ b =>
    if peer then (if b.twin.attached && b.twin.link then b.detached.txRetry else b)
    else b.twinCmd r (· == 2) fun ref _ b =>
      if b.roleChange then b.complete ref stDenied [] else b.detach.txRetry.complete ref stOk []

/-- SWITCHOVER begins: new requests are mode-dropped and the leader drains; one that runs is BUSY_RETRY (log entry 84). -/
def Blk.switchover (b : Blk) (ref : DRef) (d : Bytes) : Blk :=
  if !b.twin.attached ∨ b.twin.role ≠ 1 then b.complete ref stDenied []
  else if !b.twin.peerTrack ∧ !bitOf (byteAt d 9) 0 then b.complete ref stDenied []
  else if b.roleChange ∨ b.modeReq.isSome then b.complete ref stBusy []
  else { b with twin := { b.twin with switchRef := some ref } }

def execTwinSwitchover (w r : Nat) (s : State) : Host.Outcome State Fault Refusal :=
  s.upd w fun _ b => b.twinCmd r (· == 3) fun ref d b => b.switchover ref d

/-- SET_KEY: the 40 bytes at ADDR are unwrapped under K_s. -/
def Blk.setKey (b : Blk) (ref : DRef) (blk : Bytes) : Option Bytes :=
  if b.mode = .commission then keyUnwrap (b.sesOf (b.funcOf ref)).ks (sliceB blk 0 40) else none

/-- The pairing key that the next descriptor installs, if it is a SET_KEY that does. -/
def Blk.newKey (b : Blk) (r : Nat) (blk : Bytes) : Option Bytes :=
  match b.nextDesc r with
  | some d => if byteAt d.data 0 == 0x40 && byteAt d.data 8 == 4 && b.part.variant.welt then b.setKey ⟨r, d.id⟩ blk else none
  | none => none

def execTwinSetKey (w r : Nat) (blk : Bytes) (s : State) : Host.Outcome State Fault Refusal :=
  s.updN w fun nvm b =>
    let k := b.newKey r blk
    (match k with | some x => { nvm with kp := some x } | none => nvm,
     b.twinCmd r (· == 4) fun ref _ b => b.complete ref (if k.isSome then stOk else stDenied) [])

/-- RESET_PEER: the acknowledgement of the peer is taken as given (log entry 85). -/
def execTwinResetPeer (w r : Nat) (s : State) : Host.Outcome State Fault Refusal :=
  s.upd w fun _ b => b.twinCmd r (· == 5) fun ref _ b =>
    if b.twin.attached && b.twin.peerResetOk then (b.put (.welt weltReset [])).complete ref stOk [] else b.complete ref stDenied []

/-- RESET_PEER arrives: a twin-commanded reset. -/
def execTwinCommandedReset (w : Nat) (s : State) : Host.Outcome State Fault Refusal :=
  s.upd w fun _ b => if b.twin.attached && b.twin.link && b.twin.resetOk then b.devReset 6 else b

/-- STATUS; a sub-command outside R339 is MALFORMED. -/
def execTwinStatus (w r : Nat) (s : State) : Host.Outcome State Fault Refusal :=
  s.upd w fun _ b => b.twinCmd r (fun c => c == 6 || c == 0 || decide (6 < c)) fun ref d b =>
    if byteAt d 8 ≠ 6 then b.complete ref stMalformed []
    else b.complete ref stOk (leB 4 (ofSigned b.twin.xPs 32) ++ leB 1 b.twin.peerMode ++ leB 1 b.twin.peerStatus ++ leB 2 0 ++ leB 8 b.twin.peerSerial)

end Sys2Proof.Machine
end

