-- ==== Sys2Proof/Machine/Flow.lean ====
section
/-! DEFINITION. Limits on waits (13): egress space held too long (R356), and TX_FRAMEs that wait for their resources (R349,
R359). -/

namespace Sys2Proof.Machine

/-- EG_MAX_MS. -/
def Blk.egMaxU (b : Blk) : Nat := msU (max 1100 (b.rd R.FLC_HOLD_EG_MAX_MS))

/-- Whether a frame has held its egress space for EG_MAX_MS. -/
def Blk.egExpired (b : Blk) (f : TxF) : Bool := decide (f.heldFrom + b.egMaxU ≤ b.leaseNow)

/-- The frames of a port that have expired are discarded by counted policy. -/
def Blk.egExpirePort (b : Blk) (p : Nat) : Blk :=
  let gone := (b.portFrames p).filter b.egExpired
  if gone.isEmpty then b else
    let q := b.portOf p
    let keep := fun l : List TxF => l.filter (!b.egExpired ·)
    let commit := match q.commit with | some x => if b.egExpired x.1 then none else some x | none => none
    let c := b.setPort p { q with queue := keep q.queue, armed := keep q.armed, commit := commit }
    gone.foldl (fun b f => (b.frameDrop C.NTS_MISS_AGED stDropped f).inc C.FLC_EG_EXPIRE) c

def execEgExpire (w : Nat) (s : State) : Host.Outcome State Fault Refusal :=
  s.upd w fun _ b => ((List.range 32).foldl Blk.egExpirePort b).txRetry

/-- TXW_US in elapsed time. -/
def Blk.txwU (b : Blk) : Nat := usU (atLeast1 (b.rd R.FLC_HOLD_TXW_US))

/-- Whether a TX_FRAME has waited for TXW_US; one that waits under escalation is not refused. -/
def Blk.txLate (b : Blk) (x : TxWait) : Bool := !x.held && decide (x.from_ + b.txwU ≤ b.up)

/-- TX_FRAMEs that have waited TXW_US complete with a BUSY_RETRY that counts towards escalation. -/
def Blk.txwExpire (b : Blk) : Blk :=
  let gone := b.flow.waits.filter b.txLate
  gone.foldl (fun b x => b.completeBusy x.ref) { b with flow := { b.flow with waits := b.flow.waits.filter (!b.txLate ·) } }

def execTxwExpire (w : Nat) (s : State) : Host.Outcome State Fault Refusal := s.upd w fun _ b => b.txwExpire

end Sys2Proof.Machine
end

