-- ==== Sys2Proof/Machine/PmcCmds.lean ====
section
/-! DEFINITION. The commands of 16: reads and writes of a performance counter, and a wrap. -/

namespace Sys2Proof.Machine

/-- Whether a function reads, and writes, the PMC block (16 R423). -/
def Blk.pmcReads (b : Blk) (f : Nat) : Bool := b.sesOpen f && bitOf (b.sesOf f).priv 12
def Blk.pmcWrites (b : Blk) (f : Nat) : Bool := b.setup f && bitOf (b.sesOf f).priv 12

/-- Offsets of a counter's words (16 R426). -/
def pmcLo (i : Nat) : Nat := 0x32000 + 8 * i
def pmcHi (i : Nat) : Nat := 0x32004 + 8 * i

/-- A counter's value. -/
def Blk.pmcVal (b : Blk) (i : Nat) : Nat := tget 0 b.pmc.cnt i

/-- Forget a latched word. -/
def Blk.unlatch (b : Blk) (f off : Nat) : Blk := { b with latch := tdel b.latch (bank f off) }

/-- A read of PMC_CNT_LO i by function f (16 R419): the whole counter, and of an even counter while chained its partner, is
latched. While chained an odd counter's low word that its partner's read has latched returns that. -/
def Blk.pmcLoRead (b : Blk) (f i : Nat) : Blk × Nat :=
  if !b.pmcReads f then (b, 0)
  else if b.pmc.chained && i % 2 == 1 && thas b.latch (bank f (pmcLo i)) then (b, b.latched f (pmcLo i))
  else
    let c := b.latchAt f (pmcHi i) [b.pmcVal i / 0x100000000]
    let c := if i % 2 = 1 then c
      else if b.pmc.chained then
        c.latchAt f (pmcLo (i + 1)) [b.pmcVal (i + 1) % 0x100000000, b.pmcVal (i + 1) / 0x100000000]
      else c.unlatch f (pmcLo (i + 1))
    (c, b.pmcVal i % 0x100000000)

def execPmcCntLoRead (w f i : Nat) (s : State) : Host.Outcome State Fault Refusal :=
  s.upd w fun _ b => b.readFor f (pmcLo (i % 512)) (b.pmcLoRead f (i % 512))

/-- A write to PMC_CNT_HI is held (16 R420). -/
def Blk.pmcHiWrite (b : Blk) (f i v : Nat) : Blk :=
  if b.pmcWrites f then { b with pmc := { b.pmc with hold := tput b.pmc.hold i (v % 65536) } } else b

def execPmcCntHiWrite (w f i v : Nat) (s : State) : Host.Outcome State Fault Refusal :=
  s.upd w fun _ b => b.pmcHiWrite f (i % 512) v

/-- A write to PMC_CNT_LO loads the counter from the held high word and clears that (16 R420). -/
def Blk.pmcLoWrite (b : Blk) (f i v : Nat) : Blk :=
  if b.pmcWrites f then
    { b with pmc := { b.pmc with cnt := tput b.pmc.cnt i (tget 0 b.pmc.hold i * 0x100000000 + v % 0x100000000)
                                 hold := tdel b.pmc.hold i } }
  else b

def execPmcCntLoWrite (w f i v : Nat) (s : State) : Host.Outcome State Fault Refusal :=
  s.upd w fun _ b => b.pmcLoWrite f (i % 512) v

/-! ### A wrap (16 R416, R421, R422) -/

/-- Events that no other command counts (log entry 87): squashed instructions, Lanes that wait on a Stitcher, AES blocks,
fabric beats. -/
def pmcInner (ev : Nat) : Bool := ev == 0x21 || ev == 0x24 || ev == 0x50 || ev == 0x51 || ev == 0x60

/-- The sampled engine of counter i (16 R421); `last`: the engine of a Bench that issued last. -/
def Blk.sampEngine (b : Blk) (i last : Nat) : Nat :=
  match pmcKind (b.pmcEv i) with
  | some 2 => b.pmcIn i
  | some 1 => 16 * (b.pmcIn i % 4) + last % 16
  | _ => b.rd R.PMC_CTRL_SAMP_ENG

/-- The oldest sample of counter i that has not been written. -/
def Pmc.sampOf (p : Pmc) (i : Nat) : Option (Nat × Nat) := p.samp.find? fun e => e.1 == i

/-- A sample's tail. -/
def Blk.sampTail (b : Blk) (engine entry offset : Nat) (idle : Bool) : Bytes :=
  let set := (b.eng.sets.find? fun e => e.1 == engine / 16).map (·.2)
  leB 2 (match set with | some x => x.id | none => 0) ++ leB 1 engine ++ leB 1 (entry % 8 + 8 * b2n idle)
    ++ leB 4 (if idle then 0xFFFFFFFF else offset % 0x100000000) ++ leB 4 0

/-- Counter i has counted n events of its own kind, where no other command counts them; a sample of a wrap is written. -/
def Blk.pmcWrap (b : Blk) (i n last entry offset : Nat) (idle : Bool) : Blk :=
  let c := if n != 0 && pmcInner (b.pmcEv i) && !b.pmcBad i && b.coreRuns then { b with pmc := b.pmcBump b.pmc i n } else b
  match c.pmc.sampOf i with
  | none => c
  | some e =>
    let d := { c with pmc := { c.pmc with samp := c.pmc.samp.erase e } }
    d.record (d.rd R.PMC_CTRL_SAMP_FUNC) 0x0E 0 i e.2 (d.sampTail (d.sampEngine i last) entry offset idle)

def execPmcWrap (w i n engine entry offset : Nat) (idle : Bool) (s : State) : Host.Outcome State Fault Refusal :=
  s.upd w fun _ b => b.pmcWrap (i % 512) n engine entry offset idle

end Sys2Proof.Machine
end

