-- ==== Sys2Proof/Machine/RegRead.lean ====
section
/-! DEFINITION. What a read of a BAR0 register returns (17 R427 to R442 and the register tables of every chapter): the fields
that host software writes and the device keeps come from the register file, every other field from the state it shows; absent
units, mask bits, latches and BAR2. -/

namespace Sys2Proof.Machine

/-! ### Helpers -/

/-- A mask of the indices below n that satisfy a condition. -/
def maskOf (n : Nat) (p : Nat → Bool) : Nat := ((List.range n).map fun i => if p i then 2 ^ i else 0).sum

/-- A signed value as a 32-bit field, saturating at ±(2^31 − 1). -/
def sat31 (x : Int) : Nat := ofSigned (max (-2147483647) (min 2147483647 x)) 32

/-- A signed value as a 16-bit field, saturating. -/
def sat16 (x : Int) : Nat := ofSigned (clampSigned x 16) 16

/-- Whole nanoseconds of an exact length, towards zero. -/
def toNs (x : Int) : Int := x.tdiv 65536

/-! ### Absent units (17 R434, R435) -/

/-- Whether a register belongs to an absent unit: `off` is a defined register. -/
def Blk.absentAt (b : Blk) (off : Nat) : Bool :=
  let v := b.part.variant
  if 0x10000 ≤ off ∧ off < 0x20000 then !b.portPresent ((off - 0x10000) / 0x800)
  else if 0x28800 ≤ off ∧ off < 0x28C00 then !bitOf b.capPorts ((off - 0x28800) / 0x20)
  else if 0xC100 ≤ off ∧ off < 0xC500 then !b.eyeletPresent ((off - 0xC100) / 0x40)
  else if 0xB100 ≤ off ∧ off < 0xB340 then !b.unitPresent ((off - 0xB100) / 0x20)
  else if 0x9040 ≤ off ∧ off < 0x9080 then !b.eyeletPresent ((off - 0x9040) / 4)
  else if 0x24020 ≤ off ∧ off < 0x24030 then !b.benchPresent ((off - 0x24020) / 4)
  else if 0x2C020 ≤ off ∧ off < 0x2C030 then !b.benchPresent ((off - 0x2C020) / 4)
  else if 0x26040 ≤ off ∧ off < 0x26060 then !b.stitcherPresent ((off - 0x26040) / 4)
  else if 0x26000 ≤ off ∧ off < 0x28000 then v.stitchers == 0
  else if 0x2A000 ≤ off ∧ off < 0x2C000 then !v.welt
  else false

/-- Registers whose 32 bits name ports: CLK_SVC PORTS, PTP_INST_PORTS, PTP_FWD. -/
def portMaskReg (off : Nat) : Bool :=
  inArray 0x20810 0x20 64 off || inArray 0x28104 0x20 4 off || inArray 0x28020 4 8 off

/-- The bits of a word that a register takes: mask bits that name absent ports drop out. -/
def Blk.maskBits (b : Blk) (off v : Nat) : Nat := if portMaskReg off then v &&& b.capPorts else v

/-! ### Derived fields, by block -/

/-- IDC (17 R439 to R442). -/
def Blk.shownIdc (b : Blk) (f base : Nat) : Nat :=
  let p := b.part
  match base with
  | 0x00 => 0x4B54 + 0x10000 * p.variant.code
  | 0x04 => p.silicon % 0x10000 + 0x10000 * (p.moduleRev % 256) + 0x1000000
  | 0x08 => p.serial % 0x100000000
  | 0x0C => p.serial / 0x100000000 % 0x100000000
  | 0x10 => match b.boot.image with
    | some i => if b.boot.minimal then 0 else i.svn % 0x10000 + 0x10000 * b2n i.factory
    | none => 0
  | 0x20 => b.capWord 0
  | 0x24 => b.capWord 1
  | 0x28 => b.capWord 2
  | 0x2C => b.capWord 3
  | 0x30 => f
  | 0x40 => b.gstat
  | 0x44 => b.gsum
  | _ => 0

/-- SES (11 R320). -/
def Blk.shownSes (b : Blk) (nvm : Nvm) (f base i : Nat) : Nat :=
  let x := b.sesOf f
  match base with
  | 0x1004 => x.st.code + 4 * b2n (nvm.keyPresent f) + 16 * x.failCnt + 0x10000 * x.tag
  | 0x1008 => if x.st == .locked then satNat (ceilDiv (x.lockUntil - b.up) (secU 1)) 9 else 0
  | 0x100C => if x.st == .opened then x.priv else 0
  | 0x1014 => x.cause
  | 0x1020 => beAt x.challenge (4 * i) 4
  | 0x1060 => beAt x.dnonce (4 * i) 4
  | 0x1070 => beAt x.dmac (4 * i) 4
  | _ => 0

/-- RST (14 R388, 02 R41). -/
def Blk.shownRst (b : Blk) (base : Nat) : Nat :=
  match base with
  | 0x2004 => 0x10000 * b2n (!b.rst.units.isEmpty)
  | 0x2008 => b.rst.cause + 16 * b2n b.rst.multi
  | 0x2010 => (if b.boot.done then 0xF else b.boot.step.getD 0) + 16 * b2n b.boot.minimal + 32 * b2n b.boot.copyB
      + 64 * b2n b.boot.trainAlt + 128 * b2n b.boot.patRom + 256 * b2n b.boot.lanesAlt
  | 0x2014 => b.boot.laneFail0
  | 0x2018 => b.boot.laneFail1
  | 0x2020 => match b.rtcNow with | some s => s % 0x100000000 | none => 0
  | 0x2024 => match b.rtcNow with | some s => s / 0x100000000 % 0x10000 + 0x80000000 | none => 0
  | 0x2100 => b.mode.code + 8 * b2n b.holdExpired + 16 * b2n b.modeReq.isSome + 256 * b.lastMode.code + 65536 * b.entryCause
  | 0x2108 => b.devEff
  | 0x210C => b.featAbsent
  | _ => 0

/-- LCS (14 R389). -/
def Blk.shownLcs (b : Blk) (nvm : Nvm) (base : Nat) : Nat :=
  match base with
  | 0x3000 => nvm.lifecycle.code + 8 * b2n nvm.owner.isSome + 16 * (nvm.reprovLeft % 8) + 65536 * (nvm.svnFloor % 65536)
  | 0x3004 => b.lcsNonce
  | 0x3010 => b.lcs.result + 16 * b.lcs.lastTarget
  | 0x3014 => b2n nvm.copyA.valid + 2 * b2n nvm.copyB.valid + 4 * b2n b.lcs.optBusy + 16 * b.lcs.optResult
  | 0x3030 => 0x20000 * b.lcs.keyResult
  | _ => 0

/-- Enabled doorbell slots, ring pairs and event rings of every function (11 R299). -/
def Blk.slotsOn (b : Blk) : Nat :=
  ((List.range 64).filter fun r => b.flag (R.HRG_CTL_ENABLE r)).length
  + ((List.range 4).filter fun f => b.flag (R.EVT_CTL_ENABLE f)).length

/-- HRG and EVT (11 R321, R322). -/
def Blk.shownHrg (b : Blk) (f base i : Nat) : Nat :=
  match base with
  | 0x401C =>
    let x := b.ringOf i
    b2n x.running + 2 * b2n (x.err != 0) + 16 * x.err + 65536 * b.ringOwner i
  | 0x4020 => (b.ringOf i).sqCi
  | 0x4024 => (b.ringOf i).cqPi
  | 0x5018 => satNat (max (b.rd R.HRG_POLL_DB_POLL_NS) (16 * b.slotsOn)) 16 + 65536 * b.slotsOn
  | 0x6010 =>
    let e := b.evtOf f
    b2n e.running + 4 * (b.ins.stepGen % 4) + 65536 * e.lost
  | _ => 0

/-- TBS and LST (03 R77, R78). -/
def Blk.shownTbs (b : Blk) (base : Nat) : Nat :=
  let s := match b.ins.leap with | some l => ofSigned l.sL 48 | none => 0
  match base with
  | 0x8004 => b2n b.ins.timeValid + 2 * b2n (b.ins.slewRem != 0) + 4 * b2n b.ins.leap.isSome
      + 8 * b2n (match b.ins.leap with | some l => decide (l.delta < 0) | none => false) + 16 * b2n b.inSmear
      + 32 * b2n b.warnLeap.isSome
  | 0x8030 => s % 0x100000000
  | 0x8034 => s / 0x100000000
  | 0x803C => sat31 (toNs (b.ins.slewRem.tdiv 1000000000))
  | 0x8040 => sat31 (toNs b.ins.stepLast)
  | 0x8044 => b.ins.stepCnt
  | 0x9004 => b.lstUsed + 65536 * (b.laster.ents.filter fun e => e.2.spilled).length
  | 0x9010 => b.laster.lateRun
  | 0x9014 => b.laster.lateSkip
  | 0x9018 => b.laster.lateNext
  | 0x901C => b.laster.nop
  | _ => 0

/-- REF (04 R107 to R109). -/
def Blk.shownRef (b : Blk) (base i : Nat) : Nat :=
  let c := b.contrib
  let s := b.slotOf i
  match base with
  | 0xA01C => (if b.ensMode then 0x1F else b.refs.selected.getD 0x1F) + 32 * b2n b.switching + 64 * b2n b.lockBit
      + 128 * b2n b.freqOnly + 512 * b2n (decide (b.effBw < b.wantBw)) + 1024 * b2n b.refs.forced + 4096 * (b.effBw % 16)
      + 65536 * c.length
  | 0xA020 => b.eligMask
  | 0xA024 => maskOf 24 fun k => c.contains k
  | 0xA028 => ofSigned (toPs b.refs.e) 32
  | 0xA02C => sat31 b.refs.freq
  | 0xA030 => b.refs.swCnt % 65536 + 65536 * (b.refs.abandCnt % 65536)
  | 0xA400 => s.st.code + 8 * b2n s.frozen + 16 * b2n (b.eligible i) + 32 * b2n (c.contains i) + 64 * b2n s.lockoutHeld
      + 256 * (s.cause % 16) + 65536 * satNat ((s.weight * 255 + 32768) / 65536) 8 + 0x1000000 * satNat (b.flapsNow i).length 8
  | 0xA404 => sat31 s.y11
  | 0xA408 => ofSigned (toPs s.x) 32
  | 0xA40C => satNat (natSqrt s.sig2 * 1000 / 65536) 24 + 0x1000000 * satNat s.bucket 8
  | _ => 0

/-- M of an output unit, which a CYCLE unit reads as 0 (05 R123): whole nanoseconds, and the picoseconds below. -/
def Blk.misOf (b : Blk) (u : Nat) : Int := if b.rd (R.HLD_OCFG_KIND u) = 4 then 0 else (b.outOf u).mis
def Blk.misNs (b : Blk) (u : Nat) : Nat := ofSigned (toNs (b.misOf u)) 32
def Blk.misPs (b : Blk) (u : Nat) : Nat := ofSigned (((b.misOf u).tmod 65536 * 1000).tdiv 65536) 11

/-- HLD (05 R129 to R131). -/
def Blk.shownHld (b : Blk) (f base i : Nat) : Nat :=
  match base with
  | 0xB004 => b2n b.heel.steering + 2 * b2n b.heel.modelValid + 256 * (b.heel.learned % 64) + 65536 * b2n b.heel.tempLost
  | 0xB010 => if b.ins.running then sat16 b.heelT + 65536 * sat16 b.heelTdot else 0
  | 0xB02C => b.hold.budget
  | 0xB030 => b.hold.elapsed
  | 0xB034 => b.hold.pred
  | 0xB118 => b.misNs i
  | 0xB11C =>
    let o := b.outOf i
    b2n o.running + 2 * b2n o.squelched + 4 * b2n o.realign.isSome + 8 * b2n o.cfgErr + 65536 * b.latched f (R.HLD_OST i)
  | _ => 0

/-- PIN (06 R155, R156). -/
def Blk.shownPin (b : Blk) (base i : Nat) : Nat :=
  match base with
  | 0xC000 => 16 * b.eyes.sensed + 64 * b2n b.eyes.mismatch
  | 0xC004 => b2n b.eyes.tbPresent + 4 * b2n b.eyes.rot.isSome
      + 256 * (match b.eyes.rot with | some r => r.chan | none => 0x1F) + 65536 * maskOf 16 fun e => b.eyeletPresent e && b.uncal e
  | 0xC124 =>
    let x := b.eyeOf i
    b2n x.stuck + 2 * b2n x.chatter + 4 * b2n x.armed.isSome + 8 * b2n x.level + 16 * b2n x.spare + 32 * b2n (b.uncal i)
  | _ => 0

/-- PRT (07 R191). -/
def Blk.shownPrt (b : Blk) (base p : Nat) : Nat :=
  let q := b.portOf p
  match base with
  | 0x10004 => b2n q.link + 2 * b2n q.lock + 4 * b2n q.fecLock + 8 * b2n q.aligned + 16 * b2n q.localFault
      + 32 * b2n q.remoteFault + 128 * b2n (b.portCfgErr p) + 256 * b2n (decide (q.pauseEnd > b.up))
      + 512 * b2n (match q.stormEnd with | some t => decide (t > b.up) | none => false) + 1024 * b2n q.lpiTx + 2048 * b2n q.lpiRx
      + 4096 * b2n (b.lpiSusp p) + 65536 * maskOf 8 (fun c => decide (tget 0 q.pfcEnd c > b.up)) + 0x1000000 * (q.missLast % 8)
  | 0x10038 => 65536 * (q.qlRx % 16) + 0x100000 * b2n q.qlTimeout
  | 0x10044 => (match q.gcl with | some l => l.entries.length | none => 0) + 512 * b2n q.gcl.isSome + 1024 * b2n q.pend.isSome
  | _ => 0

/-- CLK, ENG and NTS (08 R226, R229, 09 R260). -/
def Blk.shownClk (b : Blk) (nvm : Nvm) (base i : Nat) : Nat :=
  match base with
  | 0x20014 => b.quotaNum / b.quotaDen
  | 0x20018 => if b.clk.shedding then min 0xFFFFFF b.clk.fair else 0xFFFFFF
  | 0x2001C => b2n b.clk.shedding + 2 * b2n (b.clk.exc.any (·.spilled)) + 4 * b2n b.ct.scanBusy + 8 * b2n b.ct.flushBusy
      + 256 * (b.ct.aclGen % 256)
  | 0x24004 => b.psetWord
  | 0x24008 => b.psetSvn % 0x10000 + 0x10000 * (match b.shownSet with | some x => x.source % 4 | none => 0)
      + 0x40000 * b2n b.eng.load.isSome + 0x100000 * (b.eng.failCode % 16)
      + 0x1000000 * b2n (match b.shownSet with | some x => x.test | none => false)
  | 0x2400C => nvm.engSvnMin % 0x10000
  | 0x24010 => maskOf 32 fun e => b.enginePresent e && b.isHeld e
  | 0x24014 => maskOf 32 fun e => b.enginePresent (32 + e) && b.isHeld (32 + e)
  | 0x24020 =>
    let drains := b.benchLoading i || (match b.eng.self with | some t => t.engines.any fun e => e / 16 == i | none => false)
    b.freeLanes i + 256 * b2n drains + 512 * b2n (b.isHeld (0x40 + i))
  | 0x26014 =>
    let ws := (List.range 8).filter b.stitcherWorking
    b2n b.noSeal + 4 * b2n (!ws.isEmpty && ws.all fun s => decide (128 ≤ b.ctxUsed s)) + 16 * b.currentEpoch.getD 7
      + 256 * b.stitcherMask
  | 0x26020 => let e := b.epochOf i; if e.st = 0 then 0 else e.id % 0x10000 + 0x10000 * e.st
  | 0x26040 => b.ctxUsed i + 256 * b2n (b.stitcherIso i) + 512 * b2n (!b.nts.stale.contains i)
  | _ => 0

/-- PTP (10 R282 to R285). -/
def Blk.shownPtp (b : Blk) (base i : Nat) : Nat :=
  match base with
  | 0x28014 => b.ptp.sess.length + 0x100000 * b.instErr
  | 0x28118 => maskOf 32 fun p => b.portPresent p && b.isPassive i p
  | 0x28818 =>
    let c := b.clientOf i
    let st := if !b.clientRuns i then 0 else if c.master.isSome then 2 else 1
    st + 256 * (if st = 2 then c.entry else 0x3F) + 0x4000 * (if b.clientFrozen i then c.freeze % 4 else 0)
  | _ => 0

/-- TWN, FLC, ERR (12 R343, 13 R362, 15 R408). -/
def Blk.shownTwn (b : Blk) (base i : Nat) : Nat :=
  let t := b.twin
  match base with
  | 0x2A014 => b2n t.link + 2 * b2n t.attached + 4 * t.role + 16 * b2n t.track + 32 * b2n t.claimOut + 64 * b2n t.claimIn
      + 128 * b2n b.arbFault + 256 * b2n t.mirrorSync + 512 * b2n t.peerResetOk + 1024 * b2n t.resetOk + 4096 * (t.attFail % 16)
  | 0x2A018 => sat31 t.xPs
  | 0x2A01C => t.peerSerial % 0x100000000
  | 0x2A020 => t.peerSerial / 0x100000000 % 0x100000000
  | 0x2C010 => maskOf 4 (fun k => b.benchPresent k && decide (b.egArea ≤ b.egShared k))
      + 32 * b2n (!b.flow.heldOps.isEmpty || b.flow.waits.any (·.held))
  | 0x2C014 => maskOf 32 fun p => b.portPresent p && decide (b.egMax p ≤ b.egUsed p)
  | 0x2C020 => (b.egBench i + 1023) / 1024 + 65536 * ((b.egShared i + 1023) / 1024)
  | 0x2E008 => 16 * b2n b.err.cur.isSome + 32 * b2n b.err.machineFault + 64 * b2n b.err.oscLost + 256 * b.err.queue.length
      + 65536 * b.err.ptr
  | 0x2E00C => maskOf 32 fun p => b.isHeld (0x60 + p)
  | _ => 0

/-- PMC (16 R426). -/
def Blk.shownPmc (b : Blk) (base i : Nat) : Nat :=
  match base with
  | 0x30004 =>
    let byMode := match b.mode with | .dormant => true | .loading => true | .diagnostic => true | _ => false
    b2n b.pmc.chained + 2 * b2n byMode + 4 * b2n b.err.cur.isSome + 65536 * b.pmc.sampLost
  | 0x30008 => b.pmc.chainCnt
  | 0x30040 => b.pmc.ovf / 2 ^ (32 * i) % 0x100000000
  | 0x30080 => b.pmc.gap / 2 ^ (32 * i) % 0x100000000
  | 0x30800 => 0x40000000 * b2n (b.pmcBad i)
  | _ => 0

/-- What the device shows in the fields that the register file does not hold, by the register's base and index. -/
def Blk.shown (b : Blk) (nvm : Nvm) (f base i : Nat) : Nat :=
  if base < 0x1000 then b.shownIdc f base
  else if base < 0x2000 then b.shownSes nvm f base i
  else if base < 0x3000 then b.shownRst base
  else if base < 0x4000 then b.shownLcs nvm base
  else if base < 0x8000 then b.shownHrg f base i
  else if base < 0xA000 then b.shownTbs base
  else if base < 0xB000 then b.shownRef base i
  else if base < 0xC000 then b.shownHld f base i
  else if base < 0x10000 then b.shownPin base i
  else if base < 0x20000 then b.shownPrt base i
  else if base < 0x28000 then b.shownClk nvm base i
  else if base < 0x2A000 then b.shownPtp base i
  else if base < 0x30000 then b.shownTwn base i
  else b.shownPmc base i

/-! ### Reading -/

/-- The register file's part of a word: a WO field reads zero (00 R5), as does PERMIT while a fault of 15 R399 or R405 holds. -/
def Blk.keptPart (b : Blk) (row : RegRow) (f off : Nat) : Nat :=
  let raw := rfGet b.regs (if row.banked then bank f off else off)
  let v := row.fields.foldl (fun v x => if x.acc == .wo then withField v x.lo x.w 0 else v) raw
  let v := b.maskBits off v.toNat
  if off = R.RST_SERVE ∧ (b.err.machineFault ∨ b.err.oscLost) then v / 2 * 2 else v

/-- A register's value without any latch or side effect. -/
def Blk.plainWord (b : Blk) (nvm : Nvm) (row : RegRow) (f off i : Nat) : Nat :=
  b.keptPart row f off ||| b.shown nvm f row.base i

/-- A read of TBS_NOW0 latches the Insole value (03 R45). -/
def Blk.nowRead (b : Blk) (f : Nat) : Blk × Nat :=
  let t := b.ins.now
  (b.latchAt f R.TBS_NOW1 [secOf t % 0x100000000, secOf t / 0x100000000 % 65536 + 65536 * fracOf t, shortOf t], nsOf t)

/-- A read of a 64-bit counter's low word latches its high word (17 R429). -/
def Blk.ctrRead (b : Blk) (f lo : Nat) : Blk × Nat :=
  let v := tget 0 b.ctr lo
  (b.latchAt f (lo + 4) [v / 0x100000000], v % 0x100000000)

/-- A read of HLD_OMIS latches MIS_PS (05 R123). -/
def Blk.misRead (b : Blk) (f u : Nat) : Blk × Nat :=
  if b.unitPresent u then (b.latchAt f (R.HLD_OST u) [b.misPs u], b.misNs u) else (b, 0)

/-- Words that only a latch shows: TBS_NOW1 to TBS_SHORT, ERR_LOG words 1 to 3, PMC_CNT_HI. -/
def latchOnly (base : Nat) : Bool :=
  base == 0x8014 || base == 0x8018 || base == 0x801C || base == 0x2E204 || base == 0x2E208 || base == 0x2E20C

/-- A read of a word of the MSI-X table or the pending-bit array (11 R322). -/
def Blk.msixWord (b : Blk) (f off : Nat) : Nat :=
  if off < 0x7800 then b.rdW (bank f off)
  else ((List.range 32).map fun i => if (b.evtOf f).pend.contains (32 * ((off - 0x7800) / 4) + i) then 2 ^ i else 0).sum

def isMsix (off : Nat) : Bool := (0x7000 ≤ off && off < 0x7410) || (0x7800 ≤ off && off < 0x7810)

/-- Whether an offset is a register of R433. -/
def isDefined (off : Nat) : Bool := isMsix off || (counterAt? counterRanges off).isSome || (regRow? off).isSome

/-- A read of a defined register of a fitted unit by function f. -/
def Blk.regValue (b : Blk) (nvm : Nvm) (f off : Nat) : Blk × Nat :=
  if isMsix off then (b, b.msixWord f off) else
  match counterAt? counterRanges off with
  | some (lo, _, high) => if high then (b, b.latched f off) else b.ctrRead f lo
  | none =>
    match regRow? off with
    | none => (b, 0)
    | some (row, i) =>
      if latchOnly row.base then (b, b.latched f off)
      else if row.base = 0x8010 then b.nowRead f
      else if row.base = 0xB118 then b.misRead f i
      else if row.base = 0x2E200 then b.errLogRead f i
      else if row.base = 0x1004C then b.gateRead f i
      else if 0x30000 ≤ off then
        if !b.pmcReads f then (b, 0)
        else if row.base = 0x32000 then b.pmcLoRead f i
        else if row.base = 0x32004 then (b, b.latched f off)
        else (b, b.plainWord nvm row f off i)
      else if 0x4000 ≤ off ∧ off < 0x5000 ∧ b.ringOwner ((off - 0x4000) / 0x40) ≠ f then (b, 0)
      else if row.base = 0xC124 ∨ row.base = 0xC13C then (b.pairAll, b.pairAll.plainWord nvm row f off i)
      else (b, b.plainWord nvm row f off i)

/-- Note an access error of a function with an open session (17 R444): the bit number in EVT_ACCERR. -/
def Blk.accErr (b : Blk) (f kind off : Nat) (write : Bool) : Blk :=
  if !b.sesOpen f then b else
    let b := if b.rdW (R.EVT_ACCERR f) = 0 then
        b.wrW (R.EVT_ACCADDR f) (off % 0x100000 + 0x100000 * kind + 0x800000 * b2n write) else b
    b.setF ⟨R.EVT_ACCERR f, kind, 1⟩

/-- A 32-bit read of BAR0 by function f (11 R288, 17 R431, R434). -/
def Blk.readOne (b : Blk) (nvm : Nvm) (f off : Nat) : Blk × Nat :=
  if !b.hostUp then (b, 0)
  else if !b.sesOpen f then (b, if off < 0x2000 && isDefined off then (b.regValue nvm f off).2 else 0)
  else if !isDefined off then (b.accErr f 2 off false, 0)
  else if b.absentAt off then
    (b.accErr f 3 off false,
     if 0x10000 ≤ off ∧ off < 0x20000 ∧ off % 0x800 = 4 ∧ b.gangMember ((off - 0x10000) / 0x800) then 64 else 0)
  else b.regValue nvm f off

/-! ### BAR2 (16 R424, 17 R445) -/

/-- A word of the counter mirror. -/
def Blk.bar2Word (b : Blk) (f off : Nat) : Nat :=
  if !b.pmcReads f then 0
  else if off = 0 then b.shownPmc 0x30004 0
  else if off = 4 then shortOf b.ins.now
  else if 0x40 ≤ off ∧ off < 0x80 then b.shownPmc 0x30040 ((off - 0x40) / 4)
  else if 0x80 ≤ off ∧ off < 0xA0 then b.shownPmc 0x30080 ((off - 0x80) / 4)
  else if 0x1000 ≤ off ∧ off < 0x2000 then
    let v := b.pmcVal ((off - 0x1000) / 8)
    if off % 8 = 0 then v % 0x100000000 else v / 0x100000000
  else if 0x2000 ≤ off ∧ off < 0x2800 then b.rdW (R.PMC_SEL ((off - 0x2000) / 4)) ||| b.shownPmc 0x30800 ((off - 0x2000) / 4)
  else if 0x3000 ≤ off ∧ off < 0x3800 then b.rdW (R.PMC_THR ((off - 0x3000) / 4))
  else 0

/-! ### The commands that latch -/

def execTbsNow0Read (w f : Nat) (s : State) : Host.Outcome State Fault Refusal :=
  s.upd w fun _ b => b.readFor f R.TBS_NOW0 (b.nowRead f)

/-- A read of a counter's low word: `off` is that word's offset; counters of absent units read zero. -/
def Blk.counterRead (b : Blk) (f off : Nat) : Blk :=
  match counterAt? counterRanges off with
  | some (lo, _, false) => if b.absentAt off then b.readFor f off (b.accErr f 3 off false, 0) else b.readFor f off (b.ctrRead f lo)
  | _ => b

def execCounterLoRead (w f off : Nat) (s : State) : Host.Outcome State Fault Refusal :=
  s.upd w fun _ b => b.counterRead f off

def execHldOmisRead (w f u : Nat) (s : State) : Host.Outcome State Fault Refusal :=
  s.upd w fun _ b =>
    if u < 18 then b.readFor f (R.HLD_OMIS u) (if b.unitPresent u then b.misRead f u else (b.accErr f 3 (R.HLD_OMIS u) false, 0))
    else b

end Sys2Proof.Machine
end

