-- ==== Sys2Proof/Machine/RegAccess.lean ====
section
/-! DEFINITION. A BAR request of the host (17 R427 to R438, R444, R445): access rules, privileges, the lock, access errors, and
what a write sets going in the unit that it reaches. -/

namespace Sys2Proof.Machine

/-! ### Who may write (11 R288, R296) -/

/-- Whether function f's write at an offset acts under R288. -/
def Blk.mayWrite (b : Blk) (f off : Nat) : Bool :=
  if 0x1000 ≤ off ∧ off < 0x2000 then true
  else if !b.sesOpen f then false
  else if 0x6000 ≤ off ∧ off < 0x8000 then true
  else if 0x4000 ≤ off ∧ off < 0x5000 then b.ringOwner ((off - 0x4000) / 0x40) == f
  else if off = 0x5010 ∨ off = 0x5020 ∨ off = 0x5024 then true
  else b.setup f

/-- Whether the write of v would change an RWL field that is locked (17 R444). -/
def Blk.lockedDiff (b : Blk) (f off : Nat) (v : Word) : Bool :=
  if b.mode == .commission then false else
  match regRow? off with
  | none => false
  | some (row, i) =>
    if row.base = 0x1004C then
      let a := b.rd (R.PRT_GCL_ADDR_ADDR i)
      decide (a < 520) && tget 0 (b.portOf i).image a != v.toNat
    else
      let old := rfGet b.regs (if row.banked then bank f off else off)
      rowWrite true row off v old != rowWrite false row off v old

/-! ### What follows from a changed setting -/

/-- A slot bound to another source keeps its state; what it has compared belongs to the old source (log entry 88). -/
def Slot.rebound (s : Slot) : Slot :=
  { s with hist := [], yNum := 0, yDen := 0, x := 0, hasX := false, past := [], base := none, label := none, edge := none
           lastSec := none, cmpAt := none, todBad := 0, acc := 65535 }

/-- REF_SRC of a slot has been written. -/
def Blk.srcWritten (old b : Blk) (k : Nat) : Blk :=
  let moved := fieldOf (rfGet old.regs (R.REF_SRC k)) 0 17 != fieldOf (rfGet b.regs (R.REF_SRC k)) 0 17
  let b := if moved then b.setSlot k (b.slotOf k).rebound else b
  ((List.range 24).foldl Blk.slotEval b).refsSettle

/-- The settings of an output unit that its waveform rests on. -/
def Blk.outSetting (b : Blk) (u : Nat) : List Nat :=
  [b.rd (R.HLD_OCFG_KIND u), b.rd (R.HLD_OCFG_CYC_EY u), b.rd (R.HLD_OCFG_PERIOD_S u), b.rdW (R.HLD_OPER u), b.rdW (R.HLD_OFREQ u),
   b.rdW (R.HLD_OFRAC u), b.rdW (R.HLD_OWIDTH u), b.rdW (R.HLD_OOFFS u)]

/-- A changed setting starts the unit again (05 R121). -/
def Blk.outWritten (old b : Blk) (u : Nat) : Blk := if old.outSetting u = b.outSetting u then b else b.unitStart u

/-- PIN_EFN of an Eyelet has been written (06 R133). -/
def Blk.eyeWritten (old b : Blk) (e : Nat) : Blk :=
  if old.eyeFn e = b.eyeFn e then b else ((b.eyeFnSet e).unitStart e).refsSettle

/-- What a plain write sets going, by the register's base and index. -/
def Blk.regFollow (old b : Blk) (base i : Nat) : Blk :=
  if base = 0x2104 ∨ base = 0x10000 ∨ base = 0x10008 then (b.linksSync.refsSettle).txRetry
  else if base = 0xA100 then Blk.srcWritten old b i
  else if 0xA000 ≤ base ∧ base < 0xA400 then b.refsSettle
  else if 0xB100 ≤ base ∧ base < 0xB340 then Blk.outWritten old b i
  else if base = 0xC000 then b.bankCheck
  else if base = 0xC100 then Blk.eyeWritten old b i
  else if base = 0xC114 then b.measSet i
  else if 0x20400 ≤ base ∧ base < 0x20600 then Blk.aclNext old b
  else if base = 0x2A000 then b.refsSettle
  else if 0x2C000 ≤ base ∧ base < 0x2C010 then b.txRetry
  else b

/-! ### Writes by register -/

/-- A write stored whole: SES_HMAC, SES_PROV and LCS_KEY, which the device alone reads back. -/
def Blk.secretWrite (b : Blk) (f off : Nat) (v : Word) : Blk :=
  { b with regs := rfPut b.regs (if off < 0x2000 then bank f off else off) v }

def isSecret (base : Nat) : Bool := base == 0x1040 || base == 0x1090 || base == 0x3040

/-- A write of HRG_CTL: IRQ_EN, then ENABLE as 11 R297. -/
def Blk.ringCtl (b : Blk) (f r : Nat) (v : Word) : Blk :=
  let on := v.toNat % 2 = 1
  let c := b.regWrite f (R.HRG_CTL r) (withField v 0 1 (b.rd (R.HRG_CTL_ENABLE r)))
  if on then c.ringEnable r else c.ringDisable r

/-- A write of EVT_CTL: LOG holds while ENABLE = 1 (11 R322). -/
def Blk.evtCtl (b : Blk) (f : Nat) (v : Word) : Blk :=
  let was := b.flag (R.EVT_CTL_ENABLE f)
  let v1 := withField v 0 1 (b2n was)
  let v2 := if was then withField v1 8 5 (b.rd (R.EVT_CTL_LOG f)) else v1
  let c := b.regWrite f (R.EVT_CTL f) v2
  if v.toNat % 2 = 1 then c.evtEnable f else if was then c.evtStop f else c

/-- A write of SES_CTRL: OPEN, then CLOSE. -/
def Blk.sesCtrl (b : Blk) (nvm : Nvm) (f v : Nat) : Blk :=
  let c := if bitOf v 0 then b.openWritten nvm f else b
  if bitOf v 1 then c.sesClose f 1 else c

/-- A write of SES_PROV_CTL. -/
def provWrite (nvm : Nvm) (b : Blk) (f v : Nat) : Nvm :=
  if bitOf v 0 && nvm.provAllowed f then { nvm with prov := tput nvm.prov f ⟨b.wordBytes (R.SES_PROV f) 8, 0x1FFF⟩ } else nvm

/-- Whether a base or a size is held by its ring's ENABLE (11 R297, R322), or the doorbell page by a ring of the function that is
enabled (R298). -/
def Blk.ringHeld (b : Blk) (f base i : Nat) : Bool :=
  if 0x4000 ≤ base ∧ base ≤ 0x4010 then b.flag (R.HRG_CTL_ENABLE i)
  else if base = 0x6000 ∨ base = 0x6004 then b.flag (R.EVT_CTL_ENABLE f)
  else if base = 0x5020 ∨ base = 0x5024 then
    b.flag (R.EVT_CTL_ENABLE f) || (List.range 64).any fun r => b.ringOwner r == f && b.flag (R.HRG_CTL_ENABLE r)
  else false

/-- A write that reaches the PMC block (16 R420, R423). -/
def Blk.pmcRegWrite (b : Blk) (f base off i : Nat) (v : Word) : Blk :=
  if !b.pmcWrites f then b
  else if base = 0x32000 then b.pmcLoWrite f i v.toNat
  else if base = 0x32004 then b.pmcHiWrite f i v.toNat
  else if base = 0x30040 then
    { b with pmc := { b.pmc with ovf := b.pmc.ovf - (b.pmc.ovf &&& (v.toNat * 2 ^ (32 * i))) } }
  else if base = 0x30080 then
    { b with pmc := { b.pmc with gap := b.pmc.gap - (b.pmc.gap &&& (v.toNat * 2 ^ (32 * i))) } }
  else b.regWrite f off v

/-- A write of PRT_GCL_CTRL. -/
def Blk.gclCtrl (b : Blk) (f p v : Nat) : Blk :=
  let c := if bitOf v 0 then b.gateCommit f p else b
  if bitOf v 1 then c.gateAbort f p else c

/-- A plain write with what follows from it; PERMIT ignores writes while a fault of 15 R399 or R405 holds. -/
def Blk.setWrite (b : Blk) (f base off i : Nat) (v : Word) : Blk :=
  let v := if base = 0x2110 ∧ (b.err.machineFault ∨ b.err.oscLost) then withField v 0 1 (b.rd R.RST_SERVE_PERMIT) else v
  Blk.regFollow b (b.regWrite f off v) base i

/-- A write of HRG_NUDGE: the words that the read brings come with HRG_NUDGE or DOORBELL_POLL (log entry 89). -/
def Blk.nudged (b : Blk) (f : Nat) : Blk := (b.idleRestart f).pmcEvent 0x92 0 1

/-- A write that acts, of a defined register of a fitted unit: fuses and block after it. -/
def writeReg (nvm : Nvm) (b : Blk) (f off : Nat) (v : Word) (row : RegRow) (i : Nat) : Nvm × Blk :=
  let n := v.toNat
  let base := row.base
  if isSecret base then (nvm, b.secretWrite f off v)
  else if base = 0x1000 then (nvm, b.sesCtrl nvm f n)
  else if base = 0x10B0 then (provWrite nvm b f n, b)
  else if base = 0x2000 then (nvm, b.rstCtrl f n)
  else if base = 0x2004 then (nvm, b.rstUnit f n)
  else if base = 0x210C then (nvm, { b with featAbsent := b.featAbsent - (b.featAbsent &&& n) })
  else if base = 0x3008 then (nvm, b.lcsArm nvm f n)
  else if base = 0x300C then lcsGo nvm b f n 0
  else if base = 0x3018 then optCtrl nvm b f n
  else if base = 0x3030 then lcsKeyCtl nvm b f n
  else if b.ringHeld f base i then (nvm, b)
  else if base = 0x4014 then (nvm, b.ringCtl f i v)
  else if base = 0x5010 then (nvm, b.nudged f)
  else if base = 0x6008 then (nvm, b.evtCtl f v)
  else if base = 0x6024 then (nvm, b.gintWrite f n)
  else if base = 0xC008 then
    (nvm, let c := b.setWrite f base off i v; if bitOf n 0 then c.calStart f else c)
  else if base = 0x10040 then (nvm, b.gclCtrl f i n)
  else if base = 0x1004C then (nvm, b.gateWrite f i n)
  else if base = 0x2E010 then (nvm, b.injected f n)
  else if 0x30000 ≤ off then (nvm, b.pmcRegWrite f base off i v)
  else (nvm, b.setWrite f base off i v)

/-- A write of the MSI-X table: reserved bits of the vector control word stay zero; the pending-bit array is read-only. -/
def Blk.msixWrite (b : Blk) (f off : Nat) (v : Word) : Blk :=
  if off < 0x7800 then
    { b with regs := rfPut b.regs (bank f off) (if off % 16 = 12 then withField 0 0 1 v.toNat
      else if off % 16 = 0 then withField v 0 2 0 else v) }
  else b

/-- A 32-bit write of BAR0 by function f; an access that does not act as written is noted (17 R444). -/
def writeOne (nvm : Nvm) (b : Blk) (f off v : Nat) : Nvm × Blk :=
  if !b.hostUp then (nvm, b)
  else if !isDefined off then (nvm, b.accErr f 2 off true)
  else if isMsix off then (nvm, if b.sesOpen f then b.msixWrite f off (BitVec.ofNat 32 v) else b)
  else if b.absentAt off then (nvm, b.accErr f 3 off true)
  else if !b.mayWrite f off then (nvm, b.accErr f 4 off true)
  else match regRow? off with
  | none => (nvm, b)
  | some (row, i) =>
    let word := BitVec.ofNat 32 (b.maskBits off (v % 0x100000000))
    let c := if b.lockedDiff f off word then b.accErr f 5 off true else b
    writeReg nvm c f off word row i

/-! ### A request -/

/-- The four byte enables of dword k. -/
def beOf (be k : Nat) : Nat := be / 16 ^ k % 16

/-- The bytes of a word that byte enables select. -/
def beMask (be v : Nat) : Nat :=
  ((List.range 4).map fun j => if bitOf be j then (v / 256 ^ j % 256) * 256 ^ j else 0).sum

/-- Writes of consecutive dwords, lower address first; a partly selected register is left alone (17 R428). -/
def writeWords (nvm : Nvm) (b : Blk) (f off be : Nat) : List Nat → Nvm × Blk
  | [] => (nvm, b)
  | v :: rest =>
    let r := if be % 16 = 15 then writeOne nvm b f off v
      else if isMsix off || !b.hostUp then (nvm, b) else (nvm, b.accErr f 1 off true)
    writeWords r.1 r.2 f (off + 4) (be / 16) rest

/-- Reads of consecutive dwords, lower address first. -/
def Blk.readWords (b : Blk) (nvm : Nvm) (f off be : Nat) : Nat → Blk × List Nat
  | 0 => (b, [])
  | n + 1 =>
    let r := b.readOne nvm f off
    let s := r.1.readWords nvm f (off + 4) (be / 16) n
    (s.1, beMask (be % 16) r.2 :: s.2)

/-- The words that a completed read returns. -/
def Blk.readOut (b : Blk) (f off : Nat) (ws : List Nat) : Blk := b.put (.readData f off (ws.map fun v => BitVec.ofNat 32 v))

/-- A memory request of function f: to BAR0 at `off`, or to BAR2 at `off` − 2^20. `vals` holds the dwords of a write; of a read, as
many numbers as dwords are asked for. -/
def request (nvm : Nvm) (b : Blk) (f off be : Nat) (write : Bool) (vals : List Nat) : Nvm × Blk :=
  let n := vals.length
  if !b.hostUp then (nvm, b)
  else if 0x100000 ≤ off then
    if write then (nvm, b)
    else (nvm, b.readOut f off ((List.range n).map fun k => b.bar2Word f (off - 0x100000 + 4 * k)))
  else if 3 ≤ n && !isMsix off then
    let c := b.accErr f 0 off write
    (nvm, if write then c else c.readOut f off (List.replicate n 0))
  else if write then writeWords nvm b f off be vals
  else
    let r := b.readWords nvm f off be n
    (nvm, r.1.readOut f off r.2)

def execRegisterWrite (w f off be : Nat) (write : Bool) (vals : List Nat) (s : State) : Host.Outcome State Fault Refusal :=
  s.updN w fun nvm b => request nvm b (f % 4) (off / 4 * 4) be write vals

end Sys2Proof.Machine
end

