-- ==== Sys2Proof/Machine/Dispatch.lean ====
section
/-! DEFINITION. One arm per command: each is one direct call of its meaning. -/

namespace Sys2Proof.Machine

def exec (i : Instr) (s : State) : Host.Outcome State Fault Refusal :=
  match i with
  | .vinPowerOn w on => Sys2Proof.Machine.execVinPowerOn w on s
  | .resetN w on => Sys2Proof.Machine.execResetN w on s
  | .thermalTrip w tj => Sys2Proof.Machine.execThermalTrip w tj s
  | .watchdog w => Sys2Proof.Machine.execWatchdog w s
  | .devReset w f v => Sys2Proof.Machine.execDevReset w f v s
  | .vkeepPowerOn w => Sys2Proof.Machine.execVkeepPowerOn w s
  | .vkeepLost w => Sys2Proof.Machine.execVkeepLost w s
  | .perst w on => Sys2Proof.Machine.execPerst w on s
  | .flr w f => Sys2Proof.Machine.execFlr w f s
  | .benchReset w f index => Sys2Proof.Machine.execBenchReset w f index s
  | .engineReset w f index => Sys2Proof.Machine.execEngineReset w f index s
  | .portReset w f index => Sys2Proof.Machine.execPortReset w f index s
  | .unitResetDone w kind index => Sys2Proof.Machine.execUnitResetDone w kind index s
  | .bootStart w => Sys2Proof.Machine.execBootStart w s
  | .bootStepDone w => Sys2Proof.Machine.execBootStepDone w s
  | .bootStepFail w result lanes0 lanes1 => Sys2Proof.Machine.execBootStepFail w result lanes0 lanes1 s
  | .bootRestart w => Sys2Proof.Machine.execBootRestart w s
  | .cfgFallback w => Sys2Proof.Machine.execCfgFallback w s
  | .oscinLost w => Sys2Proof.Machine.execOscinLost w s
  | .modeRequest w r => Sys2Proof.Machine.execModeRequest w r s
  | .drainDone w => Sys2Proof.Machine.execDrainDone w s
  | .diagnosticExitDone w ok => Sys2Proof.Machine.execDiagnosticExitDone w ok s
  | .lockGained w => Sys2Proof.Machine.execLockGained w s
  | .lockLost w => Sys2Proof.Machine.execLockLost w s
  | .policySetFeatures w r => Sys2Proof.Machine.execPolicySetFeatures w r s
  | .policySetGateList w r img => Sys2Proof.Machine.execPolicySetGateList w r img s
  | .policySetPortLpi w r => Sys2Proof.Machine.execPolicySetPortLpi w r s
  | .awlCal w r => Sys2Proof.Machine.execAwlCal w r s
  | .clientPolicy w r img => Sys2Proof.Machine.execClientPolicy w r img s
  | .serviceAddr w r img => Sys2Proof.Machine.execServiceAddr w r img s
  | .selftest w r buf => Sys2Proof.Machine.execSelftest w r buf s
  | .selftestDone w => Sys2Proof.Machine.execSelftestDone w s
  | .tbsNow0Read w f => Sys2Proof.Machine.execTbsNow0Read w f s
  | .keepRtcLoad w => Sys2Proof.Machine.execKeepRtcLoad w s
  | .leapInstall w r => Sys2Proof.Machine.execLeapInstall w r s
  | .leapCancel w r => Sys2Proof.Machine.execLeapCancel w r s
  | .leapWarnStart w => Sys2Proof.Machine.execLeapWarnStart w s
  | .smearSample w => Sys2Proof.Machine.execSmearSample w s
  | .smearEnd w => Sys2Proof.Machine.execSmearEnd w s
  | .timeAdjustOffset w r => Sys2Proof.Machine.execTimeAdjustOffset w r s
  | .timeAdjustSet w r => Sys2Proof.Machine.execTimeAdjustSet w r s
  | .slewCancel w r => Sys2Proof.Machine.execSlewCancel w r s
  | .slewDone w => Sys2Proof.Machine.execSlewDone w s
  | .lasterArm w r block => Sys2Proof.Machine.execLasterArm w r block s
  | .lasterCancel w r => Sys2Proof.Machine.execLasterCancel w r s
  | .lasterSpillFill w ix => Sys2Proof.Machine.execLasterSpillFill w ix s
  | .lasterIssue w ix => Sys2Proof.Machine.execLasterIssue w ix s
  | .launchEntry w ix => Sys2Proof.Machine.execLaunchEntry w ix s
  | .gateListEntry w ix dev => Sys2Proof.Machine.execGateListEntry w ix dev s
  | .outputOn w ix => Sys2Proof.Machine.execOutputOn w ix s
  | .outputOff w ix => Sys2Proof.Machine.execOutputOff w ix s
  | .captureOpen w ix => Sys2Proof.Machine.execCaptureOpen w ix s
  | .captureClose w ix => Sys2Proof.Machine.execCaptureClose w ix s
  | .outEdge w u => Sys2Proof.Machine.execOutEdge w u s
  | .keyRoll w n expiry => Sys2Proof.Machine.execKeyRoll w n expiry s
  | .leapEntry w => Sys2Proof.Machine.execLeapEntry w s
  | .adjustEntry w ix => Sys2Proof.Machine.execAdjustEntry w ix s
  | .holdCheck w => Sys2Proof.Machine.execHoldCheck w s
  | .ptpSweep w p n client => Sys2Proof.Machine.execPtpSweep w p n client s
  | .hostEvent w ix => Sys2Proof.Machine.execHostEvent w ix s
  | .synth w e => Sys2Proof.Machine.execSynth w e s
  | .gnssMessage w slot bytes => Sys2Proof.Machine.execGnssMessage w slot bytes s
  | .refComparison w slot t tRef => Sys2Proof.Machine.execRefComparison w slot t tRef s
  | .refEvalTick w slot missed => Sys2Proof.Machine.execRefEvalTick w slot missed s
  | .qualTimerExpire w slot => Sys2Proof.Machine.execQualTimerExpire w slot s
  | .wtrTimerExpire w slot => Sys2Proof.Machine.execWtrTimerExpire w slot s
  | .sentinelRound w => Sys2Proof.Machine.execSentinelRound w s
  | .ensembleUpdate w => Sys2Proof.Machine.execEnsembleUpdate w s
  | .acqNarrow w => Sys2Proof.Machine.execAcqNarrow w s
  | .refForce w r => Sys2Proof.Machine.execRefForce w r s
  | .refRelease w r => Sys2Proof.Machine.execRefRelease w r s
  | .refLockout w r => Sys2Proof.Machine.execRefLockout w r s
  | .refClear w r => Sys2Proof.Machine.execRefClear w r s
  | .refClearWtr w r => Sys2Proof.Machine.execRefClearWtr w r s
  | .refSetPrio w r => Sys2Proof.Machine.execRefSetPrio w r s
  | .refAcceptPath w r => Sys2Proof.Machine.execRefAcceptPath w r s
  | .refSetBw w r => Sys2Proof.Machine.execRefSetBw w r s
  | .refSetMode w r => Sys2Proof.Machine.execRefSetMode w r s
  | .tempSample w ok t => Sys2Proof.Machine.execTempSample w ok t s
  | .heelLearnSample w => Sys2Proof.Machine.execHeelLearnSample w s
  | .outputRealign w r => Sys2Proof.Machine.execOutputRealign w r s
  | .realignStart w u => Sys2Proof.Machine.execRealignStart w u s
  | .realignDone w u => Sys2Proof.Machine.execRealignDone w u s
  | .firstAlign w u => Sys2Proof.Machine.execFirstAlign w u s
  | .eyeletEdge w e high held pos phase => Sys2Proof.Machine.execEyeletEdge w e high held pos phase s
  | .mismatch w sensed => Sys2Proof.Machine.execMismatch w sensed s
  | .stuckOn w e => Sys2Proof.Machine.execStuckOn w e s
  | .chatOff w e => Sys2Proof.Machine.execChatOff w e s
  | .nostop w e => Sys2Proof.Machine.execNostop w e s
  | .freqGateEnd w e => Sys2Proof.Machine.execFreqGateEnd w e s
  | .tbLost w back => Sys2Proof.Machine.execTbLost w back s
  | .tbBack w => Sys2Proof.Machine.execTbBack w s
  | .awlRecordDeliver w e => Sys2Proof.Machine.execAwlRecordDeliver w e s
  | .pinStart w f => Sys2Proof.Machine.execPinStart w f s
  | .calPeriodic w tj => Sys2Proof.Machine.execCalPeriodic w tj s
  | .calStepDone w edge diff dly => Sys2Proof.Machine.execCalStepDone w edge diff dly s
  | .frameReceived w p bs age var bad => Sys2Proof.Machine.execFrameReceived w p bs age var bad s
  | .linkChange w p lock fec aligned localFault remoteFault lpi => Sys2Proof.Machine.execLinkChange w p lock fec aligned localFault remoteFault lpi s
  | .pauseExpire w p => Sys2Proof.Machine.execPauseExpire w p s
  | .storm w p => Sys2Proof.Machine.execStorm w p s
  | .stormEnd w p => Sys2Proof.Machine.execStormEnd w p s
  | .frameStart w p => Sys2Proof.Machine.execFrameStart w p s
  | .lpiEnter w p => Sys2Proof.Machine.execLpiEnter w p s
  | .lpiWake w p => Sys2Proof.Machine.execLpiWake w p s
  | .qlTimeout w p => Sys2Proof.Machine.execQlTimeout w p s
  | .esmcTx w p => Sys2Proof.Machine.execEsmcTx w p s
  | .gclCommit w f p => Sys2Proof.Machine.execGclCommit w f p s
  | .gclAbort w f p => Sys2Proof.Machine.execGclAbort w f p s
  | .prtGclDataAccess w f p write v => Sys2Proof.Machine.execPrtGclDataAccess w f p write v s
  | .txFrame w r data => Sys2Proof.Machine.execTxFrame w r data s
  | .txFrameDone w => Sys2Proof.Machine.execTxFrameDone w s
  | .rxBuffer w r => Sys2Proof.Machine.execRxBuffer w r s
  | .excDeliver w => Sys2Proof.Machine.execExcDeliver w s
  | .dispatchAssign w => Sys2Proof.Machine.execDispatchAssign w s
  | .engineInvoke w lane hit => Sys2Proof.Machine.execEngineInvoke w lane hit s
  | .bucketArrive w lane => Sys2Proof.Machine.execBucketArrive w lane s
  | .patternReturn w lane code instr scratch => Sys2Proof.Machine.execPatternReturn w lane code instr scratch s
  | .overrun w lane instr scratch => Sys2Proof.Machine.execOverrun w lane instr scratch s
  | .bucketLeaseExpire w lane => Sys2Proof.Machine.execBucketLeaseExpire w lane s
  | .closerCommit w p => Sys2Proof.Machine.execCloserCommit w p s
  | .fairEpoch w => Sys2Proof.Machine.execFairEpoch w s
  | .ageShed w => Sys2Proof.Machine.execAgeShed w s
  | .ageingScan w => Sys2Proof.Machine.execAgeingScan w s
  | .ctLookup w r => Sys2Proof.Machine.execCtLookup w r s
  | .ctUpsert w r => Sys2Proof.Machine.execCtUpsert w r s
  | .ctDelete w r => Sys2Proof.Machine.execCtDelete w r s
  | .ctResetCounts w r => Sys2Proof.Machine.execCtResetCounts w r s
  | .ctFlush w r => Sys2Proof.Machine.execCtFlush w r s
  | .ctScanNow w r => Sys2Proof.Machine.execCtScanNow w r s
  | .patternLoad w r img => Sys2Proof.Machine.execPatternLoad w r img s
  | .benchDrained w parity => Sys2Proof.Machine.execBenchDrained w parity s
  | .keyInstall w r blk => Sys2Proof.Machine.execKeyInstall w r blk s
  | .keyRetire w r => Sys2Proof.Machine.execKeyRetire w r s
  | .keyEmpty w n => Sys2Proof.Machine.execKeyEmpty w n s
  | .aged w k => Sys2Proof.Machine.execAged w k s
  | .resealStart w lane => Sys2Proof.Machine.execResealStart w lane s
  | .grantExpire w ix msg => Sys2Proof.Machine.execGrantExpire w ix msg s
  | .clientRenew w p m msg => Sys2Proof.Machine.execClientRenew w p m msg s
  | .announceTimeout w p who => Sys2Proof.Machine.execAnnounceTimeout w p who s
  | .followUp w => Sys2Proof.Machine.execFollowUp w s
  | .maxResExpire w p id => Sys2Proof.Machine.execMaxResExpire w p id s
  | .asymEstimateDone w p => Sys2Proof.Machine.execAsymEstimateDone w p s
  | .sesOpen w f => Sys2Proof.Machine.execSesOpen w f s
  | .sessionVerifyDone w f => Sys2Proof.Machine.execSessionVerifyDone w f s
  | .sesClose w f => Sys2Proof.Machine.execSesClose w f s
  | .lockoutEnd w f => Sys2Proof.Machine.execLockoutEnd w f s
  | .idleTimeout w f => Sys2Proof.Machine.execIdleTimeout w f s
  | .sesProvLoad w f => Sys2Proof.Machine.execSesProvLoad w f s
  | .ringEnable w r => Sys2Proof.Machine.execRingEnable w r s
  | .ringDisable w r => Sys2Proof.Machine.execRingDisable w r s
  | .doorbellPoll w vals lost => Sys2Proof.Machine.execDoorbellPoll w vals lost s
  | .hrgNudge w f vals => Sys2Proof.Machine.execHrgNudge w f vals s
  | .descriptorFetch w r data => Sys2Proof.Machine.execDescriptorFetch w r data s
  | .eventRingEnable w f => Sys2Proof.Machine.execEventRingEnable w f s
  | .anchor w => Sys2Proof.Machine.execAnchor w s
  | .interrupt w f v => Sys2Proof.Machine.execInterrupt w f v s
  | .statsSnapshot w r => Sys2Proof.Machine.execStatsSnapshot w r s
  | .lcsArm w f v => Sys2Proof.Machine.execLcsArm w f v s
  | .lcsGo w f v stop => Sys2Proof.Machine.execLcsGo w f v stop s
  | .lcsKeyInstall w f v => Sys2Proof.Machine.execLcsKeyInstall w f v s
  | .lcsKeyErase w f v => Sys2Proof.Machine.execLcsKeyErase w f v s
  | .optWriteStart w f copyB => Sys2Proof.Machine.execOptWriteStart w f copyB s
  | .optWriteDone w bytes fault => Sys2Proof.Machine.execOptWriteDone w bytes fault s
  | .raiseSvn w f => Sys2Proof.Machine.execRaiseSvn w f s
  | .weltLinkUp w => Sys2Proof.Machine.execWeltLinkUp w s
  | .weltLinkLost w fails => Sys2Proof.Machine.execWeltLinkLost w fails s
  | .arbTest w ok => Sys2Proof.Machine.execArbTest w ok s
  | .attachAttempt w peer => Sys2Proof.Machine.execAttachAttempt w peer s
  | .attachRetry w peer => Sys2Proof.Machine.execAttachRetry w peer s
  | .mirrorApply w item => Sys2Proof.Machine.execMirrorApply w item s
  | .mirrorCreditTimeout w full => Sys2Proof.Machine.execMirrorCreditTimeout w full s
  | .mirrorSync w => Sys2Proof.Machine.execMirrorSync w s
  | .markerTx w => Sys2Proof.Machine.execMarkerTx w s
  | .markerRx w age mode status have4 t1 t4 => Sys2Proof.Machine.execMarkerRx w age mode status have4 t1 t4 s
  | .failBlockRx w handover => Sys2Proof.Machine.execFailBlockRx w handover s
  | .twarbBChange w level => Sys2Proof.Machine.execTwarbBChange w level s
  | .takeover w => Sys2Proof.Machine.execTakeover w s
  | .twinAttach w r => Sys2Proof.Machine.execTwinAttach w r s
  | .attachTimeout w => Sys2Proof.Machine.execAttachTimeout w s
  | .twinDetach w r peer => Sys2Proof.Machine.execTwinDetach w r peer s
  | .twinSwitchover w r => Sys2Proof.Machine.execTwinSwitchover w r s
  | .twinSetKey w r blk => Sys2Proof.Machine.execTwinSetKey w r blk s
  | .twinResetPeer w r => Sys2Proof.Machine.execTwinResetPeer w r s
  | .twinCommandedReset w => Sys2Proof.Machine.execTwinCommandedReset w s
  | .twinStatus w r => Sys2Proof.Machine.execTwinStatus w r s
  | .hostStall w => Sys2Proof.Machine.execHostStall w s
  | .storeTimeout w lane => Sys2Proof.Machine.execStoreTimeout w lane s
  | .egExpire w => Sys2Proof.Machine.execEgExpire w s
  | .txwExpire w => Sys2Proof.Machine.execTxwExpire w s
  | .errorRaised w code unit detail item => Sys2Proof.Machine.execErrorRaised w code unit detail item s
  | .errorHandlingDone w => Sys2Proof.Machine.execErrorHandlingDone w s
  | .goInject w f v => Sys2Proof.Machine.execGoInject w f v s
  | .errLogRead w f ix => Sys2Proof.Machine.execErrLogRead w f ix s
  | .counterLoRead w f off => Sys2Proof.Machine.execCounterLoRead w f off s
  | .hldOmisRead w f u => Sys2Proof.Machine.execHldOmisRead w f u s
  | .pmcCntLoRead w f ix => Sys2Proof.Machine.execPmcCntLoRead w f ix s
  | .pmcCntHiWrite w f ix v => Sys2Proof.Machine.execPmcCntHiWrite w f ix v s
  | .pmcCntLoWrite w f ix v => Sys2Proof.Machine.execPmcCntLoWrite w f ix v s
  | .pmcWrap w ix n engine entry offset idle => Sys2Proof.Machine.execPmcWrap w ix n engine entry offset idle s
  | .gsumReport w f => Sys2Proof.Machine.execGsumReport w f s
  | .evtGintEnWrite w f v => Sys2Proof.Machine.execEvtGintEnWrite w f v s
  | .registerWrite w f off be write vals => Sys2Proof.Machine.execRegisterWrite w f off be write vals s
  | .startupOscillatorLost w => Sys2Proof.Machine.execStartupOscillatorLost w s
  | .pcieCompletionTimeout w r => Sys2Proof.Machine.execPcieCompletionTimeout w r s
  | .clientTableLockTimeout w => Sys2Proof.Machine.execClientTableLockTimeout w s
  | .ctFlushDone w => Sys2Proof.Machine.execCtFlushDone w s
  | .ctScanDone w => Sys2Proof.Machine.execCtScanDone w s
  | .bothClaimSettle w => Sys2Proof.Machine.execBothClaimSettle w s

end Sys2Proof.Machine
end

