-- ==== Sys2Proof/WellFormed.lean ====
section
/-! DEFINITION. Well-formed commands: every operand lies in the range of what it names. A command of any other operands still has
a meaning, the one that the spec gives an absent unit or a reserved code; the checks say which operands the outside can send. -/

namespace Sys2Proof

/-- A PCIe function, F0 to F3 (11 R287). -/
def fnOk (f : Nat) : Bool := decide (f < 4)
/-- A ring pair (11 R296). -/
def ringOk (r : Nat) : Bool := decide (r < 64)
/-- A port: a lane P0 to P31 (07 R158). -/
def portOk (p : Nat) : Bool := decide (p < 32)
/-- An Eyelet, EY0 to EY15 (06 R133). -/
def eyeletOk (e : Nat) : Bool := decide (e < 16)
/-- An output unit (05 R121): of an Eyelet, or CLKOUT0 and CLKOUT1. -/
def outOk (u : Nat) : Bool := decide (u < 18)
/-- A reference slot (04 R79). -/
def slotOk (k : Nat) : Bool := decide (k < 24)
/-- A Lane: engine times 4 plus the Lane of the engine (01 R9). -/
def laneOk (n : Nat) : Bool := decide (n < 256)
/-- A Laster entry (03 R61). -/
def entryOk (i : Nat) : Bool := decide (i < 4096)
/-- A Stitcher context: Stitcher times 128 plus its index (09 R232). -/
def ctxOk (k : Nat) : Bool := decide (k < 1024)
/-- An epoch slot (09 R245). -/
def epochOk (n : Nat) : Bool := decide (n < 4)
/-- An entry of ERR_LOG (15 R400). -/
def errLogOk (i : Nat) : Bool := decide (i < 32)
/-- A performance counter (16 R410). -/
def pmcOk (i : Nat) : Bool := decide (i < 512)
/-- A register word (17 R427). -/
def wordOk (v : Nat) : Bool := decide (v < 0x100000000)
/-- A value of one byte. -/
def byteOk (v : Nat) : Bool := decide (v < 256)
/-- KIND and INDEX of a unit reset (14 R368). -/
def unitOk (kind index : Nat) : Bool :=
  (kind == 1 && decide (index < 4)) || (kind == 2 && decide (index < 64)) || (kind == 3 && decide (index < 32))
/-- A RESULT of a failed boot step (14 R380). -/
def resultOk (v : Nat) : Bool := decide (1 ≤ v ∧ v ≤ 5)
/-- A level of VEY as sensed, 3 for none (06 R132). -/
def sensedOk (v : Nat) : Bool := decide (v < 4)
/-- What the fuses did (14 R384). -/
def stopOk (v : Nat) : Bool := decide (v < 3)
/-- A fault of an image write (14 R379): none, or RESULT 6 or 7. -/
def imageFaultOk (v : Nat) : Bool := v == 0 || v == 6 || v == 7
/-- A message type of a unicast grant (10 R274): Sync, Pdelay_Resp, Delay_Resp, Announce. -/
def grantMsgOk (v : Nat) : Bool := v == 0 || v == 3 || v == 9 || v == 11
/-- A master entry (10 R284). -/
def masterOk (m : Nat) : Bool := decide (m < 32)
/-- A PTP instance (10 R266), or 8 for the client. -/
def roleOk (w : Nat) : Bool := decide (w < 4) || w == 8
/-- An MSI-X vector: the event ring or a ring pair (11 R315). -/
def vectorOk (v : Nat) : Bool := decide (v < 65)
/-- A data block or a frame no longer than the largest that the spec lets stand there (11 R305), or that a port can bring. -/
def blockOk (n : Nat) (bs : Bytes) : Bool := decide (bs.length ≤ n)
/-- A descriptor is 32 bytes (11 R303); nothing where the read fails. -/
def descOk (bs : Bytes) : Bool := bs.isEmpty || bs.length == 32
/-- The words of the doorbell slots. -/
def wordsOk (vs : List Nat) : Bool := vs.all wordOk
/-- A BAR access (17 R427, R428): an aligned offset within BAR0 or BAR2. -/
def offOk (off : Nat) : Bool := off % 4 == 0 && decide (off < 0x200000)
/-- A mode's code (02 R24). -/
def modeOk (m : Nat) : Bool := decide (m < 8)
/-- A 4-bit status of a marker block (12 R334). -/
def statusOk (v : Nat) : Bool := decide (v < 256)

/-- Whether the operands of a command lie in their ranges. -/
def Instr.wf (c : Instr) : Bool :=
  match c with
  | .vinPowerOn _ _ => true
  | .resetN _ _ => true
  | .thermalTrip _ _ => true
  | .watchdog _ => true
  | .devReset _ f v => fnOk f && wordOk v
  | .vkeepPowerOn _ => true
  | .vkeepLost _ => true
  | .perst _ _ => true
  | .flr _ f => fnOk f
  | .benchReset _ f index => unitOk 1 index && fnOk f
  | .engineReset _ f index => unitOk 2 index && fnOk f
  | .portReset _ f index => unitOk 3 index && fnOk f
  | .unitResetDone _ kind index => unitOk kind index
  | .bootStart _ => true
  | .bootStepDone _ => true
  | .bootStepFail _ result lanes0 lanes1 => resultOk result && wordOk lanes0 && decide (lanes1 < 4)
  | .bootRestart _ => true
  | .cfgFallback _ => true
  | .oscinLost _ => true
  | .modeRequest _ r => ringOk r
  | .drainDone _ => true
  | .diagnosticExitDone _ _ => true
  | .lockGained _ => true
  | .lockLost _ => true
  | .policySetFeatures _ r => ringOk r
  | .policySetGateList _ r _ => ringOk r
  | .policySetPortLpi _ r => ringOk r
  | .awlCal _ r => ringOk r
  | .clientPolicy _ r _ => ringOk r
  | .serviceAddr _ r _ => ringOk r
  | .selftest _ r buf => ringOk r && blockOk 4096 buf
  | .selftestDone _ => true
  | .tbsNow0Read _ f => fnOk f
  | .keepRtcLoad _ => true
  | .leapInstall _ r => ringOk r
  | .leapCancel _ r => ringOk r
  | .leapWarnStart _ => true
  | .smearSample _ => true
  | .smearEnd _ => true
  | .timeAdjustOffset _ r => ringOk r
  | .timeAdjustSet _ r => ringOk r
  | .slewCancel _ r => ringOk r
  | .slewDone _ => true
  | .lasterArm _ r block => ringOk r && blockOk 64 block
  | .lasterCancel _ r => ringOk r
  | .lasterSpillFill _ i => entryOk i
  | .lasterIssue _ i => entryOk i
  | .launchEntry _ i => entryOk i
  | .gateListEntry _ i _ => entryOk i
  | .outputOn _ i => entryOk i
  | .outputOff _ i => entryOk i
  | .captureOpen _ i => entryOk i
  | .captureClose _ i => entryOk i
  | .outEdge _ u => outOk u
  | .keyRoll _ n _ => epochOk n
  | .leapEntry _ => true
  | .adjustEntry _ i => entryOk i
  | .holdCheck _ => true
  | .ptpSweep _ p _ _ => portOk p
  | .hostEvent _ i => entryOk i
  | .synth _ e => eyeletOk e
  | .gnssMessage _ slot _ => slotOk slot
  | .refComparison _ slot _ _ => slotOk slot
  | .refEvalTick _ slot _ => slotOk slot
  | .qualTimerExpire _ slot => slotOk slot
  | .wtrTimerExpire _ slot => slotOk slot
  | .sentinelRound _ => true
  | .ensembleUpdate _ => true
  | .acqNarrow _ => true
  | .refForce _ r => ringOk r
  | .refRelease _ r => ringOk r
  | .refLockout _ r => ringOk r
  | .refClear _ r => ringOk r
  | .refClearWtr _ r => ringOk r
  | .refSetPrio _ r => ringOk r
  | .refAcceptPath _ r => ringOk r
  | .refSetBw _ r => ringOk r
  | .refSetMode _ r => ringOk r
  | .tempSample _ _ _ => true
  | .heelLearnSample _ => true
  | .outputRealign _ r => ringOk r
  | .realignStart _ u => outOk u
  | .realignDone _ u => outOk u
  | .firstAlign _ u => outOk u
  | .eyeletEdge _ e _ _ _ _ => eyeletOk e
  | .mismatch _ sensed => sensedOk sensed
  | .stuckOn _ e => eyeletOk e
  | .chatOff _ e => eyeletOk e
  | .nostop _ e => eyeletOk e
  | .freqGateEnd _ e => eyeletOk e
  | .tbLost _ _ => true
  | .tbBack _ => true
  | .awlRecordDeliver _ e => eyeletOk e
  | .pinStart _ f => fnOk f
  | .calPeriodic _ _ => true
  | .calStepDone _ _ _ _ => true
  | .frameReceived _ p bs _ _ _ => portOk p && blockOk 65535 bs
  | .linkChange _ p _ _ _ _ _ _ => portOk p
  | .pauseExpire _ p => portOk p
  | .storm _ p => portOk p
  | .stormEnd _ p => portOk p
  | .frameStart _ p => portOk p
  | .lpiEnter _ p => portOk p
  | .lpiWake _ p => portOk p
  | .qlTimeout _ p => portOk p
  | .esmcTx _ p => portOk p
  | .gclCommit _ f p => fnOk f && portOk p
  | .gclAbort _ f p => fnOk f && portOk p
  | .prtGclDataAccess _ f p _ v => fnOk f && portOk p && wordOk v
  | .txFrame _ r _ => ringOk r
  | .txFrameDone _ => true
  | .rxBuffer _ r => ringOk r
  | .excDeliver _ => true
  | .dispatchAssign _ => true
  | .engineInvoke _ lane _ => laneOk lane
  | .bucketArrive _ lane => laneOk lane
  | .patternReturn _ lane code _ _ => laneOk lane && byteOk code
  | .overrun _ lane _ _ => laneOk lane
  | .bucketLeaseExpire _ lane => laneOk lane
  | .closerCommit _ p => portOk p
  | .fairEpoch _ => true
  | .ageShed _ => true
  | .ageingScan _ => true
  | .ctLookup _ r => ringOk r
  | .ctUpsert _ r => ringOk r
  | .ctDelete _ r => ringOk r
  | .ctResetCounts _ r => ringOk r
  | .ctFlush _ r => ringOk r
  | .ctScanNow _ r => ringOk r
  | .patternLoad _ r _ => ringOk r
  | .benchDrained _ _ => true
  | .keyInstall _ r blk => ringOk r && blockOk 96 blk
  | .keyRetire _ r => ringOk r
  | .keyEmpty _ n => epochOk n
  | .aged _ k => ctxOk k
  | .resealStart _ lane => laneOk lane
  | .grantExpire _ _ msg => grantMsgOk msg
  | .clientRenew _ p m msg => portOk p && masterOk m && grantMsgOk msg
  | .announceTimeout _ p who => portOk p && roleOk who
  | .followUp _ => true
  | .maxResExpire _ p _ => portOk p
  | .asymEstimateDone _ p => portOk p
  | .sesOpen _ f => fnOk f
  | .sessionVerifyDone _ f => fnOk f
  | .sesClose _ f => fnOk f
  | .lockoutEnd _ f => fnOk f
  | .idleTimeout _ f => fnOk f
  | .sesProvLoad _ f => fnOk f
  | .ringEnable _ r => ringOk r
  | .ringDisable _ r => ringOk r
  | .doorbellPoll _ vals lost => wordsOk vals && lost.all ringOk
  | .hrgNudge _ f vals => fnOk f && wordsOk vals
  | .descriptorFetch _ r data => ringOk r && descOk data
  | .eventRingEnable _ f => fnOk f
  | .anchor _ => true
  | .interrupt _ f v => fnOk f && vectorOk v
  | .statsSnapshot _ r => ringOk r
  | .lcsArm _ f v => fnOk f && wordOk v
  | .lcsGo _ f v stop => fnOk f && wordOk v && stopOk stop
  | .lcsKeyInstall _ f v => fnOk f && wordOk v
  | .lcsKeyErase _ f v => fnOk f && wordOk v
  | .optWriteStart _ f _ => fnOk f
  | .optWriteDone _ _ fault => imageFaultOk fault
  | .raiseSvn _ f => fnOk f
  | .weltLinkUp _ => true
  | .weltLinkLost _ _ => true
  | .arbTest _ _ => true
  | .attachAttempt _ _ => true
  | .attachRetry _ _ => true
  | .mirrorApply _ _ => true
  | .mirrorCreditTimeout _ _ => true
  | .mirrorSync _ => true
  | .markerTx _ => true
  | .markerRx _ _ mode status _ _ _ => modeOk mode && statusOk status
  | .failBlockRx _ _ => true
  | .twarbBChange _ _ => true
  | .takeover _ => true
  | .twinAttach _ r => ringOk r
  | .attachTimeout _ => true
  | .twinDetach _ r _ => ringOk r
  | .twinSwitchover _ r => ringOk r
  | .twinSetKey _ r blk => ringOk r && blockOk 40 blk
  | .twinResetPeer _ r => ringOk r
  | .twinCommandedReset _ => true
  | .twinStatus _ r => ringOk r
  | .hostStall _ => true
  | .storeTimeout _ lane => laneOk lane
  | .egExpire _ => true
  | .txwExpire _ => true
  | .errorRaised _ code unit detail _ => byteOk code && byteOk unit && wordOk detail
  | .errorHandlingDone _ => true
  | .goInject _ f v => fnOk f && wordOk v
  | .errLogRead _ f i => fnOk f && errLogOk i
  | .counterLoRead _ f off => fnOk f && offOk off
  | .hldOmisRead _ f u => fnOk f && outOk u
  | .pmcCntLoRead _ f i => fnOk f && pmcOk i
  | .pmcCntHiWrite _ f i v => fnOk f && pmcOk i && wordOk v
  | .pmcCntLoWrite _ f i v => fnOk f && pmcOk i && wordOk v
  | .pmcWrap _ i _ engine _ _ _ => pmcOk i && decide (engine < 64)
  | .gsumReport _ f => fnOk f
  | .evtGintEnWrite _ f v => fnOk f && wordOk v
  | .registerWrite _ f off be _ vals => fnOk f && offOk off && decide (be < 16 ^ vals.length) && wordsOk vals
  | .startupOscillatorLost _ => true
  | .pcieCompletionTimeout _ r => ringOk r
  | .clientTableLockTimeout _ => true
  | .ctFlushDone _ => true
  | .ctScanDone _ => true
  | .bothClaimSettle _ => true

end Sys2Proof
end

