-- ==== Sys2Proof/Safety.lean ====
section
/-! DEFINITION. The terms in which claims speak: the pieces of the block and frames over them, what it means that a command
runs, and what the fuses and the option store must satisfy. -/

namespace Sys2Proof.Machine

/-! ### Frames -/

/-- The pieces of the block, one for each field of `Blk`. -/
inductive Piece where
  | part | up | freeCtr | out | regs | ctr | latch | mode | lastMode | entryCause | holdExpired | modeReq | rst | boot | lcs | ses | rings | evts | err
  | pmc | ins | laster | refs | heel | hold | outs | eyes | ports | clk | ct | eng | nts | ptp | twin | flow | featAbsent | tj
  deriving DecidableEq, Repr

/-- Two blocks agree on a piece. -/
def Piece.same (p : Piece) (a b : Blk) : Prop :=
  match p with
  | .part => b.part = a.part
  | .up => b.up = a.up
  | .freeCtr => b.freeCtr = a.freeCtr
  | .out => b.out = a.out
  | .regs => b.regs = a.regs
  | .ctr => b.ctr = a.ctr
  | .latch => b.latch = a.latch
  | .mode => b.mode = a.mode
  | .lastMode => b.lastMode = a.lastMode
  | .entryCause => b.entryCause = a.entryCause
  | .holdExpired => b.holdExpired = a.holdExpired
  | .modeReq => b.modeReq = a.modeReq
  | .rst => b.rst = a.rst
  | .boot => b.boot = a.boot
  | .lcs => b.lcs = a.lcs
  | .ses => b.ses = a.ses
  | .rings => b.rings = a.rings
  | .evts => b.evts = a.evts
  | .err => b.err = a.err
  | .pmc => b.pmc = a.pmc
  | .ins => b.ins = a.ins
  | .laster => b.laster = a.laster
  | .refs => b.refs = a.refs
  | .heel => b.heel = a.heel
  | .hold => b.hold = a.hold
  | .outs => b.outs = a.outs
  | .eyes => b.eyes = a.eyes
  | .ports => b.ports = a.ports
  | .clk => b.clk = a.clk
  | .ct => b.ct = a.ct
  | .eng => b.eng = a.eng
  | .nts => b.nts = a.nts
  | .ptp => b.ptp = a.ptp
  | .twin => b.twin = a.twin
  | .flow => b.flow = a.flow
  | .featAbsent => b.featAbsent = a.featAbsent
  | .tj => b.tj = a.tj

/-- From `a` to `b` nothing has changed outside the pieces named. -/
def Frame (ps : List Piece) (a b : Blk) : Prop := ∀ p, p ∉ ps → p.same a b

/-! ### What each command may touch -/

/-- Every piece. -/
def Piece.all : List Piece :=
  [.part, .up, .freeCtr, .out, .regs, .ctr, .latch, .mode, .lastMode, .entryCause, .holdExpired, .modeReq, .rst, .boot,
   .lcs, .ses, .rings, .evts, .err, .pmc, .ins, .laster, .refs, .heel, .hold, .outs, .eyes, .ports, .clk, .ct, .eng,
   .nts, .ptp, .twin, .flow, .featAbsent, .tj]

/-- Every piece but these. -/
def allBut (l : List Piece) : List Piece := Piece.all.filter fun p => !l.contains p

/-- The pieces that a completed descriptor changes (11 R301). -/
def completing (l : List Piece) : List Piece := [.out, .rings, .pmc, .flow] ++ l

/-- The pieces outside which a command changes nothing, whatever its operands and the state it meets. -/
def touches (c : Instr) : List Piece :=
  match c with
  | .vinPowerOn .. => allBut [.part, .up, .out, .tj]
  | .resetN .. => allBut [.part, .up, .out, .tj]
  | .thermalTrip .. => allBut [.part, .up, .out]
  | .watchdog .. => allBut [.part, .up, .out, .tj]
  | .devReset .. => allBut [.part, .up, .out, .tj]
  | .vkeepPowerOn .. => [.regs, .rst]
  | .vkeepLost .. => [.regs, .rst]
  | .perst .. => [.freeCtr, .regs, .rst, .ses, .rings, .evts, .clk, .ct, .flow]
  | .flr .. => [.freeCtr, .regs, .ses, .rings, .evts, .clk, .ct, .flow]
  | .benchReset .. => allBut [.part, .up, .latch, .lcs, .heel, .hold, .outs, .featAbsent, .tj]
  | .engineReset .. => allBut [.part, .up, .latch, .lcs, .heel, .hold, .outs, .featAbsent, .tj]
  | .portReset .. => allBut [.part, .up, .latch, .lcs, .heel, .hold, .outs, .featAbsent, .tj]
  | .unitResetDone .. => allBut [.part, .up, .latch, .lcs, .heel, .hold, .outs, .featAbsent, .tj]
  | .bootStart .. => [.out, .regs, .mode, .lastMode, .entryCause, .holdExpired, .rst, .boot, .evts, .twin]
  | .bootStepDone .. => allBut [.part, .up, .latch, .featAbsent, .tj]
  | .bootStepFail .. => allBut [.part, .up, .freeCtr, .latch, .modeReq, .rst, .lcs, .ses, .err, .ins, .outs, .eyes, .clk, .ct, .eng, .ptp, .featAbsent, .tj]
  | .bootRestart .. => [.regs, .boot, .ins, .laster, .refs, .heel, .hold, .outs, .eyes, .ct, .eng]
  | .cfgFallback .. => allBut [.part, .up, .tj]
  | .oscinLost .. => allBut [.part, .up, .latch, .lcs, .heel, .hold, .outs, .featAbsent, .tj]
  | .modeRequest .. => allBut [.part, .up, .freeCtr, .latch, .rst, .boot, .lcs, .ses, .err, .ins, .outs, .eyes, .ptp, .featAbsent, .tj]
  | .drainDone .. => allBut [.part, .up, .freeCtr, .latch, .rst, .boot, .lcs, .ses, .err, .ins, .outs, .eyes, .clk, .ct, .eng, .ptp, .featAbsent, .tj]
  | .diagnosticExitDone .. => allBut [.part, .up, .latch, .lcs, .outs, .featAbsent, .tj]
  | .lockGained .. => allBut [.part, .up, .latch, .lcs, .featAbsent, .tj]
  | .lockLost .. => completing [.regs, .ctr, .mode, .lastMode, .entryCause, .holdExpired, .evts, .laster, .refs, .heel, .hold, .ports, .nts, .twin]
  | .policySetFeatures .. => completing [.regs, .ctr, .evts, .laster, .refs, .heel, .hold, .ports]
  | .policySetGateList .. => completing [.regs, .ctr, .laster, .ports, .nts]
  | .policySetPortLpi .. => completing [.regs]
  | .awlCal .. => completing [.eyes]
  | .clientPolicy .. => completing [.regs, .ct]
  | .serviceAddr .. => completing [.regs, .ct]
  | .selftest .. => completing [.ctr, .eng]
  | .selftestDone .. => completing [.ctr, .eng]
  | .tbsNow0Read .. => [.out, .latch]
  | .keepRtcLoad .. => [.rst]
  | .leapInstall .. => completing [.ctr, .ins, .laster, .ports, .nts]
  | .leapCancel .. => completing [.ctr, .ins, .laster, .ports, .nts]
  | .leapWarnStart .. => []
  | .smearSample .. => [.ctr, .ins, .laster, .ports, .nts, .flow]
  | .smearEnd .. => []
  | .timeAdjustOffset .. => allBut [.part, .up, .latch, .lcs, .heel, .hold, .featAbsent, .tj]
  | .timeAdjustSet .. => allBut [.part, .up, .latch, .lcs, .heel, .hold, .featAbsent, .tj]
  | .slewCancel .. => allBut [.part, .up, .latch, .lcs, .heel, .hold, .featAbsent, .tj]
  | .slewDone .. => []
  | .lasterArm .. => allBut [.part, .up, .latch, .lcs, .heel, .hold, .featAbsent, .tj]
  | .lasterCancel .. => completing [.laster]
  | .lasterSpillFill .. => [.laster]
  | .lasterIssue .. => allBut [.part, .up, .latch, .lcs, .heel, .hold, .featAbsent, .tj]
  | .launchEntry .. => allBut [.part, .up, .latch, .lcs, .heel, .hold, .featAbsent, .tj]
  | .gateListEntry .. => allBut [.part, .up, .latch, .lcs, .heel, .hold, .featAbsent, .tj]
  | .outputOn .. => allBut [.part, .up, .latch, .lcs, .heel, .hold, .featAbsent, .tj]
  | .outputOff .. => allBut [.part, .up, .latch, .lcs, .heel, .hold, .featAbsent, .tj]
  | .captureOpen .. => allBut [.part, .up, .latch, .lcs, .heel, .hold, .featAbsent, .tj]
  | .captureClose .. => allBut [.part, .up, .latch, .lcs, .heel, .hold, .featAbsent, .tj]
  | .outEdge .. => [.out, .pmc, .outs]
  | .keyRoll .. => allBut [.part, .up, .latch, .lcs, .heel, .hold, .outs, .featAbsent, .tj]
  | .leapEntry .. => [.regs, .pmc, .ins]
  | .adjustEntry .. => allBut [.part, .up, .latch, .lcs, .heel, .hold, .featAbsent, .tj]
  | .holdCheck .. => [.out, .holdExpired, .evts, .pmc, .laster, .refs, .hold]
  | .ptpSweep .. => [.freeCtr, .ctr, .pmc, .ports, .ptp, .flow]
  | .hostEvent .. => allBut [.part, .up, .latch, .lcs, .heel, .hold, .featAbsent, .tj]
  | .synth .. => allBut [.part, .up, .latch, .lcs, .heel, .hold, .featAbsent, .tj]
  | .gnssMessage .. => allBut [.part, .up, .latch, .lcs, .featAbsent, .tj]
  | .refComparison .. => allBut [.part, .up, .latch, .lcs, .featAbsent, .tj]
  | .refEvalTick .. => [.out, .evts, .refs, .heel, .hold]
  | .qualTimerExpire .. => [.out, .evts, .refs, .heel, .hold]
  | .wtrTimerExpire .. => [.out, .evts, .refs, .heel, .hold]
  | .sentinelRound .. => [.out, .regs, .evts, .refs, .heel, .hold]
  | .ensembleUpdate .. => [.refs]
  | .acqNarrow .. => [.refs]
  | .refForce .. => completing [.evts, .refs, .heel, .hold]
  | .refRelease .. => completing [.evts, .refs, .heel, .hold]
  | .refLockout .. => completing [.evts, .refs, .heel, .hold]
  | .refClear .. => completing [.evts, .refs, .heel, .hold]
  | .refClearWtr .. => completing [.evts, .refs, .heel, .hold]
  | .refSetPrio .. => completing [.regs, .evts, .refs, .heel, .hold]
  | .refAcceptPath .. => completing [.evts, .refs, .heel, .hold, .ptp]
  | .refSetBw .. => completing [.regs]
  | .refSetMode .. => completing [.regs, .evts, .refs, .heel, .hold]
  | .tempSample .. => allBut [.part, .up, .latch, .lcs, .outs, .featAbsent, .tj]
  | .heelLearnSample .. => [.regs, .heel]
  | .outputRealign .. => completing [.outs]
  | .realignStart .. => completing [.outs]
  | .realignDone .. => completing [.outs]
  | .firstAlign .. => completing [.outs]
  | .eyeletEdge .. => allBut [.part, .up, .latch, .lcs, .heel, .hold, .featAbsent, .tj]
  | .mismatch .. => allBut [.part, .up, .latch, .lcs, .heel, .hold, .outs, .featAbsent, .tj]
  | .stuckOn .. => [.regs, .eyes]
  | .chatOff .. => [.regs, .eyes]
  | .nostop .. => [.regs, .eyes]
  | .freqGateEnd .. => [.regs, .eyes]
  | .tbLost .. => [.out, .regs, .evts, .eyes]
  | .tbBack .. => [.out, .rst, .evts, .eyes]
  | .awlRecordDeliver .. => [.out, .regs, .evts, .eyes]
  | .pinStart .. => [.eyes]
  | .calPeriodic .. => [.eyes, .tj]
  | .calStepDone .. => allBut [.part, .up, .latch, .lcs, .heel, .hold, .outs, .featAbsent, .tj]
  | .frameReceived .. => allBut [.part, .up, .latch, .lcs, .featAbsent, .tj]
  | .linkChange .. => completing [.regs, .ctr, .evts, .laster, .refs, .heel, .hold, .ports, .nts]
  | .pauseExpire .. => [.nts]
  | .storm .. => allBut [.part, .up, .latch, .lcs, .heel, .hold, .outs, .featAbsent, .tj]
  | .stormEnd .. => [.ports]
  | .frameStart .. => completing [.ctr, .laster, .ports, .nts, .ptp]
  | .lpiEnter .. => [.ctr, .ports]
  | .lpiWake .. => [.ports]
  | .qlTimeout .. => [.out, .evts, .refs, .heel, .hold, .ports]
  | .esmcTx .. => [.ports, .flow]
  | .gclCommit .. => [.regs, .ctr, .laster, .ports, .nts, .flow]
  | .gclAbort .. => [.ports]
  | .prtGclDataAccess .. => [.out, .regs, .ports]
  | .txFrame .. => completing [.ctr, .laster, .ports]
  | .txFrameDone .. => completing []
  | .rxBuffer .. => completing []
  | .excDeliver .. => completing [.ctr, .clk]
  | .dispatchAssign .. => [.ctr, .pmc, .clk, .ct, .eng, .nts, .flow]
  | .engineInvoke .. => completing [.regs, .ctr, .laster, .ports, .clk, .ct, .eng, .nts]
  | .bucketArrive .. => [.regs, .ctr, .eng, .nts]
  | .patternReturn .. => allBut [.part, .up, .latch, .lcs, .heel, .hold, .outs, .featAbsent, .tj]
  | .overrun .. => allBut [.part, .up, .latch, .lcs, .heel, .hold, .outs, .featAbsent, .tj]
  | .bucketLeaseExpire .. => allBut [.part, .up, .latch, .lcs, .heel, .hold, .outs, .featAbsent, .tj]
  | .closerCommit .. => completing [.ctr, .laster, .ports, .nts]
  | .fairEpoch .. => [.ctr, .clk]
  | .ageShed .. => completing [.ctr, .laster, .ports, .clk]
  | .ageingScan .. => [.ctr, .ct]
  | .ctLookup .. => completing [.regs, .ctr, .ct]
  | .ctUpsert .. => completing [.regs, .ctr, .ct]
  | .ctDelete .. => completing [.regs, .ctr, .ct]
  | .ctResetCounts .. => completing [.regs, .ctr, .ct]
  | .ctFlush .. => completing [.ct]
  | .ctScanNow .. => completing [.ctr, .ct]
  | .patternLoad .. => completing [.eng]
  | .benchDrained .. => completing [.regs, .eng]
  | .keyInstall .. => allBut [.part, .up, .latch, .lcs, .heel, .hold, .outs, .featAbsent, .tj]
  | .keyRetire .. => allBut [.part, .up, .latch, .lcs, .heel, .hold, .outs, .featAbsent, .tj]
  | .keyEmpty .. => allBut [.part, .up, .latch, .lcs, .heel, .hold, .outs, .featAbsent, .tj]
  | .aged .. => completing [.regs, .ctr, .laster, .ports, .clk, .ct, .eng, .nts]
  | .resealStart .. => completing [.regs, .ctr, .laster, .ports, .clk, .ct, .eng, .nts]
  | .grantExpire .. => [.ptp]
  | .clientRenew .. => [.freeCtr, .ctr, .ports, .ptp, .flow]
  | .announceTimeout .. => [.out, .regs, .ctr, .evts, .refs, .heel, .hold, .ptp]
  | .followUp .. => [.freeCtr, .ctr, .ports, .ptp, .flow]
  | .maxResExpire .. => completing [.ctr, .laster, .ports, .nts]
  | .asymEstimateDone .. => [.out, .regs, .ctr, .evts, .refs, .heel, .hold, .ptp]
  | .sesOpen .. => [.regs, .ses]
  | .sessionVerifyDone .. => [.freeCtr, .regs, .ses]
  | .sesClose .. => [.freeCtr, .regs, .ses, .rings, .evts, .clk, .ct, .flow]
  | .lockoutEnd .. => [.ses]
  | .idleTimeout .. => [.freeCtr, .regs, .ses, .rings, .evts, .clk, .ct, .flow]
  | .sesProvLoad .. => []
  | .ringEnable .. => [.out, .regs, .rings, .evts]
  | .ringDisable .. => completing [.regs, .clk, .ct]
  | .doorbellPoll .. => [.out, .ses, .rings, .evts, .pmc]
  | .hrgNudge .. => [.out, .ses, .rings, .evts, .pmc]
  | .descriptorFetch .. => completing [.ses, .evts]
  | .eventRingEnable .. => [.out, .regs, .evts]
  | .anchor .. => [.out, .evts]
  | .interrupt .. => [.out, .rings, .evts]
  | .statsSnapshot .. => completing []
  | .lcsArm .. => [.freeCtr, .lcs]
  | .lcsGo .. => allBut [.part, .up, .out, .tj]
  | .lcsKeyInstall .. => [.freeCtr, .regs, .lcs, .ses, .rings, .evts, .clk, .ct, .flow]
  | .lcsKeyErase .. => [.freeCtr, .regs, .lcs, .ses, .rings, .evts, .clk, .ct, .flow]
  | .optWriteStart .. => [.regs, .lcs]
  | .optWriteDone .. => [.lcs]
  | .raiseSvn .. => [.regs, .lcs]
  | .weltLinkUp .. => [.out, .evts, .twin]
  | .weltLinkLost .. => [.out, .regs, .ctr, .evts, .refs, .heel, .hold, .twin]
  | .arbTest .. => allBut [.part, .up, .latch, .lcs, .heel, .hold, .outs, .featAbsent, .tj]
  | .attachAttempt .. => allBut [.part, .up, .latch, .modeReq, .rst, .boot, .lcs, .ses, .err, .ins, .outs, .eyes, .clk, .eng, .ptp, .featAbsent, .tj]
  | .attachRetry .. => allBut [.part, .up, .latch, .modeReq, .rst, .boot, .lcs, .ses, .err, .ins, .outs, .eyes, .clk, .eng, .ptp, .featAbsent, .tj]
  | .mirrorApply .. => allBut [.part, .up, .latch, .lcs, .outs, .featAbsent, .tj]
  | .mirrorCreditTimeout .. => [.out, .ctr, .evts, .twin]
  | .mirrorSync .. => [.twin]
  | .markerTx .. => [.out, .twin]
  | .markerRx .. => allBut [.part, .up, .latch, .lcs, .featAbsent, .tj]
  | .failBlockRx .. => [.out, .evts, .refs, .heel, .hold, .twin]
  | .twarbBChange .. => allBut [.part, .up, .freeCtr, .latch, .rst, .boot, .lcs, .ses, .err, .ins, .outs, .eyes, .clk, .ct, .eng, .ptp, .featAbsent, .tj]
  | .takeover .. => completing [.regs, .ctr, .mode, .lastMode, .entryCause, .holdExpired, .evts, .laster, .refs, .heel, .hold, .ports, .nts, .twin]
  | .twinAttach .. => completing [.regs, .twin]
  | .attachTimeout .. => completing [.twin]
  | .twinDetach .. => completing [.regs, .ctr, .mode, .lastMode, .entryCause, .holdExpired, .evts, .laster, .refs, .heel, .hold, .ports, .nts, .twin]
  | .twinSwitchover .. => completing [.twin]
  | .twinSetKey .. => completing []
  | .twinResetPeer .. => completing []
  | .twinCommandedReset .. => allBut [.part, .up, .out, .tj]
  | .twinStatus .. => completing []
  | .hostStall .. => allBut [.part, .up, .latch, .lcs, .heel, .hold, .outs, .featAbsent, .tj]
  | .storeTimeout .. => allBut [.part, .up, .latch, .lcs, .heel, .hold, .outs, .featAbsent, .tj]
  | .egExpire .. => completing [.ctr, .laster, .ports, .nts]
  | .txwExpire .. => completing []
  | .errorRaised .. => allBut [.part, .up, .latch, .lcs, .outs, .featAbsent, .tj]
  | .errorHandlingDone .. => allBut [.part, .up, .latch, .lcs, .outs, .featAbsent, .tj]
  | .goInject .. => allBut [.part, .up, .latch, .lcs, .outs, .featAbsent, .tj]
  | .errLogRead .. => [.out, .latch]
  | .counterLoRead .. => [.out, .regs, .latch]
  | .hldOmisRead .. => [.out, .regs, .latch]
  | .pmcCntLoRead .. => [.out, .latch]
  | .pmcCntHiWrite .. => [.pmc]
  | .pmcCntLoWrite .. => [.pmc]
  | .pmcWrap .. => [.out, .evts, .pmc]
  | .gsumReport .. => [.out, .evts]
  | .evtGintEnWrite .. => [.out, .regs, .evts]
  | .registerWrite .. => allBut [.part, .up, .tj]
  | .startupOscillatorLost .. => allBut [.part, .up, .out, .tj]
  | .pcieCompletionTimeout .. => completing []
  | .clientTableLockTimeout .. => completing [.ct]
  | .ctFlushDone .. => completing [.ct]
  | .ctScanDone .. => completing [.ctr, .ct]
  | .bothClaimSettle .. => completing [.regs, .ctr, .mode, .lastMode, .entryCause, .holdExpired, .evts, .laster, .refs, .heel, .hold, .ports, .nts, .twin]

end Sys2Proof.Machine

namespace Sys2Proof

/-- The time that passes before a command acts: its first operand. -/
def Instr.wait (c : Instr) : Nat :=
  match c with
  | .vinPowerOn w _ => w
  | .resetN w _ => w
  | .thermalTrip w _ => w
  | .watchdog w => w
  | .devReset w _ _ => w
  | .vkeepPowerOn w => w
  | .vkeepLost w => w
  | .perst w _ => w
  | .flr w _ => w
  | .benchReset w _ _ => w
  | .engineReset w _ _ => w
  | .portReset w _ _ => w
  | .unitResetDone w _ _ => w
  | .bootStart w => w
  | .bootStepDone w => w
  | .bootStepFail w _ _ _ => w
  | .bootRestart w => w
  | .cfgFallback w => w
  | .oscinLost w => w
  | .modeRequest w _ => w
  | .drainDone w => w
  | .diagnosticExitDone w _ => w
  | .lockGained w => w
  | .lockLost w => w
  | .policySetFeatures w _ => w
  | .policySetGateList w _ _ => w
  | .policySetPortLpi w _ => w
  | .awlCal w _ => w
  | .clientPolicy w _ _ => w
  | .serviceAddr w _ _ => w
  | .selftest w _ _ => w
  | .selftestDone w => w
  | .tbsNow0Read w _ => w
  | .keepRtcLoad w => w
  | .leapInstall w _ => w
  | .leapCancel w _ => w
  | .leapWarnStart w => w
  | .smearSample w => w
  | .smearEnd w => w
  | .timeAdjustOffset w _ => w
  | .timeAdjustSet w _ => w
  | .slewCancel w _ => w
  | .slewDone w => w
  | .lasterArm w _ _ => w
  | .lasterCancel w _ => w
  | .lasterSpillFill w _ => w
  | .lasterIssue w _ => w
  | .launchEntry w _ => w
  | .gateListEntry w _ _ => w
  | .outputOn w _ => w
  | .outputOff w _ => w
  | .captureOpen w _ => w
  | .captureClose w _ => w
  | .outEdge w _ => w
  | .keyRoll w _ _ => w
  | .leapEntry w => w
  | .adjustEntry w _ => w
  | .holdCheck w => w
  | .ptpSweep w _ _ _ => w
  | .hostEvent w _ => w
  | .synth w _ => w
  | .gnssMessage w _ _ => w
  | .refComparison w _ _ _ => w
  | .refEvalTick w _ _ => w
  | .qualTimerExpire w _ => w
  | .wtrTimerExpire w _ => w
  | .sentinelRound w => w
  | .ensembleUpdate w => w
  | .acqNarrow w => w
  | .refForce w _ => w
  | .refRelease w _ => w
  | .refLockout w _ => w
  | .refClear w _ => w
  | .refClearWtr w _ => w
  | .refSetPrio w _ => w
  | .refAcceptPath w _ => w
  | .refSetBw w _ => w
  | .refSetMode w _ => w
  | .tempSample w _ _ => w
  | .heelLearnSample w => w
  | .outputRealign w _ => w
  | .realignStart w _ => w
  | .realignDone w _ => w
  | .firstAlign w _ => w
  | .eyeletEdge w _ _ _ _ _ => w
  | .mismatch w _ => w
  | .stuckOn w _ => w
  | .chatOff w _ => w
  | .nostop w _ => w
  | .freqGateEnd w _ => w
  | .tbLost w _ => w
  | .tbBack w => w
  | .awlRecordDeliver w _ => w
  | .pinStart w _ => w
  | .calPeriodic w _ => w
  | .calStepDone w _ _ _ => w
  | .frameReceived w _ _ _ _ _ => w
  | .linkChange w _ _ _ _ _ _ _ => w
  | .pauseExpire w _ => w
  | .storm w _ => w
  | .stormEnd w _ => w
  | .frameStart w _ => w
  | .lpiEnter w _ => w
  | .lpiWake w _ => w
  | .qlTimeout w _ => w
  | .esmcTx w _ => w
  | .gclCommit w _ _ => w
  | .gclAbort w _ _ => w
  | .prtGclDataAccess w _ _ _ _ => w
  | .txFrame w _ _ => w
  | .txFrameDone w => w
  | .rxBuffer w _ => w
  | .excDeliver w => w
  | .dispatchAssign w => w
  | .engineInvoke w _ _ => w
  | .bucketArrive w _ => w
  | .patternReturn w _ _ _ _ => w
  | .overrun w _ _ _ => w
  | .bucketLeaseExpire w _ => w
  | .closerCommit w _ => w
  | .fairEpoch w => w
  | .ageShed w => w
  | .ageingScan w => w
  | .ctLookup w _ => w
  | .ctUpsert w _ => w
  | .ctDelete w _ => w
  | .ctResetCounts w _ => w
  | .ctFlush w _ => w
  | .ctScanNow w _ => w
  | .patternLoad w _ _ => w
  | .benchDrained w _ => w
  | .keyInstall w _ _ => w
  | .keyRetire w _ => w
  | .keyEmpty w _ => w
  | .aged w _ => w
  | .resealStart w _ => w
  | .grantExpire w _ _ => w
  | .clientRenew w _ _ _ => w
  | .announceTimeout w _ _ => w
  | .followUp w => w
  | .maxResExpire w _ _ => w
  | .asymEstimateDone w _ => w
  | .sesOpen w _ => w
  | .sessionVerifyDone w _ => w
  | .sesClose w _ => w
  | .lockoutEnd w _ => w
  | .idleTimeout w _ => w
  | .sesProvLoad w _ => w
  | .ringEnable w _ => w
  | .ringDisable w _ => w
  | .doorbellPoll w _ _ => w
  | .hrgNudge w _ _ => w
  | .descriptorFetch w _ _ => w
  | .eventRingEnable w _ => w
  | .anchor w => w
  | .interrupt w _ _ => w
  | .statsSnapshot w _ => w
  | .lcsArm w _ _ => w
  | .lcsGo w _ _ _ => w
  | .lcsKeyInstall w _ _ => w
  | .lcsKeyErase w _ _ => w
  | .optWriteStart w _ _ => w
  | .optWriteDone w _ _ => w
  | .raiseSvn w _ => w
  | .weltLinkUp w => w
  | .weltLinkLost w _ => w
  | .arbTest w _ => w
  | .attachAttempt w _ => w
  | .attachRetry w _ => w
  | .mirrorApply w _ => w
  | .mirrorCreditTimeout w _ => w
  | .mirrorSync w => w
  | .markerTx w => w
  | .markerRx w _ _ _ _ _ _ => w
  | .failBlockRx w _ => w
  | .twarbBChange w _ => w
  | .takeover w => w
  | .twinAttach w _ => w
  | .attachTimeout w => w
  | .twinDetach w _ _ => w
  | .twinSwitchover w _ => w
  | .twinSetKey w _ _ => w
  | .twinResetPeer w _ => w
  | .twinCommandedReset w => w
  | .twinStatus w _ => w
  | .hostStall w => w
  | .storeTimeout w _ => w
  | .egExpire w => w
  | .txwExpire w => w
  | .errorRaised w _ _ _ _ => w
  | .errorHandlingDone w => w
  | .goInject w _ _ => w
  | .errLogRead w _ _ => w
  | .counterLoRead w _ _ => w
  | .hldOmisRead w _ _ => w
  | .pmcCntLoRead w _ _ => w
  | .pmcCntHiWrite w _ _ _ => w
  | .pmcCntLoWrite w _ _ _ => w
  | .pmcWrap w _ _ _ _ _ _ => w
  | .gsumReport w _ => w
  | .evtGintEnWrite w _ _ => w
  | .registerWrite w _ _ _ _ _ => w
  | .startupOscillatorLost w => w
  | .pcieCompletionTimeout w _ => w
  | .clientTableLockTimeout w => w
  | .ctFlushDone w => w
  | .ctScanDone w => w
  | .bothClaimSettle w => w

end Sys2Proof

namespace Sys2Proof.Machine

/-! ### What a command answers -/

/-- The command answers the next state, and this is what it does: once its elapsed time has passed, its own work leaves the block
as `u`, changing nothing outside `ps`, and `P` holds of `u`; then what the device derives settles (`Blk.settle`). The queue, the fuses and
the option store stay. -/
def Answers (c : Instr) (s : State) (ps : List Piece) (P : Blk → Prop) : Prop :=
  ∃ u, exec c s = .next { s with blk := Blk.settle s.blk u } ∧ Frame ps (s.blk.pass c.wait) u ∧ P u

/-- The same of a command that leaves the fuses and the option store as `n`. -/
def AnswersN (c : Instr) (s : State) (n : Nvm) (ps : List Piece) (P : Blk → Prop) : Prop :=
  ∃ u, exec c s = .next { s with nvm := n, blk := Blk.settle s.blk u } ∧ Frame ps (s.blk.pass c.wait) u ∧ P u

/-- The command begins the descriptor `d` of ring pair `r` and completes it with a status and a result: its work leaves the block as
`g`, changing nothing outside `ps` but for the mark that the descriptor has begun, and `P` holds of `g`; then the completion is written
(`Blk.complete`) and what the device derives settles. -/
def Completes (c : Instr) (s : State) (r : Nat) (d : Desc) (status : Nat) (result : Bytes) (ps : List Piece) (P : Blk → Prop) : Prop :=
  ∃ g, exec c s = .next { s with blk := Blk.settle s.blk (g.complete ⟨r, d.id⟩ status result) }
    ∧ g.rings = ((s.blk.pass c.wait).beginDesc r d).rings
    ∧ Frame (.rings :: ps) (s.blk.pass c.wait) g ∧ P g

/-- Ring pair `r` may begin the descriptor `d` now, and it carries this opcode (11 R301). -/
abbrev Ready (b : Blk) (r : Nat) (d : Desc) (op : Nat) : Prop := b.nextDesc r = some d ∧ byteAt d.data 0 = op

/-- The commands that may write fuses, keys or the option store (14 R379, R384, R385, R389; 12 R327; 14 R372). -/
def writesNvm (c : Instr) : Bool :=
  match c with
  | .bootStepDone .. | .sesProvLoad .. | .lcsGo .. | .lcsKeyInstall .. | .lcsKeyErase .. | .optWriteStart .. | .optWriteDone ..
  | .raiseSvn .. | .registerWrite .. | .twinSetKey .. => true
  | _ => false

/-! ### Fuses and option store (14 R381, R382) -/

/-- The owner digest is fused exactly from PROVISIONED on, and at most seven returns to PROVISIONED are left (14 R382). -/
def NvmOk (n : Nvm) : Prop :=
  (n.lifecycle = .blank → n.owner = none)
  ∧ (n.lifecycle = .provisioned ∨ n.lifecycle = .deployed ∨ n.lifecycle = .retired → n.owner.isSome)
  ∧ n.reprovLeft ≤ 7

/-- What a lifecycle may become: no transition of R382 returns to BLANK or leaves RMA, and RETIRED leads to RMA alone. -/
def LifecycleNext (a b : Lifecycle) : Prop :=
  (b = .blank → a = .blank) ∧ (a = .rma → b = .rma) ∧ (a = .retired → b = .retired ∨ b = .rma)

/-- What one step may do to fuses: they are only ever programmed. -/
def NvmNext (a b : Nvm) : Prop :=
  LifecycleNext a.lifecycle b.lifecycle ∧ (∀ o, a.owner = some o → b.owner = some o)
  ∧ b.reprovLeft ≤ a.reprovLeft ∧ a.svnFloor ≤ b.svnFloor ∧ b.engSvnMin = a.engSvnMin

/-! ### After a reset -/

/-- Everything but KEEP, what the pins show and what the environment holds is at its reset value (14 R364, R367): the mode is DORMANT, the rings,
event rings, sessions, errors, counters, the Insole, the Laster, the references, the Heel, the outputs, ports, requests, client table, engines, epochs, PTP
state, the twin but its claim pin, and the flow control are cleared, and of the registers only those of KEEP stay. -/
def Cleared (b u : Blk) : Prop :=
  u.mode = .dormant ∧ u.ctr = [] ∧ u.latch = [] ∧ u.modeReq = none ∧ u.rings = [] ∧ u.evts = [] ∧ u.err = {} ∧ u.pmc = {}
  ∧ u.ins = {} ∧ u.laster = {} ∧ u.refs = {} ∧ u.heel = {} ∧ u.hold = {} ∧ u.outs = {} ∧ u.ports = [] ∧ u.clk = {} ∧ u.ct = {}
  ∧ u.eng = {} ∧ u.nts = {} ∧ u.ptp = {} ∧ u.flow = {} ∧ u.boot = {} ∧ u.featAbsent = 0 ∧ u.rst.units = []
  ∧ u.twin = { claimIn := b.twin.claimIn, lowFrom := b.twin.lowFrom }
  ∧ (∀ k, isKeepKey k = false → rfGet u.regs k = resetWord k)
  ∧ (∀ f, (u.sesOf f).st = .idle ∨ (u.sesOf f).st = .locked)

/-- How a device-reach reset by this source counts (14 R366, R371): the first source after a release becomes the cause, alone, and advances the
saturating Keep counter while VKEEP is present; a further one does not advance it. -/
def ResetCounted (b u : Blk) (code : Nat) : Prop :=
  (b.mode ≠ .dormant → u.rst.cause = code ∧ u.rst.multi = false
    ∧ u.rd R.RST_KEEP_COUNT = if b.rst.vkeep then satNat (b.rd R.RST_KEEP_COUNT + 1) 16 else b.rd R.RST_KEEP_COUNT)
  ∧ (b.mode = .dormant → u.rd R.RST_KEEP_COUNT = b.rd R.RST_KEEP_COUNT)

/-- The session of function `f` has been closed (11 R294): it is idle, without privileges or key; its event ring and its ring pairs, but not those
of others, have stopped; a new challenge has been drawn; and the other functions' sessions are as before. -/
def Closed (b u : Blk) (f : Nat) : Prop :=
  (u.sesOf f).st = .idle ∧ (u.sesOf f).priv = 0 ∧ (u.sesOf f).ks = [] ∧ (u.sesOf f).chal = b.freeCtr ∧ (u.evtOf f).running = false
  ∧ (∀ r, r < 64 → if b.ringOwner r = f then (u.ringOf r).running = false ∧ (u.ringOf r).descs = [] else u.ringOf r = b.ringOf r)
  ∧ ∀ g, g ≠ f → u.sesOf g = b.sesOf g ∧ u.evtOf g = b.evtOf g

end Sys2Proof.Machine
end

