-- ==== Sys2Proof/Certificates/Slice0/Obligations.lean ====
section
/-! DEFINITION. The statements for the provers, from the numbered rules of spec/. A completion statement says of a command that `exec`
answers the next state (`Answers`, `Completes`), under hypotheses on the state at its instant, `s.blk.pass w`, and its operands alone. -/

open Sys2Proof Sys2Proof.Machine

/-- A step runs the command at the front of the queue. With command c at the front of the queue, step is exec of c on the
state with the rest of the queue. -/
def Obligations.StepRunsFrontCommand : Prop :=
  ∀ (s : State) (c : Instr) (rest : List Instr), s.pending = c :: rest → step s = exec c { s with pending := rest }

/-- With no command waiting the block idles. With an empty queue step answers the state unchanged. This is the choice of the
model (log entry 45): no row of the table is a tick of a clock. -/
def Obligations.EmptyQueueIdles : Prop :=
  ∀ s : State, s.pending = [] → step s = .next s

/-- Every command answers a next state and touches only its own pieces of the block. Whatever the state and the operands, exec
answers a next state: no command faults or is refused. The queue stays; the fuses, keys and option store stay unless the
command is one of those that write them; and outside the pieces that touches lists for the command, its own work leaves the
block as it is once the elapsed time has passed. What the device then derives is Blk.settle, of which SettleChangesOnly says
what it may change. -/
def Obligations.EveryCommandAnswers : Prop :=
  ∀ (c : Instr) (s : State), ∃ (n : Nvm) (u : Blk), exec c s = .next { s with nvm := n, blk := Blk.settle s.blk u }
    ∧ (writesNvm c = false → n = s.nvm) ∧ Frame (touches c) (s.blk.pass c.wait) u

/-- What the device derives after a command changes nothing but five pieces, each by its rule. After the work of a command,
the sticky bits of absent features and the chaining of the counters follow their rules, the rises of IDC_GSUM are reported on
running event rings, and a twin leader counts the mirror blocks it sends: what was put out stays and is only added to, a ring
that does not run is left alone, and nothing else changes. -/
def Obligations.SettleChangesOnly : Prop :=
  ∀ a b : Blk, Frame [.out, .evts, .pmc, .featAbsent, .twin] b (Blk.settle a b)
    ∧ (Blk.settle a b).featAbsent = b.absentNow ∧ (Blk.settle a b).pmc = chainStep b.wantChain b.pmc
    ∧ (∃ l, (Blk.settle a b).out = l ++ b.out)
    ∧ (∃ q c, (Blk.settle a b).twin = { b.twin with queue := q, creditAt := c })
    ∧ (b.twin.role ≠ 1 → (Blk.settle a b).twin = b.twin)
    ∧ ∀ f, (b.evtOf f).running = false → (Blk.settle a b).evtOf f = b.evtOf f

/-- Every command advances elapsed time by its first operand, and none changes the part. When exec answers a next state,
elapsed time has advanced by the time that passed before the command, whatever it does to the Insole; the part (variant,
serial, revisions) and the queue are as before. -/
def Obligations.ElapsedTimeAdvances : Prop :=
  ∀ (c : Instr) (s t : State), exec c s = .next t →
    t.blk.up = s.blk.up + c.wait ∧ t.blk.part = s.blk.part ∧ t.pending = s.pending

/-- Between adjustments the Insole advances by exactly the elapsed time. While an interval passes, an Insole that runs with no
slew advances by exactly the interval and one that stands still does not move; a slew never grows, never changes sign and is
consumed by at most RATE parts per 10^9 of the interval. Nothing else of the block changes but the elapsed time and the
counters of 16. -/
def Obligations.PassOfTime : Prop :=
  ∀ (b : Blk) (w : Nat), Frame [.up, .ins, .pmc] b (b.pass w) ∧ (b.pass w).up = b.up + w
    ∧ (b.ins.running = false → (b.pass w).ins = b.ins)
    ∧ (b.ins.running = true → b.ins.slewRem = 0 → (b.pass w).ins = { b.ins with now := b.ins.now + w })
    ∧ (0 ≤ b.ins.slewRem → 0 ≤ (b.pass w).ins.slewRem ∧ (b.pass w).ins.slewRem ≤ b.ins.slewRem
        ∧ b.ins.slewRem - (b.pass w).ins.slewRem ≤ (w * b.rd R.TBS_SLEW_RATE : Nat))
    ∧ (b.ins.slewRem ≤ 0 → (b.pass w).ins.slewRem ≤ 0 ∧ b.ins.slewRem ≤ (b.pass w).ins.slewRem
        ∧ (b.pass w).ins.slewRem - b.ins.slewRem ≤ (w * b.rd R.TBS_SLEW_RATE : Nat))

/-- The state right after reset. Right after VIN power-on and VKEEP power-on together the mode is DORMANT, the only source
asserted is VIN power-on, the Keep reset counter reads 1 and KEEP_LOST is 1, every ring, session, reference, port and counter
is at its reset value, no command waits, and fuses and option store are those of a module as shipped: BLANK, an image in both
copies, no provisioning or pairing key. -/
def Obligations.ResetState : Prop :=
  State.reset.pending = [] ∧ State.reset.nvm.lifecycle = .blank ∧ State.reset.nvm.owner = none ∧ State.reset.nvm.reprovLeft = 7
    ∧ State.reset.nvm.copyA.valid = true ∧ State.reset.nvm.copyB.valid = true ∧ State.reset.nvm.prov = [] ∧ State.reset.nvm.kp = none
    ∧ State.reset.blk.rst.asserted = [1] ∧ State.reset.blk.rst.cause = 1 ∧ State.reset.blk.rst.multi = false
    ∧ State.reset.blk.rd R.RST_KEEP_COUNT = 1 ∧ State.reset.blk.rd R.RST_KEEP_KEEP_LOST = 1
    ∧ Cleared State.reset.blk State.reset.blk

/-- The fuses after reset satisfy the invariant of the lifecycle. NvmOk, which every step keeps (FusesStaySound), holds of the
state right after reset. -/
def Obligations.FusesSoundAtReset : Prop :=
  NvmOk State.reset.nvm

/-- Every step keeps the fuses sound and only ever programs them. From every state whose fuses satisfy NvmOk (no owner digest
while BLANK; one in PROVISIONED, DEPLOYED and RETIRED; at most seven returns left) every step that answers a next state leaves
fuses that satisfy it. No step returns to BLANK, leaves RMA, or leads from RETIRED anywhere but to RMA; an owner digest once
fused stays; REPROV_LEFT never grows, the security version floor never falls and ENG_SVN_MIN stays. -/
def Obligations.FusesStaySound : Prop :=
  ∀ s t : State, NvmOk s.nvm → step s = .next t → NvmOk t.nvm ∧ NvmNext s.nvm t.nvm

/-- A lifecycle transition does what its row of R382 says. lcsAllowed is the table of R382, lcsReady its conditions, and
transit its actions: the owner digest is fused from LCS_OWNER on leaving BLANK for PROVISIONED and never changes again,
REPROV_LEFT falls by one on the return to PROVISIONED, RETIRED and RMA erase the provisioning keys with their masks, the saved
training values and both copies, and every transition erases K_p. -/
def Obligations.LifecycleTransitions : Prop :=
  (∀ a t : Lifecycle, lcsAllowed a t = true ↔
      (a, t) ∈ [(.blank, .provisioned), (.provisioned, .deployed), (.deployed, .provisioned), (.provisioned, .retired), (.deployed, .retired),
        (Lifecycle.blank, Lifecycle.rma), (.provisioned, .rma), (.deployed, .rma), (.retired, .rma)])
  ∧ (∀ (n : Nvm) (t : Lifecycle) (dig : Bytes),
      (n.lifecycle = .blank → (lcsReady n .provisioned dig = true ↔ n.keyPresent 0 = true ∧ allZero dig = false))
      ∧ (n.lifecycle = .provisioned → (lcsReady n .deployed dig = true ↔ n.copyAOwned = true))
      ∧ (n.lifecycle = .deployed → (lcsReady n .provisioned dig = true ↔ 0 < n.reprovLeft))
      ∧ (t = .retired ∨ t = .rma → lcsReady n t dig = true)
      ∧ (n.transit t dig).lifecycle = t ∧ (n.transit t dig).kp = none ∧ (n.transit t dig).svnFloor = n.svnFloor
      ∧ (t = .retired ∨ t = .rma → (n.transit t dig).prov = [] ∧ (n.transit t dig).trained = false
          ∧ (n.transit t dig).copyA = {} ∧ (n.transit t dig).copyB = {})
      ∧ (t ≠ .retired → t ≠ .rma → (n.transit t dig).prov = n.prov ∧ (n.transit t dig).trained = n.trained
          ∧ (n.transit t dig).copyA = n.copyA ∧ (n.transit t dig).copyB = n.copyB)
      ∧ (∀ o, n.owner = some o → (n.transit t dig).owner = some o)
      ∧ (n.owner = none → (n.transit t dig).owner = if n.lifecycle = .blank ∧ t = .provisioned then some dig else none)
      ∧ (n.transit t dig).reprovLeft = if n.lifecycle = .deployed ∧ t = .provisioned then n.reprovLeft - 1 else n.reprovLeft)

/-- Each device-reach reset source clears the block, counts once and is the cause when it comes first. When its source
asserts, each of VIN_POWER_ON, RESET_N, THERMAL_TRIP at 125 degrees or more, WATCHDOG while armed, DEV_RESET with SETUP and
the key 0xA5, and TWIN_COMMANDED_RESET leaves the block Cleared. The first source after a release is the cause, MULTI is 0 and
the Keep reset counter advances by one, saturating, while VKEEP is present; another one during the same stay in DORMANT does
not advance it. A level source stays asserted. Fuses, keys, option store and what has been put out stay; VIN power brings back
both CFG oscillators (log entry 7). -/
def Obligations.DeviceReachResets : Prop :=
  ∀ (s : State) (w f v : Nat) (tj : Int), let b := s.blk.pass w
    (b.rst.asserted.contains 1 = false → Answers (.vinPowerOn w true) s (allBut [.part, .up, .out, .tj]) fun u =>
      Cleared b u ∧ ResetCounted b u 1 ∧ u.rst.asserted = b.rst.asserted ++ [1]
      ∧ u.rst.crystal = true ∧ u.rst.startOsc = true ∧ u.rst.oscin = true)
    ∧ (b.rst.asserted.contains 2 = false → Answers (.resetN w true) s (allBut [.part, .up, .out, .tj]) fun u =>
      Cleared b u ∧ ResetCounted b u 2 ∧ u.rst.asserted = b.rst.asserted ++ [2])
    ∧ (b.rst.asserted.contains 3 = false → 125 ≤ tj → Answers (.thermalTrip w tj) s (allBut [.part, .up, .out]) fun u =>
      Cleared b u ∧ ResetCounted b u 3 ∧ u.rst.asserted = b.rst.asserted ++ [3] ∧ u.tj = tj)
    ∧ (b.rst.asserted.contains 4 = false → b.boot.done = true → b.flag R.RST_WDOG_EN = true →
      Answers (.watchdog w) s (allBut [.part, .up, .out, .tj]) fun u =>
        Cleared b u ∧ ResetCounted b u 4 ∧ u.rst.asserted = b.rst.asserted)
    ∧ (b.rst.asserted.contains 5 = false → b.setup f = true → v % 256 = 0xA5 →
      Answers (.devReset w f v) s (allBut [.part, .up, .out, .tj]) fun u =>
        Cleared b u ∧ ResetCounted b u 5 ∧ u.rst.asserted = b.rst.asserted)
    ∧ (b.rst.asserted.contains 6 = false → b.twin.attached = true → b.twin.link = true → b.twin.resetOk = true →
      Answers (.twinCommandedReset w) s (allBut [.part, .up, .out, .tj]) fun u =>
        Cleared b u ∧ ResetCounted b u 6 ∧ u.rst.asserted = b.rst.asserted)

/-- A level source that releases is no longer asserted, and boot starts when none is. The release of VIN_POWER_ON, RESET_N or
the thermal trip (at 105 degrees or less) takes the source off the asserted ones and changes nothing else; between 105 and 125
degrees nothing is asserted or released. BOOT_START begins LOADING at step S0 only in DORMANT with every source released and a
CFG clock, and shows CFG_FALLBACK where the crystal does not run; with a source asserted it changes nothing. -/
def Obligations.ResetSourcesRelease : Prop :=
  ∀ (s : State) (w : Nat) (tj : Int), let b := s.blk.pass w
    Answers (.vinPowerOn w false) s [.rst] (fun u => u.rst = { b.rst with asserted := b.rst.asserted.filter (· != 1) })
    ∧ Answers (.resetN w false) s [.rst] (fun u => u.rst = { b.rst with asserted := b.rst.asserted.filter (· != 2) })
    ∧ (tj ≤ 105 → Answers (.thermalTrip w tj) s [.rst, .tj] fun u =>
        u.rst = { b.rst with asserted := b.rst.asserted.filter (· != 3) } ∧ u.tj = tj)
    ∧ (105 < tj → tj < 125 → Answers (.thermalTrip w tj) s [.tj] fun u => u.tj = tj)
    ∧ (b.mode = .dormant → b.rst.asserted = [] → (b.rst.crystal = true ∨ b.rst.startOsc = true) →
        Answers (.bootStart w) s (touches (.bootStart w)) fun u =>
          u.mode = .loading ∧ u.lastMode = .dormant ∧ u.entryCause = 0 ∧ u.boot = { b.boot with step := some 0, restart := false, done := false }
          ∧ u.rst = { b.rst with seen := [] } ∧ (b.rst.crystal = false → u.flag R.RST_BOOT_CFG_FALLBACK = true))
    ∧ (b.rst.asserted ≠ [] → Answers (.bootStart w) s [] fun u => u = b)

/-- The Keep block is cleared with VKEEP, and by nothing else a reset does. VKEEP_POWER_ON clears every register of the Keep
block, loses the Keep clock and sets KEEP_LOST; VKEEP_LOST clears it and leaves VKEEP absent. Every other register stays. A
device-reach reset keeps every Keep register but those it counts in: the boot log stays whole where no boot is abandoned. -/
def Obligations.KeepBlock : Prop :=
  (∀ (s : State) (w : Nat), let b := s.blk.pass w
    Answers (.vkeepPowerOn w) s [.regs, .rst] (fun u => u.flag R.RST_KEEP_KEEP_LOST = true ∧ u.rd R.RST_KEEP_COUNT = 0
      ∧ u.rd R.RST_KEEP_FAIL_RUN = 0 ∧ u.rst = { b.rst with rtc := none, vkeep := true }
      ∧ (∀ k, isKeepKey k = true → k ≠ R.RST_KEEP → rfGet u.regs k = resetWord k)
      ∧ ∀ k, isKeepKey k = false → rfGet u.regs k = rfGet b.regs k)
    ∧ Answers (.vkeepLost w) s [.regs, .rst] (fun u => u.rst = { b.rst with rtc := none, vkeep := false }
      ∧ (∀ k, isKeepKey k = true → rfGet u.regs k = resetWord k)
      ∧ ∀ k, isKeepKey k = false → rfGet u.regs k = rfGet b.regs k))
  ∧ ∀ (b : Blk) (code : Nat), b.mode ≠ .loading → ∀ k, isKeepKey k = true → k ≠ R.RST_KEEP →
      rfGet (b.devReset code).regs k = rfGet b.regs k

/-- A unit reset that is requested begins, is refused, or ends. With SETUP, BENCH_RESET, ENGINE_RESET and PORT_RESET of a unit
that is present, not under reset and not covered by a wider reset release the unit from isolation and begin its reset; a Bench
reset wipes the key copies of its two Stitchers. A unit that is absent, or an engine whose Bench is resetting, is refused with
REFUSED set. UNIT_RESET_DONE ends a reset that the host asked for. NO_SEAL and the loss of every engine then follow as errors
(Blk.follow). -/
def Obligations.UnitResets : Prop :=
  ∀ (s : State) (w f i k : Nat), let b := s.blk.pass w
    (b.setup f = true → b.benchPresent i = true → b.resetting 1 i = false →
      Answers (.benchReset w f i) s (touches (.benchReset w f i)) fun u => ∃ c : Blk, u = Blk.follow b c
        ∧ c.rst.units = b.rst.units ++ [⟨1, i, true⟩] ∧ c.isHeld (0x40 + i) = false ∧ 2 * i ∈ c.nts.stale ∧ 2 * i + 1 ∈ c.nts.stale)
    ∧ (b.setup f = true → b.enginePresent i = true → b.resetting 1 (i / 16) = false → b.resetting 2 i = false →
      Answers (.engineReset w f i) s (touches (.engineReset w f i)) fun u => ∃ c : Blk, u = Blk.follow b c
        ∧ c.rst.units = b.rst.units ++ [⟨2, i, true⟩] ∧ c.isHeld i = false)
    ∧ (b.setup f = true → b.portPresent i = true → b.resetting 3 i = false →
      Answers (.portReset w f i) s (touches (.portReset w f i)) fun u => ∃ c : Blk, u = Blk.follow b c
        ∧ c.rst.units = b.rst.units ++ [⟨3, i, true⟩] ∧ c.isHeld (0x60 + i) = false)
    ∧ (b.setup f = true → b.benchPresent i = false → Answers (.benchReset w f i) s [.regs] fun u => u.flag R.RST_UNIT_REFUSED = true)
    ∧ (b.setup f = true → (b.enginePresent i = false ∨ b.resetting 1 (i / 16) = true) →
      Answers (.engineReset w f i) s [.regs] fun u => u.flag R.RST_UNIT_REFUSED = true)
    ∧ (b.setup f = true → b.portPresent i = false → Answers (.portReset w f i) s [.regs] fun u => u.flag R.RST_UNIT_REFUSED = true)
    ∧ (∀ x, (b.rst.units.find? fun u => u.kind == k && u.index == i) = some x → x.byHost = true →
      Answers (.unitResetDone w k i) s (touches (.unitResetDone w k i)) fun u => ∃ c : Blk, u = Blk.follow b c
        ∧ c.rst.units = b.rst.units.filter (fun v => !(v.kind == k && v.index == i)) ∧ c.resetting k i = false)

/-- A boot step that has done its work hands on to the next, and S9 leaves LOADING. In LOADING with no restart owed,
BOOT_STEP_DONE does the work of the step that runs, on the block and on the fuses. Where no check of the device fails, the
next step runs, which in the minimal configuration is one of S1, S3, S8 and S9. After S9 the boot is done: the mode is ACQUIRE
in DEPLOYED with AUTOSTART, else COMMISSION; in the minimal configuration COMMISSION with cause 9. The clause on a normal S9
is for a boot without alternatives, whose errors are stated with the error machinery. -/
def Obligations.BootSteps : Prop :=
  ∀ (s : State) (w n : Nat), let b := s.blk.pass w
    b.mode = .loading → b.boot.restart = false → b.boot.step = some n → (bootWork s.nvm b n).1 = 0 →
    (n ≠ 9 → AnswersN (.bootStepDone w) s (bootWork s.nvm b n).2.1 (touches (.bootStepDone w)) fun u =>
      u = { (bootWork s.nvm b n).2.2 with
            boot := { (bootWork s.nvm b n).2.2.boot with step := some (bootNext (bootWork s.nvm b n).2.2.boot.minimal n) } })
    ∧ (n = 9 → b.boot.minimal = true → AnswersN (.bootStepDone w) s s.nvm (touches (.bootStepDone w)) fun u =>
      u.mode = .commission ∧ u.lastMode = .loading ∧ u.entryCause = 9 ∧ u.boot = { b.boot with done := true, step := none })
    ∧ (n = 9 → b.bootAlt = false → b.boot.minimal = false → AnswersN (.bootStepDone w) s s.nvm (touches (.bootStepDone w)) fun u =>
      u.mode = (if s.nvm.lifecycle == .deployed && b.flag R.RST_SERVE_AUTOSTART then .acquire else .commission)
      ∧ u.lastMode = .loading ∧ u.entryCause = 0 ∧ u.boot = { b.boot with done := true, step := none })

/-- A failed boot step is counted and logged, and boot restarts from S0; the third failure boots minimal. In LOADING outside
the minimal configuration, BOOT_STEP_FAIL advances FAIL_RUN, saturating, while VKEEP is present, and owes a restart; from the
third failure the boot goes on in the minimal configuration. In the minimal configuration a failed step other than S9 hands on
to the next. BOOT_RESTART then sets aside what the attempt loaded and runs S0. -/
def Obligations.BootFailuresAndRestart : Prop :=
  ∀ (s : State) (w n r x y : Nat), let b := s.blk.pass w
    b.mode = .loading →
    (b.boot.step = some n → b.boot.restart = false → b.boot.minimal = false → b.rst.vkeep = true →
      Answers (.bootStepFail w r x y) s [.regs, .boot] fun u =>
        u.rd R.RST_KEEP_FAIL_RUN = satNat (b.rd R.RST_KEEP_FAIL_RUN + 1) 3
        ∧ u.boot.minimal = decide (3 ≤ b.rd R.RST_KEEP_FAIL_RUN + 1) ∧ u.boot.restart = true ∧ u.boot.step = some n)
    ∧ (b.boot.step = some n → b.boot.restart = false → b.boot.minimal = true → n ≠ 9 →
      Answers (.bootStepFail w r x y) s [.regs, .boot] fun u => u.boot = { b.boot with step := some (bootNext true n) })
    ∧ (b.boot.restart = true → Answers (.bootRestart w) s (touches (.bootRestart w)) fun u =>
        u.boot = { b.boot with step := some 0, restart := false, done := false, image := none } ∧ u.ins = {} ∧ u.laster = {} ∧ u.refs = {}
        ∧ u.heel = {} ∧ u.hold = {} ∧ u.outs = {} ∧ u.ct = {} ∧ u.eng = {}
        ∧ ∀ k, isKeepKey k = true → rfGet u.regs k = rfGet b.regs k)

/-- The loss of a CFG oscillator falls back or holds the block in DORMANT; the loss of OSCIN is a FATAL error. CFG_FALLBACK
with a start-up oscillator that works goes on: in DORMANT nothing but the oscillator is noted, in the other modes CFG_FALLBACK
is set and error 0x16 is raised. The loss of both CFG oscillators, in either order, leaves the block Cleared and DORMANT (log
entry 8). OSCIN_LOST notes the instant and raises error 0x17, which before S9 does nothing. -/
def Obligations.ClockLosses : Prop :=
  ∀ (s : State) (w : Nat), let b := s.blk.pass w
    (b.rst.crystal = true → b.rst.startOsc = true → b.mode = .dormant →
      Answers (.cfgFallback w) s [.rst] fun u => u.rst = { b.rst with crystal := false })
    ∧ (b.rst.crystal = true → b.rst.startOsc = true → b.mode ≠ .dormant →
      Answers (.cfgFallback w) s (touches (.cfgFallback w)) fun u => ∃ c : Blk, u = c.raise 0x16 0x89 0
        ∧ Frame [.rst, .regs] b c ∧ c.rst = { b.rst with crystal := false } ∧ c.flag R.RST_BOOT_CFG_FALLBACK = true)
    ∧ (b.rst.crystal = true → b.rst.startOsc = false → Answers (.cfgFallback w) s (touches (.cfgFallback w)) fun u =>
      Cleared b u ∧ u.rst.crystal = false ∧ u.rst.startOsc = false)
    ∧ (b.rst.startOsc = true → b.rst.crystal = true →
      Answers (.startupOscillatorLost w) s [.rst] fun u => u.rst = { b.rst with startOsc := false })
    ∧ (b.rst.startOsc = true → b.rst.crystal = false →
      Answers (.startupOscillatorLost w) s (touches (.startupOscillatorLost w)) fun u =>
        Cleared b u ∧ u.rst.crystal = false ∧ u.rst.startOsc = false)
    ∧ (b.rst.oscin = true → Answers (.oscinLost w) s (touches (.oscinLost w)) fun u =>
      u = Blk.raise { b with rst := { b.rst with oscin := false, oscinUp := b.up } } 0x17 0xFF 0)
    ∧ (b.rst.oscin = true → b.boot.done = false → Answers (.oscinLost w) s [.rst] fun u =>
      u.rst = { b.rst with oscin := false, oscinUp := b.up })

/-- A completion is written at the producer index of its ring, then the index, and the descriptor is gone. Completing a
descriptor that its ring holds puts out a write of the 32 bytes of the completion at CQ_PI modulo the ring and then a write of
CQ_PI + 1 to the doorbell slot, advances CQ_PI modulo 2^32, takes the descriptor off the ring and leaves every other ring
alone; a completion of a descriptor that is gone does nothing. The bytes carry the opcode, the status, the tag bytes 4 to 7,
the short time and the submission index. -/
def Obligations.CompletionWritten : Prop :=
  (∀ (b : Blk) (r : DRef) (d : Desc) (status : Nat) (result : Bytes), b.desc? r = some d →
    let u := b.complete r status result
    let x := b.ringOf r.ring
    let page := b.addr64 (R.HRG_DBP_LO (b.ringOwner r.ring)) (R.HRG_DBP_HI (b.ringOwner r.ring))
    let base := b.addr64 (R.HRG_CQ_LO r.ring) (R.HRG_CQ_HI r.ring)
    let len := ringLen (b.rd (R.HRG_SIZE_CQ_LOG r.ring))
    u.out = .hostWrite (b.ringOwner r.ring) (page + 0x40 * r.ring + 20) (leB 4 ((x.cqPi + 1) % 0x100000000))
        :: .hostWrite (b.ringOwner r.ring) (base + 32 * (x.cqPi % len))
            (complBytes d status (complFlags x.cqPi len b.ins.stepGen false) (shortOf b.ins.now) result) :: b.out
    ∧ (u.ringOf r.ring).cqPi = (x.cqPi + 1) % 0x100000000 ∧ (u.ringOf r.ring).descs = x.descs.filter (fun e => e.id != d.id)
    ∧ (∀ q, q ≠ r.ring → u.ringOf q = b.ringOf q) ∧ Frame [.out, .rings, .pmc, .flow] b u)
  ∧ (∀ (b : Blk) (r : DRef) (status : Nat) (result : Bytes), b.desc? r = none → b.complete r status result = b)
  ∧ ∀ (d : Desc) (status flags short : Nat) (result : Bytes), (complBytes d status flags short result).length = 32
    ∧ byteAt (complBytes d status flags short result) 0 = byteAt d.data 0
    ∧ byteAt (complBytes d status flags short result) 1 = status % 256
    ∧ sliceB (complBytes d status flags short result) 4 4 = sliceB d.data 4 4
    ∧ leAt (complBytes d status flags short result) 8 4 = short % 0x100000000
    ∧ leAt (complBytes d status flags short result) 12 4 = d.idx % 0x100000000
    ∧ sliceB (complBytes d status flags short result) 16 16 = sliceB result 0 16

/-- A session opens by its proof, and closes with everything its function had. SES_OPEN of an IDLE function with a key takes
N_h and M_h as they stand and begins VERIFYING; without a key it sets FAILED. SESSION_VERIFY_DONE opens the session where M_h
is right, with the next tag, the privileges of the key and a failure count of 0; where it is wrong the session is not open and
FAILED is set. CLOSE and the idle timer end an open session: privileges and key are gone, the rings and the event ring of the
function stop and a new challenge is drawn; other sessions stay. LOCKOUT_END returns a LOCKED function to IDLE when its time
has come. -/
def Obligations.SessionsOpenAndClose : Prop :=
  ∀ (s : State) (w f : Nat), let b := s.blk.pass w
    (b.hostUp = true → (b.sesOf f).st = .idle → s.nvm.keyPresent f = true → Answers (.sesOpen w f) s [.ses] fun u =>
      u.sesOf f = { b.sesOf f with st := .verifying, hnonce := b.wordBytes (R.SES_HNONCE f) 4, hmac := b.wordBytes (R.SES_HMAC f) 8 }
      ∧ ∀ g, g ≠ f → u.sesOf g = b.sesOf g)
    ∧ (b.hostUp = true → (b.sesOf f).st = .idle → s.nvm.keyPresent f = false → Answers (.sesOpen w f) s [.regs] fun u =>
      u.flag (R.SES_STATUS_FAILED f) = true)
    ∧ (∀ k, (b.sesOf f).st = .verifying → s.nvm.provOf f = some k → mhOf k.key f (b.sesOf f).challenge (b.sesOf f).hnonce = (b.sesOf f).hmac →
      Answers (.sessionVerifyDone w f) s [.ses, .freeCtr] fun u => (u.sesOf f).st = .opened ∧ (u.sesOf f).failCnt = 0
        ∧ (u.sesOf f).tag = tagNext (b.sesOf f).tag ∧ (u.sesOf f).priv = b.privOf k.mask ∧ (u.sesOf f).idleFrom = b.up
        ∧ ∀ g, g ≠ f → u.sesOf g = b.sesOf g)
    ∧ (∀ k, (b.sesOf f).st = .verifying → s.nvm.provOf f = some k → mhOf k.key f (b.sesOf f).challenge (b.sesOf f).hnonce ≠ (b.sesOf f).hmac →
      Answers (.sessionVerifyDone w f) s [.ses, .freeCtr, .regs] fun u => (u.sesOf f).st ≠ .opened ∧ u.flag (R.SES_STATUS_FAILED f) = true
        ∧ (u.sesOf f).failCnt = min 16 ((b.sesOf f).failCnt + 1) ∧ (u.sesOf f).chal = b.freeCtr)
    ∧ (b.hostUp = true → (b.sesOf f).st = .opened → Answers (.sesClose w f) s (touches (.sesClose w f)) fun u =>
      Closed b u f ∧ (u.sesOf f).cause = 1)
    ∧ (b.idleOver f = true → Answers (.idleTimeout w f) s (touches (.idleTimeout w f)) fun u => Closed b u f ∧ (u.sesOf f).cause = 4)
    ∧ ((b.sesOf f).st = .locked → (b.sesOf f).lockUntil ≤ b.up → Answers (.lockoutEnd w f) s [.ses] fun u =>
      u.sesOf f = { b.sesOf f with st := .idle } ∧ ∀ g, g ≠ f → u.sesOf g = b.sesOf g)
    ∧ (b.hostUp = true → s.nvm.provAllowed f = true →
      AnswersN (.sesProvLoad w f) s { s.nvm with prov := tput s.nvm.prov f ⟨b.wordBytes (R.SES_PROV f) 8, 0x1FFF⟩ } [] fun u => u = b)

/-- The eighth failed verification in a row and each after it lock the function out, for twice as long each time. A refused
verification counts, saturating at 16; below eight the function is IDLE, from the eighth on LOCKED for 2^(count - 8) s, at
most 256 s, and SES_LOCK reads the remaining seconds, rounded up. A verification that passes clears the count. PERST# and FLR
(hostReset) and the device resets of the watchdog, host software and the twin (causes 4, 5, 6) keep count and remaining
lockout; VIN power-on, RESET_N and the thermal trip (1, 2, 3) clear them. -/
def Obligations.FailuresLockOut : Prop :=
  ∀ (b : Blk) (f : Nat), f < 4 → let x := b.sesOf f;
    (let y := (Blk.sesRefused f b).sesOf f;
      y.failCnt = min 16 (x.failCnt + 1) ∧ (y.failCnt < 8 → y.st = .idle)
      ∧ (8 ≤ y.failCnt → y.st = .locked ∧ y.lockUntil = b.up + secU (min 256 (2 ^ (y.failCnt - 8)))))
    ∧ (∀ k, ((Blk.sesOpened k f b).sesOf f).failCnt = 0)
    ∧ (∀ nvm, x.st = .locked → x.lockUntil ≤ b.up + secU 256 → b.shownSes nvm f 0x1008 0 = ceilDiv (x.lockUntil - b.up) (secU 1))
    ∧ (∀ g cause, ((b.hostReset g cause).sesOf f).failCnt = x.failCnt ∧ ((b.hostReset g cause).sesOf f).lockUntil = x.lockUntil
        ∧ (x.st = .locked → ((b.hostReset g cause).sesOf f).st = .locked))
    ∧ (∀ code, code ∈ [4, 5, 6] → b.rst.asserted.contains code = false →
        ((b.devReset code).sesOf f).failCnt = x.failCnt ∧ (x.st = .locked → b.up < x.lockUntil →
          ((b.devReset code).sesOf f).st = .locked ∧ ((b.devReset code).sesOf f).lockUntil = x.lockUntil))
    ∧ (∀ code, code ∈ [1, 2, 3] → b.rst.asserted.contains code = false →
        ((b.devReset code).sesOf f).failCnt = 0 ∧ ((b.devReset code).sesOf f).st = .idle)

/-- PERST# and a function-level reset return the host side of the functions they reach. PERST# stops every function and FLR
one: sessions are not open, ring pairs and event rings do not run and their registers return, while FLR leaves the sessions
and rings of the other functions alone; the release of PERST# changes nothing else. The Insole, the references, the ports and
the service of requests go on. -/
def Obligations.HostSideResets : Prop :=
  ∀ (s : State) (w f : Nat), let b := s.blk.pass w
    (b.rst.perst = false → Answers (.perst w true) s (touches (.perst w true)) fun u => u.rst = { b.rst with perst := true }
      ∧ (∀ g, g < 4 → (u.sesOf g).st ≠ .opened ∧ u.evtOf g = {}) ∧ ∀ r, r < 64 → (u.ringOf r).running = false ∧ (u.ringOf r).descs = [])
    ∧ Answers (.perst w false) s [.rst] (fun u => u.rst = { b.rst with perst := false })
    ∧ (b.rst.perst = false → Answers (.flr w f) s (touches (.flr w f)) fun u => (u.sesOf f).st ≠ .opened ∧ u.evtOf f = {}
      ∧ (∀ g, g ≠ f → u.sesOf g = b.sesOf g ∧ u.evtOf g = b.evtOf g)
      ∧ ∀ r, r < 64 → if b.ringOwner r = f then (u.ringOf r).running = false ∧ (u.ringOf r).descs = [] else u.ringOf r = b.ringOf r)

/-- Ring pairs start, fetch and stop, and doorbells are read. RING_ENABLE starts a stopped ring pair of an open session from
index zero where its settings are valid, and stops it with error 1 where they are not. RING_DISABLE with nothing in hand stops
it. A doorbell poll and HRG_NUDGE take the words of each slot read. DESCRIPTOR_FETCH stages the 32 bytes read at SQ_CI,
advances it and writes it to the doorbell slot; a descriptor that fails a check of R302 completes at once with the status of
that check. -/
def Obligations.RingsRunAndStop : Prop :=
  ∀ (s : State) (w r f pi ci : Nat) (data : Bytes), let b := s.blk.pass w
    (b.ringSes r = true → b.flag (R.HRG_CTL_ENABLE r) = false → (b.ringOf r).running = false → b.ringValid r = true →
      Answers (.ringEnable w r) s [.regs, .rings] fun u => u.flag (R.HRG_CTL_ENABLE r) = true
        ∧ u.ringOf r = { nextId := (b.ringOf r).nextId, running := true } ∧ ∀ q, q ≠ r → u.ringOf q = b.ringOf q)
    ∧ (b.ringSes r = true → b.flag (R.HRG_CTL_ENABLE r) = false → (b.ringOf r).running = false → b.ringValid r = false →
      Answers (.ringEnable w r) s (touches (.ringEnable w r)) fun u => (u.ringOf r).running = false ∧ (u.ringOf r).err = 1)
    ∧ (b.ringSes r = true → b.flag (R.HRG_CTL_ENABLE r) = true → (b.ringOf r).descs = [] →
      Answers (.ringDisable w r) s [.regs, .rings, .clk] fun u => u.flag (R.HRG_CTL_ENABLE r) = false
        ∧ u.ringOf r = { b.ringOf r with err := 0, stopping := false, running := false } ∧ ∀ q, q ≠ r → u.ringOf q = b.ringOf q)
    ∧ (b.sesOpen f = true → b.ringOwner r = f → r < 64 → f < 4 → pi < 0x100000000 → ci < 0x100000000 →
      (b.ringOf r).running = true → (b.ringOf r).err = 0 → (pi + 0x100000000 - (b.ringOf r).sqCi) % 0x100000000 ≤ b.sqLen r →
      ((b.ringOf r).cqPi + 0x100000000 - ci) % 0x100000000 ≤ b.cqLen r →
      Answers (.hrgNudge w f [r, pi, ci]) s [.ses, .rings, .pmc] (fun u => u.ringOf r = { b.ringOf r with sqPi := pi, cqCi := ci }
        ∧ (u.sesOf f).idleFrom = b.up)
      ∧ Answers (.doorbellPoll w [r, pi, ci] []) s [.ses, .rings, .pmc] fun u => u.ringOf r = { b.ringOf r with sqPi := pi, cqCi := ci })
    ∧ (b.canFetch r = true → data.length = 32 → b.descCheck (b.ringOwner r) data = none →
      Answers (.descriptorFetch w r data) s [.ses, .rings, .pmc, .out] fun u =>
        u.ringOf r = { b.ringOf r with sqCi := ((b.ringOf r).sqCi + 1) % 0x100000000, nextId := (b.ringOf r).nextId + 1
                                       descs := (b.ringOf r).descs ++ [{ id := (b.ringOf r).nextId, idx := (b.ringOf r).sqCi, data := data }] }
        ∧ .hostWrite (b.ringOwner r) (b.addr64 (R.HRG_DBP_LO (b.ringOwner r)) (R.HRG_DBP_HI (b.ringOwner r)) + 0x40 * r + 16)
            (leB 4 (((b.ringOf r).sqCi + 1) % 0x100000000)) ∈ u.out)
    ∧ (∀ st, b.canFetch r = true → data.length = 32 → b.descCheck (b.ringOwner r) data = some st →
      Answers (.descriptorFetch w r data) s (touches (.descriptorFetch w r data)) fun u =>
        u = (b.stage r data).complete ⟨r, (b.ringOf r).nextId⟩ st [])

/-- Event rings start with a RESUME anchor, and interrupts are recorded before they are sent. EVENT_RING_ENABLE starts the
event ring of an open session at index zero and offers it a RESUME anchor. ANCHOR, within 10 us of a whole second, offers each
running ring an anchor of that second. INTERRUPT on a vector that is due, not masked and with room clears its count, offers
the INTERRUPT record and then sends the message of the vector; a masked one stays pending. GSUM_REPORT offers the STATUS
record of bits held back. A write of EVT_GINT_EN holds the mask written and reports what the newly set bits show. -/
def Obligations.EventRingsAndInterrupts : Prop :=
  ∀ (s : State) (w f v : Nat), let b := s.blk.pass w
    (b.sesOpen f = true → b.flag (R.EVT_CTL_ENABLE f) = false → Answers (.eventRingEnable w f) s [.regs, .evts, .out] fun u =>
      ∃ c : Blk, u = c.offer f 1 (anchorBytes b.ins.stepGen b.ins.timeValid 4 b.ins.now 0) ∧ Frame [.regs, .evts] b c
        ∧ c.evtOf f = { running := true, gsum := b.gsum } ∧ c.flag (R.EVT_CTL_ENABLE f) = true)
    ∧ (b.ins.running = true → b.ins.now - wholeSec b.ins.now ≤ usU 10 → Answers (.anchor w) s [.evts, .out] fun u =>
      u = b.anchorAll 0 (wholeSec b.ins.now) 0)
    ∧ (b.sesOpen f = true → b.vecDue f v = true → b.vecMasked f v = false → b.vecRoom f = true →
      Answers (.interrupt w f v) s [.out, .rings, .evts] fun u => ∃ c : Blk, u = c.vecSend f v
        ∧ c = (b.vecClear f v).record f 2 0 v b.ins.now (leB 4 (b.vecCount f v))
        ∧ (b.vecClear f v).vecCount f v = 0 ∧ v ∉ ((b.vecClear f v).evtOf f).pend)
    ∧ (b.sesOpen f = true → b.vecDue f v = true → b.vecMasked f v = true → Answers (.interrupt w f v) s [.evts] fun u =>
      v ∈ (u.evtOf f).pend)
    ∧ ((b.evtOf f).running = true → b.gsumReady f ≠ 0 → Answers (.gsumReport w f) s [.out, .evts] fun u => ∃ c,
      u = c.record f 0x0F 0 (b.gsumReady f) b.ins.now (leB 4 b.gsum ++ leB 4 b.gstat)
        ∧ Frame [.evts] b c ∧ (c.evtOf f).gHeld = (b.evtOf f).gHeld - b.gsumReady f)
    ∧ (b.sesOpen f = true → Answers (.evtGintEnWrite w f v) s [.out, .regs, .evts] fun u => u.rd (R.EVT_GINT_EN_EN f) = v % 16384)

/-- Buffers are posted, snapshots written, and a failed read of host memory times out. RX_BUFFER on the exception ring with a
length of 64 to 16,384 stays posted; on another ring it is DENIED. STATS_SNAPSHOT of blocks the session may read writes their
images to host memory and completes with their length. A host-memory read that fails for the next descriptor completes it with
TIMEOUT. A host that has stalled has its block reset as on PERST#, HOST_STALL set and counted, and error 0x24 raised. -/
def Obligations.HostDescriptors : Prop :=
  ∀ (s : State) (w r : Nat) (d : Desc), let b := s.blk.pass w
    (Ready b r d 0x02 → r = b.rd R.CLK_EXC_RING → 64 ≤ leAt d.data 16 2 → leAt d.data 16 2 ≤ 16384 →
      Answers (.rxBuffer w r) s [.rings] fun u => u = b.beginDesc r d)
    ∧ (Ready b r d 0x02 → r ≠ b.rd R.CLK_EXC_RING → Completes (.rxBuffer w r) s r d stDenied [] [] fun _ => True)
    ∧ (Ready b r d 0x50 → leAt d.data 8 2 < 128 →
      (((List.range 8).filter (bitOf (leAt d.data 8 2) ·)).flatMap b.statsImage).length ≤ leAt d.data 24 4 →
      Completes (.statsSnapshot w r) s r d stOk
        (leB 4 (((List.range 8).filter (bitOf (leAt d.data 8 2) ·)).flatMap b.statsImage).length) [.out] fun g =>
          g.out = .hostWrite (b.ringOwner r) (leAt d.data 16 8) (((List.range 8).filter (bitOf (leAt d.data 8 2) ·)).flatMap b.statsImage) :: b.out)
    ∧ (∀ op, op ∈ [0x01, 0x10, 0x24, 0x31, 0x40, 0x60] → Ready b r d op →
      Completes (.pcieCompletionTimeout w r) s r d stTimeout [] [] fun _ => True)
    ∧ (b.hostUp = true → Answers (.hostStall w) s (touches (.hostStall w)) fun u => ∃ c : Blk, u = c.raiseEnv errHostStall 0
        ∧ (∀ g, g < 4 → (c.sesOf g).st ≠ .opened) ∧ c.flag R.FLC_STATUS_HOST_STALL = true
        ∧ tget 0 c.ctr C.FLC_HOST_STALL = (tget 0 b.ctr C.FLC_HOST_STALL + 1) % 0x10000000000000000)

/-- LCS_ARM arms a transition that R382 lists, and LCS_GO carries it out. From F0 with SETUP in COMMISSION, LCS_ARM of a
target that R382 lists, with the nonce shown, arms it; of another target it answers RESULT 3 and arms nothing. LCS_GO that
confirms what is armed in time, with its condition met, performs the transition on the fuses and resets the block with RESULT
8; where a fuse fails to verify, RESULT is 7 and nothing is fused; where the sequence is interrupted, the intent record is
left for S1. A target whose condition is not met answers RESULT 6 and changes no fuse. -/
def Obligations.LifecycleCommands : Prop :=
  ∀ (s : State) (w v : Nat) (t : Lifecycle), let b := s.blk.pass w
    b.setup 0 = true → b.mode = .commission →
    (Lifecycle.ofCode? (v % 8) = some t → lcsAllowed s.nvm.lifecycle t = true → v / 65536 % 65536 = b.lcsNonce →
      Answers (.lcsArm w 0 v) s [.lcs, .freeCtr] fun u => u.lcs.result = 1 ∧ u.lcs.armed = some (v % 8, v, b.up) ∧ u.lcs.lastTarget = v % 8)
    ∧ (Lifecycle.ofCode? (v % 8) = some t → lcsAllowed s.nvm.lifecycle t = false →
      Answers (.lcsArm w 0 v) s [.lcs, .freeCtr] fun u => u.lcs.result = 3 ∧ u.lcs.armed = none)
    ∧ (b.lcsConfirmed v = some t → lcsAllowed s.nvm.lifecycle t = true → lcsReady s.nvm t b.ownerDigest = true →
      (b.rst.asserted.contains 7 = false → AnswersN (.lcsGo w 0 v 0) s (s.nvm.transit t b.ownerDigest) (touches (.lcsGo w 0 v 0)) fun u =>
        Cleared b u ∧ ResetCounted b u 7 ∧ u.lcs.result = 8 ∧ u.lcs.armed = none)
      ∧ AnswersN (.lcsGo w 0 v 1) s (s.nvm.transitErase t) (touches (.lcsGo w 0 v 1)) (fun u =>
        u.mode = .commission ∧ u.lcs.result = 7 ∧ u.lcs.armed = none ∧ u.ct.rows = [] ∧ ∀ f, f < 4 → (u.sesOf f).st ≠ .opened)
      ∧ AnswersN (.lcsGo w 0 v 2) s { s.nvm with intent := some (t, b.ownerDigest) } (touches (.lcsGo w 0 v 2)) (fun u =>
        u.lcs.result = 0 ∧ u.lcs.armed = none ∧ ∀ f, f < 4 → (u.sesOf f).st ≠ .opened))
    ∧ (b.lcsConfirmed v = some t → lcsAllowed s.nvm.lifecycle t = true → lcsReady s.nvm t b.ownerDigest = false →
      AnswersN (.lcsGo w 0 v 0) s s.nvm [.lcs, .freeCtr] fun u => u.lcs.result = 6 ∧ u.lcs.armed = none)

/-- Provisioning keys are installed and erased, and copies of the image written, from COMMISSION. From F0 with SETUP in
COMMISSION, LCS_KEY_INSTALL of a key block that unwraps stores the key and mask of the function it names, and LCS_KEY_ERASE
takes it away but for the key of F0 in PROVISIONED and DEPLOYED, which is refused; both answer RESULT 1. OPT_WRITE_START marks
the copy invalid and is BUSY; OPT_WRITE_DONE of an image that passes its checks and has the length announced makes the copy
valid with RESULT 1, and one that fails a check answers that check and leaves the store. RAISE_SVN lifts the floor to the
version of the running image and never lowers it. -/
def Obligations.KeysAndOptionStore : Prop :=
  ∀ (s : State) (w v : Nat), let b := s.blk.pass w
    b.setup 0 = true →
    (∀ k, b.mode = .commission → keyUnwrap (b.sesOf 0).ks (b.wordBytes R.LCS_KEY 10) = some k → v < 0x100000000 →
      AnswersN (.lcsKeyInstall w 0 v) s { s.nvm with prov := tput s.nvm.prov (v % 4) ⟨k, v / 16 % 8192⟩ } (touches (.lcsKeyInstall w 0 v)) fun u =>
        u.lcs = { b.lcs with keyResult := 1 } ∧ (v % 4 ≠ 0 → (u.sesOf (v % 4)).st ≠ .opened) ∧ (v % 4 = 0 → u.ses = b.ses))
    ∧ (b.mode = .commission → v < 0x100000000 → (v % 4 ≠ 0 ∨ (s.nvm.lifecycle ≠ .provisioned ∧ s.nvm.lifecycle ≠ .deployed)) →
      AnswersN (.lcsKeyErase w 0 v) s { s.nvm with prov := tdel s.nvm.prov (v % 4) } (touches (.lcsKeyErase w 0 v)) fun u =>
        u.lcs = { b.lcs with keyResult := 1 } ∧ (u.sesOf (v % 4)).st ≠ .opened)
    ∧ (b.mode = .commission → v < 0x100000000 → v % 4 = 0 → (s.nvm.lifecycle = .provisioned ∨ s.nvm.lifecycle = .deployed) →
      AnswersN (.lcsKeyErase w 0 v) s s.nvm [.regs, .lcs] fun u => u.lcs = { b.lcs with keyResult := 3 })
    ∧ (∀ copyB, b.lcs.optBusy = false → AnswersN (.optWriteStart w 0 copyB) s (s.nvm.putCopy copyB {}) [.regs, .lcs] fun u =>
      u.lcs = { b.lcs with optBusy := true, optCopy := copyB, optResult := 0 })
    ∧ (∀ bytes, b.lcs.optBusy = true → olfelCheck s.nvm bytes = none → bytes.length = b.rd R.LCS_OPT_LEN_VALUE →
      AnswersN (.optWriteDone w bytes 0) s (s.nvm.putCopy b.lcs.optCopy { valid := true, bytes := bytes }) [.lcs] fun u =>
        u.lcs = { b.lcs with optBusy := false, optResult := 1 })
    ∧ (∀ bytes x, b.lcs.optBusy = true → olfelCheck s.nvm bytes = some x →
      AnswersN (.optWriteDone w bytes 0) s s.nvm [.lcs] fun u => u.lcs = { b.lcs with optBusy := false, optResult := olfelResult x })
    ∧ (∀ i, b.boot.image = some i → b.mode = .commission →
      AnswersN (.raiseSvn w 0) s { s.nvm with svnFloor := max s.nvm.svnFloor i.svn } [.regs, .lcs] fun u => u.lcs = b.lcs)

/-- A register request reads or writes each register whole, and what does not act is noted. With the host interface up,
REGISTER_WRITE of one dword with all byte enables acts as writeOne, a read of one dword returns readOne under its byte
enables, and a read of BAR2 returns the mirrored words. Before S9 or under PERST# nothing happens. A write of part of a
register changes nothing and is noted; three dwords or more are not acted on, are noted, and as a read return zero.
AccessErrors says when writeOne and readOne act. -/
def Obligations.RegisterRequests : Prop :=
  ∀ (s : State) (w f off be v : Nat) (write : Bool) (vals : List Nat), let b := s.blk.pass w
    (b.hostUp = false → AnswersN (.registerWrite w f off be write vals) s s.nvm [] fun u => u = b)
    ∧ (b.hostUp = true → off < 0x100000 → be % 16 = 15 →
      AnswersN (.registerWrite w f off be true [v]) s (writeOne s.nvm b (f % 4) (off / 4 * 4) v).1 (touches (.registerWrite w f off be true [v])) fun u =>
        u = (writeOne s.nvm b (f % 4) (off / 4 * 4) v).2)
    ∧ (b.hostUp = true → off < 0x100000 → be % 16 ≠ 15 → isMsix (off / 4 * 4) = false →
      AnswersN (.registerWrite w f off be true [v]) s s.nvm [.regs] fun u => u = b.accErr (f % 4) 1 (off / 4 * 4) true)
    ∧ (b.hostUp = true → off < 0x100000 → AnswersN (.registerWrite w f off be false [v]) s s.nvm (touches (.registerWrite w f off be false [v])) fun u =>
        u = (b.readOne s.nvm (f % 4) (off / 4 * 4)).1.readOut (f % 4) (off / 4 * 4) [beMask (be % 16) (b.readOne s.nvm (f % 4) (off / 4 * 4)).2])
    ∧ (b.hostUp = true → 0x100000 ≤ off → AnswersN (.registerWrite w f off be false [v]) s s.nvm [.out] fun u =>
        u = b.readOut (f % 4) (off / 4 * 4) [b.bar2Word (f % 4) (off / 4 * 4 - 0x100000)])
    ∧ (b.hostUp = true → off < 0x100000 → 3 ≤ vals.length → isMsix (off / 4 * 4) = false →
      AnswersN (.registerWrite w f off be true vals) s s.nvm [.regs] (fun u => u = b.accErr (f % 4) 0 (off / 4 * 4) true)
      ∧ AnswersN (.registerWrite w f off be false vals) s s.nvm [.regs, .out] fun u =>
        u.out = .readData (f % 4) (off / 4 * 4) (List.replicate vals.length 0) :: b.out)

/-- An access that is not acted on as written sets its bit, and the first one is captured. For a function with an open session
the bit of its kind is set in EVT_ACCERR and the others stay; EVT_ACCADDR takes the offset, the kind and whether the access
was a write only while EVT_ACCERR reads zero. For a function without an open session nothing is recorded. Of several
conditions the first in the order of EVT_ACCERR is the one recorded: long before partial, reserved, absent, without privilege,
locked. A write of the value an RWL field already holds records nothing. -/
def Obligations.AccessErrors : Prop :=
  (∀ (b : Blk) (f kind off : Nat) (write : Bool), f < 4 → kind < 6 → off < 0x100000 →
    (b.sesOpen f = false → b.accErr f kind off write = b)
    ∧ (b.sesOpen f = true → let u := b.accErr f kind off write;
      u.rd ⟨R.EVT_ACCERR f, kind, 1⟩ = 1 ∧ (∀ j, j < 32 → j ≠ kind → u.rd ⟨R.EVT_ACCERR f, j, 1⟩ = b.rd ⟨R.EVT_ACCERR f, j, 1⟩)
      ∧ (b.rdW (R.EVT_ACCERR f) = 0 → u.rdW (R.EVT_ACCADDR f) = off + 0x100000 * kind + 0x800000 * b2n write)
      ∧ (b.rdW (R.EVT_ACCERR f) ≠ 0 → u.rdW (R.EVT_ACCADDR f) = b.rdW (R.EVT_ACCADDR f))
      ∧ Frame [.regs] b u))
  ∧ (∀ (nvm : Nvm) (b : Blk) (f off be : Nat) (vals : List Nat) (v : Nat), b.hostUp = true → off < 0x100000 → isMsix off = false →
    (3 ≤ vals.length → request nvm b f off be true vals = (nvm, b.accErr f 0 off true))
    ∧ (be % 16 ≠ 15 → request nvm b f off be true [v] = (nvm, b.accErr f 1 off true))
    ∧ (be % 16 = 15 → request nvm b f off be true [v] = writeOne nvm b f off v)
    ∧ (isDefined off = false → writeOne nvm b f off v = (nvm, b.accErr f 2 off true))
    ∧ (isDefined off = true → b.absentAt off = true → writeOne nvm b f off v = (nvm, b.accErr f 3 off true))
    ∧ (isDefined off = true → b.absentAt off = false → b.mayWrite f off = false → writeOne nvm b f off v = (nvm, b.accErr f 4 off true))
    ∧ (b.sesOpen f = true → isDefined off = false → b.readOne nvm f off = (b.accErr f 2 off false, 0))
    ∧ (b.sesOpen f = true → isDefined off = true → b.absentAt off = true → (b.readOne nvm f off).1 = b.accErr f 3 off false)
    ∧ (∀ x word, word = BitVec.ofNat 32 (b.maskBits off (v % 0x100000000)) → b.absentAt off = false → b.mayWrite f off = true → regRow? off = some x →
      writeOne nvm b f off v = writeReg nvm (if b.lockedDiff f off word then b.accErr f 5 off true else b) f off word x.1 x.2))
  ∧ (∀ (b : Blk) (f off : Nat) (v : Word) (x : RegRow × Nat), regRow? off = some x → x.1.base ≠ 0x1004C →
    (b.mode = .commission → b.lockedDiff f off v = false) ∧ ((∀ y ∈ x.1.fields, y.acc ≠ .rwl) → b.lockedDiff f off v = false)
    ∧ (b.mode ≠ .commission → (b.lockedDiff f off v = true ↔
        rowWrite true x.1 off v (rfGet b.regs (if x.1.banked then bank f off else off))
          ≠ rowWrite false x.1 off v (rfGet b.regs (if x.1.banked then bank f off else off)))))
  ∧ ∀ (b : Blk) (f j : Nat) (v : Word), j < 6 →
    (b.regWrite f 0x6028 v).rd ⟨R.EVT_ACCERR f, j, 1⟩ = if v.getLsbD j then 0 else b.rd ⟨R.EVT_ACCERR f, j, 1⟩

/-- A read that latches returns its word and holds the others for the function that read. For a function with an open session,
TBS_NOW0_READ returns NS of the Insole and latches the other words, COUNTER_LO_READ the low word of a 64-bit counter with the
high word latched, ERR_LOG_READ word 0 of an entry with words 1 to 3 latched, HLD_OMIS_READ the whole nanoseconds of M with
the picoseconds latched, and PMC_CNT_LO_READ, with PMC_READ, the low word of a counter with its high word latched. What
another function has latched stays. -/
def Obligations.LatchedReads : Prop :=
  ∀ (s : State) (w f : Nat), let b := s.blk.pass w
    b.sesOpen f = true →
    (Answers (.tbsNow0Read w f) s [.latch, .out] fun u => u.out = .readData f R.TBS_NOW0 [BitVec.ofNat 32 (nsOf b.ins.now)] :: b.out
      ∧ u.latched f 0x8014 = secOf b.ins.now % 0x100000000
      ∧ u.latched f 0x8018 = secOf b.ins.now / 0x100000000 % 65536 + 65536 * fracOf b.ins.now ∧ u.latched f 0x801C = shortOf b.ins.now
      ∧ ∀ k, k / 0x100000 ≠ f → tget 0 u.latch k = tget 0 b.latch k)
    ∧ (∀ off lo copy, counterAt? counterRanges off = some (lo, copy, false) → b.absentAt off = false →
      Answers (.counterLoRead w f off) s [.latch, .out] fun u =>
        u.out = .readData f off [BitVec.ofNat 32 (tget 0 b.ctr lo % 0x100000000)] :: b.out ∧ u.latched f (lo + 4) = tget 0 b.ctr lo / 0x100000000)
    ∧ (∀ i e, i < 32 → b.err.at? i = some e → Answers (.errLogRead w f i) s [.latch, .out] fun u =>
        u.out = .readData f (0x2E200 + 0x10 * i) [BitVec.ofNat 32 e.w0] :: b.out
        ∧ u.latched f (0x2E204 + 0x10 * i) = e.w1 ∧ u.latched f (0x2E208 + 0x10 * i) = e.w2 ∧ u.latched f (0x2E20C + 0x10 * i) = e.w3)
    ∧ (∀ n, b.unitPresent n = true → n < 18 → Answers (.hldOmisRead w f n) s [.latch, .out] fun u =>
        u.out = .readData f (R.HLD_OMIS n) [BitVec.ofNat 32 (b.misNs n)] :: b.out ∧ u.latched f (R.HLD_OST n) = b.misPs n)
    ∧ (∀ i, i < 512 → b.pmcReads f = true → b.pmc.chained = false → Answers (.pmcCntLoRead w f i) s [.latch, .out] fun u =>
        u.out = .readData f (pmcLo i) [BitVec.ofNat 32 (b.pmcVal i % 0x100000000)] :: b.out ∧ u.latched f (pmcHi i) = b.pmcVal i / 0x100000000)

/-- A counter is loaded from the held high word and the written low word, and a wrap writes its sample. With SETUP and
PMC_READ, PMC_CNT_HI_WRITE holds bits 15:0, and PMC_CNT_LO_WRITE loads the counter with the held high word and the written low
word and clears what was held; the other counters stay. PMC_WRAP of a counter with a sample owed writes the oldest as a
PMC_SAMPLE record, of the instant of the wrap, to the function SAMP_FUNC, and owes it no longer. -/
def Obligations.PmcWritesAndWraps : Prop :=
  ∀ (s : State) (w f i v : Nat), let b := s.blk.pass w
    i < 512 →
    (b.pmcWrites f = true → Answers (.pmcCntHiWrite w f i v) s [.pmc] fun u =>
      u.pmc = { b.pmc with hold := tput b.pmc.hold i (v % 65536) })
    ∧ (b.pmcWrites f = true → Answers (.pmcCntLoWrite w f i v) s [.pmc] fun u =>
      u.pmcVal i = tget 0 b.pmc.hold i * 0x100000000 + v % 0x100000000 ∧ (∀ j, j ≠ i → u.pmcVal j = b.pmcVal j)
      ∧ u.pmc.hold = tdel b.pmc.hold i ∧ u.pmc.ovf = b.pmc.ovf)
    ∧ (∀ x n engine entry offset idle, b.pmc.sampOf i = some x → pmcInner (b.pmcEv i) = false →
      Answers (.pmcWrap w i n engine entry offset idle) s [.pmc, .evts, .out] fun u => ∃ d : Blk,
        u = d.record (b.rd R.PMC_CTRL_SAMP_FUNC) 0x0E 0 i x.2 (b.sampTail (b.sampEngine i engine) entry offset idle)
        ∧ d = { b with pmc := { b.pmc with samp := b.pmc.samp.erase x } })

/-- Outside chaining a performance counter wraps at 2^48 and sets its overflow bit, which stays until it is written. A counter
that is not chained and does not sample takes its value plus the events counted, modulo 2^48, and its PMC_OVF bit is set when
it wraps, whether the events come one at a time or several in one cycle; every other counter and every other bit stays, and no
event clears a bit. A write of 1 to the bit clears it. -/
def Obligations.CountersWrapAndFlag : Prop :=
  (∀ (b : Blk) (p : Pmc) (i n : Nat), p.chained = false → b.flag (R.PMC_SEL_SAMP i) = false → tget 0 p.cnt i < 2 ^ 48 → n ≤ 2 ^ 48 →
    tget 0 (b.pmcBump p i n).cnt i = (tget 0 p.cnt i + n) % 2 ^ 48
    ∧ (∀ j, j ≠ i → tget 0 (b.pmcBump p i n).cnt j = tget 0 p.cnt j)
    ∧ bitOf (b.pmcBump p i n).ovf i = (bitOf p.ovf i || decide (2 ^ 48 ≤ tget 0 p.cnt i + n))
    ∧ ∀ j, j ≠ i → bitOf (b.pmcBump p i n).ovf j = bitOf p.ovf j)
  ∧ ∀ (b : Blk) (f k : Nat) (v : Word), b.pmcWrites f = true → k < 16 → ∀ j, j < 32 →
    bitOf (b.pmcRegWrite f 0x30040 (0x30040 + 4 * k) k v).pmc.ovf (32 * k + j) = (bitOf b.pmc.ovf (32 * k + j) && !v.getLsbD j)

/-- An error is logged at its class and handled; handling ends with DONE and takes up what waits. After S9, ERROR_RAISED and,
in DIAGNOSTIC with SETUP and GO, GO_INJECT raise the error at the class R393 gives its code or the one written, then what
follows from it settles. An error of a class above CORRECTED that neither escalates nor meets a running action or a held unit
is logged at the next place of the log and becomes the one in hand; a CORRECTED one is logged as DONE at once.
ERROR_HANDLING_DONE ends the handling in hand, if its action has completed. -/
def Obligations.ErrorsRaisedAndHandled : Prop :=
  (∀ (s : State) (w code unit detail item f v : Nat), let b := s.blk.pass w
    (b.boot.done = true → code < 256 → code ≠ 0x1B → code ≠ 0x0D → unit < 256 → detail < 0x100000000 →
      Answers (.errorRaised w code unit detail item) s (touches (.errorRaised w code unit detail item)) fun u =>
        u = (Blk.follow b (b.raise0 code unit detail (errClass code) false item)).errSettle)
    ∧ (b.hostUp = true → b.setup f = true → b.mode = .diagnostic → bitOf v 18 = true →
      Answers (.goInject w f v) s (touches (.goInject w f v)) fun u =>
        u = (Blk.follow b (b.raise0 (v / 256 % 256) (v % 256) 0 (v / 65536 % 4) true 0)).errSettle)
    ∧ (b.err.cur.isSome = true → Answers (.errorHandlingDone w) s (touches (.errorHandlingDone w)) fun u => u = b.errDone.errSettle))
  ∧ (∀ (b : Blk) (code unit detail cls item : Nat), code ≠ 0x1A → errEsc code = false → b.covered unit = false → b.isHeld unit = false →
    b.err.queue.length < 16 → cls < 4 →
    (cls = 0 → b.raise0 code unit detail cls false item = (b.errLog 0 false false true false unit code detail).1.errRecord b.err.nextSlot)
    ∧ (0 < cls → b.err.cur = none → b.raise0 code unit detail cls false item =
        (b.errLog cls false false false false unit code detail).1.errStart
          { idx := b.err.nextSlot, code := code, unit := unit, cls := cls, escalated := false, injected := false, detail := detail, item := item })
    ∧ (∀ k, 0 < cls → b.err.cur = some k → cls ≤ k.cls →
        (b.raise0 code unit detail cls false item).err.queue.length = b.err.queue.length + 1
        ∧ (b.raise0 code unit detail cls false item).err.cur = some k))
  ∧ (∀ (b : Blk) (cls unit code detail : Nat) (esc queued done inj : Bool), cls < 4 →
    let u := (b.errLog cls esc queued done inj unit code detail).1;
    u.err.at? b.err.nextSlot = some { cls := cls, escalated := esc, queued := queued, preempted := false, done := done, injected := inj
                                      unit := unit % 256, code := code % 256, time := b.ins.now, detail := detail, revoked := 0, seq := b.err.seq }
    ∧ u.err.ptr = b.err.nextSlot ∧ u.err.seq = (b.err.seq + 1) % 65536
    ∧ tget 0 u.ctr (errCounter cls) = (tget 0 b.ctr (errCounter cls) + 1) % 0x10000000000000000 ∧ bitOf (u.rd R.ERR_STATUS_SEEN) cls = true)
  ∧ ∀ (b : Blk) (j : ErrJob), b.err.cur = some j → b.errActing j = false → b.err.suspended = [] → b.err.queue = [] →
    ∃ c, b.errDone = Blk.follow b c ∧ c.err.cur = none ∧ ∀ e, b.err.at? j.idx = some e → ∃ x, c.err.at? j.idx = some x ∧ x.done = true

/-- MODE_REQUEST, the drain, the exit from DIAGNOSTIC and the FEATURES selector. A target that no request may name is
MALFORMED. From COMMISSION a request reaches DIAGNOSTIC, and ACQUIRE where the lifecycle, the loaded Pattern and the clocks
allow it, with OK and cause 1, else it is DENIED; to COMMISSION from a serving mode it begins a drain. DRAIN_DONE, once
nothing delays the drain, completes it in COMMISSION, or hands over; DIAGNOSTIC_EXIT_DONE reloads the operational set and
completes in COMMISSION. POLICY_SET FEATURES sets the enables under its mask and denies a change of TWIN. -/
def Obligations.ModeRequests : Prop :=
  ∀ (s : State) (w r : Nat) (d : Desc), let b := s.blk.pass w; let t := bitsOf (byteAt d.data 8) 0 3; let c := b.beginDesc r d;
    let may := !([Lifecycle.blank, .retired, .rma].contains s.nvm.lifecycle) && b.opLoaded && !b.err.machineFault && !b.err.oscLost;
    (Ready b r d 0x70 → t ∈ [0, 1, 4, 5, 6] → Completes (.modeRequest w r) s r d stMalformed [] [] fun g => g = c)
    ∧ (Ready b r d 0x70 → t = 3 → b.mode = .commission → b.modeReq = none → b.roleChange = false → may = true →
      Answers (.modeRequest w r) s (touches (.modeRequest w r)) fun u => ∃ g : Blk, u = g.complete ⟨r, d.id⟩ stOk []
        ∧ g.mode = .acquire ∧ g.lastMode = .commission ∧ g.entryCause = 1)
    ∧ (Ready b r d 0x70 → t = 3 → b.mode = .commission → b.modeReq = none → b.roleChange = false → may = false →
      Completes (.modeRequest w r) s r d stDenied [] [] fun g => g = c)
    ∧ (Ready b r d 0x70 → t = 7 → b.mode = .commission → b.modeReq = none → b.roleChange = false →
      Answers (.modeRequest w r) s (touches (.modeRequest w r)) fun u => ∃ g : Blk, u = g.complete ⟨r, d.id⟩ stOk []
        ∧ g.mode = .diagnostic ∧ g.lastMode = .commission ∧ g.entryCause = 1)
    ∧ (Ready b r d 0x70 → t = 2 → b.mode ∈ [.acquire, .locked, .holdover] → b.modeReq = none → b.roleChange = false → b.twin.attached = false →
      Answers (.modeRequest w r) s [.modeReq, .rings] fun u =>
        u.modeReq = some { target := .commission, handover := false, ref := ⟨r, d.id⟩, from_ := b.flow.seq })
    ∧ (∀ m, b.modeReq = some m → b.mode.serving = true → b.twin.handed = false → m.handover = false →
      ((List.range 32).foldl Blk.drainPaused b).drained m.from_ = true →
      Answers (.drainDone w) s (touches (.drainDone w)) fun u => ∃ g : Blk, u = (g.complete m.ref stOk []).txRetry
        ∧ g.mode = .commission ∧ g.modeReq = none ∧ g.lastMode = b.mode ∧ g.entryCause = 1)
    ∧ (∀ m, b.modeReq = some m → b.mode.serving = true → b.twin.handed = false → m.handover = true →
      ((List.range 32).foldl Blk.drainPaused b).drained 0 = true →
      Answers (.drainDone w) s (touches (.drainDone w)) fun u => u.mode = b.mode ∧ u.twin.handed = true ∧ u.twin.claimOut = false)
    ∧ (∀ m p, b.modeReq = some m → b.mode = .diagnostic → b.eng.op = some p →
      Answers (.diagnosticExitDone w true) s (touches (.diagnosticExitDone w true)) fun u => ∃ g : Blk, u = (g.complete m.ref stOk []).txRetry
        ∧ g = ((Blk.allBenchWork { b with modeReq := none }).runSet p).modeEnter .commission 1 ∧ g.mode = .commission)
    ∧ (Ready b r d 0x31 → byteAt d.data 8 = 1 → byteAt d.data 9 = 0xFF → b.mode ≠ .follower →
      let new := maskedBits (b.rd R.RST_FEATURE_EN) (leAt d.data 24 2) (leAt d.data 26 2);
      (bitOf (b.rd R.RST_FEATURE_EN) featTwin = bitOf new featTwin → Answers (.policySetFeatures w r) s (touches (.policySetFeatures w r)) fun u =>
        u = (((c.wr R.RST_FEATURE_EN new).refsSettle).complete ⟨r, d.id⟩ stOk []).txRetry ∧ u.rd R.RST_FEATURE_EN = new)
      ∧ (bitOf (b.rd R.RST_FEATURE_EN) featTwin ≠ bitOf new featTwin → Answers (.policySetFeatures w r) s (touches (.policySetFeatures w r)) fun u =>
        u = (c.complete ⟨r, d.id⟩ stDenied []).txRetry))

/-- LOCKED is reached when the criteria have held for LOCK_S, and left for HOLDOVER when they fail. LOCK_GAINED enters LOCKED
with cause 2 from ACQUIRE where the criteria have held for LOCK_S, and from HOLDOVER where a reference has dwelt. LOCK_LOST
leaves LOCKED for HOLDOVER with cause 4 where nothing contributes, and with cause 3 where the criteria are no longer met and
no switch runs. Neither does anything else. -/
def Obligations.LockGainedAndLost : Prop :=
  ∀ (s : State) (w : Nat), let b := s.blk.pass w
    (b.mode = .acquire → b.acqLocked = true → Answers (.lockGained w) s (touches (.lockGained w)) fun u =>
      u.mode = .locked ∧ u.lastMode = .acquire ∧ u.entryCause = 2)
    ∧ (b.mode = .holdover → b.shadow.any b.dwelt = true → Answers (.lockGained w) s (touches (.lockGained w)) fun u =>
      u.mode = .locked ∧ u.entryCause = 2)
    ∧ ((b.mode = .acquire → b.acqLocked = false) → (b.mode = .holdover → b.shadow.any b.dwelt = false) → Answers (.lockGained w) s [] fun u => u = b)
    ∧ (b.mode = .locked → b.contrib = [] → Answers (.lockLost w) s (touches (.lockLost w)) fun u =>
      u.mode = .holdover ∧ u.lastMode = .locked ∧ u.entryCause = 4)
    ∧ (b.mode = .locked → b.contrib ≠ [] → b.refs.sw = none → (3 ≤ b.refs.overCnt ∨ b.refs.atPull = true) →
      Answers (.lockLost w) s (touches (.lockLost w)) fun u => u.mode = .holdover ∧ u.lastMode = .locked ∧ u.entryCause = 3)
    ∧ (b.mode ≠ .locked → Answers (.lockLost w) s [] fun u => u = b)
    ∧ (b.contrib ≠ [] → b.refs.sw.isSome = true → Answers (.lockLost w) s [] fun u => u = b)
    ∧ (b.contrib ≠ [] → b.refs.overCnt < 3 → b.refs.atPull = false → Answers (.lockLost w) s [] fun u => u = b)

/-- A leap is installed, cancelled, sampled for its smear and taken at S_L. LEAP_SET install with M a multiple of 86,400 and δ
of 1 or -1, at least 2 s ahead, makes the leap pending where none is; the same leap again is OK, another one DENIED. Cancel
takes it back until the window of its smear, or 1 s before S_L. SMEAR is sampled at W0. At S_L the UTC offset becomes D + δ
and nothing is pending. The begin of the warning and the end of a smear are read from the Insole and the leap, and change
nothing stored. -/
def Obligations.LeapSeconds : Prop :=
  ∀ (s : State) (w r : Nat) (d : Desc), let b := s.blk.pass w; let c := b.beginDesc r d;
    let δ := (leapArgs d.data).1; let m := (leapArgs d.data).2; let smear := b.feat featSmear;
    (Ready b r d 0x20 → byteAt d.data 8 = 1 → m % 86400 = 0 → (δ = 1 ∨ δ = -1) → (b.ins.now : Int) + 2 * oneS ≤ leapS b.utcD δ m * oneS →
      (b.ins.leap = none → Completes (.leapInstall w r) s r d stOk [] [.ctr, .ins, .laster, .ports, .nts] fun g =>
        g.ins = { b.ins with leap := some ((b.newLeap δ m).sampled b.ins.now smear)
                             lastLeap := b.ins.lastLeap.map fun l => l.sampled b.ins.now smear })
      ∧ (∀ l, b.ins.leap = some l → (l.m = m ∧ l.delta = δ → Completes (.leapInstall w r) s r d stOk [] [] fun g => g = c)
        ∧ ((l.m ≠ m ∨ l.delta ≠ δ) → Completes (.leapInstall w r) s r d stDenied [] [] fun g => g = c)))
    ∧ (Ready b r d 0x20 → byteAt d.data 8 ≠ 2 → (byteAt d.data 8 ≠ 1 ∨ m % 86400 ≠ 0 ∨ δ ≠ 1 ∧ δ ≠ -1) →
      Completes (.leapInstall w r) s r d stMalformed [] [] fun g => g = c)
    ∧ (Ready b r d 0x20 → byteAt d.data 8 = 1 → m % 86400 = 0 → (δ = 1 ∨ δ = -1) → leapS b.utcD δ m * oneS < (b.ins.now : Int) + 2 * oneS →
      Completes (.leapInstall w r) s r d stDenied [] [] fun g => g = c)
    ∧ (Ready b r d 0x20 → byteAt d.data 8 = 2 → b.ins.leap = none → Completes (.leapCancel w r) s r d stOk [] [] fun g => g = c)
    ∧ (∀ l, Ready b r d 0x20 → byteAt d.data 8 = 2 → b.ins.leap = some l →
      (l.smears smear = false ∨ (b.ins.now : Int) < l.w0 → (b.ins.now : Int) + oneS ≤ l.sLU →
        Completes (.leapCancel w r) s r d stOk [] [.ctr, .ins, .laster, .ports, .nts] fun g => g.ins = { b.ins with leap := none })
      ∧ (l.smears smear = true ∧ l.w0 ≤ (b.ins.now : Int) ∨ l.sLU < (b.ins.now : Int) + oneS →
        Completes (.leapCancel w r) s r d stDenied [] [] fun g => g = c))
    ∧ Answers (.leapWarnStart w) s [] (fun u => u = b) ∧ Answers (.smearEnd w) s [] (fun u => u = b)
    ∧ (∀ l, b.ins.leap = some l → l.sample = none → l.w0 ≤ (b.ins.now : Int) → Answers (.smearSample w) s (touches (.smearSample w)) fun u =>
      u.ins.leap = some { l with sample := some (smear && decide (l.w0 < l.w1)) } ∧ u.ins.now = b.ins.now)
    ∧ (∀ l, b.ins.leap = some l → (b.ins.now : Int) < l.w0 ∨ l.sample.isSome = true → Answers (.smearSample w) s (touches (.smearSample w)) fun u => u.ins.leap = some l)
    ∧ (∀ l, b.ins.leap = some l → l.sLU ≤ (b.ins.now : Int) → Answers (.leapEntry w) s [.regs, .pmc, .ins] fun u =>
      u.ins.leap = none ∧ u.rd R.TBS_UTC_OFFSET = ofSigned (b.utcD + l.delta) 16 ∧ u.ins.now = b.ins.now ∧ u.ins.slewRem = b.ins.slewRem
      ∧ ∃ x, u.ins.lastLeap = some x ∧ x.delta = l.delta ∧ x.m = l.m ∧ x.dOld = b.utcD)
    ∧ (∀ l, b.ins.leap = some l → (b.ins.now : Int) < l.sLU → Answers (.leapEntry w) s [] fun u => u = b)

/-- TIME_ADJUST corrects, sets or cancels at once, or at its time. Without a time, OFFSET adds its value to the remaining slew
with OK and result 0 where R54 does not step, and steps by the sum where it does; SET, in COMMISSION or DIAGNOSTIC, steps to
its value, makes the time valid and answers the size of the step; SLEW_CANCEL clears the remaining slew. In a mode that does
not permit the kind it is DENIED. With a time at least 200 ns ahead an entry is armed, which ADJUST_ENTRY runs. KEEP_RTC_LOAD
takes the seconds; the end of a slew is read from its remainder. -/
def Obligations.TimeAdjusted : Prop :=
  ∀ (s : State) (w r i : Nat) (d : Desc), let b := s.blk.pass w; let c := b.beginDesc r d; let now := allZero (sliceB d.data 22 10);
    (b.ins.running = true → b.rst.vkeep = true → Answers (.keepRtcLoad w) s [.rst] fun u =>
      u.rst = { b.rst with rtc := some (secOf b.ins.now, b.up) })
    ∧ Answers (.slewDone w) s [] (fun u => u = b)
    ∧ (∀ v t, Ready b r d 0x21 → byteAt d.data 8 = 1 → adjustValue d.data = some v → time10At d.data 22 = some t →
      (b.adjustOk 1 = false → Completes (.timeAdjustOffset w r) s r d stDenied [] [] fun g => g = c)
      ∧ (b.adjustOk 1 = true → now = true → b.steps54 (b.corrSum v) false = false →
        Completes (.timeAdjustOffset w r) s r d stOk (leB 8 0) [.ins] fun g => g.ins = { b.ins with slewRem := b.corrSum v })
      ∧ (b.adjustOk 1 = true → now = true → b.steps54 (b.corrSum v) false = true → let x := (b.corrSum v).tdiv 1000000000;
        Answers (.timeAdjustOffset w r) s (touches (.timeAdjustOffset w r)) fun u =>
          u = (Blk.step { c with ins := { c.ins with slewRem := 0 } } x).complete ⟨r, d.id⟩ stOk (leB 8 (ofSigned x 64)))
      ∧ (b.adjustOk 1 = true → now = false → b.poolDeny (b.ringOwner r) 1 = none → b.ins.now + leadU ≤ t →
        Answers (.timeAdjustOffset w r) s [.laster, .rings] fun u =>
          u = c.lstArm { cls := 0xA, obj := 0, t0 := t, owner := b.ringOwner r, pay := .adjust ⟨r, d.id⟩ 1 v })
      ∧ (∀ st, b.adjustOk 1 = true → now = false → b.poolDeny (b.ringOwner r) 1 = some st →
        Completes (.timeAdjustOffset w r) s r d st [] [] fun g => g = c))
    ∧ (∀ v t, Ready b r d 0x21 → byteAt d.data 8 = 2 → timeAt d.data 10 = some v → time10At d.data 22 = some t →
      (b.adjustOk 2 = true → now = true → let x := (v : Int) - b.ins.now; Answers (.timeAdjustSet w r) s (touches (.timeAdjustSet w r)) fun u =>
        u = (c.validWith (stepFn x)).complete ⟨r, d.id⟩ stOk (leB 8 (ofSigned x 64)) ∧ u.ins.timeValid = true)
      ∧ (b.adjustOk 2 = true → now = false → b.poolDeny (b.ringOwner r) 1 = none → b.ins.now + leadU ≤ t →
        Answers (.timeAdjustSet w r) s [.laster, .rings] fun u =>
          u = c.lstArm { cls := 0xA, obj := 0, t0 := t, owner := b.ringOwner r, pay := .adjust ⟨r, d.id⟩ 2 v })
      ∧ (b.mode ≠ .commission → b.mode ≠ .diagnostic → Completes (.timeAdjustSet w r) s r d stDenied [] [] fun g => g = c))
    ∧ (∀ t, Ready b r d 0x21 → byteAt d.data 8 = 3 → time10At d.data 22 = some t → b.adjustOk 3 = true → now = true →
      Completes (.slewCancel w r) s r d stOk (leB 8 0) [.ins] fun g => g.ins = { b.ins with slewRem := 0 })
    ∧ (∀ e, b.lstAt? i = some e → e.cls = 0xA → e.issued = true → b.point e ≤ (b.ins.now : Int) →
      (Answers (.adjustEntry w i) s (touches (.adjustEntry w i)) fun u => u = b.runEntry stepFn i e (e.k + 1) false)
      ∧ ∀ ref v, e.pay = .adjust ref 3 v → b.adjustOk 3 = true → e.period = 0 → e.notify = false → Answers (.adjustEntry w i) s (touches (.adjustEntry w i)) fun u =>
        u.ins = { b.ins with slewRem := 0 } ∧ u.laster.ents = tdel b.laster.ents i ∧ ∃ g : Blk, u = g.complete ref stOk (leB 8 0))

/-- The Laster arms, cancels, fills and issues its entries. LASTER_ARM of a block that its checks refuse completes with the
status they give and arms nothing; otherwise its entries take the lowest free indices, their handles are the result, what is
late already is handled by its policy, and the worst outcome is the status. LASTER_CANCEL takes back an entry not issued yet;
of a handle never given it is MALFORMED, of one that has run LATE, of another owner DENIED. An entry enters the hot store
within the horizon, is issued at least 200 ns before its target, and is late after that. -/
def Obligations.LasterArmsAndIssues : Prop :=
  ∀ (s : State) (w r i : Nat) (block : Bytes) (d : Desc), let b := s.blk.pass w; let c := b.beginDesc r d; let h := leAt d.data 8 2;
    (∀ st, Ready b r d 0x24 → c.armCheck (b.ringOwner r) block = .inl st → Completes (.lasterArm w r block) s r d st [] [] fun g => g = c)
    ∧ (∀ l, Ready b r d 0x24 → c.armCheck (b.ringOwner r) block = .inr l → let x := c.armAll l;
      Answers (.lasterArm w r block) s (touches (.lasterArm w r block)) fun u =>
        u = (x.1.armLate x.2).complete ⟨r, d.id⟩ ((l.map c.armStatus).foldl worse stOk) (x.2.flatMap fun j => leB 2 (x.1.lstHandle j)))
    ∧ (∀ e, Ready b r d 0x24 → c.armCheck (b.ringOwner r) block = .inr [e] → (b.ins.now : Int) + leadU ≤ e.t0 → e.k = 0 → e.cyc = none →
      Completes (.lasterArm w r block) s r d stOk (leB 2 ((c.lstArm e).lstHandle b.lstNext)) [.laster] fun g => g = c.lstArm e)
    ∧ (Ready b r d 0x25 → (thas b.laster.gens (h % 4096) = false ∨ tget 0 b.laster.gens (h % 4096) ≠ h / 4096) →
      Completes (.lasterCancel w r) s r d stMalformed [] [] fun g => g = c)
    ∧ (Ready b r d 0x25 → thas b.laster.gens (h % 4096) = true → tget 0 b.laster.gens (h % 4096) = h / 4096 →
      (b.lstAt? (h % 4096) = none → Completes (.lasterCancel w r) s r d stLate [] [] fun g => g = c)
      ∧ ∀ e, b.lstAt? (h % 4096) = some e →
        (e.owner ≠ b.ringOwner r ∨ e.cls = 0xA → Completes (.lasterCancel w r) s r d stDenied [] [] fun g => g = c)
        ∧ (e.owner = b.ringOwner r → e.cls ≠ 0xA → e.issued = false → Completes (.lasterCancel w r) s r d stOk [] [.laster] fun g =>
          g.laster = { b.laster with ents := tdel b.laster.ents (h % 4096) })
        ∧ (e.owner = b.ringOwner r → e.cls ≠ 0xA → e.issued = true → e.period = 0 → Completes (.lasterCancel w r) s r d stLate [] [] fun g => g = c)
        ∧ (e.owner = b.ringOwner r → e.cls ≠ 0xA → e.issued = true → e.period ≠ 0 → Completes (.lasterCancel w r) s r d stOk [] [.laster] fun g =>
          g.lstAt? (h % 4096) = some { e with count := e.k + 1, rearm := false }))
    ∧ (∀ e, b.lstAt? i = some e → e.spilled = true → e.target ≤ (b.ins.now + b.hotU : Nat) → Answers (.lasterSpillFill w i) s [.laster] fun u =>
      u.lstAt? i = some { e with spilled := false } ∧ ∀ j, j ≠ i → u.lstAt? j = b.lstAt? j)
    ∧ (∀ e, b.lstAt? i = some e → e.issued = false → e.resolved = true →
      ((b.ins.now : Int) + leadU ≤ b.point e → e.spilled = false → Answers (.lasterIssue w i) s (touches (.lasterIssue w i)) fun u =>
        u = (Blk.txRetry { b with laster := { b.laster with ents := tput b.laster.ents i { e with issued := true } } }))
      ∧ (b.point e < (b.ins.now : Int) + leadU → Answers (.lasterIssue w i) s (touches (.lasterIssue w i)) fun u =>
        u = (b.lateEntry stepFn i e (b.ins.now + leadU)).txRetry)
      ∧ (b.point e < (b.ins.now : Int) + leadU → e.cls ≠ 1 → e.policy ≠ 0 → e.notify = false → e.period = 0 → b.flow.waits = [] →
        Answers (.lasterIssue w i) s [.laster] fun u => u.laster.ents = tdel b.laster.ents i ∧ u.laster.lateRun = b.laster.lateRun))

/-- An issued entry does its action at its target and goes on to its next occurrence. OUTPUT_ON opens and OUTPUT_OFF closes
the gate of its unit, CAPTURE_OPEN and CAPTURE_CLOSE the window of its Eyelet, but that a start whose stop falls on the same
point does nothing; the other units and Eyelets stay; the entry is gone after its last occurrence. HOST_EVENT gives its LASTER
record. GATE_LIST takes the pending list of its port, LAUNCH launches its frame, and KEY_ROLL activates or expires the key of
its slot. -/
def Obligations.EntriesRun : Prop :=
  ∀ (s : State) (w i : Nat) (e : LEntry), let b := s.blk.pass w; let c := (b.lstNextOcc i { e with ranAt := some e.target } (e.k + 1)).pmcEvent 0xA0 0 1;
    (b.lstAt? i = some e → e.issued = true → b.point e ≤ (b.ins.now : Int) →
      (e.cls = 3 → Answers (.outputOn w i) s [.out, .evts, .pmc, .laster, .outs] fun u =>
        (u.outOf e.obj).gate = ((b.outOf e.obj).gate || !b.pairEmpty e false) ∧ (∀ v, v ≠ e.obj → u.outOf v = b.outOf v)
        ∧ (e.has (e.k + 1) = false → u.laster.ents = tdel b.laster.ents i) ∧ (e.has (e.k + 1) = true → e.cyc = none → ∃ x, u.lstAt? i = some x ∧ x.k = e.k + 1 ∧ x.issued = false))
      ∧ (e.cls = 4 → Answers (.outputOff w i) s [.out, .evts, .pmc, .laster, .outs] fun u =>
        (u.outOf e.obj).gate = false ∧ (∀ v, v ≠ e.obj → u.outOf v = b.outOf v) ∧ (e.has (e.k + 1) = false → u.laster.ents = tdel b.laster.ents i))
      ∧ (e.cls = 5 → Answers (.captureOpen w i) s [.out, .evts, .pmc, .laster, .eyes] fun u =>
        (u.eyeOf e.obj).windowOpen = ((b.eyeOf e.obj).windowOpen || !b.pairEmpty e false) ∧ (∀ v, v ≠ e.obj → u.eyeOf v = b.eyeOf v)
        ∧ (e.has (e.k + 1) = false → u.laster.ents = tdel b.laster.ents i))
      ∧ (e.cls = 6 → Answers (.captureClose w i) s [.out, .evts, .pmc, .laster, .eyes] fun u =>
        (u.eyeOf e.obj).windowOpen = false ∧ (∀ v, v ≠ e.obj → u.eyeOf v = b.eyeOf v) ∧ (e.has (e.k + 1) = false → u.laster.ents = tdel b.laster.ents i))
      ∧ (e.cls = 0xD → e.pair = none → Answers (.hostEvent w i) s [.out, .evts, .pmc, .laster] fun u =>
        u = c.lstRecord i e 1 false false false (b.point e) e.target)
      ∧ (e.cls = 2 → e.notify = false → Answers (.gateListEntry w i false) s (touches (.gateListEntry w i false)) fun u =>
        u = (c.gateTake e.obj).txRetry)
      ∧ (∀ id f, e.cls = 1 → e.notify = false → e.pay = .launch id → b.armedFrame? e.obj id = some f →
        Answers (.launchEntry w i) s (touches (.launchEntry w i)) fun u => u = (c.launchRun f e.target.toNat).txRetry))
    ∧ (∀ p, b.gateDue p = true → Answers (.gateListEntry w p true) s (touches (.gateListEntry w p true)) fun u =>
      u = ((b.pmcEvent 0xA0 0 1).gateTake p).txRetry)
    ∧ (∀ n x, b.keyRolls (b.ins.now + nsU 1) = [x] → x.pt ≤ (b.ins.now : Int) →
      (x.item = .keyAct n → Answers (.keyRoll w n false) s (touches (.keyRoll w n false)) fun u => u = (b.pmcEvent 0xA0 0 1).keyActivate n)
      ∧ (x.item = .keyExp n → Answers (.keyRoll w n true) s (touches (.keyRoll w n true)) fun u => u = (b.pmcEvent 0xA0 0 1).keyExpire n))
    ∧ (b.keyRolls (b.ins.now + nsU 1) = [] → ∀ n x, Answers (.keyRoll w n x) s [] fun u => u = b)

/-- Output units emit their edges on the grid and realign as asked. OUTPUT_REALIGN of running units none of which realigns
begins one for each of them and waits; of a unit that is absent, stopped or realigning it completes with ABSENT, DENIED or
BUSY. REALIGN_START starts the SLEW of a unit that is due, ends it where nothing is misaligned, and REALIGN_DONE ends it with
the misalignment at 0; FIRST_ALIGN starts the realign at TIME_VALID. OUT_EDGE emits the trailing edge of a pulse begun, or at
the next grid point the leading edge, but not while squelched, and arms the next grid point. -/
def Obligations.OutputUnitsRun : Prop :=
  ∀ (s : State) (w r n : Nat) (d : Desc), let b := s.blk.pass w; let c := b.beginDesc r d; let mask := leAt d.data 8 4; let us := maskUnits mask;
    (∀ t, Ready b r d 0x23 → time10At d.data 18 = some t → mask ≠ 0 → mask < 2 ^ 18 → leAt d.data 14 4 ≤ 500000 → byteAt d.data 12 ∈ [1, 2, 3] →
      ((us.any fun u => !b.unitPresent u) = true → Completes (.outputRealign w r) s r d stAbsent [] [] fun g => g = c)
      ∧ ((us.all b.unitPresent) = true → (us.any fun u => !(b.outOf u).running) = true → Completes (.outputRealign w r) s r d stDenied [] [] fun g => g = c)
      ∧ ((us.all b.unitPresent) = true → (us.all fun u => (b.outOf u).running) = true → byteAt d.data 12 ≠ 3 →
        ((us.any fun u => (b.outOf u).realign.isSome) = true → Completes (.outputRealign w r) s r d stBusy [] [] fun g => g = c)
        ∧ ((us.all fun u => (b.outOf u).realign.isNone) = true → Answers (.outputRealign w r) s [.rings, .outs] fun u =>
          u.outs.jobs = b.outs.jobs ++ [{ ref := ⟨r, d.id⟩, mask := mask }]
          ∧ (∀ v, v ∈ us → u.outOf v = { b.outOf v with realign := some {
              method := byteAt d.data 12, rate := if leAt d.data 14 4 = 0 then b.rd R.TBS_SLEW_RATE else leAt d.data 14 4
              apply := max t b.ins.now, ref := some ⟨r, d.id⟩ } })
          ∧ ∀ v, v ∉ us → u.outOf v = b.outOf v))
      ∧ ((us.all b.unitPresent) = true → (us.all fun u => (b.outOf u).running) = true → byteAt d.data 12 = 3 →
        Answers (.outputRealign w r) s (touches (.outputRealign w r)) fun u => u = (us.foldl Blk.alignCancel c).complete ⟨r, d.id⟩ stOk []))
    ∧ (∀ x, (b.outOf n).realign = some x → (b.outOf n).firstAlign = false → b.alignDue n x = true → b.rd (R.HLD_OCFG_KIND n) ≠ 4 →
      ((b.outOf n).mis ≠ 0 → x.method = 2 → Answers (.realignStart w n) s [.outs] fun u =>
        u.outOf n = { b.outOf n with realign := some { x with started := true, from_ := b.up } } ∧ ∀ v, v ≠ n → u.outOf v = b.outOf v)
      ∧ ((b.outOf n).mis ≠ 0 → x.method ≠ 2 → b.rd (R.HLD_OCFG_KIND n) ≠ 3 → Answers (.realignStart w n) s [.outs] fun u =>
        u.outOf n = { b.stepAlign n (b.outOf n) with realign := some { x with started := true, from_ := 0 } } ∧ ∀ v, v ≠ n → u.outOf v = b.outOf v)
      ∧ ((b.outOf n).mis = 0 → Answers (.realignStart w n) s (touches (.realignStart w n)) fun u =>
        u = b.alignEnd n (b.outOf n) ∧ (u.outOf n).realign = none))
    ∧ ((b.outOf n).firstAlign = true → Answers (.firstAlign w n) s (touches (.firstAlign w n)) fun u => u = b.alignStart n)
    ∧ ((b.outOf n).firstAlign = false → Answers (.firstAlign w n) s [] fun u => u = b)
    ∧ (∀ x, (b.outNow n).realign = some x → x.started = true → x.method = 2 → (b.outNow n).mis = 0 →
      Answers (.realignDone w n) s (touches (.realignDone w n)) fun u => u = b.alignEnd n (b.outNow n) ∧ (u.outOf n).realign = none)
    ∧ (∀ t, (b.outOf n).trail = some t → roundTo 625 t ≤ (b.ins.now : Int) → Answers (.outEdge w n) s [.out, .outs] fun u =>
      u.outOf n = { b.outOf n with trail := none } ∧ ∀ v, v ≠ n → u.outOf v = b.outOf v)
    ∧ (∀ p q, (b.outOf n).trail = none → b.edgePending n = true → roundTo 625 (b.outNow n).next ≤ (b.ins.now : Int) → b.unitPeriod n = some (p, q) →
      Answers (.outEdge w n) s [.out, .pmc, .outs] fun u => (u.outOf n).next = (b.outNow n).next + p ∧ (u.outOf n).squelched = b.squelchNow n
        ∧ (b.squelchNow n = true → u.out = b.out ∧ (u.outOf n).trail = none)
        ∧ (b.squelchNow n = false → (u.outOf n).trail = some ((b.outNow n).next + b.unitWidth n)
          ∧ (16 ≤ n → u.out = .edge n (true != b.flag (R.HLD_OCFG_POL n)) (roundTo 625 (b.outNow n).next) :: b.out)))

/-- Slots take messages, comparisons and their evaluation, and the timers move them. A GNSS message that is not accepted
changes nothing; one accepted waits for the next edge under LABEL_NEXT and else labels the edge that has come. A slot that is
disabled or does not receive takes no comparison. QUAL_S moves a QUALIFYING slot to QUALIFIED the first time and to WTR later;
the end of WTR to QUALIFIED. A sentinel round that outvotes none while voters differ shows a split. An ensemble interval and a
step of the acquisition bandwidth are counted. -/
def Obligations.ReferencesCompared : Prop :=
  ∀ (s : State) (w k : Nat) (bytes : Bytes) (t tRef : Int), let b := s.blk.pass w; let x := b.slotOf k;
    (b.slotKind k = 3 → x.st ≠ .disabled → b.todOf k bytes = none → Answers (.gnssMessage w k bytes) s [] fun u => u = b)
    ∧ (∀ m, b.slotKind k = 3 → x.st ≠ .disabled → b.todOf k bytes = some m → let y := { x with acc := m.acc, cause := if m.offsetDiffers then 6 else x.cause };
      (b.flag (R.REF_SRC_LABEL_NEXT k) = true → Answers (.gnssMessage w k bytes) s [.refs] fun u => u.slotOf k = { y with label := some ⟨m.sec, m.qerr, b.up⟩ })
      ∧ (b.flag (R.REF_SRC_LABEL_NEXT k) = false → x.edge = none → Answers (.gnssMessage w k bytes) s [.refs] fun u => u.slotOf k = y)
      ∧ ∀ tE uE, b.flag (R.REF_SRC_LABEL_NEXT k) = false → x.edge = some (tE, uE) →
        (labelWindow uE b.up = false → Answers (.gnssMessage w k bytes) s [.refs] fun u => u.slotOf k = { y with edge := none })
        ∧ (labelWindow uE b.up = true → Answers (.gnssMessage w k bytes) s (touches (.gnssMessage w k bytes)) fun u =>
          u = (b.setSlot k { y with edge := none }).labelled k m.sec m.qerr tE uE))
    ∧ ((24 ≤ k ∨ x.st = .disabled ∨ b.slotReceives k = false) → Answers (.refComparison w k t tRef) s [] fun u => u = b)
    ∧ (k < 24 → x.st ≠ .disabled → b.slotReceives k = true →
      (b.slotKind k = 1 → Answers (.refComparison w k t tRef) s (touches (.refComparison w k t tRef)) fun u => u = b.slotEvent k (nearSec t) t b.up)
      ∧ (b.slotKind k = 2 ∨ b.slotKind k = 5 → Answers (.refComparison w k t tRef) s (touches (.refComparison w k t tRef)) fun u => u = b.slotEvent k tRef t b.up)
      ∧ (b.slotKind k = 3 → b.flag (R.REF_SRC_LABEL_NEXT k) = false → Answers (.refComparison w k t tRef) s [.refs] fun u =>
        u.slotOf k = { x with edge := some (t, b.up) }))
    ∧ (k < 24 → b.ins.running = true → x.st ≠ .disabled → Answers (.refEvalTick w k true) s [.out, .evts, .refs, .heel, .hold] fun u =>
      u = ((b.setSlot k { x with bucket := min (max x.bucket (b.rd (R.REF_ACT_CAP k))) (x.bucket + b.rd (R.REF_ACT_INC k)) }).slotEval k).refsSettle)
    ∧ (k < 24 → b.ins.running = true → b.disableCause k = none → x.st = .qualified → b.actFails k = false → b.rejectCause k = none →
      Answers (.refEvalTick w k false) s [.out, .evts, .refs, .heel, .hold] fun u => (u.slotOf k).st = .qualified)
    ∧ (x.st = .qualifying → b.timerOver k = true →
      (x.wasQual = false → Answers (.qualTimerExpire w k) s [.out, .evts, .refs, .heel, .hold] fun u =>
        (u.slotOf k).st = .qualified ∧ (u.slotOf k).timer = none ∧ (u.slotOf k).wasQual = true ∧ (u.slotOf k).cause = 0)
      ∧ (x.wasQual = true → Answers (.qualTimerExpire w k) s [.out, .evts, .refs, .heel, .hold] fun u =>
        (u.slotOf k).st = .wtr ∧ (u.slotOf k).timer = some (b.up + secU (b.rd (R.REF_TIMES_WTR_S k)))))
    ∧ (x.st = .wtr → b.timerOver k = true → Answers (.wtrTimerExpire w k) s [.out, .evts, .refs, .heel, .hold] fun u =>
      (u.slotOf k).st = .qualified ∧ (u.slotOf k).timer = none)
    ∧ (b.ins.running = true → let voters := ((List.range 24).filter b.isVoter).map b.peerOf;
      let out := ((List.range 24).filter b.isCandidate).filter fun k => b.outvotes voters (b.peerOf k);
      let split := out.isEmpty && voters.any fun p => voters.any fun q => b.peerOver p q;
      Answers (.sentinelRound w) s [.out, .evts, .regs, .refs, .heel, .hold] fun u => u.refs.split = split
        ∧ u.flag R.REF_STATUS_SENT_SPLIT = (b.flag R.REF_STATUS_SENT_SPLIT || split))
    ∧ (b.ins.running = true → b.ensMode = true → Answers (.ensembleUpdate w) s [.refs] fun u =>
      u.refs.ensAt = some (b.ins.now : Int) ∧ ∀ j ∈ b.ensSlots, (u.slotOf j).joinN = min 16 ((b.slotOf j).joinN + 1))
    ∧ (b.narrowDue = true → Answers (.acqNarrow w) s [.refs] fun u => u.refs = { b.refs with acqStep := b.refs.acqStep - 1, acqFrom := some b.up })

/-- REF_COMMAND forces, releases, locks out, clears and sets as its code says. FORCE selects an eligible slot in select mode
and is ABSENT, DENIED or MALFORMED otherwise; RELEASE ends the force. LOCKOUT holds a slot LOCKED_OUT, or keeps the lockout
for a disabled one; CLEAR returns a slot from HELD or LOCKED_OUT to NO_SIGNAL, with its flaps forgotten, and CLEAR_WTR one
from WTR to QUALIFIED, and both deny other states. SET_PRIO and SET_BW write their fields, SET_MODE the mode unless a switch
runs, and ACCEPT_PATH thaws the port of a frozen slot. -/
def Obligations.ReferenceCommands : Prop :=
  ∀ (s : State) (w r : Nat) (d : Desc), let b := s.blk.pass w; let c := b.beginDesc r d; let k := byteAt d.data 9; let v := byteAt d.data 10;
    let ps : List Piece := [.out, .evts, .refs, .heel, .hold];
    (Ready b r d 0x22 → byteAt d.data 8 = 1 →
      (24 ≤ k ∨ b.slotKind k = 0 → Completes (.refForce w r) s r d stMalformed [] [] fun g => g = c)
      ∧ (k < 24 → b.slotKind k ≠ 0 → b.slotFitted k = false → Completes (.refForce w r) s r d stAbsent [] [] fun g => g = c)
      ∧ (k < 24 → b.slotKind k ≠ 0 → b.slotFitted k = true → (b.eligible k = false ∨ b.ensMode = true ∨ b.mode = .follower) →
        Completes (.refForce w r) s r d stDenied [] [] fun g => g = c)
      ∧ (k < 24 → b.slotKind k ≠ 0 → b.slotFitted k = true → b.eligible k = true → b.ensMode = false → b.mode ≠ .follower →
        Completes (.refForce w r) s r d stOk [] ps fun g => g.refs.forced = true ∧ (b.refs.sw = none → g.refs.selected = some k)))
    ∧ (Ready b r d 0x22 → byteAt d.data 8 = 2 → Completes (.refRelease w r) s r d stOk [] ps fun g => g.refs.forced = false)
    ∧ (Ready b r d 0x22 → byteAt d.data 8 = 3 → k < 24 → b.slotKind k ≠ 0 → (b.mode = .follower → b.slotKind k ≠ 6) →
      ((b.slotOf k).st ≠ .disabled → Completes (.refLockout w r) s r d stOk [] ps fun g =>
        (g.slotOf k).st = .lockedOut ∧ (g.slotOf k).cause = 8 ∧ (g.slotOf k).lockoutHeld = true ∧ (g.slotOf k).timer = none)
      ∧ ((b.slotOf k).st = .disabled → Completes (.refLockout w r) s r d stOk [] [.refs] fun g =>
        g.slotOf k = { b.slotOf k with lockoutHeld := true }))
    ∧ (Ready b r d 0x22 → byteAt d.data 8 = 4 → k < 24 →
      ((b.slotOf k).st = .held ∨ (b.slotOf k).st = .lockedOut → Completes (.refClear w r) s r d stOk [] ps fun g =>
        (g.slotOf k).st = .noSignal ∧ (g.slotOf k).flaps = [] ∧ (g.slotOf k).lockoutHeld = false ∧ (g.slotOf k).bucket = b.rd (R.REF_ACT_CAP k))
      ∧ ((b.slotOf k).st ∉ [.held, .lockedOut, .disabled] → Completes (.refClear w r) s r d stDenied [] [] fun g => g = c))
    ∧ (Ready b r d 0x22 → byteAt d.data 8 = 5 → k < 24 →
      ((b.slotOf k).st = .wtr → Completes (.refClearWtr w r) s r d stOk [] ps fun g => (g.slotOf k).st = .qualified)
      ∧ ((b.slotOf k).st ≠ .wtr → Completes (.refClearWtr w r) s r d stDenied [] [] fun g => g = c))
    ∧ (Ready b r d 0x22 → byteAt d.data 8 = 6 → k < 24 → b.slotKind k ≠ 0 → Completes (.refSetPrio w r) s r d stOk [] (.regs :: ps) fun g =>
      g.rd (R.REF_CFG_PRIO k) = v ∧ g.regs = (b.wr (R.REF_CFG_PRIO k) v).regs)
    ∧ (Ready b r d 0x22 → byteAt d.data 8 = 8 → v ≤ 15 → byteAt d.data 11 ≤ 1 → Completes (.refSetBw w r) s r d stOk [] [.regs] fun g =>
      g.rd (if byteAt d.data 11 = 1 then R.REF_SEL_ACQ_BW else R.REF_SEL_BW) = v
      ∧ g.rd (if byteAt d.data 11 = 1 then R.REF_SEL_BW else R.REF_SEL_ACQ_BW) = b.rd (if byteAt d.data 11 = 1 then R.REF_SEL_BW else R.REF_SEL_ACQ_BW))
    ∧ (Ready b r d 0x22 → byteAt d.data 8 = 9 → v ≤ 1 → b.mode ≠ .follower →
      (b.switching = true → Completes (.refSetMode w r) s r d stBusy [] [.flow] fun g =>
        ∃ n, g.flow = { b.flow with busyRuns := tput b.flow.busyRuns n (tget 0 b.flow.busyRuns n + 1) })
      ∧ (b.switching = false → b.rd R.REF_SEL_MODE = v → Completes (.refSetMode w r) s r d stOk [] [] fun g => g = c)
      ∧ (b.switching = false → b.rd R.REF_SEL_MODE ≠ v → Completes (.refSetMode w r) s r d stOk [] (.regs :: ps) fun g =>
        g.rd R.REF_SEL_MODE = v ∧ (v = 1 → g.refs.selected = none ∧ g.refs.forced = false)))
    ∧ (Ready b r d 0x22 → byteAt d.data 8 = 9 → v ≤ 1 → b.mode = .follower → Completes (.refSetMode w r) s r d stDenied [] [] fun g => g = c)
    ∧ (Ready b r d 0x22 → byteAt d.data 8 = 7 → k < 24 →
      ((b.slotOf k).frozen = false → Completes (.refAcceptPath w r) s r d stDenied [] [] fun g => g = c)
      ∧ ((b.slotOf k).frozen = true → Completes (.refAcceptPath w r) s r d stOk [] (.ptp :: ps) fun g => g = c.thaw (b.slotObj k)))

/-- HOLD_CHECK evaluates the budget, and the Heel takes temperatures and learning samples. A HOLD_CHECK that has come is armed
for the next second and, while the Heel steers, shows E and the elapsed time; E beyond the limit in HOLDOVER expires the
holdover once. A good sample of the temperature is taken and counts; the third bad one in a row is a loss, with its error. A
learning sample is taken while a reference steers: it starts the epoch, counts, enters the window of the fit and makes the
model valid after MIN_H. Without a source, or without a reference, nothing is taken. -/
def Obligations.HeelHoldsAndLearns : Prop :=
  ∀ (s : State) (w : Nat) (ok : Bool) (t : Int), let b := s.blk.pass w
    (∀ h, b.laster.holdCheck = some h → h ≤ b.ins.now → b.heel.steering = true → Answers (.holdCheck w) s (touches (.holdCheck w)) fun u =>
      u.laster.holdCheck = some (nextCheck h b.ins.now) ∧ b.ins.now < nextCheck h b.ins.now ∧ nextCheck h b.ins.now ≤ b.ins.now + secU 1
      ∧ u.hold.budget = satNat (b.holdE / 1000000000000000) 32 ∧ u.hold.elapsed = satNat ((b.up - b.hold.thUp) / secU 1) 32
      ∧ u.holdExpired = (b.holdExpired || (b.mode == .holdover && decide (b.holdLimit < b.holdE))))
    ∧ (∀ h, b.laster.holdCheck = some h → h ≤ b.ins.now → b.heel.steering = false → Answers (.holdCheck w) s [.pmc, .laster] fun u =>
      u.laster = { b.laster with holdCheck := some (nextCheck h b.ins.now) })
    ∧ (b.ins.running = true → b.heel.src = b.rd R.HLD_TEMP_CFG_SRC → b.rd R.HLD_TEMP_CFG_SRC ≠ 0 → ok = true → tempGood t = true →
      Answers (.tempSample w ok t) s [.out, .evts, .heel, .hold] fun u =>
        u.heel.seen = true ∧ u.heel.bad = 0 ∧ u.heel.good = b.heel.good + 1
        ∧ u.heel.readings = ((b.up, t) :: b.heel.readings).filter (fun e => decide (b.up ≤ e.1 + b.rateWin))
        ∧ (b.heel.tempLost = false → u.heel.t = t ∧ u.heel.tdot = slopeOf u.heel.readings ∧ u.heel.tempLost = false ∧ u.hold = b.hold)
        ∧ (b.heel.tempLost = true → b.heel.good < 2 → u.heel.t = b.heel.t ∧ u.heel.tempLost = true)
        ∧ (b.heel.tempLost = true → 2 ≤ b.heel.good → u.heel.t = t ∧ u.heel.tempLost = false ∧ u.hold.lossFrom = none ∧ u.hold.lossAcc = b.hold.loss b.up))
    ∧ (b.ins.running = true → b.heel.src = b.rd R.HLD_TEMP_CFG_SRC → b.rd R.HLD_TEMP_CFG_SRC ≠ 0 → (ok = false ∨ tempGood t = false) →
      (b.heel.tempLost = true ∨ b.heel.bad < 2 → Answers (.tempSample w ok t) s [.heel] fun u => u.heel = { b.heel with bad := b.heel.bad + 1, good := 0 })
      ∧ (b.heel.tempLost = false → 2 ≤ b.heel.bad → Answers (.tempSample w ok t) s (touches (.tempSample w ok t)) fun u =>
        ∃ c : Blk, u = c.raiseEnv errTempLost 0 ∧ c.heel.tempLost = true ∧ c.flag R.HLD_STATUS_TEMP_EVENT = true
          ∧ c.hold.lossFrom = (if b.hold.active then some b.up else none) ∧ Frame [.out, .regs, .evts, .heel, .hold] b c))
    ∧ (b.heel.src = b.rd R.HLD_TEMP_CFG_SRC → (b.ins.running = false ∨ b.rd R.HLD_TEMP_CFG_SRC = 0) → Answers (.tempSample w ok t) s [] fun u => u = b)
    ∧ (b.learns = true → Answers (.heelLearnSample w) s [.regs, .heel] fun u =>
      u.heel.epochTaken = true ∧ u.heel.count = b.heel.count + 1
      ∧ u.heel.modelValid = (b.heel.modelValid || decide (3600 * b.rd R.HLD_LEARN_MIN_H ≤ (b.heel.count + 1) * atLeast1 (b.rd R.HLD_LEARN_INT_S)))
      ∧ (∃ x : HeelSample, x.sec = (secOf b.ins.now : Int) ∧ x.tdot = b.heelTdot ∧ u.heel.samples = (x :: b.heel.samples).filter (fun y =>
          decide ((secOf b.ins.now : Int) ≤ y.sec + (86400 * atLeast1 (b.rd R.HLD_LEARN_WIN_D) : Nat))))
      ∧ (b.heel.epochTaken = true ∨ b.rd R.HLD_EPOCH_SEC ≠ 0 → u.rd R.HLD_EPOCH_SEC = b.rd R.HLD_EPOCH_SEC)
      ∧ (b.heel.epochTaken = false → b.rd R.HLD_EPOCH_SEC = 0 → u.rd R.HLD_EPOCH_SEC = secOf b.ins.now % 0x100000000))
    ∧ (b.learns = false → Answers (.heelLearnSample w) s [] fun u => u = b)

/-- An edge passes the stages of its channel, and the Awl records what the spec says. EYELET_EDGE of a channel that is live,
after pairing what was held: a level held too short is only counted, and an edge that all stages allow is counted as accepted
and advances SEQ; of a channel not in use only the level is kept. A bank level gone wrong raises its error; a stuck level, the
end of chatter, an unpaired start and the end of a gate set and clear their state; a synthetic crossing counts. TIME lost or
back is noted, and the head of a queue is delivered once confirmed. -/
def Obligations.EdgesTimestamped : Prop :=
  ∀ (s : State) (w e held pos phase n : Nat) (high : Bool), let b := s.blk.pass w; let c := b.pairAll; let x := b.eyeOf e;
    let act := high != b.flag (R.PIN_ECOND_POL e);
    (b.eyeletPresent e = true → b.eyeLive e = false → Answers (.eyeletEdge w e high held pos phase) s (touches (.eyeletEdge w e high held pos phase)) fun u =>
      u = (c.setEye e { c.eyeOf e with level := act, transAt := b.up }).txRetry)
    ∧ (b.eyeletPresent e = true → b.eyeLive e = true → act ≠ x.level → b.narrow e held = true →
      Answers (.eyeletEdge w e high held pos phase) s (touches (.eyeletEdge w e high held pos phase)) fun u =>
        u = (c.addF (R.PIN_ECNT_HELD_COUNT e) 1).txRetry)
    ∧ (b.eyeletPresent e = true → b.eyeLive e = true → act ≠ x.level → b.narrow e held = false →
      let y := b.stages4 e act b.up { c.eyeOf e with level := act, transAt := b.up };
      (Answers (.eyeletEdge w e high held pos phase) s (touches (.eyeletEdge w e high held pos phase)) fun u =>
        u = (c.transition e act (b.stampOf e b.ins.now pos) phase).txRetry)
      ∧ (b.eyeFn e ≠ 3 → x.stuck = false → y.2.1 = .admitted → b.flow.waits = [] →
        Answers (.eyeletEdge w e high held pos phase) s [.regs, .eyes] fun u => u.rd (R.PIN_ECNT_ACC_COUNT e) = (b.rd (R.PIN_ECNT_ACC_COUNT e) + 1) % 0x100000000
          ∧ (u.eyeOf e).seq = (x.seq + 1) % 0x100000000 ∧ (u.eyeOf e).level = act ∧ (u.eyeOf e).idx = y.1.idx)
      ∧ (y.2.1 = .held → x.stuck = false → b.flow.waits = [] → Answers (.eyeletEdge w e high held pos phase) s [.regs, .eyes] fun u =>
        u.rd (R.PIN_ECNT_HELD_COUNT e) = (b.rd (R.PIN_ECNT_HELD_COUNT e) + 1) % 0x100000000 ∧ (u.eyeOf e).seq = x.seq))
    ∧ (let m := min 3 n == 3 || min 3 n != b.rd R.PIN_BANK_LEVEL;
      (m = false ∨ b.eyes.mismatch = true → Answers (.mismatch w n) s [.eyes] fun u => u.eyes = { b.eyes with sensed := min 3 n, mismatch := m })
      ∧ (m = true → b.eyes.mismatch = false → Answers (.mismatch w n) s (touches (.mismatch w n)) fun u => ∃ g : Blk, u = g.raiseEnv errMismatch 0
        ∧ g.eyes = { b.eyes with sensed := min 3 n, mismatch := true } ∧ Frame [.eyes] b g))
    ∧ ((b.stuckAt e).isSome = true → Answers (.stuckOn w e) s [.regs, .eyes] fun u => (u.eyeOf e).stuck = true ∧ ∀ v, v ≠ e → u.eyeOf v = b.eyeOf v)
    ∧ (b.stuckAt e = none → Answers (.stuckOn w e) s [] fun u => u = b)
    ∧ (x.chatter = true → x.sixAt + b.chatQuiet e ≤ b.up → Answers (.chatOff w e) s [.regs, .eyes] fun u =>
      (u.eyeOf e).chatter = false ∧ (u.eyeOf e).chatFlag = true ∧ (u.eyeOf e).supCnt = 0 ∧ (u.eyeOf e).six = [])
    ∧ (∀ y, (c.eyeOf e).armed = some y → y.upAt + b.pairMax e < b.up → Answers (.nostop w e) s [.regs, .eyes] fun u =>
      (u.eyeOf e).armed = none ∧ u.rd (R.PIN_ECNT_ODD_NOSTOP e) = satNat (c.rd (R.PIN_ECNT_ODD_NOSTOP e) + 1) 8)
    ∧ (b.gateOver e = true → b.eyeUsed e = true → Answers (.freqGateEnd w e) s [.regs, .eyes] fun u =>
      (u.eyeOf e).fN = 0 ∧ (u.eyeOf e).fGate = b.ins.now / b.gateU e * b.gateU e)
    ∧ ((b.gateOver e && b.eyeUsed e) = false → Answers (.freqGateEnd w e) s [] fun u => u = b)
    ∧ (∀ l, x.cycLast = some l → b.eyeFn e = 3 → b.ins.running = true → b.laster.ents = [] →
      b.rd (R.LST_CYC_MISS_WIN e) * b.pEst e ≤ 16 * ((b.ins.now : Int) - b.ins.stepSum - l) → Answers (.synth w e) s (touches (.synth w e)) fun u =>
        (u.eyeOf e).cycN = x.cycN + 1 ∧ (u.eyeOf e).cycLast = some (l + b.pEst e) ∧ (u.eyeOf e).synthRun = x.synthRun + 1)
    ∧ (b.eyes.tbPresent = true → b.rst.oscin = false → Answers (.tbLost w n) s [.out, .regs, .evts, .eyes] fun u => u.eyes.tbPresent = false
      ∧ u.eyes.confirmed = max b.eyes.confirmed (b.ins.now - min n (usU 1)) ∧ u.flag R.PIN_STATUS_TB_EVENT = true)
    ∧ (b.eyes.tbPresent = false → b.boot.done = true → Answers (.tbBack w) s [.out, .rst, .evts, .eyes] fun u =>
      u.eyes = { b.eyes with tbPresent := true, confirmed := b.ins.now, confirmedUp := b.up } ∧ u.rst = { b.rst with oscin := true })
    ∧ (∀ p l, (c.eyeOf e).queue = p :: l → b.eyes.tbPresent = true → b.rst.oscin = true → b.ins.running = true → p.tUp ≤ b.up →
      Answers (.awlRecordDeliver w e) s [.out, .regs, .evts, .eyes] fun u => (u.eyeOf e).queue = l ∧ u.eyes.confirmed = b.ins.now
        ∧ (b.awlTakes e = true → (u.eyeOf e).lost = 0) ∧ (b.awlTakes e = false → (u.eyeOf e).lost = (c.eyeOf e).lost + 1))

/-- A rotation of calibrations starts as it may and goes on channel by channel. PIN_CAL.START of a function with SETUP in
COMMISSION, a periodic check that is due and POLICY_SET AWL_CAL start a rotation where none runs; a start without SETUP or
outside COMMISSION does nothing. The end of step 1 puts the spare in place, or skips to step 3 after a failed comparison, with
the error; step 3 takes the new delay and temperature; step 4 gives the channel back and the rotation goes on to the next, the
spare last, whose test ends it. -/
def Obligations.AwlCalibrates : Prop :=
  ∀ (s : State) (w f r diff dly : Nat) (tj : Int) (edge : Bool) (d : Desc), let b := s.blk.pass w;
    (b.setup f = true → b.mode = .commission → b.eyes.rot = none → b.ins.running = true → Answers (.pinStart w f) s [.eyes] fun u =>
      u.eyes = { b.eyes with rot := some ⟨0, 1⟩, rotFrom := b.up })
    ∧ ((b.setup f = false ∨ b.mode ≠ .commission ∨ b.eyes.rot.isSome = true) → Answers (.pinStart w f) s [] fun u => u = b)
    ∧ (let c : Blk := { b with tj := tj };
      (c.calDue = true → b.eyes.rot = none → b.ins.running = true → Answers (.calPeriodic w tj) s [.eyes, .tj] fun u =>
        u.eyes = { b.eyes with rot := some ⟨0, 1⟩, rotFrom := b.up } ∧ u.tj = tj)
      ∧ (c.calDue = false → Answers (.calPeriodic w tj) s [.tj] fun u => u.tj = tj))
    ∧ (Ready b r d 0x31 → byteAt d.data 8 = 4 → b.eyes.rot = none → b.ins.running = true → Completes (.awlCal w r) s r d stOk [] [.eyes] fun g =>
      g.eyes = { b.eyes with rot := some ⟨0, 1⟩, rotFrom := b.up })
    ∧ (Ready b r d 0x31 → byteAt d.data 8 = 4 → b.eyes.rot.isSome = true → Completes (.awlCal w r) s r d stOk [] [] fun g => g = b.beginDesc r d)
    ∧ (b.eyes.rot = none → Answers (.calStepDone w edge diff dly) s [] fun u => u = b)
    ∧ (∀ c, b.eyes.rot = some ⟨c, 1⟩ → (edge = false ∨ diff ≤ 1000) → Answers (.calStepDone w edge diff dly) s [.eyes] fun u =>
      u.eyes.rot = some ⟨c, 3⟩ ∧ u.eyeOf c = { b.eyeOf c with spare := true } ∧ ∀ v, v ≠ c → u.eyeOf v = b.eyeOf v)
    ∧ (∀ c, b.eyes.rot = some ⟨c, 1⟩ → edge = true → 1000 < diff → Answers (.calStepDone w edge diff dly) s (touches (.calStepDone w edge diff dly)) fun u =>
      u.eyes.rot = some ⟨c, 3⟩ ∧ u = ((b.awlStatus c 8 b.up diff).raiseEnv errCalFail c).setRot (some ⟨c, 3⟩))
    ∧ (∀ c, b.eyes.rot = some ⟨c, 3⟩ → c ≠ 16 → Answers (.calStepDone w edge diff dly) s [.regs, .eyes] fun u =>
      u.eyes.rot = some ⟨c, 4⟩ ∧ (u.eyeOf c).calTemp = some b.tj ∧ (u.eyeOf c).calUp = b.up ∧ u.rd (R.PIN_EDLY_DLY c) = dly % 2 ^ 24)
    ∧ (b.eyes.rot = some ⟨16, 3⟩ → Answers (.calStepDone w edge diff dly) s [.eyes] fun u => u.eyes = { b.eyes with rot := none })
    ∧ (∀ c, b.eyes.rot = some ⟨c, 4⟩ → (edge = false ∨ diff ≤ 1000) → Answers (.calStepDone w edge diff dly) s [.regs, .eyes] fun u =>
      u.eyes.rot = some (b.rotNext c) ∧ (u.eyeOf c).spare = false)

/-- A received frame is checked in order, counted, and classified. With LINK up, a frame with an error within it, below 64
octets, above MAXFRAME or with a wrong FCS is only counted, by the first check that fails; another one is counted with its
bytes, takes its receive time and is checked further: MAC control is interpreted, a frame that fails the checks of its headers
is counted, one of a Bench that is out is dropped, one not addressed to the device is counted, and what remains is classified.
Without LINK nothing happens. -/
def Obligations.FramesReceived : Prop :=
  ∀ (s : State) (w p age : Nat) (bs : Bytes) (var : Int) (bad : Bool), let b := s.blk.pass w; let c := Instr.frameReceived w p bs age var bad;
    let data := bs.take (bs.length - 4); let up := b.portPresent p && (b.portOf p).link;
    let g := ((((b.inc (C.PRT_RX_FRAMES p)).incN (C.PRT_RX_BYTES p) bs.length).pmcEvent 0x70 p 1)).fairRoll;
    let x : RxF := { port := p, tRx := b.rxTime p age var, data := data };
    (up = false → Answers (.frameReceived w p bs age var bad) s [] fun u => u = b)
    ∧ (up = true → bad = true → Answers c s [.ctr] fun u => u = b.inc (C.PRT_RX_ERR p))
    ∧ (up = true → bad = false → bs.length < 64 → Answers c s [.ctr] fun u => u = b.inc (C.PRT_RUNT p))
    ∧ (up = true → bad = false → 64 ≤ bs.length → b.rd (R.PRT_MAXFRAME_MAXFRAME p) < bs.length → Answers c s [.ctr] fun u => u = b.inc (C.PRT_OVERSIZE p))
    ∧ (up = true → bad = false → 64 ≤ bs.length → bs.length ≤ b.rd (R.PRT_MAXFRAME_MAXFRAME p) →
      (fcsOf data ≠ bs.drop (bs.length - 4) → Answers c s [.ctr] fun u => u = b.inc (C.PRT_FCS p))
      ∧ (fcsOf data = bs.drop (bs.length - 4) → let l := layOf (b.tpid p) data;
        (l.et = 0x8808 → Answers c s (touches c) fun u => u = g.macControl p (sliceB data 0 6) (data.drop l.off))
        ∧ (∀ sum, l.et ≠ 0x8808 → headerFault (b.tpid p) data = some sum → Answers c s (touches c) fun u => u = g.badFrame x sum)
        ∧ (l.et ≠ 0x8808 → headerFault (b.tpid p) data = none → b.benchUp (benchOfPort p) = false → Answers c s [.ctr, .pmc, .clk] fun u => u = g.inc C.CLK_ING_FULL)
        ∧ (l.et ≠ 0x8808 → headerFault (b.tpid p) data = none → b.benchUp (benchOfPort p) = true → b.forUs x = false →
          Answers c s [.ctr, .pmc, .clk] fun u => u = g.inc C.CLK_NOTME)
        ∧ (l.et ≠ 0x8808 → headerFault (b.tpid p) data = none → b.benchUp (benchOfPort p) = true → b.forUs x = true →
          Answers c s (touches c) fun u => u = g.classify x)))

/-- LINK, pauses, storms, low-power idle and quality levels of a port. LINK_CHANGE takes what the PCS shows, and LINK follows
R159, with its event. The end of a pause frees the re-seals that wait for it; a hold of LIMIT_US is a storm: pauses end and
are ignored for IGNORE_MS, with its error. A port that is idle for IDLE_US enters low-power idle where it is effective, and
wakes for TW_TX before it sends. Without an ESMC message for 5 s the level received is QL-DNU; a port sends its own code in an
event PDU when it changes and in an information PDU every second. -/
def Obligations.PortsFollowTheirLines : Prop :=
  ∀ (s : State) (w p : Nat) (x1 x2 x3 x4 x5 x6 : Bool), let b := s.blk.pass w; let q := b.portOf p;
    let c := b.setPort p { q with lock := x1, fecLock := x2, aligned := x3, localFault := x4, remoteFault := x5, lpiRx := x6 };
    (b.portPresent p = true → Answers (.linkChange w p x1 x2 x3 x4 x5 x6) s (touches (.linkChange w p x1 x2 x3 x4 x5 x6)) fun u =>
      (u.portOf p).link = c.linkCond p ∧ (u.portOf p).lock = x1 ∧ (u.portOf p).remoteFault = x5
      ∧ (c.linkCond p ≠ q.link → u.flag (R.PRT_STATUS_LINK_EVENT p) = true))
    ∧ (b.portPresent p = false → Answers (.linkChange w p x1 x2 x3 x4 x5 x6) s [] fun u => u = b)
    ∧ (b.paused p (b.serveTc p) = true → Answers (.pauseExpire w p) s [] fun u => u = b)
    ∧ (b.paused p (b.serveTc p) = false → Answers (.pauseExpire w p) s [.nts] fun u => u.nts = { b.nts with ctxs := b.nts.ctxs.map fun e =>
        if e.2.req.port == p && (e.2.missed == some 2) && e.2.ready.isNone then (e.1, { e.2 with ready := some b.up }) else e })
    ∧ (b.stormDue p = true → Answers (.storm w p) s (touches (.storm w p)) fun u => ∃ g : Blk, u = (g.raiseEnv errStorm p).pauseOver p
        ∧ (g.portOf p).stormEnd = some (b.up + msU (atLeast1 (b.rd (R.PRT_PAUSE_IGNORE_MS p)))) ∧ (g.portOf p).pauseEnd = b.up ∧ (g.portOf p).pfcEnd = []
        ∧ (g.portOf p).runFrom = [] ∧ Frame [.ctr, .ports] b g)
    ∧ (b.stormDue p = false → Answers (.storm w p) s [] fun u => u = b)
    ∧ (∀ e, q.stormEnd = some e → (e ≤ b.up → Answers (.stormEnd w p) s [.ports] fun u => u.portOf p = { q with stormEnd := none } ∧ ∀ v, v ≠ p → u.portOf v = b.portOf v)
        ∧ (b.up < e → Answers (.stormEnd w p) s [] fun u => u = b))
    ∧ (b.canSend p = true → b.lpiOn p = true → q.idle = true → (q.busyEnd : Int) ≤ b.tm → q.idleFrom + usU (atLeast1 (b.rd (R.PRT_LPI_IDLE_US p))) ≤ b.up →
      b.launchWithin p (b.twTx p + usU 2) = false → Answers (.lpiEnter w p) s [.ctr, .ports] fun u => u.portOf p = { q with lpiTx := true }
        ∧ u.ctr = (b.inc (C.PRT_LPI_ENTRY p)).ctr)
    ∧ ((b.canSend p && b.lpiOn p && q.idle) = false → Answers (.lpiEnter w p) s [] fun u => u = b)
    ∧ (q.lpiTx = true → (q.idle = false ∨ b.launchWithin p (b.twTx p + usU 1 + 1) = true ∨ b.lpiOn p = false) →
      Answers (.lpiWake w p) s [.ports] fun u => u.portOf p = { q with lpiTx := false, wakeEnd := b.up + b.twTx p })
    ∧ (q.lpiTx = false → Answers (.lpiWake w p) s [] fun u => u = b)
    ∧ (q.qlTimeout = false → q.esmcAt + secU 5 ≤ b.up → Answers (.qlTimeout w p) s [.out, .evts, .refs, .heel, .hold, .ports] fun u =>
      u.portOf p = { q with qlTimeout := true, qlRx := 0xF })
    ∧ (q.qlTimeout = true ∨ b.up < q.esmcAt + secU 5 → Answers (.qlTimeout w p) s [] fun u => u = b)
    ∧ (let event := b.qlCode p != q.qlSent; let f := builtFrame p (b.rd (R.PRT_TXCTL_PTP_TC p)) .esmc (b.esmcFrame p (b.qlCode p) event);
      let due := b.pfeat p featSynceOut && q.link && !b.nearLoop p && (event || decide (q.esmcTxAt + secU 1 ≤ b.up));
      (due = true → b.egGrants p f.len = true → Answers (.esmcTx w p) s [.ports, .flow] fun u => (u.portOf p).qlSent = b.qlCode p
        ∧ (u.portOf p).queue = q.queue ++ [{ f with eg := f.len, id := b.flow.seq, heldFrom := b.leaseNow }]
        ∧ (u.portOf p).esmcTxAt = if event then q.esmcTxAt else b.up)
      ∧ (due = false ∨ b.egGrants p f.len = false → Answers (.esmcTx w p) s [] fun u => u = b))

/-- Gate lists are written, committed, aborted and set by POLICY_SET. PRT_GCL_DATA reads the word at ADDR of the buffer and,
with SETUP in COMMISSION, writes it; either advances ADDR modulo 1,024. COMMIT with SETUP in COMMISSION of an image with all
fields in range arms the change at T_c, and sets REJECTED for another; ABORT takes the pending change back. POLICY_SET
GATE_LIST arms the list it carries, is BUSY while a change is pending and MALFORMED with REJECTED for a list out of range;
PORT_LPI sets TW_TX. -/
def Obligations.GateListsAndLpiSet : Prop :=
  ∀ (s : State) (w f p r v : Nat) (img : Bytes) (d : Desc), let b := s.blk.pass w; let q := b.portOf p; let c := b.beginDesc r d;
    let may := b.setup f && b.mode == .commission && b.portPresent p; let a := b.rd (R.PRT_GCL_ADDR_ADDR p);
    (∀ l, may = true → gateImage (fun i => tget 0 q.image i) = some l → Answers (.gclCommit w f p) s (touches (.gclCommit w f p)) fun u =>
      (u.portOf p).pend = some (l, l.changeAt b.ins.now, b.laster.seq) ∧ (q.armed.filter TxF.sealed = [] →
        u.portOf p = { q with pend := some (l, l.changeAt b.ins.now, b.laster.seq) } ∧ u.laster = { b.laster with seq := b.laster.seq + 1 }))
    ∧ (may = true → gateImage (fun i => tget 0 q.image i) = none → Answers (.gclCommit w f p) s [.regs] fun u => u.flag (R.PRT_GCL_STATUS_REJECTED p) = true)
    ∧ (may = false → Answers (.gclCommit w f p) s [] fun u => u = b)
    ∧ (may = true → Answers (.gclAbort w f p) s [.ports] fun u => u.portOf p = { q with pend := none } ∧ ∀ n, n ≠ p → u.portOf n = b.portOf n)
    ∧ (may = false → Answers (.gclAbort w f p) s [] fun u => u = b)
    ∧ (b.sesOpen f = true → b.portPresent p = true → Answers (.prtGclDataAccess w f p false v) s [.regs, .out] fun u =>
      u.rd (R.PRT_GCL_ADDR_ADDR p) = (a + 1) % 1024
      ∧ u.out = .readData f (R.PRT_GCL_DATA p) [BitVec.ofNat 32 (if a < 520 then tget 0 q.image a else 0)] :: b.out)
    ∧ (may = true → a < 520 → v < 0x100000000 → Answers (.prtGclDataAccess w f p true v) s [.regs, .ports] fun u =>
      u.rd (R.PRT_GCL_ADDR_ADDR p) = (a + 1) % 1024 ∧ (v ≠ 0 → tget 0 (u.portOf p).image a = v)
      ∧ ∀ i, i ≠ a → tget 0 (u.portOf p).image i = tget 0 q.image i)
    ∧ (b.setup f = true → b.portPresent p = true → (b.mode ≠ .commission ∨ 520 ≤ a) → Answers (.prtGclDataAccess w f p true v) s [.regs] fun u =>
      u.rd (R.PRT_GCL_ADDR_ADDR p) = (a + 1) % 1024)
    ∧ (b.setup f = false ∨ b.portPresent p = false → Answers (.prtGclDataAccess w f p true v) s [] fun u => u = b)
    ∧ (Ready b r d 0x31 → byteAt d.data 8 = 2 → byteAt d.data 9 = p → p < 32 → b.portPresent p = true →
      let x := gateImage fun i => leAt (sliceB img 0 (leAt d.data 12 4)) (4 * i) 4;
      (x = none → Completes (.policySetGateList w r img) s r d stMalformed [] [.regs] fun g => g.flag (R.PRT_GCL_STATUS_REJECTED p) = true)
      ∧ ∀ l, x = some l → (q.pend.isSome = true → Completes (.policySetGateList w r img) s r d stBusy [] [] fun g => g = c)
        ∧ (q.pend = none → Completes (.policySetGateList w r img) s r d stOk [] [.ctr, .laster, .ports, .nts] fun g =>
          (g.portOf p).pend = some (l, l.changeAt b.ins.now, b.laster.seq)))
    ∧ (Ready b r d 0x31 → byteAt d.data 8 = 3 → byteAt d.data 9 = p →
      (32 ≤ p → Completes (.policySetPortLpi w r) s r d stMalformed [] [] fun g => g = c)
      ∧ (p < 32 → b.portPresent p = false → Completes (.policySetPortLpi w r) s r d stAbsent [] [] fun g => g = c)
      ∧ (p < 32 → b.portPresent p = true → Completes (.policySetPortLpi w r) s r d stOk [] [.regs] fun g =>
        g.rd (R.PRT_LPI_TW_TX p) = leAt d.data 24 2))

/-- A TX_FRAME is checked and takes its space, frames start at their launch points, and waits end. TX_FRAME of an absent port,
of a length or launch time out of range or of checksums that cannot be computed completes with its status. One without launch,
with LINK up and space free, is queued at once, padded; without space it waits, not begun. At a launch point the committed
frame starts, or the one that R173 chooses; the Closer commits it 160 ns ahead. TX_FRAME_DONE writes the oldest completion
owed. Frames that have held their space for EG_MAX_MS go, and TX_FRAMEs that have waited TXW_US. -/
def Obligations.FramesSent : Prop :=
  ∀ (s : State) (w r p : Nat) (data : Bytes) (d : Desc), let b := s.blk.pass w; let c := b.beginDesc r d; let o := byteAt d.data 18 % 32; let n := leAt d.data 16 2;
    let bs := sliceB data 0 n; let fl := byteAt d.data 19;
    (Ready b r d 0x01 → b.portPresent o = false → Completes (.txFrame w r data) s r d stAbsent [] [] fun g => g = c)
    ∧ (Ready b r d 0x01 → b.portPresent o = true → launchTime b.ins.now d.data = none → Completes (.txFrame w r data) s r d stMalformed [] [] fun g => g = c)
    ∧ (∀ L, Ready b r d 0x01 → b.portPresent o = true → launchTime b.ins.now d.data = some L →
      (b.rd (R.PRT_MAXFRAME_MAXFRAME o) < n + 4 → Completes (.txFrame w r data) s r d stMalformed [] [.ctr] fun g => g = c.inc (C.PRT_TX_OVERSIZE o))
      ∧ (n + 4 ≤ b.rd (R.PRT_MAXFRAME_MAXFRAME o) → (n < 14 ∨ n < 60 ∧ b.flag (R.PRT_TXCTL_PAD o) = false) →
        Completes (.txFrame w r data) s r d stMalformed [] [] fun g => g = c)
      ∧ (n + 4 ≤ b.rd (R.PRT_MAXFRAME_MAXFRAME o) → 14 ≤ n → (60 ≤ n ∨ b.flag (R.PRT_TXCTL_PAD o) = true) →
        (csumOk (b.tpid o) (bitOf fl 3) (bitOf fl 4) bs = false → Completes (.txFrame w r data) s r d stMalformed [] [] fun g => g = c)
        ∧ (csumOk (b.tpid o) (bitOf fl 3) (bitOf fl 4) bs = true → let f := b.txFrameOf ⟨r, d.id⟩ d.data bs L; let g := if n < 60 then c.inc (C.PRT_TX_PAD o) else c;
          (Answers (.txFrame w r data) s (touches (.txFrame w r data)) fun u => u = g.txClaim ⟨r, d.id⟩ f)
          ∧ (L = none → (b.portOf o).link = true → b.egFits o f.eg = true → b.egClaimed o = false →
            Answers (.txFrame w r data) s [.ctr, .rings, .ports, .flow] fun u =>
              (u.portOf o).queue = (b.portOf o).queue ++ [{ f with id := b.flow.seq, heldFrom := b.leaseNow }] ∧ u.flow.waits = b.flow.waits)
          ∧ (L = none → (b.portOf o).link = true → b.egFits o f.eg = false → b.escalated r 1 = false →
            Answers (.txFrame w r data) s [.ctr, .rings, .flow] fun u =>
              u.flow.waits = b.flow.waits ++ [TxWait.mk ⟨r, d.id⟩ f b.up false]))))
    ∧ (∀ x l, b.flow.done = x :: l → Answers (.txFrameDone w) s [.out, .rings, .pmc, .flow] fun u =>
      u.flow.done = l ∧ u = (Blk.complete { b with flow := { b.flow with done := l } } x.1 x.2.1 x.2.2))
    ∧ (b.flow.done = [] → Answers (.txFrameDone w) s [] fun u => u = b)
    ∧ (b.canSend p = false → Answers (.frameStart w p) s (touches (.frameStart w p)) fun u => u = b.txRetry)
    ∧ (∀ g f at_, b.canSend p = true → (b.portOf p).commit = some (g, f, at_) → b.paused f.port f.cls = false → at_ ≤ b.tm →
      Answers (.frameStart w p) s (touches (.frameStart w p)) fun u =>
        u = (((b.setPort f.port { b.portOf f.port with commit := none }).startBody f (at_ + b.ins.stepSum).toNat)).txRetry)
    ∧ (b.canSend p = true → (b.portOf p).commit = none → let y := b.dropNoFit p (b.portOf p).queue.length;
      (∀ f, y.chooseAt p (b.launchPoint p (b.ins.now + b.wireU p 8)) = some f → Answers (.frameStart w p) s (touches (.frameStart w p)) fun u =>
        u = ((y.takeFrame f).startAt f (b.launchPoint p (b.ins.now + b.wireU p 8))).txRetry)
      ∧ (∀ f, y.chooseAt p (b.launchPoint p (b.ins.now + nsU 160)) = some f → Answers (.closerCommit w p) s (touches (.closerCommit w p)) fun u =>
        ∃ h, (u.portOf p).commit = some (f, h, (b.launchPoint p (b.ins.now + nsU 160) : Int) - b.ins.stepSum) ∧ h.port = f.port ∧ h.cls = f.cls ∧ h.id = f.id))
    ∧ (b.canSend p = false → Answers (.closerCommit w p) s (touches (.closerCommit w p)) fun u => u = b.txRetry)
    ∧ (b.flow.waits = [] → Answers (.egExpire w) s (touches (.egExpire w)) fun u => ∀ o f, o < 32 → f ∈ u.portFrames o → b.egExpired f = false)
    ∧ ((∀ o f, o < 32 → f ∈ b.portFrames o → b.egExpired f = false) → Answers (.egExpire w) s (touches (.egExpire w)) fun u => u = b.txRetry)
    ∧ Answers (.txwExpire w) s (touches (.txwExpire w)) (fun u => u.flow.waits = b.flow.waits.filter (!b.txLate ·))

/-- The Dispatcher assigns a re-seal before any request, requests that are too old go, and epochs roll. DISPATCH_ASSIGN gives
the oldest re-seal that can start its Lane; where none can, the first head of the port queues that has its egress space, a
context if it needs one and a Lane is assigned, and leaves the queue. AGE_SHED sheds the waiting requests that have reached
their age. At a new epoch the level of fair admission is formed anew and nothing is offered yet. The oldest frame held for the
exception ring goes to the oldest buffer, when both are there. -/
def Obligations.RequestsDispatched : Prop :=
  ∀ (s : State) (w : Nat), let b := s.blk.pass w; let heads := (reqHeads b.clk.reqs).filter fun r => decide (b.leaseNow < b.ageEnd r);
    (∀ k x l, b.resealNext = some (k, x, l) → Answers (.dispatchAssign w) s [.pmc, .clk, .eng, .nts] fun u =>
      u.invAt? l = some { entry := 2, req := x.req, eg := 0, ctx := some k, heldFrom := b.up, startUp := b.leaseNow }
      ∧ u.ctxAt? k = some { x with ready := none } ∧ u.clk.reqs = b.clk.reqs)
    ∧ (∀ r rest g r1 i l, b.resealNext = none → heads = r :: rest → b.reqReserve r = (g, some r1) → g.pickBench r1 = some i → g.nextLane i = some l →
      Answers (.dispatchAssign w) s (touches (.dispatchAssign w)) fun u => u = g.assign r1 i l
        ∧ (∃ v, u.invAt? l = some v ∧ v.req = r1 ∧ v.eg = r1.eg ∧ v.started = false ∧ v.entry = if r1.nts then 1 else 0)
        ∧ u.clk.reqs = g.clk.reqs.filter fun q => q.num != r1.num)
    ∧ (b.resealNext = none → heads = [] → Answers (.dispatchAssign w) s [] fun u => u = b)
    ∧ Answers (.ageShed w) s (touches (.ageShed w)) (fun u => u.clk.reqs = b.clk.reqs.filter fun r => decide (b.leaseNow < b.ageEnd r))
    ∧ ((∀ r ∈ b.clk.reqs, b.leaseNow < b.ageEnd r) → Answers (.ageShed w) s (touches (.ageShed w)) fun u => u = b.txRetry)
    ∧ (b.epochNo ≠ b.clk.epoch → Answers (.fairEpoch w) s [.ctr, .clk] fun u =>
      u.clk.epoch = b.up / usU 10 ∧ u.clk.offered = [] ∧ u.clk.admitted = [] ∧ u.clk.reqs = b.clk.reqs
      ∧ let l := b.clk.offered.map (·.2);
        u.clk.shedding = (!b.underQuota l l.sum && decide (b.epochNo = b.clk.epoch + 1)))
    ∧ (b.epochNo = b.clk.epoch → Answers (.fairEpoch w) s [] fun u => u = b)
    ∧ (∀ e rest d more, b.clk.exc = e :: rest → b.rxBufs = d :: more → Answers (.excDeliver w) s [.out, .ctr, .rings, .pmc, .clk, .flow] fun u =>
      u.clk.exc = rest ∧ ∃ g : Blk, g.out = .hostWrite (b.ringOwner (b.rd R.CLK_EXC_RING)) (leAt d.data 8 8) (e.data.take (leAt d.data 16 2)) :: b.out
        ∧ u = g.completeX ⟨b.rd R.CLK_EXC_RING, d.id⟩ stOk (excResult e ((e.t2 : Int) + (b.ins.stepSum - e.steps)).toNat (leAt d.data 16 2))
          (b.ins.stepSum - e.steps != 0))
    ∧ (b.clk.exc = [] ∨ b.rxBufs = [] → Answers (.excDeliver w) s [] fun u => u = b)

/-- An invocation starts, decides, returns, or is stopped. ENGINE_INVOKE of a Lane whose entry point is 0 starts the
invocation for the exception ring; otherwise it decides at once where the bucket lies in the cache, and waits for the Store
where not, until BUCKET_ARRIVE. PATTERN_RETURN with a planned code carries out the plan, EXCEPT sends the request to the
exception ring, any other code is a FAULT. Past its instruction limit an invocation is stopped with error 0x13; a bucket held
for 4 µs is revoked with error 0x14; a Store that takes too long is a FAULT with error 0x15. -/
def Obligations.InvocationsRun : Prop :=
  ∀ (s : State) (w lane code instr : Nat) (scratch : Bytes) (v : Inv), let b := s.blk.pass w; let has := bitOf (b.setOf (lane / 64)).entries v.entry;
    let n := b.pmcEvent 0x20 (lane / 4) instr;
    b.invAt? lane = some v →
    (v.started = false → v.lockWait = false →
      (has = false → ∀ hit, Answers (.engineInvoke w lane hit) s (touches (.engineInvoke w lane hit)) fun u => u = (b.invExcept lane v excPattern).txRetry)
      ∧ (has = true → v.entry ≠ 2 → Answers (.engineInvoke w lane true) s (touches (.engineInvoke w lane true)) fun u =>
        ∃ x, u.invAt? lane = some x ∧ x.started = true ∧ x.plan.isSome = true ∧ x.storeWait = false ∧ x.req = v.req ∧ x.startUp = b.leaseNow)
      ∧ (has = true → v.entry ≠ 2 → Answers (.engineInvoke w lane false) s (touches (.engineInvoke w lane false)) fun u =>
        u.invAt? lane = some { v with started := true, startUp := b.leaseNow, storeWait := true })
      ∧ (∀ k x, has = true → v.entry = 2 → v.ctx = some k → b.ctxAt? k = some x → b.servesNtp (b.nearLoop v.req.port) = true →
        Answers (.resealStart w lane) s (touches (.resealStart w lane)) fun u =>
          u.invAt? lane = some { v with started := true, startUp := b.leaseNow, plan := some .serve }
          ∧ u.ctxAt? k = some { x with reseals := x.reseals + 1, missed := none }))
    ∧ (v.started = true ∨ v.lockWait = true → ∀ hit, Answers (.engineInvoke w lane hit) s (touches (.engineInvoke w lane hit)) fun u => u = b.txRetry)
    ∧ (v.storeWait = true → Answers (.bucketArrive w lane) s [.regs, .ctr, .eng, .nts] fun u =>
      ∃ x, u.invAt? lane = some x ∧ x.started = true ∧ x.plan.isSome = true ∧ x.storeWait = false ∧ x.req = v.req)
    ∧ (v.storeWait = false → Answers (.bucketArrive w lane) s [] fun u => u = b)
    ∧ (v.started = true → v.self = false →
      (∀ p, planned code = true → v.plan = some p → Answers (.patternReturn w lane code instr scratch) s (touches (.patternReturn w lane code instr scratch)) fun u =>
        u = ((n.planReturn lane v p).selfSync).txRetry)
      ∧ (code = 0x20 → Answers (.patternReturn w lane code instr scratch) s (touches (.patternReturn w lane code instr scratch)) fun u =>
        u = ((n.inc C.ENG_EXCEPT).invExcept lane v excPattern).txRetry)
      ∧ (planned code = false → code ≠ 0x20 → Answers (.patternReturn w lane code instr scratch) s (touches (.patternReturn w lane code instr scratch)) fun u =>
        u = ((n.invFault lane v).selfSync).txRetry))
    ∧ (v.started = true → v.self = false → v.entry ≠ 2 → clampN 256 4095 (b.rd R.ENG_CTRL_LIMIT) < instr →
      Answers (.overrun w lane instr scratch) s (touches (.overrun w lane instr scratch)) fun u =>
        u = (((((b.inc C.ENG_OVERRUN).pmcEvent 0x20 (lane / 4) instr).invExcept lane v excOverrun).raise 0x13 (lane / 4) 0)).txRetry)
    ∧ (instr ≤ clampN 256 4095 (b.rd R.ENG_CTRL_LIMIT) → Answers (.overrun w lane instr scratch) s (touches (.overrun w lane instr scratch)) fun u => u = b.txRetry)
    ∧ (∀ k, v.bucket = some k → b.lockHolder k = some lane → v.lockFrom + usU 4 ≤ b.leaseNow →
      Answers (.bucketLeaseExpire w lane) s (touches (.bucketLeaseExpire w lane)) fun u => u = ((((b.raise 0x14 (lane / 4) 0).invDiscard lane).selfSync)).txRetry)
    ∧ (v.bucket = none → Answers (.bucketLeaseExpire w lane) s (touches (.bucketLeaseExpire w lane)) fun u => u = b.txRetry)
    ∧ (v.started = true → v.storeWait = true → v.startUp + usU (atLeast1 (b.rd R.FLC_LIMIT_STORE_TMO_US)) ≤ b.leaseNow →
      Answers (.storeTimeout w lane) s (touches (.storeTimeout w lane)) fun u =>
        u = (((((b.inc C.FLC_STORE_TMO).invFault lane v).raise 0x15 0x59 0).selfSync)).txRetry)
    ∧ (v.storeWait = false → Answers (.storeTimeout w lane) s (touches (.storeTimeout w lane)) fun u => u = b.txRetry)

/-- CLIENT_TABLE_OP reads, sets, deletes and resets one row under its bucket, or waits for it. With its bucket free, LOOKUP
writes the row of the key, or an invalid one, to the buffer; UPSERT sets the row, or makes one in an invalid or older place,
and is DENIED where both are PINNED; DELETE empties the row, and RESET_COUNTS clears its counts; the other row and the other
buckets stay. With the bucket held the operation waits, not begun, and after 8 µs leaves with BUSY_RETRY. A key out of range
is MALFORMED, and a follower denies what changes the table. -/
def Obligations.ClientTableOperations : Prop :=
  ∀ (s : State) (w r : Nat) (d : Desc), let b := s.blk.pass w; let c := b.beginDesc r d; let k := ctOpKey d.data; let at_ := b.bucketOf k.2;
    let bkt := b.bucketAt at_; let now := now16 b.ins.now;
    (Ready b r d 0x30 → b.desc? ⟨r, d.id⟩ = some d →
    (subOp d.data = 1 → ctBad d.data = true → Completes (.ctLookup w r) s r d stMalformed [] [] fun g => g = c)
    ∧ (subOp d.data = 2 → b.mode = .follower → ctBad d.data = false → Completes (.ctUpsert w r) s r d stDenied [] [] fun g => g = c)
    ∧ (ctBad d.data = false → b.ctDenied d.data = false → b.lockHolder at_ = none →
      (subOp d.data = 1 →
        (∀ i, findRow bkt k.1 k.2 = some i → Completes (.ctLookup w r) s r d stOk [] [.out] fun g =>
          g.out = .hostWrite (b.ringOwner r) (leAt d.data 24 8) (rowBytes (rowAt bkt i)) :: b.out)
        ∧ (findRow bkt k.1 k.2 = none → Completes (.ctLookup w r) s r d stOk [] [.out] fun g =>
          g.out = .hostWrite (b.ringOwner r) (leAt d.data 24 8) (rowBytes { valid := false, v6 := k.1, key := leNat k.2 }) :: b.out))
      ∧ (subOp d.data = 2 →
        (∀ i, findRow bkt k.1 k.2 = some i → Completes (.ctUpsert w r) s r d stOk [] [.ct] fun g =>
          g.bucketAt at_ = putRow bkt i (ctUpsertRow d.data (rowAt bkt i)) ∧ ∀ j, j ≠ at_ → g.bucketAt j = b.bucketAt j)
        ∧ (findRow bkt k.1 k.2 = none → victim bkt now = none → Completes (.ctUpsert w r) s r d stDenied [] [] fun g => g = c)
        ∧ (∀ i, findRow bkt k.1 k.2 = none → victim bkt now = some i → Completes (.ctUpsert w r) s r d stOk [] [.regs, .ctr, .ct] fun g =>
          g.bucketAt at_ = putRow bkt i (ctUpsertRow d.data (b.newRow k.1 k.2 now)) ∧ ∀ j, j ≠ at_ → g.bucketAt j = b.bucketAt j))
      ∧ (subOp d.data = 3 →
        (∀ i, findRow bkt k.1 k.2 = some i → Completes (.ctDelete w r) s r d stOk [] [.ct] fun g =>
          g.bucketAt at_ = putRow bkt i {} ∧ ∀ j, j ≠ at_ → g.bucketAt j = b.bucketAt j)
        ∧ (findRow bkt k.1 k.2 = none → Completes (.ctDelete w r) s r d stOk [] [] fun g => g = c))
      ∧ (subOp d.data = 4 →
        (∀ i, findRow bkt k.1 k.2 = some i → Completes (.ctResetCounts w r) s r d stOk [] [.ct] fun g =>
          g.bucketAt at_ = putRow bkt i { rowAt bkt i with served := 0, limited := 0, kodCnt := 0 } ∧ ∀ j, j ≠ at_ → g.bucketAt j = b.bucketAt j)
        ∧ (findRow bkt k.1 k.2 = none → Completes (.ctResetCounts w r) s r d stOk [] [] fun g => g = c)))
    ∧ (∀ h, subOp d.data = 1 → ctBad d.data = false → b.lockHolder at_ = some h → b.escalated r 0x30 = false →
      Answers (.ctLookup w r) s [.rings, .ct] fun u => u.ct = { b.ct with waits := b.ct.waits ++ [(at_, .op ⟨r, d.id⟩ b.up)] }))
    ∧ Answers (.clientTableLockTimeout w) s [.out, .rings, .pmc, .flow, .ct] fun u => u.ct = { b.ct with waits := b.ct.waits.filter fun e =>
        match e.2 with | .op ref _ => !(b.lockLate.map (·.2)).contains ref | .lane _ => true }

/-- Flushes, scans and the record lists of the client policy. FLUSH and SCAN_NOW begin where neither runs and are BUSY
otherwise; FLUSH on a follower is DENIED. A flush leaves PINNED rows alone. The ageing scan begins by itself. What was locked
is visited later, and with nothing left the flush or scan ends with its completions. POLICY_SET CLIENT_POLICY and SERVICE_ADDR
write every record of a list whose offsets they allow, advancing the generation of the access list with a change in it; a list
that names another offset is MALFORMED and writes nothing. -/
def Obligations.TableScansAndPolicies : Prop :=
  ∀ (s : State) (w r : Nat) (img : Bytes) (d : Desc), let b := s.blk.pass w; let c := b.beginDesc r d; let n := leAt d.data 12 4;
    let rs := recordsOf (sliceB img 0 n); let held := fun i => (b.lockHolder i).isSome;
    (Ready b r d 0x30 → subOp d.data = 5 →
      (b.mode = .follower → Completes (.ctFlush w r) s r d stDenied [] [] fun g => g = c)
      ∧ (b.mode ≠ .follower → b.tableBusy = true → Completes (.ctFlush w r) s r d stBusy [] [] fun g => g = c)
      ∧ (b.mode ≠ .follower → b.tableBusy = false → Answers (.ctFlush w r) s [.rings, .ct] fun u =>
        u.ct.flushBusy = true ∧ u.ct.flushRef = some ⟨r, d.id⟩ ∧ u.ct.flushLeft = b.usedBuckets.filter held
        ∧ ∀ i, i ∈ b.usedBuckets → held i = false → ∀ j, (rowAt (u.bucketAt i) j).valid = true → (rowAt (u.bucketAt i) j).pinned = true))
    ∧ (Ready b r d 0x30 → subOp d.data = 6 →
      (b.tableBusy = true → Completes (.ctScanNow w r) s r d stBusy [] [] fun g => g = c)
      ∧ (b.tableBusy = false → Answers (.ctScanNow w r) s [.ctr, .rings, .ct] fun u =>
        u.ct.scanBusy = true ∧ u.ct.scanRefs = [⟨r, d.id⟩] ∧ u.ct.scanLeft = b.usedBuckets.filter held))
    ∧ (b.ct.scanBusy = false → Answers (.ageingScan w) s [.ctr, .ct] fun u =>
      u.ct.scanBusy = true ∧ u.ct.scanRefs = [] ∧ u.ct.scanLeft = b.usedBuckets.filter held)
    ∧ (b.ct.scanBusy = true → Answers (.ageingScan w) s [] fun u => u = b)
    ∧ (b.ct.scanBusy = true → b.ct.scanLeft.any held = false → Answers (.ctScanDone w) s [.out, .ctr, .rings, .pmc, .flow, .ct] fun u =>
      u.ct.scanBusy = false ∧ u.ct.scanRefs = [] ∧ u.ct.scanLeft = [] ∧ (b.ct.scanLeft = [] →
        u = b.ct.scanRefs.foldl (fun x ref => x.complete ref stOk []) { b with ct := { b.ct with scanBusy := false, scanRefs := [], scanLeft := [] } }))
    ∧ (b.ct.scanBusy = true → b.ct.scanLeft.any held = true → Answers (.ctScanDone w) s [.ctr, .ct] fun u =>
      u.ct.scanBusy = true ∧ u.ct.scanLeft = b.ct.scanLeft.filter held)
    ∧ (b.ct.flushBusy = true → b.ct.flushLeft.any held = false → Answers (.ctFlushDone w) s [.out, .rings, .pmc, .flow, .ct] fun u =>
      u.ct.flushBusy = false ∧ u.ct.flushRef = none ∧ u.ct.flushLeft = [])
    ∧ (b.ct.flushBusy = true → b.ct.flushLeft.any held = true → Answers (.ctFlushDone w) s [.ct] fun u =>
      u.ct.flushBusy = true ∧ u.ct.flushRef = b.ct.flushRef ∧ u.ct.flushLeft = b.ct.flushLeft.filter held)
    ∧ (Ready b r d 0x31 → byteAt d.data 8 = 5 →
      (b.mode = .follower → Completes (.clientPolicy w r img) s r d stDenied [] [] fun g => g = c)
      ∧ (b.mode ≠ .follower → (n = 0 ∨ n % 8 ≠ 0 ∨ 4096 < n ∨ rs.all (fun x => policyOff x.1) = false) →
        Completes (.clientPolicy w r img) s r d stMalformed [] [] fun g => g = c)
      ∧ (b.mode ≠ .follower → n ≠ 0 → n % 8 = 0 → n ≤ 4096 → rs.all (fun x => policyOff x.1) = true →
        Completes (.clientPolicy w r img) s r d stOk [] [.regs, .ct] fun g => g.regs = (rs.foldl Blk.recordPut b).regs
          ∧ g.ct = { b.ct with aclGen := if (rs.foldl Blk.recordPut b).aclWords = b.aclWords then b.ct.aclGen else (b.ct.aclGen + 1) % 256 }))
    ∧ (Ready b r d 0x31 → byteAt d.data 8 = 6 → b.mode ≠ .follower →
      ((n = 0 ∨ n % 8 ≠ 0 ∨ 4096 < n ∨ rs.all (fun x => serviceOff x.1) = false) →
        Completes (.serviceAddr w r img) s r d stMalformed [] [] fun g => g = c)
      ∧ (n ≠ 0 → n % 8 = 0 → n ≤ 4096 → rs.all (fun x => serviceOff x.1) = true →
        Completes (.serviceAddr w r img) s r d stOk [] [.regs, .ct] fun g => g.regs = (rs.foldl Blk.recordPut b).regs))

/-- A Pattern set is loaded once the Benches have drained, and a SELFTEST runs every engine it names. PATTERN_LOAD begins in
COMMISSION or DIAGNOSTIC, or rolling in a serving mode, where no load runs. BENCH_DRAINED, once the Benches it drains hold no
invocation, checks the image: the first check that fails gives the status and FAIL_CODE, and the previous set runs on;
otherwise the Benches run the new set, and with the last one the load ends. SELFTEST in DIAGNOSTIC starts once its engines are
idle, and completes with its 16 result bytes when all have returned. -/
def Obligations.PatternsAndSelftests : Prop :=
  ∀ (s : State) (w r : Nat) (img : Bytes) (d : Desc) (parity : Bool), let b := s.blk.pass w; let c := b.beginDesc r d;
    let quiet := b.mode == .commission || b.mode == .diagnostic; let rolling := bitOf (byteAt d.data 8) 0;
    (Ready b r d 0x60 → b.eng.load.isSome = true → Completes (.patternLoad w r img) s r d stBusy [] [] fun g => g = c)
    ∧ (Ready b r d 0x60 → b.eng.load = none → quiet = false → rolling = false → Completes (.patternLoad w r img) s r d stDenied [] [] fun g => g = c)
    ∧ (Ready b r d 0x60 → b.eng.load = none → (quiet || rolling) = true → Answers (.patternLoad w r img) s [.rings, .eng] fun u =>
      u.eng = { b.eng with load := some { bytes := patBytes d.data img, rolling := rolling && !quiet, left := List.range b.part.variant.benches
                                          first := true, ref := ⟨r, d.id⟩ } })
    ∧ (∀ l, b.eng.load = some l → b.eng.invs.any (fun e => l.now.contains (e.1 / 64)) = true → Answers (.benchDrained w parity) s [] fun u => u = b)
    ∧ (∀ l, b.eng.load = some l → b.eng.invs.any (fun e => l.now.contains (e.1 / 64)) = false →
      let chk := if l.first then patCheck s.nvm.engSvnMin b.part.silicon (b.mode == .diagnostic) l.bytes else none;
      (∀ st fc, chk = some (st, fc) → Answers (.benchDrained w parity) s [.out, .regs, .rings, .pmc, .eng, .flow] fun u =>
        u.eng.load = none ∧ u.eng.failCode = fc ∧ u.flag R.ENG_PSTAT_LOAD_FAIL = true ∧ (l.first = true → u.eng.sets = b.eng.sets ∧ u.eng.op = b.eng.op)
        ∧ ∃ g : Blk, u = g.complete l.ref st [])
      ∧ (chk = none → parity = true → Answers (.benchDrained w parity) s [.out, .regs, .rings, .pmc, .eng, .flow] fun u =>
        u.eng.load = none ∧ u.eng.failCode = 7 ∧ ∃ g : Blk, u = g.complete l.ref stParity [])
      ∧ (chk = none → parity = false → let p := PSet.ofBytes 2 l.bytes; let left := l.left.filter (!l.now.contains ·);
        Answers (.benchDrained w parity) s [.out, .rings, .pmc, .eng, .flow] fun u => (∀ i ∈ l.now, u.setOf i = p) ∧ (∀ i, i ∉ l.now → u.setOf i = b.setOf i)
          ∧ (left ≠ [] → u.eng.load = some { l with left := left, first := false } ∧ u.eng.op = b.eng.op)
          ∧ (left = [] → u.eng.load = none ∧ u.eng.op = (if p.test then b.eng.op else some p) ∧ ∃ g : Blk, u = g.complete l.ref stOk [])))
    ∧ (Ready b r d 0x31 → byteAt d.data 8 = 7 → let o := byteAt d.data 9; let len := leAt d.data 12 4; let es := b.testEngines o;
      (b.mode ≠ .diagnostic → Completes (.selftest w r img) s r d stDenied [] [] fun g => g = c)
      ∧ (b.mode = .diagnostic → (63 < o ∧ o ≠ 0xFF ∨ len < 64 ∨ 4096 < len) → Completes (.selftest w r img) s r d stMalformed [] [] fun g => g = c)
      ∧ (b.mode = .diagnostic → (o < 64 ∨ o = 0xFF) → 64 ≤ len → len ≤ 4096 → (o = 0xFF ∨ b.enginePresent o = true) →
        es.any (fun e => !bitOf (b.setOf (e / 16)).entries 6) = false → es.all b.engineOut = false → b.eng.self = none → b.eng.load = none →
        Answers (.selftest w r img) s [.ctr, .rings, .pmc, .eng] fun u => ∃ t, u.eng.self = some t ∧ t.engines = es ∧ t.addr = leAt d.data 16 8
          ∧ t.ref = ⟨r, d.id⟩ ∧ t.started = !b.eng.invs.any (fun e => es.contains (e.1 / 4)))
      ∧ (b.mode = .diagnostic → (o < 64 ∨ o = 0xFF) → 64 ≤ len → len ≤ 4096 → (o = 0xFF ∨ b.enginePresent o = true) →
        es.any (fun e => !bitOf (b.setOf (e / 16)).entries 6) = false → es.all b.engineOut = false → (b.eng.self.isSome = true ∨ b.eng.load.isSome = true) →
        Completes (.selftest w r img) s r d stBusy [] [] fun g => g = c))
    ∧ (∀ t, b.eng.self = some t → t.started = true → b.eng.invs.any (fun e => e.2.self) = false → Answers (.selftestDone w) s [.out, .rings, .pmc, .eng, .flow] fun u =>
      u.eng = { b.eng with self := none } ∧ ∃ g : Blk, u = g.complete t.ref stOk t.result)
    ∧ (b.eng.self = none → Answers (.selftestDone w) s [] fun u => u = b)

/-- KEY_INSTALL fills an EMPTY slot, KEY_RETIRE expires one, and what has run out goes. KEY_INSTALL of a key that unwraps goes
into the lowest EMPTY slot as PENDING while its activation lies ahead, with its entries armed; the same key again is OK, its
identifier in use DENIED; on a follower it is DENIED. KEY_RETIRE of an identifier that no slot holds is OK, of the CURRENT one
without FORCE DENIED, else it waits for the slot to be EMPTY. KEY_EMPTY of a RETIRING slot zeroises it and completes what
waited. A context whose lease is over is revoked. -/
def Obligations.EpochsInstalledAndRetired : Prop :=
  ∀ (s : State) (w r n k : Nat) (blk : Bytes) (d : Desc), let b := s.blk.pass w; let c := b.beginDesc r d; let id := leAt d.data 8 2;
    let live := fun e : Epoch => e.st == 1 || e.st == 2 || e.st == 3; let slots := (List.range 4).map b.epochOf;
    (Ready b r d 0x10 → b.part.variant.stitchers ≠ 0 → b.following = true → Completes (.keyInstall w r blk) s r d stDenied [] [] fun g => g = c)
    ∧ (∀ act exp key, Ready b r d 0x10 → b.part.variant.stitchers ≠ 0 → b.following = false → timeAt blk 72 = some act → timeAt blk 84 = some exp →
      id ≠ 0 → (act = 0 ∨ exp = 0 ∨ act < exp) → (exp = 0 ∨ b.ins.now < exp) → keyUnwrap (b.sesOf (b.ringOwner r)).ks (sliceB blk 0 72) = some key →
      (slots.any (fun e => live e && e.id == id && e.key == key && e.act == act && e.exp == exp) = true →
        Completes (.keyInstall w r blk) s r d stOk [] [] fun g => g = c)
      ∧ (slots.any (fun e => e.st != 0 && e.id == id) = true → slots.any (fun e => live e && e.id == id && e.key == key && e.act == act && e.exp == exp) = false →
        Completes (.keyInstall w r blk) s r d stDenied [] [] fun g => g = c)
      ∧ (∀ i, slots.any (fun e => e.st != 0 && e.id == id) = false → b.epochIn 0 = some i → (act = 0 ∨ b.ins.now < act) →
        Answers (.keyInstall w r blk) s (touches (.keyInstall w r blk)) fun u => ∃ g : Blk, u = g.complete ⟨r, d.id⟩ stOk []
          ∧ (g.epochOf i).st = 1 ∧ (g.epochOf i).id = id ∧ (g.epochOf i).key = key ∧ (g.epochOf i).act = act ∧ (g.epochOf i).exp = exp
          ∧ (g.epochOf i).actEntry.isSome = decide (b.ins.now < act) ∧ (g.epochOf i).expEntry.isSome = decide (exp ≠ 0)
          ∧ ∀ j, j ≠ i → g.epochOf j = b.epochOf j))
    ∧ (Ready b r d 0x11 → b.part.variant.stitchers ≠ 0 → b.following = false → id ≠ 0 →
      (b.epochOfId id = none → Completes (.keyRetire w r) s r d stOk [] [] fun g => g = c)
      ∧ ∀ i, b.epochOfId id = some i →
        ((b.epochOf i).st = 4 → Answers (.keyRetire w r) s [.rings, .nts] fun u => u.epochOf i = { b.epochOf i with refs := (b.epochOf i).refs ++ [⟨r, d.id⟩] })
        ∧ ((b.epochOf i).st = 2 → bitOf (byteAt d.data 10) 0 = false → Completes (.keyRetire w r) s r d stDenied [] [] fun g => g = c)
        ∧ ((b.epochOf i).st = 2 → bitOf (byteAt d.data 10) 0 = true → Answers (.keyRetire w r) s (touches (.keyRetire w r)) fun u =>
          u = (c.keyExpire i).epochWait i ⟨r, d.id⟩)
        ∧ ((b.epochOf i).st ≠ 2 → (b.epochOf i).st ≠ 4 → Answers (.keyRetire w r) s (touches (.keyRetire w r)) fun u =>
          u = (c.keyExpire i).epochWait i ⟨r, d.id⟩))
    ∧ (n < 4 → (b.epochOf n).st = 4 → b.nts.waits = [] → Answers (.keyEmpty w n) s [.out, .regs, .ctr, .rings, .evts, .pmc, .flow, .nts] fun u =>
      u.epochOf n = {} ∧ u.flag R.NTS_STATUS_KEY_EVENT = true ∧ (∀ j, j ≠ n → u.epochOf j = b.epochOf j))
    ∧ ((b.epochOf n).st ≠ 4 → Answers (.keyEmpty w n) s [] fun u => u = b)
    ∧ (∀ x, b.ctxAt? k = some x → x.leaseEnd ≤ b.leaseNow → Answers (.aged w k) s (touches (.aged w k)) fun u => u = (b.ctxRevoke k).txRetry)
    ∧ (∀ x, b.ctxAt? k = some x → b.leaseNow < x.leaseEnd → Answers (.aged w k) s [] fun u => u = b)

/-- PTP sweeps, follow-ups, grants, timeouts and the residence limit. A sweep acts once for each grid point of its interval on
a port with LINK; the request of the client acts in the first half of its interval. The oldest two-step message that has left
gets its follow-up. A grant that has ended goes, and a client without a grant, or with half of one passed, asks for it. With
announceReceiptTimeout intervals past an instance that was PASSIVE speaks again. A copy whose residence has reached the limit
is dropped. An estimate whose window has ended is applied, or refused beyond ASYM_MAX. -/
def Obligations.PtpTimersRun : Prop :=
  ∀ (s : State) (w p i msg id : Nat) (n : Int), let b := s.blk.pass w;
    let iv := logU (b.rdS (R.PTP_RC_CFG_LOG_DREQ p)); let can := b.ins.running && b.portPresent p;
    (can = true → -8 ≤ n → n ≤ 7 →
      (b.gridDue (sweepKey p n) (logU n) = none → Answers (.ptpSweep w p n false) s [] fun u => u = b)
      ∧ ∀ t, b.gridDue (sweepKey p n) (logU n) = some t → let c := Blk.pmcEvent { b with ptp := { b.ptp with sweeps := tput b.ptp.sweeps (sweepKey p n) t } } 0xA0 0 1;
        ((b.portOf p).link = false → Answers (.ptpSweep w p n false) s [.pmc, .ptp] fun u => u = c)
        ∧ ((b.portOf p).link = true → Answers (.ptpSweep w p n false) s [.freeCtr, .ctr, .pmc, .ports, .ptp, .flow] fun u =>
          u = [0, 1, 2, 3].foldl (fun x j => (x.sweepMulti j p n).sweepUni j p n) c ∧ u.ptp.sweeps = tput b.ptp.sweeps (sweepKey p n) t))
    ∧ (can = false ∨ n < -8 ∨ 7 < n → Answers (.ptpSweep w p n false) s [] fun u => u = b)
    ∧ (∀ t, can = true → 2 * (b.ins.now % iv) < iv → b.gridDue (512 + p) iv = some t → (b.portOf p).link = true →
      Answers (.ptpSweep w p n true) s [.freeCtr, .ctr, .pmc, .ports, .ptp, .flow] fun u =>
        u = (Blk.pmcEvent { b with ptp := { b.ptp with sweeps := tput b.ptp.sweeps (512 + p) t } } 0xA0 0 1).clientRequest p)
    ∧ (iv ≤ 2 * (b.ins.now % iv) → Answers (.ptpSweep w p n true) s [] fun u => u = b)
    ∧ (b.ptp.fups = [] → Answers (.followUp w) s [] fun u => u = b)
    ∧ (∀ x l, b.ptp.fups = x :: l → Answers (.followUp w) s [.freeCtr, .ctr, .ports, .ptp, .flow] fun u => u.ptp = { b.ptp with fups := l }
      ∧ ∃ c : Blk, c.ptp = u.ptp ∧ Frame [.ptp] b c ∧ u = c.ptpPut (c.ptpTx x.port .keep none (c.followFrame x)))
    ∧ (∀ x, b.ptp.sess[i]? = some x → Answers (.grantExpire w i msg) s [.ptp] fun u =>
      ∀ y ∈ u.ptp.sess, y.grants ≠ [] ∧ (sameSess y x = true → ∀ g ∈ y.grants, g.msg = msg → b.up < g.endUp))
    ∧ (b.ptp.sess[i]? = none → Answers (.grantExpire w i msg) s [] fun u => u = b)
    ∧ (p < 32 → b.clientRuns p = true → b.clientUni p = true → i < 32 → b.masterOn p i = true → b.clientWants p msg = true → b.renewDue p i msg = true →
      Answers (.clientRenew w p i msg) s [.freeCtr, .ctr, .ports, .ptp, .flow] fun u => u.ptp = { b.ptp with sigSeq := (b.ptp.sigSeq + 1) % 0x10000 }
        ∧ u.freeCtr = b.freeCtr + ptpDraws)
    ∧ (b.renewDue p i msg = false → Answers (.clientRenew w p i msg) s [] fun u => u = b)
    ∧ (p < 32 → i < 4 → let m := b.rd (R.PTP_INST_RATE_ANN_TIMEOUT i); let c := b.foreignDrop i p m;
      let late := tget 0 b.ptp.betterAt (bmcaKey i p) + m * logU (b.rdS (R.PTP_INST_RATE_LOG_ANN i)) ≤ b.up;
      (bitOf (tget 0 b.ptp.passive i) p = true → late → Answers (.announceTimeout w p i) s [.out, .evts, .ptp] fun u =>
        u.ptp = { c.ptp with passive := tput b.ptp.passive i (putBit (tget 0 b.ptp.passive i) p false) })
      ∧ (bitOf (tget 0 b.ptp.passive i) p = false ∨ ¬late → Answers (.announceTimeout w p i) s [.ptp] fun u => u = c))
    ∧ (p < 32 → b.clientRuns p = true → Answers (.announceTimeout w p 8) s (touches (.announceTimeout w p 8)) fun u => u = (b.foreignDrop 8 p 3).clientChoose p)
    ∧ (p < 32 → b.clientRuns p = false → Answers (.announceTimeout w p 8) s [.ptp] fun u => u = b.foreignDrop 8 p 3)
    ∧ (∀ f r, (b.portOf p).queue.find? (fun f => f.id == id) = some f → b.resideNow f = some r →
      ((usU (atLeast1 (b.rd R.PTP_FWD_CTRL_MAX_RES_US)) : Int) ≤ r → Answers (.maxResExpire w p id) s (touches (.maxResExpire w p id)) fun u =>
        u = (((b.takeFrame f).frameFree f).inc C.PTP_FWD_DROP).txRetry)
      ∧ (r < (usU (atLeast1 (b.rd R.PTP_FWD_CTRL_MAX_RES_US)) : Int) → Answers (.maxResExpire w p id) s [] fun u => u = b))
    ∧ (∀ t, p < 32 → let c := b.clientOf p; let dx := b.meanQ p t - b.meanQ p (c.stepAt - b.asymU p);
      c.postFrom = some t → c.freeze ≠ 0 → b.clientFrozen p = true → c.estDone = false → b.anchorHolds p = true →
      (b.up < t + b.asymU p → Answers (.asymEstimateDone w p) s [] fun u => u = b)
      ∧ (t + b.asymU p ≤ b.up → nsU (b.rd (R.PTP_RC_ASYM_CFG_ASYM_MAX p)) < dx.natAbs → Answers (.asymEstimateDone w p) s [.out, .regs, .evts, .ptp] fun u =>
        u.clientOf p = { c with estDone := true } ∧ u.flag (R.PTP_RC_ST_NO_ANCHOR p) = true)
      ∧ (t + b.asymU p ≤ b.up → dx.natAbs ≤ nsU (b.rd (R.PTP_RC_ASYM_CFG_ASYM_MAX p)) →
        Answers (.asymEstimateDone w p) s (touches (.asymEstimateDone w p)) fun u => u.clientOf p = { c with estDone := true, freeze := 0 }
          ∧ u.flag (R.PTP_RC_ST_ASYM_EVENT p) = true ∧ u.clientFrozen p = false))

/-- The Welt comes and goes, the pins are tested, and a follower takes over. The Welt comes up in a serving mode and goes
after sixteen failing blocks within 1 ms, or with none valid for LOSS_US; the pair is then no longer attached. A failed test
of the pin pair counts, the second in a row is a fault with its error; a test that passes clears both. A FAIL or HANDOVER
block is noted. TWARB_B shows the claim of the peer; low for SETTLE_NS after a FAIL, a HANDOVER or a loss it makes the
follower leader with cause 6, in the mode of R335. With both claiming and the link down, SIDE 1 gives way. -/
def Obligations.TwinLinkAndTakeover : Prop :=
  ∀ (s : State) (w n : Nat) (ok : Bool), let b := s.blk.pass w; let t := b.twin;
    (b.capWelt = 3 → b.isHeld 0x86 = false → b.err.oscLost = false → b.mode.serving = true → t.link = false → Answers (.weltLinkUp w) s [.out, .evts, .twin] fun u =>
      u.twin = { t with link := true, bothFrom := none })
    ∧ ((b.mode.serving = false ∨ t.link = true) → Answers (.weltLinkUp w) s [] fun u => u = b)
    ∧ (0 < n → n < 16 → Answers (.weltLinkLost w n) s [.ctr] fun u => u = b.incN C.TWN_AUTH_FAIL n)
    ∧ ((n = 0 ∨ 16 ≤ n) → t.link = true → Answers (.weltLinkLost w n) s (touches (.weltLinkLost w n)) fun u => u.twin.link = false ∧ u.twin.attached = false
        ∧ u.twin.mirrorSync = false ∧ u.twin.claimOut = t.claimOut ∧ (t.attached = true → u.twin.lostAt = some b.up ∧ u.flag R.TWN_STATUS_PEER_LOST = true))
    ∧ (t.attached = true → t.link = true → b.flag R.TWN_CFG_ARB_TEST = true →
      (Answers (.arbTest w true) s [.out, .twin] fun u => u.twin = { t with testFails := 0, armFault := false } ∧ u.out = .welt weltArbTest [] :: b.out)
      ∧ (t.testFails = 0 → t.armFault = false → Answers (.arbTest w false) s [.out, .twin] fun u => u.twin = { t with testFails := 1 })
      ∧ (1 ≤ t.testFails → t.armFault = false → Answers (.arbTest w false) s (touches (.arbTest w false)) fun u => ∃ g : Blk, u = g.raiseEnv errArbFault 0
        ∧ g.twin = { t with testFails := t.testFails + 1, armFault := true } ∧ Frame [.out, .evts, .twin] b g))
    ∧ (t.attached = true → t.link = true → t.role = 2 → Answers (.failBlockRx w ok) s [.out, .evts, .refs, .heel, .hold, .twin] fun u =>
      u.twin = { t with failAt := some b.up, attached := ok, mirrorSync := t.mirrorSync && ok })
    ∧ (t.role ≠ 2 → Answers (.failBlockRx w ok) s [] fun u => u = b)
    ∧ (b.part.variant.welt = false → Answers (.twarbBChange w ok) s [] fun u => u = b)
    ∧ (b.part.variant.welt = true → (ok = false ∨ t.handed = false) → Answers (.twarbBChange w ok) s (touches (.twarbBChange w ok)) fun u => u.twin.claimIn = ok
        ∧ u.twin.lowFrom = (if t.claimIn && !ok then b.up else t.lowFrom) ∧ u.mode = b.mode ∧ u.twin.role = (if t.role = 2 && !t.attached && t.failAt.isNone && (ok || b.arbFault) then 3 else t.role))
    ∧ (∀ ref, b.part.variant.welt = true → ok = true → t.handed = true → t.switchRef = some ref → b.mode ≠ .follower →
      Answers (.twarbBChange w ok) s (touches (.twarbBChange w ok)) fun u => u.mode = .follower ∧ u.twin.role = 2 ∧ u.twin.claimOut = false
        ∧ u.twin.switchRef = none ∧ u.twin.handed = false ∧ ∃ g : Blk, u = (g.complete ref stOk []).txRetry)
    ∧ (b.takesOver = true → Answers (.takeover w) s (touches (.takeover w)) fun u => u.mode = b.takeoverMode ∧ u.lastMode = .follower ∧ u.entryCause = 6
        ∧ u.twin.role = 1 ∧ u.twin.claimOut = true ∧ u.twin.attached = t.attached)
    ∧ (b.takesOver = false → Answers (.takeover w) s (touches (.takeover w)) fun u => u = b.txRetry)
    ∧ (∀ x, t.bothFrom = some x → x + b.settleU ≤ b.up → t.link = false → t.claimOut = true → t.claimIn = true → b.rd R.TWN_CFG_SIDE ≠ 0 →
      Answers (.bothClaimSettle w) s (touches (.bothClaimSettle w)) fun u => u.mode = .follower ∧ u.twin.role = 3 ∧ u.twin.bothFrom = none ∧ u.twin.claimOut = false
        ∧ u.twin.lostAt = some b.up)
    ∧ ((t.bothFrom = none ∨ t.link = true ∨ t.claimIn = false ∨ b.rd R.TWN_CFG_SIDE = 0) → Answers (.bothClaimSettle w) s (touches (.bothClaimSettle w)) fun u =>
      u = b.txRetry)

/-- An attempt to attach fails with its code or elects a leader, and a detach ends the pair. ATTACH sets EN[11] and waits; of
an attached pair it is OK, while another waits BUSY, without the Welt ABSENT, and after 10 s TIMEOUT. An attempt that fails a
check shows its code and allows the next after 10 s; one that passes attaches the pair, as leader where this module is
elected, else as follower in FOLLOWER. DETACH, or a detach of the peer, ends the pair and clears EN[11], and a follower moves
to ACQUIRE; during a change of roles it is DENIED. -/
def Obligations.TwinAttachesAndDetaches : Prop :=
  ∀ (s : State) (w r : Nat) (d : Desc) (peer : Option TwinPeer), let b := s.blk.pass w; let c := b.beginDesc r d; let t := b.twin;
    let code := b.attachCode s.nvm.kp (s.nvm.lifecycle == .deployed) (freeBytes 16 b.freeCtr) peer;
    (∀ m, code = some m → b.mayAttach = true →
      ((t.attachRef.isSome = true ∨ b.flag R.TWN_CFG_AUTO = true ∧ t.autoStop = false ∧ t.retryAt = 0) →
        Answers (.attachAttempt w peer) s [.freeCtr, .out, .ctr, .evts, .twin] fun u => u.twin.attFail = m ∧ u.twin.attached = false
          ∧ u.twin.retryAt = b.up + secU 10 ∧ u.twin.proofFails = (if m = 1 then t.proofFails + 1 else 0))
      ∧ (b.flag R.TWN_CFG_AUTO = true → t.autoStop = false → t.retryAt ≠ 0 → t.retryAt ≤ b.up →
        Answers (.attachRetry w peer) s [.freeCtr, .out, .ctr, .evts, .twin] fun u => u.twin.attFail = m ∧ u.twin.attached = false
          ∧ u.twin.retryAt = b.up + secU 10 ∧ u.twin.autoStop = decide (m = 1 ∧ 4 ≤ t.proofFails)))
    ∧ (∀ x k, code = none → peer = some x → s.nvm.kp = some k → b.mayAttach = true →
      ((t.attachRef.isSome = true ∨ b.flag R.TWN_CFG_AUTO = true ∧ t.autoStop = false ∧ t.retryAt = 0) →
        Answers (.attachAttempt w peer) s (touches (.attachAttempt w peer)) fun u => u.twin.attached = true ∧ u.twin.attachRef = none
          ∧ u.twin.peerSerial = x.serial ∧ u.twin.role = (if b.elected x then 1 else 2) ∧ (b.elected x = false → u.mode = .follower ∧ u.ct.rows = []))
      ∧ (b.flag R.TWN_CFG_AUTO = true → t.autoStop = false → t.retryAt ≠ 0 → t.retryAt ≤ b.up →
        Answers (.attachRetry w peer) s (touches (.attachRetry w peer)) fun u => u.twin.attached = true ∧ u.twin.role = (if b.elected x then 1 else 2)))
    ∧ (b.mayAttach = false → (Answers (.attachAttempt w peer) s [] fun u => u = b) ∧ Answers (.attachRetry w peer) s [] fun u => u = b)
    ∧ (∀ ref x, t.attachRef = some (ref, x) →
      (x + secU 10 ≤ b.up → Answers (.attachTimeout w) s [.out, .rings, .pmc, .twin, .flow] fun u => u.twin = { t with attachRef := none }
        ∧ u = (Blk.complete { b with twin := { t with attachRef := none } } ref stTimeout []))
      ∧ (b.up < x + secU 10 → Answers (.attachTimeout w) s [] fun u => u = b))
    ∧ (Ready b r d 0x40 → byteAt d.data 8 = 1 →
      (b.part.variant.welt = false → Completes (.twinAttach w r) s r d stAbsent [] [] fun g => g = c)
      ∧ (b.part.variant.welt = true → t.attachRef.isSome = true → Completes (.twinAttach w r) s r d stBusy [] [] fun g => g = c)
      ∧ (b.part.variant.welt = true → t.attachRef = none → t.attached = true → Completes (.twinAttach w r) s r d stOk [] [] fun g => g = c)
      ∧ (b.part.variant.welt = true → t.attachRef = none → t.attached = false → Answers (.twinAttach w r) s [.regs, .rings, .twin] fun u =>
        u.twin = { t with attachRef := some (⟨r, d.id⟩, b.up), autoStop := false, proofFails := 0 } ∧ bitOf (u.rd R.RST_FEATURE_EN) featTwin = true))
    ∧ (Ready b r d 0x40 → byteAt d.data 8 = 2 → b.part.variant.welt = true →
      (b.roleChange = true → Completes (.twinDetach w r false) s r d stDenied [] [] fun g => g = c)
      ∧ (b.roleChange = false → Answers (.twinDetach w r false) s (touches (.twinDetach w r false)) fun u => u = (c.detach.txRetry).complete ⟨r, d.id⟩ stOk []
        ∧ u.twin.attached = false ∧ u.twin.role = 0 ∧ bitOf (u.rd R.RST_FEATURE_EN) featTwin = false ∧ (b.mode = .follower → u.mode = .acquire)))
    ∧ (t.attached = true → t.link = true → Answers (.twinDetach w r true) s (touches (.twinDetach w r true)) fun u => u.twin.attached = false ∧ u.twin.role = 0
        ∧ u.twin.claimOut = false ∧ bitOf (u.rd R.RST_FEATURE_EN) featTwin = false ∧ (b.mode = .follower → u.mode = .acquire ∧ u.entryCause = 7)
        ∧ (b.mode ≠ .follower → u.mode = b.mode))

/-- The mirror and the markers of a pair, and the sub-commands of TWIN_COMMAND. The follower applies a mirrored item and
returns a credit, which the leader counts; without a credit, or with the queue full, the copy is sent anew, and MIRROR_SYNC
ends it. A marker departs with its time and one that arrives gives the mode and status of the peer. SWITCHOVER begins on the
leader of a tracking follower, else is DENIED. SET_KEY stores the pairing key that unwraps in COMMISSION. RESET_PEER is sent
where the peer allows it. STATUS returns the 16 bytes of R339. -/
def Obligations.MirrorMarkersAndTwinCommands : Prop :=
  ∀ (s : State) (w r age mode status : Nat) (full have4 : Bool) (t1 t4 : Int) (item : Mirror) (blk : Bytes) (d : Desc), let b := s.blk.pass w; let c := b.beginDesc r d; let t := b.twin;
    (t.attached = true → t.link = true → t.role = 2 → Answers (.mirrorApply w item) s (touches (.mirrorApply w item)) fun u =>
      u = (b.mirrorApply item).put (.welt weltCredit []) ∧ (∀ k, item = .hashKey k → u.ct = { b.ct with key := k }) ∧ (∀ k, item = .pool k → u.twin.poolIdx = some k)
      ∧ (∀ k pos bs, item = .row k pos bs → u.bucketAt k = putRow (b.bucketAt k) pos (if bitOf (byteAt bs 8) 0 then rowOf bs else {}))
      ∧ (item = .noLeap → u.ins = { b.ins with leap := none }) ∧ (item = .copyEnd → u.twin = { t with mirrorSync := true }))
    ∧ (t.attached = true → t.link = true → t.role ≠ 2 → Answers (.mirrorApply w item) s [.twin] fun u => u.twin = { t with queue := t.queue - 1, creditAt := b.up })
    ∧ (t.attached = false ∨ t.link = false → Answers (.mirrorApply w item) s [] fun u => u = b)
    ∧ (t.attached = true → t.role = 1 → (full = true ∨ t.queue ≠ 0 ∧ t.creditAt + b.creditU ≤ b.up) →
      Answers (.mirrorCreditTimeout w full) s [.out, .ctr, .evts, .twin] fun u => u.twin = { t with mirrorSync := false, queue := 0, creditAt := b.up }
        ∧ tget 0 u.ctr C.TWN_RESYNC = (tget 0 b.ctr C.TWN_RESYNC + 1) % 0x10000000000000000)
    ∧ (t.role ≠ 1 → Answers (.mirrorCreditTimeout w full) s [] fun u => u = b)
    ∧ (t.attached = true → t.role = 1 → Answers (.mirrorSync w) s [.twin] fun u => u.twin = { t with mirrorSync := true, queue := 0 })
    ∧ (t.role ≠ 1 → Answers (.mirrorSync w) s [] fun u => u = b)
    ∧ (t.attached = true → t.link = true → b.ins.running = true → Answers (.markerTx w) s [.out, .twin] fun u => u.twin = { t with txMark := some (b.ins.now : Int) }
        ∧ ∃ l x, u.out = l ++ .welt weltMarker (leB 1 b.mode.code ++ leB 1 b.twinStatus8 ++ timeB b.ins.now ++ x) :: b.out)
    ∧ (t.attached = true → t.link = true → b.ins.running = true →
      let t' := { t with peerMode := mode, peerStatus := status, peerTrack := bitOf status 4, rxMark := some ((b.ins.now : Int) - age, b.ins.stepSum) };
      (t.role ≠ 2 ∨ have4 = false ∨ t.rxMark = none ∨ t.txMark = none → Answers (.markerRx w age mode status have4 t1 t4) s [.twin] fun u => u.twin = t')
      ∧ (∀ x t3, t.role = 2 → have4 = true → t.rxMark = some (x, b.ins.stepSum) → t.txMark = some t3 → x ≤ t3 →
        Answers (.markerRx w age mode status have4 t1 t4) s (touches (.markerRx w age mode status have4 t1 t4)) fun u =>
          u = ({ b with twin := t' } : Blk).measured (b.twinX t1 x t3 t4)))
    ∧ (Ready b r d 0x40 → byteAt d.data 8 = 3 → b.part.variant.welt = true →
      (t.attached = false ∨ t.role ≠ 1 → Completes (.twinSwitchover w r) s r d stDenied [] [] fun g => g = c)
      ∧ (t.attached = true → t.role = 1 → t.peerTrack = false → bitOf (byteAt d.data 9) 0 = false → Completes (.twinSwitchover w r) s r d stDenied [] [] fun g => g = c)
      ∧ (t.attached = true → t.role = 1 → (t.peerTrack = true ∨ bitOf (byteAt d.data 9) 0 = true) → b.roleChange = false → b.modeReq = none →
        Answers (.twinSwitchover w r) s [.rings, .twin] fun u => u.twin = { t with switchRef := some ⟨r, d.id⟩ }))
    ∧ (Ready b r d 0x40 → byteAt d.data 8 = 4 → b.part.variant.welt = true →
      (∀ k, b.mode = .commission → keyUnwrap (b.sesOf (b.ringOwner r)).ks (sliceB blk 0 40) = some k →
        AnswersN (.twinSetKey w r blk) s { s.nvm with kp := some k } [.out, .rings, .pmc, .flow] fun u => u = c.complete ⟨r, d.id⟩ stOk [])
      ∧ ((b.mode ≠ .commission ∨ keyUnwrap (b.sesOf (b.ringOwner r)).ks (sliceB blk 0 40) = none) →
        Completes (.twinSetKey w r blk) s r d stDenied [] [] fun g => g = c))
    ∧ (Ready b r d 0x40 → byteAt d.data 8 = 5 → b.part.variant.welt = true →
      (t.attached = true → t.peerResetOk = true → Completes (.twinResetPeer w r) s r d stOk [] [.out] fun g => g.out = .welt weltReset [] :: b.out)
      ∧ (t.attached = false ∨ t.peerResetOk = false → Completes (.twinResetPeer w r) s r d stDenied [] [] fun g => g = c))
    ∧ (Ready b r d 0x40 → byteAt d.data 8 = 6 → b.part.variant.welt = true → Completes (.twinStatus w r) s r d stOk
      (leB 4 (ofSigned t.xPs 32) ++ leB 1 t.peerMode ++ leB 1 t.peerStatus ++ leB 2 0 ++ leB 8 t.peerSerial) [] fun g => g = c)

/-- The short time is the low 32 bits of the TAI nanosecond count. For every Insole time t, with its SEC, NS and FRAC, the
short time is SEC times 10^9 plus NS, modulo 2^32; FRAC does not change it. Advancing by whole nanoseconds returns to the same
short time exactly at the multiples of 2^32 ns, which is 4.294967296 s. -/
def Obligations.ShortTime : Prop :=
  ∀ t d frac : Nat, shortOf t = (secOf t * 1000000000 + nsOf t) % 2 ^ 32
    ∧ (frac < 65536 → fracOf (t / 65536 * 65536 + frac) = frac ∧ shortOf (t / 65536 * 65536 + frac) = shortOf t)
    ∧ (shortOf (t + nsU d) = shortOf t ↔ d % 4294967296 = 0)
end

