-- ==== Sys2Proof/Laws/Frame.lean ====
section
/-! SUPPORT. How frames compose. A set of pieces is a number here, one bit for each piece in the order of `Piece`, so that `simp`
decides every inclusion by arithmetic. -/

namespace Sys2Proof.Machine

/-- From `a` to `b` nothing has changed outside the pieces whose bits are set in `m`. -/
structure FrameM (m : Nat) (a b : Blk) : Prop where
  same : ∀ p : Piece, m.testBit p.ctorIdx = false → p.same a b

theorem Piece.same_trans {p : Piece} {a b c : Blk} (h : p.same a b) (k : p.same b c) : p.same a c := by
  cases p <;> exact Eq.trans k h

theorem Piece.same_symm {p : Piece} {a b : Blk} (h : p.same a b) : p.same b a := by
  cases p <;> exact Eq.symm h

theorem FrameM.refl (m : Nat) (a : Blk) : FrameM m a a = True := by
  refine eq_true ⟨fun p _ => ?_⟩
  cases p <;> exact Eq.refl _

/-- An operation that changes no more than `m` keeps every frame that allows `m`. -/
theorem FrameM.iff {m : Nat} {b c : Blk} (h : FrameM m b c) (q : Nat) (a : Blk) (s : m &&& q = m) : FrameM q a c = FrameM q a b := by
  have hk : FrameM q b c := by
    refine ⟨fun p hp => h.same p ?_⟩
    rw [← s, Nat.testBit_and, hp, Bool.and_false]
  exact propext ⟨fun k => ⟨fun p hp => Piece.same_trans (k.same p hp) (Piece.same_symm (hk.same p hp))⟩,
    fun k => ⟨fun p hp => Piece.same_trans (k.same p hp) (hk.same p hp)⟩⟩

theorem FrameM.ite (m : Nat) (a b c : Blk) (q : Prop) [Decidable q] :
    FrameM m a (if q then b else c) = ((q → FrameM m a b) ∧ (¬q → FrameM m a c)) := by
  by_cases hq : q <;> simp only [hq, if_true, if_false, true_implies, false_implies, not_true, not_false_iff, and_true, true_and]

theorem FrameM.fold {α : Type} (m : Nat) (a : Blk) (f : Blk → α → Blk) (h : ∀ (b : Blk) (x : α), FrameM m b (f b x)) :
    ∀ (l : List α) (b : Blk), FrameM m a (l.foldl f b) = FrameM m a b
  | [], _ => Eq.refl _
  | x :: l, b => (FrameM.fold m a f h l (f b x)).trans ((h b x).iff m a (Nat.and_self m))

/-- The fold where an operation's frame needs a case split. -/
theorem FrameM.foldI {α : Type} {m : Nat} {a b : Blk} {f : Blk → α → Blk} {l : List α} (h : ∀ (c : Blk) (x : α), FrameM m c (f c x))
    (k : FrameM m a b) : FrameM m a (l.foldl f b) := by
  rw [FrameM.fold m a f h l b]; exact k

theorem FrameM.mono {m q : Nat} {b c : Blk} (h : FrameM m b c) (s : m &&& q = m) : FrameM q b c := by
  rw [h.iff q b s]; exact of_eq_true (FrameM.refl q b)

/-- A frame that holds whatever the answer is. -/
theorem FrameM.option {m : Nat} {a b : Blk} {o : Option Blk} (h : ∀ c, o = some c → FrameM m a c) (k : FrameM m a b) :
    FrameM m a (o.getD b) := by
  cases o with
  | none => exact k
  | some c => exact h c (Eq.refl _)

theorem FrameM.foldFst {α β : Type} {m : Nat} {b : Blk} {f : Blk × β → α → Blk × β} {l : List α} {a : Blk × β}
    (h : ∀ (c : Blk × β) (x : α), FrameM m c.1 (f c x).1) (k : FrameM m b a.1) : FrameM m b (l.foldl f a).1 := by
  induction l generalizing a with
  | nil => exact k
  | cons x l ih => exact ih (by rw [(h a x).iff m b (Nat.and_self m)]; exact k)

theorem snd_ite {α β : Type} (q : Prop) [Decidable q] (x y : α × β) : (if q then x else y).2 = if q then x.2 else y.2 := apply_ite Prod.snd q x y

theorem fst_ite {α β : Type} (q : Prop) [Decidable q] (x y : α × β) : (if q then x else y).1 = if q then x.1 else y.1 := apply_ite Prod.fst q x y

theorem Frame.of {m : Nat} {ps : List Piece} {a b : Blk} (h : FrameM m a b) (k : ps.foldl (fun x p => x ||| 2 ^ p.ctorIdx) 0 = m) :
    Frame ps a b := by
  intro p hp
  refine h.same p ?_
  subst k
  suffices hs : ∀ (l : List Piece) (x : Nat), p ∉ l → x.testBit p.ctorIdx = false →
      (l.foldl (fun x p => x ||| 2 ^ p.ctorIdx) x).testBit p.ctorIdx = false from hs ps 0 hp (Nat.zero_testBit _)
  intro l
  induction l with
  | nil => intro x _ hx; exact hx
  | cons q l ih =>
    intro x hn hx
    refine ih (x ||| 2 ^ q.ctorIdx) (fun hm => hn (List.mem_cons_of_mem _ hm)) ?_
    rw [Nat.testBit_or, hx, Bool.false_or, Nat.testBit_two_pow]
    have : q ≠ p := fun e => hn (e ▸ List.mem_cons_self)
    refine decide_eq_false fun e => this ?_
    revert e; cases q <;> cases p <;> decide

/-! ### Record updates -/

theorem FrameM.upd_boot (e : Blk) :
    FrameM 0x2000 e { e with boot := x0 } := by
  constructor; intro p hp; cases p <;> first | exact Eq.refl _ | exact absurd hp (by decide)

theorem FrameM.upd_clk (e : Blk) :
    FrameM 0x10000000 e { e with clk := x0 } := by
  constructor; intro p hp; cases p <;> first | exact Eq.refl _ | exact absurd hp (by decide)

theorem FrameM.upd_ct (e : Blk) :
    FrameM 0x20000000 e { e with ct := x0 } := by
  constructor; intro p hp; cases p <;> first | exact Eq.refl _ | exact absurd hp (by decide)

theorem FrameM.upd_ctr (e : Blk) :
    FrameM 0x20 e { e with ctr := x0 } := by
  constructor; intro p hp; cases p <;> first | exact Eq.refl _ | exact absurd hp (by decide)

theorem FrameM.upd_eng (e : Blk) :
    FrameM 0x40000000 e { e with eng := x0 } := by
  constructor; intro p hp; cases p <;> first | exact Eq.refl _ | exact absurd hp (by decide)

theorem FrameM.upd_err (e : Blk) :
    FrameM 0x40000 e { e with err := x0 } := by
  constructor; intro p hp; cases p <;> first | exact Eq.refl _ | exact absurd hp (by decide)

theorem FrameM.upd_evts (e : Blk) :
    FrameM 0x20000 e { e with evts := x0 } := by
  constructor; intro p hp; cases p <;> first | exact Eq.refl _ | exact absurd hp (by decide)

theorem FrameM.upd_eyes (e : Blk) :
    FrameM 0x4000000 e { e with eyes := x0 } := by
  constructor; intro p hp; cases p <;> first | exact Eq.refl _ | exact absurd hp (by decide)

theorem FrameM.upd_featAbsent (e : Blk) :
    FrameM 0x800000000 e { e with featAbsent := x0 } := by
  constructor; intro p hp; cases p <;> first | exact Eq.refl _ | exact absurd hp (by decide)

theorem FrameM.upd_flow (e : Blk) :
    FrameM 0x400000000 e { e with flow := x0 } := by
  constructor; intro p hp; cases p <;> first | exact Eq.refl _ | exact absurd hp (by decide)

theorem FrameM.upd_freeCtr (e : Blk) :
    FrameM 0x4 e { e with freeCtr := x0 } := by
  constructor; intro p hp; cases p <;> first | exact Eq.refl _ | exact absurd hp (by decide)

theorem FrameM.upd_heel (e : Blk) :
    FrameM 0x800000 e { e with heel := x0 } := by
  constructor; intro p hp; cases p <;> first | exact Eq.refl _ | exact absurd hp (by decide)

theorem FrameM.upd_hold (e : Blk) :
    FrameM 0x1000000 e { e with hold := x0 } := by
  constructor; intro p hp; cases p <;> first | exact Eq.refl _ | exact absurd hp (by decide)

theorem FrameM.upd_holdExpired (e : Blk) :
    FrameM 0x400 e { e with holdExpired := x0 } := by
  constructor; intro p hp; cases p <;> first | exact Eq.refl _ | exact absurd hp (by decide)

theorem FrameM.upd_ins (e : Blk) :
    FrameM 0x100000 e { e with ins := x0 } := by
  constructor; intro p hp; cases p <;> first | exact Eq.refl _ | exact absurd hp (by decide)

theorem FrameM.upd_laster (e : Blk) :
    FrameM 0x200000 e { e with laster := x0 } := by
  constructor; intro p hp; cases p <;> first | exact Eq.refl _ | exact absurd hp (by decide)

theorem FrameM.upd_latch (e : Blk) :
    FrameM 0x40 e { e with latch := x0 } := by
  constructor; intro p hp; cases p <;> first | exact Eq.refl _ | exact absurd hp (by decide)

theorem FrameM.upd_lcs (e : Blk) :
    FrameM 0x4000 e { e with lcs := x0 } := by
  constructor; intro p hp; cases p <;> first | exact Eq.refl _ | exact absurd hp (by decide)

theorem FrameM.upd_modeReq (e : Blk) :
    FrameM 0x800 e { e with modeReq := x0 } := by
  constructor; intro p hp; cases p <;> first | exact Eq.refl _ | exact absurd hp (by decide)

theorem FrameM.upd_nts (e : Blk) :
    FrameM 0x80000000 e { e with nts := x0 } := by
  constructor; intro p hp; cases p <;> first | exact Eq.refl _ | exact absurd hp (by decide)

theorem FrameM.upd_out (e : Blk) :
    FrameM 0x8 e { e with out := x0 } := by
  constructor; intro p hp; cases p <;> first | exact Eq.refl _ | exact absurd hp (by decide)

theorem FrameM.upd_outs (e : Blk) :
    FrameM 0x2000000 e { e with outs := x0 } := by
  constructor; intro p hp; cases p <;> first | exact Eq.refl _ | exact absurd hp (by decide)

theorem FrameM.upd_pmc (e : Blk) :
    FrameM 0x80000 e { e with pmc := x0 } := by
  constructor; intro p hp; cases p <;> first | exact Eq.refl _ | exact absurd hp (by decide)

theorem FrameM.upd_ports (e : Blk) :
    FrameM 0x8000000 e { e with ports := x0 } := by
  constructor; intro p hp; cases p <;> first | exact Eq.refl _ | exact absurd hp (by decide)

theorem FrameM.upd_ptp (e : Blk) :
    FrameM 0x100000000 e { e with ptp := x0 } := by
  constructor; intro p hp; cases p <;> first | exact Eq.refl _ | exact absurd hp (by decide)

theorem FrameM.upd_refs (e : Blk) :
    FrameM 0x400000 e { e with refs := x0 } := by
  constructor; intro p hp; cases p <;> first | exact Eq.refl _ | exact absurd hp (by decide)

theorem FrameM.upd_regs (e : Blk) :
    FrameM 0x10 e { e with regs := x0 } := by
  constructor; intro p hp; cases p <;> first | exact Eq.refl _ | exact absurd hp (by decide)

theorem FrameM.upd_rings (e : Blk) :
    FrameM 0x10000 e { e with rings := x0 } := by
  constructor; intro p hp; cases p <;> first | exact Eq.refl _ | exact absurd hp (by decide)

theorem FrameM.upd_rst (e : Blk) :
    FrameM 0x1000 e { e with rst := x0 } := by
  constructor; intro p hp; cases p <;> first | exact Eq.refl _ | exact absurd hp (by decide)

theorem FrameM.upd_ses (e : Blk) :
    FrameM 0x8000 e { e with ses := x0 } := by
  constructor; intro p hp; cases p <;> first | exact Eq.refl _ | exact absurd hp (by decide)

theorem FrameM.upd_tj (e : Blk) :
    FrameM 0x1000000000 e { e with tj := x0 } := by
  constructor; intro p hp; cases p <;> first | exact Eq.refl _ | exact absurd hp (by decide)

theorem FrameM.upd_twin (e : Blk) :
    FrameM 0x200000000 e { e with twin := x0 } := by
  constructor; intro p hp; cases p <;> first | exact Eq.refl _ | exact absurd hp (by decide)

theorem FrameM.upd_ct_eng (e : Blk) :
    FrameM 0x60000000 e { e with ct := x0, eng := x1 } := by
  constructor; intro p hp; cases p <;> first | exact Eq.refl _ | exact absurd hp (by decide)

theorem FrameM.upd_ct_flow (e : Blk) :
    FrameM 0x420000000 e { e with ct := x0, flow := x1 } := by
  constructor; intro p hp; cases p <;> first | exact Eq.refl _ | exact absurd hp (by decide)

theorem FrameM.upd_err_ins (e : Blk) :
    FrameM 0x140000 e { e with err := x0, ins := x1 } := by
  constructor; intro p hp; cases p <;> first | exact Eq.refl _ | exact absurd hp (by decide)

theorem FrameM.upd_freeCtr_ins (e : Blk) :
    FrameM 0x100004 e { e with freeCtr := x0, ins := x1 } := by
  constructor; intro p hp; cases p <;> first | exact Eq.refl _ | exact absurd hp (by decide)

theorem FrameM.upd_freeCtr_lcs (e : Blk) :
    FrameM 0x4004 e { e with freeCtr := x0, lcs := x1 } := by
  constructor; intro p hp; cases p <;> first | exact Eq.refl _ | exact absurd hp (by decide)

theorem FrameM.upd_freeCtr_refs (e : Blk) :
    FrameM 0x400004 e { e with freeCtr := x0, refs := x1 } := by
  constructor; intro p hp; cases p <;> first | exact Eq.refl _ | exact absurd hp (by decide)

theorem FrameM.upd_heel_hold (e : Blk) :
    FrameM 0x1800000 e { e with heel := x0, hold := x1 } := by
  constructor; intro p hp; cases p <;> first | exact Eq.refl _ | exact absurd hp (by decide)

theorem FrameM.upd_laster_ptp (e : Blk) :
    FrameM 0x100200000 e { e with laster := x0, ptp := x1 } := by
  constructor; intro p hp; cases p <;> first | exact Eq.refl _ | exact absurd hp (by decide)

theorem FrameM.upd_out_evts (e : Blk) :
    FrameM 0x20008 e { e with out := x0, evts := x1 } := by
  constructor; intro p hp; cases p <;> first | exact Eq.refl _ | exact absurd hp (by decide)

theorem FrameM.upd_out_twin (e : Blk) :
    FrameM 0x200000008 e { e with out := x0, twin := x1 } := by
  constructor; intro p hp; cases p <;> first | exact Eq.refl _ | exact absurd hp (by decide)

theorem FrameM.upd_pmc_featAbsent (e : Blk) :
    FrameM 0x800080000 e { e with pmc := x0, featAbsent := x1 } := by
  constructor; intro p hp; cases p <;> first | exact Eq.refl _ | exact absurd hp (by decide)

theorem FrameM.upd_refs_hold (e : Blk) :
    FrameM 0x1400000 e { e with refs := x0, hold := x1 } := by
  constructor; intro p hp; cases p <;> first | exact Eq.refl _ | exact absurd hp (by decide)

theorem FrameM.upd_regs_rst (e : Blk) :
    FrameM 0x1010 e { e with regs := x0, rst := x1 } := by
  constructor; intro p hp; cases p <;> first | exact Eq.refl _ | exact absurd hp (by decide)

theorem FrameM.upd_rst_eyes (e : Blk) :
    FrameM 0x4001000 e { e with rst := x0, eyes := x1 } := by
  constructor; intro p hp; cases p <;> first | exact Eq.refl _ | exact absurd hp (by decide)

theorem FrameM.upd_ins_laster_eyes (e : Blk) :
    FrameM 0x4300000 e { e with ins := x0, laster := x1, eyes := x2 } := by
  constructor; intro p hp; cases p <;> first | exact Eq.refl _ | exact absurd hp (by decide)

theorem FrameM.upd_laster_clk_ct (e : Blk) :
    FrameM 0x30200000 e { e with laster := x0, clk := x1, ct := x2 } := by
  constructor; intro p hp; cases p <;> first | exact Eq.refl _ | exact absurd hp (by decide)

theorem FrameM.upd_out_rings_flow (e : Blk) :
    FrameM 0x400010008 e { e with out := x0, rings := x1, flow := x2 } := by
  constructor; intro p hp; cases p <;> first | exact Eq.refl _ | exact absurd hp (by decide)

theorem FrameM.upd_up_pmc_ins (e : Blk) :
    FrameM 0x180002 e { e with up := x0, pmc := x1, ins := x2 } := by
  constructor; intro p hp; cases p <;> first | exact Eq.refl _ | exact absurd hp (by decide)

theorem FrameM.upd_mode_lastMode_entryCause_holdExpired_twin (e : Blk) :
    FrameM 0x200000780 e { e with mode := x0, lastMode := x1, entryCause := x2, holdExpired := x3, twin := x4 } := by
  constructor; intro p hp; cases p <;> first | exact Eq.refl _ | exact absurd hp (by decide)

theorem FrameM.upd_all11 (e : Blk) :
    FrameM 0x67f02010 e { e with regs := x0, boot := x1, ins := x2, laster := x3, refs := x4, heel := x5, hold := x6, outs := x7, eyes := x8, ct := x9, eng := x10 } := by
  constructor; intro p hp; cases p <;> first | exact Eq.refl _ | exact absurd hp (by decide)

theorem FrameM.upd_all33 (e : Blk) :
    FrameM 0xffffffff4 e { e with freeCtr := x0, regs := x1, ctr := x2, latch := x3, mode := x4, lastMode := x5, entryCause := x6, holdExpired := x7, modeReq := x8, rst := x9, boot := x10, lcs := x11, ses := x12, rings := x13, evts := x14, err := x15, pmc := x16, ins := x17, laster := x18, refs := x19, heel := x20, hold := x21, outs := x22, eyes := x23, ports := x24, clk := x25, ct := x26, eng := x27, nts := x28, ptp := x29, twin := x30, flow := x31, featAbsent := x32 } := by
  constructor; intro p hp; cases p <;> first | exact Eq.refl _ | exact absurd hp (by decide)

theorem FrameM.upd_holdExpired_refs_hold (e : Blk) :
    FrameM 0x1400400 e { e with holdExpired := x0, refs := x1, hold := x2 } := by
  constructor; intro p hp; cases p <;> first | exact Eq.refl _ | exact absurd hp (by decide)

end Sys2Proof.Machine
end

