-- ==== Sys2Proof/Laws/Frames1.lean ====
section
/-! SUPPORT. What each operation of the block may change, once for each: `FrameM m b (op b)` names by the bits of `m` the
pieces outside which nothing changes. Part 1 of 4, callees first. -/

set_option linter.unusedSimpArgs false
set_option linter.unusedTactic false
set_option linter.unreachableTactic false

namespace Sys2Proof.Machine

theorem Blk.offer_frame (b : Blk) (f : Nat) (ty : Nat) (rec : Bytes) :
    FrameM 0x20008 b (Blk.offer b f ty rec) := by
  unfold Blk.offer
  repeat' first
    | simp only [Nat.reduceAnd, FrameM.refl, FrameM.ite, FrameM.fold, implies_true, and_self, and_true, true_and, FrameM.iff (FrameM.upd_out_evts _)]
    | split
    | refine ⟨?_, ?_⟩
    | intro _
    | (with_reducible refine FrameM.foldI (fun _ _ => ?_) ?_)

theorem Blk.record_frame (b : Blk) (f : Nat) (ty : Nat) (obj : Nat) (arg : Nat) (t : Nat) (tail : Bytes) :
    FrameM 0x20008 b (Blk.record b f ty obj arg t tail) := by
  unfold Blk.record
  repeat' first
    | simp only [Nat.reduceAnd, FrameM.refl, FrameM.ite, FrameM.fold, implies_true, and_self, and_true, true_and, FrameM.iff (Blk.offer_frame _ _ _ _)]
    | split
    | refine ⟨?_, ?_⟩
    | intro _
    | (with_reducible refine FrameM.foldI (fun _ _ => ?_) ?_)

theorem Blk.route_frame (b : Blk) (lo : Nat) (ty : Nat) (obj : Nat) (arg : Nat) (t : Nat) (tail : Bytes) :
    FrameM 0x20008 b (Blk.route b lo ty obj arg t tail) := by
  unfold Blk.route
  repeat' first
    | simp only [Nat.reduceAnd, FrameM.refl, FrameM.ite, FrameM.fold, implies_true, and_self, and_true, true_and, FrameM.iff (Blk.record_frame _ _ _ _ _ _ _)]
    | split
    | refine ⟨?_, ?_⟩
    | intro _
    | (with_reducible refine FrameM.foldI (fun _ _ => ?_) ?_)

theorem Blk.recRef_frame (b : Blk) (slot : Nat) (code : Nat) (cause : Nat) (event : Nat) :
    FrameM 0x20008 b (Blk.recRef b slot code cause event) := by
  unfold Blk.recRef
  repeat' first
    | simp only [Nat.reduceAnd, FrameM.refl, FrameM.ite, FrameM.fold, implies_true, and_self, and_true, true_and, FrameM.iff (Blk.route_frame _ _ _ _ _ _ _)]
    | split
    | refine ⟨?_, ?_⟩
    | intro _
    | (with_reducible refine FrameM.foldI (fun _ _ => ?_) ?_)

theorem Blk.abandon_frame (b : Blk) (s : Switch) :
    FrameM 0x420008 b (Blk.abandon b s) := by
  unfold Blk.abandon
  repeat' first
    | simp only [Nat.reduceAnd, FrameM.refl, FrameM.ite, FrameM.fold, implies_true, and_self, and_true, true_and, FrameM.iff (FrameM.upd_refs _), FrameM.iff (Blk.recRef_frame _ _ _ _ _)]
    | split
    | refine ⟨?_, ?_⟩
    | intro _
    | (with_reducible refine FrameM.foldI (fun _ _ => ?_) ?_)

theorem Blk.wrW_frame (b : Blk) (off : Nat) (v : Nat) :
    FrameM 0x10 b (Blk.wrW b off v) := by
  unfold Blk.wrW
  repeat' first
    | simp only [Nat.reduceAnd, FrameM.refl, FrameM.ite, FrameM.fold, implies_true, and_self, and_true, true_and, FrameM.iff (FrameM.upd_regs _)]
    | split
    | refine ⟨?_, ?_⟩
    | intro _
    | (with_reducible refine FrameM.foldI (fun _ _ => ?_) ?_)

theorem Blk.wr_frame (b : Blk) (f : BF) (v : Nat) :
    FrameM 0x10 b (Blk.wr b f v) := by
  unfold Blk.wr
  repeat' first
    | simp only [Nat.reduceAnd, FrameM.refl, FrameM.ite, FrameM.fold, implies_true, and_self, and_true, true_and, FrameM.iff (FrameM.upd_regs _)]
    | split
    | refine ⟨?_, ?_⟩
    | intro _
    | (with_reducible refine FrameM.foldI (fun _ _ => ?_) ?_)

theorem Blk.setF_frame (b : Blk) (f : BF) :
    FrameM 0x10 b (Blk.setF b f) := by
  unfold Blk.setF
  repeat' first
    | simp only [Nat.reduceAnd, FrameM.refl, FrameM.ite, FrameM.fold, implies_true, and_self, and_true, true_and, FrameM.iff (Blk.wr_frame _ _ _)]
    | split
    | refine ⟨?_, ?_⟩
    | intro _
    | (with_reducible refine FrameM.foldI (fun _ _ => ?_) ?_)

theorem Blk.accErr_frame (b : Blk) (f : Nat) (kind : Nat) (off : Nat) (write : Bool) :
    FrameM 0x10 b (Blk.accErr b f kind off write) := by
  unfold Blk.accErr
  repeat' first
    | simp only [Nat.reduceAnd, FrameM.refl, FrameM.ite, FrameM.fold, implies_true, and_self, and_true, true_and, FrameM.iff (Blk.wrW_frame _ _ _), FrameM.iff (Blk.setF_frame _ _)]
    | split
    | refine ⟨?_, ?_⟩
    | intro _
    | (with_reducible refine FrameM.foldI (fun _ _ => ?_) ?_)

theorem Blk.pmcEvent_frame (b : Blk) (ev : Nat) (inst : Nat) (n : Nat) :
    FrameM 0x80000 b (Blk.pmcEvent b ev inst n) := by
  unfold Blk.pmcEvent
  repeat' first
    | simp only [Nat.reduceAnd, FrameM.refl, FrameM.ite, FrameM.fold, implies_true, and_self, and_true, true_and, FrameM.iff (FrameM.upd_pmc _)]
    | split
    | refine ⟨?_, ?_⟩
    | intro _
    | (with_reducible refine FrameM.foldI (fun _ _ => ?_) ?_)

theorem Blk.completeX_frame (b : Blk) (r : DRef) (status : Nat) (result : Bytes) (stepx : Bool) :
    FrameM 0x400090008 b (Blk.completeX b r status result stepx) := by
  unfold Blk.completeX
  repeat' first
    | simp only [Nat.reduceAnd, FrameM.refl, FrameM.ite, FrameM.fold, implies_true, and_self, and_true, true_and, FrameM.iff (FrameM.upd_out_rings_flow _), FrameM.iff (Blk.pmcEvent_frame _ _ _ _)]
    | split
    | refine ⟨?_, ?_⟩
    | intro _
    | (with_reducible refine FrameM.foldI (fun _ _ => ?_) ?_)

theorem Blk.complete_frame (b : Blk) (r : DRef) (status : Nat) (result : Bytes) :
    FrameM 0x400090008 b (Blk.complete b r status result) := by
  unfold Blk.complete
  repeat' first
    | simp only [Nat.reduceAnd, FrameM.refl, FrameM.ite, FrameM.fold, implies_true, and_self, and_true, true_and, FrameM.iff (Blk.completeX_frame _ _ _ _ _)]
    | split
    | refine ⟨?_, ?_⟩
    | intro _
    | (with_reducible refine FrameM.foldI (fun _ _ => ?_) ?_)

theorem Blk.setClient_frame (b : Blk) (p : Nat) (x : PClient) :
    FrameM 0x100000000 b (Blk.setClient b p x) := by
  unfold Blk.setClient
  repeat' first
    | simp only [Nat.reduceAnd, FrameM.refl, FrameM.ite, FrameM.fold, implies_true, and_self, and_true, true_and, FrameM.iff (FrameM.upd_ptp _)]
    | split
    | refine ⟨?_, ?_⟩
    | intro _
    | (with_reducible refine FrameM.foldI (fun _ _ => ?_) ?_)

theorem Blk.heelTake_frame (b : Blk) :
    FrameM 0x1800000 b (Blk.heelTake b) := by
  unfold Blk.heelTake
  repeat' first
    | simp only [Nat.reduceAnd, FrameM.refl, FrameM.ite, FrameM.fold, implies_true, and_self, and_true, true_and, FrameM.iff (FrameM.upd_heel_hold _)]
    | split
    | refine ⟨?_, ?_⟩
    | intro _
    | (with_reducible refine FrameM.foldI (fun _ _ => ?_) ?_)

theorem Blk.heelStop_frame (b : Blk) :
    FrameM 0x1800000 b (Blk.heelStop b) := by
  unfold Blk.heelStop
  repeat' first
    | simp only [Nat.reduceAnd, FrameM.refl, FrameM.ite, FrameM.fold, implies_true, and_self, and_true, true_and, FrameM.iff (FrameM.upd_heel_hold _)]
    | split
    | refine ⟨?_, ?_⟩
    | intro _
    | (with_reducible refine FrameM.foldI (fun _ _ => ?_) ?_)

theorem Blk.steerSync_frame (b : Blk) :
    FrameM 0x1c00000 b (Blk.steerSync b) := by
  unfold Blk.steerSync
  repeat' first
    | simp only [Nat.reduceAnd, FrameM.refl, FrameM.ite, FrameM.fold, implies_true, and_self, and_true, true_and, FrameM.iff (FrameM.upd_refs _), FrameM.iff (Blk.heelTake_frame _), FrameM.iff (Blk.heelStop_frame _)]
    | split
    | refine ⟨?_, ?_⟩
    | intro _
    | (with_reducible refine FrameM.foldI (fun _ _ => ?_) ?_)

theorem Blk.setChoice_frame (b : Blk) (k : Option Nat) :
    FrameM 0x400000 b (Blk.setChoice b k) := by
  unfold Blk.setChoice
  repeat' first
    | simp only [Nat.reduceAnd, FrameM.refl, FrameM.ite, FrameM.fold, implies_true, and_self, and_true, true_and, FrameM.iff (FrameM.upd_refs _)]
    | split
    | refine ⟨?_, ?_⟩
    | intro _
    | (with_reducible refine FrameM.foldI (fun _ _ => ?_) ?_)

theorem Blk.switchTo_frame (b : Blk) (k : Nat) (freq : Int) :
    FrameM 0x420008 b (Blk.switchTo b k freq) := by
  unfold Blk.switchTo
  repeat' first
    | simp only [Nat.reduceAnd, FrameM.refl, FrameM.ite, FrameM.fold, implies_true, and_self, and_true, true_and, FrameM.iff (FrameM.upd_refs _), FrameM.iff (Blk.setChoice_frame _ _), FrameM.iff (Blk.recRef_frame _ _ _ _ _)]
    | split
    | refine ⟨?_, ?_⟩
    | intro _
    | (with_reducible refine FrameM.foldI (fun _ _ => ?_) ?_)

theorem Blk.reselect_frame (b : Blk) :
    FrameM 0x420008 b (Blk.reselect b) := by
  unfold Blk.reselect
  repeat' first
    | simp only [Nat.reduceAnd, FrameM.refl, FrameM.ite, FrameM.fold, implies_true, and_self, and_true, true_and, FrameM.iff (FrameM.upd_refs _), FrameM.iff (Blk.setChoice_frame _ _), FrameM.iff (Blk.abandon_frame _ _), FrameM.iff (Blk.switchTo_frame _ _ _)]
    | split
    | refine ⟨?_, ?_⟩
    | intro _
    | (with_reducible refine FrameM.foldI (fun _ _ => ?_) ?_)

theorem Blk.eligSync_frame (b : Blk) :
    FrameM 0x400000 b (Blk.eligSync b) := by
  unfold Blk.eligSync
  repeat' first
    | simp only [Nat.reduceAnd, FrameM.refl, FrameM.ite, FrameM.fold, implies_true, and_self, and_true, true_and, FrameM.iff (FrameM.upd_refs _)]
    | split
    | refine ⟨?_, ?_⟩
    | intro _
    | (with_reducible refine FrameM.foldI (fun _ _ => ?_) ?_)

theorem Blk.refsSettle_frame (b : Blk) :
    FrameM 0x1c20008 b (Blk.refsSettle b) := by
  unfold Blk.refsSettle
  repeat' first
    | simp only [Nat.reduceAnd, FrameM.refl, FrameM.ite, FrameM.fold, implies_true, and_self, and_true, true_and, FrameM.iff (Blk.steerSync_frame _), FrameM.iff (Blk.reselect_frame _), FrameM.iff (Blk.eligSync_frame _)]
    | split
    | refine ⟨?_, ?_⟩
    | intro _
    | (with_reducible refine FrameM.foldI (fun _ _ => ?_) ?_)

theorem Blk.setSlot_frame (b : Blk) (i : Nat) (x : Slot) :
    FrameM 0x400000 b (Blk.setSlot b i x) := by
  unfold Blk.setSlot
  repeat' first
    | simp only [Nat.reduceAnd, FrameM.refl, FrameM.ite, FrameM.fold, implies_true, and_self, and_true, true_and, FrameM.iff (FrameM.upd_refs _)]
    | split
    | refine ⟨?_, ?_⟩
    | intro _
    | (with_reducible refine FrameM.foldI (fun _ _ => ?_) ?_)

theorem Blk.slotMove_frame (b : Blk) (k : Nat) (s : Slot) (st : SlotState) (cause : Nat) :
    FrameM 0x420008 b (Blk.slotMove b k s st cause) := by
  unfold Blk.slotMove
  repeat' first
    | simp only [Nat.reduceAnd, FrameM.refl, FrameM.ite, FrameM.fold, implies_true, and_self, and_true, true_and, FrameM.iff (Blk.recRef_frame _ _ _ _ _), FrameM.iff (Blk.setSlot_frame _ _ _)]
    | split
    | refine ⟨?_, ?_⟩
    | intro _
    | (with_reducible refine FrameM.foldI (fun _ _ => ?_) ?_)

theorem Blk.toNoSignal_frame (b : Blk) (k : Nat) (s : Slot) (cause : Nat) :
    FrameM 0x420008 b (Blk.toNoSignal b k s cause) := by
  unfold Blk.toNoSignal
  repeat' first
    | simp only [Nat.reduceAnd, FrameM.refl, FrameM.ite, FrameM.fold, implies_true, and_self, and_true, true_and, FrameM.iff (Blk.slotMove_frame _ _ _ _ _)]
    | split
    | refine ⟨?_, ?_⟩
    | intro _
    | (with_reducible refine FrameM.foldI (fun _ _ => ?_) ?_)

theorem Blk.toQualifying_frame (b : Blk) (k : Nat) (s : Slot) :
    FrameM 0x420008 b (Blk.toQualifying b k s) := by
  unfold Blk.toQualifying
  repeat' first
    | simp only [Nat.reduceAnd, FrameM.refl, FrameM.ite, FrameM.fold, implies_true, and_self, and_true, true_and, FrameM.iff (Blk.slotMove_frame _ _ _ _ _)]
    | split
    | refine ⟨?_, ?_⟩
    | intro _
    | (with_reducible refine FrameM.foldI (fun _ _ => ?_) ?_)

theorem Blk.slotEval_frame (b : Blk) (k : Nat) :
    FrameM 0x420008 b (Blk.slotEval b k) := by
  unfold Blk.slotEval
  repeat' first
    | simp only [Nat.reduceAnd, FrameM.refl, FrameM.ite, FrameM.fold, implies_true, and_self, and_true, true_and, FrameM.iff (Blk.setSlot_frame _ _ _), FrameM.iff (Blk.slotMove_frame _ _ _ _ _), FrameM.iff (Blk.toNoSignal_frame _ _ _ _), FrameM.iff (Blk.toQualifying_frame _ _ _)]
    | split
    | refine ⟨?_, ?_⟩
    | intro _
    | (with_reducible refine FrameM.foldI (fun _ _ => ?_) ?_)

theorem Blk.thaw_frame (b : Blk) (p : Nat) :
    FrameM 0x101c20008 b (Blk.thaw b p) := by
  unfold Blk.thaw
  repeat' first
    | simp only [Nat.reduceAnd, FrameM.refl, FrameM.ite, FrameM.fold, implies_true, and_self, and_true, true_and, FrameM.iff (Blk.setClient_frame _ _ _), FrameM.iff (Blk.refsSettle_frame _), FrameM.iff (Blk.slotEval_frame _ _), FrameM.iff (Blk.setSlot_frame _ _ _)]
    | split
    | refine ⟨?_, ?_⟩
    | intro _
    | (with_reducible refine FrameM.foldI (fun _ _ => ?_) ?_)

theorem Blk.acceptPath_frame (b : Blk) (ref : DRef) (d : Bytes) :
    FrameM 0x501cb0008 b (Blk.acceptPath b ref d) := by
  unfold Blk.acceptPath
  repeat' first
    | simp only [Nat.reduceAnd, FrameM.refl, FrameM.ite, FrameM.fold, implies_true, and_self, and_true, true_and, FrameM.iff (Blk.complete_frame _ _ _ _), FrameM.iff (Blk.thaw_frame _ _)]
    | split
    | refine ⟨?_, ?_⟩
    | intro _
    | (with_reducible refine FrameM.foldI (fun _ _ => ?_) ?_)

theorem Blk.satF_frame (b : Blk) (f : BF) (n : Nat) :
    FrameM 0x10 b (Blk.satF b f n) := by
  unfold Blk.satF
  repeat' first
    | simp only [Nat.reduceAnd, FrameM.refl, FrameM.ite, FrameM.fold, implies_true, and_self, and_true, true_and, FrameM.iff (Blk.wr_frame _ _ _)]
    | split
    | refine ⟨?_, ?_⟩
    | intro _
    | (with_reducible refine FrameM.foldI (fun _ _ => ?_) ?_)

theorem Blk.aclCount_frame (b : Blk) (m : Option Nat) :
    FrameM 0x10 b (Blk.aclCount b m) := by
  unfold Blk.aclCount
  repeat' first
    | simp only [Nat.reduceAnd, FrameM.refl, FrameM.ite, FrameM.fold, implies_true, and_self, and_true, true_and, FrameM.iff (Blk.satF_frame _ _ _)]
    | split
    | refine ⟨?_, ?_⟩
    | intro _
    | (with_reducible refine FrameM.foldI (fun _ _ => ?_) ?_)

theorem Blk.aclNext_frame (old : Blk) (b : Blk) :
    FrameM 0x20000000 b (Blk.aclNext old b) := by
  unfold Blk.aclNext
  repeat' first
    | simp only [Nat.reduceAnd, FrameM.refl, FrameM.ite, FrameM.fold, implies_true, and_self, and_true, true_and, FrameM.iff (FrameM.upd_ct _)]
    | split
    | refine ⟨?_, ?_⟩
    | intro _
    | (with_reducible refine FrameM.foldI (fun _ _ => ?_) ?_)

theorem Blk.incN_frame (b : Blk) (c : Nat) (n : Nat) :
    FrameM 0x20 b (Blk.incN b c n) := by
  unfold Blk.incN
  repeat' first
    | simp only [Nat.reduceAnd, FrameM.refl, FrameM.ite, FrameM.fold, implies_true, and_self, and_true, true_and, FrameM.iff (FrameM.upd_ctr _)]
    | split
    | refine ⟨?_, ?_⟩
    | intro _
    | (with_reducible refine FrameM.foldI (fun _ _ => ?_) ?_)

theorem Blk.inc_frame (b : Blk) (c : Nat) :
    FrameM 0x20 b (Blk.inc b c) := by
  unfold Blk.inc
  repeat' first
    | simp only [Nat.reduceAnd, FrameM.refl, FrameM.ite, FrameM.fold, implies_true, and_self, and_true, true_and, FrameM.iff (Blk.incN_frame _ _ _)]
    | split
    | refine ⟨?_, ?_⟩
    | intro _
    | (with_reducible refine FrameM.foldI (fun _ _ => ?_) ?_)

theorem Blk.egFree_frame (b : Blk) (p : Nat) (n : Nat) :
    FrameM 0x400000000 b (Blk.egFree b p n) := by
  unfold Blk.egFree
  repeat' first
    | simp only [Nat.reduceAnd, FrameM.refl, FrameM.ite, FrameM.fold, implies_true, and_self, and_true, true_and, FrameM.iff (FrameM.upd_flow _)]
    | split
    | refine ⟨?_, ?_⟩
    | intro _
    | (with_reducible refine FrameM.foldI (fun _ _ => ?_) ?_)

theorem Blk.ingFree_frame (b : Blk) (r : Req) :
    FrameM 0x10000000 b (Blk.ingFree b r) := by
  unfold Blk.ingFree
  repeat' first
    | simp only [Nat.reduceAnd, FrameM.refl, FrameM.ite, FrameM.fold, implies_true, and_self, and_true, true_and, FrameM.iff (FrameM.upd_clk _)]
    | split
    | refine ⟨?_, ?_⟩
    | intro _
    | (with_reducible refine FrameM.foldI (fun _ _ => ?_) ?_)

theorem Blk.reqFree_frame (b : Blk) (r : Req) :
    FrameM 0x410000000 b (Blk.reqFree b r) := by
  unfold Blk.reqFree
  repeat' first
    | simp only [Nat.reduceAnd, FrameM.refl, FrameM.ite, FrameM.fold, implies_true, and_self, and_true, true_and, FrameM.iff (Blk.egFree_frame _ _ _), FrameM.iff (Blk.ingFree_frame _ _)]
    | split
    | refine ⟨?_, ?_⟩
    | intro _
    | (with_reducible refine FrameM.foldI (fun _ _ => ?_) ?_)

theorem Blk.reqDiscard_frame (b : Blk) (r : Req) :
    FrameM 0x410000020 b (Blk.reqDiscard b r) := by
  unfold Blk.reqDiscard
  repeat' first
    | simp only [Nat.reduceAnd, FrameM.refl, FrameM.ite, FrameM.fold, implies_true, and_self, and_true, true_and, FrameM.iff (Blk.inc_frame _ _), FrameM.iff (Blk.reqFree_frame _ _)]
    | split
    | refine ⟨?_, ?_⟩
    | intro _
    | (with_reducible refine FrameM.foldI (fun _ _ => ?_) ?_)

theorem Blk.reqsDiscard_frame (b : Blk) (p : Req → Bool) :
    FrameM 0x410000020 b (Blk.reqsDiscard b p) := by
  unfold Blk.reqsDiscard
  repeat' first
    | simp only [Nat.reduceAnd, FrameM.refl, FrameM.ite, FrameM.fold, implies_true, and_self, and_true, true_and, FrameM.iff (FrameM.upd_clk _), FrameM.iff (Blk.reqDiscard_frame _ _)]
    | split
    | refine ⟨?_, ?_⟩
    | intro _
    | (with_reducible refine FrameM.foldI (fun _ _ => ?_) ?_)

theorem Blk.reqParity_frame (b : Blk) (n : Nat) :
    FrameM 0x410000020 b (Blk.reqParity b n) := by
  unfold Blk.reqParity
  repeat' first
    | simp only [Nat.reduceAnd, FrameM.refl, FrameM.ite, FrameM.fold, implies_true, and_self, and_true, true_and, FrameM.iff (Blk.reqsDiscard_frame _ _)]
    | split
    | refine ⟨?_, ?_⟩
    | intro _
    | (with_reducible refine FrameM.foldI (fun _ _ => ?_) ?_)

theorem Blk.setPort_frame (b : Blk) (p : Nat) (x : Port) :
    FrameM 0x8000000 b (Blk.setPort b p x) := by
  unfold Blk.setPort
  repeat' first
    | simp only [Nat.reduceAnd, FrameM.refl, FrameM.ite, FrameM.fold, implies_true, and_self, and_true, true_and, FrameM.iff (FrameM.upd_ports _)]
    | split
    | refine ⟨?_, ?_⟩
    | intro _
    | (with_reducible refine FrameM.foldI (fun _ _ => ?_) ?_)

theorem Blk.ctxFree_frame (b : Blk) (k : Nat) :
    FrameM 0x480000000 b (Blk.ctxFree b k) := by
  unfold Blk.ctxFree
  repeat' first
    | simp only [Nat.reduceAnd, FrameM.refl, FrameM.ite, FrameM.fold, implies_true, and_self, and_true, true_and, FrameM.iff (FrameM.upd_nts _), FrameM.iff (Blk.egFree_frame _ _ _)]
    | split
    | refine ⟨?_, ?_⟩
    | intro _
    | (with_reducible refine FrameM.foldI (fun _ _ => ?_) ?_)

theorem Blk.ctxFreeOpt_frame (b : Blk) (y1 : Option Nat) :
    FrameM 0x480000000 b (Blk.ctxFree? b y1) := by
  unfold Blk.ctxFree?
  repeat' first
    | simp only [Nat.reduceAnd, FrameM.refl, FrameM.ite, FrameM.fold, implies_true, and_self, and_true, true_and, FrameM.iff (Blk.ctxFree_frame _ _)]
    | split
    | refine ⟨?_, ?_⟩
    | intro _
    | (with_reducible refine FrameM.foldI (fun _ _ => ?_) ?_)

theorem Blk.lstDel_frame (b : Blk) (i : Nat) :
    FrameM 0x200000 b (Blk.lstDel b i) := by
  unfold Blk.lstDel
  repeat' first
    | simp only [Nat.reduceAnd, FrameM.refl, FrameM.ite, FrameM.fold, implies_true, and_self, and_true, true_and, FrameM.iff (FrameM.upd_laster _)]
    | split
    | refine ⟨?_, ?_⟩
    | intro _
    | (with_reducible refine FrameM.foldI (fun _ _ => ?_) ?_)

theorem Blk.lstDelOpt_frame (b : Blk) (y1 : Option Nat) :
    FrameM 0x200000 b (Blk.lstDel? b y1) := by
  unfold Blk.lstDel?
  repeat' first
    | simp only [Nat.reduceAnd, FrameM.refl, FrameM.ite, FrameM.fold, implies_true, and_self, and_true, true_and, FrameM.iff (Blk.lstDel_frame _ _)]
    | split
    | refine ⟨?_, ?_⟩
    | intro _
    | (with_reducible refine FrameM.foldI (fun _ _ => ?_) ?_)

theorem Blk.frameFree_frame (b : Blk) (f : TxF) :
    FrameM 0x480200000 b (Blk.frameFree b f) := by
  unfold Blk.frameFree
  repeat' first
    | simp only [Nat.reduceAnd, FrameM.refl, FrameM.ite, FrameM.fold, implies_true, and_self, and_true, true_and, FrameM.iff (Blk.ctxFreeOpt_frame _ _), FrameM.iff (Blk.lstDelOpt_frame _ _), FrameM.iff (Blk.egFree_frame _ _ _)]
    | split
    | refine ⟨?_, ?_⟩
    | intro _
    | (with_reducible refine FrameM.foldI (fun _ _ => ?_) ?_)

theorem Blk.sealDrop_frame (b : Blk) :
    FrameM 0x20 b (Blk.sealDrop b) := by
  unfold Blk.sealDrop
  repeat' first
    | simp only [Nat.reduceAnd, FrameM.refl, FrameM.ite, FrameM.fold, implies_true, and_self, and_true, true_and, FrameM.iff (Blk.inc_frame _ _)]
    | split
    | refine ⟨?_, ?_⟩
    | intro _
    | (with_reducible refine FrameM.foldI (fun _ _ => ?_) ?_)

theorem Blk.frameDone_frame (b : Blk) (f : TxF) (status : Nat) :
    FrameM 0x400090008 b (Blk.frameDone b f status) := by
  unfold Blk.frameDone
  repeat' first
    | simp only [Nat.reduceAnd, FrameM.refl, FrameM.ite, FrameM.fold, implies_true, and_self, and_true, true_and, FrameM.iff (Blk.complete_frame _ _ _ _)]
    | split
    | refine ⟨?_, ?_⟩
    | intro _
    | (with_reducible refine FrameM.foldI (fun _ _ => ?_) ?_)

theorem Blk.frameDrop_frame (b : Blk) (miss : Nat) (status : Nat) (f : TxF) :
    FrameM 0x480290028 b (Blk.frameDrop b miss status f) := by
  unfold Blk.frameDrop
  repeat' first
    | simp only [Nat.reduceAnd, FrameM.refl, FrameM.ite, FrameM.fold, implies_true, and_self, and_true, true_and, FrameM.iff (Blk.inc_frame _ _), FrameM.iff (Blk.frameFree_frame _ _), FrameM.iff (Blk.sealDrop_frame _), FrameM.iff (Blk.frameDone_frame _ _ _)]
    | split
    | refine ⟨?_, ?_⟩
    | intro _
    | (with_reducible refine FrameM.foldI (fun _ _ => ?_) ?_)

theorem Blk.frameParity_frame (b : Blk) (id : Nat) :
    FrameM 0x488290028 b (Blk.frameParity b id) := by
  unfold Blk.frameParity
  repeat' first
    | simp only [Nat.reduceAnd, FrameM.refl, FrameM.ite, FrameM.fold, implies_true, and_self, and_true, true_and, FrameM.iff (Blk.setPort_frame _ _ _), FrameM.iff (Blk.frameDrop_frame _ _ _ _)]
    | split
    | refine ⟨?_, ?_⟩
    | intro _
    | (with_reducible refine FrameM.foldI (fun _ _ => ?_) ?_)

theorem Blk.lockTake_frame (b : Blk) (bkt : Nat) (lane : Nat) :
    FrameM 0x60000000 b (Blk.lockTake b bkt lane) := by
  unfold Blk.lockTake
  repeat' first
    | simp only [Nat.reduceAnd, FrameM.refl, FrameM.ite, FrameM.fold, implies_true, and_self, and_true, true_and, FrameM.iff (FrameM.upd_ct_eng _)]
    | split
    | refine ⟨?_, ?_⟩
    | intro _
    | (with_reducible refine FrameM.foldI (fun _ _ => ?_) ?_)

theorem Blk.put_frame (b : Blk) (e : Emit) :
    FrameM 0x8 b (Blk.put b e) := by
  unfold Blk.put
  repeat' first
    | simp only [Nat.reduceAnd, FrameM.refl, FrameM.ite, FrameM.fold, implies_true, and_self, and_true, true_and, FrameM.iff (FrameM.upd_out _)]
    | split
    | refine ⟨?_, ?_⟩
    | intro _
    | (with_reducible refine FrameM.foldI (fun _ _ => ?_) ?_)

theorem Blk.ctLookupNow_frame (b : Blk) (ref : DRef) (d : Bytes) :
    FrameM 0x400090008 b (Blk.ctLookupNow b ref d) := by
  unfold Blk.ctLookupNow
  repeat' first
    | simp only [Nat.reduceAnd, FrameM.refl, FrameM.ite, FrameM.fold, implies_true, and_self, and_true, true_and, FrameM.iff (Blk.complete_frame _ _ _ _), FrameM.iff (Blk.put_frame _ _)]
    | split
    | refine ⟨?_, ?_⟩
    | intro _
    | (with_reducible refine FrameM.foldI (fun _ _ => ?_) ?_)

theorem Blk.setBucket_frame (b : Blk) (i : Nat) (k : Bucket) :
    FrameM 0x20000000 b (Blk.setBucket b i k) := by
  unfold Blk.setBucket
  repeat' first
    | simp only [Nat.reduceAnd, FrameM.refl, FrameM.ite, FrameM.fold, implies_true, and_self, and_true, true_and, FrameM.iff (FrameM.upd_ct _)]
    | split
    | refine ⟨?_, ?_⟩
    | intro _
    | (with_reducible refine FrameM.foldI (fun _ _ => ?_) ?_)

theorem Blk.ctUpsertNow_frame (b : Blk) (ref : DRef) (d : Bytes) :
    FrameM 0x420090038 b (Blk.ctUpsertNow b ref d) := by
  unfold Blk.ctUpsertNow
  repeat' first
    | simp only [Nat.reduceAnd, FrameM.refl, FrameM.ite, FrameM.fold, implies_true, and_self, and_true, true_and, FrameM.iff (Blk.complete_frame _ _ _ _), FrameM.iff (Blk.setBucket_frame _ _ _), FrameM.iff (Blk.inc_frame _ _), FrameM.iff (Blk.aclCount_frame _ _)]
    | split
    | refine ⟨?_, ?_⟩
    | intro _
    | (with_reducible refine FrameM.foldI (fun _ _ => ?_) ?_)

theorem Blk.ctDeleteNow_frame (b : Blk) (ref : DRef) (d : Bytes) :
    FrameM 0x420090008 b (Blk.ctDeleteNow b ref d) := by
  unfold Blk.ctDeleteNow
  repeat' first
    | simp only [Nat.reduceAnd, FrameM.refl, FrameM.ite, FrameM.fold, implies_true, and_self, and_true, true_and, FrameM.iff (Blk.complete_frame _ _ _ _), FrameM.iff (Blk.setBucket_frame _ _ _)]
    | split
    | refine ⟨?_, ?_⟩
    | intro _
    | (with_reducible refine FrameM.foldI (fun _ _ => ?_) ?_)

theorem Blk.ctResetNow_frame (b : Blk) (ref : DRef) (d : Bytes) :
    FrameM 0x420090008 b (Blk.ctResetNow b ref d) := by
  unfold Blk.ctResetNow
  repeat' first
    | simp only [Nat.reduceAnd, FrameM.refl, FrameM.ite, FrameM.fold, implies_true, and_self, and_true, true_and, FrameM.iff (Blk.complete_frame _ _ _ _), FrameM.iff (Blk.setBucket_frame _ _ _)]
    | split
    | refine ⟨?_, ?_⟩
    | intro _
    | (with_reducible refine FrameM.foldI (fun _ _ => ?_) ?_)

theorem Blk.ctOpNow_frame (b : Blk) (ref : DRef) :
    FrameM 0x420090038 b (Blk.ctOpNow b ref) := by
  unfold Blk.ctOpNow
  repeat' first
    | simp only [Nat.reduceAnd, FrameM.refl, FrameM.ite, FrameM.fold, implies_true, and_self, and_true, true_and, FrameM.iff (Blk.ctLookupNow_frame _ _ _), FrameM.iff (Blk.ctUpsertNow_frame _ _ _), FrameM.iff (Blk.ctDeleteNow_frame _ _ _), FrameM.iff (Blk.ctResetNow_frame _ _ _)]
    | split
    | refine ⟨?_, ?_⟩
    | intro _
    | (with_reducible refine FrameM.foldI (fun _ _ => ?_) ?_)

theorem Blk.lockNext_frame (b : Blk) (bkt : Nat) (y2 : Nat) :
    FrameM 0x460090038 b (Blk.lockNext b bkt y2) := by
  induction y2 generalizing b with
  | zero => unfold Blk.lockNext; simp only [FrameM.refl]
  | succ n ih =>
    unfold Blk.lockNext
    repeat' first
      | simp only [FrameM.iff (ih _),  Nat.reduceAnd, FrameM.refl, FrameM.ite, FrameM.fold, implies_true, and_self, and_true, true_and, FrameM.iff (FrameM.upd_ct _), FrameM.iff (FrameM.upd_ct_flow _), FrameM.iff (Blk.lockTake_frame _ _ _), FrameM.iff (Blk.ctOpNow_frame _ _)]
      | split
      | refine ⟨?_, ?_⟩
      | intro _

theorem Blk.lockFree_frame (b : Blk) (bkt : Nat) (lane : Nat) :
    FrameM 0x460090038 b (Blk.lockFree b bkt lane) := by
  unfold Blk.lockFree
  repeat' first
    | simp only [Nat.reduceAnd, FrameM.refl, FrameM.ite, FrameM.fold, implies_true, and_self, and_true, true_and, FrameM.iff (FrameM.upd_ct _), FrameM.iff (Blk.lockNext_frame _ _ _)]
    | split
    | refine ⟨?_, ?_⟩
    | intro _
    | (with_reducible refine FrameM.foldI (fun _ _ => ?_) ?_)

theorem Blk.invUnlock_frame (b : Blk) (lane : Nat) (v : Inv) :
    FrameM 0x460090038 b (Blk.invUnlock b lane v) := by
  unfold Blk.invUnlock
  repeat' first
    | simp only [Nat.reduceAnd, FrameM.refl, FrameM.ite, FrameM.fold, implies_true, and_self, and_true, true_and, FrameM.iff (Blk.lockFree_frame _ _ _)]
    | split
    | refine ⟨?_, ?_⟩
    | intro _
    | (with_reducible refine FrameM.foldI (fun _ _ => ?_) ?_)

theorem Blk.delInv_frame (b : Blk) (lane : Nat) :
    FrameM 0x40000000 b (Blk.delInv b lane) := by
  unfold Blk.delInv
  repeat' first
    | simp only [Nat.reduceAnd, FrameM.refl, FrameM.ite, FrameM.fold, implies_true, and_self, and_true, true_and, FrameM.iff (FrameM.upd_eng _)]
    | split
    | refine ⟨?_, ?_⟩
    | intro _
    | (with_reducible refine FrameM.foldI (fun _ _ => ?_) ?_)

theorem Blk.invLeave_frame (b : Blk) (lane : Nat) (v : Inv) :
    FrameM 0x470090038 b (Blk.invLeave b lane v) := by
  unfold Blk.invLeave
  repeat' first
    | simp only [Nat.reduceAnd, FrameM.refl, FrameM.ite, FrameM.fold, implies_true, and_self, and_true, true_and, FrameM.iff (Blk.invUnlock_frame _ _ _), FrameM.iff (Blk.delInv_frame _ _), FrameM.iff (Blk.ingFree_frame _ _)]
    | split
    | refine ⟨?_, ?_⟩
    | intro _
    | (with_reducible refine FrameM.foldI (fun _ _ => ?_) ?_)

theorem Blk.invAbort_frame (b : Blk) (lane : Nat) :
    FrameM 0x4f0090038 b (Blk.invAbort b lane) := by
  unfold Blk.invAbort
  repeat' first
    | simp only [Nat.reduceAnd, FrameM.refl, FrameM.ite, FrameM.fold, implies_true, and_self, and_true, true_and, FrameM.iff (Blk.pmcEvent_frame _ _ _ _), FrameM.iff (Blk.ctxFreeOpt_frame _ _), FrameM.iff (Blk.egFree_frame _ _ _), FrameM.iff (Blk.invLeave_frame _ _ _)]
    | split
    | refine ⟨?_, ?_⟩
    | intro _
    | (with_reducible refine FrameM.foldI (fun _ _ => ?_) ?_)

theorem Blk.invDiscard_frame (b : Blk) (lane : Nat) :
    FrameM 0x4f0090038 b (Blk.invDiscard b lane) := by
  unfold Blk.invDiscard
  repeat' first
    | simp only [Nat.reduceAnd, FrameM.refl, FrameM.ite, FrameM.fold, implies_true, and_self, and_true, true_and, FrameM.iff (Blk.invAbort_frame _ _), FrameM.iff (Blk.inc_frame _ _)]
    | split
    | refine ⟨?_, ?_⟩
    | intro _
    | (with_reducible refine FrameM.foldI (fun _ _ => ?_) ?_)

theorem Blk.dataParity_frame (b : Blk) (item : Nat) :
    FrameM 0x4f8290038 b (Blk.dataParity b item) := by
  unfold Blk.dataParity
  repeat' first
    | simp only [Nat.reduceAnd, FrameM.refl, FrameM.ite, FrameM.fold, implies_true, and_self, and_true, true_and, FrameM.iff (Blk.reqParity_frame _ _), FrameM.iff (Blk.frameParity_frame _ _), FrameM.iff (Blk.invDiscard_frame _ _), FrameM.iff (Blk.inc_frame _ _)]
    | split
    | refine ⟨?_, ?_⟩
    | intro _
    | (with_reducible refine FrameM.foldI (fun _ _ => ?_) ?_)

theorem Blk.staleAdd_frame (b : Blk) (l : List Nat) :
    FrameM 0x80000000 b (Blk.staleAdd b l) := by
  unfold Blk.staleAdd
  repeat' first
    | simp only [Nat.reduceAnd, FrameM.refl, FrameM.ite, FrameM.fold, implies_true, and_self, and_true, true_and, FrameM.iff (FrameM.upd_nts _)]
    | split
    | refine ⟨?_, ?_⟩
    | intro _
    | (with_reducible refine FrameM.foldI (fun _ _ => ?_) ?_)

theorem Blk.ctxRevoke_frame (b : Blk) (k : Nat) :
    FrameM 0x4f8290038 b (Blk.ctxRevoke b k) := by
  unfold Blk.ctxRevoke
  repeat' first
    | simp only [Nat.reduceAnd, FrameM.refl, FrameM.ite, FrameM.fold, implies_true, and_self, and_true, true_and, FrameM.iff (Blk.setPort_frame _ _ _), FrameM.iff (Blk.frameFree_frame _ _), FrameM.iff (Blk.invAbort_frame _ _), FrameM.iff (Blk.inc_frame _ _), FrameM.iff (Blk.sealDrop_frame _), FrameM.iff (Blk.ctxFree_frame _ _)]
    | split
    | refine ⟨?_, ?_⟩
    | intro _
    | (with_reducible refine FrameM.foldI (fun _ _ => ?_) ?_)

theorem Blk.portDiscard_frame (b : Blk) (miss : Nat) (status : Nat) (p : Nat) :
    FrameM 0x488290028 b (Blk.portDiscard b miss status p) := by
  unfold Blk.portDiscard
  repeat' first
    | simp only [Nat.reduceAnd, FrameM.refl, FrameM.ite, FrameM.fold, implies_true, and_self, and_true, true_and, FrameM.iff (Blk.setPort_frame _ _ _), FrameM.iff (Blk.frameDrop_frame _ _ _ _)]
    | split
    | refine ⟨?_, ?_⟩
    | intro _
    | (with_reducible refine FrameM.foldI (fun _ _ => ?_) ?_)

theorem Blk.waitsAbort_frame (b : Blk) (ps : List Nat) :
    FrameM 0x400090008 b (Blk.waitsAbort b ps) := by
  unfold Blk.waitsAbort
  repeat' first
    | simp only [Nat.reduceAnd, FrameM.refl, FrameM.ite, FrameM.fold, implies_true, and_self, and_true, true_and, FrameM.iff (FrameM.upd_flow _), FrameM.iff (Blk.complete_frame _ _ _ _)]
    | split
    | refine ⟨?_, ?_⟩
    | intro _
    | (with_reducible refine FrameM.foldI (fun _ _ => ?_) ?_)

theorem Blk.benchWork_frame (b : Blk) (i : Nat) :
    FrameM 0x4f8290038 b (Blk.benchWork b i) := by
  unfold Blk.benchWork
  repeat' first
    | simp only [Nat.reduceAnd, FrameM.refl, FrameM.ite, FrameM.fold, implies_true, and_self, and_true, true_and, FrameM.iff (Blk.invDiscard_frame _ _), FrameM.iff (Blk.ctxRevoke_frame _ _), FrameM.iff (Blk.portDiscard_frame _ _ _ _), FrameM.iff (Blk.waitsAbort_frame _ _), FrameM.iff (Blk.reqsDiscard_frame _ _)]
    | split
    | refine ⟨?_, ?_⟩
    | intro _
    | (with_reducible refine FrameM.foldI (fun _ _ => ?_) ?_)

theorem Blk.benchBegin_frame (b : Blk) (i : Nat) :
    FrameM 0x4f8290038 b (Blk.benchBegin b i) := by
  unfold Blk.benchBegin
  repeat' first
    | simp only [Nat.reduceAnd, FrameM.refl, FrameM.ite, FrameM.fold, implies_true, and_self, and_true, true_and, FrameM.iff (Blk.staleAdd_frame _ _), FrameM.iff (Blk.benchWork_frame _ _)]
    | split
    | refine ⟨?_, ?_⟩
    | intro _
    | (with_reducible refine FrameM.foldI (fun _ _ => ?_) ?_)

theorem Blk.engineBegin_frame (b : Blk) (e : Nat) :
    FrameM 0x4f0090038 b (Blk.engineBegin b e) := by
  unfold Blk.engineBegin
  repeat' first
    | simp only [Nat.reduceAnd, FrameM.refl, FrameM.ite, FrameM.fold, implies_true, and_self, and_true, true_and, FrameM.iff (Blk.invDiscard_frame _ _)]
    | split
    | refine ⟨?_, ?_⟩
    | intro _
    | (with_reducible refine FrameM.foldI (fun _ _ => ?_) ?_)

theorem Blk.recLink_frame (b : Blk) (port : Nat) (up : Bool) :
    FrameM 0x20008 b (Blk.recLink b port up) := by
  unfold Blk.recLink
  repeat' first
    | simp only [Nat.reduceAnd, FrameM.refl, FrameM.ite, FrameM.fold, implies_true, and_self, and_true, true_and, FrameM.iff (Blk.route_frame _ _ _ _ _ _ _)]
    | split
    | refine ⟨?_, ?_⟩
    | intro _
    | (with_reducible refine FrameM.foldI (fun _ _ => ?_) ?_)

theorem Blk.linkFall_frame (b : Blk) (p : Nat) :
    FrameM 0x4882b0038 b (Blk.linkFall b p) := by
  unfold Blk.linkFall
  repeat' first
    | simp only [Nat.reduceAnd, FrameM.refl, FrameM.ite, FrameM.fold, implies_true, and_self, and_true, true_and, FrameM.iff (Blk.setF_frame _ _), FrameM.iff (Blk.setPort_frame _ _ _), FrameM.iff (Blk.recLink_frame _ _ _), FrameM.iff (Blk.wr_frame _ _ _), FrameM.iff (Blk.frameDone_frame _ _ _), FrameM.iff (Blk.inc_frame _ _), FrameM.iff (Blk.frameFree_frame _ _)]
    | split
    | refine ⟨?_, ?_⟩
    | intro _
    | (with_reducible refine FrameM.foldI (fun _ _ => ?_) ?_)

theorem Blk.portBegin_frame (b : Blk) (p : Nat) :
    FrameM 0x4f82b0038 b (Blk.portBegin b p) := by
  unfold Blk.portBegin
  repeat' first
    | simp only [Nat.reduceAnd, FrameM.refl, FrameM.ite, FrameM.fold, implies_true, and_self, and_true, true_and, FrameM.iff (Blk.linkFall_frame _ _), FrameM.iff (Blk.setPort_frame _ _ _), FrameM.iff (Blk.wr_frame _ _ _), FrameM.iff (Blk.invDiscard_frame _ _), FrameM.iff (Blk.reqsDiscard_frame _ _)]
    | split
    | refine ⟨?_, ?_⟩
    | intro _
    | (with_reducible refine FrameM.foldI (fun _ _ => ?_) ?_)

theorem Blk.unitBegin_frame (b : Blk) (kind : Nat) (index : Nat) (byHost : Bool) :
    FrameM 0x4f82b1038 b (Blk.unitBegin b kind index byHost) := by
  unfold Blk.unitBegin
  repeat' first
    | simp only [Nat.reduceAnd, FrameM.refl, FrameM.ite, FrameM.fold, implies_true, and_self, and_true, true_and, FrameM.iff (FrameM.upd_rst _), FrameM.iff (Blk.benchBegin_frame _ _), FrameM.iff (Blk.engineBegin_frame _ _), FrameM.iff (Blk.portBegin_frame _ _)]
    | split
    | refine ⟨?_, ?_⟩
    | intro _
    | (with_reducible refine FrameM.foldI (fun _ _ => ?_) ?_)

theorem Blk.sessFree_frame (b : Blk) (i : Nat) :
    FrameM 0x100000000 b (Blk.sessFree b i) := by
  unfold Blk.sessFree
  repeat' first
    | simp only [Nat.reduceAnd, FrameM.refl, FrameM.ite, FrameM.fold, implies_true, and_self, and_true, true_and, FrameM.iff (FrameM.upd_ptp _)]
    | split
    | refine ⟨?_, ?_⟩
    | intro _
    | (with_reducible refine FrameM.foldI (fun _ _ => ?_) ?_)

theorem Blk.stitcherIsolate_frame (b : Blk) (s : Nat) :
    FrameM 0x4f8290038 b (Blk.stitcherIsolate b s) := by
  unfold Blk.stitcherIsolate
  repeat' first
    | simp only [Nat.reduceAnd, FrameM.refl, FrameM.ite, FrameM.fold, implies_true, and_self, and_true, true_and, FrameM.iff (FrameM.upd_nts _), FrameM.iff (Blk.ctxRevoke_frame _ _), FrameM.iff (Blk.staleAdd_frame _ _)]
    | split
    | refine ⟨?_, ?_⟩
    | intro _
    | (with_reducible refine FrameM.foldI (fun _ _ => ?_) ?_)

theorem Blk.slotParity_frame (b : Blk) (i : Nat) :
    FrameM 0x420008 b (Blk.slotParity b i) := by
  unfold Blk.slotParity
  repeat' first
    | simp only [Nat.reduceAnd, FrameM.refl, FrameM.ite, FrameM.fold, implies_true, and_self, and_true, true_and, FrameM.iff (Blk.recRef_frame _ _ _ _ _), FrameM.iff (Blk.setSlot_frame _ _ _)]
    | split
    | refine ⟨?_, ?_⟩
    | intro _
    | (with_reducible refine FrameM.foldI (fun _ _ => ?_) ?_)

theorem Blk.addF_frame (b : Blk) (f : BF) (n : Nat) :
    FrameM 0x10 b (Blk.addF b f n) := by
  unfold Blk.addF
  repeat' first
    | simp only [Nat.reduceAnd, FrameM.refl, FrameM.ite, FrameM.fold, implies_true, and_self, and_true, true_and, FrameM.iff (Blk.wr_frame _ _ _)]
    | split
    | refine ⟨?_, ?_⟩
    | intro _
    | (with_reducible refine FrameM.foldI (fun _ _ => ?_) ?_)

theorem Blk.setEye_frame (b : Blk) (e : Nat) (x : Eyelet) :
    FrameM 0x4000000 b (Blk.setEye b e x) := by
  unfold Blk.setEye
  repeat' first
    | simp only [Nat.reduceAnd, FrameM.refl, FrameM.ite, FrameM.fold, implies_true, and_self, and_true, true_and, FrameM.iff (FrameM.upd_eyes _)]
    | split
    | refine ⟨?_, ?_⟩
    | intro _
    | (with_reducible refine FrameM.foldI (fun _ _ => ?_) ?_)

theorem Blk.lstParity_frame (b : Blk) (i : Nat) :
    FrameM 0x4882b0028 b (Blk.lstParity b i) := by
  unfold Blk.lstParity
  repeat' first
    | simp only [Nat.reduceAnd, FrameM.refl, FrameM.ite, FrameM.fold, implies_true, and_self, and_true, true_and, FrameM.iff (FrameM.upd_laster _), FrameM.iff (Blk.lstDel_frame _ _), FrameM.iff (Blk.complete_frame _ _ _ _), FrameM.iff (Blk.frameDrop_frame _ _ _ _), FrameM.iff (Blk.setPort_frame _ _ _), FrameM.iff (Blk.record_frame _ _ _ _ _ _ _)]
    | split
    | refine ⟨?_, ?_⟩
    | intro _
    | (with_reducible refine FrameM.foldI (fun _ _ => ?_) ?_)

theorem Blk.timingParity_frame (b : Blk) (item : Nat) :
    FrameM 0x48c6b0038 b (Blk.timingParity b item) := by
  unfold Blk.timingParity
  repeat' first
    | simp only [Nat.reduceAnd, FrameM.refl, FrameM.ite, FrameM.fold, implies_true, and_self, and_true, true_and, FrameM.iff (Blk.slotParity_frame _ _), FrameM.iff (Blk.addF_frame _ _ _), FrameM.iff (Blk.setEye_frame _ _ _), FrameM.iff (Blk.lstParity_frame _ _)]
    | split
    | refine ⟨?_, ?_⟩
    | intro _
    | (with_reducible refine FrameM.foldI (fun _ _ => ?_) ?_)

theorem Blk.stagingParity_frame (b : Blk) (item : Nat) :
    FrameM 0x400090008 b (Blk.stagingParity b item) := by
  unfold Blk.stagingParity
  repeat' first
    | simp only [Nat.reduceAnd, FrameM.refl, FrameM.ite, FrameM.fold, implies_true, and_self, and_true, true_and, FrameM.iff (Blk.complete_frame _ _ _ _)]
    | split
    | refine ⟨?_, ?_⟩
    | intro _
    | (with_reducible refine FrameM.foldI (fun _ _ => ?_) ?_)

theorem Blk.copySend_frame (b : Blk) :
    FrameM 0x200000008 b (Blk.copySend b) := by
  unfold Blk.copySend
  repeat' first
    | simp only [Nat.reduceAnd, FrameM.refl, FrameM.ite, FrameM.fold, implies_true, and_self, and_true, true_and, FrameM.iff (FrameM.upd_twin _), FrameM.iff (Blk.put_frame _ _)]
    | split
    | refine ⟨?_, ?_⟩
    | intro _
    | (with_reducible refine FrameM.foldI (fun _ _ => ?_) ?_)

theorem Blk.recTwin_frame (b : Blk) (event : Nat) (arg : Nat) :
    FrameM 0x20008 b (Blk.recTwin b event arg) := by
  unfold Blk.recTwin
  repeat' first
    | simp only [Nat.reduceAnd, FrameM.refl, FrameM.ite, FrameM.fold, implies_true, and_self, and_true, true_and, FrameM.iff (Blk.route_frame _ _ _ _ _ _ _)]
    | split
    | refine ⟨?_, ?_⟩
    | intro _
    | (with_reducible refine FrameM.foldI (fun _ _ => ?_) ?_)

theorem Blk.mirrorResync_frame (b : Blk) :
    FrameM 0x200020028 b (Blk.mirrorResync b) := by
  unfold Blk.mirrorResync
  repeat' first
    | simp only [Nat.reduceAnd, FrameM.refl, FrameM.ite, FrameM.fold, implies_true, and_self, and_true, true_and, FrameM.iff (FrameM.upd_twin _), FrameM.iff (Blk.copySend_frame _), FrameM.iff (Blk.recTwin_frame _ _ _), FrameM.iff (Blk.inc_frame _ _)]
    | split
    | refine ⟨?_, ?_⟩
    | intro _
    | (with_reducible refine FrameM.foldI (fun _ _ => ?_) ?_)

theorem Blk.bucketWipe_frame (b : Blk) (i : Nat) :
    FrameM 0x20000000 b (Blk.bucketWipe b i) := by
  unfold Blk.bucketWipe
  repeat' first
    | simp only [Nat.reduceAnd, FrameM.refl, FrameM.ite, FrameM.fold, implies_true, and_self, and_true, true_and, FrameM.iff (Blk.setBucket_frame _ _ _)]
    | split
    | refine ⟨?_, ?_⟩
    | intro _
    | (with_reducible refine FrameM.foldI (fun _ _ => ?_) ?_)

theorem Blk.storeParity_frame (b : Blk) (item : Nat) :
    FrameM 0x6982b0028 b (Blk.storeParity b item) := by
  unfold Blk.storeParity
  repeat' first
    | simp only [Nat.reduceAnd, FrameM.refl, FrameM.ite, FrameM.fold, implies_true, and_self, and_true, true_and, FrameM.iff (FrameM.upd_clk _), FrameM.iff (Blk.lstParity_frame _ _), FrameM.iff (Blk.inc_frame _ _), FrameM.iff (Blk.mirrorResync_frame _)]
    | split
    | refine ⟨?_, ?_⟩
    | intro _
    | (with_reducible refine FrameM.foldI (fun _ _ => ?_) ?_)

theorem Blk.recNts_frame (b : Blk) (slot : Nat) (id : Nat) (event : Nat) :
    FrameM 0x20008 b (Blk.recNts b slot id event) := by
  unfold Blk.recNts
  repeat' first
    | simp only [Nat.reduceAnd, FrameM.refl, FrameM.ite, FrameM.fold, implies_true, and_self, and_true, true_and, FrameM.iff (Blk.route_frame _ _ _ _ _ _ _)]
    | split
    | refine ⟨?_, ?_⟩
    | intro _
    | (with_reducible refine FrameM.foldI (fun _ _ => ?_) ?_)

theorem Blk.noSealRecord_frame (old : Blk) (b : Blk) :
    FrameM 0x20008 b (Blk.noSealRecord old b) := by
  unfold Blk.noSealRecord
  repeat' first
    | simp only [Nat.reduceAnd, FrameM.refl, FrameM.ite, FrameM.fold, implies_true, and_self, and_true, true_and, FrameM.iff (Blk.recNts_frame _ _ _ _)]
    | split
    | refine ⟨?_, ?_⟩
    | intro _
    | (with_reducible refine FrameM.foldI (fun _ _ => ?_) ?_)

theorem Blk.setEpoch_frame (b : Blk) (n : Nat) (x : Epoch) :
    FrameM 0x80000000 b (Blk.setEpoch b n x) := by
  unfold Blk.setEpoch
  repeat' first
    | simp only [Nat.reduceAnd, FrameM.refl, FrameM.ite, FrameM.fold, implies_true, and_self, and_true, true_and, FrameM.iff (FrameM.upd_nts _)]
    | split
    | refine ⟨?_, ?_⟩
    | intro _
    | (with_reducible refine FrameM.foldI (fun _ _ => ?_) ?_)

theorem Blk.epochState_frame (b : Blk) (n : Nat) (st : Nat) :
    FrameM 0x80020008 b (Blk.epochState b n st) := by
  unfold Blk.epochState
  repeat' first
    | simp only [Nat.reduceAnd, FrameM.refl, FrameM.ite, FrameM.fold, implies_true, and_self, and_true, true_and, FrameM.iff (Blk.recNts_frame _ _ _ _), FrameM.iff (Blk.setEpoch_frame _ _ _)]
    | split
    | refine ⟨?_, ?_⟩
    | intro _
    | (with_reducible refine FrameM.foldI (fun _ _ => ?_) ?_)

theorem Blk.epochRetire_frame (b : Blk) (n : Nat) :
    FrameM 0x80020008 b (Blk.epochRetire b n) := by
  unfold Blk.epochRetire
  repeat' first
    | simp only [Nat.reduceAnd, FrameM.refl, FrameM.ite, FrameM.fold, implies_true, and_self, and_true, true_and, FrameM.iff (Blk.noSealRecord_frame _ _), FrameM.iff (Blk.epochState_frame _ _ _), FrameM.iff (Blk.setEpoch_frame _ _ _)]
    | split
    | refine ⟨?_, ?_⟩
    | intro _
    | (with_reducible refine FrameM.foldI (fun _ _ => ?_) ?_)

theorem Blk.act393_frame (b : Blk) (code : Nat) (unit : Nat) (detail : Nat) (item : Nat) :
    FrameM 0x7fc6b1038 b (Blk.act393 b code unit detail item) := by
  unfold Blk.act393
  repeat' first
    | simp only [Nat.reduceAnd, FrameM.refl, FrameM.ite, FrameM.fold, implies_true, and_self, and_true, true_and, FrameM.iff (Blk.dataParity_frame _ _), FrameM.iff (Blk.unitBegin_frame _ _ _ _), FrameM.iff (Blk.sessFree_frame _ _), FrameM.iff (Blk.stitcherIsolate_frame _ _), FrameM.iff (Blk.timingParity_frame _ _), FrameM.iff (Blk.stagingParity_frame _ _), FrameM.iff (Blk.mirrorResync_frame _), FrameM.iff (Blk.bucketWipe_frame _ _), FrameM.iff (Blk.storeParity_frame _ _), FrameM.iff (Blk.epochRetire_frame _ _)]
    | split
    | refine ⟨?_, ?_⟩
    | intro _
    | (with_reducible refine FrameM.foldI (fun _ _ => ?_) ?_)

theorem Blk.hold1_frame (b : Blk) (u : Nat) :
    FrameM 0x40000 b (Blk.hold1 b u) := by
  unfold Blk.hold1
  repeat' first
    | simp only [Nat.reduceAnd, FrameM.refl, FrameM.ite, FrameM.fold, implies_true, and_self, and_true, true_and, FrameM.iff (FrameM.upd_err _)]
    | split
    | refine ⟨?_, ?_⟩
    | intro _
    | (with_reducible refine FrameM.foldI (fun _ _ => ?_) ?_)

theorem Blk.orphan_frame (b : Blk) :
    FrameM 0x200020008 b (Blk.orphan b) := by
  unfold Blk.orphan
  repeat' first
    | simp only [Nat.reduceAnd, FrameM.refl, FrameM.ite, FrameM.fold, implies_true, and_self, and_true, true_and, FrameM.iff (FrameM.upd_twin _), FrameM.iff (Blk.recTwin_frame _ _ _)]
    | split
    | refine ⟨?_, ?_⟩
    | intro _
    | (with_reducible refine FrameM.foldI (fun _ _ => ?_) ?_)

theorem Blk.weltLost_frame (b : Blk) :
    FrameM 0x200020038 b (Blk.weltLost b) := by
  unfold Blk.weltLost
  repeat' first
    | simp only [Nat.reduceAnd, FrameM.refl, FrameM.ite, FrameM.fold, implies_true, and_self, and_true, true_and, FrameM.iff (FrameM.upd_twin _), FrameM.iff (Blk.recTwin_frame _ _ _), FrameM.iff (Blk.orphan_frame _), FrameM.iff (Blk.inc_frame _ _), FrameM.iff (Blk.setF_frame _ _)]
    | split
    | refine ⟨?_, ?_⟩
    | intro _
    | (with_reducible refine FrameM.foldI (fun _ _ => ?_) ?_)

theorem Blk.holdUnit_frame (b : Blk) (u : Nat) :
    FrameM 0x6f82f0038 b (Blk.holdUnit b u) := by
  unfold Blk.holdUnit
  repeat' first
    | simp only [Nat.reduceAnd, FrameM.refl, FrameM.ite, FrameM.fold, implies_true, and_self, and_true, true_and, FrameM.iff (Blk.hold1_frame _ _), FrameM.iff (Blk.linkFall_frame _ _), FrameM.iff (Blk.weltLost_frame _), FrameM.iff (Blk.ctxRevoke_frame _ _)]
    | split
    | refine ⟨?_, ?_⟩
    | intro _
    | (with_reducible refine FrameM.foldI (fun _ _ => ?_) ?_)

theorem Blk.storeRestart_frame (b : Blk) :
    FrameM 0x4f0090038 b (Blk.storeRestart b) := by
  unfold Blk.storeRestart
  repeat' first
    | simp only [Nat.reduceAnd, FrameM.refl, FrameM.ite, FrameM.fold, implies_true, and_self, and_true, true_and, FrameM.iff (Blk.invDiscard_frame _ _)]
    | split
    | refine ⟨?_, ?_⟩
    | intro _
    | (with_reducible refine FrameM.foldI (fun _ _ => ?_) ?_)

theorem Blk.itemAct_frame (b : Blk) (code : Nat) (item : Nat) :
    FrameM 0x7bc6b0038 b (Blk.itemAct b code item) := by
  unfold Blk.itemAct
  repeat' first
    | simp only [Nat.reduceAnd, FrameM.refl, FrameM.ite, FrameM.fold, implies_true, and_self, and_true, true_and, FrameM.iff (Blk.sessFree_frame _ _), FrameM.iff (Blk.timingParity_frame _ _), FrameM.iff (Blk.stagingParity_frame _ _), FrameM.iff (Blk.bucketWipe_frame _ _), FrameM.iff (Blk.storeParity_frame _ _)]
    | split
    | refine ⟨?_, ?_⟩
    | intro _
    | (with_reducible refine FrameM.foldI (fun _ _ => ?_) ?_)

theorem Blk.setSes_frame (b : Blk) (f : Nat) (s : Ses) :
    FrameM 0x8000 b (Blk.setSes b f s) := by
  unfold Blk.setSes
  repeat' first
    | simp only [Nat.reduceAnd, FrameM.refl, FrameM.ite, FrameM.fold, implies_true, and_self, and_true, true_and, FrameM.iff (FrameM.upd_ses _)]
    | split
    | refine ⟨?_, ?_⟩
    | intro _
    | (with_reducible refine FrameM.foldI (fun _ _ => ?_) ?_)

theorem Blk.setEvt_frame (b : Blk) (f : Nat) (x : Evt) :
    FrameM 0x20000 b (Blk.setEvt b f x) := by
  unfold Blk.setEvt
  repeat' first
    | simp only [Nat.reduceAnd, FrameM.refl, FrameM.ite, FrameM.fold, implies_true, and_self, and_true, true_and, FrameM.iff (FrameM.upd_evts _)]
    | split
    | refine ⟨?_, ?_⟩
    | intro _
    | (with_reducible refine FrameM.foldI (fun _ _ => ?_) ?_)

theorem Blk.evtStop_frame (b : Blk) (f : Nat) :
    FrameM 0x20010 b (Blk.evtStop b f) := by
  unfold Blk.evtStop
  repeat' first
    | simp only [Nat.reduceAnd, FrameM.refl, FrameM.ite, FrameM.fold, implies_true, and_self, and_true, true_and, FrameM.iff (Blk.setEvt_frame _ _ _), FrameM.iff (Blk.wr_frame _ _ _)]
    | split
    | refine ⟨?_, ?_⟩
    | intro _
    | (with_reducible refine FrameM.foldI (fun _ _ => ?_) ?_)

theorem Blk.setRing_frame (b : Blk) (r : Nat) (x : Ring) :
    FrameM 0x10000 b (Blk.setRing b r x) := by
  unfold Blk.setRing
  repeat' first
    | simp only [Nat.reduceAnd, FrameM.refl, FrameM.ite, FrameM.fold, implies_true, and_self, and_true, true_and, FrameM.iff (FrameM.upd_rings _)]
    | split
    | refine ⟨?_, ?_⟩
    | intro _
    | (with_reducible refine FrameM.foldI (fun _ _ => ?_) ?_)

theorem Blk.excSpill_frame (b : Blk) (r : Nat) :
    FrameM 0x10000000 b (Blk.excSpill b r) := by
  unfold Blk.excSpill
  repeat' first
    | simp only [Nat.reduceAnd, FrameM.refl, FrameM.ite, FrameM.fold, implies_true, and_self, and_true, true_and, FrameM.iff (FrameM.upd_clk _)]
    | split
    | refine ⟨?_, ?_⟩
    | intro _
    | (with_reducible refine FrameM.foldI (fun _ _ => ?_) ?_)

theorem Blk.ringStop_frame (b : Blk) (r : Nat) :
    FrameM 0x430010010 b (Blk.ringStop b r) := by
  unfold Blk.ringStop
  repeat' first
    | simp only [Nat.reduceAnd, FrameM.refl, FrameM.ite, FrameM.fold, implies_true, and_self, and_true, true_and, FrameM.iff (Blk.excSpill_frame _ _), FrameM.iff (FrameM.upd_ct_flow _), FrameM.iff (Blk.setRing_frame _ _ _), FrameM.iff (Blk.wr_frame _ _ _)]
    | split
    | refine ⟨?_, ?_⟩
    | intro _
    | (with_reducible refine FrameM.foldI (fun _ _ => ?_) ?_)

theorem Blk.draw_frame (b : Blk) (n : Nat) :
    FrameM 0x4 b (Blk.draw b n) := by
  unfold Blk.draw
  repeat' first
    | simp only [Nat.reduceAnd, FrameM.refl, FrameM.ite, FrameM.fold, implies_true, and_self, and_true, true_and, FrameM.iff (FrameM.upd_freeCtr _)]
    | split
    | refine ⟨?_, ?_⟩
    | intro _
    | (with_reducible refine FrameM.foldI (fun _ _ => ?_) ?_)

theorem Blk.newChal_frame (b : Blk) (f : Nat) :
    FrameM 0x8004 b (Blk.newChal b f) := by
  unfold Blk.newChal
  repeat' first
    | simp only [Nat.reduceAnd, FrameM.refl, FrameM.ite, FrameM.fold, implies_true, and_self, and_true, true_and, FrameM.iff (Blk.draw_frame _ _), FrameM.iff (Blk.setSes_frame _ _ _)]
    | split
    | refine ⟨?_, ?_⟩
    | intro _
    | (with_reducible refine FrameM.foldI (fun _ _ => ?_) ?_)

theorem Blk.sesClose_frame (b : Blk) (f : Nat) (cause : Nat) :
    FrameM 0x430038014 b (Blk.sesClose b f cause) := by
  unfold Blk.sesClose
  repeat' first
    | simp only [Nat.reduceAnd, FrameM.refl, FrameM.ite, FrameM.fold, implies_true, and_self, and_true, true_and, FrameM.iff (Blk.setSes_frame _ _ _), FrameM.iff (Blk.evtStop_frame _ _), FrameM.iff (Blk.ringStop_frame _ _), FrameM.iff (Blk.newChal_frame _ _)]
    | split
    | refine ⟨?_, ?_⟩
    | intro _
    | (with_reducible refine FrameM.foldI (fun _ _ => ?_) ?_)

theorem Blk.regsBack_frame (b : Blk) (p : Nat → Bool) :
    FrameM 0x10 b (Blk.regsBack b p) := by
  unfold Blk.regsBack
  repeat' first
    | simp only [Nat.reduceAnd, FrameM.refl, FrameM.ite, FrameM.fold, implies_true, and_self, and_true, true_and, FrameM.iff (FrameM.upd_regs _)]
    | split
    | refine ⟨?_, ?_⟩
    | intro _
    | (with_reducible refine FrameM.foldI (fun _ _ => ?_) ?_)

theorem Blk.hostReset_frame (b : Blk) (f : Nat) (cause : Nat) :
    FrameM 0x430038014 b (Blk.hostReset b f cause) := by
  unfold Blk.hostReset
  repeat' first
    | simp only [Nat.reduceAnd, FrameM.refl, FrameM.ite, FrameM.fold, implies_true, and_self, and_true, true_and, FrameM.iff (Blk.sesClose_frame _ _ _), FrameM.iff (Blk.newChal_frame _ _), FrameM.iff (Blk.evtStop_frame _ _), FrameM.iff (Blk.ringStop_frame _ _), FrameM.iff (Blk.setRing_frame _ _ _), FrameM.iff (Blk.setEvt_frame _ _ _), FrameM.iff (Blk.setSes_frame _ _ _), FrameM.iff (Blk.regsBack_frame _ _)]
    | split
    | refine ⟨?_, ?_⟩
    | intro _
    | (with_reducible refine FrameM.foldI (fun _ _ => ?_) ?_)

theorem Blk.hostBlockReset_frame (b : Blk) :
    FrameM 0x430038014 b (Blk.hostBlockReset b) := by
  unfold Blk.hostBlockReset
  repeat' first
    | simp only [Nat.reduceAnd, FrameM.refl, FrameM.ite, FrameM.fold, implies_true, and_self, and_true, true_and, FrameM.iff (Blk.hostReset_frame _ _ _)]
    | split
    | refine ⟨?_, ?_⟩
    | intro _
    | (with_reducible refine FrameM.foldI (fun _ _ => ?_) ?_)

theorem Blk.act394_frame (b : Blk) (cls : Nat) (code : Nat) (unit : Nat) (detail : Nat) (item : Nat) :
    FrameM 0x7fc6fb03c b (Blk.act394 b cls code unit detail item) := by
  unfold Blk.act394
  repeat' first
    | simp only [Nat.reduceAnd, FrameM.refl, FrameM.ite, FrameM.fold, implies_true, and_self, and_true, true_and, FrameM.iff (FrameM.upd_boot _), FrameM.iff (FrameM.upd_ptp _), FrameM.iff (Blk.unitBegin_frame _ _ _ _), FrameM.iff (Blk.holdUnit_frame _ _), FrameM.iff (Blk.stitcherIsolate_frame _ _), FrameM.iff (Blk.reqsDiscard_frame _ _), FrameM.iff (Blk.storeRestart_frame _), FrameM.iff (Blk.itemAct_frame _ _ _), FrameM.iff (Blk.hostBlockReset_frame _), FrameM.iff (Blk.mirrorResync_frame _), FrameM.iff (Blk.epochRetire_frame _ _)]
    | split
    | refine ⟨?_, ?_⟩
    | intro _
    | (with_reducible refine FrameM.foldI (fun _ _ => ?_) ?_)

theorem Blk.admit_frame (b : Blk) (x : RxF) (svc : Nat) (kind : Option Nat) :
    FrameM 0x10000020 b (Blk.admitFrame b x svc kind) := by
  unfold Blk.admitFrame
  repeat' first
    | simp only [Nat.reduceAnd, FrameM.refl, FrameM.ite, FrameM.fold, implies_true, and_self, and_true, true_and, FrameM.iff (FrameM.upd_clk _), FrameM.iff (Blk.inc_frame _ _)]
    | split
    | refine ⟨?_, ?_⟩
    | intro _
    | (with_reducible refine FrameM.foldI (fun _ _ => ?_) ?_)

theorem Blk.pairPut_frame (b : Blk) (a : Nat) (isStart : Bool) (t : Int) (seq : Nat) :
    FrameM 0x4000000 b (Blk.pairPut b a isStart t seq) := by
  unfold Blk.pairPut
  repeat' first
    | simp only [Nat.reduceAnd, FrameM.refl, FrameM.ite, FrameM.fold, implies_true, and_self, and_true, true_and, FrameM.iff (Blk.setEye_frame _ _ _)]
    | split
    | refine ⟨?_, ?_⟩
    | intro _
    | (with_reducible refine FrameM.foldI (fun _ _ => ?_) ?_)

theorem Blk.pairEdge_frame (b : Blk) (e : Nat) (act : Bool) (t : Int) (seq : Nat) :
    FrameM 0x4000000 b (Blk.pairEdge b e act t seq) := by
  unfold Blk.pairEdge
  repeat' first
    | simp only [Nat.reduceAnd, FrameM.refl, FrameM.ite, FrameM.fold, implies_true, and_self, and_true, true_and, FrameM.iff (Blk.pairPut_frame _ _ _ _ _)]
    | split
    | refine ⟨?_, ?_⟩
    | intro _
    | (with_reducible refine FrameM.foldI (fun _ _ => ?_) ?_)

theorem Blk.awlLost_frame (b : Blk) (e : Nat) :
    FrameM 0x4000010 b (Blk.awlLost b e) := by
  unfold Blk.awlLost
  repeat' first
    | simp only [Nat.reduceAnd, FrameM.refl, FrameM.ite, FrameM.fold, implies_true, and_self, and_true, true_and, FrameM.iff (Blk.addF_frame _ _ _), FrameM.iff (Blk.setEye_frame _ _ _)]
    | split
    | refine ⟨?_, ?_⟩
    | intro _
    | (with_reducible refine FrameM.foldI (fun _ _ => ?_) ?_)

theorem Blk.awlPush_frame (b : Blk) (e : Nat) (status : Bool) (r : PinRec) :
    FrameM 0x4000010 b (Blk.awlPush b e status r) := by
  unfold Blk.awlPush
  repeat' first
    | simp only [Nat.reduceAnd, FrameM.refl, FrameM.ite, FrameM.fold, implies_true, and_self, and_true, true_and, FrameM.iff (Blk.setEye_frame _ _ _), FrameM.iff (Blk.awlLost_frame _ _)]
    | split
    | refine ⟨?_, ?_⟩
    | intro _
    | (with_reducible refine FrameM.foldI (fun _ _ => ?_) ?_)

theorem Blk.awlRec_frame (b : Blk) (e : Nat) (ty : Nat) (chan : Nat) (flags : Nat) (t : Int) (u : Nat) (tail : Bytes) :
    FrameM 0x4000010 b (Blk.awlRec b e ty chan flags t u tail) := by
  unfold Blk.awlRec
  repeat' first
    | simp only [Nat.reduceAnd, FrameM.refl, FrameM.ite, FrameM.fold, implies_true, and_self, and_true, true_and, FrameM.iff (Blk.awlPush_frame _ _ _ _)]
    | split
    | refine ⟨?_, ?_⟩
    | intro _
    | (with_reducible refine FrameM.foldI (fun _ _ => ?_) ?_)

theorem Blk.gateFresh_frame (b : Blk) (c : Nat) (t : Nat) :
    FrameM 0x4000000 b (Blk.gateFresh b c t) := by
  unfold Blk.gateFresh
  repeat' first
    | simp only [Nat.reduceAnd, FrameM.refl, FrameM.ite, FrameM.fold, implies_true, and_self, and_true, true_and, FrameM.iff (Blk.setEye_frame _ _ _)]
    | split
    | refine ⟨?_, ?_⟩
    | intro _
    | (with_reducible refine FrameM.foldI (fun _ _ => ?_) ?_)

theorem Blk.gateEnd_frame (b : Blk) (c : Nat) :
    FrameM 0x4000010 b (Blk.gateEnd b c) := by
  unfold Blk.gateEnd
  repeat' first
    | simp only [Nat.reduceAnd, FrameM.refl, FrameM.ite, FrameM.fold, implies_true, and_self, and_true, true_and, FrameM.iff (Blk.awlRec_frame _ _ _ _ _ _ _ _), FrameM.iff (Blk.gateFresh_frame _ _ _)]
    | split
    | refine ⟨?_, ?_⟩
    | intro _
    | (with_reducible refine FrameM.foldI (fun _ _ => ?_) ?_)

theorem Blk.gateAdd_frame (b : Blk) (c : Nat) (t : Int) (idx : Nat) :
    FrameM 0x4000010 b (Blk.gateAdd b c t idx) := by
  unfold Blk.gateAdd
  repeat' first
    | simp only [Nat.reduceAnd, FrameM.refl, FrameM.ite, FrameM.fold, implies_true, and_self, and_true, true_and, FrameM.iff (Blk.gateEnd_frame _ _), FrameM.iff (Blk.setEye_frame _ _ _)]
    | split
    | refine ⟨?_, ?_⟩
    | intro _
    | (with_reducible refine FrameM.foldI (fun _ _ => ?_) ?_)

theorem Blk.lateCount_frame (b : Blk) (policy : Nat) (n : Nat) :
    FrameM 0x200000 b (Blk.lateCount b policy n) := by
  unfold Blk.lateCount
  repeat' first
    | simp only [Nat.reduceAnd, FrameM.refl, FrameM.ite, FrameM.fold, implies_true, and_self, and_true, true_and, FrameM.iff (FrameM.upd_laster _)]
    | split
    | refine ⟨?_, ?_⟩
    | intro _
    | (with_reducible refine FrameM.foldI (fun _ _ => ?_) ?_)

theorem Blk.setOut_frame (b : Blk) (u : Nat) (x : OutUnit) :
    FrameM 0x2000000 b (Blk.setOut b u x) := by
  unfold Blk.setOut
  repeat' first
    | simp only [Nat.reduceAnd, FrameM.refl, FrameM.ite, FrameM.fold, implies_true, and_self, and_true, true_and, FrameM.iff (FrameM.upd_outs _)]
    | split
    | refine ⟨?_, ?_⟩
    | intro _
    | (with_reducible refine FrameM.foldI (fun _ _ => ?_) ?_)

theorem Blk.cycUnits_frame (b : Blk) (e : Nat) (t : Int) (pEst : Int) (lost : Bool) :
    FrameM 0x2200000 b (Blk.cycUnits b e t pEst lost) := by
  unfold Blk.cycUnits
  repeat' first
    | simp only [Nat.reduceAnd, FrameM.refl, FrameM.ite, FrameM.fold, implies_true, and_self, and_true, true_and, FrameM.iff (Blk.lateCount_frame _ _ _), FrameM.iff (Blk.setOut_frame _ _ _)]
    | split
    | refine ⟨?_, ?_⟩
    | intro _
    | (with_reducible refine FrameM.foldI (fun _ _ => ?_) ?_)

theorem Blk.lstNextOcc_frame (b : Blk) (i : Nat) (e : LEntry) (k : Nat) :
    FrameM 0x200000 b (Blk.lstNextOcc b i e k) := by
  unfold Blk.lstNextOcc
  repeat' first
    | simp only [Nat.reduceAnd, FrameM.refl, FrameM.ite, FrameM.fold, implies_true, and_self, and_true, true_and, FrameM.iff (FrameM.upd_laster _), FrameM.iff (Blk.lstDel_frame _ _)]
    | split
    | refine ⟨?_, ?_⟩
    | intro _
    | (with_reducible refine FrameM.foldI (fun _ _ => ?_) ?_)

theorem Blk.launchMiss_frame (b : Blk) (p : Nat) (code : Nat) :
    FrameM 0x8000020 b (Blk.launchMiss b p code) := by
  unfold Blk.launchMiss
  repeat' first
    | simp only [Nat.reduceAnd, FrameM.refl, FrameM.ite, FrameM.fold, implies_true, and_self, and_true, true_and, FrameM.iff (Blk.inc_frame _ _), FrameM.iff (Blk.setPort_frame _ _ _)]
    | split
    | refine ⟨?_, ?_⟩
    | intro _
    | (with_reducible refine FrameM.foldI (fun _ _ => ?_) ?_)

theorem Blk.setCtx_frame (b : Blk) (k : Nat) (c : Ctx) :
    FrameM 0x80000000 b (Blk.setCtx b k c) := by
  unfold Blk.setCtx
  repeat' first
    | simp only [Nat.reduceAnd, FrameM.refl, FrameM.ite, FrameM.fold, implies_true, and_self, and_true, true_and, FrameM.iff (FrameM.upd_nts _)]
    | split
    | refine ⟨?_, ?_⟩
    | intro _
    | (with_reducible refine FrameM.foldI (fun _ _ => ?_) ?_)

theorem Blk.ctxMiss_frame (b : Blk) (k : Nat) (eg : Nat) (reason : Nat) :
    FrameM 0x480000020 b (Blk.ctxMiss b k eg reason) := by
  unfold Blk.ctxMiss
  repeat' first
    | simp only [Nat.reduceAnd, FrameM.refl, FrameM.ite, FrameM.fold, implies_true, and_self, and_true, true_and, FrameM.iff (Blk.inc_frame _ _), FrameM.iff (Blk.setCtx_frame _ _ _), FrameM.iff (Blk.sealDrop_frame _), FrameM.iff (Blk.ctxFree_frame _ _)]
    | split
    | refine ⟨?_, ?_⟩
    | intro _
    | (with_reducible refine FrameM.foldI (fun _ _ => ?_) ?_)

theorem Blk.sealMiss_frame (b : Blk) (f : TxF) (reason : Nat) :
    FrameM 0x480200020 b (Blk.sealMiss b f reason) := by
  unfold Blk.sealMiss
  repeat' first
    | simp only [Nat.reduceAnd, FrameM.refl, FrameM.ite, FrameM.fold, implies_true, and_self, and_true, true_and, FrameM.iff (Blk.ctxMiss_frame _ _ _ _), FrameM.iff (Blk.lstDelOpt_frame _ _)]
    | split
    | refine ⟨?_, ?_⟩
    | intro _
    | (with_reducible refine FrameM.foldI (fun _ _ => ?_) ?_)

theorem Blk.txDone_frame (b : Blk) (f : TxF) (status : Nat) (result : Bytes) :
    FrameM 0x400000000 b (Blk.txDone b f status result) := by
  unfold Blk.txDone
  repeat' first
    | simp only [Nat.reduceAnd, FrameM.refl, FrameM.ite, FrameM.fold, implies_true, and_self, and_true, true_and, FrameM.iff (FrameM.upd_flow _)]
    | split
    | refine ⟨?_, ?_⟩
    | intro _
    | (with_reducible refine FrameM.foldI (fun _ _ => ?_) ?_)

theorem Blk.hostMiss_frame (b : Blk) (f : TxF) :
    FrameM 0x408200000 b (Blk.hostMiss b f) := by
  unfold Blk.hostMiss
  repeat' first
    | simp only [Nat.reduceAnd, FrameM.refl, FrameM.ite, FrameM.fold, implies_true, and_self, and_true, true_and, FrameM.iff (Blk.lstDelOpt_frame _ _), FrameM.iff (Blk.txDone_frame _ _ _ _), FrameM.iff (Blk.egFree_frame _ _ _), FrameM.iff (Blk.setPort_frame _ _ _)]
    | split
    | refine ⟨?_, ?_⟩
    | intro _
    | (with_reducible refine FrameM.foldI (fun _ _ => ?_) ?_)

theorem Blk.launchFail_frame (b : Blk) (f : TxF) (code : Nat) :
    FrameM 0x488200020 b (Blk.launchFail b f code) := by
  unfold Blk.launchFail
  repeat' first
    | simp only [Nat.reduceAnd, FrameM.refl, FrameM.ite, FrameM.fold, implies_true, and_self, and_true, true_and, FrameM.iff (Blk.setPort_frame _ _ _), FrameM.iff (Blk.launchMiss_frame _ _ _), FrameM.iff (Blk.sealMiss_frame _ _ _), FrameM.iff (Blk.hostMiss_frame _ _)]
    | split
    | refine ⟨?_, ?_⟩
    | intro _
    | (with_reducible refine FrameM.foldI (fun _ _ => ?_) ?_)

theorem Blk.commitFrame_frame (b : Blk) (f : TxF) (L : Nat) :
    FrameM 0x20 b (Blk.commitFrame b f L).2 := by
  unfold Blk.commitFrame
  repeat' first
    | simp only [Nat.reduceAnd, snd_ite, fst_ite, FrameM.refl, FrameM.ite, FrameM.fold, implies_true, and_self, and_true, true_and, FrameM.iff (Blk.inc_frame _ _)]
    | split
    | refine ⟨?_, ?_⟩
    | intro _
    | (with_reducible refine FrameM.foldI (fun _ _ => ?_) ?_)

theorem Blk.frameLeft_frame (b : Blk) (f : TxF) (L : Nat) :
    FrameM 0x500000020 b (Blk.frameLeft b f L) := by
  unfold Blk.frameLeft
  repeat' first
    | simp only [Nat.reduceAnd, FrameM.refl, FrameM.ite, FrameM.fold, implies_true, and_self, and_true, true_and, FrameM.iff (FrameM.upd_ptp _), FrameM.iff (Blk.setClient_frame _ _ _), FrameM.iff (Blk.inc_frame _ _), FrameM.iff (Blk.txDone_frame _ _ _ _)]
    | split
    | refine ⟨?_, ?_⟩
    | intro _
    | (with_reducible refine FrameM.foldI (fun _ _ => ?_) ?_)

theorem Blk.startBody_frame (b : Blk) (f : TxF) (L : Nat) :
    FrameM 0x588280028 b (Blk.startBody b f L) := by
  unfold Blk.startBody
  repeat' first
    | simp only [Nat.reduceAnd, FrameM.refl, FrameM.ite, FrameM.fold, implies_true, and_self, and_true, true_and, FrameM.iff (Blk.commitFrame_frame _ _ _), FrameM.iff (Blk.frameFree_frame _ _), FrameM.iff (Blk.setPort_frame _ _ _), FrameM.iff (Blk.pmcEvent_frame _ _ _ _), FrameM.iff (Blk.incN_frame _ _ _), FrameM.iff (Blk.inc_frame _ _), FrameM.iff (Blk.frameLeft_frame _ _ _), FrameM.iff (Blk.put_frame _ _)]
    | split
    | refine ⟨?_, ?_⟩
    | intro _
    | (with_reducible refine FrameM.foldI (fun _ _ => ?_) ?_)

theorem Blk.startAt_frame (b : Blk) (f : TxF) (L : Nat) :
    FrameM 0x588280028 b (Blk.startAt b f L) := by
  unfold Blk.startAt
  repeat' first
    | simp only [Nat.reduceAnd, FrameM.refl, FrameM.ite, FrameM.fold, implies_true, and_self, and_true, true_and, FrameM.iff (Blk.startBody_frame _ _ _), FrameM.iff (Blk.pmcEvent_frame _ _ _ _)]
    | split
    | refine ⟨?_, ?_⟩
    | intro _
    | (with_reducible refine FrameM.foldI (fun _ _ => ?_) ?_)

theorem Blk.launchRun_frame (b : Blk) (f : TxF) (target : Nat) :
    FrameM 0x588280028 b (Blk.launchRun b f target) := by
  unfold Blk.launchRun
  repeat' first
    | simp only [Nat.reduceAnd, FrameM.refl, FrameM.ite, FrameM.fold, implies_true, and_self, and_true, true_and, FrameM.iff (Blk.launchFail_frame _ _ _), FrameM.iff (Blk.setPort_frame _ _ _), FrameM.iff (Blk.inc_frame _ _), FrameM.iff (Blk.startAt_frame _ _ _)]
    | split
    | refine ⟨?_, ?_⟩
    | intro _
    | (with_reducible refine FrameM.foldI (fun _ _ => ?_) ?_)

theorem Blk.gateRecheck_frame (b : Blk) (p : Nat) :
    FrameM 0x488200020 b (Blk.gateRecheck b p) := by
  unfold Blk.gateRecheck
  repeat' first
    | simp only [Nat.reduceAnd, FrameM.refl, FrameM.ite, FrameM.fold, implies_true, and_self, and_true, true_and, FrameM.iff (Blk.launchFail_frame _ _ _)]
    | split
    | refine ⟨?_, ?_⟩
    | intro _
    | (with_reducible refine FrameM.foldI (fun _ _ => ?_) ?_)

theorem Blk.gateTake_frame (b : Blk) (p : Nat) :
    FrameM 0x488200020 b (Blk.gateTake b p) := by
  unfold Blk.gateTake
  repeat' first
    | simp only [Nat.reduceAnd, FrameM.refl, FrameM.ite, FrameM.fold, implies_true, and_self, and_true, true_and, FrameM.iff (Blk.gateRecheck_frame _ _), FrameM.iff (Blk.setPort_frame _ _ _)]
    | split
    | refine ⟨?_, ?_⟩
    | intro _
    | (with_reducible refine FrameM.foldI (fun _ _ => ?_) ?_)

theorem Blk.setGate_frame (b : Blk) (u : Nat) (on : Bool) :
    FrameM 0x2000000 b (Blk.setGate b u on).1 := by
  unfold Blk.setGate
  repeat' first
    | simp only [Nat.reduceAnd, snd_ite, fst_ite, FrameM.refl, FrameM.ite, FrameM.fold, implies_true, and_self, and_true, true_and, FrameM.iff (Blk.setOut_frame _ _ _)]
    | split
    | refine ⟨?_, ?_⟩
    | intro _
    | (with_reducible refine FrameM.foldI (fun _ _ => ?_) ?_)

theorem Blk.setWindow_frame (b : Blk) (e : Nat) (on : Bool) :
    FrameM 0x4000000 b (Blk.setWindow b e on).1 := by
  unfold Blk.setWindow
  repeat' first
    | simp only [Nat.reduceAnd, snd_ite, fst_ite, FrameM.refl, FrameM.ite, FrameM.fold, implies_true, and_self, and_true, true_and, FrameM.iff (Blk.setEye_frame _ _ _)]
    | split
    | refine ⟨?_, ?_⟩
    | intro _
    | (with_reducible refine FrameM.foldI (fun _ _ => ?_) ?_)

theorem Blk.correctAs_frame (stp : Int → Blk → Blk) (hs : ∀ (d : Int) (c : Blk), FrameM 0x7fe7fbfbc c (stp d c)) (b : Blk) (sum : Int) (steps : Bool) :
    FrameM 0x7fe7fbfbc b (Blk.correctAs stp b sum steps).1 := by
  unfold Blk.correctAs
  repeat' first
    | simp only [Nat.reduceAnd, snd_ite, fst_ite, FrameM.refl, FrameM.ite, FrameM.fold, implies_true, and_self, and_true, true_and, FrameM.iff (hs _ _), FrameM.iff (FrameM.upd_ins _)]
    | split
    | refine ⟨?_, ?_⟩
    | intro _
    | (with_reducible refine FrameM.foldI (fun _ _ => ?_) ?_)

theorem Blk.correct_frame (stp : Int → Blk → Blk) (hs : ∀ (d : Int) (c : Blk), FrameM 0x7fe7fbfbc c (stp d c)) (b : Blk) (d : Int) :
    FrameM 0x7fe7fbfbc b (Blk.correct stp b d).1 := Blk.correctAs_frame stp hs b _ _

theorem Blk.firstAligns_frame (b : Blk) :
    FrameM 0x2000000 b (Blk.firstAligns b) := by
  unfold Blk.firstAligns
  repeat' first
    | simp only [Nat.reduceAnd, snd_ite, fst_ite, FrameM.refl, FrameM.ite, FrameM.fold, implies_true, and_self, and_true, true_and, FrameM.iff (Blk.setOut_frame _ _ _)]
    | split
    | refine ⟨?_, ?_⟩
    | intro _
    | (with_reducible refine FrameM.foldI (fun _ _ => ?_) ?_)

theorem Blk.markValid_frame (b : Blk) :
    FrameM 0x100000 b (Blk.markValid b) := FrameM.upd_ins _

theorem Blk.validWith_frame (f : Blk → Blk) (hf : ∀ c : Blk, FrameM 0x7fe7fbfbc c (f c)) (b : Blk) :
    FrameM 0x7fe7fbfbc b (Blk.validWith f b) := by
  unfold Blk.validWith
  repeat' first
    | simp only [Nat.reduceAnd, snd_ite, fst_ite, FrameM.refl, FrameM.ite, FrameM.fold, implies_true, and_self, and_true, true_and, FrameM.iff (hf _), FrameM.iff (Blk.markValid_frame _), FrameM.iff (Blk.firstAligns_frame _)]
    | split
    | refine ⟨?_, ?_⟩
    | intro _
    | (with_reducible refine FrameM.foldI (fun _ _ => ?_) ?_)

theorem Blk.adjustTo_frame (stp : Int → Blk → Blk) (hs : ∀ (d : Int) (c : Blk), FrameM 0x7fe7fbfbc c (stp d c)) (b : Blk) (ref : DRef) (d : Int) (status : Nat) :
    FrameM 0x7fe7fbfbc b (Blk.adjustTo stp b ref d status) := by
  unfold Blk.adjustTo
  repeat' first
    | simp only [Nat.reduceAnd, snd_ite, fst_ite, FrameM.refl, FrameM.ite, FrameM.fold, implies_true, and_self, and_true, true_and, FrameM.iff (Blk.complete_frame _ _ _ _), FrameM.iff (Blk.validWith_frame _ (hs d) _)]
    | split
    | refine ⟨?_, ?_⟩
    | intro _
    | (with_reducible refine FrameM.foldI (fun _ _ => ?_) ?_)

theorem Blk.adjustRun_frame (stp : Int → Blk → Blk) (hs : ∀ (d : Int) (c : Blk), FrameM 0x7fe7fbfbc c (stp d c)) (b : Blk) (ref : DRef) (kind : Nat) (value : Int) (status : Nat) :
    FrameM 0x7fe7fbfbc b (Blk.adjustRun stp b ref kind value status) := by
  have h1 := Blk.correct_frame stp hs b value
  unfold Blk.adjustRun
  split
  · simp only [Nat.reduceAnd, snd_ite, fst_ite, FrameM.refl, FrameM.ite, FrameM.fold, implies_true, and_self, and_true, true_and, FrameM.iff (hs _ _), FrameM.iff (FrameM.upd_ins _), FrameM.iff (Blk.complete_frame _ _ _ _), FrameM.iff (Blk.correct_frame _ hs _ _), FrameM.iff (Blk.adjustTo_frame _ hs _ _ _ _)]
  · match kind with
    | 0 => simp only [Nat.reduceAnd, snd_ite, fst_ite, FrameM.refl, FrameM.ite, FrameM.fold, implies_true, and_self, and_true, true_and, FrameM.iff (hs _ _), FrameM.iff (FrameM.upd_ins _), FrameM.iff (Blk.complete_frame _ _ _ _), FrameM.iff (Blk.correct_frame _ hs _ _), FrameM.iff (Blk.adjustTo_frame _ hs _ _ _ _)]
    | 1 =>
      simp only [Nat.reduceAnd, FrameM.iff (Blk.complete_frame _ _ _ _)]
      exact h1
    | 2 => simp only [Nat.reduceAnd, snd_ite, fst_ite, FrameM.refl, FrameM.ite, FrameM.fold, implies_true, and_self, and_true, true_and, FrameM.iff (hs _ _), FrameM.iff (FrameM.upd_ins _), FrameM.iff (Blk.complete_frame _ _ _ _), FrameM.iff (Blk.correct_frame _ hs _ _), FrameM.iff (Blk.adjustTo_frame _ hs _ _ _ _)]
    | n + 3 => simp only [Nat.reduceAnd, snd_ite, fst_ite, FrameM.refl, FrameM.ite, FrameM.fold, implies_true, and_self, and_true, true_and, FrameM.iff (hs _ _), FrameM.iff (FrameM.upd_ins _), FrameM.iff (Blk.complete_frame _ _ _ _), FrameM.iff (Blk.correct_frame _ hs _ _), FrameM.iff (Blk.adjustTo_frame _ hs _ _ _ _)]

theorem Blk.act_frame (stp : Int → Blk → Blk) (hs : ∀ (d : Int) (c : Blk), FrameM 0x7fe7fbfbc c (stp d c)) (b : Blk) (e : LEntry) (late : Bool) (empty : Bool) :
    FrameM 0x7fe7fbfbc b (Blk.act stp b e late empty).1 := by
  unfold Blk.act
  repeat' first
    | simp only [Nat.reduceAnd, snd_ite, fst_ite, FrameM.refl, FrameM.ite, FrameM.fold, implies_true, and_self, and_true, true_and, FrameM.iff (hs _ _), FrameM.iff (Blk.launchFail_frame _ _ _), FrameM.iff (Blk.launchRun_frame _ _ _), FrameM.iff (Blk.gateTake_frame _ _), FrameM.iff (Blk.setGate_frame _ _ _), FrameM.iff (Blk.setWindow_frame _ _ _), FrameM.iff (Blk.adjustRun_frame _ hs _ _ _ _ _)]
    | split
    | refine ⟨?_, ?_⟩
    | intro _
    | (with_reducible refine FrameM.foldI (fun _ _ => ?_) ?_)

theorem Blk.lstNop_frame (b : Blk) (nop : Bool) :
    FrameM 0x200000 b (Blk.lstNop b nop) := by
  unfold Blk.lstNop
  repeat' first
    | simp only [Nat.reduceAnd, FrameM.refl, FrameM.ite, FrameM.fold, implies_true, and_self, and_true, true_and, FrameM.iff (FrameM.upd_laster _)]
    | split
    | refine ⟨?_, ?_⟩
    | intro _
    | (with_reducible refine FrameM.foldI (fun _ _ => ?_) ?_)

theorem Blk.lstRecord_frame (b : Blk) (i : Nat) (e : LEntry) (what : Nat) (late : Bool) (empty : Bool) (nop : Bool) (t : Int) (target : Int) :
    FrameM 0x20008 b (Blk.lstRecord b i e what late empty nop t target) := by
  unfold Blk.lstRecord
  repeat' first
    | simp only [Nat.reduceAnd, FrameM.refl, FrameM.ite, FrameM.fold, implies_true, and_self, and_true, true_and, FrameM.iff (Blk.record_frame _ _ _ _ _ _ _)]
    | split
    | refine ⟨?_, ?_⟩
    | intro _
    | (with_reducible refine FrameM.foldI (fun _ _ => ?_) ?_)

theorem Blk.runEntry_frame (stp : Int → Blk → Blk) (hs : ∀ (d : Int) (c : Blk), FrameM 0x7fe7fbfbc c (stp d c)) (b : Blk) (i : Nat) (e : LEntry) (k : Nat) (late : Bool) :
    FrameM 0x7fe7fbfbc b (Blk.runEntry stp b i e k late) := by
  unfold Blk.runEntry
  repeat' first
    | simp only [Nat.reduceAnd, snd_ite, fst_ite, FrameM.refl, FrameM.ite, FrameM.fold, implies_true, and_self, and_true, true_and, FrameM.iff (hs _ _), FrameM.iff (Blk.pmcEvent_frame _ _ _ _), FrameM.iff (Blk.lstNextOcc_frame _ _ _ _), FrameM.iff (Blk.act_frame _ hs _ _ _ _), FrameM.iff (Blk.lstNop_frame _ _), FrameM.iff (Blk.lstRecord_frame _ _ _ _ _ _ _ _ _)]
    | split
    | refine ⟨?_, ?_⟩
    | intro _
    | (with_reducible refine FrameM.foldI (fun _ _ => ?_) ?_)

theorem Blk.lateEntry_frame (stp : Int → Blk → Blk) (hs : ∀ (d : Int) (c : Blk), FrameM 0x7fe7fbfbc c (stp d c)) (b : Blk) (i : Nat) (e : LEntry) (lim : Int) :
    FrameM 0x7fe7fbfbc b (Blk.lateEntry stp b i e lim) := by
  unfold Blk.lateEntry
  repeat' first
    | simp only [Nat.reduceAnd, snd_ite, fst_ite, FrameM.refl, FrameM.ite, FrameM.fold, implies_true, and_self, and_true, true_and, FrameM.iff (hs _ _), FrameM.iff (Blk.runEntry_frame _ hs _ _ _ _ _), FrameM.iff (Blk.lateCount_frame _ _ _), FrameM.iff (Blk.lstNextOcc_frame _ _ _ _), FrameM.iff (Blk.lstRecord_frame _ _ _ _ _ _ _ _ _)]
    | split
    | refine ⟨?_, ?_⟩
    | intro _
    | (with_reducible refine FrameM.foldI (fun _ _ => ?_) ?_)

end Sys2Proof.Machine
end

