-- ==== Sys2Proof/Laws/Frames2.lean ====
section
/-! SUPPORT. What each operation of the block may change, once for each: `FrameM m b (op b)` names by the bits of `m` the
pieces outside which nothing changes. Part 2 of 4, callees first. -/

set_option linter.unusedSimpArgs false
set_option linter.unusedTactic false
set_option linter.unreachableTactic false

namespace Sys2Proof.Machine

theorem Blk.sealSpoil_frame (b : Blk) (bad : Blk → TxF → Bool) :
    FrameM 0x488200020 b (Blk.sealSpoil b bad) := by
  unfold Blk.sealSpoil
  repeat' first
    | simp only [Nat.reduceAnd, FrameM.refl, FrameM.ite, FrameM.fold, implies_true, and_self, and_true, true_and, FrameM.iff (Blk.sealMiss_frame _ _ _), FrameM.iff (Blk.setPort_frame _ _ _)]
    | split
    | refine ⟨?_, ?_⟩
    | intro _
    | (with_reducible refine FrameM.foldI (fun _ _ => ?_) ?_)

theorem Blk.sealStep_frame (b : Blk) :
    FrameM 0x488200020 b (Blk.sealStep b) := Blk.sealSpoil_frame b _

theorem Blk.t3Check_frame (b : Blk) :
    FrameM 0x488200020 b (Blk.t3Check b) := Blk.sealSpoil_frame b _

theorem Blk.anchorAll_frame (b : Blk) (flags : Nat) (t : Nat) (step : Int) :
    FrameM 0x20008 b (Blk.anchorAll b flags t step) := by
  unfold Blk.anchorAll
  repeat' first
    | simp only [Nat.reduceAnd, FrameM.refl, FrameM.ite, FrameM.fold, implies_true, and_self, and_true, true_and, FrameM.iff (Blk.offer_frame _ _ _ _)]
    | split
    | refine ⟨?_, ?_⟩
    | intro _
    | (with_reducible refine FrameM.foldI (fun _ _ => ?_) ?_)

theorem Blk.stepValue_frame (b : Blk) (new : Nat) :
    FrameM 0x12001c b (Blk.stepValue b new) := by
  unfold Blk.stepValue
  repeat' first
    | simp only [Nat.reduceAnd, FrameM.refl, FrameM.ite, FrameM.fold, implies_true, and_self, and_true, true_and, FrameM.iff (FrameM.upd_freeCtr_ins _), FrameM.iff (Blk.anchorAll_frame _ _ _ _), FrameM.iff (Blk.setF_frame _ _)]
    | split
    | refine ⟨?_, ?_⟩
    | intro _
    | (with_reducible refine FrameM.foldI (fun _ _ => ?_) ?_)

theorem Blk.unitsStep_frame (b : Blk) (d : Int) :
    FrameM 0x2000000 b (Blk.unitsStep b d) := by
  unfold Blk.unitsStep
  repeat' first
    | simp only [Nat.reduceAnd, FrameM.refl, FrameM.ite, FrameM.fold, implies_true, and_self, and_true, true_and, FrameM.iff (FrameM.upd_outs _)]
    | split
    | refine ⟨?_, ?_⟩
    | intro _
    | (with_reducible refine FrameM.foldI (fun _ _ => ?_) ?_)

theorem Blk.smearSamples_frame (b : Blk) :
    FrameM 0x100000 b (Blk.smearSamples b) := by
  unfold Blk.smearSamples
  repeat' first
    | simp only [Nat.reduceAnd, FrameM.refl, FrameM.ite, FrameM.fold, implies_true, and_self, and_true, true_and, FrameM.iff (FrameM.upd_ins _)]
    | split
    | refine ⟨?_, ?_⟩
    | intro _
    | (with_reducible refine FrameM.foldI (fun _ _ => ?_) ?_)

theorem Blk.leapTake_frame (b : Blk) :
    FrameM 0x100010 b (Blk.leapTake b) := by
  unfold Blk.leapTake
  repeat' first
    | simp only [Nat.reduceAnd, FrameM.refl, FrameM.ite, FrameM.fold, implies_true, and_self, and_true, true_and, FrameM.iff (FrameM.upd_ins _), FrameM.iff (Blk.wr_frame _ _ _)]
    | split
    | refine ⟨?_, ?_⟩
    | intro _
    | (with_reducible refine FrameM.foldI (fun _ _ => ?_) ?_)

theorem Blk.twinLeave_frame (b : Blk) :
    FrameM 0x200000000 b (Blk.twinLeave b) := by
  unfold Blk.twinLeave
  repeat' first
    | simp only [Nat.reduceAnd, FrameM.refl, FrameM.ite, FrameM.fold, implies_true, and_self, and_true, true_and, FrameM.iff (FrameM.upd_twin _)]
    | split
    | refine ⟨?_, ?_⟩
    | intro _
    | (with_reducible refine FrameM.foldI (fun _ _ => ?_) ?_)

theorem Blk.twinFail_frame (b : Blk) :
    FrameM 0x200020008 b (Blk.twinFail b) := by
  unfold Blk.twinFail
  repeat' first
    | simp only [Nat.reduceAnd, FrameM.refl, FrameM.ite, FrameM.fold, implies_true, and_self, and_true, true_and, FrameM.iff (Blk.put_frame _ _), FrameM.iff (Blk.recTwin_frame _ _ _), FrameM.iff (Blk.twinLeave_frame _)]
    | split
    | refine ⟨?_, ?_⟩
    | intro _
    | (with_reducible refine FrameM.foldI (fun _ _ => ?_) ?_)

theorem Blk.discardAll_frame (b : Blk) :
    FrameM 0x488290028 b (Blk.discardAll b) := by
  unfold Blk.discardAll
  repeat' first
    | simp only [Nat.reduceAnd, FrameM.refl, FrameM.ite, FrameM.fold, implies_true, and_self, and_true, true_and, FrameM.iff (Blk.portDiscard_frame _ _ _ _), FrameM.iff (Blk.inc_frame _ _), FrameM.iff (Blk.sealDrop_frame _), FrameM.iff (Blk.ctxFree_frame _ _)]
    | split
    | refine ⟨?_, ?_⟩
    | intro _
    | (with_reducible refine FrameM.foldI (fun _ _ => ?_) ?_)

theorem Blk.changeMode_frame (b : Blk) (m : Mode) (cause : Nat) :
    FrameM 0x200020788 b (Blk.changeMode b m cause) := by
  unfold Blk.changeMode
  repeat' first
    | simp only [Nat.reduceAnd, FrameM.refl, FrameM.ite, FrameM.fold, implies_true, and_self, and_true, true_and, FrameM.iff (FrameM.upd_mode_lastMode_entryCause_holdExpired_twin _), FrameM.iff (Blk.route_frame _ _ _ _ _ _ _)]
    | split
    | refine ⟨?_, ?_⟩
    | intro _
    | (with_reducible refine FrameM.foldI (fun _ _ => ?_) ?_)

theorem Blk.fatal_frame (b : Blk) :
    FrameM 0x6982b0fb8 b (Blk.fatal b) := by
  unfold Blk.fatal
  repeat' first
    | simp only [Nat.reduceAnd, FrameM.refl, FrameM.ite, FrameM.fold, implies_true, and_self, and_true, true_and, FrameM.iff (FrameM.upd_modeReq _), FrameM.iff (Blk.reqsDiscard_frame _ _), FrameM.iff (Blk.twinFail_frame _), FrameM.iff (Blk.discardAll_frame _), FrameM.iff (Blk.wr_frame _ _ _), FrameM.iff (Blk.changeMode_frame _ _ _), FrameM.iff (Blk.complete_frame _ _ _ _)]
    | split
    | refine ⟨?_, ?_⟩
    | intro _
    | (with_reducible refine FrameM.foldI (fun _ _ => ?_) ?_)

theorem Blk.machineFault_frame (b : Blk) :
    FrameM 0x6982f0fb8 b (Blk.machineFault b) := by
  unfold Blk.machineFault
  repeat' first
    | simp only [Nat.reduceAnd, FrameM.refl, FrameM.ite, FrameM.fold, implies_true, and_self, and_true, true_and, FrameM.iff (FrameM.upd_err _), FrameM.iff (Blk.fatal_frame _)]
    | split
    | refine ⟨?_, ?_⟩
    | intro _
    | (with_reducible refine FrameM.foldI (fun _ _ => ?_) ?_)

theorem Blk.errPut_frame (b : Blk) (i : Nat) (x : ErrEntry) :
    FrameM 0x40000 b (Blk.errPut b i x) := by
  unfold Blk.errPut
  repeat' first
    | simp only [Nat.reduceAnd, FrameM.refl, FrameM.ite, FrameM.fold, implies_true, and_self, and_true, true_and, FrameM.iff (FrameM.upd_err _)]
    | split
    | refine ⟨?_, ?_⟩
    | intro _
    | (with_reducible refine FrameM.foldI (fun _ _ => ?_) ?_)

theorem Blk.errLog_frame (b : Blk) (cls : Nat) (esc : Bool) (queued : Bool) (done : Bool) (inj : Bool) (unit : Nat) (code : Nat) (detail : Nat) :
    FrameM 0x40030 b (Blk.errLog b cls esc queued done inj unit code detail).1 := by
  unfold Blk.errLog
  repeat' first
    | simp only [Nat.reduceAnd, snd_ite, fst_ite, FrameM.refl, FrameM.ite, FrameM.fold, implies_true, and_self, and_true, true_and, FrameM.iff (FrameM.upd_err _), FrameM.iff (Blk.errPut_frame _ _ _), FrameM.iff (Blk.wr_frame _ _ _), FrameM.iff (Blk.inc_frame _ _)]
    | split
    | refine ⟨?_, ?_⟩
    | intro _
    | (with_reducible refine FrameM.foldI (fun _ _ => ?_) ?_)

theorem Blk.errRecord_frame (b : Blk) (i : Nat) :
    FrameM 0x20008 b (Blk.errRecord b i) := by
  unfold Blk.errRecord
  repeat' first
    | simp only [Nat.reduceAnd, FrameM.refl, FrameM.ite, FrameM.fold, implies_true, and_self, and_true, true_and, FrameM.iff (Blk.route_frame _ _ _ _ _ _ _)]
    | split
    | refine ⟨?_, ?_⟩
    | intro _
    | (with_reducible refine FrameM.foldI (fun _ _ => ?_) ?_)

theorem Blk.setInv_frame (b : Blk) (lane : Nat) (v : Inv) :
    FrameM 0x40000000 b (Blk.setInv b lane v) := by
  unfold Blk.setInv
  repeat' first
    | simp only [Nat.reduceAnd, FrameM.refl, FrameM.ite, FrameM.fold, implies_true, and_self, and_true, true_and, FrameM.iff (FrameM.upd_eng _)]
    | split
    | refine ⟨?_, ?_⟩
    | intro _
    | (with_reducible refine FrameM.foldI (fun _ _ => ?_) ?_)

theorem Blk.revoke_frame (b : Blk) (u : Nat) :
    FrameM 0x4f8290038 b (Blk.revoke b u).1 := by
  unfold Blk.revoke
  repeat' first
    | simp only [Nat.reduceAnd, snd_ite, fst_ite, FrameM.refl, FrameM.ite, FrameM.fold, implies_true, and_self, and_true, true_and, FrameM.iff (Blk.invUnlock_frame _ _ _), FrameM.iff (Blk.setInv_frame _ _ _), FrameM.iff (Blk.ctxRevoke_frame _ _), FrameM.iff (Blk.incN_frame _ _ _)]
    | split
    | refine ⟨?_, ?_⟩
    | intro _
    | (with_reducible refine FrameM.foldI (fun _ _ => ?_) ?_)

theorem Blk.errEdit_frame (b : Blk) (i : Nat) (f : ErrEntry → ErrEntry) :
    FrameM 0x40000 b (Blk.errEdit b i f) := by
  unfold Blk.errEdit
  repeat' first
    | simp only [Nat.reduceAnd, FrameM.refl, FrameM.ite, FrameM.fold, implies_true, and_self, and_true, true_and, FrameM.iff (Blk.errPut_frame _ _ _)]
    | split
    | refine ⟨?_, ?_⟩
    | intro _
    | (with_reducible refine FrameM.foldI (fun _ _ => ?_) ?_)

theorem Blk.oscStop_frame (b : Blk) :
    FrameM 0x6883f0038 b (Blk.oscStop b) := by
  unfold Blk.oscStop
  repeat' first
    | simp only [Nat.reduceAnd, FrameM.refl, FrameM.ite, FrameM.fold, implies_true, and_self, and_true, true_and, FrameM.iff (FrameM.upd_err_ins _), FrameM.iff (Blk.linkFall_frame _ _), FrameM.iff (Blk.weltLost_frame _)]
    | split
    | refine ⟨?_, ?_⟩
    | intro _
    | (with_reducible refine FrameM.foldI (fun _ _ => ?_) ?_)

theorem Blk.errApply_frame (b : Blk) (j : ErrJob) :
    FrameM 0x7fc7fbfbc b (Blk.errApply b j) := by
  unfold Blk.errApply
  repeat' first
    | simp only [Nat.reduceAnd, FrameM.refl, FrameM.ite, FrameM.fold, implies_true, and_self, and_true, true_and, FrameM.iff (Blk.revoke_frame _ _), FrameM.iff (Blk.errEdit_frame _ _ _), FrameM.iff (Blk.fatal_frame _), FrameM.iff (Blk.oscStop_frame _), FrameM.iff (Blk.act394_frame _ _ _ _ _ _), FrameM.iff (Blk.act393_frame _ _ _ _ _)]
    | split
    | refine ⟨?_, ?_⟩
    | intro _
    | (with_reducible refine FrameM.foldI (fun _ _ => ?_) ?_)

theorem Blk.errStart_frame (b : Blk) (j : ErrJob) :
    FrameM 0x7fc7fbfbc b (Blk.errStart b j) := by
  unfold Blk.errStart
  repeat' first
    | simp only [Nat.reduceAnd, FrameM.refl, FrameM.ite, FrameM.fold, implies_true, and_self, and_true, true_and, FrameM.iff (FrameM.upd_err _), FrameM.iff (Blk.errApply_frame _ _)]
    | split
    | refine ⟨?_, ?_⟩
    | intro _
    | (with_reducible refine FrameM.foldI (fun _ _ => ?_) ?_)

theorem Blk.raise0_frame (b : Blk) (code : Nat) (unit : Nat) (detail : Nat) (cls : Nat) (inj : Bool) (item : Nat) :
    FrameM 0x7fc7fbfbc b (Blk.raise0 b code unit detail cls inj item) := by
  unfold Blk.raise0
  repeat' first
    | simp only [Nat.reduceAnd, FrameM.refl, FrameM.ite, FrameM.fold, implies_true, and_self, and_true, true_and, FrameM.iff (FrameM.upd_err _), FrameM.iff (Blk.machineFault_frame _), FrameM.iff (Blk.inc_frame _ _), FrameM.iff (Blk.errLog_frame _ _ _ _ _ _ _ _ _), FrameM.iff (Blk.errRecord_frame _ _), FrameM.iff (Blk.errStart_frame _ _), FrameM.iff (Blk.errEdit_frame _ _ _)]
    | split
    | refine ⟨?_, ?_⟩
    | intro _
    | (with_reducible refine FrameM.foldI (fun _ _ => ?_) ?_)

theorem Blk.follow_frame (old : Blk) (b : Blk) :
    FrameM 0x7fc7fbfbc b (Blk.follow old b) := by
  unfold Blk.follow
  repeat' first
    | simp only [Nat.reduceAnd, FrameM.refl, FrameM.ite, FrameM.fold, implies_true, and_self, and_true, true_and, FrameM.iff (Blk.raise0_frame _ _ _ _ _ _ _)]
    | split
    | refine ⟨?_, ?_⟩
    | intro _
    | (with_reducible refine FrameM.foldI (fun _ _ => ?_) ?_)

theorem Blk.raise_frame (b : Blk) (code : Nat) (unit : Nat) (detail : Nat) :
    FrameM 0x7fc7fbfbc b (Blk.raise b code unit detail) := by
  unfold Blk.raise
  repeat' first
    | simp only [Nat.reduceAnd, FrameM.refl, FrameM.ite, FrameM.fold, implies_true, and_self, and_true, true_and, FrameM.iff (Blk.follow_frame _ _), FrameM.iff (Blk.raise0_frame _ _ _ _ _ _ _)]
    | split
    | refine ⟨?_, ?_⟩
    | intro _
    | (with_reducible refine FrameM.foldI (fun _ _ => ?_) ?_)

theorem Blk.withNoSeal_frame (old : Blk) (b : Blk) :
    FrameM 0x7fc7fbfbc b (Blk.withNoSeal old b) := by
  unfold Blk.withNoSeal
  repeat' first
    | simp only [Nat.reduceAnd, FrameM.refl, FrameM.ite, FrameM.fold, implies_true, and_self, and_true, true_and, FrameM.iff (Blk.noSealRecord_frame _ _), FrameM.iff (Blk.raise_frame _ _ _ _)]
    | split
    | refine ⟨?_, ?_⟩
    | intro _
    | (with_reducible refine FrameM.foldI (fun _ _ => ?_) ?_)

theorem Blk.keyActivate_frame (b : Blk) (n : Nat) :
    FrameM 0x7fc7fbfbc b (Blk.keyActivate b n) := by
  unfold Blk.keyActivate
  repeat' first
    | simp only [Nat.reduceAnd, FrameM.refl, FrameM.ite, FrameM.fold, implies_true, and_self, and_true, true_and, FrameM.iff (Blk.setEpoch_frame _ _ _), FrameM.iff (Blk.epochState_frame _ _ _), FrameM.iff (Blk.withNoSeal_frame _ _)]
    | split
    | refine ⟨?_, ?_⟩
    | intro _
    | (with_reducible refine FrameM.foldI (fun _ _ => ?_) ?_)

theorem Blk.keyExpire_frame (b : Blk) (n : Nat) :
    FrameM 0x7fc7fbfbc b (Blk.keyExpire b n) := by
  unfold Blk.keyExpire
  repeat' first
    | simp only [Nat.reduceAnd, FrameM.refl, FrameM.ite, FrameM.fold, implies_true, and_self, and_true, true_and, FrameM.iff (Blk.follow_frame _ _), FrameM.iff (Blk.epochRetire_frame _ _)]
    | split
    | refine ⟨?_, ?_⟩
    | intro _
    | (with_reducible refine FrameM.foldI (fun _ _ => ?_) ?_)

theorem Blk.lateItem_frame (stp : Int → Blk → Blk) (hs : ∀ (d : Int) (c : Blk), FrameM 0x7fe7fbfbc c (stp d c)) (lim : Int) (b : Blk) (x : LKey) :
    FrameM 0x7fe7fbfbc b (Blk.lateItem stp lim b x) := by
  unfold Blk.lateItem
  repeat' first
    | simp only [Nat.reduceAnd, snd_ite, fst_ite, FrameM.refl, FrameM.ite, FrameM.fold, implies_true, and_self, and_true, true_and, FrameM.iff (hs _ _), FrameM.iff (Blk.lateEntry_frame _ hs _ _ _ _), FrameM.iff (Blk.leapTake_frame _), FrameM.iff (Blk.pmcEvent_frame _ _ _ _), FrameM.iff (Blk.lateCount_frame _ _ _), FrameM.iff (Blk.keyActivate_frame _ _), FrameM.iff (Blk.keyExpire_frame _ _), FrameM.iff (Blk.gateTake_frame _ _)]
    | split
    | refine ⟨?_, ?_⟩
    | intro _
    | (with_reducible refine FrameM.foldI (fun _ _ => ?_) ?_)

theorem Blk.sweepsLate_frame (b : Blk) (t : Int) (lim : Int) :
    FrameM 0x100200020 b (Blk.sweepsLate b t lim) := by
  unfold Blk.sweepsLate
  repeat' first
    | simp only [Nat.reduceAnd, FrameM.refl, FrameM.ite, FrameM.fold, implies_true, and_self, and_true, true_and, FrameM.iff (FrameM.upd_laster_ptp _), FrameM.iff (Blk.incN_frame _ _ _)]
    | split
    | refine ⟨?_, ?_⟩
    | intro _
    | (with_reducible refine FrameM.foldI (fun _ _ => ?_) ?_)

theorem Blk.holdLate_frame (b : Blk) (lim : Int) :
    FrameM 0x200000 b (Blk.holdLate b lim) := by
  unfold Blk.holdLate
  repeat' first
    | simp only [Nat.reduceAnd, FrameM.refl, FrameM.ite, FrameM.fold, implies_true, and_self, and_true, true_and, FrameM.iff (FrameM.upd_laster _), FrameM.iff (Blk.lateCount_frame _ _ _)]
    | split
    | refine ⟨?_, ?_⟩
    | intro _
    | (with_reducible refine FrameM.foldI (fun _ _ => ?_) ?_)

theorem Blk.stepForward_frame (stp : Int → Blk → Blk) (hs : ∀ (d : Int) (c : Blk), FrameM 0x7fe7fbfbc c (stp d c)) (b : Blk) (t : Int) (lim : Int) :
    FrameM 0x7fe7fbfbc b (Blk.stepForward stp b t lim) := by
  unfold Blk.stepForward
  repeat' first
    | simp only [Nat.reduceAnd, snd_ite, fst_ite, FrameM.refl, FrameM.ite, FrameM.fold, implies_true, and_self, and_true, true_and, FrameM.iff (hs _ _), FrameM.iff (Blk.smearSamples_frame _), FrameM.iff (Blk.lateItem_frame _ hs _ _ _), FrameM.iff (Blk.sweepsLate_frame _ _ _), FrameM.iff (Blk.holdLate_frame _ _)]
    | split
    | refine ⟨?_, ?_⟩
    | intro _
    | (with_reducible refine FrameM.foldI (fun _ _ => ?_) ?_)

theorem Blk.leapUndo_frame (b : Blk) :
    FrameM 0x100010 b (Blk.leapUndo b) := by
  unfold Blk.leapUndo
  repeat' first
    | simp only [Nat.reduceAnd, FrameM.refl, FrameM.ite, FrameM.fold, implies_true, and_self, and_true, true_and, FrameM.iff (FrameM.upd_ins _), FrameM.iff (Blk.wr_frame _ _ _)]
    | split
    | refine ⟨?_, ?_⟩
    | intro _
    | (with_reducible refine FrameM.foldI (fun _ _ => ?_) ?_)

theorem Blk.stepBack_frame (b : Blk) (t : Int) (t1 : Int) :
    FrameM 0x300010 b (Blk.stepBack b t t1) := by
  unfold Blk.stepBack
  repeat' first
    | simp only [Nat.reduceAnd, FrameM.refl, FrameM.ite, FrameM.fold, implies_true, and_self, and_true, true_and, FrameM.iff (FrameM.upd_laster _), FrameM.iff (Blk.leapUndo_frame _)]
    | split
    | refine ⟨?_, ?_⟩
    | intro _
    | (with_reducible refine FrameM.foldI (fun _ _ => ?_) ?_)

theorem Blk.stepN_frame (y0 : Nat) (y1 : Int) (y2 : Blk) :
    FrameM 0x7fe7fbfbc y2 (Blk.stepN y0 y1 y2) := by
  induction y0 generalizing y1 y2 with
  | zero => unfold Blk.stepN; simp only [FrameM.refl]
  | succ n ih =>
    unfold Blk.stepN
    repeat' first
      | simp only [Nat.reduceAnd, FrameM.refl, FrameM.ite, FrameM.fold, implies_true, and_self, and_true, true_and, FrameM.iff (Blk.sealStep_frame _), FrameM.iff (Blk.stepValue_frame _ _), FrameM.iff (Blk.unitsStep_frame _ _), FrameM.iff (Blk.smearSamples_frame _), FrameM.iff (Blk.pmcEvent_frame _ _ _ _), FrameM.iff (Blk.lstNextOcc_frame _ _ _ _), FrameM.iff (Blk.lstNop_frame _ _), FrameM.iff (Blk.lstRecord_frame _ _ _ _ _ _ _ _ _), FrameM.iff (Blk.lateCount_frame _ _ _), FrameM.iff (Blk.leapTake_frame _), FrameM.iff (Blk.keyActivate_frame _ _), FrameM.iff (Blk.keyExpire_frame _ _), FrameM.iff (Blk.gateTake_frame _ _), FrameM.iff (Blk.sweepsLate_frame _ _ _), FrameM.iff (Blk.holdLate_frame _ _), FrameM.iff (Blk.stepBack_frame _ _ _), FrameM.iff (ih _ _), FrameM.iff (Blk.stepForward_frame _ ih _ _ _)]
      | split
      | refine ⟨?_, ?_⟩
      | intro _

theorem Blk.step_frame (b : Blk) (d : Int) :
    FrameM 0x7fe7fbfbc b (Blk.step b d) := by
  unfold Blk.step
  repeat' first
    | simp only [Nat.reduceAnd, FrameM.refl, FrameM.ite, FrameM.fold, implies_true, and_self, and_true, true_and, FrameM.iff (Blk.stepN_frame _ _ _)]
    | split
    | refine ⟨?_, ?_⟩
    | intro _
    | (with_reducible refine FrameM.foldI (fun _ _ => ?_) ?_)

theorem stepFn_frame (d : Int) (b : Blk) :
    FrameM 0x7fe7fbfbc b (stepFn d b) := by
  unfold stepFn
  repeat' first
    | simp only [Nat.reduceAnd, FrameM.refl, FrameM.ite, FrameM.fold, implies_true, and_self, and_true, true_and, FrameM.iff (Blk.step_frame _ _)]
    | split
    | refine ⟨?_, ?_⟩
    | intro _
    | (with_reducible refine FrameM.foldI (fun _ _ => ?_) ?_)

theorem Blk.cycCross_frame (b : Blk) (e : Nat) (t : Int) (pEst : Int) (synth : Bool) (lost : Bool) :
    FrameM 0x7fe7fbfbc b (Blk.cycCross b e t pEst synth lost) := by
  unfold Blk.cycCross
  repeat' first
    | simp only [Nat.reduceAnd, FrameM.refl, FrameM.ite, FrameM.fold, implies_true, and_self, and_true, true_and, FrameM.iff (FrameM.upd_laster _), FrameM.iff (Blk.pmcEvent_frame _ _ _ _), FrameM.iff (Blk.lstNextOcc_frame _ _ _ _), FrameM.iff (Blk.launchFail_frame _ _ _), FrameM.iff (Blk.launchRun_frame _ _ _), FrameM.iff (Blk.gateTake_frame _ _), FrameM.iff (Blk.setGate_frame _ _ _), FrameM.iff (Blk.setWindow_frame _ _ _), FrameM.iff (Blk.complete_frame _ _ _ _), FrameM.iff (Blk.lstNop_frame _ _), FrameM.iff (Blk.lstRecord_frame _ _ _ _ _ _ _ _ _), FrameM.iff (Blk.lateCount_frame _ _ _), FrameM.iff (stepFn_frame _ _), FrameM.iff (Blk.lateEntry_frame stepFn stepFn_frame _ _ _ _)]
    | split
    | refine ⟨?_, ?_⟩
    | intro _
    | (with_reducible refine FrameM.foldI (fun _ _ => ?_) ?_)

theorem Blk.crossing_frame (b : Blk) (c : Nat) (t : Int) :
    FrameM 0x7fe7fbfbc b (Blk.crossing b c t) := by
  unfold Blk.crossing
  repeat' first
    | simp only [Nat.reduceAnd, FrameM.refl, FrameM.ite, FrameM.fold, implies_true, and_self, and_true, true_and, FrameM.iff (Blk.satF_frame _ _ _), FrameM.iff (Blk.setEye_frame _ _ _), FrameM.iff (Blk.draw_frame _ _), FrameM.iff (Blk.awlRec_frame _ _ _ _ _ _ _ _), FrameM.iff (Blk.cycUnits_frame _ _ _ _ _), FrameM.iff (Blk.cycCross_frame _ _ _ _ _ _)]
    | split
    | refine ⟨?_, ?_⟩
    | intro _
    | (with_reducible refine FrameM.foldI (fun _ _ => ?_) ?_)

theorem Blk.recEdge_frame (b : Blk) (e : Nat) (act : Bool) (t : Int) (seq : Nat) (phase : Nat) (chat : Bool) :
    FrameM 0x4000010 b (Blk.recEdge b e act t seq phase chat) := by
  unfold Blk.recEdge
  repeat' first
    | simp only [Nat.reduceAnd, FrameM.refl, FrameM.ite, FrameM.fold, implies_true, and_self, and_true, true_and, FrameM.iff (Blk.setEye_frame _ _ _), FrameM.iff (Blk.awlRec_frame _ _ _ _ _ _ _ _)]
    | split
    | refine ⟨?_, ?_⟩
    | intro _
    | (with_reducible refine FrameM.foldI (fun _ _ => ?_) ?_)

theorem Blk.admitEdge_frame (b : Blk) (e : Nat) (act : Bool) (t : Int) (phase : Nat) :
    FrameM 0x7fe7fbfbc b (Blk.admitEdge b e act t phase) := by
  unfold Blk.admitEdge
  repeat' first
    | simp only [Nat.reduceAnd, FrameM.refl, FrameM.ite, FrameM.fold, implies_true, and_self, and_true, true_and, FrameM.iff (Blk.setEye_frame _ _ _), FrameM.iff (Blk.pairEdge_frame _ _ _ _ _), FrameM.iff (Blk.gateAdd_frame _ _ _ _), FrameM.iff (Blk.crossing_frame _ _ _), FrameM.iff (Blk.recEdge_frame _ _ _ _ _ _ _)]
    | split
    | refine ⟨?_, ?_⟩
    | intro _
    | (with_reducible refine FrameM.foldI (fun _ _ => ?_) ?_)

theorem Blk.ageShed_frame (b : Blk) :
    FrameM 0x410000020 b (Blk.ageShed b) := by
  unfold Blk.ageShed
  repeat' first
    | simp only [Nat.reduceAnd, FrameM.refl, FrameM.ite, FrameM.fold, implies_true, and_self, and_true, true_and, FrameM.iff (FrameM.upd_clk _), FrameM.iff (Blk.inc_frame _ _), FrameM.iff (Blk.reqFree_frame _ _)]
    | split
    | refine ⟨?_, ?_⟩
    | intro _
    | (with_reducible refine FrameM.foldI (fun _ _ => ?_) ?_)

theorem Blk.align_frame (b : Blk) (d : Int) :
    FrameM 0x7fe7fbfbc b (Blk.align b d) :=
  Blk.validWith_frame _ (fun c => Blk.correctAs_frame stepFn stepFn_frame c _ _) b

theorem Blk.alignEnd_frame (b : Blk) (u : Nat) (o : OutUnit) :
    FrameM 0x402090008 b (Blk.alignEnd b u o) := by
  unfold Blk.alignEnd
  repeat' first
    | simp only [Nat.reduceAnd, FrameM.refl, FrameM.ite, FrameM.fold, implies_true, and_self, and_true, true_and, FrameM.iff (FrameM.upd_outs _), FrameM.iff (Blk.setOut_frame _ _ _), FrameM.iff (Blk.complete_frame _ _ _ _)]
    | split
    | refine ⟨?_, ?_⟩
    | intro _
    | (with_reducible refine FrameM.foldI (fun _ _ => ?_) ?_)

theorem Blk.alignCancel_frame (b : Blk) (u : Nat) :
    FrameM 0x402090008 b (Blk.alignCancel b u) := by
  unfold Blk.alignCancel
  repeat' first
    | simp only [Nat.reduceAnd, FrameM.refl, FrameM.ite, FrameM.fold, implies_true, and_self, and_true, true_and, FrameM.iff (Blk.alignEnd_frame _ _ _)]
    | split
    | refine ⟨?_, ?_⟩
    | intro _
    | (with_reducible refine FrameM.foldI (fun _ _ => ?_) ?_)

theorem Blk.alignDone_frame (b : Blk) (u : Nat) :
    FrameM 0x402090008 b (Blk.alignDone b u) := by
  unfold Blk.alignDone
  repeat' first
    | simp only [Nat.reduceAnd, FrameM.refl, FrameM.ite, FrameM.fold, implies_true, and_self, and_true, true_and, FrameM.iff (Blk.alignEnd_frame _ _ _), FrameM.iff (Blk.setOut_frame _ _ _)]
    | split
    | refine ⟨?_, ?_⟩
    | intro _
    | (with_reducible refine FrameM.foldI (fun _ _ => ?_) ?_)

theorem Blk.alignStart_frame (b : Blk) (u : Nat) :
    FrameM 0x402090008 b (Blk.alignStart b u) := by
  unfold Blk.alignStart
  repeat' first
    | simp only [Nat.reduceAnd, FrameM.refl, FrameM.ite, FrameM.fold, implies_true, and_self, and_true, true_and, FrameM.iff (Blk.alignEnd_frame _ _ _), FrameM.iff (Blk.setOut_frame _ _ _)]
    | split
    | refine ⟨?_, ?_⟩
    | intro _
    | (with_reducible refine FrameM.foldI (fun _ _ => ?_) ?_)

theorem Blk.allBenchWork_frame (b : Blk) :
    FrameM 0x4f8290038 b (Blk.allBenchWork b) := by
  unfold Blk.allBenchWork
  repeat' first
    | simp only [Nat.reduceAnd, FrameM.refl, FrameM.ite, FrameM.fold, implies_true, and_self, and_true, true_and, FrameM.iff (Blk.benchWork_frame _ _)]
    | split
    | refine ⟨?_, ?_⟩
    | intro _
    | (with_reducible refine FrameM.foldI (fun _ _ => ?_) ?_)

theorem Blk.queueFrame_frame (b : Blk) (f : TxF) :
    FrameM 0x408000000 b (Blk.queueFrame b f) := by
  unfold Blk.queueFrame
  repeat' first
    | simp only [Nat.reduceAnd, FrameM.refl, FrameM.ite, FrameM.fold, implies_true, and_self, and_true, true_and, FrameM.iff (FrameM.upd_flow _), FrameM.iff (Blk.setPort_frame _ _ _)]
    | split
    | refine ⟨?_, ?_⟩
    | intro _
    | (with_reducible refine FrameM.foldI (fun _ _ => ?_) ?_)

theorem Blk.egTake_frame (b : Blk) (p : Nat) (n : Nat) :
    FrameM 0x400000000 b (Blk.egTake b p n) := by
  unfold Blk.egTake
  repeat' first
    | simp only [Nat.reduceAnd, FrameM.refl, FrameM.ite, FrameM.fold, implies_true, and_self, and_true, true_and, FrameM.iff (FrameM.upd_flow _)]
    | split
    | refine ⟨?_, ?_⟩
    | intro _
    | (with_reducible refine FrameM.foldI (fun _ _ => ?_) ?_)

theorem Blk.sendBuilt_frame (b : Blk) (f : TxF) (c : Blk) (h : b.sendBuilt f = some c) :
    FrameM 0x408000000 b c := by
  unfold Blk.sendBuilt at h
  split at h
  · cases h; simp only [Nat.reduceAnd, FrameM.refl, FrameM.iff (Blk.queueFrame_frame _ _), FrameM.iff (Blk.egTake_frame _ _ _)]
  · cases h

theorem Blk.announceAll_frame (b : Blk) :
    FrameM 0x408000000 b (Blk.announceAll b) := by
  unfold Blk.announceAll
  repeat' first
    | simp only [Nat.reduceAnd, FrameM.refl, FrameM.ite, FrameM.fold, implies_true, and_self, and_true, true_and, FrameM.iff (Blk.queueFrame_frame _ _), FrameM.iff (Blk.egTake_frame _ _ _)]
    | split
    | refine ⟨?_, ?_⟩
    | intro _
    | (with_reducible refine FrameM.foldI (fun _ _ => ?_) ?_)
    | (refine FrameM.option (fun c hc => ?_) ?_; rw [FrameM.iff (Blk.sendBuilt_frame _ _ c hc) _ _ (by decide)])

theorem Blk.applyRecord_frame (b : Blk) (r : Nat × Nat) :
    FrameM 0x10 b (Blk.applyRecord b r) := by
  unfold Blk.applyRecord
  repeat' first
    | simp only [Nat.reduceAnd, FrameM.refl, FrameM.ite, FrameM.fold, implies_true, and_self, and_true, true_and, FrameM.iff (FrameM.upd_regs _), FrameM.iff (Blk.wr_frame _ _ _)]
    | split
    | refine ⟨?_, ?_⟩
    | intro _
    | (with_reducible refine FrameM.foldI (fun _ _ => ?_) ?_)

theorem Blk.raiseEnv_frame (b : Blk) (code : Nat) (detail : Nat) :
    FrameM 0x7fc7fbfbc b (Blk.raiseEnv b code detail) := by
  unfold Blk.raiseEnv
  repeat' first
    | simp only [Nat.reduceAnd, FrameM.refl, FrameM.ite, FrameM.fold, implies_true, and_self, and_true, true_and, FrameM.iff (Blk.raise_frame _ _ _ _)]
    | split
    | refine ⟨?_, ?_⟩
    | intro _
    | (with_reducible refine FrameM.foldI (fun _ _ => ?_) ?_)

theorem Blk.arbResult_frame (b : Blk) (ok : Bool) :
    FrameM 0x7fc7fbfbc b (Blk.arbResult b ok) := by
  unfold Blk.arbResult
  repeat' first
    | simp only [Nat.reduceAnd, FrameM.refl, FrameM.ite, FrameM.fold, implies_true, and_self, and_true, true_and, FrameM.iff (FrameM.upd_twin _), FrameM.iff (Blk.raiseEnv_frame _ _ _), FrameM.iff (Blk.recTwin_frame _ _ _)]
    | split
    | refine ⟨?_, ?_⟩
    | intro _
    | (with_reducible refine FrameM.foldI (fun _ _ => ?_) ?_)

theorem Blk.lstArm_frame (b : Blk) (e : LEntry) :
    FrameM 0x200000 b (Blk.lstArm b e) := by
  unfold Blk.lstArm
  repeat' first
    | simp only [Nat.reduceAnd, FrameM.refl, FrameM.ite, FrameM.fold, implies_true, and_self, and_true, true_and, FrameM.iff (FrameM.upd_laster _)]
    | split
    | refine ⟨?_, ?_⟩
    | intro _
    | (with_reducible refine FrameM.foldI (fun _ _ => ?_) ?_)

theorem Blk.armAll_frame (b : Blk) (y1 : List LEntry) :
    FrameM 0x200000 b (Blk.armAll b y1).1 := by
  induction y1 generalizing b with
  | nil => unfold Blk.armAll; simp only [FrameM.refl]
  | cons v rest ih =>
    unfold Blk.armAll
    repeat' first
      | simp only [FrameM.iff (ih _),  Nat.reduceAnd, snd_ite, fst_ite, FrameM.refl, FrameM.ite, FrameM.fold, implies_true, and_self, and_true, true_and, FrameM.iff (Blk.lstArm_frame _ _)]
      | split
      | refine ⟨?_, ?_⟩
      | intro _

theorem Blk.armWith_frame (b : Blk) (f : TxF) (target : Nat) :
    FrameM 0x408200020 b (Blk.armWith b f target) := by
  unfold Blk.armWith
  repeat' first
    | simp only [Nat.reduceAnd, FrameM.refl, FrameM.ite, FrameM.fold, implies_true, and_self, and_true, true_and, FrameM.iff (Blk.hostMiss_frame _ _), FrameM.iff (Blk.launchMiss_frame _ _ _), FrameM.iff (Blk.lstArm_frame _ _), FrameM.iff (Blk.setPort_frame _ _ _)]
    | split
    | refine ⟨?_, ?_⟩
    | intro _
    | (with_reducible refine FrameM.foldI (fun _ _ => ?_) ?_)

theorem Blk.armHost_frame (b : Blk) (f : TxF) (target : Nat) :
    FrameM 0x408200020 b (Blk.armHost b f target) := by
  unfold Blk.armHost
  repeat' first
    | simp only [Nat.reduceAnd, FrameM.refl, FrameM.ite, FrameM.fold, implies_true, and_self, and_true, true_and, FrameM.iff (FrameM.upd_flow _), FrameM.iff (Blk.armWith_frame _ _ _)]
    | split
    | refine ⟨?_, ?_⟩
    | intro _
    | (with_reducible refine FrameM.foldI (fun _ _ => ?_) ?_)

theorem Blk.armLate_frame (b : Blk) (l : List Nat) :
    FrameM 0x7fe7fbfbc b (Blk.armLate b l) := by
  unfold Blk.armLate
  repeat' first
    | simp only [Nat.reduceAnd, FrameM.refl, FrameM.ite, FrameM.fold, implies_true, and_self, and_true, true_and, FrameM.iff (Blk.pmcEvent_frame _ _ _ _), FrameM.iff (Blk.lstNextOcc_frame _ _ _ _), FrameM.iff (Blk.launchFail_frame _ _ _), FrameM.iff (Blk.launchRun_frame _ _ _), FrameM.iff (Blk.gateTake_frame _ _), FrameM.iff (Blk.setGate_frame _ _ _), FrameM.iff (Blk.setWindow_frame _ _ _), FrameM.iff (Blk.complete_frame _ _ _ _), FrameM.iff (Blk.lstNop_frame _ _), FrameM.iff (Blk.lstRecord_frame _ _ _ _ _ _ _ _ _), FrameM.iff (Blk.lateCount_frame _ _ _), FrameM.iff (stepFn_frame _ _), FrameM.iff (Blk.lateEntry_frame stepFn stepFn_frame _ _ _ _)]
    | split
    | refine ⟨?_, ?_⟩
    | intro _
    | (with_reducible refine FrameM.foldI (fun _ _ => ?_) ?_)

theorem Blk.armSeal_frame (b : Blk) (f : TxF) (L : Nat) :
    FrameM 0x408200000 b (Blk.armSeal b f L) := by
  unfold Blk.armSeal
  repeat' first
    | simp only [Nat.reduceAnd, FrameM.refl, FrameM.ite, FrameM.fold, implies_true, and_self, and_true, true_and, FrameM.iff (FrameM.upd_flow _), FrameM.iff (Blk.lstArm_frame _ _), FrameM.iff (Blk.setPort_frame _ _ _)]
    | split
    | refine ⟨?_, ?_⟩
    | intro _
    | (with_reducible refine FrameM.foldI (fun _ _ => ?_) ?_)

theorem Blk.ndReply_frame (b : Blk) (p : Nat) (data : Bytes) :
    FrameM 0x408000020 b (Blk.ndReply b p data) := by
  unfold Blk.ndReply
  repeat' first
    | simp only [Nat.reduceAnd, FrameM.refl, FrameM.ite, FrameM.fold, implies_true, and_self, and_true, true_and, FrameM.iff (Blk.inc_frame _ _), FrameM.iff (Blk.setPort_frame _ _ _), FrameM.iff (Blk.queueFrame_frame _ _), FrameM.iff (Blk.egTake_frame _ _ _)]
    | split
    | refine ⟨?_, ?_⟩
    | intro _
    | (with_reducible refine FrameM.foldI (fun _ _ => ?_) ?_)
    | (refine FrameM.option (fun c hc => ?_) ?_; rw [FrameM.iff (Blk.sendBuilt_frame _ _ c hc) _ _ (by decide)])

theorem Blk.excHold_frame (b : Blk) (e : ExcF) :
    FrameM 0x10000020 b (Blk.excHold b e) := by
  unfold Blk.excHold
  repeat' first
    | simp only [Nat.reduceAnd, FrameM.refl, FrameM.ite, FrameM.fold, implies_true, and_self, and_true, true_and, FrameM.iff (FrameM.upd_clk _), FrameM.iff (Blk.inc_frame _ _)]
    | split
    | refine ⟨?_, ?_⟩
    | intro _
    | (with_reducible refine FrameM.foldI (fun _ _ => ?_) ?_)

theorem Blk.excPut_frame (b : Blk) (p : Nat) (t2 : Nat) (steps : Int) (reason : Nat) (data : Bytes) :
    FrameM 0x10000020 b (Blk.excPut b p t2 steps reason data) := by
  unfold Blk.excPut
  repeat' first
    | simp only [Nat.reduceAnd, FrameM.refl, FrameM.ite, FrameM.fold, implies_true, and_self, and_true, true_and, FrameM.iff (FrameM.upd_clk _), FrameM.iff (Blk.inc_frame _ _), FrameM.iff (Blk.excHold_frame _ _)]
    | split
    | refine ⟨?_, ?_⟩
    | intro _
    | (with_reducible refine FrameM.foldI (fun _ _ => ?_) ?_)

theorem Blk.rxExc_frame (b : Blk) (x : RxF) (reason : Nat) :
    FrameM 0x10000020 b (Blk.rxExc b x reason) := by
  unfold Blk.rxExc
  repeat' first
    | simp only [Nat.reduceAnd, FrameM.refl, FrameM.ite, FrameM.fold, implies_true, and_self, and_true, true_and, FrameM.iff (Blk.excPut_frame _ _ _ _ _ _)]
    | split
    | refine ⟨?_, ?_⟩
    | intro _
    | (with_reducible refine FrameM.foldI (fun _ _ => ?_) ?_)

theorem Blk.arpRx_frame (b : Blk) (x : RxF) (off : Nat) :
    FrameM 0x418000020 b (Blk.arpRx b x off) := by
  unfold Blk.arpRx
  repeat' first
    | simp only [Nat.reduceAnd, FrameM.refl, FrameM.ite, FrameM.fold, implies_true, and_self, and_true, true_and, FrameM.iff (Blk.ndReply_frame _ _ _), FrameM.iff (Blk.rxExc_frame _ _ _)]
    | split
    | refine ⟨?_, ?_⟩
    | intro _
    | (with_reducible refine FrameM.foldI (fun _ _ => ?_) ?_)

theorem Blk.linksSync_frame (b : Blk) :
    FrameM 0x4882b0038 b (Blk.linksSync b) := by
  unfold Blk.linksSync
  repeat' first
    | simp only [Nat.reduceAnd, FrameM.refl, FrameM.ite, FrameM.fold, implies_true, and_self, and_true, true_and, FrameM.iff (Blk.linkFall_frame _ _)]
    | split
    | refine ⟨?_, ?_⟩
    | intro _
    | (with_reducible refine FrameM.foldI (fun _ _ => ?_) ?_)

theorem Blk.modeEnter_frame (b : Blk) (m : Mode) (cause : Nat) :
    FrameM 0x689eb07b8 b (Blk.modeEnter b m cause) := by
  unfold Blk.modeEnter
  repeat' first
    | simp only [Nat.reduceAnd, FrameM.refl, FrameM.ite, FrameM.fold, implies_true, and_self, and_true, true_and, FrameM.iff (FrameM.upd_refs _), FrameM.iff (Blk.changeMode_frame _ _ _), FrameM.iff (Blk.refsSettle_frame _), FrameM.iff (Blk.linksSync_frame _)]
    | split
    | refine ⟨?_, ?_⟩
    | intro _
    | (with_reducible refine FrameM.foldI (fun _ _ => ?_) ?_)

theorem Blk.askAcquire_frame (b : Blk) (lc : Lifecycle) (ref : DRef) :
    FrameM 0x689eb07b8 b (Blk.askAcquire b lc ref) := by
  unfold Blk.askAcquire
  repeat' first
    | simp only [Nat.reduceAnd, FrameM.refl, FrameM.ite, FrameM.fold, implies_true, and_self, and_true, true_and, FrameM.iff (Blk.complete_frame _ _ _ _), FrameM.iff (Blk.modeEnter_frame _ _ _)]
    | split
    | refine ⟨?_, ?_⟩
    | intro _
    | (with_reducible refine FrameM.foldI (fun _ _ => ?_) ?_)

theorem Blk.askBegin_frame (b : Blk) (ref : DRef) (handover : Bool) :
    FrameM 0x800 b (Blk.askBegin b ref handover) := by
  unfold Blk.askBegin
  repeat' first
    | simp only [Nat.reduceAnd, FrameM.refl, FrameM.ite, FrameM.fold, implies_true, and_self, and_true, true_and, FrameM.iff (FrameM.upd_modeReq _)]
    | split
    | refine ⟨?_, ?_⟩
    | intro _
    | (with_reducible refine FrameM.foldI (fun _ _ => ?_) ?_)

theorem Blk.sealTwin_frame (b : Blk) :
    FrameM 0x488290028 b (Blk.sealTwin b) := by
  unfold Blk.sealTwin
  repeat' first
    | simp only [Nat.reduceAnd, FrameM.refl, FrameM.ite, FrameM.fold, implies_true, and_self, and_true, true_and, FrameM.iff (Blk.setPort_frame _ _ _), FrameM.iff (Blk.frameDrop_frame _ _ _ _), FrameM.iff (Blk.inc_frame _ _), FrameM.iff (Blk.sealDrop_frame _), FrameM.iff (Blk.ctxFree_frame _ _)]
    | split
    | refine ⟨?_, ?_⟩
    | intro _
    | (with_reducible refine FrameM.foldI (fun _ _ => ?_) ?_)

theorem Blk.detached_frame (b : Blk) :
    FrameM 0x689eb07b8 b (Blk.detached b) := by
  unfold Blk.detached
  repeat' first
    | simp only [Nat.reduceAnd, FrameM.refl, FrameM.ite, FrameM.fold, implies_true, and_self, and_true, true_and, FrameM.iff (Blk.sealTwin_frame _), FrameM.iff (Blk.wr_frame _ _ _), FrameM.iff (Blk.twinLeave_frame _), FrameM.iff (Blk.recTwin_frame _ _ _), FrameM.iff (Blk.modeEnter_frame _ _ _)]
    | split
    | refine ⟨?_, ?_⟩
    | intro _
    | (with_reducible refine FrameM.foldI (fun _ _ => ?_) ?_)

theorem Blk.detach_frame (b : Blk) :
    FrameM 0x689eb07b8 b (Blk.detach b) := by
  unfold Blk.detach
  repeat' first
    | simp only [Nat.reduceAnd, FrameM.refl, FrameM.ite, FrameM.fold, implies_true, and_self, and_true, true_and, FrameM.iff (Blk.detached_frame _), FrameM.iff (Blk.put_frame _ _)]
    | split
    | refine ⟨?_, ?_⟩
    | intro _
    | (with_reducible refine FrameM.foldI (fun _ _ => ?_) ?_)

theorem Blk.askCommission_frame (b : Blk) (ref : DRef) (handover : Bool) :
    FrameM 0x6f9eb0fb8 b (Blk.askCommission b ref handover) := by
  unfold Blk.askCommission
  repeat' first
    | simp only [Nat.reduceAnd, FrameM.refl, FrameM.ite, FrameM.fold, implies_true, and_self, and_true, true_and, FrameM.iff (Blk.allBenchWork_frame _), FrameM.iff (Blk.askBegin_frame _ _ _), FrameM.iff (Blk.complete_frame _ _ _ _), FrameM.iff (Blk.detach_frame _)]
    | split
    | refine ⟨?_, ?_⟩
    | intro _
    | (with_reducible refine FrameM.foldI (fun _ _ => ?_) ?_)

theorem Blk.place_frame (b : Blk) (i : Nat) (lane : Nat) (v : Inv) :
    FrameM 0x50080000 b (Blk.place b i lane v) := by
  unfold Blk.place
  repeat' first
    | simp only [Nat.reduceAnd, FrameM.refl, FrameM.ite, FrameM.fold, implies_true, and_self, and_true, true_and, FrameM.iff (FrameM.upd_clk _), FrameM.iff (Blk.setInv_frame _ _ _), FrameM.iff (Blk.pmcEvent_frame _ _ _ _)]
    | split
    | refine ⟨?_, ?_⟩
    | intro _
    | (with_reducible refine FrameM.foldI (fun _ _ => ?_) ?_)

theorem Blk.lockAsk_frame (b : Blk) (lane : Nat) (bkt : Nat) :
    FrameM 0x60000020 b (Blk.lockAsk b lane bkt) := by
  unfold Blk.lockAsk
  repeat' first
    | simp only [Nat.reduceAnd, FrameM.refl, FrameM.ite, FrameM.fold, implies_true, and_self, and_true, true_and, FrameM.iff (FrameM.upd_ct _), FrameM.iff (Blk.lockTake_frame _ _ _), FrameM.iff (Blk.setInv_frame _ _ _), FrameM.iff (Blk.inc_frame _ _)]
    | split
    | refine ⟨?_, ?_⟩
    | intro _
    | (with_reducible refine FrameM.foldI (fun _ _ => ?_) ?_)

theorem Blk.assign_frame (b : Blk) (r : Req) (i : Nat) (lane : Nat) :
    FrameM 0xf0080020 b (Blk.assign b r i lane) := by
  unfold Blk.assign
  repeat' first
    | simp only [Nat.reduceAnd, FrameM.refl, FrameM.ite, FrameM.fold, implies_true, and_self, and_true, true_and, FrameM.iff (FrameM.upd_clk _), FrameM.iff (Blk.setCtx_frame _ _ _), FrameM.iff (Blk.place_frame _ _ _ _), FrameM.iff (Blk.pmcEvent_frame _ _ _ _), FrameM.iff (Blk.lockAsk_frame _ _ _)]
    | split
    | refine ⟨?_, ?_⟩
    | intro _
    | (with_reducible refine FrameM.foldI (fun _ _ => ?_) ?_)

theorem Blk.recHold_frame (b : Blk) (event : Nat) :
    FrameM 0x20008 b (Blk.recHold b event) := by
  unfold Blk.recHold
  repeat' first
    | simp only [Nat.reduceAnd, FrameM.refl, FrameM.ite, FrameM.fold, implies_true, and_self, and_true, true_and, FrameM.iff (Blk.route_frame _ _ _ _ _ _ _)]
    | split
    | refine ⟨?_, ?_⟩
    | intro _
    | (with_reducible refine FrameM.foldI (fun _ _ => ?_) ?_)

theorem Blk.leadFrom_frame (b : Blk) :
    FrameM 0x689eb07b8 b (Blk.leadFrom b) := by
  unfold Blk.leadFrom
  repeat' first
    | simp only [Nat.reduceAnd, FrameM.refl, FrameM.ite, FrameM.fold, implies_true, and_self, and_true, true_and, FrameM.iff (FrameM.upd_twin _), FrameM.iff (Blk.modeEnter_frame _ _ _), FrameM.iff (Blk.recHold_frame _ _)]
    | split
    | refine ⟨?_, ?_⟩
    | intro _
    | (with_reducible refine FrameM.foldI (fun _ _ => ?_) ?_)

theorem Blk.toFollower_frame (b : Blk) :
    FrameM 0x689eb07b8 b (Blk.toFollower b) := by
  unfold Blk.toFollower
  repeat' first
    | simp only [Nat.reduceAnd, FrameM.refl, FrameM.ite, FrameM.fold, implies_true, and_self, and_true, true_and, FrameM.iff (FrameM.upd_twin _), FrameM.iff (Blk.sealTwin_frame _), FrameM.iff (Blk.modeEnter_frame _ _ _)]
    | split
    | refine ⟨?_, ?_⟩
    | intro _
    | (with_reducible refine FrameM.foldI (fun _ _ => ?_) ?_)

theorem Blk.attachRole_frame (b : Blk) (x : TwinPeer) :
    FrameM 0x6a9eb07b8 b (Blk.attachRole b x) := by
  unfold Blk.attachRole
  repeat' first
    | simp only [Nat.reduceAnd, FrameM.refl, FrameM.ite, FrameM.fold, implies_true, and_self, and_true, true_and, FrameM.iff (FrameM.upd_twin _), FrameM.iff (FrameM.upd_ct _), FrameM.iff (Blk.leadFrom_frame _), FrameM.iff (Blk.copySend_frame _), FrameM.iff (Blk.recTwin_frame _ _ _), FrameM.iff (Blk.toFollower_frame _)]
    | split
    | refine ⟨?_, ?_⟩
    | intro _
    | (with_reducible refine FrameM.foldI (fun _ _ => ?_) ?_)

theorem Blk.attachDone_frame (b : Blk) (kp : Bytes) (nonce : Bytes) (x : TwinPeer) :
    FrameM 0x6a9eb07b8 b (Blk.attachDone b kp nonce x) := by
  unfold Blk.attachDone
  repeat' first
    | simp only [Nat.reduceAnd, FrameM.refl, FrameM.ite, FrameM.fold, implies_true, and_self, and_true, true_and, FrameM.iff (FrameM.upd_twin _), FrameM.iff (Blk.attachRole_frame _ _), FrameM.iff (Blk.recTwin_frame _ _ _), FrameM.iff (Blk.inc_frame _ _), FrameM.iff (Blk.complete_frame _ _ _ _)]
    | split
    | refine ⟨?_, ?_⟩
    | intro _
    | (with_reducible refine FrameM.foldI (fun _ _ => ?_) ?_)

theorem Blk.attachFail_frame (b : Blk) (code : Nat) :
    FrameM 0x200020028 b (Blk.attachFail b code) := by
  unfold Blk.attachFail
  repeat' first
    | simp only [Nat.reduceAnd, FrameM.refl, FrameM.ite, FrameM.fold, implies_true, and_self, and_true, true_and, FrameM.iff (FrameM.upd_twin _), FrameM.iff (Blk.recTwin_frame _ _ _), FrameM.iff (Blk.inc_frame _ _)]
    | split
    | refine ⟨?_, ?_⟩
    | intro _
    | (with_reducible refine FrameM.foldI (fun _ _ => ?_) ?_)

theorem Blk.attempt_frame (b : Blk) (kp : Option Bytes) (deployed : Bool) (peer : Option TwinPeer) :
    FrameM 0x6a9eb07bc b (Blk.attempt b kp deployed peer) := by
  unfold Blk.attempt
  repeat' first
    | simp only [Nat.reduceAnd, FrameM.refl, FrameM.ite, FrameM.fold, implies_true, and_self, and_true, true_and, FrameM.iff (FrameM.upd_twin _), FrameM.iff (Blk.put_frame _ _), FrameM.iff (Blk.draw_frame _ _), FrameM.iff (Blk.attachDone_frame _ _ _ _), FrameM.iff (Blk.attachFail_frame _ _)]
    | split
    | refine ⟨?_, ?_⟩
    | intro _
    | (with_reducible refine FrameM.foldI (fun _ _ => ?_) ?_)

theorem Blk.awlCalAll_frame (b : Blk) :
    FrameM 0x4000014 b (Blk.awlCalAll b) := by
  unfold Blk.awlCalAll
  repeat' first
    | simp only [Nat.reduceAnd, FrameM.refl, FrameM.ite, FrameM.fold, implies_true, and_self, and_true, true_and, FrameM.iff (Blk.draw_frame _ _), FrameM.iff (Blk.wr_frame _ _ _), FrameM.iff (Blk.setEye_frame _ _ _)]
    | split
    | refine ⟨?_, ?_⟩
    | intro _
    | (with_reducible refine FrameM.foldI (fun _ _ => ?_) ?_)

theorem Blk.awlDeliver_frame (b : Blk) (e : Nat) :
    FrameM 0x4020018 b (Blk.awlDeliver b e) := by
  unfold Blk.awlDeliver
  repeat' first
    | simp only [Nat.reduceAnd, FrameM.refl, FrameM.ite, FrameM.fold, implies_true, and_self, and_true, true_and, FrameM.iff (FrameM.upd_eyes _), FrameM.iff (Blk.setEye_frame _ _ _), FrameM.iff (Blk.awlLost_frame _ _), FrameM.iff (Blk.record_frame _ _ _ _ _ _ _)]
    | split
    | refine ⟨?_, ?_⟩
    | intro _
    | (with_reducible refine FrameM.foldI (fun _ _ => ?_) ?_)

theorem Blk.awlStatus_frame (b : Blk) (e : Nat) (code : Nat) (u : Nat) (count : Nat) :
    FrameM 0x4000010 b (Blk.awlStatus b e code u count) := by
  unfold Blk.awlStatus
  repeat' first
    | simp only [Nat.reduceAnd, FrameM.refl, FrameM.ite, FrameM.fold, implies_true, and_self, and_true, true_and, FrameM.iff (Blk.awlRec_frame _ _ _ _ _ _ _ _)]
    | split
    | refine ⟨?_, ?_⟩
    | intro _
    | (with_reducible refine FrameM.foldI (fun _ _ => ?_) ?_)

theorem Blk.badFrame_frame (b : Blk) (x : RxF) (sum : Bool) :
    FrameM 0x10000020 b (Blk.badFrame b x sum) := by
  unfold Blk.badFrame
  repeat' first
    | simp only [Nat.reduceAnd, FrameM.refl, FrameM.ite, FrameM.fold, implies_true, and_self, and_true, true_and, FrameM.iff (Blk.inc_frame _ _), FrameM.iff (Blk.rxExc_frame _ _ _)]
    | split
    | refine ⟨?_, ?_⟩
    | intro _
    | (with_reducible refine FrameM.foldI (fun _ _ => ?_) ?_)

theorem Blk.bankCheck_frame (b : Blk) :
    FrameM 0x7fc7fbfbc b (Blk.bankCheck b) := by
  unfold Blk.bankCheck
  repeat' first
    | simp only [Nat.reduceAnd, FrameM.refl, FrameM.ite, FrameM.fold, implies_true, and_self, and_true, true_and, FrameM.iff (FrameM.upd_eyes _), FrameM.iff (Blk.raiseEnv_frame _ _ _)]
    | split
    | refine ⟨?_, ?_⟩
    | intro _
    | (with_reducible refine FrameM.foldI (fun _ _ => ?_) ?_)

theorem Blk.beginDesc_frame (b : Blk) (r : Nat) (d : Desc) :
    FrameM 0x10000 b (Blk.beginDesc b r d) := by
  unfold Blk.beginDesc
  repeat' first
    | simp only [Nat.reduceAnd, FrameM.refl, FrameM.ite, FrameM.fold, implies_true, and_self, and_true, true_and, FrameM.iff (Blk.setRing_frame _ _ _)]
    | split
    | refine ⟨?_, ?_⟩
    | intro _
    | (with_reducible refine FrameM.foldI (fun _ _ => ?_) ?_)

theorem Blk.runSet_frame (b : Blk) (p : PSet) :
    FrameM 0x40000000 b (Blk.runSet b p) := by
  unfold Blk.runSet
  repeat' first
    | simp only [Nat.reduceAnd, FrameM.refl, FrameM.ite, FrameM.fold, implies_true, and_self, and_true, true_and, FrameM.iff (FrameM.upd_eng _)]
    | split
    | refine ⟨?_, ?_⟩
    | intro _
    | (with_reducible refine FrameM.foldI (fun _ _ => ?_) ?_)

theorem Blk.loadFail_frame (b : Blk) (l : PLoad) (status : Nat) (code : Nat) :
    FrameM 0x440090018 b (Blk.loadFail b l status code) := by
  unfold Blk.loadFail
  repeat' first
    | simp only [Nat.reduceAnd, FrameM.refl, FrameM.ite, FrameM.fold, implies_true, and_self, and_true, true_and, FrameM.iff (FrameM.upd_eng _), FrameM.iff (Blk.runSet_frame _ _), FrameM.iff (Blk.complete_frame _ _ _ _), FrameM.iff (Blk.setF_frame _ _)]
    | split
    | refine ⟨?_, ?_⟩
    | intro _
    | (with_reducible refine FrameM.foldI (fun _ _ => ?_) ?_)

theorem Blk.loadNext_frame (b : Blk) (l : PLoad) :
    FrameM 0x440090008 b (Blk.loadNext b l) := by
  unfold Blk.loadNext
  repeat' first
    | simp only [Nat.reduceAnd, FrameM.refl, FrameM.ite, FrameM.fold, implies_true, and_self, and_true, true_and, FrameM.iff (FrameM.upd_eng _), FrameM.iff (Blk.complete_frame _ _ _ _)]
    | split
    | refine ⟨?_, ?_⟩
    | intro _
    | (with_reducible refine FrameM.foldI (fun _ _ => ?_) ?_)

theorem Blk.benchDrained_frame (b : Blk) (svnMin : Nat) (parity : Bool) :
    FrameM 0x440090018 b (Blk.benchDrained b svnMin parity) := by
  unfold Blk.benchDrained
  repeat' first
    | simp only [Nat.reduceAnd, FrameM.refl, FrameM.ite, FrameM.fold, implies_true, and_self, and_true, true_and, FrameM.iff (Blk.loadFail_frame _ _ _ _), FrameM.iff (Blk.loadNext_frame _ _)]
    | split
    | refine ⟨?_, ?_⟩
    | intro _
    | (with_reducible refine FrameM.foldI (fun _ _ => ?_) ?_)

theorem Blk.bootLog_frame (b : Blk) (step : Nat) (result : Nat) :
    FrameM 0x10 b (Blk.bootLog b step result) := by
  unfold Blk.bootLog
  repeat' first
    | simp only [Nat.reduceAnd, FrameM.refl, FrameM.ite, FrameM.fold, implies_true, and_self, and_true, true_and, FrameM.iff (Blk.wrW_frame _ _ _), FrameM.iff (Blk.wr_frame _ _ _)]
    | split
    | refine ⟨?_, ?_⟩
    | intro _
    | (with_reducible refine FrameM.foldI (fun _ _ => ?_) ?_)

theorem Blk.bootAbandon_frame (b : Blk) :
    FrameM 0x10 b (Blk.bootAbandon b) := by
  unfold Blk.bootAbandon
  repeat' first
    | simp only [Nat.reduceAnd, FrameM.refl, FrameM.ite, FrameM.fold, implies_true, and_self, and_true, true_and, FrameM.iff (Blk.bootLog_frame _ _ _)]
    | split
    | refine ⟨?_, ?_⟩
    | intro _
    | (with_reducible refine FrameM.foldI (fun _ _ => ?_) ?_)

theorem Blk.bootAltErrors_frame (b : Blk) :
    FrameM 0x7fc7fbfbc b (Blk.bootAltErrors b) := by
  unfold Blk.bootAltErrors
  repeat' first
    | simp only [Nat.reduceAnd, FrameM.refl, FrameM.ite, FrameM.fold, implies_true, and_self, and_true, true_and, FrameM.iff (Blk.raiseEnv_frame _ _ _)]
    | split
    | refine ⟨?_, ?_⟩
    | intro _
    | (with_reducible refine FrameM.foldI (fun _ _ => ?_) ?_)

theorem Blk.bootDoneMinimal_frame (b : Blk) :
    FrameM 0x689eb27b8 b (Blk.bootDoneMinimal b) := by
  unfold Blk.bootDoneMinimal
  repeat' first
    | simp only [Nat.reduceAnd, FrameM.refl, FrameM.ite, FrameM.fold, implies_true, and_self, and_true, true_and, FrameM.iff (FrameM.upd_boot _), FrameM.iff (Blk.bootLog_frame _ _ _), FrameM.iff (Blk.modeEnter_frame _ _ _)]
    | split
    | refine ⟨?_, ?_⟩
    | intro _
    | (with_reducible refine FrameM.foldI (fun _ _ => ?_) ?_)

theorem Blk.bootFlag_frame (b : Blk) (step : Nat) (lanes0 : Nat) (lanes1 : Nat) :
    FrameM 0x2000 b (Blk.bootFlag b step lanes0 lanes1) := by
  unfold Blk.bootFlag
  repeat' first
    | simp only [Nat.reduceAnd, FrameM.refl, FrameM.ite, FrameM.fold, implies_true, and_self, and_true, true_and, FrameM.iff (FrameM.upd_boot _)]
    | split
    | refine ⟨?_, ?_⟩
    | intro _
    | (with_reducible refine FrameM.foldI (fun _ _ => ?_) ?_)

theorem Blk.bootMinimal_frame (b : Blk) :
    FrameM 0x2000 b (Blk.bootMinimal b) := by
  unfold Blk.bootMinimal
  repeat' first
    | simp only [Nat.reduceAnd, FrameM.refl, FrameM.ite, FrameM.fold, implies_true, and_self, and_true, true_and, FrameM.iff (FrameM.upd_boot _)]
    | split
    | refine ⟨?_, ?_⟩
    | intro _
    | (with_reducible refine FrameM.foldI (fun _ _ => ?_) ?_)

theorem Blk.bootFail_frame (b : Blk) (n : Nat) (result : Nat) (lanes0 : Nat) (lanes1 : Nat) :
    FrameM 0x689eb27b8 b (Blk.bootFail b n result lanes0 lanes1) := by
  unfold Blk.bootFail
  repeat' first
    | simp only [Nat.reduceAnd, FrameM.refl, FrameM.ite, FrameM.fold, implies_true, and_self, and_true, true_and, FrameM.iff (FrameM.upd_boot _), FrameM.iff (Blk.bootLog_frame _ _ _), FrameM.iff (Blk.bootDoneMinimal_frame _), FrameM.iff (Blk.satF_frame _ _ _), FrameM.iff (Blk.bootFlag_frame _ _ _ _), FrameM.iff (Blk.bootMinimal_frame _)]
    | split
    | refine ⟨?_, ?_⟩
    | intro _
    | (with_reducible refine FrameM.foldI (fun _ _ => ?_) ?_)

theorem Blk.bootFrom0_frame (b : Blk) :
    FrameM 0x2010 b (Blk.bootFrom0 b) := by
  unfold Blk.bootFrom0
  repeat' first
    | simp only [Nat.reduceAnd, FrameM.refl, FrameM.ite, FrameM.fold, implies_true, and_self, and_true, true_and, FrameM.iff (FrameM.upd_boot _), FrameM.iff (Blk.setF_frame _ _)]
    | split
    | refine ⟨?_, ?_⟩
    | intro _
    | (with_reducible refine FrameM.foldI (fun _ _ => ?_) ?_)

theorem Blk.bootRewind_frame (b : Blk) :
    FrameM 0x67f02010 b (Blk.bootRewind b) := by
  unfold Blk.bootRewind
  repeat' first
    | simp only [Nat.reduceAnd, FrameM.refl, FrameM.ite, FrameM.fold, implies_true, and_self, and_true, true_and, FrameM.iff (FrameM.upd_all11 _)]
    | split
    | refine ⟨?_, ?_⟩
    | intro _
    | (with_reducible refine FrameM.foldI (fun _ _ => ?_) ?_)

theorem Blk.bootStart_frame (b : Blk) :
    FrameM 0x200023798 b (Blk.bootStart b) := by
  unfold Blk.bootStart
  repeat' first
    | simp only [Nat.reduceAnd, FrameM.refl, FrameM.ite, FrameM.fold, implies_true, and_self, and_true, true_and, FrameM.iff (FrameM.upd_rst _), FrameM.iff (Blk.bootFrom0_frame _), FrameM.iff (Blk.changeMode_frame _ _ _)]
    | split
    | refine ⟨?_, ?_⟩
    | intro _
    | (with_reducible refine FrameM.foldI (fun _ _ => ?_) ?_)

theorem Blk.bothClaim_frame (b : Blk) :
    FrameM 0x689eb07b8 b (Blk.bothClaim b) := by
  unfold Blk.bothClaim
  repeat' first
    | simp only [Nat.reduceAnd, FrameM.refl, FrameM.ite, FrameM.fold, implies_true, and_self, and_true, true_and, FrameM.iff (FrameM.upd_twin _), FrameM.iff (Blk.toFollower_frame _), FrameM.iff (Blk.recTwin_frame _ _ _)]
    | split
    | refine ⟨?_, ?_⟩
    | intro _
    | (with_reducible refine FrameM.foldI (fun _ _ => ?_) ?_)

theorem Blk.calFail_frame (b : Blk) (c : Nat) (diff : Nat) :
    FrameM 0x7fc7fbfbc b (Blk.calFail b c diff) := by
  unfold Blk.calFail
  repeat' first
    | simp only [Nat.reduceAnd, FrameM.refl, FrameM.ite, FrameM.fold, implies_true, and_self, and_true, true_and, FrameM.iff (Blk.raiseEnv_frame _ _ _), FrameM.iff (Blk.awlStatus_frame _ _ _ _ _)]
    | split
    | refine ⟨?_, ?_⟩
    | intro _
    | (with_reducible refine FrameM.foldI (fun _ _ => ?_) ?_)

theorem Blk.rotStart_frame (b : Blk) :
    FrameM 0x4000000 b (Blk.rotStart b) := by
  unfold Blk.rotStart
  repeat' first
    | simp only [Nat.reduceAnd, FrameM.refl, FrameM.ite, FrameM.fold, implies_true, and_self, and_true, true_and, FrameM.iff (FrameM.upd_eyes _)]
    | split
    | refine ⟨?_, ?_⟩
    | intro _
    | (with_reducible refine FrameM.foldI (fun _ _ => ?_) ?_)

theorem Blk.calStart_frame (b : Blk) (f : Nat) :
    FrameM 0x4000000 b (Blk.calStart b f) := by
  unfold Blk.calStart
  repeat' first
    | simp only [Nat.reduceAnd, FrameM.refl, FrameM.ite, FrameM.fold, implies_true, and_self, and_true, true_and, FrameM.iff (Blk.rotStart_frame _)]
    | split
    | refine ⟨?_, ?_⟩
    | intro _
    | (with_reducible refine FrameM.foldI (fun _ _ => ?_) ?_)

theorem Blk.setRot_frame (b : Blk) (r : Option Rotation) :
    FrameM 0x4000000 b (Blk.setRot b r) := by
  unfold Blk.setRot
  repeat' first
    | simp only [Nat.reduceAnd, FrameM.refl, FrameM.ite, FrameM.fold, implies_true, and_self, and_true, true_and, FrameM.iff (FrameM.upd_eyes _)]
    | split
    | refine ⟨?_, ?_⟩
    | intro _
    | (with_reducible refine FrameM.foldI (fun _ _ => ?_) ?_)

theorem Blk.calStep_frame (b : Blk) (edge : Bool) (diff : Nat) (dly : Nat) :
    FrameM 0x7fc7fbfbc b (Blk.calStep b edge diff dly) := by
  unfold Blk.calStep
  repeat' first
    | simp only [Nat.reduceAnd, FrameM.refl, FrameM.ite, FrameM.fold, implies_true, and_self, and_true, true_and, FrameM.iff (Blk.setRot_frame _ _), FrameM.iff (Blk.calFail_frame _ _ _), FrameM.iff (Blk.setEye_frame _ _ _), FrameM.iff (Blk.wr_frame _ _ _), FrameM.iff (Blk.awlStatus_frame _ _ _ _ _)]
    | split
    | refine ⟨?_, ?_⟩
    | intro _
    | (with_reducible refine FrameM.foldI (fun _ _ => ?_) ?_)

theorem Blk.reInit_frame (b : Blk) (group1 : Bool) :
    FrameM 0xffffffff4 b (Blk.reInit b group1) := by
  unfold Blk.reInit
  repeat' first
    | simp only [Nat.reduceAnd, FrameM.refl, FrameM.ite, FrameM.fold, implies_true, and_self, and_true, true_and, FrameM.iff (FrameM.upd_all33 _)]
    | split
    | refine ⟨?_, ?_⟩
    | intro _
    | (with_reducible refine FrameM.foldI (fun _ _ => ?_) ?_)

theorem Blk.cfgLost_frame (b : Blk) :
    FrameM 0xffffffff4 b (Blk.cfgLost b) := by
  unfold Blk.cfgLost
  repeat' first
    | simp only [Nat.reduceAnd, FrameM.refl, FrameM.ite, FrameM.fold, implies_true, and_self, and_true, true_and, FrameM.iff (Blk.reInit_frame _ _)]
    | split
    | refine ⟨?_, ?_⟩
    | intro _
    | (with_reducible refine FrameM.foldI (fun _ _ => ?_) ?_)

theorem Blk.chatEnd_frame (b : Blk) (e : Nat) :
    FrameM 0x4000010 b (Blk.chatEnd b e) := by
  unfold Blk.chatEnd
  repeat' first
    | simp only [Nat.reduceAnd, FrameM.refl, FrameM.ite, FrameM.fold, implies_true, and_self, and_true, true_and, FrameM.iff (Blk.awlStatus_frame _ _ _ _ _), FrameM.iff (Blk.setEye_frame _ _ _)]
    | split
    | refine ⟨?_, ?_⟩
    | intro _
    | (with_reducible refine FrameM.foldI (fun _ _ => ?_) ?_)

theorem Blk.evalBound_frame (b : Blk) (kind : Nat) (obj : Nat) :
    FrameM 0x1c20008 b (Blk.evalBound b kind obj) := by
  unfold Blk.evalBound
  repeat' first
    | simp only [Nat.reduceAnd, FrameM.refl, FrameM.ite, FrameM.fold, implies_true, and_self, and_true, true_and, FrameM.iff (Blk.refsSettle_frame _), FrameM.iff (Blk.slotEval_frame _ _)]
    | split
    | refine ⟨?_, ?_⟩
    | intro _
    | (with_reducible refine FrameM.foldI (fun _ _ => ?_) ?_)

theorem Blk.esmcRx_frame (b : Blk) (x : RxF) (off : Nat) :
    FrameM 0x19c20038 b (Blk.esmcRx b x off) := by
  unfold Blk.esmcRx
  repeat' first
    | simp only [Nat.reduceAnd, FrameM.refl, FrameM.ite, FrameM.fold, implies_true, and_self, and_true, true_and, FrameM.iff (Blk.rxExc_frame _ _ _), FrameM.iff (Blk.inc_frame _ _), FrameM.iff (Blk.setPort_frame _ _ _), FrameM.iff (Blk.evalBound_frame _ _ _), FrameM.iff (Blk.setF_frame _ _)]
    | split
    | refine ⟨?_, ?_⟩
    | intro _
    | (with_reducible refine FrameM.foldI (fun _ _ => ?_) ?_)

theorem Blk.ptpPut_frame (b : Blk) (f : TxF) :
    FrameM 0x408000024 b (Blk.ptpPut b f) := by
  unfold Blk.ptpPut
  repeat' first
    | simp only [Nat.reduceAnd, FrameM.refl, FrameM.ite, FrameM.fold, implies_true, and_self, and_true, true_and, FrameM.iff (Blk.draw_frame _ _), FrameM.iff (Blk.queueFrame_frame _ _), FrameM.iff (Blk.egTake_frame _ _ _), FrameM.iff (Blk.inc_frame _ _)]
    | (rw [FrameM.iff (Blk.sendBuilt_frame _ _ _ (by assumption)) _ _ (by decide)])
    | split
    | refine ⟨?_, ?_⟩
    | intro _

theorem Blk.ptpEvent_frame (b : Blk) (p : Nat) (v : PtpVia) (h : PtpHead) (body : Bytes) (stamp : Stamp) (two : Option (Nat × Nat × Nat)) :
    FrameM 0x408000024 b (Blk.ptpEvent b p v h body stamp two) := by
  unfold Blk.ptpEvent
  repeat' first
    | simp only [Nat.reduceAnd, FrameM.refl, FrameM.ite, FrameM.fold, implies_true, and_self, and_true, true_and, FrameM.iff (Blk.ptpPut_frame _ _)]
    | split
    | refine ⟨?_, ?_⟩
    | intro _
    | (with_reducible refine FrameM.foldI (fun _ _ => ?_) ?_)

theorem Blk.sendPdelayResp_frame (b : Blk) (p : Nat) (v : PtpVia) (two : Option Nat) (uni : Bool) (m : Bytes) (tRx : Nat) :
    FrameM 0x408000024 b (Blk.sendPdelayResp b p v two uni m tRx) := by
  unfold Blk.sendPdelayResp
  repeat' first
    | simp only [Nat.reduceAnd, FrameM.refl, FrameM.ite, FrameM.fold, implies_true, and_self, and_true, true_and, FrameM.iff (Blk.ptpEvent_frame _ _ _ _ _ _ _)]
    | split
    | refine ⟨?_, ?_⟩
    | intro _
    | (with_reducible refine FrameM.foldI (fun _ _ => ?_) ?_)

theorem Blk.pdelayReq_frame (b : Blk) (x : PtpIn) :
    FrameM 0x408000024 b (Blk.pdelayReq b x) := by
  unfold Blk.pdelayReq
  repeat' first
    | simp only [Nat.reduceAnd, FrameM.refl, FrameM.ite, FrameM.fold, implies_true, and_self, and_true, true_and, FrameM.iff (Blk.sendPdelayResp_frame _ _ _ _ _ _ _), FrameM.iff (Blk.inc_frame _ _)]
    | split
    | refine ⟨?_, ?_⟩
    | intro _
    | (with_reducible refine FrameM.foldI (fun _ _ => ?_) ?_)

theorem Blk.wrPs_frame (b : Blk) (f : BF) (ps : Int) :
    FrameM 0x10 b (Blk.wrPs b f ps) := by
  unfold Blk.wrPs
  repeat' first
    | simp only [Nat.reduceAnd, FrameM.refl, FrameM.ite, FrameM.fold, implies_true, and_self, and_true, true_and, FrameM.iff (Blk.wr_frame _ _ _)]
    | split
    | refine ⟨?_, ?_⟩
    | intro _
    | (with_reducible refine FrameM.foldI (fun _ _ => ?_) ?_)

theorem Blk.setHat_frame (b : Blk) (p : Nat) (c : PClient) (win : List Int) (hat : Int) :
    FrameM 0x100000010 b (Blk.setHat b p c win hat) := by
  unfold Blk.setHat
  repeat' first
    | simp only [Nat.reduceAnd, FrameM.refl, FrameM.ite, FrameM.fold, implies_true, and_self, and_true, true_and, FrameM.iff (Blk.wrPs_frame _ _ _), FrameM.iff (Blk.setClient_frame _ _ _)]
    | split
    | refine ⟨?_, ?_⟩
    | intro _
    | (with_reducible refine FrameM.foldI (fun _ _ => ?_) ?_)

theorem Blk.pathBack_frame (b : Blk) (p : Nat) (c : PClient) :
    FrameM 0x101c20018 b (Blk.pathBack b p c) := by
  unfold Blk.pathBack
  repeat' first
    | simp only [Nat.reduceAnd, FrameM.refl, FrameM.ite, FrameM.fold, implies_true, and_self, and_true, true_and, FrameM.iff (Blk.thaw_frame _ _), FrameM.iff (Blk.setHat_frame _ _ _ _ _)]
    | split
    | refine ⟨?_, ?_⟩
    | intro _
    | (with_reducible refine FrameM.foldI (fun _ _ => ?_) ?_)

theorem Blk.estWindow_frame (b : Blk) (p : Nat) :
    FrameM 0x100000000 b (Blk.estWindow b p) := by
  unfold Blk.estWindow
  repeat' first
    | simp only [Nat.reduceAnd, FrameM.refl, FrameM.ite, FrameM.fold, implies_true, and_self, and_true, true_and, FrameM.iff (Blk.setClient_frame _ _ _)]
    | split
    | refine ⟨?_, ?_⟩
    | intro _
    | (with_reducible refine FrameM.foldI (fun _ _ => ?_) ?_)

theorem Blk.recPtp_frame (b : Blk) (port : Nat) (inst : Nat) (event : Nat) :
    FrameM 0x20008 b (Blk.recPtp b port inst event) := by
  unfold Blk.recPtp
  repeat' first
    | simp only [Nat.reduceAnd, FrameM.refl, FrameM.ite, FrameM.fold, implies_true, and_self, and_true, true_and, FrameM.iff (Blk.route_frame _ _ _ _ _ _ _)]
    | split
    | refine ⟨?_, ?_⟩
    | intro _
    | (with_reducible refine FrameM.foldI (fun _ _ => ?_) ?_)

theorem Blk.estFail_frame (b : Blk) (p : Nat) :
    FrameM 0x100020018 b (Blk.estFail b p) := by
  unfold Blk.estFail
  repeat' first
    | simp only [Nat.reduceAnd, FrameM.refl, FrameM.ite, FrameM.fold, implies_true, and_self, and_true, true_and, FrameM.iff (Blk.recPtp_frame _ _ _ _), FrameM.iff (Blk.setF_frame _ _), FrameM.iff (Blk.setClient_frame _ _ _)]
    | split
    | refine ⟨?_, ?_⟩
    | intro _
    | (with_reducible refine FrameM.foldI (fun _ _ => ?_) ?_)

theorem Blk.estBegin_frame (b : Blk) (p : Nat) (t : Nat) :
    FrameM 0x100020018 b (Blk.estBegin b p t) := by
  unfold Blk.estBegin
  repeat' first
    | simp only [Nat.reduceAnd, FrameM.refl, FrameM.ite, FrameM.fold, implies_true, and_self, and_true, true_and, FrameM.iff (Blk.setClient_frame _ _ _), FrameM.iff (Blk.estFail_frame _ _)]
    | split
    | refine ⟨?_, ?_⟩
    | intro _
    | (with_reducible refine FrameM.foldI (fun _ _ => ?_) ?_)

theorem Blk.freeze_frame (b : Blk) (p : Nat) :
    FrameM 0x1c20008 b (Blk.freeze b p) := by
  unfold Blk.freeze
  repeat' first
    | simp only [Nat.reduceAnd, FrameM.refl, FrameM.ite, FrameM.fold, implies_true, and_self, and_true, true_and, FrameM.iff (Blk.refsSettle_frame _), FrameM.iff (Blk.recRef_frame _ _ _ _ _), FrameM.iff (Blk.setSlot_frame _ _ _)]
    | split
    | refine ⟨?_, ?_⟩
    | intro _
    | (with_reducible refine FrameM.foldI (fun _ _ => ?_) ?_)

theorem Blk.pathStep_frame (b : Blk) (p : Nat) (c : PClient) (run : List Int) :
    FrameM 0x101c20038 b (Blk.pathStep b p c run) := by
  unfold Blk.pathStep
  repeat' first
    | simp only [Nat.reduceAnd, FrameM.refl, FrameM.ite, FrameM.fold, implies_true, and_self, and_true, true_and, FrameM.iff (Blk.wrPs_frame _ _ _), FrameM.iff (Blk.setHat_frame _ _ _ _ _), FrameM.iff (Blk.estBegin_frame _ _ _), FrameM.iff (Blk.freeze_frame _ _), FrameM.iff (Blk.recPtp_frame _ _ _ _), FrameM.iff (Blk.inc_frame _ _)]
    | split
    | refine ⟨?_, ?_⟩
    | intro _
    | (with_reducible refine FrameM.foldI (fun _ _ => ?_) ?_)

theorem Blk.delaySample_frame (b : Blk) (p : Nat) (d : Int) :
    FrameM 0x101c20038 b (Blk.delaySample b p d) := by
  unfold Blk.delaySample
  repeat' first
    | simp only [Nat.reduceAnd, FrameM.refl, FrameM.ite, FrameM.fold, implies_true, and_self, and_true, true_and, FrameM.iff (Blk.setHat_frame _ _ _ _ _), FrameM.iff (Blk.pathBack_frame _ _ _), FrameM.iff (Blk.estWindow_frame _ _), FrameM.iff (Blk.wrPs_frame _ _ _), FrameM.iff (Blk.incN_frame _ _ _), FrameM.iff (Blk.pathStep_frame _ _ _ _), FrameM.iff (Blk.setClient_frame _ _ _)]
    | split
    | refine ⟨?_, ?_⟩
    | intro _
    | (with_reducible refine FrameM.foldI (fun _ _ => ?_) ?_)

theorem Blk.clientPdelay_frame (b : Blk) (x : PtpIn) :
    FrameM 0x101c20038 b (Blk.clientPdelay b x) := by
  unfold Blk.clientPdelay
  repeat' first
    | simp only [Nat.reduceAnd, FrameM.refl, FrameM.ite, FrameM.fold, implies_true, and_self, and_true, true_and, FrameM.iff (Blk.setClient_frame _ _ _), FrameM.iff (Blk.delaySample_frame _ _ _)]
    | split
    | refine ⟨?_, ?_⟩
    | intro _
    | (with_reducible refine FrameM.foldI (fun _ _ => ?_) ?_)

theorem Blk.clientPdelayFup_frame (b : Blk) (p : Nat) (m : Bytes) :
    FrameM 0x101c20038 b (Blk.clientPdelayFup b p m) := by
  unfold Blk.clientPdelayFup
  repeat' first
    | simp only [Nat.reduceAnd, FrameM.refl, FrameM.ite, FrameM.fold, implies_true, and_self, and_true, true_and, FrameM.iff (Blk.delaySample_frame _ _ _), FrameM.iff (Blk.setClient_frame _ _ _)]
    | split
    | refine ⟨?_, ?_⟩
    | intro _
    | (with_reducible refine FrameM.foldI (fun _ _ => ?_) ?_)

theorem Blk.pdelayRx_frame (b : Blk) (x : PtpIn) :
    FrameM 0x509c2003c b (Blk.pdelayRx b x) := by
  unfold Blk.pdelayRx
  repeat' first
    | simp only [Nat.reduceAnd, FrameM.refl, FrameM.ite, FrameM.fold, implies_true, and_self, and_true, true_and, FrameM.iff (Blk.inc_frame _ _), FrameM.iff (Blk.pdelayReq_frame _ _), FrameM.iff (Blk.clientPdelay_frame _ _), FrameM.iff (Blk.clientPdelayFup_frame _ _ _)]
    | split
    | refine ⟨?_, ?_⟩
    | intro _
    | (with_reducible refine FrameM.foldI (fun _ _ => ?_) ?_)

theorem Blk.ptpExc_frame (b : Blk) (x : PtpIn) :
    FrameM 0x10000020 b (Blk.ptpExc b x) := by
  unfold Blk.ptpExc
  repeat' first
    | simp only [Nat.reduceAnd, FrameM.refl, FrameM.ite, FrameM.fold, implies_true, and_self, and_true, true_and, FrameM.iff (Blk.excPut_frame _ _ _ _ _ _)]
    | split
    | refine ⟨?_, ?_⟩
    | intro _
    | (with_reducible refine FrameM.foldI (fun _ _ => ?_) ?_)

theorem Blk.estCheck_frame (b : Blk) (p : Nat) :
    FrameM 0x100020018 b (Blk.estCheck b p) := by
  unfold Blk.estCheck
  repeat' first
    | simp only [Nat.reduceAnd, FrameM.refl, FrameM.ite, FrameM.fold, implies_true, and_self, and_true, true_and, FrameM.iff (Blk.estFail_frame _ _)]
    | split
    | refine ⟨?_, ?_⟩
    | intro _
    | (with_reducible refine FrameM.foldI (fun _ _ => ?_) ?_)

theorem Blk.noteQ_frame (b : Blk) (p : Nat) (k : Nat) :
    FrameM 0x100000000 b (Blk.noteQ b p k) := by
  unfold Blk.noteQ
  repeat' first
    | simp only [Nat.reduceAnd, FrameM.refl, FrameM.ite, FrameM.fold, implies_true, and_self, and_true, true_and, FrameM.iff (Blk.setClient_frame _ _ _)]
    | split
    | refine ⟨?_, ?_⟩
    | intro _
    | (with_reducible refine FrameM.foldI (fun _ _ => ?_) ?_)

theorem Blk.phaseReset_frame (b : Blk) (k : Nat) (tRef : Int) (t : Int) :
    FrameM 0x400000 b (Blk.phaseReset b k tRef t) := by
  unfold Blk.phaseReset
  repeat' first
    | simp only [Nat.reduceAnd, FrameM.refl, FrameM.ite, FrameM.fold, implies_true, and_self, and_true, true_and, FrameM.iff (FrameM.upd_refs _), FrameM.iff (Blk.setSlot_frame _ _ _)]
    | split
    | refine ⟨?_, ?_⟩
    | intro _
    | (with_reducible refine FrameM.foldI (fun _ _ => ?_) ?_)

theorem Blk.switchCompare_frame (b : Blk) (s : Switch) (tRef : Int) (t : Int) (x : Int) :
    FrameM 0x7fe7fbfbc b (Blk.switchCompare b s tRef t x) := by
  unfold Blk.switchCompare
  repeat' first
    | simp only [Nat.reduceAnd, FrameM.refl, FrameM.ite, FrameM.fold, implies_true, and_self, and_true, true_and, FrameM.iff (FrameM.upd_refs _), FrameM.iff (Blk.align_frame _ _), FrameM.iff (Blk.recRef_frame _ _ _ _ _), FrameM.iff (Blk.phaseReset_frame _ _ _ _)]
    | split
    | refine ⟨?_, ?_⟩
    | intro _
    | (with_reducible refine FrameM.foldI (fun _ _ => ?_) ?_)

theorem Blk.loopStep_frame (b : Blk) (e : Int) :
    FrameM 0x400004 b (Blk.loopStep b e) := by
  unfold Blk.loopStep
  repeat' first
    | simp only [Nat.reduceAnd, FrameM.refl, FrameM.ite, FrameM.fold, implies_true, and_self, and_true, true_and, FrameM.iff (FrameM.upd_freeCtr_refs _), FrameM.iff (FrameM.upd_refs _)]
    | split
    | refine ⟨?_, ?_⟩
    | intro _
    | (with_reducible refine FrameM.foldI (fun _ _ => ?_) ?_)

theorem Blk.loopCompare_frame (b : Blk) (k : Nat) (tRef : Int) (t : Int) :
    FrameM 0x7fe7fbfbc b (Blk.loopCompare b k tRef t) := by
  unfold Blk.loopCompare
  repeat' first
    | simp only [Nat.reduceAnd, FrameM.refl, FrameM.ite, FrameM.fold, implies_true, and_self, and_true, true_and, FrameM.iff (FrameM.upd_refs _), FrameM.iff (Blk.switchCompare_frame _ _ _ _ _), FrameM.iff (Blk.phaseReset_frame _ _ _ _), FrameM.iff (Blk.align_frame _ _), FrameM.iff (Blk.loopStep_frame _ _)]
    | split
    | refine ⟨?_, ?_⟩
    | intro _
    | (with_reducible refine FrameM.foldI (fun _ _ => ?_) ?_)

theorem Blk.slotEvent_frame (b : Blk) (k : Nat) (tRef : Int) (t : Int) (u : Nat) :
    FrameM 0x7ffffbfbc b (Blk.slotEvent b k tRef t u) := by
  unfold Blk.slotEvent
  repeat' first
    | simp only [Nat.reduceAnd, FrameM.refl, FrameM.ite, FrameM.fold, implies_true, and_self, and_true, true_and, FrameM.iff (Blk.steerSync_frame _), FrameM.iff (Blk.loopCompare_frame _ _ _ _), FrameM.iff (Blk.refsSettle_frame _), FrameM.iff (Blk.slotEval_frame _ _), FrameM.iff (Blk.setSlot_frame _ _ _)]
    | split
    | refine ⟨?_, ?_⟩
    | intro _
    | (with_reducible refine FrameM.foldI (fun _ _ => ?_) ?_)

theorem Blk.clientSync_frame (b : Blk) (p : Nat) (t1 : Int) (t2 : Int) :
    FrameM 0x7ffffbfbc b (Blk.clientSync b p t1 t2) := by
  unfold Blk.clientSync
  repeat' first
    | simp only [Nat.reduceAnd, FrameM.refl, FrameM.ite, FrameM.fold, implies_true, and_self, and_true, true_and, FrameM.iff (Blk.setClient_frame _ _ _), FrameM.iff (Blk.estCheck_frame _ _), FrameM.iff (Blk.noteQ_frame _ _ _), FrameM.iff (Blk.slotEvent_frame _ _ _ _ _)]
    | split
    | refine ⟨?_, ?_⟩
    | intro _
    | (with_reducible refine FrameM.foldI (fun _ _ => ?_) ?_)

theorem Blk.clientDelay_frame (b : Blk) (p : Nat) (m : Bytes) :
    FrameM 0x101c20038 b (Blk.clientDelay b p m) := by
  unfold Blk.clientDelay
  repeat' first
    | simp only [Nat.reduceAnd, FrameM.refl, FrameM.ite, FrameM.fold, implies_true, and_self, and_true, true_and, FrameM.iff (Blk.delaySample_frame _ _ _), FrameM.iff (Blk.setClient_frame _ _ _)]
    | split
    | refine ⟨?_, ?_⟩
    | intro _
    | (with_reducible refine FrameM.foldI (fun _ _ => ?_) ?_)

theorem Blk.clientFollow_frame (b : Blk) (p : Nat) (f : Option Foreign) :
    FrameM 0x101c20038 b (Blk.clientFollow b p f) := by
  unfold Blk.clientFollow
  repeat' first
    | simp only [Nat.reduceAnd, FrameM.refl, FrameM.ite, FrameM.fold, implies_true, and_self, and_true, true_and, FrameM.iff (Blk.setClient_frame _ _ _), FrameM.iff (Blk.estBegin_frame _ _ _), FrameM.iff (Blk.freeze_frame _ _), FrameM.iff (Blk.recPtp_frame _ _ _ _), FrameM.iff (Blk.inc_frame _ _)]
    | split
    | refine ⟨?_, ?_⟩
    | intro _
    | (with_reducible refine FrameM.foldI (fun _ _ => ?_) ?_)

theorem Blk.clientChoose_frame (b : Blk) (p : Nat) :
    FrameM 0x101c20038 b (Blk.clientChoose b p) := by
  unfold Blk.clientChoose
  repeat' first
    | simp only [Nat.reduceAnd, FrameM.refl, FrameM.ite, FrameM.fold, implies_true, and_self, and_true, true_and, FrameM.iff (Blk.clientFollow_frame _ _ _)]
    | split
    | refine ⟨?_, ?_⟩
    | intro _
    | (with_reducible refine FrameM.foldI (fun _ _ => ?_) ?_)

theorem Blk.foreignPut_frame (b : Blk) (f : Foreign) :
    FrameM 0x100000000 b (Blk.foreignPut b f) := by
  unfold Blk.foreignPut
  repeat' first
    | simp only [Nat.reduceAnd, FrameM.refl, FrameM.ite, FrameM.fold, implies_true, and_self, and_true, true_and, FrameM.iff (FrameM.upd_ptp _)]
    | split
    | refine ⟨?_, ?_⟩
    | intro _
    | (with_reducible refine FrameM.foldI (fun _ _ => ?_) ?_)

theorem Blk.clientAnnounce_frame (b : Blk) (x : PtpIn) :
    FrameM 0x101c20038 b (Blk.clientAnnounce b x) := by
  unfold Blk.clientAnnounce
  repeat' first
    | simp only [Nat.reduceAnd, FrameM.refl, FrameM.ite, FrameM.fold, implies_true, and_self, and_true, true_and, FrameM.iff (Blk.clientChoose_frame _ _), FrameM.iff (Blk.foreignPut_frame _ _)]
    | split
    | refine ⟨?_, ?_⟩
    | intro _
    | (with_reducible refine FrameM.foldI (fun _ _ => ?_) ?_)

theorem Blk.ptpGeneral_frame (b : Blk) (p : Nat) (v : PtpVia) (h : PtpHead) (body : Bytes) :
    FrameM 0x408000024 b (Blk.ptpGeneral b p v h body) := by
  unfold Blk.ptpGeneral
  repeat' first
    | simp only [Nat.reduceAnd, FrameM.refl, FrameM.ite, FrameM.fold, implies_true, and_self, and_true, true_and, FrameM.iff (Blk.ptpPut_frame _ _)]
    | split
    | refine ⟨?_, ?_⟩
    | intro _
    | (with_reducible refine FrameM.foldI (fun _ _ => ?_) ?_)

theorem Blk.sendSignal_frame (b : Blk) (p : Nat) (dom : Nat) (v : PtpVia) (target : Bytes) (tlvs : Bytes) :
    FrameM 0x508000024 b (Blk.sendSignal b p dom v target tlvs) := by
  unfold Blk.sendSignal
  repeat' first
    | simp only [Nat.reduceAnd, FrameM.refl, FrameM.ite, FrameM.fold, implies_true, and_self, and_true, true_and, FrameM.iff (FrameM.upd_ptp _), FrameM.iff (Blk.ptpGeneral_frame _ _ _ _ _)]
    | split
    | refine ⟨?_, ?_⟩
    | intro _
    | (with_reducible refine FrameM.foldI (fun _ _ => ?_) ?_)

theorem Blk.clientTlv_frame (b : Blk) (x : PtpIn) (m : Nat) (t : Nat × Nat × Nat) :
    FrameM 0x508000024 b (Blk.clientTlv b x m t) := by
  unfold Blk.clientTlv
  repeat' first
    | simp only [Nat.reduceAnd, FrameM.refl, FrameM.ite, FrameM.fold, implies_true, and_self, and_true, true_and, FrameM.iff (Blk.setClient_frame _ _ _), FrameM.iff (Blk.sendSignal_frame _ _ _ _ _ _)]
    | split
    | refine ⟨?_, ?_⟩
    | intro _
    | (with_reducible refine FrameM.foldI (fun _ _ => ?_) ?_)

theorem Blk.clientSignal_frame (b : Blk) (x : PtpIn) :
    FrameM 0x508000024 b (Blk.clientSignal b x) := by
  unfold Blk.clientSignal
  repeat' first
    | simp only [Nat.reduceAnd, FrameM.refl, FrameM.ite, FrameM.fold, implies_true, and_self, and_true, true_and, FrameM.iff (Blk.clientTlv_frame _ _ _ _)]
    | split
    | refine ⟨?_, ?_⟩
    | intro _
    | (with_reducible refine FrameM.foldI (fun _ _ => ?_) ?_)

theorem Blk.clientRx_frame (b : Blk) (x : PtpIn) :
    FrameM 0x7ffffbfbc b (Blk.clientRx b x) := by
  unfold Blk.clientRx
  repeat' first
    | simp only [Nat.reduceAnd, FrameM.refl, FrameM.ite, FrameM.fold, implies_true, and_self, and_true, true_and, FrameM.iff (Blk.setClient_frame _ _ _), FrameM.iff (Blk.clientSync_frame _ _ _ _), FrameM.iff (Blk.clientDelay_frame _ _ _), FrameM.iff (Blk.clientAnnounce_frame _ _), FrameM.iff (Blk.clientSignal_frame _ _)]
    | split
    | refine ⟨?_, ?_⟩
    | intro _
    | (with_reducible refine FrameM.foldI (fun _ _ => ?_) ?_)

theorem Blk.refuseSignal_frame (b : Blk) (x : PtpIn) :
    FrameM 0x508000024 b (Blk.refuseSignal b x) := by
  unfold Blk.refuseSignal
  repeat' first
    | simp only [Nat.reduceAnd, FrameM.refl, FrameM.ite, FrameM.fold, implies_true, and_self, and_true, true_and, FrameM.iff (Blk.incN_frame _ _ _), FrameM.iff (Blk.sendSignal_frame _ _ _ _ _ _)]
    | split
    | refine ⟨?_, ?_⟩
    | intro _
    | (with_reducible refine FrameM.foldI (fun _ _ => ?_) ?_)

end Sys2Proof.Machine
end

