-- ==== Sys2Proof/Laws/Frames3.lean ====
section
/-! SUPPORT. What each operation of the block may change, once for each: `FrameM m b (op b)` names by the bits of `m` the
pieces outside which nothing changes. Part 3 of 4, callees first. -/

set_option linter.unusedSimpArgs false
set_option linter.unusedTactic false
set_option linter.unreachableTactic false

namespace Sys2Proof.Machine

theorem Blk.domainRx_frame (b : Blk) (x : PtpIn) :
    FrameM 0x7ffffbfbc b (Blk.domainRx b x) := by
  unfold Blk.domainRx
  repeat' first
    | simp only [Nat.reduceAnd, FrameM.refl, FrameM.ite, FrameM.fold, implies_true, and_self, and_true, true_and, FrameM.iff (Blk.inc_frame _ _), FrameM.iff (Blk.ptpExc_frame _ _), FrameM.iff (Blk.clientRx_frame _ _), FrameM.iff (Blk.refuseSignal_frame _ _)]
    | split
    | refine ⟨?_, ?_⟩
    | intro _
    | (with_reducible refine FrameM.foldI (fun _ _ => ?_) ?_)

theorem Blk.sendDelayResp_frame (b : Blk) (i : Nat) (p : Nat) (v : PtpVia) (uni : Bool) (m : Bytes) (tRx : Nat) :
    FrameM 0x408000024 b (Blk.sendDelayResp b i p v uni m tRx) := by
  unfold Blk.sendDelayResp
  repeat' first
    | simp only [Nat.reduceAnd, FrameM.refl, FrameM.ite, FrameM.fold, implies_true, and_self, and_true, true_and, FrameM.iff (Blk.ptpGeneral_frame _ _ _ _ _)]
    | split
    | refine ⟨?_, ?_⟩
    | intro _
    | (with_reducible refine FrameM.foldI (fun _ _ => ?_) ?_)

theorem Blk.sessPut_frame (b : Blk) (s : PSess) :
    FrameM 0x100000000 b (Blk.sessPut b s) := by
  unfold Blk.sessPut
  repeat' first
    | simp only [Nat.reduceAnd, FrameM.refl, FrameM.ite, FrameM.fold, implies_true, and_self, and_true, true_and, FrameM.iff (FrameM.upd_ptp _)]
    | split
    | refine ⟨?_, ?_⟩
    | intro _
    | (with_reducible refine FrameM.foldI (fun _ _ => ?_) ?_)

theorem Blk.delayReq_frame (b : Blk) (x : PtpIn) (i : Nat) :
    FrameM 0x508000024 b (Blk.delayReq b x i) := by
  unfold Blk.delayReq
  repeat' first
    | simp only [Nat.reduceAnd, FrameM.refl, FrameM.ite, FrameM.fold, implies_true, and_self, and_true, true_and, FrameM.iff (Blk.inc_frame _ _), FrameM.iff (Blk.sendDelayResp_frame _ _ _ _ _ _ _), FrameM.iff (Blk.sessPut_frame _ _)]
    | split
    | refine ⟨?_, ?_⟩
    | intro _
    | (with_reducible refine FrameM.foldI (fun _ _ => ?_) ?_)

theorem Blk.instAnnounce_frame (b : Blk) (x : PtpIn) (i : Nat) :
    FrameM 0x10002002c b (Blk.instAnnounce b x i) := by
  unfold Blk.instAnnounce
  repeat' first
    | simp only [Nat.reduceAnd, FrameM.refl, FrameM.ite, FrameM.fold, implies_true, and_self, and_true, true_and, FrameM.iff (FrameM.upd_ptp _), FrameM.iff (Blk.foreignPut_frame _ _), FrameM.iff (Blk.draw_frame _ _), FrameM.iff (Blk.recPtp_frame _ _ _ _), FrameM.iff (Blk.inc_frame _ _)]
    | split
    | refine ⟨?_, ?_⟩
    | intro _
    | (with_reducible refine FrameM.foldI (fun _ _ => ?_) ?_)

theorem Blk.grantNew_frame (b : Blk) (s : PSess) (msg : Nat) (log : Int) (dur : Nat) :
    FrameM 0x100000000 b (Blk.grantNew b s msg log dur) := by
  unfold Blk.grantNew
  repeat' first
    | simp only [Nat.reduceAnd, FrameM.refl, FrameM.ite, FrameM.fold, implies_true, and_self, and_true, true_and, FrameM.iff (Blk.sessPut_frame _ _)]
    | split
    | refine ⟨?_, ?_⟩
    | intro _
    | (with_reducible refine FrameM.foldI (fun _ _ => ?_) ?_)

theorem Blk.uniRequest_frame (b : Blk) (x : PtpIn) (i : Nat) (at_ : Nat) :
    FrameM 0x100000030 b (Blk.uniRequest b x i at_).1 := by
  unfold Blk.uniRequest
  repeat' first
    | simp only [Nat.reduceAnd, snd_ite, fst_ite, FrameM.refl, FrameM.ite, FrameM.fold, implies_true, and_self, and_true, true_and, FrameM.iff (Blk.inc_frame _ _), FrameM.iff (Blk.grantNew_frame _ _ _ _ _), FrameM.iff (Blk.setF_frame _ _)]
    | split
    | refine ⟨?_, ?_⟩
    | intro _
    | (with_reducible refine FrameM.foldI (fun _ _ => ?_) ?_)

theorem Blk.uniCancel_frame (b : Blk) (x : PtpIn) (i : Nat) (at_ : Nat) :
    FrameM 0x100000000 b (Blk.uniCancel b x i at_).1 := by
  unfold Blk.uniCancel
  repeat' first
    | simp only [Nat.reduceAnd, snd_ite, fst_ite, FrameM.refl, FrameM.ite, FrameM.fold, implies_true, and_self, and_true, true_and, FrameM.iff (Blk.sessPut_frame _ _)]
    | split
    | refine ⟨?_, ?_⟩
    | intro _
    | (with_reducible refine FrameM.foldI (fun _ _ => ?_) ?_)

theorem Blk.instSignal_frame (b : Blk) (x : PtpIn) (i : Nat) :
    FrameM 0x518000034 b (Blk.instSignal b x i) := by
  have hf : ∀ (c : Blk × Bytes) (t : Nat × Nat × Nat), FrameM 0x518000034 c.1 (sigStep x i c t).1 := by
    intro c t
    unfold sigStep
    split <;> simp only [Nat.reduceAnd, FrameM.refl, FrameM.ite, FrameM.fold, implies_true, and_self, and_true, true_and, FrameM.iff (Blk.inc_frame _ _), FrameM.iff (Blk.ptpExc_frame _ _), FrameM.iff (Blk.uniRequest_frame _ _ _ _), FrameM.iff (Blk.uniCancel_frame _ _ _ _), FrameM.iff (Blk.sendSignal_frame _ _ _ _ _ _)]
  unfold Blk.instSignal
  repeat' first
    | simp only [Nat.reduceAnd, FrameM.refl, FrameM.ite, FrameM.fold, implies_true, and_self, and_true, true_and, FrameM.iff (Blk.inc_frame _ _), FrameM.iff (Blk.ptpExc_frame _ _), FrameM.iff (Blk.uniRequest_frame _ _ _ _), FrameM.iff (Blk.uniCancel_frame _ _ _ _), FrameM.iff (Blk.sendSignal_frame _ _ _ _ _ _)]
    | split
    | refine ⟨?_, ?_⟩
    | intro _
    | refine FrameM.foldFst hf ?_

theorem Blk.instRx_frame (b : Blk) (x : PtpIn) (i : Nat) :
    FrameM 0x51802003c b (Blk.instRx b x i) := by
  unfold Blk.instRx
  repeat' first
    | simp only [Nat.reduceAnd, FrameM.refl, FrameM.ite, FrameM.fold, implies_true, and_self, and_true, true_and, FrameM.iff (Blk.inc_frame _ _), FrameM.iff (Blk.ptpExc_frame _ _), FrameM.iff (Blk.delayReq_frame _ _ _), FrameM.iff (Blk.instAnnounce_frame _ _ _), FrameM.iff (Blk.instSignal_frame _ _ _)]
    | split
    | refine ⟨?_, ?_⟩
    | intro _
    | (with_reducible refine FrameM.foldI (fun _ _ => ?_) ?_)

theorem Blk.forwardTo_frame (b : Blk) (x : PtpIn) (q : Nat) :
    FrameM 0x408000020 b (Blk.forwardTo b x q) := by
  unfold Blk.forwardTo
  repeat' first
    | simp only [Nat.reduceAnd, FrameM.refl, FrameM.ite, FrameM.fold, implies_true, and_self, and_true, true_and, FrameM.iff (Blk.inc_frame _ _), FrameM.iff (Blk.queueFrame_frame _ _), FrameM.iff (Blk.egTake_frame _ _ _)]
    | exact (Blk.sendBuilt_frame _ _ _ (by assumption)).mono (by decide)
    | split
    | refine ⟨?_, ?_⟩
    | intro _

theorem Blk.forward_frame (b : Blk) (x : PtpIn) (g : Nat) :
    FrameM 0x408000020 b (Blk.forward b x g) := by
  unfold Blk.forward
  repeat' first
    | simp only [Nat.reduceAnd, FrameM.refl, FrameM.ite, FrameM.fold, implies_true, and_self, and_true, true_and, FrameM.iff (Blk.inc_frame _ _), FrameM.iff (Blk.setPort_frame _ _ _), FrameM.iff (Blk.forwardTo_frame _ _ _)]
    | split
    | refine ⟨?_, ?_⟩
    | intro _
    | (with_reducible refine FrameM.foldI (fun _ _ => ?_) ?_)

theorem Blk.ptpRows_frame (b : Blk) (x : PtpIn) :
    FrameM 0x7ffffbfbc b (Blk.ptpRows b x) := by
  unfold Blk.ptpRows
  repeat' first
    | simp only [Nat.reduceAnd, FrameM.refl, FrameM.ite, FrameM.fold, implies_true, and_self, and_true, true_and, FrameM.iff (Blk.pdelayRx_frame _ _), FrameM.iff (Blk.domainRx_frame _ _), FrameM.iff (Blk.instRx_frame _ _ _), FrameM.iff (Blk.forward_frame _ _ _), FrameM.iff (Blk.ptpExc_frame _ _)]
    | split
    | refine ⟨?_, ?_⟩
    | intro _
    | (with_reducible refine FrameM.foldI (fun _ _ => ?_) ?_)

theorem Blk.ptpRx_frame (b : Blk) (p : Nat) (tRx : Nat) (data : Bytes) (tr : Nat) (at_ : Nat) (n : Nat) :
    FrameM 0x7ffffbfbc b (Blk.ptpRx b p tRx data tr at_ n) := by
  unfold Blk.ptpRx
  repeat' first
    | simp only [Nat.reduceAnd, FrameM.refl, FrameM.ite, FrameM.fold, implies_true, and_self, and_true, true_and, FrameM.iff (Blk.inc_frame _ _), FrameM.iff (Blk.ptpRows_frame _ _)]
    | split
    | refine ⟨?_, ?_⟩
    | intro _
    | (with_reducible refine FrameM.foldI (fun _ _ => ?_) ?_)

theorem Blk.icmpRx_frame (b : Blk) (x : RxF) (p : IpPay) (hop : Nat) :
    FrameM 0x418000020 b (Blk.icmpRx b x p hop) := by
  unfold Blk.icmpRx
  repeat' first
    | simp only [Nat.reduceAnd, FrameM.refl, FrameM.ite, FrameM.fold, implies_true, and_self, and_true, true_and, FrameM.iff (Blk.rxExc_frame _ _ _), FrameM.iff (Blk.ndReply_frame _ _ _), FrameM.iff (Blk.inc_frame _ _)]
    | split
    | refine ⟨?_, ?_⟩
    | intro _
    | (with_reducible refine FrameM.foldI (fun _ _ => ?_) ?_)

theorem Blk.ntpServed_frame (b : Blk) (x : RxF) (svc : Nat) (kind : Option Nat) :
    FrameM 0x10000020 b (Blk.ntpServed b x svc kind) := by
  unfold Blk.ntpServed
  repeat' first
    | simp only [Nat.reduceAnd, FrameM.refl, FrameM.ite, FrameM.fold, implies_true, and_self, and_true, true_and, FrameM.iff (Blk.rxExc_frame _ _ _), FrameM.iff (Blk.inc_frame _ _), FrameM.iff (Blk.admit_frame _ _ _ _)]
    | split
    | refine ⟨?_, ?_⟩
    | intro _
    | (with_reducible refine FrameM.foldI (fun _ _ => ?_) ?_)

theorem Blk.ntpRx_frame (b : Blk) (x : RxF) (svc : Nat) (pay : Bytes) :
    FrameM 0x10000020 b (Blk.ntpRx b x svc pay) := by
  unfold Blk.ntpRx
  repeat' first
    | simp only [Nat.reduceAnd, FrameM.refl, FrameM.ite, FrameM.fold, implies_true, and_self, and_true, true_and, FrameM.iff (Blk.rxExc_frame _ _ _), FrameM.iff (Blk.ntpServed_frame _ _ _ _)]
    | split
    | refine ⟨?_, ?_⟩
    | intro _
    | (with_reducible refine FrameM.foldI (fun _ _ => ?_) ?_)

theorem Blk.udpRx_frame (b : Blk) (x : RxF) (p : IpPay) :
    FrameM 0x7ffffbfbc b (Blk.udpRx b x p) := by
  unfold Blk.udpRx
  repeat' first
    | simp only [Nat.reduceAnd, FrameM.refl, FrameM.ite, FrameM.fold, implies_true, and_self, and_true, true_and, FrameM.iff (Blk.ptpRx_frame _ _ _ _ _ _ _), FrameM.iff (Blk.ntpRx_frame _ _ _ _), FrameM.iff (Blk.rxExc_frame _ _ _)]
    | split
    | refine ⟨?_, ?_⟩
    | intro _
    | (with_reducible refine FrameM.foldI (fun _ _ => ?_) ?_)

theorem Blk.classify_frame (b : Blk) (x : RxF) :
    FrameM 0x7ffffbfbc b (Blk.classify b x) := by
  unfold Blk.classify
  repeat' first
    | simp only [Nat.reduceAnd, FrameM.refl, FrameM.ite, FrameM.fold, implies_true, and_self, and_true, true_and, FrameM.iff (Blk.esmcRx_frame _ _ _), FrameM.iff (Blk.rxExc_frame _ _ _), FrameM.iff (Blk.ptpRx_frame _ _ _ _ _ _ _), FrameM.iff (Blk.arpRx_frame _ _ _), FrameM.iff (Blk.icmpRx_frame _ _ _ _), FrameM.iff (Blk.udpRx_frame _ _ _)]
    | split
    | refine ⟨?_, ?_⟩
    | intro _
    | (with_reducible refine FrameM.foldI (fun _ _ => ?_) ?_)

theorem Blk.clientRenew_frame (b : Blk) (p : Nat) (m : Nat) (msg : Nat) :
    FrameM 0x508000024 b (Blk.clientRenew b p m msg) := by
  unfold Blk.clientRenew
  repeat' first
    | simp only [Nat.reduceAnd, FrameM.refl, FrameM.ite, FrameM.fold, implies_true, and_self, and_true, true_and, FrameM.iff (Blk.sendSignal_frame _ _ _ _ _ _)]
    | split
    | refine ⟨?_, ?_⟩
    | intro _
    | (with_reducible refine FrameM.foldI (fun _ _ => ?_) ?_)

theorem Blk.ptpSeqNext_frame (b : Blk) (k : Nat) :
    FrameM 0x100000000 b (Blk.ptpSeqNext b k) := by
  unfold Blk.ptpSeqNext
  repeat' first
    | simp only [Nat.reduceAnd, FrameM.refl, FrameM.ite, FrameM.fold, implies_true, and_self, and_true, true_and, FrameM.iff (FrameM.upd_ptp _)]
    | split
    | refine ⟨?_, ?_⟩
    | intro _
    | (with_reducible refine FrameM.foldI (fun _ _ => ?_) ?_)

theorem Blk.clientRequest_frame (b : Blk) (p : Nat) :
    FrameM 0x508000024 b (Blk.clientRequest b p) := by
  unfold Blk.clientRequest
  repeat' first
    | simp only [Nat.reduceAnd, FrameM.refl, FrameM.ite, FrameM.fold, implies_true, and_self, and_true, true_and, FrameM.iff (Blk.ptpSeqNext_frame _ _), FrameM.iff (Blk.setClient_frame _ _ _), FrameM.iff (Blk.ptpEvent_frame _ _ _ _ _ _ _)]
    | split
    | refine ⟨?_, ?_⟩
    | intro _
    | (with_reducible refine FrameM.foldI (fun _ _ => ?_) ?_)

theorem Blk.dropNoFit_frame (b : Blk) (p : Nat) (y2 : Nat) :
    FrameM 0x488290028 b (Blk.dropNoFit b p y2) := by
  induction y2 generalizing b with
  | zero => unfold Blk.dropNoFit; simp only [FrameM.refl]
  | succ n ih =>
    unfold Blk.dropNoFit
    repeat' first
      | simp only [FrameM.iff (ih _),  Nat.reduceAnd, FrameM.refl, FrameM.ite, FrameM.fold, implies_true, and_self, and_true, true_and, FrameM.iff (Blk.setPort_frame _ _ _), FrameM.iff (Blk.frameDone_frame _ _ _), FrameM.iff (Blk.inc_frame _ _), FrameM.iff (Blk.frameFree_frame _ _)]
      | split
      | refine ⟨?_, ?_⟩
      | intro _

theorem Blk.takeFrame_frame (b : Blk) (f : TxF) :
    FrameM 0x8000000 b (Blk.takeFrame b f) := by
  unfold Blk.takeFrame
  repeat' first
    | simp only [Nat.reduceAnd, FrameM.refl, FrameM.ite, FrameM.fold, implies_true, and_self, and_true, true_and, FrameM.iff (Blk.setPort_frame _ _ _)]
    | split
    | refine ⟨?_, ?_⟩
    | intro _
    | (with_reducible refine FrameM.foldI (fun _ _ => ?_) ?_)

theorem Blk.closerCommit_frame (b : Blk) (p : Nat) :
    FrameM 0x488290028 b (Blk.closerCommit b p) := by
  unfold Blk.closerCommit
  repeat' first
    | simp only [Nat.reduceAnd, FrameM.refl, FrameM.ite, FrameM.fold, implies_true, and_self, and_true, true_and, FrameM.iff (Blk.dropNoFit_frame _ _ _), FrameM.iff (Blk.commitFrame_frame _ _ _), FrameM.iff (Blk.takeFrame_frame _ _), FrameM.iff (Blk.pmcEvent_frame _ _ _ _), FrameM.iff (Blk.setPort_frame _ _ _)]
    | split
    | refine ⟨?_, ?_⟩
    | intro _
    | (with_reducible refine FrameM.foldI (fun _ _ => ?_) ?_)

theorem Blk.completeBusy_frame (b : Blk) (r : DRef) :
    FrameM 0x400090008 b (Blk.completeBusy b r) := by
  unfold Blk.completeBusy
  repeat' first
    | simp only [Nat.reduceAnd, FrameM.refl, FrameM.ite, FrameM.fold, implies_true, and_self, and_true, true_and, FrameM.iff (FrameM.upd_flow _), FrameM.iff (Blk.complete_frame _ _ _ _)]
    | split
    | refine ⟨?_, ?_⟩
    | intro _
    | (with_reducible refine FrameM.foldI (fun _ _ => ?_) ?_)

theorem Blk.countFate_frame (b : Blk) (e : Nat) (f : EdgeFate) :
    FrameM 0x10 b (Blk.countFate b e f) := by
  unfold Blk.countFate
  repeat' first
    | simp only [Nat.reduceAnd, FrameM.refl, FrameM.ite, FrameM.fold, implies_true, and_self, and_true, true_and, FrameM.iff (Blk.addF_frame _ _ _)]
    | split
    | refine ⟨?_, ?_⟩
    | intro _
    | (with_reducible refine FrameM.foldI (fun _ _ => ?_) ?_)

theorem Blk.latchAt_frame (b : Blk) (f : Nat) (off : Nat) (y3 : List Nat) :
    FrameM 0x40 b (Blk.latchAt b f off y3) := by
  induction y3 generalizing b off with
  | nil => unfold Blk.latchAt; simp only [FrameM.refl]
  | cons v rest ih =>
    unfold Blk.latchAt
    repeat' first
      | simp only [FrameM.iff (ih _ _),  Nat.reduceAnd, FrameM.refl, FrameM.ite, FrameM.fold, implies_true, and_self, and_true, true_and, FrameM.iff (FrameM.upd_latch _)]
      | split
      | refine ⟨?_, ?_⟩
      | intro _

theorem Blk.ctrRead_frame (b : Blk) (f : Nat) (lo : Nat) :
    FrameM 0x40 b (Blk.ctrRead b f lo).1 := by
  unfold Blk.ctrRead
  repeat' first
    | simp only [Nat.reduceAnd, snd_ite, fst_ite, FrameM.refl, FrameM.ite, FrameM.fold, implies_true, and_self, and_true, true_and, FrameM.iff (Blk.latchAt_frame _ _ _ _)]
    | split
    | refine ⟨?_, ?_⟩
    | intro _
    | (with_reducible refine FrameM.foldI (fun _ _ => ?_) ?_)

theorem Blk.counterRead_frame (b : Blk) (f : Nat) (off : Nat) :
    FrameM 0x58 b (Blk.counterRead b f off) := by
  unfold Blk.counterRead Blk.readFor
  repeat' first
    | simp only [Nat.reduceAnd, FrameM.refl, FrameM.ite, FrameM.fold, implies_true, and_self, and_true, true_and, FrameM.iff (Blk.put_frame _ _), FrameM.iff (Blk.accErr_frame _ _ _ _ _), FrameM.iff (Blk.ctrRead_frame _ _ _)]
    | split
    | refine ⟨?_, ?_⟩
    | intro _
    | (with_reducible refine FrameM.foldI (fun _ _ => ?_) ?_)

theorem Blk.ctOpAsk_frame (b : Blk) (ref : DRef) (bkt : Nat) (esc : Bool) :
    FrameM 0x420090038 b (Blk.ctOpAsk b ref bkt esc) := by
  unfold Blk.ctOpAsk
  repeat' first
    | simp only [Nat.reduceAnd, FrameM.refl, FrameM.ite, FrameM.fold, implies_true, and_self, and_true, true_and, FrameM.iff (FrameM.upd_ct_flow _), FrameM.iff (FrameM.upd_ct _), FrameM.iff (Blk.ctOpNow_frame _ _), FrameM.iff (Blk.inc_frame _ _)]
    | split
    | refine ⟨?_, ?_⟩
    | intro _
    | (with_reducible refine FrameM.foldI (fun _ _ => ?_) ?_)

theorem Blk.setBegun_frame (b : Blk) (ref : DRef) (v : Bool) :
    FrameM 0x10000 b (Blk.setBegun b ref v) := by
  unfold Blk.setBegun
  repeat' first
    | simp only [Nat.reduceAnd, FrameM.refl, FrameM.ite, FrameM.fold, implies_true, and_self, and_true, true_and, FrameM.iff (Blk.setRing_frame _ _ _)]
    | split
    | refine ⟨?_, ?_⟩
    | intro _
    | (with_reducible refine FrameM.foldI (fun _ _ => ?_) ?_)

theorem Blk.ctRowOp_frame (b : Blk) (ref : DRef) (d : Bytes) :
    FrameM 0x420090038 b (Blk.ctRowOp b ref d) := by
  unfold Blk.ctRowOp
  repeat' first
    | simp only [Nat.reduceAnd, FrameM.refl, FrameM.ite, FrameM.fold, implies_true, and_self, and_true, true_and, FrameM.iff (Blk.complete_frame _ _ _ _), FrameM.iff (Blk.setBegun_frame _ _ _), FrameM.iff (Blk.ctOpAsk_frame _ _ _ _)]
    | split
    | refine ⟨?_, ?_⟩
    | intro _
    | (with_reducible refine FrameM.foldI (fun _ _ => ?_) ?_)

theorem Blk.ctRow_frame (b : Blk) (r : Nat) (sub : Nat) :
    FrameM 0x420090038 b (Blk.ctRow b r sub) := by
  unfold Blk.ctRow Blk.withDesc
  repeat' first
    | simp only [Nat.reduceAnd, FrameM.refl, FrameM.ite, FrameM.fold, implies_true, and_self, and_true, true_and, FrameM.iff (Blk.beginDesc_frame _ _ _), FrameM.iff (Blk.ctRowOp_frame _ _ _)]
    | split
    | refine ⟨?_, ?_⟩
    | intro _
    | (with_reducible refine FrameM.foldI (fun _ _ => ?_) ?_)

theorem Blk.decideRow_frame (b : Blk) (v : Inv) :
    FrameM 0x30 b (Blk.decideRow b v).1 := by
  unfold Blk.decideRow
  repeat' first
    | simp only [Nat.reduceAnd, snd_ite, fst_ite, FrameM.refl, FrameM.ite, FrameM.fold, implies_true, and_self, and_true, true_and, FrameM.iff (Blk.aclCount_frame _ _), FrameM.iff (Blk.inc_frame _ _)]
    | split
    | refine ⟨?_, ?_⟩
    | intro _
    | (with_reducible refine FrameM.foldI (fun _ _ => ?_) ?_)

theorem Blk.ntsCheck_frame (b : Blk) (q : NtsReq) :
    FrameM 0x20 b (Blk.ntsCheck b q).1 := by
  unfold Blk.ntsCheck
  repeat' first
    | simp only [Nat.reduceAnd, snd_ite, fst_ite, FrameM.refl, FrameM.ite, FrameM.fold, implies_true, and_self, and_true, true_and, FrameM.iff (Blk.inc_frame _ _)]
    | split
    | refine ⟨?_, ?_⟩
    | intro _
    | (with_reducible refine FrameM.foldI (fun _ _ => ?_) ?_)

theorem Blk.decideNts_frame (b : Blk) (v : Inv) (q : NtsReq) :
    FrameM 0x80000030 b (Blk.decideNts b v q).1 := by
  unfold Blk.decideNts
  repeat' first
    | simp only [Nat.reduceAnd, snd_ite, fst_ite, FrameM.refl, FrameM.ite, FrameM.fold, implies_true, and_self, and_true, true_and, FrameM.iff (Blk.decideRow_frame _ _), FrameM.iff (Blk.ntsCheck_frame _ _), FrameM.iff (Blk.setCtx_frame _ _ _)]
    | split
    | refine ⟨?_, ?_⟩
    | intro _
    | (with_reducible refine FrameM.foldI (fun _ _ => ?_) ?_)

theorem Blk.decideReq_frame (b : Blk) (lane : Nat) (v : Inv) :
    FrameM 0xc0000030 b (Blk.decideReq b lane v) := by
  unfold Blk.decideReq
  repeat' first
    | simp only [Nat.reduceAnd, FrameM.refl, FrameM.ite, FrameM.fold, implies_true, and_self, and_true, true_and, FrameM.iff (Blk.decideRow_frame _ _), FrameM.iff (Blk.decideNts_frame _ _ _), FrameM.iff (Blk.setInv_frame _ _ _)]
    | split
    | refine ⟨?_, ?_⟩
    | intro _
    | (with_reducible refine FrameM.foldI (fun _ _ => ?_) ?_)

theorem Blk.derive_frame (b : Blk) :
    FrameM 0x800080000 b (Blk.derive b) := by
  unfold Blk.derive
  repeat' first
    | simp only [Nat.reduceAnd, FrameM.refl, FrameM.ite, FrameM.fold, implies_true, and_self, and_true, true_and, FrameM.iff (FrameM.upd_pmc_featAbsent _)]
    | split
    | refine ⟨?_, ?_⟩
    | intro _
    | (with_reducible refine FrameM.foldI (fun _ _ => ?_) ?_)

theorem Blk.devRelease_frame (b : Blk) (code : Nat) :
    FrameM 0x1000 b (Blk.devRelease b code) := by
  unfold Blk.devRelease
  repeat' first
    | simp only [Nat.reduceAnd, FrameM.refl, FrameM.ite, FrameM.fold, implies_true, and_self, and_true, true_and, FrameM.iff (FrameM.upd_rst _)]
    | split
    | refine ⟨?_, ?_⟩
    | intro _
    | (with_reducible refine FrameM.foldI (fun _ _ => ?_) ?_)

theorem Blk.devReset_frame (b : Blk) (code : Nat) :
    FrameM 0xffffffff4 b (Blk.devReset b code) := by
  unfold Blk.devReset
  repeat' first
    | simp only [Nat.reduceAnd, FrameM.refl, FrameM.ite, FrameM.fold, implies_true, and_self, and_true, true_and, FrameM.iff (FrameM.upd_rst _), FrameM.iff (Blk.bootAbandon_frame _), FrameM.iff (Blk.reInit_frame _ _), FrameM.iff (Blk.satF_frame _ _ _)]
    | split
    | refine ⟨?_, ?_⟩
    | intro _
    | (with_reducible refine FrameM.foldI (fun _ _ => ?_) ?_)

theorem Blk.reloadOp_frame (b : Blk) (ok : Bool) :
    FrameM 0x7fc7fbfbc b (Blk.reloadOp b ok) := by
  unfold Blk.reloadOp
  repeat' first
    | simp only [Nat.reduceAnd, FrameM.refl, FrameM.ite, FrameM.fold, implies_true, and_self, and_true, true_and, FrameM.iff (FrameM.upd_eng _), FrameM.iff (Blk.runSet_frame _ _), FrameM.iff (Blk.raiseEnv_frame _ _ _)]
    | split
    | refine ⟨?_, ?_⟩
    | intro _
    | (with_reducible refine FrameM.foldI (fun _ _ => ?_) ?_)

theorem Blk.diagExit_frame (b : Blk) (ok : Bool) :
    FrameM 0x7fdffbfbc b (Blk.diagExit b ok) := by
  unfold Blk.diagExit
  repeat' first
    | simp only [Nat.reduceAnd, FrameM.refl, FrameM.ite, FrameM.fold, implies_true, and_self, and_true, true_and, FrameM.iff (FrameM.upd_modeReq _), FrameM.iff (Blk.complete_frame _ _ _ _), FrameM.iff (Blk.modeEnter_frame _ _ _), FrameM.iff (Blk.reloadOp_frame _ _), FrameM.iff (Blk.allBenchWork_frame _)]
    | split
    | refine ⟨?_, ?_⟩
    | intro _
    | (with_reducible refine FrameM.foldI (fun _ _ => ?_) ?_)

theorem Blk.reqPut_frame (b : Blk) (r : Req) :
    FrameM 0x10000000 b (Blk.reqPut b r) := by
  unfold Blk.reqPut
  repeat' first
    | simp only [Nat.reduceAnd, FrameM.refl, FrameM.ite, FrameM.fold, implies_true, and_self, and_true, true_and, FrameM.iff (FrameM.upd_clk _)]
    | split
    | refine ⟨?_, ?_⟩
    | intro _
    | (with_reducible refine FrameM.foldI (fun _ _ => ?_) ?_)

theorem Blk.reqReserve_frame (b : Blk) (r : Req) :
    FrameM 0x410000020 b (Blk.reqReserve b r).1 := by
  unfold Blk.reqReserve
  repeat' first
    | simp only [Nat.reduceAnd, snd_ite, fst_ite, FrameM.refl, FrameM.ite, FrameM.fold, implies_true, and_self, and_true, true_and, FrameM.iff (Blk.reqPut_frame _ _), FrameM.iff (Blk.egTake_frame _ _ _), FrameM.iff (Blk.inc_frame _ _)]
    | split
    | refine ⟨?_, ?_⟩
    | intro _
    | (with_reducible refine FrameM.foldI (fun _ _ => ?_) ?_)

theorem Blk.tryHead_frame (b : Blk) (r : Req) :
    FrameM 0x4f0080020 b (Blk.tryHead b r).1 := by
  unfold Blk.tryHead
  have h := Blk.reqReserve_frame b r
  split
  all_goals
    rename_i heq
    rw [heq] at h
    replace h := h.mono (q := 0x4f0080020) (by decide)
    repeat' first
      | exact h
      | simp only [Nat.reduceAnd, snd_ite, fst_ite, FrameM.refl, FrameM.ite, FrameM.fold, implies_true, and_self, and_true, true_and, FrameM.iff (Blk.reqReserve_frame _ _), FrameM.iff (Blk.assign_frame _ _ _ _), FrameM.iff (Blk.reqPut_frame _ _)]
      | split

theorem Blk.tryHeads_frame (b : Blk) (y1 : List Req) :
    FrameM 0x4f0080020 b (Blk.tryHeads b y1) := by
  induction y1 generalizing b with
  | nil => unfold Blk.tryHeads; simp only [FrameM.refl]
  | cons r rest ih =>
    unfold Blk.tryHeads
    have h := Blk.tryHead_frame b r
    split
    all_goals
      rename_i heq
      rw [heq] at h
    · exact h
    · rw [FrameM.iff (ih _) _ _ (by decide)]; exact h

theorem Blk.dispatch_frame (b : Blk) :
    FrameM 0x4f0080020 b (Blk.dispatch b) := by
  unfold Blk.dispatch
  repeat' first
    | simp only [Nat.reduceAnd, FrameM.refl, FrameM.ite, FrameM.fold, implies_true, and_self, and_true, true_and, FrameM.iff (Blk.place_frame _ _ _ _), FrameM.iff (Blk.setCtx_frame _ _ _), FrameM.iff (Blk.tryHeads_frame _ _)]
    | split
    | refine ⟨?_, ?_⟩
    | intro _
    | (with_reducible refine FrameM.foldI (fun _ _ => ?_) ?_)

theorem Blk.drainPaused_frame (b : Blk) (p : Nat) :
    FrameM 0x488290028 b (Blk.drainPaused b p) := by
  unfold Blk.drainPaused
  repeat' first
    | simp only [Nat.reduceAnd, FrameM.refl, FrameM.ite, FrameM.fold, implies_true, and_self, and_true, true_and, FrameM.iff (Blk.setPort_frame _ _ _), FrameM.iff (Blk.frameDrop_frame _ _ _ _)]
    | split
    | refine ⟨?_, ?_⟩
    | intro _
    | (with_reducible refine FrameM.foldI (fun _ _ => ?_) ?_)

theorem Blk.handOver_frame (b : Blk) :
    FrameM 0x200000028 b (Blk.handOver b) := by
  unfold Blk.handOver
  repeat' first
    | simp only [Nat.reduceAnd, FrameM.refl, FrameM.ite, FrameM.fold, implies_true, and_self, and_true, true_and, FrameM.iff (FrameM.upd_twin _), FrameM.iff (Blk.put_frame _ _), FrameM.iff (Blk.inc_frame _ _)]
    | split
    | refine ⟨?_, ?_⟩
    | intro _
    | (with_reducible refine FrameM.foldI (fun _ _ => ?_) ?_)

theorem Blk.drainDone_frame (b : Blk) :
    FrameM 0x689eb0fb8 b (Blk.drainDone b) := by
  unfold Blk.drainDone
  repeat' first
    | simp only [Nat.reduceAnd, FrameM.refl, FrameM.ite, FrameM.fold, implies_true, and_self, and_true, true_and, FrameM.iff (FrameM.upd_modeReq _), FrameM.iff (Blk.drainPaused_frame _ _), FrameM.iff (Blk.handOver_frame _), FrameM.iff (Blk.complete_frame _ _ _ _), FrameM.iff (Blk.modeEnter_frame _ _ _)]
    | split
    | refine ⟨?_, ?_⟩
    | intro _
    | (with_reducible refine FrameM.foldI (fun _ _ => ?_) ?_)

theorem Blk.edgeOut_frame (b : Blk) (u : Nat) (leading : Bool) (t : Int) :
    FrameM 0x8 b (Blk.edgeOut b u leading t) := by
  unfold Blk.edgeOut
  repeat' first
    | simp only [Nat.reduceAnd, FrameM.refl, FrameM.ite, FrameM.fold, implies_true, and_self, and_true, true_and, FrameM.iff (Blk.put_frame _ _)]
    | split
    | refine ⟨?_, ?_⟩
    | intro _
    | (with_reducible refine FrameM.foldI (fun _ _ => ?_) ?_)

theorem Blk.egExpirePort_frame (b : Blk) (p : Nat) :
    FrameM 0x488290028 b (Blk.egExpirePort b p) := by
  unfold Blk.egExpirePort
  repeat' first
    | simp only [Nat.reduceAnd, FrameM.refl, FrameM.ite, FrameM.fold, implies_true, and_self, and_true, true_and, FrameM.iff (Blk.setPort_frame _ _ _), FrameM.iff (Blk.inc_frame _ _), FrameM.iff (Blk.frameDrop_frame _ _ _ _)]
    | split
    | refine ⟨?_, ?_⟩
    | intro _
    | (with_reducible refine FrameM.foldI (fun _ _ => ?_) ?_)

theorem Blk.reweigh_frame (b : Blk) :
    FrameM 0x400000 b (Blk.reweigh b) := by
  unfold Blk.reweigh
  repeat' first
    | simp only [Nat.reduceAnd, FrameM.refl, FrameM.ite, FrameM.fold, implies_true, and_self, and_true, true_and, FrameM.iff (Blk.setSlot_frame _ _ _)]
    | split
    | refine ⟨?_, ?_⟩
    | intro _
    | (with_reducible refine FrameM.foldI (fun _ _ => ?_) ?_)

theorem Blk.ensembleUpdate_frame (b : Blk) :
    FrameM 0x400000 b (Blk.ensembleUpdate b) := by
  unfold Blk.ensembleUpdate
  repeat' first
    | simp only [Nat.reduceAnd, FrameM.refl, FrameM.ite, FrameM.fold, implies_true, and_self, and_true, true_and, FrameM.iff (FrameM.upd_refs _), FrameM.iff (Blk.setSlot_frame _ _ _), FrameM.iff (Blk.reweigh_frame _)]
    | split
    | refine ⟨?_, ?_⟩
    | intro _
    | (with_reducible refine FrameM.foldI (fun _ _ => ?_) ?_)

theorem Blk.epochInstall_frame (b : Blk) (n : Nat) (k : KeyReq) :
    FrameM 0x7fc7fbfbc b (Blk.epochInstall b n k) := by
  unfold Blk.epochInstall
  repeat' first
    | simp only [Nat.reduceAnd, FrameM.refl, FrameM.ite, FrameM.fold, implies_true, and_self, and_true, true_and, FrameM.iff (FrameM.upd_laster _), FrameM.iff (Blk.epochState_frame _ _ _), FrameM.iff (Blk.setEpoch_frame _ _ _), FrameM.iff (Blk.keyActivate_frame _ _)]
    | split
    | refine ⟨?_, ?_⟩
    | intro _
    | (with_reducible refine FrameM.foldI (fun _ _ => ?_) ?_)

theorem Blk.keyPlace_frame (b : Blk) (ref : DRef) (k : KeyReq) :
    FrameM 0x7fc7fbfbc b (Blk.keyPlace b ref k) := by
  unfold Blk.keyPlace
  repeat' first
    | simp only [Nat.reduceAnd, FrameM.refl, FrameM.ite, FrameM.fold, implies_true, and_self, and_true, true_and, FrameM.iff (FrameM.upd_nts _), FrameM.iff (Blk.complete_frame _ _ _ _), FrameM.iff (Blk.epochInstall_frame _ _ _)]
    | split
    | refine ⟨?_, ?_⟩
    | intro _
    | (with_reducible refine FrameM.foldI (fun _ _ => ?_) ?_)

theorem Blk.epochEmpty_frame (b : Blk) (n : Nat) :
    FrameM 0x7fc7fbfbc b (Blk.epochEmpty b n) := by
  unfold Blk.epochEmpty
  repeat' first
    | simp only [Nat.reduceAnd, FrameM.refl, FrameM.ite, FrameM.fold, implies_true, and_self, and_true, true_and, FrameM.iff (FrameM.upd_ctr _), FrameM.iff (FrameM.upd_nts _), FrameM.iff (Blk.recNts_frame _ _ _ _), FrameM.iff (Blk.setEpoch_frame _ _ _), FrameM.iff (Blk.setF_frame _ _), FrameM.iff (Blk.complete_frame _ _ _ _), FrameM.iff (Blk.keyPlace_frame _ _ _)]
    | split
    | refine ⟨?_, ?_⟩
    | intro _
    | (with_reducible refine FrameM.foldI (fun _ _ => ?_) ?_)

theorem Blk.epochMirror_frame (b : Blk) (n : Nat) (st : Nat) (id : Nat) (key : Bytes) (act : Nat) (exp : Nat) :
    FrameM 0x7fc7fbfbc b (Blk.epochMirror b n st id key act exp) := by
  unfold Blk.epochMirror
  repeat' first
    | simp only [Nat.reduceAnd, FrameM.refl, FrameM.ite, FrameM.fold, implies_true, and_self, and_true, true_and, FrameM.iff (FrameM.upd_laster _), FrameM.iff (Blk.withNoSeal_frame _ _), FrameM.iff (Blk.setEpoch_frame _ _ _)]
    | split
    | refine ⟨?_, ?_⟩
    | intro _
    | (with_reducible refine FrameM.foldI (fun _ _ => ?_) ?_)

theorem Blk.epochWait_frame (b : Blk) (n : Nat) (ref : DRef) :
    FrameM 0x80000000 b (Blk.epochWait b n ref) := by
  unfold Blk.epochWait
  repeat' first
    | simp only [Nat.reduceAnd, FrameM.refl, FrameM.ite, FrameM.fold, implies_true, and_self, and_true, true_and, FrameM.iff (Blk.setEpoch_frame _ _ _)]
    | split
    | refine ⟨?_, ?_⟩
    | intro _
    | (with_reducible refine FrameM.foldI (fun _ _ => ?_) ?_)

theorem Blk.staleDel_frame (b : Blk) (l : List Nat) :
    FrameM 0x80000000 b (Blk.staleDel b l) := by
  unfold Blk.staleDel
  repeat' first
    | simp only [Nat.reduceAnd, FrameM.refl, FrameM.ite, FrameM.fold, implies_true, and_self, and_true, true_and, FrameM.iff (FrameM.upd_nts _)]
    | split
    | refine ⟨?_, ?_⟩
    | intro _
    | (with_reducible refine FrameM.foldI (fun _ _ => ?_) ?_)

theorem Blk.errEnd_frame (b : Blk) (j : ErrJob) :
    FrameM 0x80060008 b (Blk.errEnd b j) := by
  unfold Blk.errEnd
  repeat' first
    | simp only [Nat.reduceAnd, FrameM.refl, FrameM.ite, FrameM.fold, implies_true, and_self, and_true, true_and, FrameM.iff (FrameM.upd_nts _), FrameM.iff (Blk.staleDel_frame _ _), FrameM.iff (Blk.errRecord_frame _ _), FrameM.iff (Blk.errEdit_frame _ _ _)]
    | split
    | refine ⟨?_, ?_⟩
    | intro _
    | (with_reducible refine FrameM.foldI (fun _ _ => ?_) ?_)

theorem Blk.errNext_frame (b : Blk) (ended : ErrJob) (y2 : Nat) :
    FrameM 0x7fc7fbfbc b (Blk.errNext b ended y2) := by
  induction y2 generalizing b ended with
  | zero => unfold Blk.errNext; simp only [FrameM.refl]
  | succ n ih =>
    unfold Blk.errNext
    repeat' first
      | simp only [FrameM.iff (ih _ _),  Nat.reduceAnd, FrameM.refl, FrameM.ite, FrameM.fold, implies_true, and_self, and_true, true_and, FrameM.iff (FrameM.upd_err _), FrameM.iff (Blk.errEnd_frame _ _), FrameM.iff (Blk.errStart_frame _ _)]
      | split
      | refine ⟨?_, ?_⟩
      | intro _

theorem Blk.errDone_frame (b : Blk) :
    FrameM 0x7fc7fbfbc b (Blk.errDone b) := by
  unfold Blk.errDone
  repeat' first
    | simp only [Nat.reduceAnd, FrameM.refl, FrameM.ite, FrameM.fold, implies_true, and_self, and_true, true_and, FrameM.iff (FrameM.upd_err _), FrameM.iff (Blk.errEnd_frame _ _), FrameM.iff (Blk.follow_frame _ _), FrameM.iff (Blk.errNext_frame _ _ _)]
    | split
    | refine ⟨?_, ?_⟩
    | intro _
    | (with_reducible refine FrameM.foldI (fun _ _ => ?_) ?_)

theorem Blk.errLogRead_frame (b : Blk) (f : Nat) (i : Nat) :
    FrameM 0x40 b (Blk.errLogRead b f i).1 := by
  unfold Blk.errLogRead
  repeat' first
    | simp only [Nat.reduceAnd, snd_ite, fst_ite, FrameM.refl, FrameM.ite, FrameM.fold, implies_true, and_self, and_true, true_and, FrameM.iff (Blk.latchAt_frame _ _ _ _)]
    | split
    | refine ⟨?_, ?_⟩
    | intro _
    | (with_reducible refine FrameM.foldI (fun _ _ => ?_) ?_)

theorem Blk.txGrant_frame (b : Blk) (f : TxF) :
    FrameM 0x408290028 b (Blk.txGrant b f) := by
  unfold Blk.txGrant
  repeat' first
    | simp only [Nat.reduceAnd, FrameM.refl, FrameM.ite, FrameM.fold, implies_true, and_self, and_true, true_and, FrameM.iff (Blk.armHost_frame _ _ _), FrameM.iff (Blk.egTake_frame _ _ _), FrameM.iff (Blk.queueFrame_frame _ _), FrameM.iff (Blk.frameDone_frame _ _ _), FrameM.iff (Blk.inc_frame _ _)]
    | split
    | refine ⟨?_, ?_⟩
    | intro _
    | (with_reducible refine FrameM.foldI (fun _ _ => ?_) ?_)

theorem Blk.txRetryN_frame (b : Blk) (y1 : Nat) :
    FrameM 0x408290028 b (Blk.txRetryN b y1) := by
  induction y1 generalizing b with
  | zero => unfold Blk.txRetryN; simp only [FrameM.refl]
  | succ n ih =>
    unfold Blk.txRetryN
    repeat' first
      | simp only [FrameM.iff (ih _),  Nat.reduceAnd, FrameM.refl, FrameM.ite, FrameM.fold, implies_true, and_self, and_true, true_and, FrameM.iff (FrameM.upd_flow _), FrameM.iff (Blk.setBegun_frame _ _ _), FrameM.iff (Blk.txGrant_frame _ _)]
      | split
      | refine ⟨?_, ?_⟩
      | intro _

theorem Blk.txRetry_frame (b : Blk) :
    FrameM 0x408290028 b (Blk.txRetry b) := by
  unfold Blk.txRetry
  repeat' first
    | simp only [Nat.reduceAnd, FrameM.refl, FrameM.ite, FrameM.fold, implies_true, and_self, and_true, true_and, FrameM.iff (Blk.txRetryN_frame _ _)]
    | split
    | refine ⟨?_, ?_⟩
    | intro _
    | (with_reducible refine FrameM.foldI (fun _ _ => ?_) ?_)

theorem Blk.selfSync_frame (b : Blk) :
    FrameM 0x40080020 b (Blk.selfSync b) := by
  unfold Blk.selfSync
  repeat' first
    | simp only [Nat.reduceAnd, FrameM.refl, FrameM.ite, FrameM.fold, implies_true, and_self, and_true, true_and, FrameM.iff (FrameM.upd_eng _), FrameM.iff (Blk.pmcEvent_frame _ _ _ _), FrameM.iff (Blk.inc_frame _ _), FrameM.iff (Blk.setInv_frame _ _ _)]
    | split
    | refine ⟨?_, ?_⟩
    | intro _
    | (with_reducible refine FrameM.foldI (fun _ _ => ?_) ?_)

theorem Blk.errSettle_frame (b : Blk) :
    FrameM 0x449eb0028 b (Blk.errSettle b) := by
  unfold Blk.errSettle
  repeat' first
    | simp only [Nat.reduceAnd, FrameM.refl, FrameM.ite, FrameM.fold, implies_true, and_self, and_true, true_and, FrameM.iff (Blk.txRetry_frame _), FrameM.iff (Blk.refsSettle_frame _), FrameM.iff (Blk.selfSync_frame _)]
    | split
    | refine ⟨?_, ?_⟩
    | intro _
    | (with_reducible refine FrameM.foldI (fun _ _ => ?_) ?_)

theorem Blk.errRaised_frame (b : Blk) (code : Nat) (unit : Nat) (detail : Nat) (item : Nat) :
    FrameM 0x7fdffbfbc b (Blk.errRaised b code unit detail item) := by
  unfold Blk.errRaised
  repeat' first
    | simp only [Nat.reduceAnd, FrameM.refl, FrameM.ite, FrameM.fold, implies_true, and_self, and_true, true_and, FrameM.iff (Blk.pmcEvent_frame _ _ _ _), FrameM.iff (Blk.errSettle_frame _), FrameM.iff (Blk.follow_frame _ _), FrameM.iff (Blk.raise0_frame _ _ _ _ _ _ _)]
    | split
    | refine ⟨?_, ?_⟩
    | intro _
    | (with_reducible refine FrameM.foldI (fun _ _ => ?_) ?_)

theorem Blk.esmcTx_frame (b : Blk) (p : Nat) :
    FrameM 0x408000000 b (Blk.esmcTx b p) := by
  unfold Blk.esmcTx
  repeat' first
    | simp only [Nat.reduceAnd, FrameM.refl, FrameM.ite, FrameM.fold, implies_true, and_self, and_true, true_and, FrameM.iff (Blk.queueFrame_frame _ _), FrameM.iff (Blk.egTake_frame _ _ _), FrameM.iff (Blk.setPort_frame _ _ _)]
    | exact (Blk.sendBuilt_frame _ _ _ (by assumption)).mono (by decide)
    | split
    | refine ⟨?_, ?_⟩
    | intro _

theorem Blk.estEnd_frame (b : Blk) (p : Nat) :
    FrameM 0x101c20038 b (Blk.estEnd b p) := by
  unfold Blk.estEnd
  repeat' first
    | simp only [Nat.reduceAnd, FrameM.refl, FrameM.ite, FrameM.fold, implies_true, and_self, and_true, true_and, FrameM.iff (Blk.estCheck_frame _ _), FrameM.iff (Blk.estFail_frame _ _), FrameM.iff (Blk.wrPs_frame _ _ _), FrameM.iff (Blk.setClient_frame _ _ _), FrameM.iff (Blk.thaw_frame _ _), FrameM.iff (Blk.recPtp_frame _ _ _ _), FrameM.iff (Blk.inc_frame _ _), FrameM.iff (Blk.setF_frame _ _)]
    | split
    | refine ⟨?_, ?_⟩
    | intro _
    | (with_reducible refine FrameM.foldI (fun _ _ => ?_) ?_)

theorem Blk.regWrite_frame (b : Blk) (f : Nat) (off : Nat) (v : Word) :
    FrameM 0x10 b (Blk.regWrite b f off v) := by
  unfold Blk.regWrite
  repeat' first
    | simp only [Nat.reduceAnd, FrameM.refl, FrameM.ite, FrameM.fold, implies_true, and_self, and_true, true_and, FrameM.iff (FrameM.upd_regs _)]
    | split
    | refine ⟨?_, ?_⟩
    | intro _
    | (with_reducible refine FrameM.foldI (fun _ _ => ?_) ?_)

theorem Blk.evtEnable_frame (b : Blk) (f : Nat) :
    FrameM 0x20018 b (Blk.evtEnable b f) := by
  unfold Blk.evtEnable
  repeat' first
    | simp only [Nat.reduceAnd, FrameM.refl, FrameM.ite, FrameM.fold, implies_true, and_self, and_true, true_and, FrameM.iff (Blk.setEvt_frame _ _ _), FrameM.iff (Blk.setF_frame _ _), FrameM.iff (Blk.offer_frame _ _ _ _)]
    | split
    | refine ⟨?_, ?_⟩
    | intro _
    | (with_reducible refine FrameM.foldI (fun _ _ => ?_) ?_)

theorem Blk.evtCtl_frame (b : Blk) (f : Nat) (v : Word) :
    FrameM 0x20018 b (Blk.evtCtl b f v) := by
  unfold Blk.evtCtl
  repeat' first
    | simp only [Nat.reduceAnd, FrameM.refl, FrameM.ite, FrameM.fold, implies_true, and_self, and_true, true_and, FrameM.iff (Blk.regWrite_frame _ _ _ _), FrameM.iff (Blk.evtEnable_frame _ _), FrameM.iff (Blk.evtStop_frame _ _)]
    | split
    | refine ⟨?_, ?_⟩
    | intro _
    | (with_reducible refine FrameM.foldI (fun _ _ => ?_) ?_)

theorem Blk.excDeliver_frame (b : Blk) :
    FrameM 0x410090028 b (Blk.excDeliver b) := by
  unfold Blk.excDeliver
  repeat' first
    | simp only [Nat.reduceAnd, FrameM.refl, FrameM.ite, FrameM.fold, implies_true, and_self, and_true, true_and, FrameM.iff (FrameM.upd_clk _), FrameM.iff (Blk.put_frame _ _), FrameM.iff (Blk.completeX_frame _ _ _ _ _), FrameM.iff (Blk.inc_frame _ _)]
    | split
    | refine ⟨?_, ?_⟩
    | intro _
    | (with_reducible refine FrameM.foldI (fun _ _ => ?_) ?_)

theorem Blk.eyeFnSet_frame (b : Blk) (e : Nat) :
    FrameM 0x4000000 b (Blk.eyeFnSet b e) := by
  unfold Blk.eyeFnSet
  repeat' first
    | simp only [Nat.reduceAnd, FrameM.refl, FrameM.ite, FrameM.fold, implies_true, and_self, and_true, true_and, FrameM.iff (Blk.setEye_frame _ _ _), FrameM.iff (Blk.gateFresh_frame _ _ _)]
    | split
    | refine ⟨?_, ?_⟩
    | intro _
    | (with_reducible refine FrameM.foldI (fun _ _ => ?_) ?_)

theorem Blk.measSet_frame (b : Blk) (e : Nat) :
    FrameM 0x4000000 b (Blk.measSet b e) := by
  unfold Blk.measSet
  repeat' first
    | simp only [Nat.reduceAnd, FrameM.refl, FrameM.ite, FrameM.fold, implies_true, and_self, and_true, true_and, FrameM.iff (Blk.setEye_frame _ _ _), FrameM.iff (Blk.gateFresh_frame _ _ _)]
    | split
    | refine ⟨?_, ?_⟩
    | intro _
    | (with_reducible refine FrameM.foldI (fun _ _ => ?_) ?_)

theorem Blk.awlStart_frame (b : Blk) :
    FrameM 0x4000000 b (Blk.awlStart b) := by
  unfold Blk.awlStart
  repeat' first
    | simp only [Nat.reduceAnd, FrameM.refl, FrameM.ite, FrameM.fold, implies_true, and_self, and_true, true_and, FrameM.iff (Blk.eyeFnSet_frame _ _)]
    | split
    | refine ⟨?_, ?_⟩
    | intro _
    | (with_reducible refine FrameM.foldI (fun _ _ => ?_) ?_)

theorem Blk.unitStart_frame (b : Blk) (u : Nat) :
    FrameM 0x2000000 b (Blk.unitStart b u) := by
  unfold Blk.unitStart
  repeat' first
    | simp only [Nat.reduceAnd, FrameM.refl, FrameM.ite, FrameM.fold, implies_true, and_self, and_true, true_and, FrameM.iff (Blk.setOut_frame _ _ _)]
    | split
    | refine ⟨?_, ?_⟩
    | intro _
    | (with_reducible refine FrameM.foldI (fun _ _ => ?_) ?_)

theorem Blk.eyeWritten_frame (old : Blk) (b : Blk) (e : Nat) :
    FrameM 0x7c20008 b (Blk.eyeWritten old b e) := by
  unfold Blk.eyeWritten
  repeat' first
    | simp only [Nat.reduceAnd, FrameM.refl, FrameM.ite, FrameM.fold, implies_true, and_self, and_true, true_and, FrameM.iff (Blk.refsSettle_frame _), FrameM.iff (Blk.unitStart_frame _ _), FrameM.iff (Blk.eyeFnSet_frame _ _)]
    | split
    | refine ⟨?_, ?_⟩
    | intro _
    | (with_reducible refine FrameM.foldI (fun _ _ => ?_) ?_)

theorem Blk.interval_frame (b : Blk) (a : Nat) (x : PairStamp) (y : PairStamp) :
    FrameM 0x4000010 b (Blk.interval b a x y) := by
  unfold Blk.interval
  repeat' first
    | simp only [Nat.reduceAnd, FrameM.refl, FrameM.ite, FrameM.fold, implies_true, and_self, and_true, true_and, FrameM.iff (Blk.awlRec_frame _ _ _ _ _ _ _ _)]
    | split
    | refine ⟨?_, ?_⟩
    | intro _
    | (with_reducible refine FrameM.foldI (fun _ _ => ?_) ?_)

theorem Blk.stopAlone_frame (b : Blk) (a : Nat) (y : PairStamp) (rest : List PairStamp) :
    FrameM 0x4000010 b (Blk.stopAlone b a y rest).1 := by
  unfold Blk.stopAlone
  repeat' first
    | simp only [Nat.reduceAnd, snd_ite, fst_ite, FrameM.refl, FrameM.ite, FrameM.fold, implies_true, and_self, and_true, true_and, FrameM.iff (Blk.interval_frame _ _ _ _), FrameM.iff (Blk.satF_frame _ _ _)]
    | split
    | refine ⟨?_, ?_⟩
    | intro _
    | (with_reducible refine FrameM.foldI (fun _ _ => ?_) ?_)

theorem Blk.pairOne_frame (b : Blk) (a : Nat) (y : PairStamp) (rest : List PairStamp) :
    FrameM 0x4000010 b (Blk.pairOne b a y rest).1 := by
  unfold Blk.pairOne
  repeat' first
    | simp only [Nat.reduceAnd, snd_ite, fst_ite, FrameM.refl, FrameM.ite, FrameM.fold, implies_true, and_self, and_true, true_and, FrameM.iff (Blk.satF_frame _ _ _), FrameM.iff (Blk.setEye_frame _ _ _), FrameM.iff (Blk.stopAlone_frame _ _ _ _), FrameM.iff (Blk.interval_frame _ _ _ _)]
    | split
    | refine ⟨?_, ?_⟩
    | intro _
    | (with_reducible refine FrameM.foldI (fun _ _ => ?_) ?_)

theorem Blk.pairRun_frame (b : Blk) (a : Nat) (y2 : Nat) :
    FrameM 0x4000010 b (Blk.pairRun b a y2) := by
  induction y2 generalizing b with
  | zero => unfold Blk.pairRun; simp only [FrameM.refl]
  | succ n ih =>
    unfold Blk.pairRun
    repeat' first
      | simp only [FrameM.iff (ih _),  Nat.reduceAnd, FrameM.refl, FrameM.ite, FrameM.fold, implies_true, and_self, and_true, true_and, FrameM.iff (Blk.pairOne_frame _ _ _ _), FrameM.iff (Blk.setEye_frame _ _ _)]
      | split
      | refine ⟨?_, ?_⟩
      | intro _

theorem Blk.pairAll_frame (b : Blk) :
    FrameM 0x4000010 b (Blk.pairAll b) := by
  unfold Blk.pairAll
  repeat' first
    | simp only [Nat.reduceAnd, FrameM.refl, FrameM.ite, FrameM.fold, implies_true, and_self, and_true, true_and, FrameM.iff (Blk.pairRun_frame _ _ _)]
    | split
    | refine ⟨?_, ?_⟩
    | intro _
    | (with_reducible refine FrameM.foldI (fun _ _ => ?_) ?_)

theorem Blk.transition_frame (b : Blk) (e : Nat) (act : Bool) (t : Int) (phase : Nat) :
    FrameM 0x7fe7fbfbc b (Blk.transition b e act t phase) := by
  unfold Blk.transition
  repeat' first
    | simp only [Nat.reduceAnd, FrameM.refl, FrameM.ite, FrameM.fold, implies_true, and_self, and_true, true_and, FrameM.iff (Blk.countFate_frame _ _ _), FrameM.iff (Blk.setEye_frame _ _ _), FrameM.iff (Blk.awlRec_frame _ _ _ _ _ _ _ _), FrameM.iff (Blk.admitEdge_frame _ _ _ _ _)]
    | split
    | refine ⟨?_, ?_⟩
    | intro _
    | (with_reducible refine FrameM.foldI (fun _ _ => ?_) ?_)

theorem Blk.eyeletEdge_frame (b : Blk) (e : Nat) (high : Bool) (held : Nat) (pos : Nat) (phase : Nat) :
    FrameM 0x7fe7fbfbc b (Blk.eyeletEdge b e high held pos phase) := by
  unfold Blk.eyeletEdge
  repeat' first
    | simp only [Nat.reduceAnd, FrameM.refl, FrameM.ite, FrameM.fold, implies_true, and_self, and_true, true_and, FrameM.iff (Blk.pairAll_frame _), FrameM.iff (Blk.setEye_frame _ _ _), FrameM.iff (Blk.countFate_frame _ _ _), FrameM.iff (Blk.transition_frame _ _ _ _ _)]
    | split
    | refine ⟨?_, ?_⟩
    | intro _
    | (with_reducible refine FrameM.foldI (fun _ _ => ?_) ?_)

theorem Blk.fairRoll_frame (b : Blk) :
    FrameM 0x10000020 b (Blk.fairRoll b) := by
  unfold Blk.fairRoll
  repeat' first
    | simp only [Nat.reduceAnd, FrameM.refl, FrameM.ite, FrameM.fold, implies_true, and_self, and_true, true_and, FrameM.iff (FrameM.upd_clk _), FrameM.iff (Blk.inc_frame _ _)]
    | split
    | refine ⟨?_, ?_⟩
    | intro _
    | (with_reducible refine FrameM.foldI (fun _ _ => ?_) ?_)

theorem Blk.ringErr_frame (b : Blk) (r : Nat) (code : Nat) :
    FrameM 0x30008 b (Blk.ringErr b r code) := by
  unfold Blk.ringErr
  repeat' first
    | simp only [Nat.reduceAnd, FrameM.refl, FrameM.ite, FrameM.fold, implies_true, and_self, and_true, true_and, FrameM.iff (Blk.record_frame _ _ _ _ _ _ _), FrameM.iff (Blk.setRing_frame _ _ _)]
    | split
    | refine ⟨?_, ?_⟩
    | intro _
    | (with_reducible refine FrameM.foldI (fun _ _ => ?_) ?_)

theorem Blk.idleRestart_frame (b : Blk) (f : Nat) :
    FrameM 0x8000 b (Blk.idleRestart b f) := by
  unfold Blk.idleRestart
  repeat' first
    | simp only [Nat.reduceAnd, FrameM.refl, FrameM.ite, FrameM.fold, implies_true, and_self, and_true, true_and, FrameM.iff (Blk.setSes_frame _ _ _)]
    | split
    | refine ⟨?_, ?_⟩
    | intro _
    | (with_reducible refine FrameM.foldI (fun _ _ => ?_) ?_)

theorem Blk.stage_frame (b : Blk) (r : Nat) (data : Bytes) :
    FrameM 0x98008 b (Blk.stage b r data) := by
  unfold Blk.stage
  repeat' first
    | simp only [Nat.reduceAnd, FrameM.refl, FrameM.ite, FrameM.fold, implies_true, and_self, and_true, true_and, FrameM.iff (Blk.setRing_frame _ _ _), FrameM.iff (Blk.put_frame _ _), FrameM.iff (Blk.pmcEvent_frame _ _ _ _), FrameM.iff (Blk.idleRestart_frame _ _)]
    | split
    | refine ⟨?_, ?_⟩
    | intro _
    | (with_reducible refine FrameM.foldI (fun _ _ => ?_) ?_)

theorem Blk.fetch_frame (b : Blk) (r : Nat) (data : Bytes) :
    FrameM 0x4000b8008 b (Blk.fetch b r data) := by
  unfold Blk.fetch
  repeat' first
    | simp only [Nat.reduceAnd, FrameM.refl, FrameM.ite, FrameM.fold, implies_true, and_self, and_true, true_and, FrameM.iff (Blk.ringErr_frame _ _ _), FrameM.iff (Blk.stage_frame _ _ _), FrameM.iff (Blk.complete_frame _ _ _ _)]
    | split
    | refine ⟨?_, ?_⟩
    | intro _
    | (with_reducible refine FrameM.foldI (fun _ _ => ?_) ?_)

theorem Blk.flushBucket_frame (b : Blk) (i : Nat) :
    FrameM 0x20000000 b (Blk.flushBucket b i) := by
  unfold Blk.flushBucket
  repeat' first
    | simp only [Nat.reduceAnd, FrameM.refl, FrameM.ite, FrameM.fold, implies_true, and_self, and_true, true_and, FrameM.iff (Blk.setBucket_frame _ _ _)]
    | split
    | refine ⟨?_, ?_⟩
    | intro _
    | (with_reducible refine FrameM.foldI (fun _ _ => ?_) ?_)

theorem Blk.flushDone_frame (b : Blk) :
    FrameM 0x420090008 b (Blk.flushDone b) := by
  unfold Blk.flushDone
  repeat' first
    | simp only [Nat.reduceAnd, FrameM.refl, FrameM.ite, FrameM.fold, implies_true, and_self, and_true, true_and, FrameM.iff (FrameM.upd_ct _), FrameM.iff (Blk.flushBucket_frame _ _), FrameM.iff (Blk.complete_frame _ _ _ _)]
    | split
    | refine ⟨?_, ?_⟩
    | intro _
    | (with_reducible refine FrameM.foldI (fun _ _ => ?_) ?_)

theorem Blk.flushStart_frame (b : Blk) (ref : DRef) :
    FrameM 0x20000000 b (Blk.flushStart b ref) := by
  unfold Blk.flushStart
  repeat' first
    | simp only [Nat.reduceAnd, FrameM.refl, FrameM.ite, FrameM.fold, implies_true, and_self, and_true, true_and, FrameM.iff (FrameM.upd_ct _), FrameM.iff (Blk.flushBucket_frame _ _)]
    | split
    | refine ⟨?_, ?_⟩
    | intro _
    | (with_reducible refine FrameM.foldI (fun _ _ => ?_) ?_)

theorem Blk.followUp_frame (b : Blk) :
    FrameM 0x508000024 b (Blk.followUp b) := by
  unfold Blk.followUp
  repeat' first
    | simp only [Nat.reduceAnd, FrameM.refl, FrameM.ite, FrameM.fold, implies_true, and_self, and_true, true_and, FrameM.iff (FrameM.upd_ptp _), FrameM.iff (Blk.ptpPut_frame _ _)]
    | split
    | refine ⟨?_, ?_⟩
    | intro _
    | (with_reducible refine FrameM.foldI (fun _ _ => ?_) ?_)

theorem Blk.forceSlot_frame (b : Blk) (k : Nat) :
    FrameM 0x420008 b (Blk.forceSlot b k) := by
  unfold Blk.forceSlot
  repeat' first
    | simp only [Nat.reduceAnd, FrameM.refl, FrameM.ite, FrameM.fold, implies_true, and_self, and_true, true_and, FrameM.iff (FrameM.upd_refs _), FrameM.iff (Blk.switchTo_frame _ _ _), FrameM.iff (Blk.abandon_frame _ _), FrameM.iff (Blk.setChoice_frame _ _)]
    | split
    | refine ⟨?_, ?_⟩
    | intro _
    | (with_reducible refine FrameM.foldI (fun _ _ => ?_) ?_)

theorem Blk.foreignDrop_frame (b : Blk) (who : Nat) (p : Nat) (n : Nat) :
    FrameM 0x100000000 b (Blk.foreignDrop b who p n) := by
  unfold Blk.foreignDrop
  repeat' first
    | simp only [Nat.reduceAnd, FrameM.refl, FrameM.ite, FrameM.fold, implies_true, and_self, and_true, true_and, FrameM.iff (FrameM.upd_ptp _)]
    | split
    | refine ⟨?_, ?_⟩
    | intro _
    | (with_reducible refine FrameM.foldI (fun _ _ => ?_) ?_)

theorem Blk.pauseOver_frame (b : Blk) (p : Nat) :
    FrameM 0x80000000 b (Blk.pauseOver b p) := by
  unfold Blk.pauseOver
  repeat' first
    | simp only [Nat.reduceAnd, FrameM.refl, FrameM.ite, FrameM.fold, implies_true, and_self, and_true, true_and, FrameM.iff (FrameM.upd_nts _)]
    | split
    | refine ⟨?_, ?_⟩
    | intro _
    | (with_reducible refine FrameM.foldI (fun _ _ => ?_) ?_)

theorem Blk.pfcSet_frame (b : Blk) (p : Nat) (c : Nat) (n : Nat) :
    FrameM 0x88000000 b (Blk.pfcSet b p c n) := by
  unfold Blk.pfcSet
  repeat' first
    | simp only [Nat.reduceAnd, FrameM.refl, FrameM.ite, FrameM.fold, implies_true, and_self, and_true, true_and, FrameM.iff (Blk.pauseOver_frame _ _), FrameM.iff (Blk.setPort_frame _ _ _)]
    | split
    | refine ⟨?_, ?_⟩
    | intro _
    | (with_reducible refine FrameM.foldI (fun _ _ => ?_) ?_)

theorem Blk.pfcAll_frame (b : Blk) (p : Nat) (body : Bytes) :
    FrameM 0x88000000 b (Blk.pfcAll b p body) := by
  unfold Blk.pfcAll
  repeat' first
    | simp only [Nat.reduceAnd, FrameM.refl, FrameM.ite, FrameM.fold, implies_true, and_self, and_true, true_and, FrameM.iff (Blk.pfcSet_frame _ _ _ _)]
    | split
    | refine ⟨?_, ?_⟩
    | intro _
    | (with_reducible refine FrameM.foldI (fun _ _ => ?_) ?_)

theorem Blk.pauseSet_frame (b : Blk) (p : Nat) (n : Nat) :
    FrameM 0x88000000 b (Blk.pauseSet b p n) := by
  unfold Blk.pauseSet
  repeat' first
    | simp only [Nat.reduceAnd, FrameM.refl, FrameM.ite, FrameM.fold, implies_true, and_self, and_true, true_and, FrameM.iff (Blk.pauseOver_frame _ _), FrameM.iff (Blk.setPort_frame _ _ _)]
    | split
    | refine ⟨?_, ?_⟩
    | intro _
    | (with_reducible refine FrameM.foldI (fun _ _ => ?_) ?_)

theorem Blk.macControl_frame (b : Blk) (p : Nat) (dst : Bytes) (body : Bytes) :
    FrameM 0x88000020 b (Blk.macControl b p dst body) := by
  unfold Blk.macControl
  repeat' first
    | simp only [Nat.reduceAnd, FrameM.refl, FrameM.ite, FrameM.fold, implies_true, and_self, and_true, true_and, FrameM.iff (Blk.inc_frame _ _), FrameM.iff (Blk.pfcAll_frame _ _ _), FrameM.iff (Blk.pauseSet_frame _ _ _)]
    | split
    | refine ⟨?_, ?_⟩
    | intro _
    | (with_reducible refine FrameM.foldI (fun _ _ => ?_) ?_)

theorem Blk.frameIn_frame (b : Blk) (x : RxF) :
    FrameM 0x7ffffbfbc b (Blk.frameIn b x) := by
  unfold Blk.frameIn
  repeat' first
    | simp only [Nat.reduceAnd, FrameM.refl, FrameM.ite, FrameM.fold, implies_true, and_self, and_true, true_and, FrameM.iff (Blk.macControl_frame _ _ _ _), FrameM.iff (Blk.badFrame_frame _ _ _), FrameM.iff (Blk.inc_frame _ _), FrameM.iff (Blk.classify_frame _ _)]
    | split
    | refine ⟨?_, ?_⟩
    | intro _
    | (with_reducible refine FrameM.foldI (fun _ _ => ?_) ?_)

theorem Blk.frameRx_frame (b : Blk) (p : Nat) (bs : Bytes) (age : Nat) (var : Int) (bad : Bool) :
    FrameM 0x7ffffbfbc b (Blk.frameRx b p bs age var bad) := by
  unfold Blk.frameRx
  repeat' first
    | simp only [Nat.reduceAnd, FrameM.refl, FrameM.ite, FrameM.fold, implies_true, and_self, and_true, true_and, FrameM.iff (Blk.inc_frame _ _), FrameM.iff (Blk.pmcEvent_frame _ _ _ _), FrameM.iff (Blk.incN_frame _ _ _), FrameM.iff (Blk.frameIn_frame _ _), FrameM.iff (Blk.fairRoll_frame _)]
    | split
    | refine ⟨?_, ?_⟩
    | intro _
    | (with_reducible refine FrameM.foldI (fun _ _ => ?_) ?_)

theorem Blk.uncommit_frame (b : Blk) (p : Nat) :
    FrameM 0x8000000 b (Blk.uncommit b p) := by
  unfold Blk.uncommit
  repeat' first
    | simp only [Nat.reduceAnd, FrameM.refl, FrameM.ite, FrameM.fold, implies_true, and_self, and_true, true_and, FrameM.iff (Blk.setPort_frame _ _ _)]
    | split
    | refine ⟨?_, ?_⟩
    | intro _
    | (with_reducible refine FrameM.foldI (fun _ _ => ?_) ?_)

theorem Blk.startCommit_frame (b : Blk) (f : TxF) (at_ : Int) :
    FrameM 0x588280028 b (Blk.startCommit b f at_) := by
  unfold Blk.startCommit
  repeat' first
    | simp only [Nat.reduceAnd, FrameM.refl, FrameM.ite, FrameM.fold, implies_true, and_self, and_true, true_and, FrameM.iff (Blk.uncommit_frame _ _), FrameM.iff (Blk.startBody_frame _ _ _), FrameM.iff (Blk.setPort_frame _ _ _)]
    | split
    | refine ⟨?_, ?_⟩
    | intro _
    | (with_reducible refine FrameM.foldI (fun _ _ => ?_) ?_)

theorem Blk.frameStart_frame (b : Blk) (p : Nat) :
    FrameM 0x588290028 b (Blk.frameStart b p) := by
  unfold Blk.frameStart
  repeat' first
    | simp only [Nat.reduceAnd, FrameM.refl, FrameM.ite, FrameM.fold, implies_true, and_self, and_true, true_and, FrameM.iff (Blk.startCommit_frame _ _ _), FrameM.iff (Blk.dropNoFit_frame _ _ _), FrameM.iff (Blk.startAt_frame _ _ _), FrameM.iff (Blk.takeFrame_frame _ _)]
    | split
    | refine ⟨?_, ?_⟩
    | intro _
    | (with_reducible refine FrameM.foldI (fun _ _ => ?_) ?_)

theorem Blk.gateAbort_frame (b : Blk) (f : Nat) (p : Nat) :
    FrameM 0x8000000 b (Blk.gateAbort b f p) := by
  unfold Blk.gateAbort
  repeat' first
    | simp only [Nat.reduceAnd, FrameM.refl, FrameM.ite, FrameM.fold, implies_true, and_self, and_true, true_and, FrameM.iff (Blk.setPort_frame _ _ _)]
    | split
    | refine ⟨?_, ?_⟩
    | intro _
    | (with_reducible refine FrameM.foldI (fun _ _ => ?_) ?_)

theorem Blk.gateSealed_frame (b : Blk) (p : Nat) :
    FrameM 0x488200020 b (Blk.gateSealed b p) := by
  unfold Blk.gateSealed
  repeat' first
    | simp only [Nat.reduceAnd, FrameM.refl, FrameM.ite, FrameM.fold, implies_true, and_self, and_true, true_and, FrameM.iff (Blk.launchFail_frame _ _ _)]
    | split
    | refine ⟨?_, ?_⟩
    | intro _
    | (with_reducible refine FrameM.foldI (fun _ _ => ?_) ?_)

theorem Blk.gateArm_frame (b : Blk) (p : Nat) (l : GateList) :
    FrameM 0x488200020 b (Blk.gateArm b p l) := by
  unfold Blk.gateArm
  repeat' first
    | simp only [Nat.reduceAnd, FrameM.refl, FrameM.ite, FrameM.fold, implies_true, and_self, and_true, true_and, FrameM.iff (Blk.gateSealed_frame _ _), FrameM.iff (FrameM.upd_laster _), FrameM.iff (Blk.setPort_frame _ _ _)]
    | split
    | refine ⟨?_, ?_⟩
    | intro _
    | (with_reducible refine FrameM.foldI (fun _ _ => ?_) ?_)

theorem Blk.gateReject_frame (b : Blk) (p : Nat) :
    FrameM 0x10 b (Blk.gateReject b p) := by
  unfold Blk.gateReject
  repeat' first
    | simp only [Nat.reduceAnd, FrameM.refl, FrameM.ite, FrameM.fold, implies_true, and_self, and_true, true_and, FrameM.iff (Blk.setF_frame _ _)]
    | split
    | refine ⟨?_, ?_⟩
    | intro _
    | (with_reducible refine FrameM.foldI (fun _ _ => ?_) ?_)

theorem Blk.gateCommit_frame (b : Blk) (f : Nat) (p : Nat) :
    FrameM 0x488200030 b (Blk.gateCommit b f p) := by
  unfold Blk.gateCommit
  repeat' first
    | simp only [Nat.reduceAnd, FrameM.refl, FrameM.ite, FrameM.fold, implies_true, and_self, and_true, true_and, FrameM.iff (Blk.gateReject_frame _ _), FrameM.iff (Blk.gateArm_frame _ _ _)]
    | split
    | refine ⟨?_, ?_⟩
    | intro _
    | (with_reducible refine FrameM.foldI (fun _ _ => ?_) ?_)

theorem Blk.gateNext_frame (b : Blk) (p : Nat) :
    FrameM 0x10 b (Blk.gateNext b p) := by
  unfold Blk.gateNext
  repeat' first
    | simp only [Nat.reduceAnd, FrameM.refl, FrameM.ite, FrameM.fold, implies_true, and_self, and_true, true_and, FrameM.iff (Blk.addF_frame _ _ _)]
    | split
    | refine ⟨?_, ?_⟩
    | intro _
    | (with_reducible refine FrameM.foldI (fun _ _ => ?_) ?_)

theorem Blk.gateRead_frame (b : Blk) (f : Nat) (p : Nat) :
    FrameM 0x10 b (Blk.gateRead b f p).1 := by
  unfold Blk.gateRead
  repeat' first
    | simp only [Nat.reduceAnd, snd_ite, fst_ite, FrameM.refl, FrameM.ite, FrameM.fold, implies_true, and_self, and_true, true_and, FrameM.iff (Blk.gateNext_frame _ _)]
    | split
    | refine ⟨?_, ?_⟩
    | intro _
    | (with_reducible refine FrameM.foldI (fun _ _ => ?_) ?_)

theorem Blk.gateWrite_frame (b : Blk) (f : Nat) (p : Nat) (v : Nat) :
    FrameM 0x8000010 b (Blk.gateWrite b f p v) := by
  unfold Blk.gateWrite
  repeat' first
    | simp only [Nat.reduceAnd, FrameM.refl, FrameM.ite, FrameM.fold, implies_true, and_self, and_true, true_and, FrameM.iff (Blk.setPort_frame _ _ _), FrameM.iff (Blk.gateNext_frame _ _)]
    | split
    | refine ⟨?_, ?_⟩
    | intro _
    | (with_reducible refine FrameM.foldI (fun _ _ => ?_) ?_)

theorem Blk.gclCtrl_frame (b : Blk) (f : Nat) (p : Nat) (v : Nat) :
    FrameM 0x488200030 b (Blk.gclCtrl b f p v) := by
  unfold Blk.gclCtrl
  repeat' first
    | simp only [Nat.reduceAnd, FrameM.refl, FrameM.ite, FrameM.fold, implies_true, and_self, and_true, true_and, FrameM.iff (Blk.gateCommit_frame _ _ _), FrameM.iff (Blk.gateAbort_frame _ _ _)]
    | split
    | refine ⟨?_, ?_⟩
    | intro _
    | (with_reducible refine FrameM.foldI (fun _ _ => ?_) ?_)

theorem Blk.gsumOne_frame (b : Blk) (old : Nat) (f : Nat) :
    FrameM 0x20008 b (Blk.gsumOne b old f) := by
  unfold Blk.gsumOne
  repeat' first
    | simp only [Nat.reduceAnd, FrameM.refl, FrameM.ite, FrameM.fold, implies_true, and_self, and_true, true_and, FrameM.iff (FrameM.upd_evts _), FrameM.iff (Blk.record_frame _ _ _ _ _ _ _)]
    | split
    | refine ⟨?_, ?_⟩
    | intro _
    | (with_reducible refine FrameM.foldI (fun _ _ => ?_) ?_)

theorem Blk.gintWrite_frame (b : Blk) (f : Nat) (v : Nat) :
    FrameM 0x20018 b (Blk.gintWrite b f v) := by
  unfold Blk.gintWrite
  repeat' first
    | simp only [Nat.reduceAnd, FrameM.refl, FrameM.ite, FrameM.fold, implies_true, and_self, and_true, true_and, FrameM.iff (Blk.gsumOne_frame _ _ _), FrameM.iff (Blk.wr_frame _ _ _)]
    | split
    | refine ⟨?_, ?_⟩
    | intro _
    | (with_reducible refine FrameM.foldI (fun _ _ => ?_) ?_)

theorem Blk.todCheck_frame (b : Blk) (k : Nat) (sec : Int) (t : Int) :
    FrameM 0x400000 b (Blk.todCheck b k sec t) := by
  unfold Blk.todCheck
  repeat' first
    | simp only [Nat.reduceAnd, FrameM.refl, FrameM.ite, FrameM.fold, implies_true, and_self, and_true, true_and, FrameM.iff (Blk.setSlot_frame _ _ _)]
    | split
    | refine ⟨?_, ?_⟩
    | intro _
    | (with_reducible refine FrameM.foldI (fun _ _ => ?_) ?_)

theorem Blk.labelled_frame (b : Blk) (k : Nat) (sec : Int) (qerr : Int) (t : Int) (u : Nat) :
    FrameM 0x7ffffbfbc b (Blk.labelled b k sec qerr t u) := by
  unfold Blk.labelled
  repeat' first
    | simp only [Nat.reduceAnd, FrameM.refl, FrameM.ite, FrameM.fold, implies_true, and_self, and_true, true_and, FrameM.iff (Blk.slotEvent_frame _ _ _ _ _), FrameM.iff (Blk.todCheck_frame _ _ _ _)]
    | split
    | refine ⟨?_, ?_⟩
    | intro _
    | (with_reducible refine FrameM.foldI (fun _ _ => ?_) ?_)

theorem Blk.gnssEdge_frame (b : Blk) (k : Nat) (t : Int) :
    FrameM 0x7ffffbfbc b (Blk.gnssEdge b k t) := by
  unfold Blk.gnssEdge
  repeat' first
    | simp only [Nat.reduceAnd, FrameM.refl, FrameM.ite, FrameM.fold, implies_true, and_self, and_true, true_and, FrameM.iff (Blk.setSlot_frame _ _ _), FrameM.iff (Blk.labelled_frame _ _ _ _ _ _)]
    | split
    | refine ⟨?_, ?_⟩
    | intro _
    | (with_reducible refine FrameM.foldI (fun _ _ => ?_) ?_)

theorem Blk.gnssMessage_frame (b : Blk) (k : Nat) (bs : Bytes) :
    FrameM 0x7ffffbfbc b (Blk.gnssMessage b k bs) := by
  unfold Blk.gnssMessage
  repeat' first
    | simp only [Nat.reduceAnd, FrameM.refl, FrameM.ite, FrameM.fold, implies_true, and_self, and_true, true_and, FrameM.iff (Blk.setSlot_frame _ _ _), FrameM.iff (Blk.labelled_frame _ _ _ _ _ _)]
    | split
    | refine ⟨?_, ?_⟩
    | intro _
    | (with_reducible refine FrameM.foldI (fun _ _ => ?_) ?_)

theorem Blk.grantExpire_frame (b : Blk) (i : Nat) (msg : Nat) :
    FrameM 0x100000000 b (Blk.grantExpire b i msg) := by
  unfold Blk.grantExpire
  repeat' first
    | simp only [Nat.reduceAnd, FrameM.refl, FrameM.ite, FrameM.fold, implies_true, and_self, and_true, true_and, FrameM.iff (Blk.sessPut_frame _ _)]
    | split
    | refine ⟨?_, ?_⟩
    | intro _
    | (with_reducible refine FrameM.foldI (fun _ _ => ?_) ?_)

theorem Blk.grantSeqNext_frame (b : Blk) (s : PSess) (msg : Nat) :
    FrameM 0x100000000 b (Blk.grantSeqNext b s msg) := by
  unfold Blk.grantSeqNext
  repeat' first
    | simp only [Nat.reduceAnd, FrameM.refl, FrameM.ite, FrameM.fold, implies_true, and_self, and_true, true_and, FrameM.iff (FrameM.upd_ptp _)]
    | split
    | refine ⟨?_, ?_⟩
    | intro _
    | (with_reducible refine FrameM.foldI (fun _ _ => ?_) ?_)

theorem Blk.gsumReport_frame (b : Blk) (f : Nat) :
    FrameM 0x20008 b (Blk.gsumReport b f) := by
  unfold Blk.gsumReport
  repeat' first
    | simp only [Nat.reduceAnd, FrameM.refl, FrameM.ite, FrameM.fold, implies_true, and_self, and_true, true_and, FrameM.iff (Blk.setEvt_frame _ _ _), FrameM.iff (Blk.record_frame _ _ _ _ _ _ _)]
    | split
    | refine ⟨?_, ?_⟩
    | intro _
    | (with_reducible refine FrameM.foldI (fun _ _ => ?_) ?_)

theorem Blk.handedOver_frame (b : Blk) :
    FrameM 0x689eb0fb8 b (Blk.handedOver b) := by
  unfold Blk.handedOver
  repeat' first
    | simp only [Nat.reduceAnd, FrameM.refl, FrameM.ite, FrameM.fold, implies_true, and_self, and_true, true_and, FrameM.iff (FrameM.upd_twin _), FrameM.iff (FrameM.upd_modeReq _), FrameM.iff (Blk.complete_frame _ _ _ _), FrameM.iff (Blk.recTwin_frame _ _ _), FrameM.iff (Blk.toFollower_frame _), FrameM.iff (Blk.detach_frame _)]
    | split
    | refine ⟨?_, ?_⟩
    | intro _
    | (with_reducible refine FrameM.foldI (fun _ _ => ?_) ?_)

theorem Blk.putFit_frame (b : Blk) (terms : List Nat) (sol : List Rat) (diag : List Rat) (ssr : Rat) (n : Nat) :
    FrameM 0x10 b (Blk.putFit b terms sol diag ssr n) := by
  unfold Blk.putFit
  repeat' first
    | simp only [Nat.reduceAnd, FrameM.refl, FrameM.ite, FrameM.fold, implies_true, and_self, and_true, true_and, FrameM.iff (Blk.wrW_frame _ _ _)]
    | split
    | refine ⟨?_, ?_⟩
    | intro _
    | (with_reducible refine FrameM.foldI (fun _ _ => ?_) ?_)

theorem Blk.heelFit_frame (b : Blk) :
    FrameM 0x800010 b (Blk.heelFit b) := by
  unfold Blk.heelFit
  repeat' first
    | simp only [Nat.reduceAnd, FrameM.refl, FrameM.ite, FrameM.fold, implies_true, and_self, and_true, true_and, FrameM.iff (FrameM.upd_heel _), FrameM.iff (Blk.putFit_frame _ _ _ _ _ _)]
    | split
    | refine ⟨?_, ?_⟩
    | intro _
    | (with_reducible refine FrameM.foldI (fun _ _ => ?_) ?_)

theorem Blk.heelLearn_frame (b : Blk) :
    FrameM 0x800010 b (Blk.heelLearn b) := by
  unfold Blk.heelLearn
  repeat' first
    | simp only [Nat.reduceAnd, FrameM.refl, FrameM.ite, FrameM.fold, implies_true, and_self, and_true, true_and, FrameM.iff (FrameM.upd_heel _), FrameM.iff (Blk.wrW_frame _ _ _), FrameM.iff (Blk.heelFit_frame _)]
    | split
    | refine ⟨?_, ?_⟩
    | intro _
    | (with_reducible refine FrameM.foldI (fun _ _ => ?_) ?_)

theorem Blk.holdEval_frame (b : Blk) :
    FrameM 0x1420408 b (Blk.holdEval b) := by
  unfold Blk.holdEval
  repeat' first
    | simp only [Nat.reduceAnd, FrameM.refl, FrameM.ite, FrameM.fold, implies_true, and_self, and_true, true_and, FrameM.iff (FrameM.upd_refs_hold _), FrameM.iff (FrameM.upd_holdExpired _), FrameM.iff (FrameM.upd_holdExpired_refs_hold _), FrameM.iff (FrameM.upd_refs_hold _), FrameM.iff (Blk.recHold_frame _ _)]
    | split
    | refine ⟨?_, ?_⟩
    | intro _
    | (with_reducible refine FrameM.foldI (fun _ _ => ?_) ?_)

theorem Blk.injected_frame (b : Blk) (f : Nat) (v : Nat) :
    FrameM 0x7fdffbfbc b (Blk.injected b f v) := by
  unfold Blk.injected
  repeat' first
    | simp only [Nat.reduceAnd, FrameM.refl, FrameM.ite, FrameM.fold, implies_true, and_self, and_true, true_and, FrameM.iff (Blk.errSettle_frame _), FrameM.iff (Blk.follow_frame _ _), FrameM.iff (Blk.raise0_frame _ _ _ _ _ _ _)]
    | split
    | refine ⟨?_, ?_⟩
    | intro _
    | (with_reducible refine FrameM.foldI (fun _ _ => ?_) ?_)

theorem Blk.srcSync_frame (b : Blk) :
    FrameM 0x800000 b (Blk.srcSync b) := by
  unfold Blk.srcSync
  repeat' first
    | simp only [Nat.reduceAnd, FrameM.refl, FrameM.ite, FrameM.fold, implies_true, and_self, and_true, true_and, FrameM.iff (FrameM.upd_heel _)]
    | split
    | refine ⟨?_, ?_⟩
    | intro _
    | (with_reducible refine FrameM.foldI (fun _ _ => ?_) ?_)

theorem Blk.unitsStart_frame (b : Blk) :
    FrameM 0x2000000 b (Blk.unitsStart b) := by
  unfold Blk.unitsStart
  repeat' first
    | simp only [Nat.reduceAnd, FrameM.refl, FrameM.ite, FrameM.fold, implies_true, and_self, and_true, true_and, FrameM.iff (Blk.unitStart_frame _ _)]
    | split
    | refine ⟨?_, ?_⟩
    | intro _
    | (with_reducible refine FrameM.foldI (fun _ _ => ?_) ?_)

theorem Blk.insoleStart_frame (b : Blk) :
    FrameM 0x7ffffbfbc b (Blk.insoleStart b) := by
  unfold Blk.insoleStart
  repeat' first
    | simp only [Nat.reduceAnd, FrameM.refl, FrameM.ite, FrameM.fold, implies_true, and_self, and_true, true_and, FrameM.iff (FrameM.upd_ins_laster_eyes _), FrameM.iff (Blk.srcSync_frame _), FrameM.iff (Blk.awlCalAll_frame _), FrameM.iff (Blk.bankCheck_frame _), FrameM.iff (Blk.slotEval_frame _ _), FrameM.iff (Blk.unitsStart_frame _), FrameM.iff (Blk.awlStart_frame _), FrameM.iff (Blk.refsSettle_frame _)]
    | split
    | refine ⟨?_, ?_⟩
    | intro _
    | (with_reducible refine FrameM.foldI (fun _ _ => ?_) ?_)

theorem Blk.instTimeout_frame (b : Blk) (i : Nat) (p : Nat) :
    FrameM 0x100020008 b (Blk.instTimeout b i p) := by
  unfold Blk.instTimeout
  repeat' first
    | simp only [Nat.reduceAnd, FrameM.refl, FrameM.ite, FrameM.fold, implies_true, and_self, and_true, true_and, FrameM.iff (FrameM.upd_ptp _), FrameM.iff (Blk.foreignDrop_frame _ _ _ _), FrameM.iff (Blk.recPtp_frame _ _ _ _)]
    | split
    | refine ⟨?_, ?_⟩
    | intro _
    | (with_reducible refine FrameM.foldI (fun _ _ => ?_) ?_)

theorem Blk.vecClear_frame (b : Blk) (f : Nat) (v : Nat) :
    FrameM 0x30000 b (Blk.vecClear b f v) := by
  unfold Blk.vecClear
  repeat' first
    | simp only [Nat.reduceAnd, FrameM.refl, FrameM.ite, FrameM.fold, implies_true, and_self, and_true, true_and, FrameM.iff (Blk.setEvt_frame _ _ _), FrameM.iff (Blk.setRing_frame _ _ _)]
    | split
    | refine ⟨?_, ?_⟩
    | intro _
    | (with_reducible refine FrameM.foldI (fun _ _ => ?_) ?_)

theorem Blk.vecSend_frame (b : Blk) (f : Nat) (v : Nat) :
    FrameM 0x8 b (Blk.vecSend b f v) := by
  unfold Blk.vecSend
  repeat' first
    | simp only [Nat.reduceAnd, FrameM.refl, FrameM.ite, FrameM.fold, implies_true, and_self, and_true, true_and, FrameM.iff (Blk.put_frame _ _)]
    | split
    | refine ⟨?_, ?_⟩
    | intro _
    | (with_reducible refine FrameM.foldI (fun _ _ => ?_) ?_)

theorem Blk.interrupt_frame (b : Blk) (f : Nat) (v : Nat) :
    FrameM 0x30008 b (Blk.interrupt b f v) := by
  unfold Blk.interrupt
  repeat' first
    | simp only [Nat.reduceAnd, FrameM.refl, FrameM.ite, FrameM.fold, implies_true, and_self, and_true, true_and, FrameM.iff (Blk.setEvt_frame _ _ _), FrameM.iff (Blk.vecClear_frame _ _ _), FrameM.iff (Blk.vecSend_frame _ _ _), FrameM.iff (Blk.record_frame _ _ _ _ _ _ _)]
    | split
    | refine ⟨?_, ?_⟩
    | intro _
    | (with_reducible refine FrameM.foldI (fun _ _ => ?_) ?_)

theorem Blk.invExcept_frame (b : Blk) (lane : Nat) (v : Inv) (reason : Nat) :
    FrameM 0x4f0090038 b (Blk.invExcept b lane v reason) := by
  unfold Blk.invExcept
  repeat' first
    | simp only [Nat.reduceAnd, FrameM.refl, FrameM.ite, FrameM.fold, implies_true, and_self, and_true, true_and, FrameM.iff (Blk.sealDrop_frame _), FrameM.iff (Blk.invAbort_frame _ _), FrameM.iff (Blk.selfSync_frame _), FrameM.iff (Blk.excPut_frame _ _ _ _ _ _)]
    | split
    | refine ⟨?_, ?_⟩
    | intro _
    | (with_reducible refine FrameM.foldI (fun _ _ => ?_) ?_)

theorem Blk.invFault_frame (b : Blk) (lane : Nat) (v : Inv) :
    FrameM 0x7fc7fbfbc b (Blk.invFault b lane v) := by
  unfold Blk.invFault
  repeat' first
    | simp only [Nat.reduceAnd, FrameM.refl, FrameM.ite, FrameM.fold, implies_true, and_self, and_true, true_and, FrameM.iff (Blk.inc_frame _ _), FrameM.iff (Blk.invAbort_frame _ _), FrameM.iff (Blk.sealDrop_frame _), FrameM.iff (Blk.raise_frame _ _ _ _)]
    | split
    | refine ⟨?_, ?_⟩
    | intro _
    | (with_reducible refine FrameM.foldI (fun _ _ => ?_) ?_)

theorem Blk.invRelease_frame (b : Blk) (v : Inv) :
    FrameM 0x480000000 b (Blk.invRelease b v) := by
  unfold Blk.invRelease
  repeat' first
    | simp only [Nat.reduceAnd, FrameM.refl, FrameM.ite, FrameM.fold, implies_true, and_self, and_true, true_and, FrameM.iff (Blk.ctxFreeOpt_frame _ _), FrameM.iff (Blk.egFree_frame _ _ _)]
    | split
    | refine ⟨?_, ?_⟩
    | intro _
    | (with_reducible refine FrameM.foldI (fun _ _ => ?_) ?_)

theorem Blk.relaunchStart_frame (b : Blk) (lane : Nat) (v : Inv) :
    FrameM 0x4f0090038 b (Blk.relaunchStart b lane v) := by
  unfold Blk.relaunchStart
  repeat' first
    | simp only [Nat.reduceAnd, FrameM.refl, FrameM.ite, FrameM.fold, implies_true, and_self, and_true, true_and, FrameM.iff (Blk.inc_frame _ _), FrameM.iff (Blk.setInv_frame _ _ _), FrameM.iff (Blk.setCtx_frame _ _ _), FrameM.iff (Blk.selfSync_frame _), FrameM.iff (Blk.sealDrop_frame _), FrameM.iff (Blk.invAbort_frame _ _)]
    | split
    | refine ⟨?_, ?_⟩
    | intro _
    | (with_reducible refine FrameM.foldI (fun _ _ => ?_) ?_)

theorem Blk.invoke_frame (b : Blk) (lane : Nat) (hit : Bool) :
    FrameM 0x4f0090038 b (Blk.invoke b lane hit) := by
  unfold Blk.invoke
  repeat' first
    | simp only [Nat.reduceAnd, FrameM.refl, FrameM.ite, FrameM.fold, implies_true, and_self, and_true, true_and, FrameM.iff (Blk.invExcept_frame _ _ _ _), FrameM.iff (Blk.pmcEvent_frame _ _ _ _), FrameM.iff (Blk.relaunchStart_frame _ _ _), FrameM.iff (Blk.inc_frame _ _), FrameM.iff (Blk.decideReq_frame _ _ _), FrameM.iff (Blk.setInv_frame _ _ _)]
    | split
    | refine ⟨?_, ?_⟩
    | intro _
    | (with_reducible refine FrameM.foldI (fun _ _ => ?_) ?_)

theorem Blk.keepClear_frame (b : Blk) :
    FrameM 0x1010 b (Blk.keepClear b) := by
  unfold Blk.keepClear
  repeat' first
    | simp only [Nat.reduceAnd, FrameM.refl, FrameM.ite, FrameM.fold, implies_true, and_self, and_true, true_and, FrameM.iff (FrameM.upd_regs_rst _)]
    | split
    | refine ⟨?_, ?_⟩
    | intro _
    | (with_reducible refine FrameM.foldI (fun _ _ => ?_) ?_)

theorem Blk.keyCloses_frame (b : Blk) (func : Nat) (erase : Bool) :
    FrameM 0x430038014 b (Blk.keyCloses b func erase) := by
  unfold Blk.keyCloses
  repeat' first
    | simp only [Nat.reduceAnd, FrameM.refl, FrameM.ite, FrameM.fold, implies_true, and_self, and_true, true_and, FrameM.iff (Blk.sesClose_frame _ _ _)]
    | split
    | refine ⟨?_, ?_⟩
    | intro _
    | (with_reducible refine FrameM.foldI (fun _ _ => ?_) ?_)

theorem Blk.keyInstall_frame (b : Blk) (ref : DRef) (d : Bytes) (blk : Bytes) :
    FrameM 0x7fc7fbfbc b (Blk.keyInstall b ref d blk) := by
  unfold Blk.keyInstall
  repeat' first
    | simp only [Nat.reduceAnd, FrameM.refl, FrameM.ite, FrameM.fold, implies_true, and_self, and_true, true_and, FrameM.iff (Blk.complete_frame _ _ _ _), FrameM.iff (Blk.keyPlace_frame _ _ _)]
    | split
    | refine ⟨?_, ?_⟩
    | intro _
    | (with_reducible refine FrameM.foldI (fun _ _ => ?_) ?_)

theorem Blk.keyItem_frame (b : Blk) (x : LItem) :
    FrameM 0x7fc7fbfbc b (Blk.keyItem b x) := by
  unfold Blk.keyItem
  repeat' first
    | simp only [Nat.reduceAnd, FrameM.refl, FrameM.ite, FrameM.fold, implies_true, and_self, and_true, true_and, FrameM.iff (Blk.keyActivate_frame _ _), FrameM.iff (Blk.pmcEvent_frame _ _ _ _), FrameM.iff (Blk.keyExpire_frame _ _)]
    | split
    | refine ⟨?_, ?_⟩
    | intro _
    | (with_reducible refine FrameM.foldI (fun _ _ => ?_) ?_)

theorem Blk.keyRes_frame (b : Blk) (r : Nat) :
    FrameM 0x4000 b (Blk.keyRes b r) := by
  unfold Blk.keyRes
  repeat' first
    | simp only [Nat.reduceAnd, FrameM.refl, FrameM.ite, FrameM.fold, implies_true, and_self, and_true, true_and, FrameM.iff (FrameM.upd_lcs _)]
    | split
    | refine ⟨?_, ?_⟩
    | intro _
    | (with_reducible refine FrameM.foldI (fun _ _ => ?_) ?_)

theorem Blk.keyRetire_frame (b : Blk) (ref : DRef) (d : Bytes) :
    FrameM 0x7fc7fbfbc b (Blk.keyRetire b ref d) := by
  unfold Blk.keyRetire
  repeat' first
    | simp only [Nat.reduceAnd, FrameM.refl, FrameM.ite, FrameM.fold, implies_true, and_self, and_true, true_and, FrameM.iff (Blk.complete_frame _ _ _ _), FrameM.iff (Blk.epochWait_frame _ _ _), FrameM.iff (Blk.keyExpire_frame _ _)]
    | split
    | refine ⟨?_, ?_⟩
    | intro _
    | (with_reducible refine FrameM.foldI (fun _ _ => ?_) ?_)

theorem Blk.keyRoll_frame (b : Blk) (n : Nat) (expiry : Bool) :
    FrameM 0x7fc7fbfbc b (Blk.keyRoll b n expiry) := by
  unfold Blk.keyRoll
  repeat' first
    | simp only [Nat.reduceAnd, FrameM.refl, FrameM.ite, FrameM.fold, implies_true, and_self, and_true, true_and, FrameM.iff (Blk.keyItem_frame _ _)]
    | split
    | refine ⟨?_, ?_⟩
    | intro _
    | (with_reducible refine FrameM.foldI (fun _ _ => ?_) ?_)

theorem Blk.tooLong_frame (b : Blk) (f : TxF) :
    FrameM 0x480200020 b (Blk.tooLong b f) := by
  unfold Blk.tooLong
  repeat' first
    | simp only [Nat.reduceAnd, FrameM.refl, FrameM.ite, FrameM.fold, implies_true, and_self, and_true, true_and, FrameM.iff (Blk.inc_frame _ _), FrameM.iff (Blk.frameFree_frame _ _)]
    | split
    | refine ⟨?_, ?_⟩
    | intro _
    | (with_reducible refine FrameM.foldI (fun _ _ => ?_) ?_)

end Sys2Proof.Machine
end

