-- ==== Sys2Proof/Laws/Frames4.lean ====
section
/-! SUPPORT. What each operation of the block may change, once for each: `FrameM m b (op b)` names by the bits of `m` the
pieces outside which nothing changes. Part 4 of 4, callees first. -/

set_option linter.unusedSimpArgs false
set_option linter.unusedTactic false
set_option linter.unreachableTactic false

namespace Sys2Proof.Machine

theorem Blk.sendFrame_frame (b : Blk) (f : TxF) (counter : Nat) :
    FrameM 0x488200020 b (Blk.sendFrame b f counter) := by
  unfold Blk.sendFrame
  repeat' first
    | simp only [Nat.reduceAnd, FrameM.refl, FrameM.ite, FrameM.fold, implies_true, and_self, and_true, true_and, FrameM.iff (Blk.inc_frame _ _), FrameM.iff (Blk.queueFrame_frame _ _), FrameM.iff (Blk.tooLong_frame _ _)]
    | split
    | refine ⟨?_, ?_⟩
    | intro _
    | (with_reducible refine FrameM.foldI (fun _ _ => ?_) ?_)

theorem Blk.kodSend_frame (b : Blk) (v : Inv) (deny : Bool) :
    FrameM 0x488200024 b (Blk.kodSend b v deny) := by
  unfold Blk.kodSend
  repeat' first
    | simp only [Nat.reduceAnd, FrameM.refl, FrameM.ite, FrameM.fold, implies_true, and_self, and_true, true_and, FrameM.iff (Blk.sendFrame_frame _ _ _), FrameM.iff (Blk.draw_frame _ _), FrameM.iff (Blk.inc_frame _ _)]
    | split
    | refine ⟨?_, ?_⟩
    | intro _
    | (with_reducible refine FrameM.foldI (fun _ _ => ?_) ?_)

theorem Blk.lasterArm_frame (b : Blk) (ref : DRef) (d : Bytes) :
    FrameM 0x7fe7fbfbc b (Blk.lasterArm b ref d) := by
  unfold Blk.lasterArm
  repeat' first
    | simp only [Nat.reduceAnd, FrameM.refl, FrameM.ite, FrameM.fold, implies_true, and_self, and_true, true_and, FrameM.iff (Blk.complete_frame _ _ _ _), FrameM.iff (Blk.armAll_frame _ _), FrameM.iff (Blk.armLate_frame _ _)]
    | split
    | refine ⟨?_, ?_⟩
    | intro _
    | (with_reducible refine FrameM.foldI (fun _ _ => ?_) ?_)

theorem Blk.lasterCancel_frame (b : Blk) (ref : DRef) (h : Nat) :
    FrameM 0x400290008 b (Blk.lasterCancel b ref h) := by
  unfold Blk.lasterCancel
  repeat' first
    | simp only [Nat.reduceAnd, FrameM.refl, FrameM.ite, FrameM.fold, implies_true, and_self, and_true, true_and, FrameM.iff (FrameM.upd_laster _), FrameM.iff (Blk.complete_frame _ _ _ _), FrameM.iff (Blk.lstDel_frame _ _)]
    | split
    | refine ⟨?_, ?_⟩
    | intro _
    | (with_reducible refine FrameM.foldI (fun _ _ => ?_) ?_)

theorem Blk.lasterIssue_frame (b : Blk) (i : Nat) :
    FrameM 0x7fe7fbfbc b (Blk.lasterIssue b i) := by
  unfold Blk.lasterIssue
  repeat' first
    | simp only [Nat.reduceAnd, FrameM.refl, FrameM.ite, FrameM.fold, implies_true, and_self, and_true, true_and, FrameM.iff (FrameM.upd_laster _), FrameM.iff (Blk.pmcEvent_frame _ _ _ _), FrameM.iff (Blk.lstNextOcc_frame _ _ _ _), FrameM.iff (Blk.launchFail_frame _ _ _), FrameM.iff (Blk.launchRun_frame _ _ _), FrameM.iff (Blk.gateTake_frame _ _), FrameM.iff (Blk.setGate_frame _ _ _), FrameM.iff (Blk.setWindow_frame _ _ _), FrameM.iff (Blk.complete_frame _ _ _ _), FrameM.iff (Blk.lstNop_frame _ _), FrameM.iff (Blk.lstRecord_frame _ _ _ _ _ _ _ _ _), FrameM.iff (Blk.lateCount_frame _ _ _), FrameM.iff (stepFn_frame _ _), FrameM.iff (Blk.lateEntry_frame stepFn stepFn_frame _ _ _ _)]
    | split
    | refine ⟨?_, ?_⟩
    | intro _
    | (with_reducible refine FrameM.foldI (fun _ _ => ?_) ?_)

theorem Blk.newNonce_frame (b : Blk) :
    FrameM 0x4004 b (Blk.newNonce b) := by
  unfold Blk.newNonce
  repeat' first
    | simp only [Nat.reduceAnd, FrameM.refl, FrameM.ite, FrameM.fold, implies_true, and_self, and_true, true_and, FrameM.iff (FrameM.upd_freeCtr_lcs _)]
    | split
    | refine ⟨?_, ?_⟩
    | intro _
    | (with_reducible refine FrameM.foldI (fun _ _ => ?_) ?_)

theorem Blk.lcsResult_frame (b : Blk) (r : Nat) (armed : Option (Nat × Nat × Nat)) :
    FrameM 0x4004 b (Blk.lcsResult b r armed) := by
  unfold Blk.lcsResult
  repeat' first
    | simp only [Nat.reduceAnd, FrameM.refl, FrameM.ite, FrameM.fold, implies_true, and_self, and_true, true_and, FrameM.iff (FrameM.upd_lcs _), FrameM.iff (Blk.newNonce_frame _)]
    | split
    | refine ⟨?_, ?_⟩
    | intro _
    | (with_reducible refine FrameM.foldI (fun _ _ => ?_) ?_)

theorem Blk.lcsArm_frame (b : Blk) (nvm : Nvm) (f : Nat) (v : Nat) :
    FrameM 0x4004 b (Blk.lcsArm b nvm f v) := by
  unfold Blk.lcsArm
  repeat' first
    | simp only [Nat.reduceAnd, FrameM.refl, FrameM.ite, FrameM.fold, implies_true, and_self, and_true, true_and, FrameM.iff (FrameM.upd_lcs _), FrameM.iff (Blk.lcsResult_frame _ _ _)]
    | split
    | refine ⟨?_, ?_⟩
    | intro _
    | (with_reducible refine FrameM.foldI (fun _ _ => ?_) ?_)

theorem Blk.leadOut_frame (b : Blk) (u : Nat) :
    FrameM 0x2080008 b (Blk.leadOut b u) := by
  unfold Blk.leadOut
  repeat' first
    | simp only [Nat.reduceAnd, FrameM.refl, FrameM.ite, FrameM.fold, implies_true, and_self, and_true, true_and, FrameM.iff (Blk.pmcEvent_frame _ _ _ _), FrameM.iff (Blk.edgeOut_frame _ _ _ _), FrameM.iff (Blk.setOut_frame _ _ _)]
    | split
    | refine ⟨?_, ?_⟩
    | intro _
    | (with_reducible refine FrameM.foldI (fun _ _ => ?_) ?_)

theorem Blk.leapCancel_frame (b : Blk) (ref : DRef) :
    FrameM 0x488390028 b (Blk.leapCancel b ref) := by
  unfold Blk.leapCancel
  repeat' first
    | simp only [Nat.reduceAnd, FrameM.refl, FrameM.ite, FrameM.fold, implies_true, and_self, and_true, true_and, FrameM.iff (Blk.t3Check_frame _), FrameM.iff (FrameM.upd_ins _), FrameM.iff (Blk.complete_frame _ _ _ _)]
    | split
    | refine ⟨?_, ?_⟩
    | intro _
    | (with_reducible refine FrameM.foldI (fun _ _ => ?_) ?_)

theorem Blk.leapInstall_frame (b : Blk) (ref : DRef) (d : Bytes) :
    FrameM 0x488390028 b (Blk.leapInstall b ref d) := by
  unfold Blk.leapInstall
  repeat' first
    | simp only [Nat.reduceAnd, FrameM.refl, FrameM.ite, FrameM.fold, implies_true, and_self, and_true, true_and, FrameM.iff (Blk.t3Check_frame _), FrameM.iff (FrameM.upd_ins _), FrameM.iff (Blk.complete_frame _ _ _ _), FrameM.iff (Blk.smearSamples_frame _)]
    | split
    | refine ⟨?_, ?_⟩
    | intro _
    | (with_reducible refine FrameM.foldI (fun _ _ => ?_) ?_)

theorem Blk.leaseExpire_frame (b : Blk) (lane : Nat) :
    FrameM 0x7fc7fbfbc b (Blk.leaseExpire b lane) := by
  unfold Blk.leaseExpire
  repeat' first
    | simp only [Nat.reduceAnd, FrameM.refl, FrameM.ite, FrameM.fold, implies_true, and_self, and_true, true_and, FrameM.iff (Blk.selfSync_frame _), FrameM.iff (Blk.invDiscard_frame _ _), FrameM.iff (Blk.raise_frame _ _ _ _)]
    | split
    | refine ⟨?_, ?_⟩
    | intro _
    | (with_reducible refine FrameM.foldI (fun _ _ => ?_) ?_)

theorem Blk.loadStart_frame (b : Blk) (ref : DRef) (d : Bytes) (img : Bytes) :
    FrameM 0x440090008 b (Blk.loadStart b ref d img) := by
  unfold Blk.loadStart
  repeat' first
    | simp only [Nat.reduceAnd, FrameM.refl, FrameM.ite, FrameM.fold, implies_true, and_self, and_true, true_and, FrameM.iff (FrameM.upd_eng _), FrameM.iff (Blk.complete_frame _ _ _ _)]
    | split
    | refine ⟨?_, ?_⟩
    | intro _
    | (with_reducible refine FrameM.foldI (fun _ _ => ?_) ?_)

theorem Blk.lockLost_frame (b : Blk) :
    FrameM 0x689eb07b8 b (Blk.lockLost b) := by
  unfold Blk.lockLost
  repeat' first
    | simp only [Nat.reduceAnd, FrameM.refl, FrameM.ite, FrameM.fold, implies_true, and_self, and_true, true_and, FrameM.iff (Blk.recHold_frame _ _), FrameM.iff (Blk.modeEnter_frame _ _ _)]
    | split
    | refine ⟨?_, ?_⟩
    | intro _
    | (with_reducible refine FrameM.foldI (fun _ _ => ?_) ?_)

theorem Blk.lockTimeout_frame (b : Blk) :
    FrameM 0x420090008 b (Blk.lockTimeout b) := by
  unfold Blk.lockTimeout
  repeat' first
    | simp only [Nat.reduceAnd, FrameM.refl, FrameM.ite, FrameM.fold, implies_true, and_self, and_true, true_and, FrameM.iff (FrameM.upd_ct _), FrameM.iff (Blk.completeBusy_frame _ _)]
    | split
    | refine ⟨?_, ?_⟩
    | intro _
    | (with_reducible refine FrameM.foldI (fun _ _ => ?_) ?_)

theorem Blk.lpiWake_frame (b : Blk) (p : Nat) :
    FrameM 0x8000000 b (Blk.lpiWake b p) := by
  unfold Blk.lpiWake
  repeat' first
    | simp only [Nat.reduceAnd, FrameM.refl, FrameM.ite, FrameM.fold, implies_true, and_self, and_true, true_and, FrameM.iff (Blk.setPort_frame _ _ _)]
    | split
    | refine ⟨?_, ?_⟩
    | intro _
    | (with_reducible refine FrameM.foldI (fun _ _ => ?_) ?_)

theorem Blk.measured_frame (b : Blk) (x : Int) :
    FrameM 0x7ffffbfbc b (Blk.measured b x) := by
  unfold Blk.measured
  repeat' first
    | simp only [Nat.reduceAnd, FrameM.refl, FrameM.ite, FrameM.fold, implies_true, and_self, and_true, true_and, FrameM.iff (FrameM.upd_twin _), FrameM.iff (Blk.inc_frame _ _), FrameM.iff (Blk.recTwin_frame _ _ _), FrameM.iff (Blk.slotEvent_frame _ _ _ _ _)]
    | split
    | refine ⟨?_, ?_⟩
    | intro _
    | (with_reducible refine FrameM.foldI (fun _ _ => ?_) ?_)

theorem Blk.markerRx_frame (b : Blk) (age : Nat) (mode : Nat) (status : Nat) (have4 : Bool) (t1 : Int) (t4 : Int) :
    FrameM 0x7ffffbfbc b (Blk.markerRx b age mode status have4 t1 t4) := by
  unfold Blk.markerRx
  repeat' first
    | simp only [Nat.reduceAnd, FrameM.refl, FrameM.ite, FrameM.fold, implies_true, and_self, and_true, true_and, FrameM.iff (FrameM.upd_twin _), FrameM.iff (Blk.measured_frame _ _)]
    | split
    | refine ⟨?_, ?_⟩
    | intro _
    | (with_reducible refine FrameM.foldI (fun _ _ => ?_) ?_)

theorem Blk.markerTx_frame (b : Blk) :
    FrameM 0x200000008 b (Blk.markerTx b) := by
  unfold Blk.markerTx
  repeat' first
    | simp only [Nat.reduceAnd, FrameM.refl, FrameM.ite, FrameM.fold, implies_true, and_self, and_true, true_and, FrameM.iff (FrameM.upd_twin _), FrameM.iff (Blk.put_frame _ _)]
    | split
    | refine ⟨?_, ?_⟩
    | intro _
    | (with_reducible refine FrameM.foldI (fun _ _ => ?_) ?_)

theorem Blk.maxRes_frame (b : Blk) (p : Nat) (id : Nat) :
    FrameM 0x488290028 b (Blk.maxRes b p id) := by
  unfold Blk.maxRes
  repeat' first
    | simp only [Nat.reduceAnd, FrameM.refl, FrameM.ite, FrameM.fold, implies_true, and_self, and_true, true_and, FrameM.iff (Blk.txRetry_frame _), FrameM.iff (Blk.inc_frame _ _), FrameM.iff (Blk.frameFree_frame _ _), FrameM.iff (Blk.takeFrame_frame _ _)]
    | split
    | refine ⟨?_, ?_⟩
    | intro _
    | (with_reducible refine FrameM.foldI (fun _ _ => ?_) ?_)

theorem Blk.sessMirror_frame (b : Blk) (x : PSess) :
    FrameM 0x100000000 b (Blk.sessMirror b x) := by
  unfold Blk.sessMirror
  repeat' first
    | simp only [Nat.reduceAnd, FrameM.refl, FrameM.ite, FrameM.fold, implies_true, and_self, and_true, true_and, FrameM.iff (FrameM.upd_ptp _)]
    | split
    | refine ⟨?_, ?_⟩
    | intro _
    | (with_reducible refine FrameM.foldI (fun _ _ => ?_) ?_)

theorem Blk.mirrorApply_frame (b : Blk) (y1 : Mirror) :
    FrameM 0x7fdffbfbc b (Blk.mirrorApply b y1) := by
  unfold Blk.mirrorApply
  repeat' first
    | simp only [Nat.reduceAnd, FrameM.refl, FrameM.ite, FrameM.fold, implies_true, and_self, and_true, true_and, FrameM.iff (FrameM.upd_ct _), FrameM.iff (FrameM.upd_twin _), FrameM.iff (FrameM.upd_ins _), FrameM.iff (Blk.setBucket_frame _ _ _), FrameM.iff (Blk.epochMirror_frame _ _ _ _ _ _ _), FrameM.iff (Blk.wrW_frame _ _ _), FrameM.iff (Blk.aclNext_frame _ _), FrameM.iff (Blk.refsSettle_frame _), FrameM.iff (Blk.wr_frame _ _ _), FrameM.iff (Blk.sessMirror_frame _ _)]
    | split
    | refine ⟨?_, ?_⟩
    | intro _
    | (with_reducible refine FrameM.foldI (fun _ _ => ?_) ?_)

theorem Blk.misRead_frame (b : Blk) (f : Nat) (u : Nat) :
    FrameM 0x40 b (Blk.misRead b f u).1 := by
  unfold Blk.misRead
  repeat' first
    | simp only [Nat.reduceAnd, snd_ite, fst_ite, FrameM.refl, FrameM.ite, FrameM.fold, implies_true, and_self, and_true, true_and, FrameM.iff (Blk.latchAt_frame _ _ _ _)]
    | split
    | refine ⟨?_, ?_⟩
    | intro _
    | (with_reducible refine FrameM.foldI (fun _ _ => ?_) ?_)

theorem Blk.modeRequest_frame (b : Blk) (lc : Lifecycle) (ref : DRef) (d : Bytes) :
    FrameM 0x6f9eb0fb8 b (Blk.modeRequest b lc ref d) := by
  unfold Blk.modeRequest
  repeat' first
    | simp only [Nat.reduceAnd, FrameM.refl, FrameM.ite, FrameM.fold, implies_true, and_self, and_true, true_and, FrameM.iff (Blk.complete_frame _ _ _ _), FrameM.iff (Blk.askAcquire_frame _ _ _), FrameM.iff (Blk.modeEnter_frame _ _ _), FrameM.iff (Blk.askCommission_frame _ _ _)]
    | split
    | refine ⟨?_, ?_⟩
    | intro _
    | (with_reducible refine FrameM.foldI (fun _ _ => ?_) ?_)

theorem Blk.msixWrite_frame (b : Blk) (f : Nat) (off : Nat) (v : Word) :
    FrameM 0x10 b (Blk.msixWrite b f off v) := by
  unfold Blk.msixWrite
  repeat' first
    | simp only [Nat.reduceAnd, FrameM.refl, FrameM.ite, FrameM.fold, implies_true, and_self, and_true, true_and, FrameM.iff (FrameM.upd_regs _)]
    | split
    | refine ⟨?_, ?_⟩
    | intro _
    | (with_reducible refine FrameM.foldI (fun _ _ => ?_) ?_)

theorem Blk.nakSend_frame (b : Blk) (v : Inv) :
    FrameM 0x488200020 b (Blk.nakSend b v) := by
  unfold Blk.nakSend
  repeat' first
    | simp only [Nat.reduceAnd, FrameM.refl, FrameM.ite, FrameM.fold, implies_true, and_self, and_true, true_and, FrameM.iff (Blk.sendFrame_frame _ _ _)]
    | split
    | refine ⟨?_, ?_⟩
    | intro _
    | (with_reducible refine FrameM.foldI (fun _ _ => ?_) ?_)

theorem Blk.nowRead_frame (b : Blk) (f : Nat) :
    FrameM 0x40 b (Blk.nowRead b f).1 := by
  unfold Blk.nowRead
  repeat' first
    | simp only [Nat.reduceAnd, snd_ite, fst_ite, FrameM.refl, FrameM.ite, FrameM.fold, implies_true, and_self, and_true, true_and, FrameM.iff (Blk.latchAt_frame _ _ _ _)]
    | split
    | refine ⟨?_, ?_⟩
    | intro _
    | (with_reducible refine FrameM.foldI (fun _ _ => ?_) ?_)

theorem Blk.ntsFrame_frame (b : Blk) (k : Nat) (c : Ctx) (eg : Nat) (x : Nat) :
    FrameM 0x4 b (Blk.ntsFrame b k c eg x).1 := by
  unfold Blk.ntsFrame
  repeat' first
    | simp only [Nat.reduceAnd, snd_ite, fst_ite, FrameM.refl, FrameM.ite, FrameM.fold, implies_true, and_self, and_true, true_and, FrameM.iff (Blk.draw_frame _ _)]
    | split
    | refine ⟨?_, ?_⟩
    | intro _
    | (with_reducible refine FrameM.foldI (fun _ _ => ?_) ?_)

theorem Blk.cookiesNew_frame (b : Blk) (k : Nat) (x : Ctx) (c : Blk) (h : b.cookiesNew k x = some c) :
    FrameM 0x80000024 b c := by
  unfold Blk.cookiesNew at h
  split at h
  · cases h
  · cases h; simp only [Nat.reduceAnd, FrameM.refl, FrameM.iff (Blk.incN_frame _ _ _), FrameM.iff (Blk.draw_frame _ _), FrameM.iff (Blk.setCtx_frame _ _ _)]

theorem Blk.sealSend_frame (b : Blk) (k : Nat) (c : Ctx) (eg : Nat) :
    FrameM 0x488200024 b (Blk.sealSend b k c eg) := by
  unfold Blk.sealSend
  repeat' first
    | simp only [Nat.reduceAnd, FrameM.refl, FrameM.ite, FrameM.fold, implies_true, and_self, and_true, true_and, FrameM.iff (Blk.tooLong_frame _ _), FrameM.iff (Blk.ctxMiss_frame _ _ _ _), FrameM.iff (Blk.ntsFrame_frame _ _ _ _ _), FrameM.iff (Blk.inc_frame _ _), FrameM.iff (Blk.armSeal_frame _ _ _)]
    | split
    | refine ⟨?_, ?_⟩
    | intro _
    | (with_reducible refine FrameM.foldI (fun _ _ => ?_) ?_)

theorem Blk.ntsServe_frame (b : Blk) (v : Inv) (k : Nat) (c : Ctx) :
    FrameM 0x498200024 b (Blk.ntsServe b v k c) := by
  unfold Blk.ntsServe
  repeat' first
    | simp only [Nat.reduceAnd, FrameM.refl, FrameM.ite, FrameM.fold, implies_true, and_self, and_true, true_and, FrameM.iff (Blk.incN_frame _ _ _), FrameM.iff (Blk.draw_frame _ _), FrameM.iff (Blk.setCtx_frame _ _ _), FrameM.iff (Blk.excPut_frame _ _ _ _ _ _), FrameM.iff (Blk.inc_frame _ _), FrameM.iff (Blk.ctxFree_frame _ _), FrameM.iff (Blk.egFree_frame _ _ _), FrameM.iff (Blk.sealSend_frame _ _ _ _), FrameM.iff (Blk.ntsFrame_frame _ _ _ _ _), FrameM.iff (Blk.sendFrame_frame _ _ _)]
    | exact (Blk.cookiesNew_frame _ _ _ _ (by assumption)).mono (by decide)
    | split
    | refine ⟨?_, ?_⟩
    | intro _

theorem Blk.nudged_frame (b : Blk) (f : Nat) :
    FrameM 0x88000 b (Blk.nudged b f) := by
  unfold Blk.nudged
  repeat' first
    | simp only [Nat.reduceAnd, FrameM.refl, FrameM.ite, FrameM.fold, implies_true, and_self, and_true, true_and, FrameM.iff (Blk.pmcEvent_frame _ _ _ _), FrameM.iff (Blk.idleRestart_frame _ _)]
    | split
    | refine ⟨?_, ?_⟩
    | intro _
    | (with_reducible refine FrameM.foldI (fun _ _ => ?_) ?_)

theorem Blk.openWritten_frame (nvm : Nvm) (f : Nat) (b : Blk) :
    FrameM 0x8010 b (Blk.openWritten nvm f b) := by
  unfold Blk.openWritten
  repeat' first
    | simp only [Nat.reduceAnd, FrameM.refl, FrameM.ite, FrameM.fold, implies_true, and_self, and_true, true_and, FrameM.iff (Blk.setSes_frame _ _ _), FrameM.iff (Blk.setF_frame _ _)]
    | split
    | refine ⟨?_, ?_⟩
    | intro _
    | (with_reducible refine FrameM.foldI (fun _ _ => ?_) ?_)

theorem Blk.trailOut_frame (b : Blk) (u : Nat) (t : Int) :
    FrameM 0x2000008 b (Blk.trailOut b u t) := by
  unfold Blk.trailOut
  repeat' first
    | simp only [Nat.reduceAnd, FrameM.refl, FrameM.ite, FrameM.fold, implies_true, and_self, and_true, true_and, FrameM.iff (Blk.setOut_frame _ _ _), FrameM.iff (Blk.edgeOut_frame _ _ _ _)]
    | split
    | refine ⟨?_, ?_⟩
    | intro _
    | (with_reducible refine FrameM.foldI (fun _ _ => ?_) ?_)

theorem Blk.outEdge_frame (b : Blk) (u : Nat) :
    FrameM 0x2080008 b (Blk.outEdge b u) := by
  unfold Blk.outEdge
  repeat' first
    | simp only [Nat.reduceAnd, FrameM.refl, FrameM.ite, FrameM.fold, implies_true, and_self, and_true, true_and, FrameM.iff (Blk.trailOut_frame _ _ _), FrameM.iff (Blk.leadOut_frame _ _)]
    | split
    | refine ⟨?_, ?_⟩
    | intro _
    | (with_reducible refine FrameM.foldI (fun _ _ => ?_) ?_)

theorem Blk.outWritten_frame (old : Blk) (b : Blk) (u : Nat) :
    FrameM 0x2000000 b (Blk.outWritten old b u) := by
  unfold Blk.outWritten
  repeat' first
    | simp only [Nat.reduceAnd, FrameM.refl, FrameM.ite, FrameM.fold, implies_true, and_self, and_true, true_and, FrameM.iff (Blk.unitStart_frame _ _)]
    | split
    | refine ⟨?_, ?_⟩
    | intro _
    | (with_reducible refine FrameM.foldI (fun _ _ => ?_) ?_)

theorem Blk.outputRealign_frame (b : Blk) (ref : DRef) (d : Bytes) :
    FrameM 0x402090008 b (Blk.outputRealign b ref d) := by
  unfold Blk.outputRealign
  repeat' first
    | simp only [Nat.reduceAnd, FrameM.refl, FrameM.ite, FrameM.fold, implies_true, and_self, and_true, true_and, FrameM.iff (FrameM.upd_outs _), FrameM.iff (Blk.complete_frame _ _ _ _), FrameM.iff (Blk.alignCancel_frame _ _), FrameM.iff (Blk.setOut_frame _ _ _)]
    | split
    | refine ⟨?_, ?_⟩
    | intro _
    | (with_reducible refine FrameM.foldI (fun _ _ => ?_) ?_)

theorem Blk.selfEnd_frame (b : Blk) (lane : Nat) (code : Nat) (instr : Nat) (scratch : Bytes) :
    FrameM 0x40000000 b (Blk.selfEnd b lane code instr scratch) := by
  unfold Blk.selfEnd
  repeat' first
    | simp only [Nat.reduceAnd, FrameM.refl, FrameM.ite, FrameM.fold, implies_true, and_self, and_true, true_and, FrameM.iff (FrameM.upd_eng _)]
    | split
    | refine ⟨?_, ?_⟩
    | intro _
    | (with_reducible refine FrameM.foldI (fun _ _ => ?_) ?_)

theorem Blk.overrunAt_frame (b : Blk) (lane : Nat) (instr : Nat) (scratch : Bytes) :
    FrameM 0x7fc7fbfbc b (Blk.overrunAt b lane instr scratch) := by
  unfold Blk.overrunAt
  repeat' first
    | simp only [Nat.reduceAnd, FrameM.refl, FrameM.ite, FrameM.fold, implies_true, and_self, and_true, true_and, FrameM.iff (Blk.pmcEvent_frame _ _ _ _), FrameM.iff (Blk.inc_frame _ _), FrameM.iff (Blk.draw_frame _ _), FrameM.iff (Blk.selfEnd_frame _ _ _ _ _), FrameM.iff (Blk.invAbort_frame _ _), FrameM.iff (Blk.selfSync_frame _), FrameM.iff (Blk.sealDrop_frame _), FrameM.iff (Blk.invExcept_frame _ _ _ _), FrameM.iff (Blk.raise_frame _ _ _ _)]
    | split
    | refine ⟨?_, ?_⟩
    | intro _
    | (with_reducible refine FrameM.foldI (fun _ _ => ?_) ?_)

theorem Blk.pageLost_frame (b : Blk) (f : Nat) :
    FrameM 0x30008 b (Blk.pageLost b f) := by
  unfold Blk.pageLost
  repeat' first
    | simp only [Nat.reduceAnd, FrameM.refl, FrameM.ite, FrameM.fold, implies_true, and_self, and_true, true_and, FrameM.iff (Blk.ringErr_frame _ _ _)]
    | split
    | refine ⟨?_, ?_⟩
    | intro _
    | (with_reducible refine FrameM.foldI (fun _ _ => ?_) ?_)

theorem Blk.pairExpire_frame (b : Blk) (a : Nat) :
    FrameM 0x4000010 b (Blk.pairExpire b a) := by
  unfold Blk.pairExpire
  repeat' first
    | simp only [Nat.reduceAnd, FrameM.refl, FrameM.ite, FrameM.fold, implies_true, and_self, and_true, true_and, FrameM.iff (Blk.pairAll_frame _), FrameM.iff (Blk.satF_frame _ _ _), FrameM.iff (Blk.setEye_frame _ _ _)]
    | split
    | refine ⟨?_, ?_⟩
    | intro _
    | (with_reducible refine FrameM.foldI (fun _ _ => ?_) ?_)

theorem Blk.pass_frame (b : Blk) (w : Nat) :
    FrameM 0x180002 b (Blk.pass b w) := by
  unfold Blk.pass
  repeat' first
    | simp only [Nat.reduceAnd, FrameM.refl, FrameM.ite, FrameM.fold, implies_true, and_self, and_true, true_and, FrameM.iff (FrameM.upd_up_pmc_ins _)]
    | split
    | refine ⟨?_, ?_⟩
    | intro _
    | (with_reducible refine FrameM.foldI (fun _ _ => ?_) ?_)

theorem Blk.writeBack_frame (b : Blk) (v : Inv) (kod : Bool) :
    FrameM 0x20080020 b (Blk.writeBack b v kod) := by
  unfold Blk.writeBack
  repeat' first
    | simp only [Nat.reduceAnd, FrameM.refl, FrameM.ite, FrameM.fold, implies_true, and_self, and_true, true_and, FrameM.iff (Blk.setBucket_frame _ _ _), FrameM.iff (Blk.inc_frame _ _), FrameM.iff (Blk.pmcEvent_frame _ _ _ _)]
    | split
    | refine ⟨?_, ?_⟩
    | intro _
    | (with_reducible refine FrameM.foldI (fun _ _ => ?_) ?_)

theorem Blk.relaunchEnd_frame (b : Blk) (k : Nat) (c : Ctx) :
    FrameM 0x488200024 b (Blk.relaunchEnd b k c) := by
  have hf : ∀ c', (if (b.liveEpoch c.cookieEpoch).isSome then some b else b.cookiesNew k c) = some c' → FrameM 0x488200024 b c' := by
    intro c' h
    split at h
    · cases h; exact of_eq_true (FrameM.refl _ _)
    · exact (Blk.cookiesNew_frame _ _ _ _ h).mono (by decide)
  unfold Blk.relaunchEnd
  repeat' first
    | simp only [Nat.reduceAnd, FrameM.refl, FrameM.ite, FrameM.fold, implies_true, and_self, and_true, true_and, FrameM.iff (Blk.incN_frame _ _ _), FrameM.iff (Blk.draw_frame _ _), FrameM.iff (Blk.setCtx_frame _ _ _), FrameM.iff (Blk.inc_frame _ _), FrameM.iff (Blk.sealDrop_frame _), FrameM.iff (Blk.ctxFree_frame _ _), FrameM.iff (Blk.sealSend_frame _ _ _ _)]
    | exact hf _ (by assumption)
    | split
    | refine ⟨?_, ?_⟩
    | intro _

theorem Blk.planEnd_frame (b : Blk) (v : Inv) (p : Plan) :
    FrameM 0x498200024 b (Blk.planEnd b v p) := by
  unfold Blk.planEnd
  repeat' first
    | simp only [Nat.reduceAnd, FrameM.refl, FrameM.ite, FrameM.fold, implies_true, and_self, and_true, true_and, FrameM.iff (Blk.ntsServe_frame _ _ _ _), FrameM.iff (Blk.draw_frame _ _), FrameM.iff (Blk.sendFrame_frame _ _ _), FrameM.iff (Blk.kodSend_frame _ _ _), FrameM.iff (Blk.inc_frame _ _), FrameM.iff (Blk.invRelease_frame _ _), FrameM.iff (Blk.nakSend_frame _ _), FrameM.iff (Blk.excPut_frame _ _ _ _ _ _)]
    | split
    | refine ⟨?_, ?_⟩
    | intro _
    | (with_reducible refine FrameM.foldI (fun _ _ => ?_) ?_)

theorem Blk.planReturn_frame (b : Blk) (lane : Nat) (v : Inv) (p : Plan) :
    FrameM 0x4f829003c b (Blk.planReturn b lane v p) := by
  unfold Blk.planReturn
  repeat' first
    | simp only [Nat.reduceAnd, FrameM.refl, FrameM.ite, FrameM.fold, implies_true, and_self, and_true, true_and, FrameM.iff (Blk.writeBack_frame _ _ _), FrameM.iff (Blk.pmcEvent_frame _ _ _ _), FrameM.iff (Blk.invLeave_frame _ _ _), FrameM.iff (Blk.relaunchEnd_frame _ _ _), FrameM.iff (Blk.planEnd_frame _ _ _)]
    | split
    | refine ⟨?_, ?_⟩
    | intro _
    | (with_reducible refine FrameM.foldI (fun _ _ => ?_) ?_)

theorem Blk.patReturn_frame (b : Blk) (lane : Nat) (code : Nat) (instr : Nat) (scratch : Bytes) :
    FrameM 0x7fc7fbfbc b (Blk.patReturn b lane code instr scratch) := by
  unfold Blk.patReturn
  repeat' first
    | simp only [Nat.reduceAnd, FrameM.refl, FrameM.ite, FrameM.fold, implies_true, and_self, and_true, true_and, FrameM.iff (Blk.pmcEvent_frame _ _ _ _), FrameM.iff (Blk.invLeave_frame _ _ _), FrameM.iff (Blk.selfEnd_frame _ _ _ _ _), FrameM.iff (Blk.inc_frame _ _), FrameM.iff (Blk.raise_frame _ _ _ _), FrameM.iff (Blk.invExcept_frame _ _ _ _), FrameM.iff (Blk.selfSync_frame _), FrameM.iff (Blk.invFault_frame _ _ _), FrameM.iff (Blk.planReturn_frame _ _ _ _)]
    | split
    | refine ⟨?_, ?_⟩
    | intro _
    | (with_reducible refine FrameM.foldI (fun _ _ => ?_) ?_)

theorem Blk.pcsChange_frame (b : Blk) (p : Nat) (x : PcsState) :
    FrameM 0x4882b0038 b (Blk.pcsChange b p x) := by
  unfold Blk.pcsChange
  repeat' first
    | simp only [Nat.reduceAnd, FrameM.refl, FrameM.ite, FrameM.fold, implies_true, and_self, and_true, true_and, FrameM.iff (Blk.setPort_frame _ _ _), FrameM.iff (Blk.linkFall_frame _ _), FrameM.iff (Blk.recLink_frame _ _ _), FrameM.iff (Blk.setF_frame _ _)]
    | split
    | refine ⟨?_, ?_⟩
    | intro _
    | (with_reducible refine FrameM.foldI (fun _ _ => ?_) ?_)

theorem Blk.pmcHiWrite_frame (b : Blk) (f : Nat) (i : Nat) (v : Nat) :
    FrameM 0x80000 b (Blk.pmcHiWrite b f i v) := by
  unfold Blk.pmcHiWrite
  repeat' first
    | simp only [Nat.reduceAnd, FrameM.refl, FrameM.ite, FrameM.fold, implies_true, and_self, and_true, true_and, FrameM.iff (FrameM.upd_pmc _)]
    | split
    | refine ⟨?_, ?_⟩
    | intro _
    | (with_reducible refine FrameM.foldI (fun _ _ => ?_) ?_)

theorem Blk.unlatch_frame (b : Blk) (f : Nat) (off : Nat) :
    FrameM 0x40 b (Blk.unlatch b f off) := by
  unfold Blk.unlatch
  repeat' first
    | simp only [Nat.reduceAnd, FrameM.refl, FrameM.ite, FrameM.fold, implies_true, and_self, and_true, true_and, FrameM.iff (FrameM.upd_latch _)]
    | split
    | refine ⟨?_, ?_⟩
    | intro _
    | (with_reducible refine FrameM.foldI (fun _ _ => ?_) ?_)

theorem Blk.pmcLoRead_frame (b : Blk) (f : Nat) (i : Nat) :
    FrameM 0x40 b (Blk.pmcLoRead b f i).1 := by
  unfold Blk.pmcLoRead
  repeat' first
    | simp only [Nat.reduceAnd, snd_ite, fst_ite, FrameM.refl, FrameM.ite, FrameM.fold, implies_true, and_self, and_true, true_and, FrameM.iff (Blk.latchAt_frame _ _ _ _), FrameM.iff (Blk.unlatch_frame _ _ _)]
    | split
    | refine ⟨?_, ?_⟩
    | intro _
    | (with_reducible refine FrameM.foldI (fun _ _ => ?_) ?_)

theorem Blk.pmcLoWrite_frame (b : Blk) (f : Nat) (i : Nat) (v : Nat) :
    FrameM 0x80000 b (Blk.pmcLoWrite b f i v) := by
  unfold Blk.pmcLoWrite
  repeat' first
    | simp only [Nat.reduceAnd, FrameM.refl, FrameM.ite, FrameM.fold, implies_true, and_self, and_true, true_and, FrameM.iff (FrameM.upd_pmc _)]
    | split
    | refine ⟨?_, ?_⟩
    | intro _
    | (with_reducible refine FrameM.foldI (fun _ _ => ?_) ?_)

theorem Blk.pmcRegWrite_frame (b : Blk) (f : Nat) (base : Nat) (off : Nat) (i : Nat) (v : Word) :
    FrameM 0x80010 b (Blk.pmcRegWrite b f base off i v) := by
  unfold Blk.pmcRegWrite
  repeat' first
    | simp only [Nat.reduceAnd, FrameM.refl, FrameM.ite, FrameM.fold, implies_true, and_self, and_true, true_and, FrameM.iff (FrameM.upd_pmc _), FrameM.iff (Blk.pmcLoWrite_frame _ _ _ _), FrameM.iff (Blk.pmcHiWrite_frame _ _ _ _), FrameM.iff (Blk.regWrite_frame _ _ _ _)]
    | split
    | refine ⟨?_, ?_⟩
    | intro _
    | (with_reducible refine FrameM.foldI (fun _ _ => ?_) ?_)

theorem Blk.pmcWrap_frame (b : Blk) (i : Nat) (n : Nat) (last : Nat) (entry : Nat) (offset : Nat) (idle : Bool) :
    FrameM 0xa0008 b (Blk.pmcWrap b i n last entry offset idle) := by
  unfold Blk.pmcWrap
  repeat' first
    | simp only [Nat.reduceAnd, FrameM.refl, FrameM.ite, FrameM.fold, implies_true, and_self, and_true, true_and, FrameM.iff (FrameM.upd_pmc _), FrameM.iff (Blk.record_frame _ _ _ _ _ _ _)]
    | split
    | refine ⟨?_, ?_⟩
    | intro _
    | (with_reducible refine FrameM.foldI (fun _ _ => ?_) ?_)

theorem Blk.policyGate_frame (b : Blk) (ref : DRef) (d : Bytes) (img : Bytes) :
    FrameM 0x488290038 b (Blk.policyGate b ref d img) := by
  unfold Blk.policyGate
  repeat' first
    | simp only [Nat.reduceAnd, FrameM.refl, FrameM.ite, FrameM.fold, implies_true, and_self, and_true, true_and, FrameM.iff (Blk.complete_frame _ _ _ _), FrameM.iff (Blk.gateReject_frame _ _), FrameM.iff (Blk.gateArm_frame _ _ _)]
    | split
    | refine ⟨?_, ?_⟩
    | intro _
    | (with_reducible refine FrameM.foldI (fun _ _ => ?_) ?_)

theorem Blk.policyLpi_frame (b : Blk) (ref : DRef) (d : Bytes) :
    FrameM 0x400090018 b (Blk.policyLpi b ref d) := by
  unfold Blk.policyLpi
  repeat' first
    | simp only [Nat.reduceAnd, FrameM.refl, FrameM.ite, FrameM.fold, implies_true, and_self, and_true, true_and, FrameM.iff (Blk.complete_frame _ _ _ _), FrameM.iff (Blk.wr_frame _ _ _)]
    | split
    | refine ⟨?_, ?_⟩
    | intro _
    | (with_reducible refine FrameM.foldI (fun _ _ => ?_) ?_)

theorem Blk.recordPut_frame (b : Blk) (x : Nat × Nat) :
    FrameM 0x10 b (Blk.recordPut b x) := by
  unfold Blk.recordPut
  repeat' first
    | simp only [Nat.reduceAnd, FrameM.refl, FrameM.ite, FrameM.fold, implies_true, and_self, and_true, true_and, FrameM.iff (FrameM.upd_regs _)]
    | split
    | refine ⟨?_, ?_⟩
    | intro _
    | (with_reducible refine FrameM.foldI (fun _ _ => ?_) ?_)

theorem Blk.policyRecords_frame (b : Blk) (ref : DRef) (d : Bytes) (img : Bytes) (ok : Nat → Bool) :
    FrameM 0x420090018 b (Blk.policyRecords b ref d img ok) := by
  unfold Blk.policyRecords
  repeat' first
    | simp only [Nat.reduceAnd, FrameM.refl, FrameM.ite, FrameM.fold, implies_true, and_self, and_true, true_and, FrameM.iff (Blk.complete_frame _ _ _ _), FrameM.iff (Blk.aclNext_frame _ _), FrameM.iff (Blk.recordPut_frame _ _)]
    | split
    | refine ⟨?_, ?_⟩
    | intro _
    | (with_reducible refine FrameM.foldI (fun _ _ => ?_) ?_)

theorem Blk.slotRead_frame (b : Blk) (slot : Nat) (pi : Nat) (ci : Nat) :
    FrameM 0x38008 b (Blk.slotRead b slot pi ci) := by
  unfold Blk.slotRead
  repeat' first
    | simp only [Nat.reduceAnd, FrameM.refl, FrameM.ite, FrameM.fold, implies_true, and_self, and_true, true_and, FrameM.iff (Blk.idleRestart_frame _ _), FrameM.iff (Blk.setRing_frame _ _ _), FrameM.iff (Blk.ringErr_frame _ _ _), FrameM.iff (Blk.setEvt_frame _ _ _)]
    | split
    | refine ⟨?_, ?_⟩
    | intro _
    | (with_reducible refine FrameM.foldI (fun _ _ => ?_) ?_)

theorem Blk.pollRead_frame : ∀ (b : Blk) (l : List Nat), FrameM 0x38008 b (b.pollRead l)
  | b, slot :: pi :: ci :: rest => by
    unfold Blk.pollRead
    rw [FrameM.iff (Blk.pollRead_frame _ rest) _ _ (by decide), FrameM.iff (Blk.slotRead_frame _ _ _ _) _ _ (by decide), FrameM.refl]; trivial
  | b, [] => by unfold Blk.pollRead; rw [FrameM.refl]; trivial
  | b, [_] => by unfold Blk.pollRead; rw [FrameM.refl]; trivial
  | b, [_, _] => by unfold Blk.pollRead; rw [FrameM.refl]; trivial

theorem Blk.toQualified_frame (b : Blk) (k : Nat) :
    FrameM 0x1c20008 b (Blk.toQualified b k) := by
  unfold Blk.toQualified
  repeat' first
    | simp only [Nat.reduceAnd, FrameM.refl, FrameM.ite, FrameM.fold, implies_true, and_self, and_true, true_and, FrameM.iff (Blk.refsSettle_frame _), FrameM.iff (Blk.slotMove_frame _ _ _ _ _)]
    | split
    | refine ⟨?_, ?_⟩
    | intro _
    | (with_reducible refine FrameM.foldI (fun _ _ => ?_) ?_)

theorem Blk.qualExpire_frame (b : Blk) (k : Nat) :
    FrameM 0x1c20008 b (Blk.qualExpire b k) := by
  unfold Blk.qualExpire
  repeat' first
    | simp only [Nat.reduceAnd, FrameM.refl, FrameM.ite, FrameM.fold, implies_true, and_self, and_true, true_and, FrameM.iff (Blk.refsSettle_frame _), FrameM.iff (Blk.slotMove_frame _ _ _ _ _), FrameM.iff (Blk.toQualified_frame _ _)]
    | split
    | refine ⟨?_, ?_⟩
    | intro _
    | (with_reducible refine FrameM.foldI (fun _ _ => ?_) ?_)

theorem Blk.regValue_frame (b : Blk) (nvm : Nvm) (f : Nat) (off : Nat) :
    FrameM 0x4000050 b (Blk.regValue b nvm f off).1 := by
  unfold Blk.regValue
  repeat' first
    | simp only [Nat.reduceAnd, snd_ite, fst_ite, FrameM.refl, FrameM.ite, FrameM.fold, implies_true, and_self, and_true, true_and, FrameM.iff (Blk.ctrRead_frame _ _ _), FrameM.iff (Blk.nowRead_frame _ _), FrameM.iff (Blk.misRead_frame _ _ _), FrameM.iff (Blk.errLogRead_frame _ _ _), FrameM.iff (Blk.gateRead_frame _ _ _), FrameM.iff (Blk.pmcLoRead_frame _ _ _), FrameM.iff (Blk.pairAll_frame _)]
    | split
    | refine ⟨?_, ?_⟩
    | intro _
    | (with_reducible refine FrameM.foldI (fun _ _ => ?_) ?_)

theorem Blk.readOne_frame (b : Blk) (nvm : Nvm) (f : Nat) (off : Nat) :
    FrameM 0x4000050 b (Blk.readOne b nvm f off).1 := by
  unfold Blk.readOne
  repeat' first
    | simp only [Nat.reduceAnd, snd_ite, fst_ite, FrameM.refl, FrameM.ite, FrameM.fold, implies_true, and_self, and_true, true_and, FrameM.iff (Blk.regValue_frame _ _ _ _), FrameM.iff (Blk.accErr_frame _ _ _ _ _)]
    | split
    | refine ⟨?_, ?_⟩
    | intro _
    | (with_reducible refine FrameM.foldI (fun _ _ => ?_) ?_)

theorem Blk.readOut_frame (b : Blk) (f : Nat) (off : Nat) (ws : List Nat) :
    FrameM 0x8 b (Blk.readOut b f off ws) := by
  unfold Blk.readOut
  repeat' first
    | simp only [Nat.reduceAnd, FrameM.refl, FrameM.ite, FrameM.fold, implies_true, and_self, and_true, true_and, FrameM.iff (Blk.put_frame _ _)]
    | split
    | refine ⟨?_, ?_⟩
    | intro _
    | (with_reducible refine FrameM.foldI (fun _ _ => ?_) ?_)

theorem Blk.readWords_frame (b : Blk) (nvm : Nvm) (f : Nat) (off : Nat) (be : Nat) (y5 : Nat) :
    FrameM 0x4000050 b (Blk.readWords b nvm f off be y5).1 := by
  induction y5 generalizing b off be with
  | zero => unfold Blk.readWords; simp only [FrameM.refl]
  | succ n ih =>
    unfold Blk.readWords
    simp only [FrameM.iff (ih _ _ _), Nat.reduceAnd, FrameM.iff (Blk.readOne_frame _ _ _ _), FrameM.refl]

theorem Blk.refClear_frame (b : Blk) (ref : DRef) (d : Bytes) :
    FrameM 0x401cb0008 b (Blk.refClear b ref d) := by
  unfold Blk.refClear
  repeat' first
    | simp only [Nat.reduceAnd, FrameM.refl, FrameM.ite, FrameM.fold, implies_true, and_self, and_true, true_and, FrameM.iff (Blk.complete_frame _ _ _ _), FrameM.iff (Blk.refsSettle_frame _), FrameM.iff (Blk.toNoSignal_frame _ _ _ _), FrameM.iff (Blk.setSlot_frame _ _ _)]
    | split
    | refine ⟨?_, ?_⟩
    | intro _
    | (with_reducible refine FrameM.foldI (fun _ _ => ?_) ?_)

theorem Blk.refClearWtr_frame (b : Blk) (ref : DRef) (d : Bytes) :
    FrameM 0x401cb0008 b (Blk.refClearWtr b ref d) := by
  unfold Blk.refClearWtr
  repeat' first
    | simp only [Nat.reduceAnd, FrameM.refl, FrameM.ite, FrameM.fold, implies_true, and_self, and_true, true_and, FrameM.iff (Blk.complete_frame _ _ _ _), FrameM.iff (Blk.toQualified_frame _ _)]
    | split
    | refine ⟨?_, ?_⟩
    | intro _
    | (with_reducible refine FrameM.foldI (fun _ _ => ?_) ?_)

theorem Blk.refComparison_frame (b : Blk) (k : Nat) (t : Int) (tRef : Int) :
    FrameM 0x7ffffbfbc b (Blk.refComparison b k t tRef) := by
  unfold Blk.refComparison
  repeat' first
    | simp only [Nat.reduceAnd, FrameM.refl, FrameM.ite, FrameM.fold, implies_true, and_self, and_true, true_and, FrameM.iff (Blk.slotEvent_frame _ _ _ _ _), FrameM.iff (Blk.gnssEdge_frame _ _ _)]
    | split
    | refine ⟨?_, ?_⟩
    | intro _
    | (with_reducible refine FrameM.foldI (fun _ _ => ?_) ?_)

theorem Blk.refForce_frame (b : Blk) (ref : DRef) (d : Bytes) :
    FrameM 0x401cb0008 b (Blk.refForce b ref d) := by
  unfold Blk.refForce
  repeat' first
    | simp only [Nat.reduceAnd, FrameM.refl, FrameM.ite, FrameM.fold, implies_true, and_self, and_true, true_and, FrameM.iff (Blk.complete_frame _ _ _ _), FrameM.iff (Blk.steerSync_frame _), FrameM.iff (Blk.forceSlot_frame _ _)]
    | split
    | refine ⟨?_, ?_⟩
    | intro _
    | (with_reducible refine FrameM.foldI (fun _ _ => ?_) ?_)

theorem Blk.refLockout_frame (b : Blk) (ref : DRef) (d : Bytes) :
    FrameM 0x401cb0008 b (Blk.refLockout b ref d) := by
  unfold Blk.refLockout
  repeat' first
    | simp only [Nat.reduceAnd, FrameM.refl, FrameM.ite, FrameM.fold, implies_true, and_self, and_true, true_and, FrameM.iff (Blk.complete_frame _ _ _ _), FrameM.iff (Blk.setSlot_frame _ _ _), FrameM.iff (Blk.refsSettle_frame _), FrameM.iff (Blk.slotMove_frame _ _ _ _ _)]
    | split
    | refine ⟨?_, ?_⟩
    | intro _
    | (with_reducible refine FrameM.foldI (fun _ _ => ?_) ?_)

theorem Blk.refSetBw_frame (b : Blk) (ref : DRef) (d : Bytes) :
    FrameM 0x400090018 b (Blk.refSetBw b ref d) := by
  unfold Blk.refSetBw
  repeat' first
    | simp only [Nat.reduceAnd, FrameM.refl, FrameM.ite, FrameM.fold, implies_true, and_self, and_true, true_and, FrameM.iff (Blk.complete_frame _ _ _ _), FrameM.iff (Blk.wr_frame _ _ _)]
    | split
    | refine ⟨?_, ?_⟩
    | intro _
    | (with_reducible refine FrameM.foldI (fun _ _ => ?_) ?_)

theorem Blk.toEnsemble_frame (b : Blk) :
    FrameM 0x1c20018 b (Blk.toEnsemble b) := by
  unfold Blk.toEnsemble
  repeat' first
    | simp only [Nat.reduceAnd, FrameM.refl, FrameM.ite, FrameM.fold, implies_true, and_self, and_true, true_and, FrameM.iff (FrameM.upd_refs _), FrameM.iff (Blk.setChoice_frame _ _), FrameM.iff (Blk.refsSettle_frame _), FrameM.iff (Blk.wr_frame _ _ _)]
    | split
    | refine ⟨?_, ?_⟩
    | intro _
    | (with_reducible refine FrameM.foldI (fun _ _ => ?_) ?_)

theorem Blk.toSelect_frame (b : Blk) :
    FrameM 0x1c20018 b (Blk.toSelect b) := by
  unfold Blk.toSelect
  repeat' first
    | simp only [Nat.reduceAnd, FrameM.refl, FrameM.ite, FrameM.fold, implies_true, and_self, and_true, true_and, FrameM.iff (Blk.wr_frame _ _ _), FrameM.iff (Blk.refsSettle_frame _), FrameM.iff (Blk.switchTo_frame _ _ _), FrameM.iff (Blk.setChoice_frame _ _)]
    | split
    | refine ⟨?_, ?_⟩
    | intro _
    | (with_reducible refine FrameM.foldI (fun _ _ => ?_) ?_)

theorem Blk.refSetMode_frame (b : Blk) (ref : DRef) (d : Bytes) :
    FrameM 0x401cb0018 b (Blk.refSetMode b ref d) := by
  unfold Blk.refSetMode
  repeat' first
    | simp only [Nat.reduceAnd, FrameM.refl, FrameM.ite, FrameM.fold, implies_true, and_self, and_true, true_and, FrameM.iff (Blk.complete_frame _ _ _ _), FrameM.iff (Blk.completeBusy_frame _ _), FrameM.iff (Blk.toEnsemble_frame _), FrameM.iff (Blk.toSelect_frame _)]
    | split
    | refine ⟨?_, ?_⟩
    | intro _
    | (with_reducible refine FrameM.foldI (fun _ _ => ?_) ?_)

theorem Blk.refSetPrio_frame (b : Blk) (ref : DRef) (d : Bytes) :
    FrameM 0x401cb0018 b (Blk.refSetPrio b ref d) := by
  unfold Blk.refSetPrio
  repeat' first
    | simp only [Nat.reduceAnd, FrameM.refl, FrameM.ite, FrameM.fold, implies_true, and_self, and_true, true_and, FrameM.iff (Blk.complete_frame _ _ _ _), FrameM.iff (Blk.refsSettle_frame _), FrameM.iff (Blk.wr_frame _ _ _)]
    | split
    | refine ⟨?_, ?_⟩
    | intro _
    | (with_reducible refine FrameM.foldI (fun _ _ => ?_) ?_)

theorem Blk.refTick_frame (b : Blk) (k : Nat) (missed : Bool) :
    FrameM 0x1c20008 b (Blk.refTick b k missed) := by
  unfold Blk.refTick
  repeat' first
    | simp only [Nat.reduceAnd, FrameM.refl, FrameM.ite, FrameM.fold, implies_true, and_self, and_true, true_and, FrameM.iff (Blk.setSlot_frame _ _ _), FrameM.iff (Blk.refsSettle_frame _), FrameM.iff (Blk.slotEval_frame _ _)]
    | split
    | refine ⟨?_, ?_⟩
    | intro _
    | (with_reducible refine FrameM.foldI (fun _ _ => ?_) ?_)

theorem Blk.srcWritten_frame (old : Blk) (b : Blk) (k : Nat) :
    FrameM 0x1c20008 b (Blk.srcWritten old b k) := by
  unfold Blk.srcWritten
  repeat' first
    | simp only [Nat.reduceAnd, FrameM.refl, FrameM.ite, FrameM.fold, implies_true, and_self, and_true, true_and, FrameM.iff (Blk.setSlot_frame _ _ _), FrameM.iff (Blk.refsSettle_frame _), FrameM.iff (Blk.slotEval_frame _ _)]
    | split
    | refine ⟨?_, ?_⟩
    | intro _
    | (with_reducible refine FrameM.foldI (fun _ _ => ?_) ?_)

theorem Blk.regFollow_frame (old : Blk) (b : Blk) (base : Nat) (i : Nat) :
    FrameM 0x7ffffbfbc b (Blk.regFollow old b base i) := by
  unfold Blk.regFollow
  repeat' first
    | simp only [Nat.reduceAnd, FrameM.refl, FrameM.ite, FrameM.fold, implies_true, and_self, and_true, true_and, FrameM.iff (Blk.txRetry_frame _), FrameM.iff (Blk.refsSettle_frame _), FrameM.iff (Blk.linksSync_frame _), FrameM.iff (Blk.srcWritten_frame _ _ _), FrameM.iff (Blk.outWritten_frame _ _ _), FrameM.iff (Blk.bankCheck_frame _), FrameM.iff (Blk.eyeWritten_frame _ _ _), FrameM.iff (Blk.measSet_frame _ _), FrameM.iff (Blk.aclNext_frame _ _)]
    | split
    | refine ⟨?_, ?_⟩
    | intro _
    | (with_reducible refine FrameM.foldI (fun _ _ => ?_) ?_)

theorem Blk.release_frame (b : Blk) (u : Nat) :
    FrameM 0x40000 b (Blk.release b u) := by
  unfold Blk.release
  repeat' first
    | simp only [Nat.reduceAnd, FrameM.refl, FrameM.ite, FrameM.fold, implies_true, and_self, and_true, true_and, FrameM.iff (FrameM.upd_err _)]
    | split
    | refine ⟨?_, ?_⟩
    | intro _
    | (with_reducible refine FrameM.foldI (fun _ _ => ?_) ?_)

theorem Blk.relock_frame (b : Blk) :
    FrameM 0x7ffffbfbc b (Blk.relock b) := by
  unfold Blk.relock
  repeat' first
    | simp only [Nat.reduceAnd, FrameM.refl, FrameM.ite, FrameM.fold, implies_true, and_self, and_true, true_and, FrameM.iff (FrameM.upd_refs _), FrameM.iff (Blk.align_frame _ _), FrameM.iff (Blk.draw_frame _ _), FrameM.iff (Blk.modeEnter_frame _ _ _)]
    | split
    | refine ⟨?_, ?_⟩
    | intro _
    | (with_reducible refine FrameM.foldI (fun _ _ => ?_) ?_)

theorem Blk.ringEnable_frame (b : Blk) (r : Nat) :
    FrameM 0x30018 b (Blk.ringEnable b r) := by
  unfold Blk.ringEnable
  repeat' first
    | simp only [Nat.reduceAnd, FrameM.refl, FrameM.ite, FrameM.fold, implies_true, and_self, and_true, true_and, FrameM.iff (Blk.setF_frame _ _), FrameM.iff (Blk.setRing_frame _ _ _), FrameM.iff (Blk.ringErr_frame _ _ _)]
    | split
    | refine ⟨?_, ?_⟩
    | intro _
    | (with_reducible refine FrameM.foldI (fun _ _ => ?_) ?_)

theorem Blk.unwait_frame (b : Blk) (ref : DRef) :
    FrameM 0x420000000 b (Blk.unwait b ref) := by
  unfold Blk.unwait
  repeat' first
    | simp only [Nat.reduceAnd, FrameM.refl, FrameM.ite, FrameM.fold, implies_true, and_self, and_true, true_and, FrameM.iff (FrameM.upd_ct_flow _)]
    | split
    | refine ⟨?_, ?_⟩
    | intro _
    | (with_reducible refine FrameM.foldI (fun _ _ => ?_) ?_)

theorem Blk.ringDisable_frame (b : Blk) (r : Nat) :
    FrameM 0x430090018 b (Blk.ringDisable b r) := by
  unfold Blk.ringDisable
  repeat' first
    | simp only [Nat.reduceAnd, FrameM.refl, FrameM.ite, FrameM.fold, implies_true, and_self, and_true, true_and, FrameM.iff (Blk.excSpill_frame _ _), FrameM.iff (Blk.wr_frame _ _ _), FrameM.iff (Blk.complete_frame _ _ _ _), FrameM.iff (Blk.unwait_frame _ _), FrameM.iff (Blk.setRing_frame _ _ _)]
    | split
    | refine ⟨?_, ?_⟩
    | intro _
    | (with_reducible refine FrameM.foldI (fun _ _ => ?_) ?_)

theorem Blk.ringCtl_frame (b : Blk) (f : Nat) (r : Nat) (v : Word) :
    FrameM 0x4300b0018 b (Blk.ringCtl b f r v) := by
  unfold Blk.ringCtl
  repeat' first
    | simp only [Nat.reduceAnd, FrameM.refl, FrameM.ite, FrameM.fold, implies_true, and_self, and_true, true_and, FrameM.iff (Blk.regWrite_frame _ _ _ _), FrameM.iff (Blk.ringEnable_frame _ _), FrameM.iff (Blk.ringDisable_frame _ _)]
    | split
    | refine ⟨?_, ?_⟩
    | intro _
    | (with_reducible refine FrameM.foldI (fun _ _ => ?_) ?_)

theorem Blk.rstCtrl_frame (b : Blk) (f : Nat) (v : Nat) :
    FrameM 0xffffffff4 b (Blk.rstCtrl b f v) := by
  unfold Blk.rstCtrl
  repeat' first
    | simp only [Nat.reduceAnd, FrameM.refl, FrameM.ite, FrameM.fold, implies_true, and_self, and_true, true_and, FrameM.iff (Blk.devReset_frame _ _)]
    | split
    | refine ⟨?_, ?_⟩
    | intro _
    | (with_reducible refine FrameM.foldI (fun _ _ => ?_) ?_)

theorem Blk.unitReset_frame (b : Blk) (f : Nat) (kind : Nat) (index : Nat) :
    FrameM 0x7fc7fbfbc b (Blk.unitReset b f kind index) := by
  unfold Blk.unitReset
  repeat' first
    | simp only [Nat.reduceAnd, FrameM.refl, FrameM.ite, FrameM.fold, implies_true, and_self, and_true, true_and, FrameM.iff (Blk.setF_frame _ _), FrameM.iff (Blk.release_frame _ _), FrameM.iff (Blk.follow_frame _ _), FrameM.iff (Blk.unitBegin_frame _ _ _ _)]
    | split
    | refine ⟨?_, ?_⟩
    | intro _
    | (with_reducible refine FrameM.foldI (fun _ _ => ?_) ?_)

theorem Blk.rstUnit_frame (b : Blk) (f : Nat) (v : Nat) :
    FrameM 0x7fc7fbfbc b (Blk.rstUnit b f v) := by
  unfold Blk.rstUnit
  repeat' first
    | simp only [Nat.reduceAnd, FrameM.refl, FrameM.ite, FrameM.fold, implies_true, and_self, and_true, true_and, FrameM.iff (Blk.unitReset_frame _ _ _ _), FrameM.iff (Blk.regWrite_frame _ _ _ _)]
    | split
    | refine ⟨?_, ?_⟩
    | intro _
    | (with_reducible refine FrameM.foldI (fun _ _ => ?_) ?_)

theorem Blk.runIssued_frame (b : Blk) (cls : Nat) (i : Nat) :
    FrameM 0x7fe7fbfbc b (Blk.runIssued b cls i) := by
  unfold Blk.runIssued
  repeat' first
    | simp only [Nat.reduceAnd, FrameM.refl, FrameM.ite, FrameM.fold, implies_true, and_self, and_true, true_and, FrameM.iff (Blk.pmcEvent_frame _ _ _ _), FrameM.iff (Blk.lstNextOcc_frame _ _ _ _), FrameM.iff (Blk.launchFail_frame _ _ _), FrameM.iff (Blk.launchRun_frame _ _ _), FrameM.iff (Blk.gateTake_frame _ _), FrameM.iff (Blk.setGate_frame _ _ _), FrameM.iff (Blk.setWindow_frame _ _ _), FrameM.iff (Blk.complete_frame _ _ _ _), FrameM.iff (Blk.lstNop_frame _ _), FrameM.iff (Blk.lstRecord_frame _ _ _ _ _ _ _ _ _), FrameM.iff (stepFn_frame _ _), FrameM.iff (Blk.runEntry_frame stepFn stepFn_frame _ _ _ _ _)]
    | split
    | refine ⟨?_, ?_⟩
    | intro _
    | (with_reducible refine FrameM.foldI (fun _ _ => ?_) ?_)

theorem Blk.rxPost_frame (b : Blk) (ref : DRef) (d : Bytes) :
    FrameM 0x400090008 b (Blk.rxPost b ref d) := by
  unfold Blk.rxPost
  repeat' first
    | simp only [Nat.reduceAnd, FrameM.refl, FrameM.ite, FrameM.fold, implies_true, and_self, and_true, true_and, FrameM.iff (Blk.complete_frame _ _ _ _)]
    | split
    | refine ⟨?_, ?_⟩
    | intro _
    | (with_reducible refine FrameM.foldI (fun _ _ => ?_) ?_)

theorem Blk.scanBucket_frame (b : Blk) (i : Nat) :
    FrameM 0x20000020 b (Blk.scanBucket b i) := by
  unfold Blk.scanBucket
  repeat' first
    | simp only [Nat.reduceAnd, FrameM.refl, FrameM.ite, FrameM.fold, implies_true, and_self, and_true, true_and, FrameM.iff (Blk.incN_frame _ _ _), FrameM.iff (Blk.setBucket_frame _ _ _)]
    | split
    | refine ⟨?_, ?_⟩
    | intro _
    | (with_reducible refine FrameM.foldI (fun _ _ => ?_) ?_)

theorem Blk.scanDone_frame (b : Blk) :
    FrameM 0x420090028 b (Blk.scanDone b) := by
  unfold Blk.scanDone
  repeat' first
    | simp only [Nat.reduceAnd, FrameM.refl, FrameM.ite, FrameM.fold, implies_true, and_self, and_true, true_and, FrameM.iff (FrameM.upd_ct _), FrameM.iff (Blk.scanBucket_frame _ _), FrameM.iff (Blk.complete_frame _ _ _ _)]
    | split
    | refine ⟨?_, ?_⟩
    | intro _
    | (with_reducible refine FrameM.foldI (fun _ _ => ?_) ?_)

theorem Blk.scanStart_frame (b : Blk) (ref : Option DRef) :
    FrameM 0x20000020 b (Blk.scanStart b ref) := by
  unfold Blk.scanStart
  repeat' first
    | simp only [Nat.reduceAnd, FrameM.refl, FrameM.ite, FrameM.fold, implies_true, and_self, and_true, true_and, FrameM.iff (FrameM.upd_ct _), FrameM.iff (Blk.scanBucket_frame _ _)]
    | split
    | refine ⟨?_, ?_⟩
    | intro _
    | (with_reducible refine FrameM.foldI (fun _ _ => ?_) ?_)

theorem Blk.secretWrite_frame (b : Blk) (f : Nat) (off : Nat) (v : Word) :
    FrameM 0x10 b (Blk.secretWrite b f off v) := by
  unfold Blk.secretWrite
  repeat' first
    | simp only [Nat.reduceAnd, FrameM.refl, FrameM.ite, FrameM.fold, implies_true, and_self, and_true, true_and, FrameM.iff (FrameM.upd_regs _)]
    | split
    | refine ⟨?_, ?_⟩
    | intro _
    | (with_reducible refine FrameM.foldI (fun _ _ => ?_) ?_)

theorem Blk.selfDone_frame (b : Blk) :
    FrameM 0x440090008 b (Blk.selfDone b) := by
  unfold Blk.selfDone
  repeat' first
    | simp only [Nat.reduceAnd, FrameM.refl, FrameM.ite, FrameM.fold, implies_true, and_self, and_true, true_and, FrameM.iff (FrameM.upd_eng _), FrameM.iff (Blk.put_frame _ _), FrameM.iff (Blk.complete_frame _ _ _ _)]
    | split
    | refine ⟨?_, ?_⟩
    | intro _
    | (with_reducible refine FrameM.foldI (fun _ _ => ?_) ?_)

theorem Blk.selftest_frame (b : Blk) (ref : DRef) (d : Bytes) (buf : Bytes) :
    FrameM 0x440090028 b (Blk.selftest b ref d buf) := by
  unfold Blk.selftest
  repeat' first
    | simp only [Nat.reduceAnd, FrameM.refl, FrameM.ite, FrameM.fold, implies_true, and_self, and_true, true_and, FrameM.iff (FrameM.upd_eng _), FrameM.iff (Blk.complete_frame _ _ _ _), FrameM.iff (Blk.selfSync_frame _)]
    | split
    | refine ⟨?_, ?_⟩
    | intro _
    | (with_reducible refine FrameM.foldI (fun _ _ => ?_) ?_)

theorem Blk.sendAnn_frame (b : Blk) (i : Nat) (p : Nat) (v : PtpVia) (uni : Bool) (seq : Nat) (log : Nat) :
    FrameM 0x408000024 b (Blk.sendAnn b i p v uni seq log) := by
  unfold Blk.sendAnn
  repeat' first
    | simp only [Nat.reduceAnd, FrameM.refl, FrameM.ite, FrameM.fold, implies_true, and_self, and_true, true_and, FrameM.iff (Blk.ptpGeneral_frame _ _ _ _ _)]
    | split
    | refine ⟨?_, ?_⟩
    | intro _
    | (with_reducible refine FrameM.foldI (fun _ _ => ?_) ?_)

theorem Blk.sendPdelayReq_frame (b : Blk) (i : Nat) (p : Nat) :
    FrameM 0x508000024 b (Blk.sendPdelayReq b i p) := by
  unfold Blk.sendPdelayReq
  repeat' first
    | simp only [Nat.reduceAnd, FrameM.refl, FrameM.ite, FrameM.fold, implies_true, and_self, and_true, true_and, FrameM.iff (Blk.ptpSeqNext_frame _ _), FrameM.iff (Blk.ptpEvent_frame _ _ _ _ _ _ _)]
    | split
    | refine ⟨?_, ?_⟩
    | intro _
    | (with_reducible refine FrameM.foldI (fun _ _ => ?_) ?_)

theorem Blk.sendSync_frame (b : Blk) (i : Nat) (p : Nat) (v : PtpVia) (uni : Bool) (seq : Nat) (log : Nat) :
    FrameM 0x408000024 b (Blk.sendSync b i p v uni seq log) := by
  unfold Blk.sendSync
  repeat' first
    | simp only [Nat.reduceAnd, FrameM.refl, FrameM.ite, FrameM.fold, implies_true, and_self, and_true, true_and, FrameM.iff (Blk.ptpEvent_frame _ _ _ _ _ _ _)]
    | split
    | refine ⟨?_, ?_⟩
    | intro _
    | (with_reducible refine FrameM.foldI (fun _ _ => ?_) ?_)

theorem Blk.sentinelRound_frame (b : Blk) :
    FrameM 0x1c20018 b (Blk.sentinelRound b) := by
  unfold Blk.sentinelRound
  repeat' first
    | simp only [Nat.reduceAnd, FrameM.refl, FrameM.ite, FrameM.fold, implies_true, and_self, and_true, true_and, FrameM.iff (FrameM.upd_refs _), FrameM.iff (Blk.setF_frame _ _), FrameM.iff (Blk.recRef_frame _ _ _ _ _), FrameM.iff (Blk.refsSettle_frame _), FrameM.iff (Blk.slotEval_frame _ _)]
    | split
    | refine ⟨?_, ?_⟩
    | intro _
    | (with_reducible refine FrameM.foldI (fun _ _ => ?_) ?_)

theorem Blk.sesCloseAll_frame (b : Blk) :
    FrameM 0x430038014 b (Blk.sesCloseAll b) := by
  unfold Blk.sesCloseAll
  repeat' first
    | simp only [Nat.reduceAnd, FrameM.refl, FrameM.ite, FrameM.fold, implies_true, and_self, and_true, true_and, FrameM.iff (Blk.sesClose_frame _ _ _)]
    | split
    | refine ⟨?_, ?_⟩
    | intro _
    | (with_reducible refine FrameM.foldI (fun _ _ => ?_) ?_)

theorem Blk.sesCtrl_frame (b : Blk) (nvm : Nvm) (f : Nat) (v : Nat) :
    FrameM 0x430038014 b (Blk.sesCtrl b nvm f v) := by
  unfold Blk.sesCtrl
  repeat' first
    | simp only [Nat.reduceAnd, FrameM.refl, FrameM.ite, FrameM.fold, implies_true, and_self, and_true, true_and, FrameM.iff (Blk.openWritten_frame _ _ _), FrameM.iff (Blk.sesClose_frame _ _ _)]
    | split
    | refine ⟨?_, ?_⟩
    | intro _
    | (with_reducible refine FrameM.foldI (fun _ _ => ?_) ?_)

theorem Blk.sesOpened_frame (k : ProvKey) (f : Nat) (b : Blk) :
    FrameM 0x8004 b (Blk.sesOpened k f b) := by
  unfold Blk.sesOpened
  repeat' first
    | simp only [Nat.reduceAnd, FrameM.refl, FrameM.ite, FrameM.fold, implies_true, and_self, and_true, true_and, FrameM.iff (Blk.draw_frame _ _), FrameM.iff (Blk.setSes_frame _ _ _)]
    | split
    | refine ⟨?_, ?_⟩
    | intro _
    | (with_reducible refine FrameM.foldI (fun _ _ => ?_) ?_)

theorem Blk.sesRefused_frame (f : Nat) (b : Blk) :
    FrameM 0x8014 b (Blk.sesRefused f b) := by
  unfold Blk.sesRefused
  repeat' first
    | simp only [Nat.reduceAnd, FrameM.refl, FrameM.ite, FrameM.fold, implies_true, and_self, and_true, true_and, FrameM.iff (Blk.setSes_frame _ _ _), FrameM.iff (Blk.newChal_frame _ _), FrameM.iff (Blk.setF_frame _ _)]
    | split
    | refine ⟨?_, ?_⟩
    | intro _
    | (with_reducible refine FrameM.foldI (fun _ _ => ?_) ?_)

theorem Blk.setFeatures_frame (b : Blk) (ref : DRef) (d : Bytes) :
    FrameM 0x401cb0018 b (Blk.setFeatures b ref d) := by
  unfold Blk.setFeatures
  repeat' first
    | simp only [Nat.reduceAnd, FrameM.refl, FrameM.ite, FrameM.fold, implies_true, and_self, and_true, true_and, FrameM.iff (Blk.complete_frame _ _ _ _), FrameM.iff (Blk.refsSettle_frame _), FrameM.iff (Blk.wr_frame _ _ _)]
    | split
    | refine ⟨?_, ?_⟩
    | intro _
    | (with_reducible refine FrameM.foldI (fun _ _ => ?_) ?_)

theorem Blk.setWrite_frame (b : Blk) (f : Nat) (base : Nat) (off : Nat) (i : Nat) (v : Word) :
    FrameM 0x7ffffbfbc b (Blk.setWrite b f base off i v) := by
  unfold Blk.setWrite
  repeat' first
    | simp only [Nat.reduceAnd, FrameM.refl, FrameM.ite, FrameM.fold, implies_true, and_self, and_true, true_and, FrameM.iff (Blk.regFollow_frame _ _ _ _), FrameM.iff (Blk.regWrite_frame _ _ _ _)]
    | split
    | refine ⟨?_, ?_⟩
    | intro _
    | (with_reducible refine FrameM.foldI (fun _ _ => ?_) ?_)

theorem Blk.snapshot_frame (b : Blk) (ref : DRef) (d : Bytes) :
    FrameM 0x400090008 b (Blk.snapshot b ref d) := by
  unfold Blk.snapshot
  repeat' first
    | simp only [Nat.reduceAnd, FrameM.refl, FrameM.ite, FrameM.fold, implies_true, and_self, and_true, true_and, FrameM.iff (Blk.complete_frame _ _ _ _), FrameM.iff (Blk.put_frame _ _)]
    | split
    | refine ⟨?_, ?_⟩
    | intro _
    | (with_reducible refine FrameM.foldI (fun _ _ => ?_) ?_)

theorem Blk.storeTimeout_frame (b : Blk) (lane : Nat) :
    FrameM 0x7fc7fbfbc b (Blk.storeTimeout b lane) := by
  unfold Blk.storeTimeout
  repeat' first
    | simp only [Nat.reduceAnd, FrameM.refl, FrameM.ite, FrameM.fold, implies_true, and_self, and_true, true_and, FrameM.iff (Blk.selfSync_frame _), FrameM.iff (Blk.raise_frame _ _ _ _), FrameM.iff (Blk.invFault_frame _ _ _), FrameM.iff (Blk.inc_frame _ _)]
    | split
    | refine ⟨?_, ?_⟩
    | intro _
    | (with_reducible refine FrameM.foldI (fun _ _ => ?_) ?_)

theorem Blk.storeWipe_frame (b : Blk) :
    FrameM 0x30200000 b (Blk.storeWipe b) := by
  unfold Blk.storeWipe
  repeat' first
    | simp only [Nat.reduceAnd, FrameM.refl, FrameM.ite, FrameM.fold, implies_true, and_self, and_true, true_and, FrameM.iff (FrameM.upd_laster_clk_ct _)]
    | split
    | refine ⟨?_, ?_⟩
    | intro _
    | (with_reducible refine FrameM.foldI (fun _ _ => ?_) ?_)

theorem Blk.stormBegin_frame (b : Blk) (p : Nat) :
    FrameM 0x7fc7fbfbc b (Blk.stormBegin b p) := by
  unfold Blk.stormBegin
  repeat' first
    | simp only [Nat.reduceAnd, FrameM.refl, FrameM.ite, FrameM.fold, implies_true, and_self, and_true, true_and, FrameM.iff (Blk.setPort_frame _ _ _), FrameM.iff (Blk.pauseOver_frame _ _), FrameM.iff (Blk.raiseEnv_frame _ _ _), FrameM.iff (Blk.inc_frame _ _)]
    | split
    | refine ⟨?_, ?_⟩
    | intro _
    | (with_reducible refine FrameM.foldI (fun _ _ => ?_) ?_)

theorem Blk.sweepGrant_frame (b : Blk) (s : PSess) (n : Int) (msg : Nat) :
    FrameM 0x508000024 b (Blk.sweepGrant b s n msg) := by
  unfold Blk.sweepGrant
  repeat' first
    | simp only [Nat.reduceAnd, FrameM.refl, FrameM.ite, FrameM.fold, implies_true, and_self, and_true, true_and, FrameM.iff (Blk.sendSync_frame _ _ _ _ _ _ _), FrameM.iff (Blk.sendAnn_frame _ _ _ _ _ _ _), FrameM.iff (Blk.grantSeqNext_frame _ _ _)]
    | split
    | refine ⟨?_, ?_⟩
    | intro _
    | (with_reducible refine FrameM.foldI (fun _ _ => ?_) ?_)

theorem Blk.sweepUni_frame (b : Blk) (i : Nat) (p : Nat) (n : Int) :
    FrameM 0x508000024 b (Blk.sweepUni b i p n) := by
  unfold Blk.sweepUni
  repeat' first
    | simp only [Nat.reduceAnd, FrameM.refl, FrameM.ite, FrameM.fold, implies_true, and_self, and_true, true_and, FrameM.iff (Blk.sweepGrant_frame _ _ _ _)]
    | split
    | refine ⟨?_, ?_⟩
    | intro _
    | (with_reducible refine FrameM.foldI (fun _ _ => ?_) ?_)

theorem Blk.sweepMulti_frame (b : Blk) (i : Nat) (p : Nat) (n : Int) :
    FrameM 0x508000024 b (Blk.sweepMulti b i p n) := by
  unfold Blk.sweepMulti
  repeat' first
    | simp only [Nat.reduceAnd, FrameM.refl, FrameM.ite, FrameM.fold, implies_true, and_self, and_true, true_and, FrameM.iff (Blk.ptpSeqNext_frame _ _), FrameM.iff (Blk.sendSync_frame _ _ _ _ _ _ _), FrameM.iff (Blk.sendAnn_frame _ _ _ _ _ _ _), FrameM.iff (Blk.sendPdelayReq_frame _ _ _)]
    | split
    | refine ⟨?_, ?_⟩
    | intro _
    | (with_reducible refine FrameM.foldI (fun _ _ => ?_) ?_)

theorem Blk.sweep_frame (b : Blk) (p : Nat) (n : Int) :
    FrameM 0x508080024 b (Blk.sweep b p n) := by
  unfold Blk.sweep
  repeat' first
    | simp only [Nat.reduceAnd, FrameM.refl, FrameM.ite, FrameM.fold, implies_true, and_self, and_true, true_and, FrameM.iff (FrameM.upd_ptp _), FrameM.iff (Blk.pmcEvent_frame _ _ _ _), FrameM.iff (Blk.sweepUni_frame _ _ _ _), FrameM.iff (Blk.sweepMulti_frame _ _ _ _)]
    | split
    | refine ⟨?_, ?_⟩
    | intro _
    | (with_reducible refine FrameM.foldI (fun _ _ => ?_) ?_)

theorem Blk.sweepClient_frame (b : Blk) (p : Nat) :
    FrameM 0x508080024 b (Blk.sweepClient b p) := by
  unfold Blk.sweepClient
  repeat' first
    | simp only [Nat.reduceAnd, FrameM.refl, FrameM.ite, FrameM.fold, implies_true, and_self, and_true, true_and, FrameM.iff (FrameM.upd_ptp _), FrameM.iff (Blk.pmcEvent_frame _ _ _ _), FrameM.iff (Blk.clientRequest_frame _ _)]
    | split
    | refine ⟨?_, ?_⟩
    | intro _
    | (with_reducible refine FrameM.foldI (fun _ _ => ?_) ?_)

theorem Blk.switchover_frame (b : Blk) (ref : DRef) (d : Bytes) :
    FrameM 0x600090008 b (Blk.switchover b ref d) := by
  unfold Blk.switchover
  repeat' first
    | simp only [Nat.reduceAnd, FrameM.refl, FrameM.ite, FrameM.fold, implies_true, and_self, and_true, true_and, FrameM.iff (FrameM.upd_twin _), FrameM.iff (Blk.complete_frame _ _ _ _)]
    | split
    | refine ⟨?_, ?_⟩
    | intro _
    | (with_reducible refine FrameM.foldI (fun _ _ => ?_) ?_)

theorem Blk.synthCross_frame (b : Blk) (c : Nat) :
    FrameM 0x7fe7fbfbc b (Blk.synthCross b c) := by
  unfold Blk.synthCross
  repeat' first
    | simp only [Nat.reduceAnd, FrameM.refl, FrameM.ite, FrameM.fold, implies_true, and_self, and_true, true_and, FrameM.iff (Blk.setEye_frame _ _ _), FrameM.iff (Blk.awlRec_frame _ _ _ _ _ _ _ _), FrameM.iff (Blk.cycUnits_frame _ _ _ _ _), FrameM.iff (Blk.cycCross_frame _ _ _ _ _ _)]
    | split
    | refine ⟨?_, ?_⟩
    | intro _
    | (with_reducible refine FrameM.foldI (fun _ _ => ?_) ?_)

theorem Blk.takeover_frame (b : Blk) :
    FrameM 0x689eb07b8 b (Blk.takeover b) := by
  unfold Blk.takeover
  repeat' first
    | simp only [Nat.reduceAnd, FrameM.refl, FrameM.ite, FrameM.fold, implies_true, and_self, and_true, true_and, FrameM.iff (Blk.announceAll_frame _), FrameM.iff (Blk.recTwin_frame _ _ _), FrameM.iff (Blk.inc_frame _ _), FrameM.iff (Blk.leadFrom_frame _), FrameM.iff (Blk.copySend_frame _)]
    | split
    | refine ⟨?_, ?_⟩
    | intro _
    | (with_reducible refine FrameM.foldI (fun _ _ => ?_) ?_)

theorem Blk.tbRecord_frame (b : Blk) (code : Nat) (t : Nat) :
    FrameM 0x20008 b (Blk.tbRecord b code t) := by
  unfold Blk.tbRecord
  repeat' first
    | simp only [Nat.reduceAnd, FrameM.refl, FrameM.ite, FrameM.fold, implies_true, and_self, and_true, true_and, FrameM.iff (Blk.record_frame _ _ _ _ _ _ _)]
    | split
    | refine ⟨?_, ?_⟩
    | intro _
    | (with_reducible refine FrameM.foldI (fun _ _ => ?_) ?_)

theorem Blk.tbLost_frame (b : Blk) (back : Nat) :
    FrameM 0x4020018 b (Blk.tbLost b back) := by
  unfold Blk.tbLost
  repeat' first
    | simp only [Nat.reduceAnd, FrameM.refl, FrameM.ite, FrameM.fold, implies_true, and_self, and_true, true_and, FrameM.iff (FrameM.upd_eyes _), FrameM.iff (Blk.tbRecord_frame _ _ _), FrameM.iff (Blk.setF_frame _ _)]
    | split
    | refine ⟨?_, ?_⟩
    | intro _
    | (with_reducible refine FrameM.foldI (fun _ _ => ?_) ?_)

theorem Blk.tempBadAt_frame (b : Blk) :
    FrameM 0x7fdffbfbc b (Blk.tempBadAt b) := by
  unfold Blk.tempBadAt
  repeat' first
    | simp only [Nat.reduceAnd, FrameM.refl, FrameM.ite, FrameM.fold, implies_true, and_self, and_true, true_and, FrameM.iff (FrameM.upd_heel _), FrameM.iff (FrameM.upd_heel_hold _), FrameM.iff (FrameM.upd_hold _), FrameM.iff (Blk.raiseEnv_frame _ _ _), FrameM.iff (Blk.recHold_frame _ _), FrameM.iff (Blk.setF_frame _ _)]
    | split
    | refine ⟨?_, ?_⟩
    | intro _
    | (with_reducible refine FrameM.foldI (fun _ _ => ?_) ?_)

theorem Blk.tempGoodAt_frame (b : Blk) (t : Int) :
    FrameM 0x1820008 b (Blk.tempGoodAt b t) := by
  unfold Blk.tempGoodAt
  repeat' first
    | simp only [Nat.reduceAnd, FrameM.refl, FrameM.ite, FrameM.fold, implies_true, and_self, and_true, true_and, FrameM.iff (FrameM.upd_heel _), FrameM.iff (FrameM.upd_hold _), FrameM.iff (FrameM.upd_heel_hold _), FrameM.iff (FrameM.upd_heel _), FrameM.iff (Blk.recHold_frame _ _)]
    | split
    | refine ⟨?_, ?_⟩
    | intro _
    | (with_reducible refine FrameM.foldI (fun _ _ => ?_) ?_)

theorem Blk.timeAdjust_frame (b : Blk) (ref : DRef) (d : Bytes) :
    FrameM 0x7fe7fbfbc b (Blk.timeAdjust b ref d) := by
  unfold Blk.timeAdjust
  repeat' first
    | simp only [Nat.reduceAnd, FrameM.refl, FrameM.ite, FrameM.fold, implies_true, and_self, and_true, true_and, FrameM.iff (Blk.complete_frame _ _ _ _), FrameM.iff (stepFn_frame _ _), FrameM.iff (Blk.lateCount_frame _ _ _), FrameM.iff (Blk.lstArm_frame _ _), FrameM.iff (Blk.adjustRun_frame stepFn stepFn_frame _ _ _ _ _)]
    | split
    | refine ⟨?_, ?_⟩
    | intro _
    | (with_reducible refine FrameM.foldI (fun _ _ => ?_) ?_)

theorem Blk.twarbB_frame (b : Blk) (level : Bool) :
    FrameM 0x689eb0fb8 b (Blk.twarbB b level) := by
  unfold Blk.twarbB
  repeat' first
    | simp only [Nat.reduceAnd, FrameM.refl, FrameM.ite, FrameM.fold, implies_true, and_self, and_true, true_and, FrameM.iff (FrameM.upd_twin _), FrameM.iff (Blk.handedOver_frame _), FrameM.iff (Blk.orphan_frame _)]
    | split
    | refine ⟨?_, ?_⟩
    | intro _
    | (with_reducible refine FrameM.foldI (fun _ _ => ?_) ?_)

theorem Blk.txClaim_frame (b : Blk) (ref : DRef) (f : TxF) :
    FrameM 0x408290028 b (Blk.txClaim b ref f) := by
  unfold Blk.txClaim
  repeat' first
    | simp only [Nat.reduceAnd, FrameM.refl, FrameM.ite, FrameM.fold, implies_true, and_self, and_true, true_and, FrameM.iff (FrameM.upd_flow _), FrameM.iff (Blk.txGrant_frame _ _), FrameM.iff (Blk.setBegun_frame _ _ _), FrameM.iff (Blk.inc_frame _ _)]
    | split
    | refine ⟨?_, ?_⟩
    | intro _
    | (with_reducible refine FrameM.foldI (fun _ _ => ?_) ?_)

theorem Blk.txFrame_frame (b : Blk) (ref : DRef) (d : Bytes) (data : Bytes) :
    FrameM 0x408290028 b (Blk.txFrame b ref d data) := by
  unfold Blk.txFrame
  repeat' first
    | simp only [Nat.reduceAnd, FrameM.refl, FrameM.ite, FrameM.fold, implies_true, and_self, and_true, true_and, FrameM.iff (Blk.complete_frame _ _ _ _), FrameM.iff (Blk.inc_frame _ _), FrameM.iff (Blk.txClaim_frame _ _ _)]
    | split
    | refine ⟨?_, ?_⟩
    | intro _
    | (with_reducible refine FrameM.foldI (fun _ _ => ?_) ?_)

theorem Blk.txwExpire_frame (b : Blk) :
    FrameM 0x400090008 b (Blk.txwExpire b) := by
  unfold Blk.txwExpire
  repeat' first
    | simp only [Nat.reduceAnd, FrameM.refl, FrameM.ite, FrameM.fold, implies_true, and_self, and_true, true_and, FrameM.iff (FrameM.upd_flow _), FrameM.iff (Blk.completeBusy_frame _ _)]
    | split
    | refine ⟨?_, ?_⟩
    | intro _
    | (with_reducible refine FrameM.foldI (fun _ _ => ?_) ?_)

theorem Blk.unitDone_frame (b : Blk) (kind : Nat) (index : Nat) :
    FrameM 0x7fc7fbfbc b (Blk.unitDone b kind index) := by
  unfold Blk.unitDone
  repeat' first
    | simp only [Nat.reduceAnd, FrameM.refl, FrameM.ite, FrameM.fold, implies_true, and_self, and_true, true_and, FrameM.iff (FrameM.upd_rst _), FrameM.iff (Blk.staleDel_frame _ _), FrameM.iff (Blk.follow_frame _ _), FrameM.iff (Blk.holdUnit_frame _ _)]
    | split
    | refine ⟨?_, ?_⟩
    | intro _
    | (with_reducible refine FrameM.foldI (fun _ _ => ?_) ?_)

theorem Blk.verifyDone_frame (nvm : Nvm) (f : Nat) (b : Blk) :
    FrameM 0x8014 b (Blk.verifyDone nvm f b) := by
  unfold Blk.verifyDone
  repeat' first
    | simp only [Nat.reduceAnd, FrameM.refl, FrameM.ite, FrameM.fold, implies_true, and_self, and_true, true_and, FrameM.iff (Blk.sesRefused_frame _ _), FrameM.iff (Blk.sesOpened_frame _ _ _)]
    | split
    | refine ⟨?_, ?_⟩
    | intro _
    | (with_reducible refine FrameM.foldI (fun _ _ => ?_) ?_)

theorem bootS1_frame (nvm : Nvm) (b : Blk) :
    FrameM 0x6000 b (bootS1 nvm b).2.2 := by
  unfold bootS1
  repeat' first
    | simp only [Nat.reduceAnd, snd_ite, fst_ite, FrameM.refl, FrameM.ite, FrameM.fold, implies_true, and_self, and_true, true_and, FrameM.iff (FrameM.upd_lcs _), FrameM.iff (Blk.bootMinimal_frame _)]
    | split
    | refine ⟨?_, ?_⟩
    | intro _
    | (with_reducible refine FrameM.foldI (fun _ _ => ?_) ?_)

theorem bootS2_frame (nvm : Nvm) (b : Blk) :
    FrameM 0x2010 b (bootS2 nvm b).2.2 := by
  unfold bootS2
  repeat' first
    | simp only [Nat.reduceAnd, snd_ite, fst_ite, FrameM.refl, FrameM.ite, FrameM.fold, implies_true, and_self, and_true, true_and, FrameM.iff (FrameM.upd_boot _), FrameM.iff (Blk.applyRecord_frame _ _)]
    | split
    | refine ⟨?_, ?_⟩
    | intro _
    | (with_reducible refine FrameM.foldI (fun _ _ => ?_) ?_)

theorem bootS5_frame (nvm : Nvm) (b : Blk) :
    FrameM 0x20000004 b (bootS5 nvm b).2.2 := by
  unfold bootS5
  repeat' first
    | simp only [Nat.reduceAnd, snd_ite, fst_ite, FrameM.refl, FrameM.ite, FrameM.fold, implies_true, and_self, and_true, true_and, FrameM.iff (FrameM.upd_ct _), FrameM.iff (Blk.draw_frame _ _)]
    | split
    | refine ⟨?_, ?_⟩
    | intro _
    | (with_reducible refine FrameM.foldI (fun _ _ => ?_) ?_)

theorem bootS6_frame (nvm : Nvm) (b : Blk) :
    FrameM 0x14 b (bootS6 nvm b).2.2 := by
  unfold bootS6
  repeat' first
    | simp only [Nat.reduceAnd, snd_ite, fst_ite, FrameM.refl, FrameM.ite, FrameM.fold, implies_true, and_self, and_true, true_and, FrameM.iff (Blk.wr_frame _ _ _), FrameM.iff (Blk.draw_frame _ _)]
    | split
    | refine ⟨?_, ?_⟩
    | intro _
    | (with_reducible refine FrameM.foldI (fun _ _ => ?_) ?_)

theorem bootS7_frame (nvm : Nvm) (b : Blk) :
    FrameM 0x40000000 b (bootS7 nvm b).2.2 := by
  unfold bootS7
  repeat' first
    | simp only [Nat.reduceAnd, snd_ite, fst_ite, FrameM.refl, FrameM.ite, FrameM.fold, implies_true, and_self, and_true, true_and, FrameM.iff (FrameM.upd_eng _), FrameM.iff (Blk.runSet_frame _ _)]
    | split
    | refine ⟨?_, ?_⟩
    | intro _
    | (with_reducible refine FrameM.foldI (fun _ _ => ?_) ?_)

theorem bootS8_frame (nvm : Nvm) (b : Blk) :
    FrameM 0x7ffffbfbc b (bootS8 nvm b).2.2 := by
  unfold bootS8
  repeat' first
    | simp only [Nat.reduceAnd, snd_ite, fst_ite, FrameM.refl, FrameM.ite, FrameM.fold, implies_true, and_self, and_true, true_and, FrameM.iff (Blk.insoleStart_frame _)]
    | split
    | refine ⟨?_, ?_⟩
    | intro _
    | (with_reducible refine FrameM.foldI (fun _ _ => ?_) ?_)

theorem bootS9_frame (nvm : Nvm) (b : Blk) :
    FrameM 0x7fdffbfbc b (bootS9 nvm b).2.2 := by
  unfold bootS9
  repeat' first
    | simp only [Nat.reduceAnd, snd_ite, fst_ite, FrameM.refl, FrameM.ite, FrameM.fold, implies_true, and_self, and_true, true_and, FrameM.iff (FrameM.upd_boot _), FrameM.iff (Blk.bootDoneMinimal_frame _), FrameM.iff (Blk.bootLog_frame _ _ _), FrameM.iff (Blk.wr_frame _ _ _), FrameM.iff (Blk.modeEnter_frame _ _ _), FrameM.iff (Blk.bootAltErrors_frame _)]
    | split
    | refine ⟨?_, ?_⟩
    | intro _
    | (with_reducible refine FrameM.foldI (fun _ _ => ?_) ?_)

theorem bootWork_frame (nvm : Nvm) (b : Blk) (y2 : Nat) :
    FrameM 0x7ffffffbc b (bootWork nvm b y2).2.2 := by
  unfold bootWork
  repeat' first
    | simp only [Nat.reduceAnd, snd_ite, fst_ite, FrameM.refl, FrameM.ite, FrameM.fold, implies_true, and_self, and_true, true_and, FrameM.iff (bootS1_frame _ _), FrameM.iff (bootS2_frame _ _), FrameM.iff (bootS5_frame _ _), FrameM.iff (bootS6_frame _ _), FrameM.iff (bootS7_frame _ _), FrameM.iff (bootS8_frame _ _), FrameM.iff (bootS9_frame _ _)]
    | split
    | (unfold bootS4; split)

theorem bootStepDone_frame (nvm : Nvm) (b : Blk) :
    FrameM 0x7ffffffbc b (bootStepDone nvm b).2 := by
  unfold bootStepDone
  repeat' first
    | simp only [Nat.reduceAnd, snd_ite, fst_ite, FrameM.refl, FrameM.ite, FrameM.fold, implies_true, and_self, and_true, true_and, FrameM.iff (FrameM.upd_boot _), FrameM.iff (bootWork_frame _ _ _), FrameM.iff (Blk.bootFail_frame _ _ _ _ _)]
    | split
    | refine ⟨?_, ?_⟩
    | intro _
    | (with_reducible refine FrameM.foldI (fun _ _ => ?_) ?_)

theorem lcsErase_frame (nvm : Nvm) (b : Blk) (f : Nat) (func : Nat) :
    FrameM 0x43003c014 b (lcsErase nvm b f func).2 := by
  unfold lcsErase
  repeat' first
    | simp only [Nat.reduceAnd, snd_ite, fst_ite, FrameM.refl, FrameM.ite, FrameM.fold, implies_true, and_self, and_true, true_and, FrameM.iff (Blk.keyRes_frame _ _), FrameM.iff (Blk.keyCloses_frame _ _ _)]
    | split
    | refine ⟨?_, ?_⟩
    | intro _
    | (with_reducible refine FrameM.foldI (fun _ _ => ?_) ?_)

theorem lcsGo_frame (nvm : Nvm) (b : Blk) (f : Nat) (v : Nat) (stop : Nat) :
    FrameM 0xffffffff4 b (lcsGo nvm b f v stop).2 := by
  unfold lcsGo
  repeat' first
    | simp only [Nat.reduceAnd, snd_ite, fst_ite, FrameM.refl, FrameM.ite, FrameM.fold, implies_true, and_self, and_true, true_and, FrameM.iff (Blk.lcsResult_frame _ _ _), FrameM.iff (Blk.sesCloseAll_frame _), FrameM.iff (Blk.devReset_frame _ _), FrameM.iff (Blk.storeWipe_frame _)]
    | split
    | refine ⟨?_, ?_⟩
    | intro _
    | (with_reducible refine FrameM.foldI (fun _ _ => ?_) ?_)

theorem lcsInstall_frame (nvm : Nvm) (b : Blk) (f : Nat) (func : Nat) (priv : Nat) :
    FrameM 0x43003c014 b (lcsInstall nvm b f func priv).2 := by
  unfold lcsInstall
  repeat' first
    | simp only [Nat.reduceAnd, snd_ite, fst_ite, FrameM.refl, FrameM.ite, FrameM.fold, implies_true, and_self, and_true, true_and, FrameM.iff (Blk.keyRes_frame _ _), FrameM.iff (Blk.keyCloses_frame _ _ _)]
    | split
    | refine ⟨?_, ?_⟩
    | intro _
    | (with_reducible refine FrameM.foldI (fun _ _ => ?_) ?_)

theorem lcsKeyCtl_frame (nvm : Nvm) (b : Blk) (f : Nat) (v : Nat) :
    FrameM 0x43003c014 b (lcsKeyCtl nvm b f v).2 := by
  unfold lcsKeyCtl
  repeat' first
    | simp only [Nat.reduceAnd, snd_ite, fst_ite, FrameM.refl, FrameM.ite, FrameM.fold, implies_true, and_self, and_true, true_and, FrameM.iff (Blk.regWrite_frame _ _ _ _), FrameM.iff (lcsInstall_frame _ _ _ _ _), FrameM.iff (lcsErase_frame _ _ _ _)]
    | split
    | refine ⟨?_, ?_⟩
    | intro _
    | (with_reducible refine FrameM.foldI (fun _ _ => ?_) ?_)

theorem optStart_frame (nvm : Nvm) (b : Blk) (copyB : Bool) :
    FrameM 0x4000 b (optStart nvm b copyB).2 := by
  unfold optStart
  repeat' first
    | simp only [Nat.reduceAnd, snd_ite, fst_ite, FrameM.refl, FrameM.ite, FrameM.fold, implies_true, and_self, and_true, true_and, FrameM.iff (FrameM.upd_lcs _)]
    | split
    | refine ⟨?_, ?_⟩
    | intro _
    | (with_reducible refine FrameM.foldI (fun _ _ => ?_) ?_)

theorem optCtrl_frame (nvm : Nvm) (b : Blk) (f : Nat) (v : Nat) :
    FrameM 0x4010 b (optCtrl nvm b f v).2 := by
  unfold optCtrl
  repeat' first
    | simp only [Nat.reduceAnd, snd_ite, fst_ite, FrameM.refl, FrameM.ite, FrameM.fold, implies_true, and_self, and_true, true_and, FrameM.iff (Blk.regWrite_frame _ _ _ _), FrameM.iff (optStart_frame _ _ _)]
    | split
    | refine ⟨?_, ?_⟩
    | intro _
    | (with_reducible refine FrameM.foldI (fun _ _ => ?_) ?_)

theorem optDone_frame (nvm : Nvm) (b : Blk) (bytes : Bytes) (fault : Nat) :
    FrameM 0x4000 b (optDone nvm b bytes fault).2 := by
  unfold optDone
  repeat' first
    | simp only [Nat.reduceAnd, snd_ite, fst_ite, FrameM.refl, FrameM.ite, FrameM.fold, implies_true, and_self, and_true, true_and, FrameM.iff (FrameM.upd_lcs _)]
    | split
    | refine ⟨?_, ?_⟩
    | intro _
    | (with_reducible refine FrameM.foldI (fun _ _ => ?_) ?_)

theorem writeReg_frame (nvm : Nvm) (b : Blk) (f : Nat) (off : Nat) (v : Word) (row : RegRow) (i : Nat) :
    FrameM 0xffffffffc b (writeReg nvm b f off v row i).2 := by
  unfold writeReg
  repeat' first
    | simp only [Nat.reduceAnd, snd_ite, fst_ite, FrameM.refl, FrameM.ite, FrameM.fold, implies_true, and_self, and_true, true_and, FrameM.iff (FrameM.upd_featAbsent _), FrameM.iff (Blk.secretWrite_frame _ _ _ _), FrameM.iff (Blk.sesCtrl_frame _ _ _ _), FrameM.iff (Blk.rstCtrl_frame _ _ _), FrameM.iff (Blk.rstUnit_frame _ _ _), FrameM.iff (Blk.lcsArm_frame _ _ _ _), FrameM.iff (lcsGo_frame _ _ _ _ _), FrameM.iff (optCtrl_frame _ _ _ _), FrameM.iff (lcsKeyCtl_frame _ _ _ _), FrameM.iff (Blk.ringCtl_frame _ _ _ _), FrameM.iff (Blk.nudged_frame _ _), FrameM.iff (Blk.evtCtl_frame _ _ _), FrameM.iff (Blk.gintWrite_frame _ _ _), FrameM.iff (Blk.setWrite_frame _ _ _ _ _ _), FrameM.iff (Blk.calStart_frame _ _), FrameM.iff (Blk.gclCtrl_frame _ _ _ _), FrameM.iff (Blk.gateWrite_frame _ _ _ _), FrameM.iff (Blk.injected_frame _ _ _), FrameM.iff (Blk.pmcRegWrite_frame _ _ _ _ _ _)]
    | split
    | refine ⟨?_, ?_⟩
    | intro _
    | (with_reducible refine FrameM.foldI (fun _ _ => ?_) ?_)

theorem writeOne_frame (nvm : Nvm) (b : Blk) (f : Nat) (off : Nat) (v : Nat) :
    FrameM 0xffffffffc b (writeOne nvm b f off v).2 := by
  unfold writeOne
  repeat' first
    | simp only [Nat.reduceAnd, snd_ite, fst_ite, FrameM.refl, FrameM.ite, FrameM.fold, implies_true, and_self, and_true, true_and, FrameM.iff (Blk.accErr_frame _ _ _ _ _), FrameM.iff (Blk.msixWrite_frame _ _ _ _), FrameM.iff (writeReg_frame _ _ _ _ _ _ _)]
    | split
    | refine ⟨?_, ?_⟩
    | intro _
    | (with_reducible refine FrameM.foldI (fun _ _ => ?_) ?_)

theorem writeWords_frame (nvm : Nvm) (b : Blk) (f : Nat) (off : Nat) (be : Nat) (y5 : List Nat) :
    FrameM 0xffffffffc b (writeWords nvm b f off be y5).2 := by
  induction y5 generalizing nvm b off be with
  | nil => unfold writeWords; simp only [FrameM.refl]
  | cons v rest ih =>
    unfold writeWords
    repeat' first
      | simp only [FrameM.iff (ih _ _ _ _),  Nat.reduceAnd, snd_ite, fst_ite, FrameM.refl, FrameM.ite, FrameM.fold, implies_true, and_self, and_true, true_and, FrameM.iff (writeOne_frame _ _ _ _ _), FrameM.iff (Blk.accErr_frame _ _ _ _ _)]
      | split
      | refine ⟨?_, ?_⟩
      | intro _

theorem request_frame (nvm : Nvm) (b : Blk) (f : Nat) (off : Nat) (be : Nat) (write : Bool) (vals : List Nat) :
    FrameM 0xffffffffc b (request nvm b f off be write vals).2 := by
  unfold request
  repeat' first
    | simp only [Nat.reduceAnd, snd_ite, fst_ite, FrameM.refl, FrameM.ite, FrameM.fold, implies_true, and_self, and_true, true_and, FrameM.iff (Blk.readOut_frame _ _ _ _), FrameM.iff (Blk.accErr_frame _ _ _ _ _), FrameM.iff (writeWords_frame _ _ _ _ _ _), FrameM.iff (Blk.readWords_frame _ _ _ _ _ _)]
    | split
    | refine ⟨?_, ?_⟩
    | intro _
    | (with_reducible refine FrameM.foldI (fun _ _ => ?_) ?_)

end Sys2Proof.Machine
end

