-- ==== Sys2Proof/Laws/Frames5.lean ====
section
/-! SUPPORT. What each command may change, once for each: it answers a next state, and `FrameM m` names by the bits of `m` the pieces
outside which its own work changes nothing. -/

set_option linter.unusedSimpArgs false
set_option linter.unusedTactic false
set_option linter.unreachableTactic false

namespace Sys2Proof.Machine

theorem execVinPowerOn_runs (w : Nat) (on : Bool) (s : State) :
    ∃ blk', execVinPowerOn w on s = .next { s with blk := Blk.settle s.blk blk' } ∧ FrameM 0xffffffff4 (s.blk.pass w) blk' := by
  unfold execVinPowerOn State.upd
  refine ⟨_, Eq.refl _, ?_⟩
  repeat' first
    | simp only [Nat.reduceAnd, FrameM.refl, FrameM.ite, FrameM.fold, implies_true, and_self, and_true, true_and, FrameM.iff (FrameM.upd_rst _), FrameM.iff (Blk.devReset_frame _ _), FrameM.iff (Blk.devRelease_frame _ _)]
    | split
    | refine ⟨?_, ?_⟩
    | intro _
    | (with_reducible refine FrameM.foldI (fun _ _ => ?_) ?_)

theorem execResetN_runs (w : Nat) (on : Bool) (s : State) :
    ∃ blk', execResetN w on s = .next { s with blk := Blk.settle s.blk blk' } ∧ FrameM 0xffffffff4 (s.blk.pass w) blk' := by
  unfold execResetN State.upd
  refine ⟨_, Eq.refl _, ?_⟩
  repeat' first
    | simp only [Nat.reduceAnd, FrameM.refl, FrameM.ite, FrameM.fold, implies_true, and_self, and_true, true_and, FrameM.iff (Blk.devReset_frame _ _), FrameM.iff (Blk.devRelease_frame _ _)]
    | split
    | refine ⟨?_, ?_⟩
    | intro _
    | (with_reducible refine FrameM.foldI (fun _ _ => ?_) ?_)

theorem execThermalTrip_runs (w : Nat) (tj : Int) (s : State) :
    ∃ blk', execThermalTrip w tj s = .next { s with blk := Blk.settle s.blk blk' } ∧ FrameM 0x1ffffffff4 (s.blk.pass w) blk' := by
  unfold execThermalTrip State.upd
  refine ⟨_, Eq.refl _, ?_⟩
  repeat' first
    | simp only [Nat.reduceAnd, FrameM.refl, FrameM.ite, FrameM.fold, implies_true, and_self, and_true, true_and, FrameM.iff (FrameM.upd_tj _), FrameM.iff (Blk.devReset_frame _ _), FrameM.iff (Blk.devRelease_frame _ _)]
    | split
    | refine ⟨?_, ?_⟩
    | intro _
    | (with_reducible refine FrameM.foldI (fun _ _ => ?_) ?_)

theorem execWatchdog_runs (w : Nat) (s : State) :
    ∃ blk', execWatchdog w s = .next { s with blk := Blk.settle s.blk blk' } ∧ FrameM 0xffffffff4 (s.blk.pass w) blk' := by
  unfold execWatchdog State.upd
  refine ⟨_, Eq.refl _, ?_⟩
  repeat' first
    | simp only [Nat.reduceAnd, FrameM.refl, FrameM.ite, FrameM.fold, implies_true, and_self, and_true, true_and, FrameM.iff (Blk.devReset_frame _ _)]
    | split
    | refine ⟨?_, ?_⟩
    | intro _
    | (with_reducible refine FrameM.foldI (fun _ _ => ?_) ?_)

theorem execDevReset_runs (w : Nat) (f : Nat) (v : Nat) (s : State) :
    ∃ blk', execDevReset w f v s = .next { s with blk := Blk.settle s.blk blk' } ∧ FrameM 0xffffffff4 (s.blk.pass w) blk' := by
  unfold execDevReset State.upd
  refine ⟨_, Eq.refl _, ?_⟩
  repeat' first
    | simp only [Nat.reduceAnd, FrameM.refl, FrameM.ite, FrameM.fold, implies_true, and_self, and_true, true_and, FrameM.iff (Blk.rstCtrl_frame _ _ _)]
    | split
    | refine ⟨?_, ?_⟩
    | intro _
    | (with_reducible refine FrameM.foldI (fun _ _ => ?_) ?_)

theorem execVkeepPowerOn_runs (w : Nat) (s : State) :
    ∃ blk', execVkeepPowerOn w s = .next { s with blk := Blk.settle s.blk blk' } ∧ FrameM 0x1010 (s.blk.pass w) blk' := by
  unfold execVkeepPowerOn State.upd
  refine ⟨_, Eq.refl _, ?_⟩
  repeat' first
    | simp only [Nat.reduceAnd, FrameM.refl, FrameM.ite, FrameM.fold, implies_true, and_self, and_true, true_and, FrameM.iff (FrameM.upd_rst _), FrameM.iff (Blk.keepClear_frame _), FrameM.iff (Blk.wr_frame _ _ _)]
    | split
    | refine ⟨?_, ?_⟩
    | intro _
    | (with_reducible refine FrameM.foldI (fun _ _ => ?_) ?_)

theorem execVkeepLost_runs (w : Nat) (s : State) :
    ∃ blk', execVkeepLost w s = .next { s with blk := Blk.settle s.blk blk' } ∧ FrameM 0x1010 (s.blk.pass w) blk' := by
  unfold execVkeepLost State.upd
  refine ⟨_, Eq.refl _, ?_⟩
  repeat' first
    | simp only [Nat.reduceAnd, FrameM.refl, FrameM.ite, FrameM.fold, implies_true, and_self, and_true, true_and, FrameM.iff (FrameM.upd_rst _), FrameM.iff (Blk.keepClear_frame _)]
    | split
    | refine ⟨?_, ?_⟩
    | intro _
    | (with_reducible refine FrameM.foldI (fun _ _ => ?_) ?_)

theorem execPerst_runs (w : Nat) (on : Bool) (s : State) :
    ∃ blk', execPerst w on s = .next { s with blk := Blk.settle s.blk blk' } ∧ FrameM 0x430039014 (s.blk.pass w) blk' := by
  unfold execPerst State.upd
  refine ⟨_, Eq.refl _, ?_⟩
  repeat' first
    | simp only [Nat.reduceAnd, FrameM.refl, FrameM.ite, FrameM.fold, implies_true, and_self, and_true, true_and, FrameM.iff (FrameM.upd_rst _), FrameM.iff (Blk.hostBlockReset_frame _)]
    | split
    | refine ⟨?_, ?_⟩
    | intro _
    | (with_reducible refine FrameM.foldI (fun _ _ => ?_) ?_)

theorem execFlr_runs (w : Nat) (f : Nat) (s : State) :
    ∃ blk', execFlr w f s = .next { s with blk := Blk.settle s.blk blk' } ∧ FrameM 0x430038014 (s.blk.pass w) blk' := by
  unfold execFlr State.upd
  refine ⟨_, Eq.refl _, ?_⟩
  repeat' first
    | simp only [Nat.reduceAnd, FrameM.refl, FrameM.ite, FrameM.fold, implies_true, and_self, and_true, true_and, FrameM.iff (Blk.hostReset_frame _ _ _)]
    | split
    | refine ⟨?_, ?_⟩
    | intro _
    | (with_reducible refine FrameM.foldI (fun _ _ => ?_) ?_)

theorem execBenchReset_runs (w : Nat) (f : Nat) (index : Nat) (s : State) :
    ∃ blk', execBenchReset w f index s = .next { s with blk := Blk.settle s.blk blk' } ∧ FrameM 0x7fc7fbfbc (s.blk.pass w) blk' := by
  unfold execBenchReset State.upd
  refine ⟨_, Eq.refl _, ?_⟩
  repeat' first
    | simp only [Nat.reduceAnd, FrameM.refl, FrameM.ite, FrameM.fold, implies_true, and_self, and_true, true_and, FrameM.iff (Blk.unitReset_frame _ _ _ _)]
    | split
    | refine ⟨?_, ?_⟩
    | intro _
    | (with_reducible refine FrameM.foldI (fun _ _ => ?_) ?_)

theorem execEngineReset_runs (w : Nat) (f : Nat) (index : Nat) (s : State) :
    ∃ blk', execEngineReset w f index s = .next { s with blk := Blk.settle s.blk blk' } ∧ FrameM 0x7fc7fbfbc (s.blk.pass w) blk' := by
  unfold execEngineReset State.upd
  refine ⟨_, Eq.refl _, ?_⟩
  repeat' first
    | simp only [Nat.reduceAnd, FrameM.refl, FrameM.ite, FrameM.fold, implies_true, and_self, and_true, true_and, FrameM.iff (Blk.unitReset_frame _ _ _ _)]
    | split
    | refine ⟨?_, ?_⟩
    | intro _
    | (with_reducible refine FrameM.foldI (fun _ _ => ?_) ?_)

theorem execPortReset_runs (w : Nat) (f : Nat) (index : Nat) (s : State) :
    ∃ blk', execPortReset w f index s = .next { s with blk := Blk.settle s.blk blk' } ∧ FrameM 0x7fc7fbfbc (s.blk.pass w) blk' := by
  unfold execPortReset State.upd
  refine ⟨_, Eq.refl _, ?_⟩
  repeat' first
    | simp only [Nat.reduceAnd, FrameM.refl, FrameM.ite, FrameM.fold, implies_true, and_self, and_true, true_and, FrameM.iff (Blk.unitReset_frame _ _ _ _)]
    | split
    | refine ⟨?_, ?_⟩
    | intro _
    | (with_reducible refine FrameM.foldI (fun _ _ => ?_) ?_)

theorem execUnitResetDone_runs (w : Nat) (kind : Nat) (index : Nat) (s : State) :
    ∃ blk', execUnitResetDone w kind index s = .next { s with blk := Blk.settle s.blk blk' } ∧ FrameM 0x7fc7fbfbc (s.blk.pass w) blk' := by
  unfold execUnitResetDone State.upd
  refine ⟨_, Eq.refl _, ?_⟩
  repeat' first
    | simp only [Nat.reduceAnd, FrameM.refl, FrameM.ite, FrameM.fold, implies_true, and_self, and_true, true_and, FrameM.iff (Blk.unitDone_frame _ _ _)]
    | split
    | refine ⟨?_, ?_⟩
    | intro _
    | (with_reducible refine FrameM.foldI (fun _ _ => ?_) ?_)

theorem execBootStart_runs (w : Nat) (s : State) :
    ∃ blk', execBootStart w s = .next { s with blk := Blk.settle s.blk blk' } ∧ FrameM 0x200023798 (s.blk.pass w) blk' := by
  unfold execBootStart State.upd
  refine ⟨_, Eq.refl _, ?_⟩
  repeat' first
    | simp only [Nat.reduceAnd, FrameM.refl, FrameM.ite, FrameM.fold, implies_true, and_self, and_true, true_and, FrameM.iff (Blk.bootStart_frame _)]
    | split
    | refine ⟨?_, ?_⟩
    | intro _
    | (with_reducible refine FrameM.foldI (fun _ _ => ?_) ?_)

theorem execBootStepDone_runs (w : Nat) (s : State) :
    ∃ nvm' blk', execBootStepDone w s = .next { s with nvm := nvm', blk := Blk.settle s.blk blk' } ∧ FrameM 0x7ffffffbc (s.blk.pass w) blk' := by
  unfold execBootStepDone State.updN
  refine ⟨_, _, Eq.refl _, ?_⟩
  repeat' first
    | simp only [Nat.reduceAnd, snd_ite, fst_ite, FrameM.refl, FrameM.ite, FrameM.fold, implies_true, and_self, and_true, true_and, FrameM.iff (bootStepDone_frame _ _)]
    | split
    | refine ⟨?_, ?_⟩
    | intro _
    | (with_reducible refine FrameM.foldI (fun _ _ => ?_) ?_)

theorem execBootStepFail_runs (w : Nat) (result : Nat) (lanes0 : Nat) (lanes1 : Nat) (s : State) :
    ∃ blk', execBootStepFail w result lanes0 lanes1 s = .next { s with blk := Blk.settle s.blk blk' } ∧ FrameM 0x689eb27b8 (s.blk.pass w) blk' := by
  unfold execBootStepFail State.upd
  refine ⟨_, Eq.refl _, ?_⟩
  repeat' first
    | simp only [Nat.reduceAnd, FrameM.refl, FrameM.ite, FrameM.fold, implies_true, and_self, and_true, true_and, FrameM.iff (Blk.bootFail_frame _ _ _ _ _)]
    | split
    | refine ⟨?_, ?_⟩
    | intro _
    | (with_reducible refine FrameM.foldI (fun _ _ => ?_) ?_)

theorem execBootRestart_runs (w : Nat) (s : State) :
    ∃ blk', execBootRestart w s = .next { s with blk := Blk.settle s.blk blk' } ∧ FrameM 0x67f02010 (s.blk.pass w) blk' := by
  unfold execBootRestart State.upd
  refine ⟨_, Eq.refl _, ?_⟩
  repeat' first
    | simp only [Nat.reduceAnd, FrameM.refl, FrameM.ite, FrameM.fold, implies_true, and_self, and_true, true_and, FrameM.iff (Blk.bootFrom0_frame _), FrameM.iff (Blk.bootRewind_frame _)]
    | split
    | refine ⟨?_, ?_⟩
    | intro _
    | (with_reducible refine FrameM.foldI (fun _ _ => ?_) ?_)

theorem execCfgFallback_runs (w : Nat) (s : State) :
    ∃ blk', execCfgFallback w s = .next { s with blk := Blk.settle s.blk blk' } ∧ FrameM 0xffffffffc (s.blk.pass w) blk' := by
  unfold execCfgFallback State.upd
  refine ⟨_, Eq.refl _, ?_⟩
  repeat' first
    | simp only [Nat.reduceAnd, FrameM.refl, FrameM.ite, FrameM.fold, implies_true, and_self, and_true, true_and, FrameM.iff (FrameM.upd_rst _), FrameM.iff (Blk.cfgLost_frame _), FrameM.iff (Blk.raise_frame _ _ _ _), FrameM.iff (Blk.setF_frame _ _)]
    | split
    | refine ⟨?_, ?_⟩
    | intro _
    | (with_reducible refine FrameM.foldI (fun _ _ => ?_) ?_)

theorem execOscinLost_runs (w : Nat) (s : State) :
    ∃ blk', execOscinLost w s = .next { s with blk := Blk.settle s.blk blk' } ∧ FrameM 0x7fc7fbfbc (s.blk.pass w) blk' := by
  unfold execOscinLost State.upd
  refine ⟨_, Eq.refl _, ?_⟩
  repeat' first
    | simp only [Nat.reduceAnd, FrameM.refl, FrameM.ite, FrameM.fold, implies_true, and_self, and_true, true_and, FrameM.iff (FrameM.upd_rst _), FrameM.iff (Blk.raise_frame _ _ _ _)]
    | split
    | refine ⟨?_, ?_⟩
    | intro _
    | (with_reducible refine FrameM.foldI (fun _ _ => ?_) ?_)

theorem execModeRequest_runs (w : Nat) (r : Nat) (s : State) :
    ∃ blk', execModeRequest w r s = .next { s with blk := Blk.settle s.blk blk' } ∧ FrameM 0x6f9eb0fb8 (s.blk.pass w) blk' := by
  unfold execModeRequest State.upd Blk.withDesc
  refine ⟨_, Eq.refl _, ?_⟩
  repeat' first
    | simp only [Nat.reduceAnd, FrameM.refl, FrameM.ite, FrameM.fold, implies_true, and_self, and_true, true_and, FrameM.iff (Blk.beginDesc_frame _ _ _), FrameM.iff (Blk.modeRequest_frame _ _ _ _)]
    | split
    | refine ⟨?_, ?_⟩
    | intro _
    | (with_reducible refine FrameM.foldI (fun _ _ => ?_) ?_)

theorem execDrainDone_runs (w : Nat) (s : State) :
    ∃ blk', execDrainDone w s = .next { s with blk := Blk.settle s.blk blk' } ∧ FrameM 0x689eb0fb8 (s.blk.pass w) blk' := by
  unfold execDrainDone State.upd
  refine ⟨_, Eq.refl _, ?_⟩
  repeat' first
    | simp only [Nat.reduceAnd, FrameM.refl, FrameM.ite, FrameM.fold, implies_true, and_self, and_true, true_and, FrameM.iff (Blk.txRetry_frame _), FrameM.iff (Blk.drainDone_frame _)]
    | split
    | refine ⟨?_, ?_⟩
    | intro _
    | (with_reducible refine FrameM.foldI (fun _ _ => ?_) ?_)

theorem execDiagnosticExitDone_runs (w : Nat) (ok : Bool) (s : State) :
    ∃ blk', execDiagnosticExitDone w ok s = .next { s with blk := Blk.settle s.blk blk' } ∧ FrameM 0x7fdffbfbc (s.blk.pass w) blk' := by
  unfold execDiagnosticExitDone State.upd
  refine ⟨_, Eq.refl _, ?_⟩
  repeat' first
    | simp only [Nat.reduceAnd, FrameM.refl, FrameM.ite, FrameM.fold, implies_true, and_self, and_true, true_and, FrameM.iff (Blk.txRetry_frame _), FrameM.iff (Blk.diagExit_frame _ _)]
    | split
    | refine ⟨?_, ?_⟩
    | intro _
    | (with_reducible refine FrameM.foldI (fun _ _ => ?_) ?_)

theorem execLockGained_runs (w : Nat) (s : State) :
    ∃ blk', execLockGained w s = .next { s with blk := Blk.settle s.blk blk' } ∧ FrameM 0x7ffffbfbc (s.blk.pass w) blk' := by
  unfold execLockGained State.upd
  refine ⟨_, Eq.refl _, ?_⟩
  repeat' first
    | simp only [Nat.reduceAnd, FrameM.refl, FrameM.ite, FrameM.fold, implies_true, and_self, and_true, true_and, FrameM.iff (Blk.modeEnter_frame _ _ _), FrameM.iff (Blk.relock_frame _)]
    | split
    | refine ⟨?_, ?_⟩
    | intro _
    | (with_reducible refine FrameM.foldI (fun _ _ => ?_) ?_)

theorem execLockLost_runs (w : Nat) (s : State) :
    ∃ blk', execLockLost w s = .next { s with blk := Blk.settle s.blk blk' } ∧ FrameM 0x689eb07b8 (s.blk.pass w) blk' := by
  unfold execLockLost State.upd
  refine ⟨_, Eq.refl _, ?_⟩
  repeat' first
    | simp only [Nat.reduceAnd, FrameM.refl, FrameM.ite, FrameM.fold, implies_true, and_self, and_true, true_and, FrameM.iff (Blk.lockLost_frame _)]
    | split
    | refine ⟨?_, ?_⟩
    | intro _
    | (with_reducible refine FrameM.foldI (fun _ _ => ?_) ?_)

theorem execPolicySetFeatures_runs (w : Nat) (r : Nat) (s : State) :
    ∃ blk', execPolicySetFeatures w r s = .next { s with blk := Blk.settle s.blk blk' } ∧ FrameM 0x409eb0038 (s.blk.pass w) blk' := by
  unfold execPolicySetFeatures State.upd Blk.withDesc
  refine ⟨_, Eq.refl _, ?_⟩
  repeat' first
    | simp only [Nat.reduceAnd, FrameM.refl, FrameM.ite, FrameM.fold, implies_true, and_self, and_true, true_and, FrameM.iff (Blk.beginDesc_frame _ _ _), FrameM.iff (Blk.txRetry_frame _), FrameM.iff (Blk.setFeatures_frame _ _ _)]
    | split
    | refine ⟨?_, ?_⟩
    | intro _
    | (with_reducible refine FrameM.foldI (fun _ _ => ?_) ?_)

theorem execPolicySetGateList_runs (w : Nat) (r : Nat) (img : Bytes) (s : State) :
    ∃ blk', execPolicySetGateList w r img s = .next { s with blk := Blk.settle s.blk blk' } ∧ FrameM 0x488290038 (s.blk.pass w) blk' := by
  unfold execPolicySetGateList State.upd Blk.withDesc
  refine ⟨_, Eq.refl _, ?_⟩
  repeat' first
    | simp only [Nat.reduceAnd, FrameM.refl, FrameM.ite, FrameM.fold, implies_true, and_self, and_true, true_and, FrameM.iff (Blk.beginDesc_frame _ _ _), FrameM.iff (Blk.policyGate_frame _ _ _ _)]
    | split
    | refine ⟨?_, ?_⟩
    | intro _
    | (with_reducible refine FrameM.foldI (fun _ _ => ?_) ?_)

theorem execPolicySetPortLpi_runs (w : Nat) (r : Nat) (s : State) :
    ∃ blk', execPolicySetPortLpi w r s = .next { s with blk := Blk.settle s.blk blk' } ∧ FrameM 0x400090018 (s.blk.pass w) blk' := by
  unfold execPolicySetPortLpi State.upd Blk.withDesc
  refine ⟨_, Eq.refl _, ?_⟩
  repeat' first
    | simp only [Nat.reduceAnd, FrameM.refl, FrameM.ite, FrameM.fold, implies_true, and_self, and_true, true_and, FrameM.iff (Blk.beginDesc_frame _ _ _), FrameM.iff (Blk.policyLpi_frame _ _ _)]
    | split
    | refine ⟨?_, ?_⟩
    | intro _
    | (with_reducible refine FrameM.foldI (fun _ _ => ?_) ?_)

theorem execAwlCal_runs (w : Nat) (r : Nat) (s : State) :
    ∃ blk', execAwlCal w r s = .next { s with blk := Blk.settle s.blk blk' } ∧ FrameM 0x404090008 (s.blk.pass w) blk' := by
  unfold execAwlCal State.upd Blk.withDesc
  refine ⟨_, Eq.refl _, ?_⟩
  repeat' first
    | simp only [Nat.reduceAnd, FrameM.refl, FrameM.ite, FrameM.fold, implies_true, and_self, and_true, true_and, FrameM.iff (Blk.beginDesc_frame _ _ _), FrameM.iff (Blk.complete_frame _ _ _ _), FrameM.iff (Blk.rotStart_frame _)]
    | split
    | refine ⟨?_, ?_⟩
    | intro _
    | (with_reducible refine FrameM.foldI (fun _ _ => ?_) ?_)

theorem execClientPolicy_runs (w : Nat) (r : Nat) (img : Bytes) (s : State) :
    ∃ blk', execClientPolicy w r img s = .next { s with blk := Blk.settle s.blk blk' } ∧ FrameM 0x420090018 (s.blk.pass w) blk' := by
  unfold execClientPolicy State.upd Blk.withDesc
  refine ⟨_, Eq.refl _, ?_⟩
  repeat' first
    | simp only [Nat.reduceAnd, FrameM.refl, FrameM.ite, FrameM.fold, implies_true, and_self, and_true, true_and, FrameM.iff (Blk.beginDesc_frame _ _ _), FrameM.iff (Blk.policyRecords_frame _ _ _ _ _)]
    | split
    | refine ⟨?_, ?_⟩
    | intro _
    | (with_reducible refine FrameM.foldI (fun _ _ => ?_) ?_)

theorem execServiceAddr_runs (w : Nat) (r : Nat) (img : Bytes) (s : State) :
    ∃ blk', execServiceAddr w r img s = .next { s with blk := Blk.settle s.blk blk' } ∧ FrameM 0x420090018 (s.blk.pass w) blk' := by
  unfold execServiceAddr State.upd Blk.withDesc
  refine ⟨_, Eq.refl _, ?_⟩
  repeat' first
    | simp only [Nat.reduceAnd, FrameM.refl, FrameM.ite, FrameM.fold, implies_true, and_self, and_true, true_and, FrameM.iff (Blk.beginDesc_frame _ _ _), FrameM.iff (Blk.policyRecords_frame _ _ _ _ _)]
    | split
    | refine ⟨?_, ?_⟩
    | intro _
    | (with_reducible refine FrameM.foldI (fun _ _ => ?_) ?_)

theorem execSelftest_runs (w : Nat) (r : Nat) (buf : Bytes) (s : State) :
    ∃ blk', execSelftest w r buf s = .next { s with blk := Blk.settle s.blk blk' } ∧ FrameM 0x440090028 (s.blk.pass w) blk' := by
  unfold execSelftest State.upd Blk.withDesc
  refine ⟨_, Eq.refl _, ?_⟩
  repeat' first
    | simp only [Nat.reduceAnd, FrameM.refl, FrameM.ite, FrameM.fold, implies_true, and_self, and_true, true_and, FrameM.iff (Blk.beginDesc_frame _ _ _), FrameM.iff (Blk.selftest_frame _ _ _ _)]
    | split
    | refine ⟨?_, ?_⟩
    | intro _
    | (with_reducible refine FrameM.foldI (fun _ _ => ?_) ?_)

theorem execSelftestDone_runs (w : Nat) (s : State) :
    ∃ blk', execSelftestDone w s = .next { s with blk := Blk.settle s.blk blk' } ∧ FrameM 0x440090028 (s.blk.pass w) blk' := by
  unfold execSelftestDone State.upd
  refine ⟨_, Eq.refl _, ?_⟩
  repeat' first
    | simp only [Nat.reduceAnd, FrameM.refl, FrameM.ite, FrameM.fold, implies_true, and_self, and_true, true_and, FrameM.iff (Blk.selfDone_frame _), FrameM.iff (Blk.selfSync_frame _)]
    | split
    | refine ⟨?_, ?_⟩
    | intro _
    | (with_reducible refine FrameM.foldI (fun _ _ => ?_) ?_)

theorem execTbsNow0Read_runs (w : Nat) (f : Nat) (s : State) :
    ∃ blk', execTbsNow0Read w f s = .next { s with blk := Blk.settle s.blk blk' } ∧ FrameM 0x48 (s.blk.pass w) blk' := by
  unfold execTbsNow0Read State.upd Blk.readFor
  refine ⟨_, Eq.refl _, ?_⟩
  repeat' first
    | simp only [Nat.reduceAnd, FrameM.refl, FrameM.ite, FrameM.fold, implies_true, and_self, and_true, true_and, FrameM.iff (Blk.put_frame _ _), FrameM.iff (Blk.nowRead_frame _ _)]
    | split
    | refine ⟨?_, ?_⟩
    | intro _
    | (with_reducible refine FrameM.foldI (fun _ _ => ?_) ?_)

theorem execKeepRtcLoad_runs (w : Nat) (s : State) :
    ∃ blk', execKeepRtcLoad w s = .next { s with blk := Blk.settle s.blk blk' } ∧ FrameM 0x1000 (s.blk.pass w) blk' := by
  unfold execKeepRtcLoad State.upd
  refine ⟨_, Eq.refl _, ?_⟩
  repeat' first
    | simp only [Nat.reduceAnd, FrameM.refl, FrameM.ite, FrameM.fold, implies_true, and_self, and_true, true_and, FrameM.iff (FrameM.upd_rst _)]
    | split
    | refine ⟨?_, ?_⟩
    | intro _
    | (with_reducible refine FrameM.foldI (fun _ _ => ?_) ?_)

theorem execLeapInstall_runs (w : Nat) (r : Nat) (s : State) :
    ∃ blk', execLeapInstall w r s = .next { s with blk := Blk.settle s.blk blk' } ∧ FrameM 0x488390028 (s.blk.pass w) blk' := by
  unfold execLeapInstall State.upd Blk.withDesc
  refine ⟨_, Eq.refl _, ?_⟩
  repeat' first
    | simp only [Nat.reduceAnd, FrameM.refl, FrameM.ite, FrameM.fold, implies_true, and_self, and_true, true_and, FrameM.iff (Blk.beginDesc_frame _ _ _), FrameM.iff (Blk.leapInstall_frame _ _ _)]
    | split
    | refine ⟨?_, ?_⟩
    | intro _
    | (with_reducible refine FrameM.foldI (fun _ _ => ?_) ?_)

theorem execLeapCancel_runs (w : Nat) (r : Nat) (s : State) :
    ∃ blk', execLeapCancel w r s = .next { s with blk := Blk.settle s.blk blk' } ∧ FrameM 0x488390028 (s.blk.pass w) blk' := by
  unfold execLeapCancel State.upd Blk.withDesc
  refine ⟨_, Eq.refl _, ?_⟩
  repeat' first
    | simp only [Nat.reduceAnd, FrameM.refl, FrameM.ite, FrameM.fold, implies_true, and_self, and_true, true_and, FrameM.iff (Blk.beginDesc_frame _ _ _), FrameM.iff (Blk.leapCancel_frame _ _)]
    | split
    | refine ⟨?_, ?_⟩
    | intro _
    | (with_reducible refine FrameM.foldI (fun _ _ => ?_) ?_)

theorem execLeapWarnStart_runs (w : Nat) (s : State) :
    ∃ blk', execLeapWarnStart w s = .next { s with blk := Blk.settle s.blk blk' } ∧ FrameM 0x0 (s.blk.pass w) blk' := by
  unfold execLeapWarnStart State.upd
  refine ⟨_, Eq.refl _, ?_⟩
  repeat' first
    | simp only [Nat.reduceAnd, FrameM.refl, FrameM.ite, FrameM.fold, implies_true, and_self, and_true, true_and]
    | split
    | refine ⟨?_, ?_⟩
    | intro _
    | (with_reducible refine FrameM.foldI (fun _ _ => ?_) ?_)

theorem execSmearSample_runs (w : Nat) (s : State) :
    ∃ blk', execSmearSample w s = .next { s with blk := Blk.settle s.blk blk' } ∧ FrameM 0x488300020 (s.blk.pass w) blk' := by
  unfold execSmearSample State.upd
  refine ⟨_, Eq.refl _, ?_⟩
  repeat' first
    | simp only [Nat.reduceAnd, FrameM.refl, FrameM.ite, FrameM.fold, implies_true, and_self, and_true, true_and, FrameM.iff (Blk.t3Check_frame _), FrameM.iff (Blk.smearSamples_frame _)]
    | split
    | refine ⟨?_, ?_⟩
    | intro _
    | (with_reducible refine FrameM.foldI (fun _ _ => ?_) ?_)

theorem execSmearEnd_runs (w : Nat) (s : State) :
    ∃ blk', execSmearEnd w s = .next { s with blk := Blk.settle s.blk blk' } ∧ FrameM 0x0 (s.blk.pass w) blk' := by
  unfold execSmearEnd State.upd
  refine ⟨_, Eq.refl _, ?_⟩
  repeat' first
    | simp only [Nat.reduceAnd, FrameM.refl, FrameM.ite, FrameM.fold, implies_true, and_self, and_true, true_and]
    | split
    | refine ⟨?_, ?_⟩
    | intro _
    | (with_reducible refine FrameM.foldI (fun _ _ => ?_) ?_)

theorem execTimeAdjustOffset_runs (w : Nat) (r : Nat) (s : State) :
    ∃ blk', execTimeAdjustOffset w r s = .next { s with blk := Blk.settle s.blk blk' } ∧ FrameM 0x7fe7fbfbc (s.blk.pass w) blk' := by
  unfold execTimeAdjustOffset State.upd Blk.withDesc
  refine ⟨_, Eq.refl _, ?_⟩
  repeat' first
    | simp only [Nat.reduceAnd, FrameM.refl, FrameM.ite, FrameM.fold, implies_true, and_self, and_true, true_and, FrameM.iff (Blk.beginDesc_frame _ _ _), FrameM.iff (Blk.timeAdjust_frame _ _ _)]
    | split
    | refine ⟨?_, ?_⟩
    | intro _
    | (with_reducible refine FrameM.foldI (fun _ _ => ?_) ?_)

theorem execTimeAdjustSet_runs (w : Nat) (r : Nat) (s : State) :
    ∃ blk', execTimeAdjustSet w r s = .next { s with blk := Blk.settle s.blk blk' } ∧ FrameM 0x7fe7fbfbc (s.blk.pass w) blk' := by
  unfold execTimeAdjustSet State.upd Blk.withDesc
  refine ⟨_, Eq.refl _, ?_⟩
  repeat' first
    | simp only [Nat.reduceAnd, FrameM.refl, FrameM.ite, FrameM.fold, implies_true, and_self, and_true, true_and, FrameM.iff (Blk.beginDesc_frame _ _ _), FrameM.iff (Blk.timeAdjust_frame _ _ _)]
    | split
    | refine ⟨?_, ?_⟩
    | intro _
    | (with_reducible refine FrameM.foldI (fun _ _ => ?_) ?_)

theorem execSlewCancel_runs (w : Nat) (r : Nat) (s : State) :
    ∃ blk', execSlewCancel w r s = .next { s with blk := Blk.settle s.blk blk' } ∧ FrameM 0x7fe7fbfbc (s.blk.pass w) blk' := by
  unfold execSlewCancel State.upd Blk.withDesc
  refine ⟨_, Eq.refl _, ?_⟩
  repeat' first
    | simp only [Nat.reduceAnd, FrameM.refl, FrameM.ite, FrameM.fold, implies_true, and_self, and_true, true_and, FrameM.iff (Blk.beginDesc_frame _ _ _), FrameM.iff (Blk.timeAdjust_frame _ _ _)]
    | split
    | refine ⟨?_, ?_⟩
    | intro _
    | (with_reducible refine FrameM.foldI (fun _ _ => ?_) ?_)

theorem execSlewDone_runs (w : Nat) (s : State) :
    ∃ blk', execSlewDone w s = .next { s with blk := Blk.settle s.blk blk' } ∧ FrameM 0x0 (s.blk.pass w) blk' := by
  unfold execSlewDone State.upd
  refine ⟨_, Eq.refl _, ?_⟩
  repeat' first
    | simp only [Nat.reduceAnd, FrameM.refl, FrameM.ite, FrameM.fold, implies_true, and_self, and_true, true_and]
    | split
    | refine ⟨?_, ?_⟩
    | intro _
    | (with_reducible refine FrameM.foldI (fun _ _ => ?_) ?_)

theorem execLasterArm_runs (w : Nat) (r : Nat) (block : Bytes) (s : State) :
    ∃ blk', execLasterArm w r block s = .next { s with blk := Blk.settle s.blk blk' } ∧ FrameM 0x7fe7fbfbc (s.blk.pass w) blk' := by
  unfold execLasterArm State.upd Blk.withDesc
  refine ⟨_, Eq.refl _, ?_⟩
  repeat' first
    | simp only [Nat.reduceAnd, FrameM.refl, FrameM.ite, FrameM.fold, implies_true, and_self, and_true, true_and, FrameM.iff (Blk.beginDesc_frame _ _ _), FrameM.iff (Blk.lasterArm_frame _ _ _)]
    | split
    | refine ⟨?_, ?_⟩
    | intro _
    | (with_reducible refine FrameM.foldI (fun _ _ => ?_) ?_)

theorem execLasterCancel_runs (w : Nat) (r : Nat) (s : State) :
    ∃ blk', execLasterCancel w r s = .next { s with blk := Blk.settle s.blk blk' } ∧ FrameM 0x400290008 (s.blk.pass w) blk' := by
  unfold execLasterCancel State.upd Blk.withDesc
  refine ⟨_, Eq.refl _, ?_⟩
  repeat' first
    | simp only [Nat.reduceAnd, FrameM.refl, FrameM.ite, FrameM.fold, implies_true, and_self, and_true, true_and, FrameM.iff (Blk.beginDesc_frame _ _ _), FrameM.iff (Blk.lasterCancel_frame _ _ _)]
    | split
    | refine ⟨?_, ?_⟩
    | intro _
    | (with_reducible refine FrameM.foldI (fun _ _ => ?_) ?_)

theorem execLasterSpillFill_runs (w : Nat) (i : Nat) (s : State) :
    ∃ blk', execLasterSpillFill w i s = .next { s with blk := Blk.settle s.blk blk' } ∧ FrameM 0x200000 (s.blk.pass w) blk' := by
  unfold execLasterSpillFill State.upd
  refine ⟨_, Eq.refl _, ?_⟩
  repeat' first
    | simp only [Nat.reduceAnd, FrameM.refl, FrameM.ite, FrameM.fold, implies_true, and_self, and_true, true_and, FrameM.iff (FrameM.upd_laster _)]
    | split
    | refine ⟨?_, ?_⟩
    | intro _
    | (with_reducible refine FrameM.foldI (fun _ _ => ?_) ?_)

theorem execLasterIssue_runs (w : Nat) (i : Nat) (s : State) :
    ∃ blk', execLasterIssue w i s = .next { s with blk := Blk.settle s.blk blk' } ∧ FrameM 0x7fe7fbfbc (s.blk.pass w) blk' := by
  unfold execLasterIssue State.upd
  refine ⟨_, Eq.refl _, ?_⟩
  repeat' first
    | simp only [Nat.reduceAnd, FrameM.refl, FrameM.ite, FrameM.fold, implies_true, and_self, and_true, true_and, FrameM.iff (Blk.txRetry_frame _), FrameM.iff (Blk.lasterIssue_frame _ _)]
    | split
    | refine ⟨?_, ?_⟩
    | intro _
    | (with_reducible refine FrameM.foldI (fun _ _ => ?_) ?_)

theorem execLaunchEntry_runs (w : Nat) (i : Nat) (s : State) :
    ∃ blk', execLaunchEntry w i s = .next { s with blk := Blk.settle s.blk blk' } ∧ FrameM 0x7fe7fbfbc (s.blk.pass w) blk' := by
  unfold execLaunchEntry State.upd
  refine ⟨_, Eq.refl _, ?_⟩
  repeat' first
    | simp only [Nat.reduceAnd, FrameM.refl, FrameM.ite, FrameM.fold, implies_true, and_self, and_true, true_and, FrameM.iff (Blk.txRetry_frame _), FrameM.iff (Blk.runIssued_frame _ _ _)]
    | split
    | refine ⟨?_, ?_⟩
    | intro _
    | (with_reducible refine FrameM.foldI (fun _ _ => ?_) ?_)

theorem execGateListEntry_runs (w : Nat) (i : Nat) (dev : Bool) (s : State) :
    ∃ blk', execGateListEntry w i dev s = .next { s with blk := Blk.settle s.blk blk' } ∧ FrameM 0x7fe7fbfbc (s.blk.pass w) blk' := by
  unfold execGateListEntry State.upd
  refine ⟨_, Eq.refl _, ?_⟩
  repeat' first
    | simp only [Nat.reduceAnd, FrameM.refl, FrameM.ite, FrameM.fold, implies_true, and_self, and_true, true_and, FrameM.iff (Blk.txRetry_frame _), FrameM.iff (Blk.gateTake_frame _ _), FrameM.iff (Blk.pmcEvent_frame _ _ _ _), FrameM.iff (Blk.runIssued_frame _ _ _)]
    | split
    | refine ⟨?_, ?_⟩
    | intro _
    | (with_reducible refine FrameM.foldI (fun _ _ => ?_) ?_)

theorem execOutputOn_runs (w : Nat) (i : Nat) (s : State) :
    ∃ blk', execOutputOn w i s = .next { s with blk := Blk.settle s.blk blk' } ∧ FrameM 0x7fe7fbfbc (s.blk.pass w) blk' := by
  unfold execOutputOn State.upd
  refine ⟨_, Eq.refl _, ?_⟩
  repeat' first
    | simp only [Nat.reduceAnd, FrameM.refl, FrameM.ite, FrameM.fold, implies_true, and_self, and_true, true_and, FrameM.iff (Blk.runIssued_frame _ _ _)]
    | split
    | refine ⟨?_, ?_⟩
    | intro _
    | (with_reducible refine FrameM.foldI (fun _ _ => ?_) ?_)

theorem execOutputOff_runs (w : Nat) (i : Nat) (s : State) :
    ∃ blk', execOutputOff w i s = .next { s with blk := Blk.settle s.blk blk' } ∧ FrameM 0x7fe7fbfbc (s.blk.pass w) blk' := by
  unfold execOutputOff State.upd
  refine ⟨_, Eq.refl _, ?_⟩
  repeat' first
    | simp only [Nat.reduceAnd, FrameM.refl, FrameM.ite, FrameM.fold, implies_true, and_self, and_true, true_and, FrameM.iff (Blk.runIssued_frame _ _ _)]
    | split
    | refine ⟨?_, ?_⟩
    | intro _
    | (with_reducible refine FrameM.foldI (fun _ _ => ?_) ?_)

theorem execCaptureOpen_runs (w : Nat) (i : Nat) (s : State) :
    ∃ blk', execCaptureOpen w i s = .next { s with blk := Blk.settle s.blk blk' } ∧ FrameM 0x7fe7fbfbc (s.blk.pass w) blk' := by
  unfold execCaptureOpen State.upd
  refine ⟨_, Eq.refl _, ?_⟩
  repeat' first
    | simp only [Nat.reduceAnd, FrameM.refl, FrameM.ite, FrameM.fold, implies_true, and_self, and_true, true_and, FrameM.iff (Blk.runIssued_frame _ _ _)]
    | split
    | refine ⟨?_, ?_⟩
    | intro _
    | (with_reducible refine FrameM.foldI (fun _ _ => ?_) ?_)

theorem execCaptureClose_runs (w : Nat) (i : Nat) (s : State) :
    ∃ blk', execCaptureClose w i s = .next { s with blk := Blk.settle s.blk blk' } ∧ FrameM 0x7fe7fbfbc (s.blk.pass w) blk' := by
  unfold execCaptureClose State.upd
  refine ⟨_, Eq.refl _, ?_⟩
  repeat' first
    | simp only [Nat.reduceAnd, FrameM.refl, FrameM.ite, FrameM.fold, implies_true, and_self, and_true, true_and, FrameM.iff (Blk.runIssued_frame _ _ _)]
    | split
    | refine ⟨?_, ?_⟩
    | intro _
    | (with_reducible refine FrameM.foldI (fun _ _ => ?_) ?_)

theorem execOutEdge_runs (w : Nat) (u : Nat) (s : State) :
    ∃ blk', execOutEdge w u s = .next { s with blk := Blk.settle s.blk blk' } ∧ FrameM 0x2080008 (s.blk.pass w) blk' := by
  unfold execOutEdge State.upd
  refine ⟨_, Eq.refl _, ?_⟩
  repeat' first
    | simp only [Nat.reduceAnd, FrameM.refl, FrameM.ite, FrameM.fold, implies_true, and_self, and_true, true_and, FrameM.iff (Blk.outEdge_frame _ _)]
    | split
    | refine ⟨?_, ?_⟩
    | intro _
    | (with_reducible refine FrameM.foldI (fun _ _ => ?_) ?_)

theorem execKeyRoll_runs (w : Nat) (n : Nat) (expiry : Bool) (s : State) :
    ∃ blk', execKeyRoll w n expiry s = .next { s with blk := Blk.settle s.blk blk' } ∧ FrameM 0x7fc7fbfbc (s.blk.pass w) blk' := by
  unfold execKeyRoll State.upd
  refine ⟨_, Eq.refl _, ?_⟩
  repeat' first
    | simp only [Nat.reduceAnd, FrameM.refl, FrameM.ite, FrameM.fold, implies_true, and_self, and_true, true_and, FrameM.iff (Blk.keyRoll_frame _ _ _)]
    | split
    | refine ⟨?_, ?_⟩
    | intro _
    | (with_reducible refine FrameM.foldI (fun _ _ => ?_) ?_)

theorem execLeapEntry_runs (w : Nat) (s : State) :
    ∃ blk', execLeapEntry w s = .next { s with blk := Blk.settle s.blk blk' } ∧ FrameM 0x180010 (s.blk.pass w) blk' := by
  unfold execLeapEntry State.upd
  refine ⟨_, Eq.refl _, ?_⟩
  repeat' first
    | simp only [Nat.reduceAnd, FrameM.refl, FrameM.ite, FrameM.fold, implies_true, and_self, and_true, true_and, FrameM.iff (Blk.leapTake_frame _), FrameM.iff (Blk.pmcEvent_frame _ _ _ _), FrameM.iff (Blk.smearSamples_frame _)]
    | split
    | refine ⟨?_, ?_⟩
    | intro _
    | (with_reducible refine FrameM.foldI (fun _ _ => ?_) ?_)

theorem execAdjustEntry_runs (w : Nat) (i : Nat) (s : State) :
    ∃ blk', execAdjustEntry w i s = .next { s with blk := Blk.settle s.blk blk' } ∧ FrameM 0x7fe7fbfbc (s.blk.pass w) blk' := by
  unfold execAdjustEntry State.upd
  refine ⟨_, Eq.refl _, ?_⟩
  repeat' first
    | simp only [Nat.reduceAnd, FrameM.refl, FrameM.ite, FrameM.fold, implies_true, and_self, and_true, true_and, FrameM.iff (Blk.runIssued_frame _ _ _)]
    | split
    | refine ⟨?_, ?_⟩
    | intro _
    | (with_reducible refine FrameM.foldI (fun _ _ => ?_) ?_)

theorem execHoldCheck_runs (w : Nat) (s : State) :
    ∃ blk', execHoldCheck w s = .next { s with blk := Blk.settle s.blk blk' } ∧ FrameM 0x16a0408 (s.blk.pass w) blk' := by
  unfold execHoldCheck State.upd
  refine ⟨_, Eq.refl _, ?_⟩
  repeat' first
    | simp only [Nat.reduceAnd, FrameM.refl, FrameM.ite, FrameM.fold, implies_true, and_self, and_true, true_and, FrameM.iff (FrameM.upd_laster _), FrameM.iff (Blk.holdEval_frame _), FrameM.iff (Blk.pmcEvent_frame _ _ _ _)]
    | split
    | refine ⟨?_, ?_⟩
    | intro _
    | (with_reducible refine FrameM.foldI (fun _ _ => ?_) ?_)

theorem execPtpSweep_runs (w : Nat) (p : Nat) (n : Int) (client : Bool) (s : State) :
    ∃ blk', execPtpSweep w p n client s = .next { s with blk := Blk.settle s.blk blk' } ∧ FrameM 0x508080024 (s.blk.pass w) blk' := by
  unfold execPtpSweep State.upd
  refine ⟨_, Eq.refl _, ?_⟩
  repeat' first
    | simp only [Nat.reduceAnd, FrameM.refl, FrameM.ite, FrameM.fold, implies_true, and_self, and_true, true_and, FrameM.iff (Blk.sweepClient_frame _ _), FrameM.iff (Blk.sweep_frame _ _ _)]
    | split
    | refine ⟨?_, ?_⟩
    | intro _
    | (with_reducible refine FrameM.foldI (fun _ _ => ?_) ?_)

theorem execHostEvent_runs (w : Nat) (i : Nat) (s : State) :
    ∃ blk', execHostEvent w i s = .next { s with blk := Blk.settle s.blk blk' } ∧ FrameM 0x7fe7fbfbc (s.blk.pass w) blk' := by
  unfold execHostEvent State.upd
  refine ⟨_, Eq.refl _, ?_⟩
  repeat' first
    | simp only [Nat.reduceAnd, FrameM.refl, FrameM.ite, FrameM.fold, implies_true, and_self, and_true, true_and, FrameM.iff (Blk.runIssued_frame _ _ _)]
    | split
    | refine ⟨?_, ?_⟩
    | intro _
    | (with_reducible refine FrameM.foldI (fun _ _ => ?_) ?_)

theorem execSynth_runs (w : Nat) (e : Nat) (s : State) :
    ∃ blk', execSynth w e s = .next { s with blk := Blk.settle s.blk blk' } ∧ FrameM 0x7fe7fbfbc (s.blk.pass w) blk' := by
  unfold execSynth State.upd
  refine ⟨_, Eq.refl _, ?_⟩
  repeat' first
    | simp only [Nat.reduceAnd, FrameM.refl, FrameM.ite, FrameM.fold, implies_true, and_self, and_true, true_and, FrameM.iff (Blk.txRetry_frame _), FrameM.iff (Blk.synthCross_frame _ _)]
    | split
    | refine ⟨?_, ?_⟩
    | intro _
    | (with_reducible refine FrameM.foldI (fun _ _ => ?_) ?_)

theorem execGnssMessage_runs (w : Nat) (slot : Nat) (bytes : Bytes) (s : State) :
    ∃ blk', execGnssMessage w slot bytes s = .next { s with blk := Blk.settle s.blk blk' } ∧ FrameM 0x7ffffbfbc (s.blk.pass w) blk' := by
  unfold execGnssMessage State.upd
  refine ⟨_, Eq.refl _, ?_⟩
  repeat' first
    | simp only [Nat.reduceAnd, FrameM.refl, FrameM.ite, FrameM.fold, implies_true, and_self, and_true, true_and, FrameM.iff (Blk.gnssMessage_frame _ _ _)]
    | split
    | refine ⟨?_, ?_⟩
    | intro _
    | (with_reducible refine FrameM.foldI (fun _ _ => ?_) ?_)

theorem execRefComparison_runs (w : Nat) (slot : Nat) (t : Int) (tRef : Int) (s : State) :
    ∃ blk', execRefComparison w slot t tRef s = .next { s with blk := Blk.settle s.blk blk' } ∧ FrameM 0x7ffffbfbc (s.blk.pass w) blk' := by
  unfold execRefComparison State.upd
  refine ⟨_, Eq.refl _, ?_⟩
  repeat' first
    | simp only [Nat.reduceAnd, FrameM.refl, FrameM.ite, FrameM.fold, implies_true, and_self, and_true, true_and, FrameM.iff (Blk.refComparison_frame _ _ _ _)]
    | split
    | refine ⟨?_, ?_⟩
    | intro _
    | (with_reducible refine FrameM.foldI (fun _ _ => ?_) ?_)

theorem execRefEvalTick_runs (w : Nat) (slot : Nat) (missed : Bool) (s : State) :
    ∃ blk', execRefEvalTick w slot missed s = .next { s with blk := Blk.settle s.blk blk' } ∧ FrameM 0x1c20008 (s.blk.pass w) blk' := by
  unfold execRefEvalTick State.upd
  refine ⟨_, Eq.refl _, ?_⟩
  repeat' first
    | simp only [Nat.reduceAnd, FrameM.refl, FrameM.ite, FrameM.fold, implies_true, and_self, and_true, true_and, FrameM.iff (Blk.refTick_frame _ _ _)]
    | split
    | refine ⟨?_, ?_⟩
    | intro _
    | (with_reducible refine FrameM.foldI (fun _ _ => ?_) ?_)

theorem execQualTimerExpire_runs (w : Nat) (slot : Nat) (s : State) :
    ∃ blk', execQualTimerExpire w slot s = .next { s with blk := Blk.settle s.blk blk' } ∧ FrameM 0x1c20008 (s.blk.pass w) blk' := by
  unfold execQualTimerExpire State.upd
  refine ⟨_, Eq.refl _, ?_⟩
  repeat' first
    | simp only [Nat.reduceAnd, FrameM.refl, FrameM.ite, FrameM.fold, implies_true, and_self, and_true, true_and, FrameM.iff (Blk.qualExpire_frame _ _)]
    | split
    | refine ⟨?_, ?_⟩
    | intro _
    | (with_reducible refine FrameM.foldI (fun _ _ => ?_) ?_)

theorem execWtrTimerExpire_runs (w : Nat) (slot : Nat) (s : State) :
    ∃ blk', execWtrTimerExpire w slot s = .next { s with blk := Blk.settle s.blk blk' } ∧ FrameM 0x1c20008 (s.blk.pass w) blk' := by
  unfold execWtrTimerExpire State.upd
  refine ⟨_, Eq.refl _, ?_⟩
  repeat' first
    | simp only [Nat.reduceAnd, FrameM.refl, FrameM.ite, FrameM.fold, implies_true, and_self, and_true, true_and, FrameM.iff (Blk.toQualified_frame _ _)]
    | split
    | refine ⟨?_, ?_⟩
    | intro _
    | (with_reducible refine FrameM.foldI (fun _ _ => ?_) ?_)

theorem execSentinelRound_runs (w : Nat) (s : State) :
    ∃ blk', execSentinelRound w s = .next { s with blk := Blk.settle s.blk blk' } ∧ FrameM 0x1c20018 (s.blk.pass w) blk' := by
  unfold execSentinelRound State.upd
  refine ⟨_, Eq.refl _, ?_⟩
  repeat' first
    | simp only [Nat.reduceAnd, FrameM.refl, FrameM.ite, FrameM.fold, implies_true, and_self, and_true, true_and, FrameM.iff (Blk.sentinelRound_frame _)]
    | split
    | refine ⟨?_, ?_⟩
    | intro _
    | (with_reducible refine FrameM.foldI (fun _ _ => ?_) ?_)

theorem execEnsembleUpdate_runs (w : Nat) (s : State) :
    ∃ blk', execEnsembleUpdate w s = .next { s with blk := Blk.settle s.blk blk' } ∧ FrameM 0x400000 (s.blk.pass w) blk' := by
  unfold execEnsembleUpdate State.upd
  refine ⟨_, Eq.refl _, ?_⟩
  repeat' first
    | simp only [Nat.reduceAnd, FrameM.refl, FrameM.ite, FrameM.fold, implies_true, and_self, and_true, true_and, FrameM.iff (Blk.ensembleUpdate_frame _)]
    | split
    | refine ⟨?_, ?_⟩
    | intro _
    | (with_reducible refine FrameM.foldI (fun _ _ => ?_) ?_)

theorem execAcqNarrow_runs (w : Nat) (s : State) :
    ∃ blk', execAcqNarrow w s = .next { s with blk := Blk.settle s.blk blk' } ∧ FrameM 0x400000 (s.blk.pass w) blk' := by
  unfold execAcqNarrow State.upd
  refine ⟨_, Eq.refl _, ?_⟩
  repeat' first
    | simp only [Nat.reduceAnd, FrameM.refl, FrameM.ite, FrameM.fold, implies_true, and_self, and_true, true_and, FrameM.iff (FrameM.upd_refs _)]
    | split
    | refine ⟨?_, ?_⟩
    | intro _
    | (with_reducible refine FrameM.foldI (fun _ _ => ?_) ?_)

theorem execRefForce_runs (w : Nat) (r : Nat) (s : State) :
    ∃ blk', execRefForce w r s = .next { s with blk := Blk.settle s.blk blk' } ∧ FrameM 0x401cb0008 (s.blk.pass w) blk' := by
  unfold execRefForce State.upd Blk.withDesc
  refine ⟨_, Eq.refl _, ?_⟩
  repeat' first
    | simp only [Nat.reduceAnd, FrameM.refl, FrameM.ite, FrameM.fold, implies_true, and_self, and_true, true_and, FrameM.iff (Blk.beginDesc_frame _ _ _), FrameM.iff (Blk.refForce_frame _ _ _)]
    | split
    | refine ⟨?_, ?_⟩
    | intro _
    | (with_reducible refine FrameM.foldI (fun _ _ => ?_) ?_)

theorem execRefRelease_runs (w : Nat) (r : Nat) (s : State) :
    ∃ blk', execRefRelease w r s = .next { s with blk := Blk.settle s.blk blk' } ∧ FrameM 0x401cb0008 (s.blk.pass w) blk' := by
  unfold execRefRelease State.upd Blk.withDesc
  refine ⟨_, Eq.refl _, ?_⟩
  repeat' first
    | simp only [Nat.reduceAnd, FrameM.refl, FrameM.ite, FrameM.fold, implies_true, and_self, and_true, true_and, FrameM.iff (FrameM.upd_refs _), FrameM.iff (Blk.beginDesc_frame _ _ _), FrameM.iff (Blk.complete_frame _ _ _ _), FrameM.iff (Blk.refsSettle_frame _)]
    | split
    | refine ⟨?_, ?_⟩
    | intro _
    | (with_reducible refine FrameM.foldI (fun _ _ => ?_) ?_)

theorem execRefLockout_runs (w : Nat) (r : Nat) (s : State) :
    ∃ blk', execRefLockout w r s = .next { s with blk := Blk.settle s.blk blk' } ∧ FrameM 0x401cb0008 (s.blk.pass w) blk' := by
  unfold execRefLockout State.upd Blk.withDesc
  refine ⟨_, Eq.refl _, ?_⟩
  repeat' first
    | simp only [Nat.reduceAnd, FrameM.refl, FrameM.ite, FrameM.fold, implies_true, and_self, and_true, true_and, FrameM.iff (Blk.beginDesc_frame _ _ _), FrameM.iff (Blk.refLockout_frame _ _ _)]
    | split
    | refine ⟨?_, ?_⟩
    | intro _
    | (with_reducible refine FrameM.foldI (fun _ _ => ?_) ?_)

theorem execRefClear_runs (w : Nat) (r : Nat) (s : State) :
    ∃ blk', execRefClear w r s = .next { s with blk := Blk.settle s.blk blk' } ∧ FrameM 0x401cb0008 (s.blk.pass w) blk' := by
  unfold execRefClear State.upd Blk.withDesc
  refine ⟨_, Eq.refl _, ?_⟩
  repeat' first
    | simp only [Nat.reduceAnd, FrameM.refl, FrameM.ite, FrameM.fold, implies_true, and_self, and_true, true_and, FrameM.iff (Blk.beginDesc_frame _ _ _), FrameM.iff (Blk.refClear_frame _ _ _)]
    | split
    | refine ⟨?_, ?_⟩
    | intro _
    | (with_reducible refine FrameM.foldI (fun _ _ => ?_) ?_)

theorem execRefClearWtr_runs (w : Nat) (r : Nat) (s : State) :
    ∃ blk', execRefClearWtr w r s = .next { s with blk := Blk.settle s.blk blk' } ∧ FrameM 0x401cb0008 (s.blk.pass w) blk' := by
  unfold execRefClearWtr State.upd Blk.withDesc
  refine ⟨_, Eq.refl _, ?_⟩
  repeat' first
    | simp only [Nat.reduceAnd, FrameM.refl, FrameM.ite, FrameM.fold, implies_true, and_self, and_true, true_and, FrameM.iff (Blk.beginDesc_frame _ _ _), FrameM.iff (Blk.refClearWtr_frame _ _ _)]
    | split
    | refine ⟨?_, ?_⟩
    | intro _
    | (with_reducible refine FrameM.foldI (fun _ _ => ?_) ?_)

theorem execRefSetPrio_runs (w : Nat) (r : Nat) (s : State) :
    ∃ blk', execRefSetPrio w r s = .next { s with blk := Blk.settle s.blk blk' } ∧ FrameM 0x401cb0018 (s.blk.pass w) blk' := by
  unfold execRefSetPrio State.upd Blk.withDesc
  refine ⟨_, Eq.refl _, ?_⟩
  repeat' first
    | simp only [Nat.reduceAnd, FrameM.refl, FrameM.ite, FrameM.fold, implies_true, and_self, and_true, true_and, FrameM.iff (Blk.beginDesc_frame _ _ _), FrameM.iff (Blk.refSetPrio_frame _ _ _)]
    | split
    | refine ⟨?_, ?_⟩
    | intro _
    | (with_reducible refine FrameM.foldI (fun _ _ => ?_) ?_)

theorem execRefAcceptPath_runs (w : Nat) (r : Nat) (s : State) :
    ∃ blk', execRefAcceptPath w r s = .next { s with blk := Blk.settle s.blk blk' } ∧ FrameM 0x501cb0008 (s.blk.pass w) blk' := by
  unfold execRefAcceptPath State.upd Blk.withDesc
  refine ⟨_, Eq.refl _, ?_⟩
  repeat' first
    | simp only [Nat.reduceAnd, FrameM.refl, FrameM.ite, FrameM.fold, implies_true, and_self, and_true, true_and, FrameM.iff (Blk.beginDesc_frame _ _ _), FrameM.iff (Blk.acceptPath_frame _ _ _)]
    | split
    | refine ⟨?_, ?_⟩
    | intro _
    | (with_reducible refine FrameM.foldI (fun _ _ => ?_) ?_)

theorem execRefSetBw_runs (w : Nat) (r : Nat) (s : State) :
    ∃ blk', execRefSetBw w r s = .next { s with blk := Blk.settle s.blk blk' } ∧ FrameM 0x400090018 (s.blk.pass w) blk' := by
  unfold execRefSetBw State.upd Blk.withDesc
  refine ⟨_, Eq.refl _, ?_⟩
  repeat' first
    | simp only [Nat.reduceAnd, FrameM.refl, FrameM.ite, FrameM.fold, implies_true, and_self, and_true, true_and, FrameM.iff (Blk.beginDesc_frame _ _ _), FrameM.iff (Blk.refSetBw_frame _ _ _)]
    | split
    | refine ⟨?_, ?_⟩
    | intro _
    | (with_reducible refine FrameM.foldI (fun _ _ => ?_) ?_)

theorem execRefSetMode_runs (w : Nat) (r : Nat) (s : State) :
    ∃ blk', execRefSetMode w r s = .next { s with blk := Blk.settle s.blk blk' } ∧ FrameM 0x401cb0018 (s.blk.pass w) blk' := by
  unfold execRefSetMode State.upd Blk.withDesc
  refine ⟨_, Eq.refl _, ?_⟩
  repeat' first
    | simp only [Nat.reduceAnd, FrameM.refl, FrameM.ite, FrameM.fold, implies_true, and_self, and_true, true_and, FrameM.iff (Blk.beginDesc_frame _ _ _), FrameM.iff (Blk.refSetMode_frame _ _ _)]
    | split
    | refine ⟨?_, ?_⟩
    | intro _
    | (with_reducible refine FrameM.foldI (fun _ _ => ?_) ?_)

theorem execTempSample_runs (w : Nat) (ok : Bool) (t : Int) (s : State) :
    ∃ blk', execTempSample w ok t s = .next { s with blk := Blk.settle s.blk blk' } ∧ FrameM 0x7fdffbfbc (s.blk.pass w) blk' := by
  unfold execTempSample State.upd
  refine ⟨_, Eq.refl _, ?_⟩
  repeat' first
    | simp only [Nat.reduceAnd, FrameM.refl, FrameM.ite, FrameM.fold, implies_true, and_self, and_true, true_and, FrameM.iff (Blk.srcSync_frame _), FrameM.iff (Blk.tempGoodAt_frame _ _), FrameM.iff (Blk.tempBadAt_frame _)]
    | split
    | refine ⟨?_, ?_⟩
    | intro _
    | (with_reducible refine FrameM.foldI (fun _ _ => ?_) ?_)

theorem execHeelLearnSample_runs (w : Nat) (s : State) :
    ∃ blk', execHeelLearnSample w s = .next { s with blk := Blk.settle s.blk blk' } ∧ FrameM 0x800010 (s.blk.pass w) blk' := by
  unfold execHeelLearnSample State.upd
  refine ⟨_, Eq.refl _, ?_⟩
  repeat' first
    | simp only [Nat.reduceAnd, FrameM.refl, FrameM.ite, FrameM.fold, implies_true, and_self, and_true, true_and, FrameM.iff (Blk.heelLearn_frame _)]
    | split
    | refine ⟨?_, ?_⟩
    | intro _
    | (with_reducible refine FrameM.foldI (fun _ _ => ?_) ?_)

theorem execOutputRealign_runs (w : Nat) (r : Nat) (s : State) :
    ∃ blk', execOutputRealign w r s = .next { s with blk := Blk.settle s.blk blk' } ∧ FrameM 0x402090008 (s.blk.pass w) blk' := by
  unfold execOutputRealign State.upd Blk.withDesc
  refine ⟨_, Eq.refl _, ?_⟩
  repeat' first
    | simp only [Nat.reduceAnd, FrameM.refl, FrameM.ite, FrameM.fold, implies_true, and_self, and_true, true_and, FrameM.iff (Blk.beginDesc_frame _ _ _), FrameM.iff (Blk.outputRealign_frame _ _ _)]
    | split
    | refine ⟨?_, ?_⟩
    | intro _
    | (with_reducible refine FrameM.foldI (fun _ _ => ?_) ?_)

theorem execRealignStart_runs (w : Nat) (u : Nat) (s : State) :
    ∃ blk', execRealignStart w u s = .next { s with blk := Blk.settle s.blk blk' } ∧ FrameM 0x402090008 (s.blk.pass w) blk' := by
  unfold execRealignStart State.upd
  refine ⟨_, Eq.refl _, ?_⟩
  repeat' first
    | simp only [Nat.reduceAnd, FrameM.refl, FrameM.ite, FrameM.fold, implies_true, and_self, and_true, true_and, FrameM.iff (Blk.alignStart_frame _ _)]
    | split
    | refine ⟨?_, ?_⟩
    | intro _
    | (with_reducible refine FrameM.foldI (fun _ _ => ?_) ?_)

theorem execRealignDone_runs (w : Nat) (u : Nat) (s : State) :
    ∃ blk', execRealignDone w u s = .next { s with blk := Blk.settle s.blk blk' } ∧ FrameM 0x402090008 (s.blk.pass w) blk' := by
  unfold execRealignDone State.upd
  refine ⟨_, Eq.refl _, ?_⟩
  repeat' first
    | simp only [Nat.reduceAnd, FrameM.refl, FrameM.ite, FrameM.fold, implies_true, and_self, and_true, true_and, FrameM.iff (Blk.alignDone_frame _ _)]
    | split
    | refine ⟨?_, ?_⟩
    | intro _
    | (with_reducible refine FrameM.foldI (fun _ _ => ?_) ?_)

theorem execFirstAlign_runs (w : Nat) (u : Nat) (s : State) :
    ∃ blk', execFirstAlign w u s = .next { s with blk := Blk.settle s.blk blk' } ∧ FrameM 0x402090008 (s.blk.pass w) blk' := by
  unfold execFirstAlign State.upd
  refine ⟨_, Eq.refl _, ?_⟩
  repeat' first
    | simp only [Nat.reduceAnd, FrameM.refl, FrameM.ite, FrameM.fold, implies_true, and_self, and_true, true_and, FrameM.iff (Blk.alignStart_frame _ _)]
    | split
    | refine ⟨?_, ?_⟩
    | intro _
    | (with_reducible refine FrameM.foldI (fun _ _ => ?_) ?_)

theorem execEyeletEdge_runs (w : Nat) (e : Nat) (high : Bool) (held : Nat) (pos : Nat) (phase : Nat) (s : State) :
    ∃ blk', execEyeletEdge w e high held pos phase s = .next { s with blk := Blk.settle s.blk blk' } ∧ FrameM 0x7fe7fbfbc (s.blk.pass w) blk' := by
  unfold execEyeletEdge State.upd
  refine ⟨_, Eq.refl _, ?_⟩
  repeat' first
    | simp only [Nat.reduceAnd, FrameM.refl, FrameM.ite, FrameM.fold, implies_true, and_self, and_true, true_and, FrameM.iff (Blk.txRetry_frame _), FrameM.iff (Blk.eyeletEdge_frame _ _ _ _ _ _)]
    | split
    | refine ⟨?_, ?_⟩
    | intro _
    | (with_reducible refine FrameM.foldI (fun _ _ => ?_) ?_)

theorem execMismatch_runs (w : Nat) (sensed : Nat) (s : State) :
    ∃ blk', execMismatch w sensed s = .next { s with blk := Blk.settle s.blk blk' } ∧ FrameM 0x7fc7fbfbc (s.blk.pass w) blk' := by
  unfold execMismatch State.upd
  refine ⟨_, Eq.refl _, ?_⟩
  repeat' first
    | simp only [Nat.reduceAnd, FrameM.refl, FrameM.ite, FrameM.fold, implies_true, and_self, and_true, true_and, FrameM.iff (FrameM.upd_eyes _), FrameM.iff (Blk.bankCheck_frame _)]
    | split
    | refine ⟨?_, ?_⟩
    | intro _
    | (with_reducible refine FrameM.foldI (fun _ _ => ?_) ?_)

theorem execStuckOn_runs (w : Nat) (e : Nat) (s : State) :
    ∃ blk', execStuckOn w e s = .next { s with blk := Blk.settle s.blk blk' } ∧ FrameM 0x4000010 (s.blk.pass w) blk' := by
  unfold execStuckOn State.upd
  refine ⟨_, Eq.refl _, ?_⟩
  repeat' first
    | simp only [Nat.reduceAnd, FrameM.refl, FrameM.ite, FrameM.fold, implies_true, and_self, and_true, true_and, FrameM.iff (Blk.awlStatus_frame _ _ _ _ _), FrameM.iff (Blk.setEye_frame _ _ _)]
    | split
    | refine ⟨?_, ?_⟩
    | intro _
    | (with_reducible refine FrameM.foldI (fun _ _ => ?_) ?_)

theorem execChatOff_runs (w : Nat) (e : Nat) (s : State) :
    ∃ blk', execChatOff w e s = .next { s with blk := Blk.settle s.blk blk' } ∧ FrameM 0x4000010 (s.blk.pass w) blk' := by
  unfold execChatOff State.upd
  refine ⟨_, Eq.refl _, ?_⟩
  repeat' first
    | simp only [Nat.reduceAnd, FrameM.refl, FrameM.ite, FrameM.fold, implies_true, and_self, and_true, true_and, FrameM.iff (Blk.chatEnd_frame _ _)]
    | split
    | refine ⟨?_, ?_⟩
    | intro _
    | (with_reducible refine FrameM.foldI (fun _ _ => ?_) ?_)

theorem execNostop_runs (w : Nat) (e : Nat) (s : State) :
    ∃ blk', execNostop w e s = .next { s with blk := Blk.settle s.blk blk' } ∧ FrameM 0x4000010 (s.blk.pass w) blk' := by
  unfold execNostop State.upd
  refine ⟨_, Eq.refl _, ?_⟩
  repeat' first
    | simp only [Nat.reduceAnd, FrameM.refl, FrameM.ite, FrameM.fold, implies_true, and_self, and_true, true_and, FrameM.iff (Blk.pairExpire_frame _ _)]
    | split
    | refine ⟨?_, ?_⟩
    | intro _
    | (with_reducible refine FrameM.foldI (fun _ _ => ?_) ?_)

theorem execFreqGateEnd_runs (w : Nat) (e : Nat) (s : State) :
    ∃ blk', execFreqGateEnd w e s = .next { s with blk := Blk.settle s.blk blk' } ∧ FrameM 0x4000010 (s.blk.pass w) blk' := by
  unfold execFreqGateEnd State.upd
  refine ⟨_, Eq.refl _, ?_⟩
  repeat' first
    | simp only [Nat.reduceAnd, FrameM.refl, FrameM.ite, FrameM.fold, implies_true, and_self, and_true, true_and, FrameM.iff (Blk.gateEnd_frame _ _)]
    | split
    | refine ⟨?_, ?_⟩
    | intro _
    | (with_reducible refine FrameM.foldI (fun _ _ => ?_) ?_)

theorem execTbLost_runs (w : Nat) (back : Nat) (s : State) :
    ∃ blk', execTbLost w back s = .next { s with blk := Blk.settle s.blk blk' } ∧ FrameM 0x4020018 (s.blk.pass w) blk' := by
  unfold execTbLost State.upd
  refine ⟨_, Eq.refl _, ?_⟩
  repeat' first
    | simp only [Nat.reduceAnd, FrameM.refl, FrameM.ite, FrameM.fold, implies_true, and_self, and_true, true_and, FrameM.iff (Blk.tbLost_frame _ _)]
    | split
    | refine ⟨?_, ?_⟩
    | intro _
    | (with_reducible refine FrameM.foldI (fun _ _ => ?_) ?_)

theorem execTbBack_runs (w : Nat) (s : State) :
    ∃ blk', execTbBack w s = .next { s with blk := Blk.settle s.blk blk' } ∧ FrameM 0x4021008 (s.blk.pass w) blk' := by
  unfold execTbBack State.upd
  refine ⟨_, Eq.refl _, ?_⟩
  repeat' first
    | simp only [Nat.reduceAnd, FrameM.refl, FrameM.ite, FrameM.fold, implies_true, and_self, and_true, true_and, FrameM.iff (FrameM.upd_rst_eyes _), FrameM.iff (Blk.tbRecord_frame _ _ _)]
    | split
    | refine ⟨?_, ?_⟩
    | intro _
    | (with_reducible refine FrameM.foldI (fun _ _ => ?_) ?_)

theorem execAwlRecordDeliver_runs (w : Nat) (e : Nat) (s : State) :
    ∃ blk', execAwlRecordDeliver w e s = .next { s with blk := Blk.settle s.blk blk' } ∧ FrameM 0x4020018 (s.blk.pass w) blk' := by
  unfold execAwlRecordDeliver State.upd
  refine ⟨_, Eq.refl _, ?_⟩
  repeat' first
    | simp only [Nat.reduceAnd, FrameM.refl, FrameM.ite, FrameM.fold, implies_true, and_self, and_true, true_and, FrameM.iff (Blk.awlDeliver_frame _ _), FrameM.iff (Blk.pairAll_frame _)]
    | split
    | refine ⟨?_, ?_⟩
    | intro _
    | (with_reducible refine FrameM.foldI (fun _ _ => ?_) ?_)

theorem execPinStart_runs (w : Nat) (f : Nat) (s : State) :
    ∃ blk', execPinStart w f s = .next { s with blk := Blk.settle s.blk blk' } ∧ FrameM 0x4000000 (s.blk.pass w) blk' := by
  unfold execPinStart State.upd
  refine ⟨_, Eq.refl _, ?_⟩
  repeat' first
    | simp only [Nat.reduceAnd, FrameM.refl, FrameM.ite, FrameM.fold, implies_true, and_self, and_true, true_and, FrameM.iff (Blk.calStart_frame _ _)]
    | split
    | refine ⟨?_, ?_⟩
    | intro _
    | (with_reducible refine FrameM.foldI (fun _ _ => ?_) ?_)

theorem execCalPeriodic_runs (w : Nat) (tj : Int) (s : State) :
    ∃ blk', execCalPeriodic w tj s = .next { s with blk := Blk.settle s.blk blk' } ∧ FrameM 0x1004000000 (s.blk.pass w) blk' := by
  unfold execCalPeriodic State.upd
  refine ⟨_, Eq.refl _, ?_⟩
  repeat' first
    | simp only [Nat.reduceAnd, FrameM.refl, FrameM.ite, FrameM.fold, implies_true, and_self, and_true, true_and, FrameM.iff (FrameM.upd_tj _), FrameM.iff (Blk.rotStart_frame _)]
    | split
    | refine ⟨?_, ?_⟩
    | intro _
    | (with_reducible refine FrameM.foldI (fun _ _ => ?_) ?_)

theorem execCalStepDone_runs (w : Nat) (edge : Bool) (diff : Nat) (dly : Nat) (s : State) :
    ∃ blk', execCalStepDone w edge diff dly s = .next { s with blk := Blk.settle s.blk blk' } ∧ FrameM 0x7fc7fbfbc (s.blk.pass w) blk' := by
  unfold execCalStepDone State.upd
  refine ⟨_, Eq.refl _, ?_⟩
  repeat' first
    | simp only [Nat.reduceAnd, FrameM.refl, FrameM.ite, FrameM.fold, implies_true, and_self, and_true, true_and, FrameM.iff (Blk.calStep_frame _ _ _ _)]
    | split
    | refine ⟨?_, ?_⟩
    | intro _
    | (with_reducible refine FrameM.foldI (fun _ _ => ?_) ?_)

theorem execFrameReceived_runs (w : Nat) (p : Nat) (bs : Bytes) (age : Nat) (var : Int) (bad : Bool) (s : State) :
    ∃ blk', execFrameReceived w p bs age var bad s = .next { s with blk := Blk.settle s.blk blk' } ∧ FrameM 0x7ffffbfbc (s.blk.pass w) blk' := by
  unfold execFrameReceived State.upd
  refine ⟨_, Eq.refl _, ?_⟩
  repeat' first
    | simp only [Nat.reduceAnd, FrameM.refl, FrameM.ite, FrameM.fold, implies_true, and_self, and_true, true_and, FrameM.iff (Blk.frameRx_frame _ _ _ _ _ _)]
    | split
    | refine ⟨?_, ?_⟩
    | intro _
    | (with_reducible refine FrameM.foldI (fun _ _ => ?_) ?_)

theorem execLinkChange_runs (w : Nat) (p : Nat) (lock : Bool) (fec : Bool) (aligned : Bool) (localFault : Bool) (remoteFault : Bool) (lpi : Bool) (s : State) :
    ∃ blk', execLinkChange w p lock fec aligned localFault remoteFault lpi s = .next { s with blk := Blk.settle s.blk blk' } ∧ FrameM 0x489eb0038 (s.blk.pass w) blk' := by
  unfold execLinkChange State.upd
  refine ⟨_, Eq.refl _, ?_⟩
  repeat' first
    | simp only [Nat.reduceAnd, FrameM.refl, FrameM.ite, FrameM.fold, implies_true, and_self, and_true, true_and, FrameM.iff (Blk.txRetry_frame _), FrameM.iff (Blk.evalBound_frame _ _ _), FrameM.iff (Blk.pcsChange_frame _ _ _)]
    | split
    | refine ⟨?_, ?_⟩
    | intro _
    | (with_reducible refine FrameM.foldI (fun _ _ => ?_) ?_)

theorem execPauseExpire_runs (w : Nat) (p : Nat) (s : State) :
    ∃ blk', execPauseExpire w p s = .next { s with blk := Blk.settle s.blk blk' } ∧ FrameM 0x80000000 (s.blk.pass w) blk' := by
  unfold execPauseExpire State.upd
  refine ⟨_, Eq.refl _, ?_⟩
  repeat' first
    | simp only [Nat.reduceAnd, FrameM.refl, FrameM.ite, FrameM.fold, implies_true, and_self, and_true, true_and, FrameM.iff (Blk.pauseOver_frame _ _)]
    | split
    | refine ⟨?_, ?_⟩
    | intro _
    | (with_reducible refine FrameM.foldI (fun _ _ => ?_) ?_)

theorem execStorm_runs (w : Nat) (p : Nat) (s : State) :
    ∃ blk', execStorm w p s = .next { s with blk := Blk.settle s.blk blk' } ∧ FrameM 0x7fc7fbfbc (s.blk.pass w) blk' := by
  unfold execStorm State.upd
  refine ⟨_, Eq.refl _, ?_⟩
  repeat' first
    | simp only [Nat.reduceAnd, FrameM.refl, FrameM.ite, FrameM.fold, implies_true, and_self, and_true, true_and, FrameM.iff (Blk.stormBegin_frame _ _)]
    | split
    | refine ⟨?_, ?_⟩
    | intro _
    | (with_reducible refine FrameM.foldI (fun _ _ => ?_) ?_)

theorem execStormEnd_runs (w : Nat) (p : Nat) (s : State) :
    ∃ blk', execStormEnd w p s = .next { s with blk := Blk.settle s.blk blk' } ∧ FrameM 0x8000000 (s.blk.pass w) blk' := by
  unfold execStormEnd State.upd
  refine ⟨_, Eq.refl _, ?_⟩
  repeat' first
    | simp only [Nat.reduceAnd, FrameM.refl, FrameM.ite, FrameM.fold, implies_true, and_self, and_true, true_and, FrameM.iff (Blk.setPort_frame _ _ _)]
    | split
    | refine ⟨?_, ?_⟩
    | intro _
    | (with_reducible refine FrameM.foldI (fun _ _ => ?_) ?_)

theorem execFrameStart_runs (w : Nat) (p : Nat) (s : State) :
    ∃ blk', execFrameStart w p s = .next { s with blk := Blk.settle s.blk blk' } ∧ FrameM 0x588290028 (s.blk.pass w) blk' := by
  unfold execFrameStart State.upd
  refine ⟨_, Eq.refl _, ?_⟩
  repeat' first
    | simp only [Nat.reduceAnd, FrameM.refl, FrameM.ite, FrameM.fold, implies_true, and_self, and_true, true_and, FrameM.iff (Blk.txRetry_frame _), FrameM.iff (Blk.frameStart_frame _ _)]
    | split
    | refine ⟨?_, ?_⟩
    | intro _
    | (with_reducible refine FrameM.foldI (fun _ _ => ?_) ?_)

theorem execLpiEnter_runs (w : Nat) (p : Nat) (s : State) :
    ∃ blk', execLpiEnter w p s = .next { s with blk := Blk.settle s.blk blk' } ∧ FrameM 0x8000020 (s.blk.pass w) blk' := by
  unfold execLpiEnter State.upd
  refine ⟨_, Eq.refl _, ?_⟩
  repeat' first
    | simp only [Nat.reduceAnd, FrameM.refl, FrameM.ite, FrameM.fold, implies_true, and_self, and_true, true_and, FrameM.iff (Blk.inc_frame _ _), FrameM.iff (Blk.setPort_frame _ _ _)]
    | split
    | refine ⟨?_, ?_⟩
    | intro _
    | (with_reducible refine FrameM.foldI (fun _ _ => ?_) ?_)

theorem execLpiWake_runs (w : Nat) (p : Nat) (s : State) :
    ∃ blk', execLpiWake w p s = .next { s with blk := Blk.settle s.blk blk' } ∧ FrameM 0x8000000 (s.blk.pass w) blk' := by
  unfold execLpiWake State.upd
  refine ⟨_, Eq.refl _, ?_⟩
  repeat' first
    | simp only [Nat.reduceAnd, FrameM.refl, FrameM.ite, FrameM.fold, implies_true, and_self, and_true, true_and, FrameM.iff (Blk.lpiWake_frame _ _)]
    | split
    | refine ⟨?_, ?_⟩
    | intro _
    | (with_reducible refine FrameM.foldI (fun _ _ => ?_) ?_)

theorem execQlTimeout_runs (w : Nat) (p : Nat) (s : State) :
    ∃ blk', execQlTimeout w p s = .next { s with blk := Blk.settle s.blk blk' } ∧ FrameM 0x9c20008 (s.blk.pass w) blk' := by
  unfold execQlTimeout State.upd
  refine ⟨_, Eq.refl _, ?_⟩
  repeat' first
    | simp only [Nat.reduceAnd, FrameM.refl, FrameM.ite, FrameM.fold, implies_true, and_self, and_true, true_and, FrameM.iff (Blk.evalBound_frame _ _ _), FrameM.iff (Blk.setPort_frame _ _ _)]
    | split
    | refine ⟨?_, ?_⟩
    | intro _
    | (with_reducible refine FrameM.foldI (fun _ _ => ?_) ?_)

theorem execEsmcTx_runs (w : Nat) (p : Nat) (s : State) :
    ∃ blk', execEsmcTx w p s = .next { s with blk := Blk.settle s.blk blk' } ∧ FrameM 0x408000000 (s.blk.pass w) blk' := by
  unfold execEsmcTx State.upd
  refine ⟨_, Eq.refl _, ?_⟩
  repeat' first
    | simp only [Nat.reduceAnd, FrameM.refl, FrameM.ite, FrameM.fold, implies_true, and_self, and_true, true_and, FrameM.iff (Blk.esmcTx_frame _ _)]
    | split
    | refine ⟨?_, ?_⟩
    | intro _
    | (with_reducible refine FrameM.foldI (fun _ _ => ?_) ?_)

theorem execGclCommit_runs (w : Nat) (f : Nat) (p : Nat) (s : State) :
    ∃ blk', execGclCommit w f p s = .next { s with blk := Blk.settle s.blk blk' } ∧ FrameM 0x488200030 (s.blk.pass w) blk' := by
  unfold execGclCommit State.upd
  refine ⟨_, Eq.refl _, ?_⟩
  repeat' first
    | simp only [Nat.reduceAnd, FrameM.refl, FrameM.ite, FrameM.fold, implies_true, and_self, and_true, true_and, FrameM.iff (Blk.gateCommit_frame _ _ _)]
    | split
    | refine ⟨?_, ?_⟩
    | intro _
    | (with_reducible refine FrameM.foldI (fun _ _ => ?_) ?_)

theorem execGclAbort_runs (w : Nat) (f : Nat) (p : Nat) (s : State) :
    ∃ blk', execGclAbort w f p s = .next { s with blk := Blk.settle s.blk blk' } ∧ FrameM 0x8000000 (s.blk.pass w) blk' := by
  unfold execGclAbort State.upd
  refine ⟨_, Eq.refl _, ?_⟩
  repeat' first
    | simp only [Nat.reduceAnd, FrameM.refl, FrameM.ite, FrameM.fold, implies_true, and_self, and_true, true_and, FrameM.iff (Blk.gateAbort_frame _ _ _)]
    | split
    | refine ⟨?_, ?_⟩
    | intro _
    | (with_reducible refine FrameM.foldI (fun _ _ => ?_) ?_)

theorem execPrtGclDataAccess_runs (w : Nat) (f : Nat) (p : Nat) (write : Bool) (v : Nat) (s : State) :
    ∃ blk', execPrtGclDataAccess w f p write v s = .next { s with blk := Blk.settle s.blk blk' } ∧ FrameM 0x8000018 (s.blk.pass w) blk' := by
  unfold execPrtGclDataAccess State.upd
  refine ⟨_, Eq.refl _, ?_⟩
  repeat' first
    | simp only [Nat.reduceAnd, FrameM.refl, FrameM.ite, FrameM.fold, implies_true, and_self, and_true, true_and, FrameM.iff (Blk.gateWrite_frame _ _ _ _), FrameM.iff (Blk.put_frame _ _), FrameM.iff (Blk.gateRead_frame _ _ _)]
    | split
    | refine ⟨?_, ?_⟩
    | intro _
    | (with_reducible refine FrameM.foldI (fun _ _ => ?_) ?_)

theorem execTxFrame_runs (w : Nat) (r : Nat) (data : Bytes) (s : State) :
    ∃ blk', execTxFrame w r data s = .next { s with blk := Blk.settle s.blk blk' } ∧ FrameM 0x408290028 (s.blk.pass w) blk' := by
  unfold execTxFrame State.upd Blk.withDesc
  refine ⟨_, Eq.refl _, ?_⟩
  repeat' first
    | simp only [Nat.reduceAnd, FrameM.refl, FrameM.ite, FrameM.fold, implies_true, and_self, and_true, true_and, FrameM.iff (Blk.beginDesc_frame _ _ _), FrameM.iff (Blk.txFrame_frame _ _ _ _)]
    | split
    | refine ⟨?_, ?_⟩
    | intro _
    | (with_reducible refine FrameM.foldI (fun _ _ => ?_) ?_)

theorem execTxFrameDone_runs (w : Nat) (s : State) :
    ∃ blk', execTxFrameDone w s = .next { s with blk := Blk.settle s.blk blk' } ∧ FrameM 0x400090008 (s.blk.pass w) blk' := by
  unfold execTxFrameDone State.upd
  refine ⟨_, Eq.refl _, ?_⟩
  repeat' first
    | simp only [Nat.reduceAnd, FrameM.refl, FrameM.ite, FrameM.fold, implies_true, and_self, and_true, true_and, FrameM.iff (FrameM.upd_flow _), FrameM.iff (Blk.complete_frame _ _ _ _)]
    | split
    | refine ⟨?_, ?_⟩
    | intro _
    | (with_reducible refine FrameM.foldI (fun _ _ => ?_) ?_)

theorem execRxBuffer_runs (w : Nat) (r : Nat) (s : State) :
    ∃ blk', execRxBuffer w r s = .next { s with blk := Blk.settle s.blk blk' } ∧ FrameM 0x400090008 (s.blk.pass w) blk' := by
  unfold execRxBuffer State.upd Blk.withDesc
  refine ⟨_, Eq.refl _, ?_⟩
  repeat' first
    | simp only [Nat.reduceAnd, FrameM.refl, FrameM.ite, FrameM.fold, implies_true, and_self, and_true, true_and, FrameM.iff (Blk.beginDesc_frame _ _ _), FrameM.iff (Blk.rxPost_frame _ _ _)]
    | split
    | refine ⟨?_, ?_⟩
    | intro _
    | (with_reducible refine FrameM.foldI (fun _ _ => ?_) ?_)

theorem execExcDeliver_runs (w : Nat) (s : State) :
    ∃ blk', execExcDeliver w s = .next { s with blk := Blk.settle s.blk blk' } ∧ FrameM 0x410090028 (s.blk.pass w) blk' := by
  unfold execExcDeliver State.upd
  refine ⟨_, Eq.refl _, ?_⟩
  repeat' first
    | simp only [Nat.reduceAnd, FrameM.refl, FrameM.ite, FrameM.fold, implies_true, and_self, and_true, true_and, FrameM.iff (Blk.excDeliver_frame _)]
    | split
    | refine ⟨?_, ?_⟩
    | intro _
    | (with_reducible refine FrameM.foldI (fun _ _ => ?_) ?_)

theorem execDispatchAssign_runs (w : Nat) (s : State) :
    ∃ blk', execDispatchAssign w s = .next { s with blk := Blk.settle s.blk blk' } ∧ FrameM 0x4f0080020 (s.blk.pass w) blk' := by
  unfold execDispatchAssign State.upd
  refine ⟨_, Eq.refl _, ?_⟩
  repeat' first
    | simp only [Nat.reduceAnd, FrameM.refl, FrameM.ite, FrameM.fold, implies_true, and_self, and_true, true_and, FrameM.iff (Blk.dispatch_frame _)]
    | split
    | refine ⟨?_, ?_⟩
    | intro _
    | (with_reducible refine FrameM.foldI (fun _ _ => ?_) ?_)

theorem execEngineInvoke_runs (w : Nat) (lane : Nat) (hit : Bool) (s : State) :
    ∃ blk', execEngineInvoke w lane hit s = .next { s with blk := Blk.settle s.blk blk' } ∧ FrameM 0x4f8290038 (s.blk.pass w) blk' := by
  unfold execEngineInvoke State.upd
  refine ⟨_, Eq.refl _, ?_⟩
  repeat' first
    | simp only [Nat.reduceAnd, FrameM.refl, FrameM.ite, FrameM.fold, implies_true, and_self, and_true, true_and, FrameM.iff (Blk.txRetry_frame _), FrameM.iff (Blk.invoke_frame _ _ _)]
    | split
    | refine ⟨?_, ?_⟩
    | intro _
    | (with_reducible refine FrameM.foldI (fun _ _ => ?_) ?_)

theorem execBucketArrive_runs (w : Nat) (lane : Nat) (s : State) :
    ∃ blk', execBucketArrive w lane s = .next { s with blk := Blk.settle s.blk blk' } ∧ FrameM 0xc0000030 (s.blk.pass w) blk' := by
  unfold execBucketArrive State.upd
  refine ⟨_, Eq.refl _, ?_⟩
  repeat' first
    | simp only [Nat.reduceAnd, FrameM.refl, FrameM.ite, FrameM.fold, implies_true, and_self, and_true, true_and, FrameM.iff (Blk.decideReq_frame _ _ _)]
    | split
    | refine ⟨?_, ?_⟩
    | intro _
    | (with_reducible refine FrameM.foldI (fun _ _ => ?_) ?_)

theorem execPatternReturn_runs (w : Nat) (lane : Nat) (code : Nat) (instr : Nat) (scratch : Bytes) (s : State) :
    ∃ blk', execPatternReturn w lane code instr scratch s = .next { s with blk := Blk.settle s.blk blk' } ∧ FrameM 0x7fc7fbfbc (s.blk.pass w) blk' := by
  unfold execPatternReturn State.upd
  refine ⟨_, Eq.refl _, ?_⟩
  repeat' first
    | simp only [Nat.reduceAnd, FrameM.refl, FrameM.ite, FrameM.fold, implies_true, and_self, and_true, true_and, FrameM.iff (Blk.txRetry_frame _), FrameM.iff (Blk.patReturn_frame _ _ _ _ _)]
    | split
    | refine ⟨?_, ?_⟩
    | intro _
    | (with_reducible refine FrameM.foldI (fun _ _ => ?_) ?_)

theorem execOverrun_runs (w : Nat) (lane : Nat) (instr : Nat) (scratch : Bytes) (s : State) :
    ∃ blk', execOverrun w lane instr scratch s = .next { s with blk := Blk.settle s.blk blk' } ∧ FrameM 0x7fc7fbfbc (s.blk.pass w) blk' := by
  unfold execOverrun State.upd
  refine ⟨_, Eq.refl _, ?_⟩
  repeat' first
    | simp only [Nat.reduceAnd, FrameM.refl, FrameM.ite, FrameM.fold, implies_true, and_self, and_true, true_and, FrameM.iff (Blk.txRetry_frame _), FrameM.iff (Blk.overrunAt_frame _ _ _ _)]
    | split
    | refine ⟨?_, ?_⟩
    | intro _
    | (with_reducible refine FrameM.foldI (fun _ _ => ?_) ?_)

theorem execBucketLeaseExpire_runs (w : Nat) (lane : Nat) (s : State) :
    ∃ blk', execBucketLeaseExpire w lane s = .next { s with blk := Blk.settle s.blk blk' } ∧ FrameM 0x7fc7fbfbc (s.blk.pass w) blk' := by
  unfold execBucketLeaseExpire State.upd
  refine ⟨_, Eq.refl _, ?_⟩
  repeat' first
    | simp only [Nat.reduceAnd, FrameM.refl, FrameM.ite, FrameM.fold, implies_true, and_self, and_true, true_and, FrameM.iff (Blk.txRetry_frame _), FrameM.iff (Blk.leaseExpire_frame _ _)]
    | split
    | refine ⟨?_, ?_⟩
    | intro _
    | (with_reducible refine FrameM.foldI (fun _ _ => ?_) ?_)

theorem execCloserCommit_runs (w : Nat) (p : Nat) (s : State) :
    ∃ blk', execCloserCommit w p s = .next { s with blk := Blk.settle s.blk blk' } ∧ FrameM 0x488290028 (s.blk.pass w) blk' := by
  unfold execCloserCommit State.upd
  refine ⟨_, Eq.refl _, ?_⟩
  repeat' first
    | simp only [Nat.reduceAnd, FrameM.refl, FrameM.ite, FrameM.fold, implies_true, and_self, and_true, true_and, FrameM.iff (Blk.txRetry_frame _), FrameM.iff (Blk.closerCommit_frame _ _)]
    | split
    | refine ⟨?_, ?_⟩
    | intro _
    | (with_reducible refine FrameM.foldI (fun _ _ => ?_) ?_)

theorem execFairEpoch_runs (w : Nat) (s : State) :
    ∃ blk', execFairEpoch w s = .next { s with blk := Blk.settle s.blk blk' } ∧ FrameM 0x10000020 (s.blk.pass w) blk' := by
  unfold execFairEpoch State.upd
  refine ⟨_, Eq.refl _, ?_⟩
  repeat' first
    | simp only [Nat.reduceAnd, FrameM.refl, FrameM.ite, FrameM.fold, implies_true, and_self, and_true, true_and, FrameM.iff (Blk.fairRoll_frame _)]
    | split
    | refine ⟨?_, ?_⟩
    | intro _
    | (with_reducible refine FrameM.foldI (fun _ _ => ?_) ?_)

theorem execAgeShed_runs (w : Nat) (s : State) :
    ∃ blk', execAgeShed w s = .next { s with blk := Blk.settle s.blk blk' } ∧ FrameM 0x418290028 (s.blk.pass w) blk' := by
  unfold execAgeShed State.upd
  refine ⟨_, Eq.refl _, ?_⟩
  repeat' first
    | simp only [Nat.reduceAnd, FrameM.refl, FrameM.ite, FrameM.fold, implies_true, and_self, and_true, true_and, FrameM.iff (Blk.txRetry_frame _), FrameM.iff (Blk.ageShed_frame _)]
    | split
    | refine ⟨?_, ?_⟩
    | intro _
    | (with_reducible refine FrameM.foldI (fun _ _ => ?_) ?_)

theorem execAgeingScan_runs (w : Nat) (s : State) :
    ∃ blk', execAgeingScan w s = .next { s with blk := Blk.settle s.blk blk' } ∧ FrameM 0x20000020 (s.blk.pass w) blk' := by
  unfold execAgeingScan State.upd
  refine ⟨_, Eq.refl _, ?_⟩
  repeat' first
    | simp only [Nat.reduceAnd, FrameM.refl, FrameM.ite, FrameM.fold, implies_true, and_self, and_true, true_and, FrameM.iff (Blk.scanStart_frame _ _)]
    | split
    | refine ⟨?_, ?_⟩
    | intro _
    | (with_reducible refine FrameM.foldI (fun _ _ => ?_) ?_)

theorem execCtLookup_runs (w : Nat) (r : Nat) (s : State) :
    ∃ blk', execCtLookup w r s = .next { s with blk := Blk.settle s.blk blk' } ∧ FrameM 0x420090038 (s.blk.pass w) blk' := by
  unfold execCtLookup State.upd Blk.withDesc
  refine ⟨_, Eq.refl _, ?_⟩
  repeat' first
    | simp only [Nat.reduceAnd, FrameM.refl, FrameM.ite, FrameM.fold, implies_true, and_self, and_true, true_and, FrameM.iff (Blk.beginDesc_frame _ _ _), FrameM.iff (Blk.ctRowOp_frame _ _ _)]
    | split
    | refine ⟨?_, ?_⟩
    | intro _
    | (with_reducible refine FrameM.foldI (fun _ _ => ?_) ?_)

theorem execCtUpsert_runs (w : Nat) (r : Nat) (s : State) :
    ∃ blk', execCtUpsert w r s = .next { s with blk := Blk.settle s.blk blk' } ∧ FrameM 0x420090038 (s.blk.pass w) blk' := by
  unfold execCtUpsert State.upd
  refine ⟨_, Eq.refl _, ?_⟩
  repeat' first
    | simp only [Nat.reduceAnd, FrameM.refl, FrameM.ite, FrameM.fold, implies_true, and_self, and_true, true_and, FrameM.iff (Blk.ctRow_frame _ _ _)]
    | split
    | refine ⟨?_, ?_⟩
    | intro _
    | (with_reducible refine FrameM.foldI (fun _ _ => ?_) ?_)

theorem execCtDelete_runs (w : Nat) (r : Nat) (s : State) :
    ∃ blk', execCtDelete w r s = .next { s with blk := Blk.settle s.blk blk' } ∧ FrameM 0x420090038 (s.blk.pass w) blk' := by
  unfold execCtDelete State.upd
  refine ⟨_, Eq.refl _, ?_⟩
  repeat' first
    | simp only [Nat.reduceAnd, FrameM.refl, FrameM.ite, FrameM.fold, implies_true, and_self, and_true, true_and, FrameM.iff (Blk.ctRow_frame _ _ _)]
    | split
    | refine ⟨?_, ?_⟩
    | intro _
    | (with_reducible refine FrameM.foldI (fun _ _ => ?_) ?_)

theorem execCtResetCounts_runs (w : Nat) (r : Nat) (s : State) :
    ∃ blk', execCtResetCounts w r s = .next { s with blk := Blk.settle s.blk blk' } ∧ FrameM 0x420090038 (s.blk.pass w) blk' := by
  unfold execCtResetCounts State.upd
  refine ⟨_, Eq.refl _, ?_⟩
  repeat' first
    | simp only [Nat.reduceAnd, FrameM.refl, FrameM.ite, FrameM.fold, implies_true, and_self, and_true, true_and, FrameM.iff (Blk.ctRow_frame _ _ _)]
    | split
    | refine ⟨?_, ?_⟩
    | intro _
    | (with_reducible refine FrameM.foldI (fun _ _ => ?_) ?_)

theorem execCtFlush_runs (w : Nat) (r : Nat) (s : State) :
    ∃ blk', execCtFlush w r s = .next { s with blk := Blk.settle s.blk blk' } ∧ FrameM 0x420090008 (s.blk.pass w) blk' := by
  unfold execCtFlush State.upd Blk.withDesc
  refine ⟨_, Eq.refl _, ?_⟩
  repeat' first
    | simp only [Nat.reduceAnd, FrameM.refl, FrameM.ite, FrameM.fold, implies_true, and_self, and_true, true_and, FrameM.iff (Blk.beginDesc_frame _ _ _), FrameM.iff (Blk.complete_frame _ _ _ _), FrameM.iff (Blk.flushStart_frame _ _)]
    | split
    | refine ⟨?_, ?_⟩
    | intro _
    | (with_reducible refine FrameM.foldI (fun _ _ => ?_) ?_)

theorem execCtScanNow_runs (w : Nat) (r : Nat) (s : State) :
    ∃ blk', execCtScanNow w r s = .next { s with blk := Blk.settle s.blk blk' } ∧ FrameM 0x420090028 (s.blk.pass w) blk' := by
  unfold execCtScanNow State.upd Blk.withDesc
  refine ⟨_, Eq.refl _, ?_⟩
  repeat' first
    | simp only [Nat.reduceAnd, FrameM.refl, FrameM.ite, FrameM.fold, implies_true, and_self, and_true, true_and, FrameM.iff (Blk.beginDesc_frame _ _ _), FrameM.iff (Blk.complete_frame _ _ _ _), FrameM.iff (Blk.scanStart_frame _ _)]
    | split
    | refine ⟨?_, ?_⟩
    | intro _
    | (with_reducible refine FrameM.foldI (fun _ _ => ?_) ?_)

theorem execPatternLoad_runs (w : Nat) (r : Nat) (img : Bytes) (s : State) :
    ∃ blk', execPatternLoad w r img s = .next { s with blk := Blk.settle s.blk blk' } ∧ FrameM 0x440090008 (s.blk.pass w) blk' := by
  unfold execPatternLoad State.upd Blk.withDesc
  refine ⟨_, Eq.refl _, ?_⟩
  repeat' first
    | simp only [Nat.reduceAnd, FrameM.refl, FrameM.ite, FrameM.fold, implies_true, and_self, and_true, true_and, FrameM.iff (Blk.beginDesc_frame _ _ _), FrameM.iff (Blk.loadStart_frame _ _ _ _)]
    | split
    | refine ⟨?_, ?_⟩
    | intro _
    | (with_reducible refine FrameM.foldI (fun _ _ => ?_) ?_)

theorem execBenchDrained_runs (w : Nat) (parity : Bool) (s : State) :
    ∃ blk', execBenchDrained w parity s = .next { s with blk := Blk.settle s.blk blk' } ∧ FrameM 0x440090018 (s.blk.pass w) blk' := by
  unfold execBenchDrained State.upd
  refine ⟨_, Eq.refl _, ?_⟩
  repeat' first
    | simp only [Nat.reduceAnd, FrameM.refl, FrameM.ite, FrameM.fold, implies_true, and_self, and_true, true_and, FrameM.iff (Blk.benchDrained_frame _ _ _)]
    | split
    | refine ⟨?_, ?_⟩
    | intro _
    | (with_reducible refine FrameM.foldI (fun _ _ => ?_) ?_)

theorem execKeyInstall_runs (w : Nat) (r : Nat) (blk : Bytes) (s : State) :
    ∃ blk', execKeyInstall w r blk s = .next { s with blk := Blk.settle s.blk blk' } ∧ FrameM 0x7fc7fbfbc (s.blk.pass w) blk' := by
  unfold execKeyInstall State.upd Blk.withDesc
  refine ⟨_, Eq.refl _, ?_⟩
  repeat' first
    | simp only [Nat.reduceAnd, FrameM.refl, FrameM.ite, FrameM.fold, implies_true, and_self, and_true, true_and, FrameM.iff (Blk.beginDesc_frame _ _ _), FrameM.iff (Blk.keyInstall_frame _ _ _ _)]
    | split
    | refine ⟨?_, ?_⟩
    | intro _
    | (with_reducible refine FrameM.foldI (fun _ _ => ?_) ?_)

theorem execKeyRetire_runs (w : Nat) (r : Nat) (s : State) :
    ∃ blk', execKeyRetire w r s = .next { s with blk := Blk.settle s.blk blk' } ∧ FrameM 0x7fc7fbfbc (s.blk.pass w) blk' := by
  unfold execKeyRetire State.upd Blk.withDesc
  refine ⟨_, Eq.refl _, ?_⟩
  repeat' first
    | simp only [Nat.reduceAnd, FrameM.refl, FrameM.ite, FrameM.fold, implies_true, and_self, and_true, true_and, FrameM.iff (Blk.beginDesc_frame _ _ _), FrameM.iff (Blk.keyRetire_frame _ _ _)]
    | split
    | refine ⟨?_, ?_⟩
    | intro _
    | (with_reducible refine FrameM.foldI (fun _ _ => ?_) ?_)

theorem execKeyEmpty_runs (w : Nat) (n : Nat) (s : State) :
    ∃ blk', execKeyEmpty w n s = .next { s with blk := Blk.settle s.blk blk' } ∧ FrameM 0x7fc7fbfbc (s.blk.pass w) blk' := by
  unfold execKeyEmpty State.upd
  refine ⟨_, Eq.refl _, ?_⟩
  repeat' first
    | simp only [Nat.reduceAnd, FrameM.refl, FrameM.ite, FrameM.fold, implies_true, and_self, and_true, true_and, FrameM.iff (Blk.epochEmpty_frame _ _)]
    | split
    | refine ⟨?_, ?_⟩
    | intro _
    | (with_reducible refine FrameM.foldI (fun _ _ => ?_) ?_)

theorem execAged_runs (w : Nat) (k : Nat) (s : State) :
    ∃ blk', execAged w k s = .next { s with blk := Blk.settle s.blk blk' } ∧ FrameM 0x4f8290038 (s.blk.pass w) blk' := by
  unfold execAged State.upd
  refine ⟨_, Eq.refl _, ?_⟩
  repeat' first
    | simp only [Nat.reduceAnd, FrameM.refl, FrameM.ite, FrameM.fold, implies_true, and_self, and_true, true_and, FrameM.iff (Blk.txRetry_frame _), FrameM.iff (Blk.ctxRevoke_frame _ _)]
    | split
    | refine ⟨?_, ?_⟩
    | intro _
    | (with_reducible refine FrameM.foldI (fun _ _ => ?_) ?_)

theorem execResealStart_runs (w : Nat) (lane : Nat) (s : State) :
    ∃ blk', execResealStart w lane s = .next { s with blk := Blk.settle s.blk blk' } ∧ FrameM 0x4f8290038 (s.blk.pass w) blk' := by
  unfold execResealStart State.upd
  refine ⟨_, Eq.refl _, ?_⟩
  repeat' first
    | simp only [Nat.reduceAnd, FrameM.refl, FrameM.ite, FrameM.fold, implies_true, and_self, and_true, true_and, FrameM.iff (Blk.txRetry_frame _), FrameM.iff (Blk.invoke_frame _ _ _)]
    | split
    | refine ⟨?_, ?_⟩
    | intro _
    | (with_reducible refine FrameM.foldI (fun _ _ => ?_) ?_)

theorem execGrantExpire_runs (w : Nat) (i : Nat) (msg : Nat) (s : State) :
    ∃ blk', execGrantExpire w i msg s = .next { s with blk := Blk.settle s.blk blk' } ∧ FrameM 0x100000000 (s.blk.pass w) blk' := by
  unfold execGrantExpire State.upd
  refine ⟨_, Eq.refl _, ?_⟩
  repeat' first
    | simp only [Nat.reduceAnd, FrameM.refl, FrameM.ite, FrameM.fold, implies_true, and_self, and_true, true_and, FrameM.iff (Blk.grantExpire_frame _ _ _)]
    | split
    | refine ⟨?_, ?_⟩
    | intro _
    | (with_reducible refine FrameM.foldI (fun _ _ => ?_) ?_)

theorem execClientRenew_runs (w : Nat) (p : Nat) (m : Nat) (msg : Nat) (s : State) :
    ∃ blk', execClientRenew w p m msg s = .next { s with blk := Blk.settle s.blk blk' } ∧ FrameM 0x508000024 (s.blk.pass w) blk' := by
  unfold execClientRenew State.upd
  refine ⟨_, Eq.refl _, ?_⟩
  repeat' first
    | simp only [Nat.reduceAnd, FrameM.refl, FrameM.ite, FrameM.fold, implies_true, and_self, and_true, true_and, FrameM.iff (Blk.clientRenew_frame _ _ _ _)]
    | split
    | refine ⟨?_, ?_⟩
    | intro _
    | (with_reducible refine FrameM.foldI (fun _ _ => ?_) ?_)

theorem execAnnounceTimeout_runs (w : Nat) (p : Nat) (who : Nat) (s : State) :
    ∃ blk', execAnnounceTimeout w p who s = .next { s with blk := Blk.settle s.blk blk' } ∧ FrameM 0x101c20038 (s.blk.pass w) blk' := by
  unfold execAnnounceTimeout State.upd
  refine ⟨_, Eq.refl _, ?_⟩
  repeat' first
    | simp only [Nat.reduceAnd, FrameM.refl, FrameM.ite, FrameM.fold, implies_true, and_self, and_true, true_and, FrameM.iff (Blk.instTimeout_frame _ _ _), FrameM.iff (Blk.foreignDrop_frame _ _ _ _), FrameM.iff (Blk.clientChoose_frame _ _)]
    | split
    | refine ⟨?_, ?_⟩
    | intro _
    | (with_reducible refine FrameM.foldI (fun _ _ => ?_) ?_)

theorem execFollowUp_runs (w : Nat) (s : State) :
    ∃ blk', execFollowUp w s = .next { s with blk := Blk.settle s.blk blk' } ∧ FrameM 0x508000024 (s.blk.pass w) blk' := by
  unfold execFollowUp State.upd
  refine ⟨_, Eq.refl _, ?_⟩
  repeat' first
    | simp only [Nat.reduceAnd, FrameM.refl, FrameM.ite, FrameM.fold, implies_true, and_self, and_true, true_and, FrameM.iff (Blk.followUp_frame _)]
    | split
    | refine ⟨?_, ?_⟩
    | intro _
    | (with_reducible refine FrameM.foldI (fun _ _ => ?_) ?_)

theorem execMaxResExpire_runs (w : Nat) (p : Nat) (id : Nat) (s : State) :
    ∃ blk', execMaxResExpire w p id s = .next { s with blk := Blk.settle s.blk blk' } ∧ FrameM 0x488290028 (s.blk.pass w) blk' := by
  unfold execMaxResExpire State.upd
  refine ⟨_, Eq.refl _, ?_⟩
  repeat' first
    | simp only [Nat.reduceAnd, FrameM.refl, FrameM.ite, FrameM.fold, implies_true, and_self, and_true, true_and, FrameM.iff (Blk.maxRes_frame _ _ _)]
    | split
    | refine ⟨?_, ?_⟩
    | intro _
    | (with_reducible refine FrameM.foldI (fun _ _ => ?_) ?_)

theorem execAsymEstimateDone_runs (w : Nat) (p : Nat) (s : State) :
    ∃ blk', execAsymEstimateDone w p s = .next { s with blk := Blk.settle s.blk blk' } ∧ FrameM 0x101c20038 (s.blk.pass w) blk' := by
  unfold execAsymEstimateDone State.upd
  refine ⟨_, Eq.refl _, ?_⟩
  repeat' first
    | simp only [Nat.reduceAnd, FrameM.refl, FrameM.ite, FrameM.fold, implies_true, and_self, and_true, true_and, FrameM.iff (Blk.estEnd_frame _ _)]
    | split
    | refine ⟨?_, ?_⟩
    | intro _
    | (with_reducible refine FrameM.foldI (fun _ _ => ?_) ?_)

theorem execSesOpen_runs (w : Nat) (f : Nat) (s : State) :
    ∃ blk', execSesOpen w f s = .next { s with blk := Blk.settle s.blk blk' } ∧ FrameM 0x8010 (s.blk.pass w) blk' := by
  unfold execSesOpen State.upd
  refine ⟨_, Eq.refl _, ?_⟩
  repeat' first
    | simp only [Nat.reduceAnd, FrameM.refl, FrameM.ite, FrameM.fold, implies_true, and_self, and_true, true_and, FrameM.iff (Blk.openWritten_frame _ _ _)]
    | split
    | refine ⟨?_, ?_⟩
    | intro _
    | (with_reducible refine FrameM.foldI (fun _ _ => ?_) ?_)

theorem execSessionVerifyDone_runs (w : Nat) (f : Nat) (s : State) :
    ∃ blk', execSessionVerifyDone w f s = .next { s with blk := Blk.settle s.blk blk' } ∧ FrameM 0x8014 (s.blk.pass w) blk' := by
  unfold execSessionVerifyDone State.upd
  refine ⟨_, Eq.refl _, ?_⟩
  repeat' first
    | simp only [Nat.reduceAnd, FrameM.refl, FrameM.ite, FrameM.fold, implies_true, and_self, and_true, true_and, FrameM.iff (Blk.verifyDone_frame _ _ _)]
    | split
    | refine ⟨?_, ?_⟩
    | intro _
    | (with_reducible refine FrameM.foldI (fun _ _ => ?_) ?_)

theorem execSesClose_runs (w : Nat) (f : Nat) (s : State) :
    ∃ blk', execSesClose w f s = .next { s with blk := Blk.settle s.blk blk' } ∧ FrameM 0x430038014 (s.blk.pass w) blk' := by
  unfold execSesClose State.upd
  refine ⟨_, Eq.refl _, ?_⟩
  repeat' first
    | simp only [Nat.reduceAnd, FrameM.refl, FrameM.ite, FrameM.fold, implies_true, and_self, and_true, true_and, FrameM.iff (Blk.sesClose_frame _ _ _)]
    | split
    | refine ⟨?_, ?_⟩
    | intro _
    | (with_reducible refine FrameM.foldI (fun _ _ => ?_) ?_)

theorem execLockoutEnd_runs (w : Nat) (f : Nat) (s : State) :
    ∃ blk', execLockoutEnd w f s = .next { s with blk := Blk.settle s.blk blk' } ∧ FrameM 0x8000 (s.blk.pass w) blk' := by
  unfold execLockoutEnd State.upd
  refine ⟨_, Eq.refl _, ?_⟩
  repeat' first
    | simp only [Nat.reduceAnd, FrameM.refl, FrameM.ite, FrameM.fold, implies_true, and_self, and_true, true_and, FrameM.iff (Blk.setSes_frame _ _ _)]
    | split
    | refine ⟨?_, ?_⟩
    | intro _
    | (with_reducible refine FrameM.foldI (fun _ _ => ?_) ?_)

theorem execIdleTimeout_runs (w : Nat) (f : Nat) (s : State) :
    ∃ blk', execIdleTimeout w f s = .next { s with blk := Blk.settle s.blk blk' } ∧ FrameM 0x430038014 (s.blk.pass w) blk' := by
  unfold execIdleTimeout State.upd
  refine ⟨_, Eq.refl _, ?_⟩
  repeat' first
    | simp only [Nat.reduceAnd, FrameM.refl, FrameM.ite, FrameM.fold, implies_true, and_self, and_true, true_and, FrameM.iff (Blk.sesClose_frame _ _ _)]
    | split
    | refine ⟨?_, ?_⟩
    | intro _
    | (with_reducible refine FrameM.foldI (fun _ _ => ?_) ?_)

theorem execSesProvLoad_runs (w : Nat) (f : Nat) (s : State) :
    ∃ nvm' blk', execSesProvLoad w f s = .next { s with nvm := nvm', blk := Blk.settle s.blk blk' } ∧ FrameM 0x0 (s.blk.pass w) blk' := by
  unfold execSesProvLoad State.updN
  refine ⟨_, _, Eq.refl _, ?_⟩
  repeat' first
    | simp only [Nat.reduceAnd, snd_ite, fst_ite, FrameM.refl, FrameM.ite, FrameM.fold, implies_true, and_self, and_true, true_and]
    | split
    | refine ⟨?_, ?_⟩
    | intro _
    | (with_reducible refine FrameM.foldI (fun _ _ => ?_) ?_)

theorem execRingEnable_runs (w : Nat) (r : Nat) (s : State) :
    ∃ blk', execRingEnable w r s = .next { s with blk := Blk.settle s.blk blk' } ∧ FrameM 0x30018 (s.blk.pass w) blk' := by
  unfold execRingEnable State.upd
  refine ⟨_, Eq.refl _, ?_⟩
  repeat' first
    | simp only [Nat.reduceAnd, FrameM.refl, FrameM.ite, FrameM.fold, implies_true, and_self, and_true, true_and, FrameM.iff (Blk.ringEnable_frame _ _)]
    | split
    | refine ⟨?_, ?_⟩
    | intro _
    | (with_reducible refine FrameM.foldI (fun _ _ => ?_) ?_)

theorem execRingDisable_runs (w : Nat) (r : Nat) (s : State) :
    ∃ blk', execRingDisable w r s = .next { s with blk := Blk.settle s.blk blk' } ∧ FrameM 0x430090018 (s.blk.pass w) blk' := by
  unfold execRingDisable State.upd
  refine ⟨_, Eq.refl _, ?_⟩
  repeat' first
    | simp only [Nat.reduceAnd, FrameM.refl, FrameM.ite, FrameM.fold, implies_true, and_self, and_true, true_and, FrameM.iff (Blk.ringDisable_frame _ _)]
    | split
    | refine ⟨?_, ?_⟩
    | intro _
    | (with_reducible refine FrameM.foldI (fun _ _ => ?_) ?_)

theorem execDoorbellPoll_runs (w : Nat) (vals : List Nat) (lost : List Nat) (s : State) :
    ∃ blk', execDoorbellPoll w vals lost s = .next { s with blk := Blk.settle s.blk blk' } ∧ FrameM 0xb8008 (s.blk.pass w) blk' := by
  unfold execDoorbellPoll State.upd
  refine ⟨_, Eq.refl _, ?_⟩
  repeat' first
    | simp only [Nat.reduceAnd, FrameM.refl, FrameM.ite, FrameM.fold, implies_true, and_self, and_true, true_and, FrameM.iff (Blk.pollRead_frame _ _), FrameM.iff (Blk.pmcEvent_frame _ _ _ _), FrameM.iff (Blk.pageLost_frame _ _)]
    | split
    | refine ⟨?_, ?_⟩
    | intro _
    | (with_reducible refine FrameM.foldI (fun _ _ => ?_) ?_)

theorem execHrgNudge_runs (w : Nat) (f : Nat) (vals : List Nat) (s : State) :
    ∃ blk', execHrgNudge w f vals s = .next { s with blk := Blk.settle s.blk blk' } ∧ FrameM 0xb8008 (s.blk.pass w) blk' := by
  unfold execHrgNudge State.upd
  refine ⟨_, Eq.refl _, ?_⟩
  repeat' first
    | simp only [Nat.reduceAnd, FrameM.refl, FrameM.ite, FrameM.fold, implies_true, and_self, and_true, true_and, FrameM.iff (Blk.pollRead_frame _ _), FrameM.iff (Blk.pmcEvent_frame _ _ _ _), FrameM.iff (Blk.idleRestart_frame _ _)]
    | split
    | refine ⟨?_, ?_⟩
    | intro _
    | (with_reducible refine FrameM.foldI (fun _ _ => ?_) ?_)

theorem execDescriptorFetch_runs (w : Nat) (r : Nat) (data : Bytes) (s : State) :
    ∃ blk', execDescriptorFetch w r data s = .next { s with blk := Blk.settle s.blk blk' } ∧ FrameM 0x4000b8008 (s.blk.pass w) blk' := by
  unfold execDescriptorFetch State.upd
  refine ⟨_, Eq.refl _, ?_⟩
  repeat' first
    | simp only [Nat.reduceAnd, FrameM.refl, FrameM.ite, FrameM.fold, implies_true, and_self, and_true, true_and, FrameM.iff (Blk.fetch_frame _ _ _)]
    | split
    | refine ⟨?_, ?_⟩
    | intro _
    | (with_reducible refine FrameM.foldI (fun _ _ => ?_) ?_)

theorem execEventRingEnable_runs (w : Nat) (f : Nat) (s : State) :
    ∃ blk', execEventRingEnable w f s = .next { s with blk := Blk.settle s.blk blk' } ∧ FrameM 0x20018 (s.blk.pass w) blk' := by
  unfold execEventRingEnable State.upd
  refine ⟨_, Eq.refl _, ?_⟩
  repeat' first
    | simp only [Nat.reduceAnd, FrameM.refl, FrameM.ite, FrameM.fold, implies_true, and_self, and_true, true_and, FrameM.iff (Blk.evtEnable_frame _ _)]
    | split
    | refine ⟨?_, ?_⟩
    | intro _
    | (with_reducible refine FrameM.foldI (fun _ _ => ?_) ?_)

theorem execAnchor_runs (w : Nat) (s : State) :
    ∃ blk', execAnchor w s = .next { s with blk := Blk.settle s.blk blk' } ∧ FrameM 0x20008 (s.blk.pass w) blk' := by
  unfold execAnchor State.upd
  refine ⟨_, Eq.refl _, ?_⟩
  repeat' first
    | simp only [Nat.reduceAnd, FrameM.refl, FrameM.ite, FrameM.fold, implies_true, and_self, and_true, true_and, FrameM.iff (Blk.anchorAll_frame _ _ _ _)]
    | split
    | refine ⟨?_, ?_⟩
    | intro _
    | (with_reducible refine FrameM.foldI (fun _ _ => ?_) ?_)

theorem execInterrupt_runs (w : Nat) (f : Nat) (v : Nat) (s : State) :
    ∃ blk', execInterrupt w f v s = .next { s with blk := Blk.settle s.blk blk' } ∧ FrameM 0x30008 (s.blk.pass w) blk' := by
  unfold execInterrupt State.upd
  refine ⟨_, Eq.refl _, ?_⟩
  repeat' first
    | simp only [Nat.reduceAnd, FrameM.refl, FrameM.ite, FrameM.fold, implies_true, and_self, and_true, true_and, FrameM.iff (Blk.interrupt_frame _ _ _)]
    | split
    | refine ⟨?_, ?_⟩
    | intro _
    | (with_reducible refine FrameM.foldI (fun _ _ => ?_) ?_)

theorem execStatsSnapshot_runs (w : Nat) (r : Nat) (s : State) :
    ∃ blk', execStatsSnapshot w r s = .next { s with blk := Blk.settle s.blk blk' } ∧ FrameM 0x400090008 (s.blk.pass w) blk' := by
  unfold execStatsSnapshot State.upd Blk.withDesc
  refine ⟨_, Eq.refl _, ?_⟩
  repeat' first
    | simp only [Nat.reduceAnd, FrameM.refl, FrameM.ite, FrameM.fold, implies_true, and_self, and_true, true_and, FrameM.iff (Blk.beginDesc_frame _ _ _), FrameM.iff (Blk.snapshot_frame _ _ _)]
    | split
    | refine ⟨?_, ?_⟩
    | intro _
    | (with_reducible refine FrameM.foldI (fun _ _ => ?_) ?_)

theorem execLcsArm_runs (w : Nat) (f : Nat) (v : Nat) (s : State) :
    ∃ blk', execLcsArm w f v s = .next { s with blk := Blk.settle s.blk blk' } ∧ FrameM 0x4004 (s.blk.pass w) blk' := by
  unfold execLcsArm State.upd
  refine ⟨_, Eq.refl _, ?_⟩
  repeat' first
    | simp only [Nat.reduceAnd, FrameM.refl, FrameM.ite, FrameM.fold, implies_true, and_self, and_true, true_and, FrameM.iff (Blk.lcsArm_frame _ _ _ _)]
    | split
    | refine ⟨?_, ?_⟩
    | intro _
    | (with_reducible refine FrameM.foldI (fun _ _ => ?_) ?_)

theorem execLcsGo_runs (w : Nat) (f : Nat) (v : Nat) (stop : Nat) (s : State) :
    ∃ nvm' blk', execLcsGo w f v stop s = .next { s with nvm := nvm', blk := Blk.settle s.blk blk' } ∧ FrameM 0xffffffff4 (s.blk.pass w) blk' := by
  unfold execLcsGo State.updN
  refine ⟨_, _, Eq.refl _, ?_⟩
  repeat' first
    | simp only [Nat.reduceAnd, snd_ite, fst_ite, FrameM.refl, FrameM.ite, FrameM.fold, implies_true, and_self, and_true, true_and, FrameM.iff (lcsGo_frame _ _ _ _ _)]
    | split
    | refine ⟨?_, ?_⟩
    | intro _
    | (with_reducible refine FrameM.foldI (fun _ _ => ?_) ?_)

theorem execLcsKeyInstall_runs (w : Nat) (f : Nat) (v : Nat) (s : State) :
    ∃ nvm' blk', execLcsKeyInstall w f v s = .next { s with nvm := nvm', blk := Blk.settle s.blk blk' } ∧ FrameM 0x43003c014 (s.blk.pass w) blk' := by
  unfold execLcsKeyInstall State.updN
  refine ⟨_, _, Eq.refl _, ?_⟩
  repeat' first
    | simp only [Nat.reduceAnd, snd_ite, fst_ite, FrameM.refl, FrameM.ite, FrameM.fold, implies_true, and_self, and_true, true_and, FrameM.iff (lcsKeyCtl_frame _ _ _ _)]
    | split
    | refine ⟨?_, ?_⟩
    | intro _
    | (with_reducible refine FrameM.foldI (fun _ _ => ?_) ?_)

theorem execLcsKeyErase_runs (w : Nat) (f : Nat) (v : Nat) (s : State) :
    ∃ nvm' blk', execLcsKeyErase w f v s = .next { s with nvm := nvm', blk := Blk.settle s.blk blk' } ∧ FrameM 0x43003c014 (s.blk.pass w) blk' := by
  unfold execLcsKeyErase State.updN
  refine ⟨_, _, Eq.refl _, ?_⟩
  repeat' first
    | simp only [Nat.reduceAnd, snd_ite, fst_ite, FrameM.refl, FrameM.ite, FrameM.fold, implies_true, and_self, and_true, true_and, FrameM.iff (lcsKeyCtl_frame _ _ _ _)]
    | split
    | refine ⟨?_, ?_⟩
    | intro _
    | (with_reducible refine FrameM.foldI (fun _ _ => ?_) ?_)

theorem execOptWriteStart_runs (w : Nat) (f : Nat) (copyB : Bool) (s : State) :
    ∃ nvm' blk', execOptWriteStart w f copyB s = .next { s with nvm := nvm', blk := Blk.settle s.blk blk' } ∧ FrameM 0x4010 (s.blk.pass w) blk' := by
  unfold execOptWriteStart State.updN
  refine ⟨_, _, Eq.refl _, ?_⟩
  repeat' first
    | simp only [Nat.reduceAnd, snd_ite, fst_ite, FrameM.refl, FrameM.ite, FrameM.fold, implies_true, and_self, and_true, true_and, FrameM.iff (optCtrl_frame _ _ _ _)]
    | split
    | refine ⟨?_, ?_⟩
    | intro _
    | (with_reducible refine FrameM.foldI (fun _ _ => ?_) ?_)

theorem execOptWriteDone_runs (w : Nat) (bytes : Bytes) (fault : Nat) (s : State) :
    ∃ nvm' blk', execOptWriteDone w bytes fault s = .next { s with nvm := nvm', blk := Blk.settle s.blk blk' } ∧ FrameM 0x4000 (s.blk.pass w) blk' := by
  unfold execOptWriteDone State.updN
  refine ⟨_, _, Eq.refl _, ?_⟩
  repeat' first
    | simp only [Nat.reduceAnd, snd_ite, fst_ite, FrameM.refl, FrameM.ite, FrameM.fold, implies_true, and_self, and_true, true_and, FrameM.iff (optDone_frame _ _ _ _)]
    | split
    | refine ⟨?_, ?_⟩
    | intro _
    | (with_reducible refine FrameM.foldI (fun _ _ => ?_) ?_)

theorem execRaiseSvn_runs (w : Nat) (f : Nat) (s : State) :
    ∃ nvm' blk', execRaiseSvn w f s = .next { s with nvm := nvm', blk := Blk.settle s.blk blk' } ∧ FrameM 0x4010 (s.blk.pass w) blk' := by
  unfold execRaiseSvn State.updN
  refine ⟨_, _, Eq.refl _, ?_⟩
  repeat' first
    | simp only [Nat.reduceAnd, snd_ite, fst_ite, FrameM.refl, FrameM.ite, FrameM.fold, implies_true, and_self, and_true, true_and, FrameM.iff (optCtrl_frame _ _ _ _)]
    | split
    | refine ⟨?_, ?_⟩
    | intro _
    | (with_reducible refine FrameM.foldI (fun _ _ => ?_) ?_)

theorem execWeltLinkUp_runs (w : Nat) (s : State) :
    ∃ blk', execWeltLinkUp w s = .next { s with blk := Blk.settle s.blk blk' } ∧ FrameM 0x200020008 (s.blk.pass w) blk' := by
  unfold execWeltLinkUp State.upd
  refine ⟨_, Eq.refl _, ?_⟩
  repeat' first
    | simp only [Nat.reduceAnd, FrameM.refl, FrameM.ite, FrameM.fold, implies_true, and_self, and_true, true_and, FrameM.iff (FrameM.upd_twin _), FrameM.iff (Blk.recTwin_frame _ _ _)]
    | split
    | refine ⟨?_, ?_⟩
    | intro _
    | (with_reducible refine FrameM.foldI (fun _ _ => ?_) ?_)

theorem execWeltLinkLost_runs (w : Nat) (fails : Nat) (s : State) :
    ∃ blk', execWeltLinkLost w fails s = .next { s with blk := Blk.settle s.blk blk' } ∧ FrameM 0x201c20038 (s.blk.pass w) blk' := by
  unfold execWeltLinkLost State.upd
  refine ⟨_, Eq.refl _, ?_⟩
  repeat' first
    | simp only [Nat.reduceAnd, FrameM.refl, FrameM.ite, FrameM.fold, implies_true, and_self, and_true, true_and, FrameM.iff (Blk.incN_frame _ _ _), FrameM.iff (Blk.refsSettle_frame _), FrameM.iff (Blk.weltLost_frame _)]
    | split
    | refine ⟨?_, ?_⟩
    | intro _
    | (with_reducible refine FrameM.foldI (fun _ _ => ?_) ?_)

theorem execArbTest_runs (w : Nat) (ok : Bool) (s : State) :
    ∃ blk', execArbTest w ok s = .next { s with blk := Blk.settle s.blk blk' } ∧ FrameM 0x7fc7fbfbc (s.blk.pass w) blk' := by
  unfold execArbTest State.upd
  refine ⟨_, Eq.refl _, ?_⟩
  repeat' first
    | simp only [Nat.reduceAnd, FrameM.refl, FrameM.ite, FrameM.fold, implies_true, and_self, and_true, true_and, FrameM.iff (Blk.arbResult_frame _ _), FrameM.iff (Blk.put_frame _ _)]
    | split
    | refine ⟨?_, ?_⟩
    | intro _
    | (with_reducible refine FrameM.foldI (fun _ _ => ?_) ?_)

theorem execAttachAttempt_runs (w : Nat) (peer : Option TwinPeer) (s : State) :
    ∃ blk', execAttachAttempt w peer s = .next { s with blk := Blk.settle s.blk blk' } ∧ FrameM 0x6a9eb07bc (s.blk.pass w) blk' := by
  unfold execAttachAttempt State.upd
  refine ⟨_, Eq.refl _, ?_⟩
  repeat' first
    | simp only [Nat.reduceAnd, FrameM.refl, FrameM.ite, FrameM.fold, implies_true, and_self, and_true, true_and, FrameM.iff (Blk.attempt_frame _ _ _ _)]
    | split
    | refine ⟨?_, ?_⟩
    | intro _
    | (with_reducible refine FrameM.foldI (fun _ _ => ?_) ?_)

theorem execAttachRetry_runs (w : Nat) (peer : Option TwinPeer) (s : State) :
    ∃ blk', execAttachRetry w peer s = .next { s with blk := Blk.settle s.blk blk' } ∧ FrameM 0x6a9eb07bc (s.blk.pass w) blk' := by
  unfold execAttachRetry State.upd
  refine ⟨_, Eq.refl _, ?_⟩
  repeat' first
    | simp only [Nat.reduceAnd, FrameM.refl, FrameM.ite, FrameM.fold, implies_true, and_self, and_true, true_and, FrameM.iff (Blk.attempt_frame _ _ _ _)]
    | split
    | refine ⟨?_, ?_⟩
    | intro _
    | (with_reducible refine FrameM.foldI (fun _ _ => ?_) ?_)

theorem execMirrorApply_runs (w : Nat) (item : Mirror) (s : State) :
    ∃ blk', execMirrorApply w item s = .next { s with blk := Blk.settle s.blk blk' } ∧ FrameM 0x7fdffbfbc (s.blk.pass w) blk' := by
  unfold execMirrorApply State.upd
  refine ⟨_, Eq.refl _, ?_⟩
  repeat' first
    | simp only [Nat.reduceAnd, FrameM.refl, FrameM.ite, FrameM.fold, implies_true, and_self, and_true, true_and, FrameM.iff (FrameM.upd_twin _), FrameM.iff (Blk.put_frame _ _), FrameM.iff (Blk.mirrorApply_frame _ _)]
    | split
    | refine ⟨?_, ?_⟩
    | intro _
    | (with_reducible refine FrameM.foldI (fun _ _ => ?_) ?_)

theorem execMirrorCreditTimeout_runs (w : Nat) (full : Bool) (s : State) :
    ∃ blk', execMirrorCreditTimeout w full s = .next { s with blk := Blk.settle s.blk blk' } ∧ FrameM 0x200020028 (s.blk.pass w) blk' := by
  unfold execMirrorCreditTimeout State.upd
  refine ⟨_, Eq.refl _, ?_⟩
  repeat' first
    | simp only [Nat.reduceAnd, FrameM.refl, FrameM.ite, FrameM.fold, implies_true, and_self, and_true, true_and, FrameM.iff (Blk.mirrorResync_frame _)]
    | split
    | refine ⟨?_, ?_⟩
    | intro _
    | (with_reducible refine FrameM.foldI (fun _ _ => ?_) ?_)

theorem execMirrorSync_runs (w : Nat) (s : State) :
    ∃ blk', execMirrorSync w s = .next { s with blk := Blk.settle s.blk blk' } ∧ FrameM 0x200000000 (s.blk.pass w) blk' := by
  unfold execMirrorSync State.upd
  refine ⟨_, Eq.refl _, ?_⟩
  repeat' first
    | simp only [Nat.reduceAnd, FrameM.refl, FrameM.ite, FrameM.fold, implies_true, and_self, and_true, true_and, FrameM.iff (FrameM.upd_twin _)]
    | split
    | refine ⟨?_, ?_⟩
    | intro _
    | (with_reducible refine FrameM.foldI (fun _ _ => ?_) ?_)

theorem execMarkerTx_runs (w : Nat) (s : State) :
    ∃ blk', execMarkerTx w s = .next { s with blk := Blk.settle s.blk blk' } ∧ FrameM 0x200000008 (s.blk.pass w) blk' := by
  unfold execMarkerTx State.upd
  refine ⟨_, Eq.refl _, ?_⟩
  repeat' first
    | simp only [Nat.reduceAnd, FrameM.refl, FrameM.ite, FrameM.fold, implies_true, and_self, and_true, true_and, FrameM.iff (Blk.markerTx_frame _)]
    | split
    | refine ⟨?_, ?_⟩
    | intro _
    | (with_reducible refine FrameM.foldI (fun _ _ => ?_) ?_)

theorem execMarkerRx_runs (w : Nat) (age : Nat) (mode : Nat) (status : Nat) (have4 : Bool) (t1 : Int) (t4 : Int) (s : State) :
    ∃ blk', execMarkerRx w age mode status have4 t1 t4 s = .next { s with blk := Blk.settle s.blk blk' } ∧ FrameM 0x7ffffbfbc (s.blk.pass w) blk' := by
  unfold execMarkerRx State.upd
  refine ⟨_, Eq.refl _, ?_⟩
  repeat' first
    | simp only [Nat.reduceAnd, FrameM.refl, FrameM.ite, FrameM.fold, implies_true, and_self, and_true, true_and, FrameM.iff (Blk.markerRx_frame _ _ _ _ _ _ _)]
    | split
    | refine ⟨?_, ?_⟩
    | intro _
    | (with_reducible refine FrameM.foldI (fun _ _ => ?_) ?_)

theorem execFailBlockRx_runs (w : Nat) (handover : Bool) (s : State) :
    ∃ blk', execFailBlockRx w handover s = .next { s with blk := Blk.settle s.blk blk' } ∧ FrameM 0x201c20008 (s.blk.pass w) blk' := by
  unfold execFailBlockRx State.upd
  refine ⟨_, Eq.refl _, ?_⟩
  repeat' first
    | simp only [Nat.reduceAnd, FrameM.refl, FrameM.ite, FrameM.fold, implies_true, and_self, and_true, true_and, FrameM.iff (FrameM.upd_twin _), FrameM.iff (Blk.refsSettle_frame _)]
    | split
    | refine ⟨?_, ?_⟩
    | intro _
    | (with_reducible refine FrameM.foldI (fun _ _ => ?_) ?_)

theorem execTwarbBChange_runs (w : Nat) (level : Bool) (s : State) :
    ∃ blk', execTwarbBChange w level s = .next { s with blk := Blk.settle s.blk blk' } ∧ FrameM 0x689eb0fb8 (s.blk.pass w) blk' := by
  unfold execTwarbBChange State.upd
  refine ⟨_, Eq.refl _, ?_⟩
  repeat' first
    | simp only [Nat.reduceAnd, FrameM.refl, FrameM.ite, FrameM.fold, implies_true, and_self, and_true, true_and, FrameM.iff (Blk.txRetry_frame _), FrameM.iff (Blk.twarbB_frame _ _)]
    | split
    | refine ⟨?_, ?_⟩
    | intro _
    | (with_reducible refine FrameM.foldI (fun _ _ => ?_) ?_)

theorem execTakeover_runs (w : Nat) (s : State) :
    ∃ blk', execTakeover w s = .next { s with blk := Blk.settle s.blk blk' } ∧ FrameM 0x689eb07b8 (s.blk.pass w) blk' := by
  unfold execTakeover State.upd
  refine ⟨_, Eq.refl _, ?_⟩
  repeat' first
    | simp only [Nat.reduceAnd, FrameM.refl, FrameM.ite, FrameM.fold, implies_true, and_self, and_true, true_and, FrameM.iff (Blk.txRetry_frame _), FrameM.iff (Blk.takeover_frame _)]
    | split
    | refine ⟨?_, ?_⟩
    | intro _
    | (with_reducible refine FrameM.foldI (fun _ _ => ?_) ?_)

theorem execTwinAttach_runs (w : Nat) (r : Nat) (s : State) :
    ∃ blk', execTwinAttach w r s = .next { s with blk := Blk.settle s.blk blk' } ∧ FrameM 0x600090018 (s.blk.pass w) blk' := by
  unfold execTwinAttach State.upd Blk.twinCmd Blk.withDesc
  refine ⟨_, Eq.refl _, ?_⟩
  repeat' first
    | simp only [Nat.reduceAnd, FrameM.refl, FrameM.ite, FrameM.fold, implies_true, and_self, and_true, true_and, FrameM.iff (FrameM.upd_twin _), FrameM.iff (Blk.beginDesc_frame _ _ _), FrameM.iff (Blk.complete_frame _ _ _ _), FrameM.iff (Blk.wr_frame _ _ _)]
    | split
    | refine ⟨?_, ?_⟩
    | intro _
    | (with_reducible refine FrameM.foldI (fun _ _ => ?_) ?_)

theorem execAttachTimeout_runs (w : Nat) (s : State) :
    ∃ blk', execAttachTimeout w s = .next { s with blk := Blk.settle s.blk blk' } ∧ FrameM 0x600090008 (s.blk.pass w) blk' := by
  unfold execAttachTimeout State.upd
  refine ⟨_, Eq.refl _, ?_⟩
  repeat' first
    | simp only [Nat.reduceAnd, FrameM.refl, FrameM.ite, FrameM.fold, implies_true, and_self, and_true, true_and, FrameM.iff (FrameM.upd_twin _), FrameM.iff (Blk.complete_frame _ _ _ _)]
    | split
    | refine ⟨?_, ?_⟩
    | intro _
    | (with_reducible refine FrameM.foldI (fun _ _ => ?_) ?_)

theorem execTwinDetach_runs (w : Nat) (r : Nat) (peer : Bool) (s : State) :
    ∃ blk', execTwinDetach w r peer s = .next { s with blk := Blk.settle s.blk blk' } ∧ FrameM 0x689eb07b8 (s.blk.pass w) blk' := by
  unfold execTwinDetach State.upd Blk.twinCmd Blk.withDesc
  refine ⟨_, Eq.refl _, ?_⟩
  repeat' first
    | simp only [Nat.reduceAnd, FrameM.refl, FrameM.ite, FrameM.fold, implies_true, and_self, and_true, true_and, FrameM.iff (Blk.txRetry_frame _), FrameM.iff (Blk.detached_frame _), FrameM.iff (Blk.beginDesc_frame _ _ _), FrameM.iff (Blk.complete_frame _ _ _ _), FrameM.iff (Blk.detach_frame _)]
    | split
    | refine ⟨?_, ?_⟩
    | intro _
    | (with_reducible refine FrameM.foldI (fun _ _ => ?_) ?_)

theorem execTwinSwitchover_runs (w : Nat) (r : Nat) (s : State) :
    ∃ blk', execTwinSwitchover w r s = .next { s with blk := Blk.settle s.blk blk' } ∧ FrameM 0x600090008 (s.blk.pass w) blk' := by
  unfold execTwinSwitchover State.upd Blk.twinCmd Blk.withDesc
  refine ⟨_, Eq.refl _, ?_⟩
  repeat' first
    | simp only [Nat.reduceAnd, FrameM.refl, FrameM.ite, FrameM.fold, implies_true, and_self, and_true, true_and, FrameM.iff (Blk.beginDesc_frame _ _ _), FrameM.iff (Blk.complete_frame _ _ _ _), FrameM.iff (Blk.switchover_frame _ _ _)]
    | split
    | refine ⟨?_, ?_⟩
    | intro _
    | (with_reducible refine FrameM.foldI (fun _ _ => ?_) ?_)

theorem execTwinSetKey_runs (w : Nat) (r : Nat) (blk : Bytes) (s : State) :
    ∃ nvm' blk', execTwinSetKey w r blk s = .next { s with nvm := nvm', blk := Blk.settle s.blk blk' } ∧ FrameM 0x400090008 (s.blk.pass w) blk' := by
  unfold execTwinSetKey State.updN Blk.twinCmd Blk.withDesc
  refine ⟨_, _, Eq.refl _, ?_⟩
  repeat' first
    | simp only [Nat.reduceAnd, snd_ite, fst_ite, FrameM.refl, FrameM.ite, FrameM.fold, implies_true, and_self, and_true, true_and, FrameM.iff (Blk.beginDesc_frame _ _ _), FrameM.iff (Blk.complete_frame _ _ _ _)]
    | split
    | refine ⟨?_, ?_⟩
    | intro _
    | (with_reducible refine FrameM.foldI (fun _ _ => ?_) ?_)

theorem execTwinResetPeer_runs (w : Nat) (r : Nat) (s : State) :
    ∃ blk', execTwinResetPeer w r s = .next { s with blk := Blk.settle s.blk blk' } ∧ FrameM 0x400090008 (s.blk.pass w) blk' := by
  unfold execTwinResetPeer State.upd Blk.twinCmd Blk.withDesc
  refine ⟨_, Eq.refl _, ?_⟩
  repeat' first
    | simp only [Nat.reduceAnd, FrameM.refl, FrameM.ite, FrameM.fold, implies_true, and_self, and_true, true_and, FrameM.iff (Blk.beginDesc_frame _ _ _), FrameM.iff (Blk.complete_frame _ _ _ _), FrameM.iff (Blk.put_frame _ _)]
    | split
    | refine ⟨?_, ?_⟩
    | intro _
    | (with_reducible refine FrameM.foldI (fun _ _ => ?_) ?_)

theorem execTwinCommandedReset_runs (w : Nat) (s : State) :
    ∃ blk', execTwinCommandedReset w s = .next { s with blk := Blk.settle s.blk blk' } ∧ FrameM 0xffffffff4 (s.blk.pass w) blk' := by
  unfold execTwinCommandedReset State.upd
  refine ⟨_, Eq.refl _, ?_⟩
  repeat' first
    | simp only [Nat.reduceAnd, FrameM.refl, FrameM.ite, FrameM.fold, implies_true, and_self, and_true, true_and, FrameM.iff (Blk.devReset_frame _ _)]
    | split
    | refine ⟨?_, ?_⟩
    | intro _
    | (with_reducible refine FrameM.foldI (fun _ _ => ?_) ?_)

theorem execTwinStatus_runs (w : Nat) (r : Nat) (s : State) :
    ∃ blk', execTwinStatus w r s = .next { s with blk := Blk.settle s.blk blk' } ∧ FrameM 0x400090008 (s.blk.pass w) blk' := by
  unfold execTwinStatus State.upd Blk.twinCmd Blk.withDesc
  refine ⟨_, Eq.refl _, ?_⟩
  repeat' first
    | simp only [Nat.reduceAnd, FrameM.refl, FrameM.ite, FrameM.fold, implies_true, and_self, and_true, true_and, FrameM.iff (Blk.beginDesc_frame _ _ _), FrameM.iff (Blk.complete_frame _ _ _ _)]
    | split
    | refine ⟨?_, ?_⟩
    | intro _
    | (with_reducible refine FrameM.foldI (fun _ _ => ?_) ?_)

theorem execHostStall_runs (w : Nat) (s : State) :
    ∃ blk', execHostStall w s = .next { s with blk := Blk.settle s.blk blk' } ∧ FrameM 0x7fc7fbfbc (s.blk.pass w) blk' := by
  unfold execHostStall State.upd
  refine ⟨_, Eq.refl _, ?_⟩
  repeat' first
    | simp only [Nat.reduceAnd, FrameM.refl, FrameM.ite, FrameM.fold, implies_true, and_self, and_true, true_and, FrameM.iff (Blk.raiseEnv_frame _ _ _), FrameM.iff (Blk.inc_frame _ _), FrameM.iff (Blk.setF_frame _ _), FrameM.iff (Blk.hostBlockReset_frame _)]
    | split
    | refine ⟨?_, ?_⟩
    | intro _
    | (with_reducible refine FrameM.foldI (fun _ _ => ?_) ?_)

theorem execStoreTimeout_runs (w : Nat) (lane : Nat) (s : State) :
    ∃ blk', execStoreTimeout w lane s = .next { s with blk := Blk.settle s.blk blk' } ∧ FrameM 0x7fc7fbfbc (s.blk.pass w) blk' := by
  unfold execStoreTimeout State.upd
  refine ⟨_, Eq.refl _, ?_⟩
  repeat' first
    | simp only [Nat.reduceAnd, FrameM.refl, FrameM.ite, FrameM.fold, implies_true, and_self, and_true, true_and, FrameM.iff (Blk.txRetry_frame _), FrameM.iff (Blk.storeTimeout_frame _ _)]
    | split
    | refine ⟨?_, ?_⟩
    | intro _
    | (with_reducible refine FrameM.foldI (fun _ _ => ?_) ?_)

theorem execEgExpire_runs (w : Nat) (s : State) :
    ∃ blk', execEgExpire w s = .next { s with blk := Blk.settle s.blk blk' } ∧ FrameM 0x488290028 (s.blk.pass w) blk' := by
  unfold execEgExpire State.upd
  refine ⟨_, Eq.refl _, ?_⟩
  repeat' first
    | simp only [Nat.reduceAnd, FrameM.refl, FrameM.ite, FrameM.fold, implies_true, and_self, and_true, true_and, FrameM.iff (Blk.txRetry_frame _), FrameM.iff (Blk.egExpirePort_frame _ _)]
    | split
    | refine ⟨?_, ?_⟩
    | intro _
    | (with_reducible refine FrameM.foldI (fun _ _ => ?_) ?_)

theorem execTxwExpire_runs (w : Nat) (s : State) :
    ∃ blk', execTxwExpire w s = .next { s with blk := Blk.settle s.blk blk' } ∧ FrameM 0x400090008 (s.blk.pass w) blk' := by
  unfold execTxwExpire State.upd
  refine ⟨_, Eq.refl _, ?_⟩
  repeat' first
    | simp only [Nat.reduceAnd, FrameM.refl, FrameM.ite, FrameM.fold, implies_true, and_self, and_true, true_and, FrameM.iff (Blk.txwExpire_frame _)]
    | split
    | refine ⟨?_, ?_⟩
    | intro _
    | (with_reducible refine FrameM.foldI (fun _ _ => ?_) ?_)

theorem execErrorRaised_runs (w : Nat) (code : Nat) (unit : Nat) (detail : Nat) (item : Nat) (s : State) :
    ∃ blk', execErrorRaised w code unit detail item s = .next { s with blk := Blk.settle s.blk blk' } ∧ FrameM 0x7fdffbfbc (s.blk.pass w) blk' := by
  unfold execErrorRaised State.upd
  refine ⟨_, Eq.refl _, ?_⟩
  repeat' first
    | simp only [Nat.reduceAnd, FrameM.refl, FrameM.ite, FrameM.fold, implies_true, and_self, and_true, true_and, FrameM.iff (Blk.errRaised_frame _ _ _ _ _)]
    | split
    | refine ⟨?_, ?_⟩
    | intro _
    | (with_reducible refine FrameM.foldI (fun _ _ => ?_) ?_)

theorem execErrorHandlingDone_runs (w : Nat) (s : State) :
    ∃ blk', execErrorHandlingDone w s = .next { s with blk := Blk.settle s.blk blk' } ∧ FrameM 0x7fdffbfbc (s.blk.pass w) blk' := by
  unfold execErrorHandlingDone State.upd
  refine ⟨_, Eq.refl _, ?_⟩
  repeat' first
    | simp only [Nat.reduceAnd, FrameM.refl, FrameM.ite, FrameM.fold, implies_true, and_self, and_true, true_and, FrameM.iff (Blk.errSettle_frame _), FrameM.iff (Blk.errDone_frame _)]
    | split
    | refine ⟨?_, ?_⟩
    | intro _
    | (with_reducible refine FrameM.foldI (fun _ _ => ?_) ?_)

theorem execGoInject_runs (w : Nat) (f : Nat) (v : Nat) (s : State) :
    ∃ blk', execGoInject w f v s = .next { s with blk := Blk.settle s.blk blk' } ∧ FrameM 0x7fdffbfbc (s.blk.pass w) blk' := by
  unfold execGoInject State.upd
  refine ⟨_, Eq.refl _, ?_⟩
  repeat' first
    | simp only [Nat.reduceAnd, FrameM.refl, FrameM.ite, FrameM.fold, implies_true, and_self, and_true, true_and, FrameM.iff (Blk.injected_frame _ _ _)]
    | split
    | refine ⟨?_, ?_⟩
    | intro _
    | (with_reducible refine FrameM.foldI (fun _ _ => ?_) ?_)

theorem execErrLogRead_runs (w : Nat) (f : Nat) (i : Nat) (s : State) :
    ∃ blk', execErrLogRead w f i s = .next { s with blk := Blk.settle s.blk blk' } ∧ FrameM 0x48 (s.blk.pass w) blk' := by
  unfold execErrLogRead State.upd Blk.readFor
  refine ⟨_, Eq.refl _, ?_⟩
  repeat' first
    | simp only [Nat.reduceAnd, FrameM.refl, FrameM.ite, FrameM.fold, implies_true, and_self, and_true, true_and, FrameM.iff (Blk.put_frame _ _), FrameM.iff (Blk.errLogRead_frame _ _ _)]
    | split
    | refine ⟨?_, ?_⟩
    | intro _
    | (with_reducible refine FrameM.foldI (fun _ _ => ?_) ?_)

theorem execCounterLoRead_runs (w : Nat) (f : Nat) (off : Nat) (s : State) :
    ∃ blk', execCounterLoRead w f off s = .next { s with blk := Blk.settle s.blk blk' } ∧ FrameM 0x58 (s.blk.pass w) blk' := by
  unfold execCounterLoRead State.upd
  refine ⟨_, Eq.refl _, ?_⟩
  repeat' first
    | simp only [Nat.reduceAnd, FrameM.refl, FrameM.ite, FrameM.fold, implies_true, and_self, and_true, true_and, FrameM.iff (Blk.counterRead_frame _ _ _)]
    | split
    | refine ⟨?_, ?_⟩
    | intro _
    | (with_reducible refine FrameM.foldI (fun _ _ => ?_) ?_)

theorem execHldOmisRead_runs (w : Nat) (f : Nat) (u : Nat) (s : State) :
    ∃ blk', execHldOmisRead w f u s = .next { s with blk := Blk.settle s.blk blk' } ∧ FrameM 0x58 (s.blk.pass w) blk' := by
  unfold execHldOmisRead State.upd Blk.readFor
  refine ⟨_, Eq.refl _, ?_⟩
  repeat' first
    | simp only [Nat.reduceAnd, FrameM.refl, FrameM.ite, FrameM.fold, implies_true, and_self, and_true, true_and, FrameM.iff (Blk.put_frame _ _), FrameM.iff (Blk.misRead_frame _ _ _), FrameM.iff (Blk.accErr_frame _ _ _ _ _)]
    | split
    | refine ⟨?_, ?_⟩
    | intro _
    | (with_reducible refine FrameM.foldI (fun _ _ => ?_) ?_)

theorem execPmcCntLoRead_runs (w : Nat) (f : Nat) (i : Nat) (s : State) :
    ∃ blk', execPmcCntLoRead w f i s = .next { s with blk := Blk.settle s.blk blk' } ∧ FrameM 0x48 (s.blk.pass w) blk' := by
  unfold execPmcCntLoRead State.upd Blk.readFor
  refine ⟨_, Eq.refl _, ?_⟩
  repeat' first
    | simp only [Nat.reduceAnd, FrameM.refl, FrameM.ite, FrameM.fold, implies_true, and_self, and_true, true_and, FrameM.iff (Blk.put_frame _ _), FrameM.iff (Blk.pmcLoRead_frame _ _ _)]
    | split
    | refine ⟨?_, ?_⟩
    | intro _
    | (with_reducible refine FrameM.foldI (fun _ _ => ?_) ?_)

theorem execPmcCntHiWrite_runs (w : Nat) (f : Nat) (i : Nat) (v : Nat) (s : State) :
    ∃ blk', execPmcCntHiWrite w f i v s = .next { s with blk := Blk.settle s.blk blk' } ∧ FrameM 0x80000 (s.blk.pass w) blk' := by
  unfold execPmcCntHiWrite State.upd
  refine ⟨_, Eq.refl _, ?_⟩
  repeat' first
    | simp only [Nat.reduceAnd, FrameM.refl, FrameM.ite, FrameM.fold, implies_true, and_self, and_true, true_and, FrameM.iff (Blk.pmcHiWrite_frame _ _ _ _)]
    | split
    | refine ⟨?_, ?_⟩
    | intro _
    | (with_reducible refine FrameM.foldI (fun _ _ => ?_) ?_)

theorem execPmcCntLoWrite_runs (w : Nat) (f : Nat) (i : Nat) (v : Nat) (s : State) :
    ∃ blk', execPmcCntLoWrite w f i v s = .next { s with blk := Blk.settle s.blk blk' } ∧ FrameM 0x80000 (s.blk.pass w) blk' := by
  unfold execPmcCntLoWrite State.upd
  refine ⟨_, Eq.refl _, ?_⟩
  repeat' first
    | simp only [Nat.reduceAnd, FrameM.refl, FrameM.ite, FrameM.fold, implies_true, and_self, and_true, true_and, FrameM.iff (Blk.pmcLoWrite_frame _ _ _ _)]
    | split
    | refine ⟨?_, ?_⟩
    | intro _
    | (with_reducible refine FrameM.foldI (fun _ _ => ?_) ?_)

theorem execPmcWrap_runs (w : Nat) (i : Nat) (n : Nat) (engine : Nat) (entry : Nat) (offset : Nat) (idle : Bool) (s : State) :
    ∃ blk', execPmcWrap w i n engine entry offset idle s = .next { s with blk := Blk.settle s.blk blk' } ∧ FrameM 0xa0008 (s.blk.pass w) blk' := by
  unfold execPmcWrap State.upd
  refine ⟨_, Eq.refl _, ?_⟩
  repeat' first
    | simp only [Nat.reduceAnd, FrameM.refl, FrameM.ite, FrameM.fold, implies_true, and_self, and_true, true_and, FrameM.iff (Blk.pmcWrap_frame _ _ _ _ _ _ _)]
    | split
    | refine ⟨?_, ?_⟩
    | intro _
    | (with_reducible refine FrameM.foldI (fun _ _ => ?_) ?_)

theorem execGsumReport_runs (w : Nat) (f : Nat) (s : State) :
    ∃ blk', execGsumReport w f s = .next { s with blk := Blk.settle s.blk blk' } ∧ FrameM 0x20008 (s.blk.pass w) blk' := by
  unfold execGsumReport State.upd
  refine ⟨_, Eq.refl _, ?_⟩
  repeat' first
    | simp only [Nat.reduceAnd, FrameM.refl, FrameM.ite, FrameM.fold, implies_true, and_self, and_true, true_and, FrameM.iff (Blk.gsumReport_frame _ _)]
    | split
    | refine ⟨?_, ?_⟩
    | intro _
    | (with_reducible refine FrameM.foldI (fun _ _ => ?_) ?_)

theorem execEvtGintEnWrite_runs (w : Nat) (f : Nat) (v : Nat) (s : State) :
    ∃ blk', execEvtGintEnWrite w f v s = .next { s with blk := Blk.settle s.blk blk' } ∧ FrameM 0x20018 (s.blk.pass w) blk' := by
  unfold execEvtGintEnWrite State.upd
  refine ⟨_, Eq.refl _, ?_⟩
  repeat' first
    | simp only [Nat.reduceAnd, FrameM.refl, FrameM.ite, FrameM.fold, implies_true, and_self, and_true, true_and, FrameM.iff (Blk.gintWrite_frame _ _ _)]
    | split
    | refine ⟨?_, ?_⟩
    | intro _
    | (with_reducible refine FrameM.foldI (fun _ _ => ?_) ?_)

theorem execRegisterWrite_runs (w : Nat) (f : Nat) (off : Nat) (be : Nat) (write : Bool) (vals : List Nat) (s : State) :
    ∃ nvm' blk', execRegisterWrite w f off be write vals s = .next { s with nvm := nvm', blk := Blk.settle s.blk blk' } ∧ FrameM 0xffffffffc (s.blk.pass w) blk' := by
  unfold execRegisterWrite State.updN
  refine ⟨_, _, Eq.refl _, ?_⟩
  repeat' first
    | simp only [Nat.reduceAnd, snd_ite, fst_ite, FrameM.refl, FrameM.ite, FrameM.fold, implies_true, and_self, and_true, true_and, FrameM.iff (request_frame _ _ _ _ _ _ _)]
    | split
    | refine ⟨?_, ?_⟩
    | intro _
    | (with_reducible refine FrameM.foldI (fun _ _ => ?_) ?_)

theorem execStartupOscillatorLost_runs (w : Nat) (s : State) :
    ∃ blk', execStartupOscillatorLost w s = .next { s with blk := Blk.settle s.blk blk' } ∧ FrameM 0xffffffff4 (s.blk.pass w) blk' := by
  unfold execStartupOscillatorLost State.upd
  refine ⟨_, Eq.refl _, ?_⟩
  repeat' first
    | simp only [Nat.reduceAnd, FrameM.refl, FrameM.ite, FrameM.fold, implies_true, and_self, and_true, true_and, FrameM.iff (FrameM.upd_rst _), FrameM.iff (Blk.cfgLost_frame _)]
    | split
    | refine ⟨?_, ?_⟩
    | intro _
    | (with_reducible refine FrameM.foldI (fun _ _ => ?_) ?_)

theorem execPcieCompletionTimeout_runs (w : Nat) (r : Nat) (s : State) :
    ∃ blk', execPcieCompletionTimeout w r s = .next { s with blk := Blk.settle s.blk blk' } ∧ FrameM 0x400090008 (s.blk.pass w) blk' := by
  unfold execPcieCompletionTimeout State.upd
  refine ⟨_, Eq.refl _, ?_⟩
  repeat' first
    | simp only [Nat.reduceAnd, FrameM.refl, FrameM.ite, FrameM.fold, implies_true, and_self, and_true, true_and, FrameM.iff (Blk.complete_frame _ _ _ _), FrameM.iff (Blk.beginDesc_frame _ _ _)]
    | split
    | refine ⟨?_, ?_⟩
    | intro _
    | (with_reducible refine FrameM.foldI (fun _ _ => ?_) ?_)

theorem execClientTableLockTimeout_runs (w : Nat) (s : State) :
    ∃ blk', execClientTableLockTimeout w s = .next { s with blk := Blk.settle s.blk blk' } ∧ FrameM 0x420090008 (s.blk.pass w) blk' := by
  unfold execClientTableLockTimeout State.upd
  refine ⟨_, Eq.refl _, ?_⟩
  repeat' first
    | simp only [Nat.reduceAnd, FrameM.refl, FrameM.ite, FrameM.fold, implies_true, and_self, and_true, true_and, FrameM.iff (Blk.lockTimeout_frame _)]
    | split
    | refine ⟨?_, ?_⟩
    | intro _
    | (with_reducible refine FrameM.foldI (fun _ _ => ?_) ?_)

theorem execCtFlushDone_runs (w : Nat) (s : State) :
    ∃ blk', execCtFlushDone w s = .next { s with blk := Blk.settle s.blk blk' } ∧ FrameM 0x420090008 (s.blk.pass w) blk' := by
  unfold execCtFlushDone State.upd
  refine ⟨_, Eq.refl _, ?_⟩
  repeat' first
    | simp only [Nat.reduceAnd, FrameM.refl, FrameM.ite, FrameM.fold, implies_true, and_self, and_true, true_and, FrameM.iff (Blk.flushDone_frame _)]
    | split
    | refine ⟨?_, ?_⟩
    | intro _
    | (with_reducible refine FrameM.foldI (fun _ _ => ?_) ?_)

theorem execCtScanDone_runs (w : Nat) (s : State) :
    ∃ blk', execCtScanDone w s = .next { s with blk := Blk.settle s.blk blk' } ∧ FrameM 0x420090028 (s.blk.pass w) blk' := by
  unfold execCtScanDone State.upd
  refine ⟨_, Eq.refl _, ?_⟩
  repeat' first
    | simp only [Nat.reduceAnd, FrameM.refl, FrameM.ite, FrameM.fold, implies_true, and_self, and_true, true_and, FrameM.iff (Blk.scanDone_frame _)]
    | split
    | refine ⟨?_, ?_⟩
    | intro _
    | (with_reducible refine FrameM.foldI (fun _ _ => ?_) ?_)

theorem execBothClaimSettle_runs (w : Nat) (s : State) :
    ∃ blk', execBothClaimSettle w s = .next { s with blk := Blk.settle s.blk blk' } ∧ FrameM 0x689eb07b8 (s.blk.pass w) blk' := by
  unfold execBothClaimSettle State.upd
  refine ⟨_, Eq.refl _, ?_⟩
  repeat' first
    | simp only [Nat.reduceAnd, FrameM.refl, FrameM.ite, FrameM.fold, implies_true, and_self, and_true, true_and, FrameM.iff (Blk.txRetry_frame _), FrameM.iff (Blk.bothClaim_frame _)]
    | split
    | refine ⟨?_, ?_⟩
    | intro _
    | (with_reducible refine FrameM.foldI (fun _ _ => ?_) ?_)

end Sys2Proof.Machine
end

