-- ==== Sys2Proof/Laws/PerInstr.lean ====
section
/-! SUPPORT. Per-command laws. Family `Word`: no word of the table's bits spells the command (log entry 44). -/

namespace Sys2Proof.Laws.Word

/-- No word of any length decodes to the command. -/
def Statement (i : Instr) : Prop := ∀ n w : Nat, decodeTableWord n w ≠ some i

/-- The decoder answers no command at all. -/
theorem decode_none (n w : Nat) : decodeTableWord n w = none := rfl

theorem vinPowerOn (w : Nat) (on : Bool) : Statement (.vinPowerOn w on) := fun _ _ h => nomatch h
theorem resetN (w : Nat) (on : Bool) : Statement (.resetN w on) := fun _ _ h => nomatch h
theorem thermalTrip (w : Nat) (tj : Int) : Statement (.thermalTrip w tj) := fun _ _ h => nomatch h
theorem watchdog (w : Nat) : Statement (.watchdog w) := fun _ _ h => nomatch h
theorem devReset (w : Nat) (f : Nat) (v : Nat) : Statement (.devReset w f v) := fun _ _ h => nomatch h
theorem vkeepPowerOn (w : Nat) : Statement (.vkeepPowerOn w) := fun _ _ h => nomatch h
theorem vkeepLost (w : Nat) : Statement (.vkeepLost w) := fun _ _ h => nomatch h
theorem perst (w : Nat) (on : Bool) : Statement (.perst w on) := fun _ _ h => nomatch h
theorem flr (w : Nat) (f : Nat) : Statement (.flr w f) := fun _ _ h => nomatch h
theorem benchReset (w : Nat) (f : Nat) (index : Nat) : Statement (.benchReset w f index) := fun _ _ h => nomatch h
theorem engineReset (w : Nat) (f : Nat) (index : Nat) : Statement (.engineReset w f index) := fun _ _ h => nomatch h
theorem portReset (w : Nat) (f : Nat) (index : Nat) : Statement (.portReset w f index) := fun _ _ h => nomatch h
theorem unitResetDone (w : Nat) (kind : Nat) (index : Nat) : Statement (.unitResetDone w kind index) := fun _ _ h => nomatch h
theorem bootStart (w : Nat) : Statement (.bootStart w) := fun _ _ h => nomatch h
theorem bootStepDone (w : Nat) : Statement (.bootStepDone w) := fun _ _ h => nomatch h
theorem bootStepFail (w : Nat) (result : Nat) (lanes0 : Nat) (lanes1 : Nat) : Statement (.bootStepFail w result lanes0 lanes1) := fun _ _ h => nomatch h
theorem bootRestart (w : Nat) : Statement (.bootRestart w) := fun _ _ h => nomatch h
theorem cfgFallback (w : Nat) : Statement (.cfgFallback w) := fun _ _ h => nomatch h
theorem oscinLost (w : Nat) : Statement (.oscinLost w) := fun _ _ h => nomatch h
theorem modeRequest (w : Nat) (r : Nat) : Statement (.modeRequest w r) := fun _ _ h => nomatch h
theorem drainDone (w : Nat) : Statement (.drainDone w) := fun _ _ h => nomatch h
theorem diagnosticExitDone (w : Nat) (ok : Bool) : Statement (.diagnosticExitDone w ok) := fun _ _ h => nomatch h
theorem lockGained (w : Nat) : Statement (.lockGained w) := fun _ _ h => nomatch h
theorem lockLost (w : Nat) : Statement (.lockLost w) := fun _ _ h => nomatch h
theorem policySetFeatures (w : Nat) (r : Nat) : Statement (.policySetFeatures w r) := fun _ _ h => nomatch h
theorem policySetGateList (w : Nat) (r : Nat) (img : Bytes) : Statement (.policySetGateList w r img) := fun _ _ h => nomatch h
theorem policySetPortLpi (w : Nat) (r : Nat) : Statement (.policySetPortLpi w r) := fun _ _ h => nomatch h
theorem awlCal (w : Nat) (r : Nat) : Statement (.awlCal w r) := fun _ _ h => nomatch h
theorem clientPolicy (w : Nat) (r : Nat) (img : Bytes) : Statement (.clientPolicy w r img) := fun _ _ h => nomatch h
theorem serviceAddr (w : Nat) (r : Nat) (img : Bytes) : Statement (.serviceAddr w r img) := fun _ _ h => nomatch h
theorem selftest (w : Nat) (r : Nat) (buf : Bytes) : Statement (.selftest w r buf) := fun _ _ h => nomatch h
theorem selftestDone (w : Nat) : Statement (.selftestDone w) := fun _ _ h => nomatch h
theorem tbsNow0Read (w : Nat) (f : Nat) : Statement (.tbsNow0Read w f) := fun _ _ h => nomatch h
theorem keepRtcLoad (w : Nat) : Statement (.keepRtcLoad w) := fun _ _ h => nomatch h
theorem leapInstall (w : Nat) (r : Nat) : Statement (.leapInstall w r) := fun _ _ h => nomatch h
theorem leapCancel (w : Nat) (r : Nat) : Statement (.leapCancel w r) := fun _ _ h => nomatch h
theorem leapWarnStart (w : Nat) : Statement (.leapWarnStart w) := fun _ _ h => nomatch h
theorem smearSample (w : Nat) : Statement (.smearSample w) := fun _ _ h => nomatch h
theorem smearEnd (w : Nat) : Statement (.smearEnd w) := fun _ _ h => nomatch h
theorem timeAdjustOffset (w : Nat) (r : Nat) : Statement (.timeAdjustOffset w r) := fun _ _ h => nomatch h
theorem timeAdjustSet (w : Nat) (r : Nat) : Statement (.timeAdjustSet w r) := fun _ _ h => nomatch h
theorem slewCancel (w : Nat) (r : Nat) : Statement (.slewCancel w r) := fun _ _ h => nomatch h
theorem slewDone (w : Nat) : Statement (.slewDone w) := fun _ _ h => nomatch h
theorem lasterArm (w : Nat) (r : Nat) (block : Bytes) : Statement (.lasterArm w r block) := fun _ _ h => nomatch h
theorem lasterCancel (w : Nat) (r : Nat) : Statement (.lasterCancel w r) := fun _ _ h => nomatch h
theorem lasterSpillFill (w : Nat) (i : Nat) : Statement (.lasterSpillFill w i) := fun _ _ h => nomatch h
theorem lasterIssue (w : Nat) (i : Nat) : Statement (.lasterIssue w i) := fun _ _ h => nomatch h
theorem launchEntry (w : Nat) (i : Nat) : Statement (.launchEntry w i) := fun _ _ h => nomatch h
theorem gateListEntry (w : Nat) (i : Nat) (dev : Bool) : Statement (.gateListEntry w i dev) := fun _ _ h => nomatch h
theorem outputOn (w : Nat) (i : Nat) : Statement (.outputOn w i) := fun _ _ h => nomatch h
theorem outputOff (w : Nat) (i : Nat) : Statement (.outputOff w i) := fun _ _ h => nomatch h
theorem captureOpen (w : Nat) (i : Nat) : Statement (.captureOpen w i) := fun _ _ h => nomatch h
theorem captureClose (w : Nat) (i : Nat) : Statement (.captureClose w i) := fun _ _ h => nomatch h
theorem outEdge (w : Nat) (u : Nat) : Statement (.outEdge w u) := fun _ _ h => nomatch h
theorem keyRoll (w : Nat) (n : Nat) (expiry : Bool) : Statement (.keyRoll w n expiry) := fun _ _ h => nomatch h
theorem leapEntry (w : Nat) : Statement (.leapEntry w) := fun _ _ h => nomatch h
theorem adjustEntry (w : Nat) (i : Nat) : Statement (.adjustEntry w i) := fun _ _ h => nomatch h
theorem holdCheck (w : Nat) : Statement (.holdCheck w) := fun _ _ h => nomatch h
theorem ptpSweep (w : Nat) (p : Nat) (n : Int) (client : Bool) : Statement (.ptpSweep w p n client) := fun _ _ h => nomatch h
theorem hostEvent (w : Nat) (i : Nat) : Statement (.hostEvent w i) := fun _ _ h => nomatch h
theorem synth (w : Nat) (e : Nat) : Statement (.synth w e) := fun _ _ h => nomatch h
theorem gnssMessage (w : Nat) (slot : Nat) (bytes : Bytes) : Statement (.gnssMessage w slot bytes) := fun _ _ h => nomatch h
theorem refComparison (w : Nat) (slot : Nat) (t : Int) (tRef : Int) : Statement (.refComparison w slot t tRef) := fun _ _ h => nomatch h
theorem refEvalTick (w : Nat) (slot : Nat) (missed : Bool) : Statement (.refEvalTick w slot missed) := fun _ _ h => nomatch h
theorem qualTimerExpire (w : Nat) (slot : Nat) : Statement (.qualTimerExpire w slot) := fun _ _ h => nomatch h
theorem wtrTimerExpire (w : Nat) (slot : Nat) : Statement (.wtrTimerExpire w slot) := fun _ _ h => nomatch h
theorem sentinelRound (w : Nat) : Statement (.sentinelRound w) := fun _ _ h => nomatch h
theorem ensembleUpdate (w : Nat) : Statement (.ensembleUpdate w) := fun _ _ h => nomatch h
theorem acqNarrow (w : Nat) : Statement (.acqNarrow w) := fun _ _ h => nomatch h
theorem refForce (w : Nat) (r : Nat) : Statement (.refForce w r) := fun _ _ h => nomatch h
theorem refRelease (w : Nat) (r : Nat) : Statement (.refRelease w r) := fun _ _ h => nomatch h
theorem refLockout (w : Nat) (r : Nat) : Statement (.refLockout w r) := fun _ _ h => nomatch h
theorem refClear (w : Nat) (r : Nat) : Statement (.refClear w r) := fun _ _ h => nomatch h
theorem refClearWtr (w : Nat) (r : Nat) : Statement (.refClearWtr w r) := fun _ _ h => nomatch h
theorem refSetPrio (w : Nat) (r : Nat) : Statement (.refSetPrio w r) := fun _ _ h => nomatch h
theorem refAcceptPath (w : Nat) (r : Nat) : Statement (.refAcceptPath w r) := fun _ _ h => nomatch h
theorem refSetBw (w : Nat) (r : Nat) : Statement (.refSetBw w r) := fun _ _ h => nomatch h
theorem refSetMode (w : Nat) (r : Nat) : Statement (.refSetMode w r) := fun _ _ h => nomatch h
theorem tempSample (w : Nat) (ok : Bool) (t : Int) : Statement (.tempSample w ok t) := fun _ _ h => nomatch h
theorem heelLearnSample (w : Nat) : Statement (.heelLearnSample w) := fun _ _ h => nomatch h
theorem outputRealign (w : Nat) (r : Nat) : Statement (.outputRealign w r) := fun _ _ h => nomatch h
theorem realignStart (w : Nat) (u : Nat) : Statement (.realignStart w u) := fun _ _ h => nomatch h
theorem realignDone (w : Nat) (u : Nat) : Statement (.realignDone w u) := fun _ _ h => nomatch h
theorem firstAlign (w : Nat) (u : Nat) : Statement (.firstAlign w u) := fun _ _ h => nomatch h
theorem eyeletEdge (w : Nat) (e : Nat) (high : Bool) (held : Nat) (pos : Nat) (phase : Nat) : Statement (.eyeletEdge w e high held pos phase) := fun _ _ h => nomatch h
theorem mismatch (w : Nat) (sensed : Nat) : Statement (.mismatch w sensed) := fun _ _ h => nomatch h
theorem stuckOn (w : Nat) (e : Nat) : Statement (.stuckOn w e) := fun _ _ h => nomatch h
theorem chatOff (w : Nat) (e : Nat) : Statement (.chatOff w e) := fun _ _ h => nomatch h
theorem nostop (w : Nat) (e : Nat) : Statement (.nostop w e) := fun _ _ h => nomatch h
theorem freqGateEnd (w : Nat) (e : Nat) : Statement (.freqGateEnd w e) := fun _ _ h => nomatch h
theorem tbLost (w : Nat) (back : Nat) : Statement (.tbLost w back) := fun _ _ h => nomatch h
theorem tbBack (w : Nat) : Statement (.tbBack w) := fun _ _ h => nomatch h
theorem awlRecordDeliver (w : Nat) (e : Nat) : Statement (.awlRecordDeliver w e) := fun _ _ h => nomatch h
theorem pinStart (w : Nat) (f : Nat) : Statement (.pinStart w f) := fun _ _ h => nomatch h
theorem calPeriodic (w : Nat) (tj : Int) : Statement (.calPeriodic w tj) := fun _ _ h => nomatch h
theorem calStepDone (w : Nat) (edge : Bool) (diff : Nat) (dly : Nat) : Statement (.calStepDone w edge diff dly) := fun _ _ h => nomatch h
theorem frameReceived (w : Nat) (p : Nat) (bs : Bytes) (age : Nat) (var : Int) (bad : Bool) : Statement (.frameReceived w p bs age var bad) := fun _ _ h => nomatch h
theorem linkChange (w : Nat) (p : Nat) (lock : Bool) (fec : Bool) (aligned : Bool) (localFault : Bool) (remoteFault : Bool) (lpi : Bool) : Statement (.linkChange w p lock fec aligned localFault remoteFault lpi) := fun _ _ h => nomatch h
theorem pauseExpire (w : Nat) (p : Nat) : Statement (.pauseExpire w p) := fun _ _ h => nomatch h
theorem storm (w : Nat) (p : Nat) : Statement (.storm w p) := fun _ _ h => nomatch h
theorem stormEnd (w : Nat) (p : Nat) : Statement (.stormEnd w p) := fun _ _ h => nomatch h
theorem frameStart (w : Nat) (p : Nat) : Statement (.frameStart w p) := fun _ _ h => nomatch h
theorem lpiEnter (w : Nat) (p : Nat) : Statement (.lpiEnter w p) := fun _ _ h => nomatch h
theorem lpiWake (w : Nat) (p : Nat) : Statement (.lpiWake w p) := fun _ _ h => nomatch h
theorem qlTimeout (w : Nat) (p : Nat) : Statement (.qlTimeout w p) := fun _ _ h => nomatch h
theorem esmcTx (w : Nat) (p : Nat) : Statement (.esmcTx w p) := fun _ _ h => nomatch h
theorem gclCommit (w : Nat) (f : Nat) (p : Nat) : Statement (.gclCommit w f p) := fun _ _ h => nomatch h
theorem gclAbort (w : Nat) (f : Nat) (p : Nat) : Statement (.gclAbort w f p) := fun _ _ h => nomatch h
theorem prtGclDataAccess (w : Nat) (f : Nat) (p : Nat) (write : Bool) (v : Nat) : Statement (.prtGclDataAccess w f p write v) := fun _ _ h => nomatch h
theorem txFrame (w : Nat) (r : Nat) (data : Bytes) : Statement (.txFrame w r data) := fun _ _ h => nomatch h
theorem txFrameDone (w : Nat) : Statement (.txFrameDone w) := fun _ _ h => nomatch h
theorem rxBuffer (w : Nat) (r : Nat) : Statement (.rxBuffer w r) := fun _ _ h => nomatch h
theorem excDeliver (w : Nat) : Statement (.excDeliver w) := fun _ _ h => nomatch h
theorem dispatchAssign (w : Nat) : Statement (.dispatchAssign w) := fun _ _ h => nomatch h
theorem engineInvoke (w : Nat) (lane : Nat) (hit : Bool) : Statement (.engineInvoke w lane hit) := fun _ _ h => nomatch h
theorem bucketArrive (w : Nat) (lane : Nat) : Statement (.bucketArrive w lane) := fun _ _ h => nomatch h
theorem patternReturn (w : Nat) (lane : Nat) (code : Nat) (instr : Nat) (scratch : Bytes) : Statement (.patternReturn w lane code instr scratch) := fun _ _ h => nomatch h
theorem overrun (w : Nat) (lane : Nat) (instr : Nat) (scratch : Bytes) : Statement (.overrun w lane instr scratch) := fun _ _ h => nomatch h
theorem bucketLeaseExpire (w : Nat) (lane : Nat) : Statement (.bucketLeaseExpire w lane) := fun _ _ h => nomatch h
theorem closerCommit (w : Nat) (p : Nat) : Statement (.closerCommit w p) := fun _ _ h => nomatch h
theorem fairEpoch (w : Nat) : Statement (.fairEpoch w) := fun _ _ h => nomatch h
theorem ageShed (w : Nat) : Statement (.ageShed w) := fun _ _ h => nomatch h
theorem ageingScan (w : Nat) : Statement (.ageingScan w) := fun _ _ h => nomatch h
theorem ctLookup (w : Nat) (r : Nat) : Statement (.ctLookup w r) := fun _ _ h => nomatch h
theorem ctUpsert (w : Nat) (r : Nat) : Statement (.ctUpsert w r) := fun _ _ h => nomatch h
theorem ctDelete (w : Nat) (r : Nat) : Statement (.ctDelete w r) := fun _ _ h => nomatch h
theorem ctResetCounts (w : Nat) (r : Nat) : Statement (.ctResetCounts w r) := fun _ _ h => nomatch h
theorem ctFlush (w : Nat) (r : Nat) : Statement (.ctFlush w r) := fun _ _ h => nomatch h
theorem ctScanNow (w : Nat) (r : Nat) : Statement (.ctScanNow w r) := fun _ _ h => nomatch h
theorem patternLoad (w : Nat) (r : Nat) (img : Bytes) : Statement (.patternLoad w r img) := fun _ _ h => nomatch h
theorem benchDrained (w : Nat) (parity : Bool) : Statement (.benchDrained w parity) := fun _ _ h => nomatch h
theorem keyInstall (w : Nat) (r : Nat) (blk : Bytes) : Statement (.keyInstall w r blk) := fun _ _ h => nomatch h
theorem keyRetire (w : Nat) (r : Nat) : Statement (.keyRetire w r) := fun _ _ h => nomatch h
theorem keyEmpty (w : Nat) (n : Nat) : Statement (.keyEmpty w n) := fun _ _ h => nomatch h
theorem aged (w : Nat) (k : Nat) : Statement (.aged w k) := fun _ _ h => nomatch h
theorem resealStart (w : Nat) (lane : Nat) : Statement (.resealStart w lane) := fun _ _ h => nomatch h
theorem grantExpire (w : Nat) (i : Nat) (msg : Nat) : Statement (.grantExpire w i msg) := fun _ _ h => nomatch h
theorem clientRenew (w : Nat) (p : Nat) (m : Nat) (msg : Nat) : Statement (.clientRenew w p m msg) := fun _ _ h => nomatch h
theorem announceTimeout (w : Nat) (p : Nat) (who : Nat) : Statement (.announceTimeout w p who) := fun _ _ h => nomatch h
theorem followUp (w : Nat) : Statement (.followUp w) := fun _ _ h => nomatch h
theorem maxResExpire (w : Nat) (p : Nat) (id : Nat) : Statement (.maxResExpire w p id) := fun _ _ h => nomatch h
theorem asymEstimateDone (w : Nat) (p : Nat) : Statement (.asymEstimateDone w p) := fun _ _ h => nomatch h
theorem sesOpen (w : Nat) (f : Nat) : Statement (.sesOpen w f) := fun _ _ h => nomatch h
theorem sessionVerifyDone (w : Nat) (f : Nat) : Statement (.sessionVerifyDone w f) := fun _ _ h => nomatch h
theorem sesClose (w : Nat) (f : Nat) : Statement (.sesClose w f) := fun _ _ h => nomatch h
theorem lockoutEnd (w : Nat) (f : Nat) : Statement (.lockoutEnd w f) := fun _ _ h => nomatch h
theorem idleTimeout (w : Nat) (f : Nat) : Statement (.idleTimeout w f) := fun _ _ h => nomatch h
theorem sesProvLoad (w : Nat) (f : Nat) : Statement (.sesProvLoad w f) := fun _ _ h => nomatch h
theorem ringEnable (w : Nat) (r : Nat) : Statement (.ringEnable w r) := fun _ _ h => nomatch h
theorem ringDisable (w : Nat) (r : Nat) : Statement (.ringDisable w r) := fun _ _ h => nomatch h
theorem doorbellPoll (w : Nat) (vals : List Nat) (lost : List Nat) : Statement (.doorbellPoll w vals lost) := fun _ _ h => nomatch h
theorem hrgNudge (w : Nat) (f : Nat) (vals : List Nat) : Statement (.hrgNudge w f vals) := fun _ _ h => nomatch h
theorem descriptorFetch (w : Nat) (r : Nat) (data : Bytes) : Statement (.descriptorFetch w r data) := fun _ _ h => nomatch h
theorem eventRingEnable (w : Nat) (f : Nat) : Statement (.eventRingEnable w f) := fun _ _ h => nomatch h
theorem anchor (w : Nat) : Statement (.anchor w) := fun _ _ h => nomatch h
theorem interrupt (w : Nat) (f : Nat) (v : Nat) : Statement (.interrupt w f v) := fun _ _ h => nomatch h
theorem statsSnapshot (w : Nat) (r : Nat) : Statement (.statsSnapshot w r) := fun _ _ h => nomatch h
theorem lcsArm (w : Nat) (f : Nat) (v : Nat) : Statement (.lcsArm w f v) := fun _ _ h => nomatch h
theorem lcsGo (w : Nat) (f : Nat) (v : Nat) (stop : Nat) : Statement (.lcsGo w f v stop) := fun _ _ h => nomatch h
theorem lcsKeyInstall (w : Nat) (f : Nat) (v : Nat) : Statement (.lcsKeyInstall w f v) := fun _ _ h => nomatch h
theorem lcsKeyErase (w : Nat) (f : Nat) (v : Nat) : Statement (.lcsKeyErase w f v) := fun _ _ h => nomatch h
theorem optWriteStart (w : Nat) (f : Nat) (copyB : Bool) : Statement (.optWriteStart w f copyB) := fun _ _ h => nomatch h
theorem optWriteDone (w : Nat) (bytes : Bytes) (fault : Nat) : Statement (.optWriteDone w bytes fault) := fun _ _ h => nomatch h
theorem raiseSvn (w : Nat) (f : Nat) : Statement (.raiseSvn w f) := fun _ _ h => nomatch h
theorem weltLinkUp (w : Nat) : Statement (.weltLinkUp w) := fun _ _ h => nomatch h
theorem weltLinkLost (w : Nat) (fails : Nat) : Statement (.weltLinkLost w fails) := fun _ _ h => nomatch h
theorem arbTest (w : Nat) (ok : Bool) : Statement (.arbTest w ok) := fun _ _ h => nomatch h
theorem attachAttempt (w : Nat) (peer : Option TwinPeer) : Statement (.attachAttempt w peer) := fun _ _ h => nomatch h
theorem attachRetry (w : Nat) (peer : Option TwinPeer) : Statement (.attachRetry w peer) := fun _ _ h => nomatch h
theorem mirrorApply (w : Nat) (item : Mirror) : Statement (.mirrorApply w item) := fun _ _ h => nomatch h
theorem mirrorCreditTimeout (w : Nat) (full : Bool) : Statement (.mirrorCreditTimeout w full) := fun _ _ h => nomatch h
theorem mirrorSync (w : Nat) : Statement (.mirrorSync w) := fun _ _ h => nomatch h
theorem markerTx (w : Nat) : Statement (.markerTx w) := fun _ _ h => nomatch h
theorem markerRx (w : Nat) (age : Nat) (mode : Nat) (status : Nat) (have4 : Bool) (t1 : Int) (t4 : Int) : Statement (.markerRx w age mode status have4 t1 t4) := fun _ _ h => nomatch h
theorem failBlockRx (w : Nat) (handover : Bool) : Statement (.failBlockRx w handover) := fun _ _ h => nomatch h
theorem twarbBChange (w : Nat) (level : Bool) : Statement (.twarbBChange w level) := fun _ _ h => nomatch h
theorem takeover (w : Nat) : Statement (.takeover w) := fun _ _ h => nomatch h
theorem twinAttach (w : Nat) (r : Nat) : Statement (.twinAttach w r) := fun _ _ h => nomatch h
theorem attachTimeout (w : Nat) : Statement (.attachTimeout w) := fun _ _ h => nomatch h
theorem twinDetach (w : Nat) (r : Nat) (peer : Bool) : Statement (.twinDetach w r peer) := fun _ _ h => nomatch h
theorem twinSwitchover (w : Nat) (r : Nat) : Statement (.twinSwitchover w r) := fun _ _ h => nomatch h
theorem twinSetKey (w : Nat) (r : Nat) (blk : Bytes) : Statement (.twinSetKey w r blk) := fun _ _ h => nomatch h
theorem twinResetPeer (w : Nat) (r : Nat) : Statement (.twinResetPeer w r) := fun _ _ h => nomatch h
theorem twinCommandedReset (w : Nat) : Statement (.twinCommandedReset w) := fun _ _ h => nomatch h
theorem twinStatus (w : Nat) (r : Nat) : Statement (.twinStatus w r) := fun _ _ h => nomatch h
theorem hostStall (w : Nat) : Statement (.hostStall w) := fun _ _ h => nomatch h
theorem storeTimeout (w : Nat) (lane : Nat) : Statement (.storeTimeout w lane) := fun _ _ h => nomatch h
theorem egExpire (w : Nat) : Statement (.egExpire w) := fun _ _ h => nomatch h
theorem txwExpire (w : Nat) : Statement (.txwExpire w) := fun _ _ h => nomatch h
theorem errorRaised (w : Nat) (code : Nat) (unit : Nat) (detail : Nat) (item : Nat) : Statement (.errorRaised w code unit detail item) := fun _ _ h => nomatch h
theorem errorHandlingDone (w : Nat) : Statement (.errorHandlingDone w) := fun _ _ h => nomatch h
theorem goInject (w : Nat) (f : Nat) (v : Nat) : Statement (.goInject w f v) := fun _ _ h => nomatch h
theorem errLogRead (w : Nat) (f : Nat) (i : Nat) : Statement (.errLogRead w f i) := fun _ _ h => nomatch h
theorem counterLoRead (w : Nat) (f : Nat) (off : Nat) : Statement (.counterLoRead w f off) := fun _ _ h => nomatch h
theorem hldOmisRead (w : Nat) (f : Nat) (u : Nat) : Statement (.hldOmisRead w f u) := fun _ _ h => nomatch h
theorem pmcCntLoRead (w : Nat) (f : Nat) (i : Nat) : Statement (.pmcCntLoRead w f i) := fun _ _ h => nomatch h
theorem pmcCntHiWrite (w : Nat) (f : Nat) (i : Nat) (v : Nat) : Statement (.pmcCntHiWrite w f i v) := fun _ _ h => nomatch h
theorem pmcCntLoWrite (w : Nat) (f : Nat) (i : Nat) (v : Nat) : Statement (.pmcCntLoWrite w f i v) := fun _ _ h => nomatch h
theorem pmcWrap (w : Nat) (i : Nat) (n : Nat) (engine : Nat) (entry : Nat) (offset : Nat) (idle : Bool) : Statement (.pmcWrap w i n engine entry offset idle) := fun _ _ h => nomatch h
theorem gsumReport (w : Nat) (f : Nat) : Statement (.gsumReport w f) := fun _ _ h => nomatch h
theorem evtGintEnWrite (w : Nat) (f : Nat) (v : Nat) : Statement (.evtGintEnWrite w f v) := fun _ _ h => nomatch h
theorem registerWrite (w : Nat) (f : Nat) (off : Nat) (be : Nat) (write : Bool) (vals : List Nat) : Statement (.registerWrite w f off be write vals) := fun _ _ h => nomatch h
theorem startupOscillatorLost (w : Nat) : Statement (.startupOscillatorLost w) := fun _ _ h => nomatch h
theorem pcieCompletionTimeout (w : Nat) (r : Nat) : Statement (.pcieCompletionTimeout w r) := fun _ _ h => nomatch h
theorem clientTableLockTimeout (w : Nat) : Statement (.clientTableLockTimeout w) := fun _ _ h => nomatch h
theorem ctFlushDone (w : Nat) : Statement (.ctFlushDone w) := fun _ _ h => nomatch h
theorem ctScanDone (w : Nat) : Statement (.ctScanDone w) := fun _ _ h => nomatch h
theorem bothClaimSettle (w : Nat) : Statement (.bothClaimSettle w) := fun _ _ h => nomatch h

end Sys2Proof.Laws.Word
end

