-- ==== Sys2Proof/Laws/State.lean ====
section
/-! SUPPORT. Tables and registers read after a write, and one lemma for each field and each named update of the block, so that no later
proof unfolds a record update. -/

namespace Sys2Proof.Machine

/-! ### Tables -/

theorem tget_tput_self {α : Type} (d : α) (t : Tab α) (k : Nat) (v : α) : tget d (tput t k v) k = v := by
  induction t with
  | nil => simp [tput, tget]
  | cons e t ih =>
    obtain ⟨k', v'⟩ := e
    unfold tput
    split
    · simp [tget]
    · split
      · simp [tget]
      · next h1 h2 => simp [tget, Ne.symm h2, ih]

theorem tget_tput_ne {α : Type} (d : α) (t : Tab α) {k q : Nat} (v : α) (h : q ≠ k) : tget d (tput t k v) q = tget d t q := by
  induction t with
  | nil => simp [tput, tget, Ne.symm h]
  | cons e t ih =>
    obtain ⟨k', v'⟩ := e
    unfold tput
    split
    · simp [tget, Ne.symm h]
    · split
      · next h1 h2 => subst h2; simp [tget, Ne.symm h]
      · simp [tget, ih]

@[simp] theorem tget_tput {α : Type} (d : α) (t : Tab α) (k q : Nat) (v : α) :
    tget d (tput t k v) q = if q = k then v else tget d t q := by
  by_cases h : q = k
  · subst h; simp [tget_tput_self]
  · simp [h, tget_tput_ne d t v h]

@[simp] theorem tget_nil {α : Type} (d : α) (k : Nat) : tget d ([] : Tab α) k = d := Eq.refl _

/-! ### Registers -/

theorem rfGet_filter (l : RegFile) (p : Nat → Bool) (k : Nat) :
    rfGet (l.filter fun e => p e.1) k = if p k then rfGet l k else resetWord k := by
  induction l with
  | nil => simp [rfGet]
  | cons e l ih =>
    obtain ⟨k', v⟩ := e
    by_cases hp : p k'
    · simp only [List.filter_cons, hp, if_true, rfGet, ih]
      by_cases hk : k' = k
      · subst hk; simp [hp]
      · simp [hk]
    · rw [List.filter_cons_of_neg (by simpa using hp), ih]
      by_cases hk : k' = k
      · subst hk; simp [hp]
      · simp [rfGet, hk]

theorem rfGet_tput (l : RegFile) (k q : Nat) (v : Word) : rfGet (tput l k v) q = if q = k then v else rfGet l q := by
  induction l with
  | nil => by_cases h : q = k <;> simp [tput, rfGet, h, Ne.symm]
  | cons e l ih =>
    obtain ⟨k', v'⟩ := e
    unfold tput
    split
    · by_cases h : q = k
      · simp [rfGet, h]
      · simp [rfGet, h, Ne.symm h]
    · split
      · next h1 h2 =>
        subst h2
        by_cases h : q = k
        · simp [rfGet, h]
        · simp [rfGet, h, Ne.symm h]
      · next h1 h2 =>
        by_cases h : k' = q
        · subst h; simp [rfGet, Ne.symm h2]
        · simp [rfGet, h, ih]

/-- A register reads as it was last written; the others are left alone. -/
@[simp] theorem rfGet_rfPut (l : RegFile) (k q : Nat) (v : Word) : rfGet (rfPut l k v) q = if q = k then v else rfGet l q := by
  unfold rfPut
  by_cases hv : v = resetWord k
  · rw [if_pos hv, rfGet_filter l (fun x => x != k) q]
    by_cases h : q = k
    · subst h; simp [hv]
    · simp [h]
  · rw [if_neg hv, rfGet_tput]

/-- A field that has been written reads as its lowest bits. -/
theorem fieldOf_withField (v : Word) (lo w x : Nat) (h : lo + w ≤ 32) : fieldOf (withField v lo w x) lo w = x % 2 ^ w := by
  have hv := v.isLt
  unfold fieldOf withField
  rw [BitVec.toNat_ofNat]
  set a := v.toNat / 2 ^ (lo + w)
  set c := v.toNat % 2 ^ lo
  have hp : 2 ^ (lo + w) = 2 ^ lo * 2 ^ w := pow_add 2 lo w
  have hc : c < 2 ^ lo := Nat.mod_lt _ (by positivity)
  have hx : x % 2 ^ w < 2 ^ w := Nat.mod_lt _ (by positivity)
  have h32 : 2 ^ (lo + w) * 2 ^ (32 - (lo + w)) = 2 ^ 32 := by rw [← pow_add]; congr 1; omega
  have ha : a < 2 ^ (32 - (lo + w)) := Nat.div_lt_of_lt_mul (by rw [h32]; exact hv)
  have key : a * 2 ^ (lo + w) + x % 2 ^ w * 2 ^ lo + c = c + 2 ^ lo * (x % 2 ^ w + 2 ^ w * a) := by rw [hp]; ring
  have hlt : c + 2 ^ lo * (x % 2 ^ w + 2 ^ w * a) < 2 ^ 32 := by
    have h1 : x % 2 ^ w + 2 ^ w * a + 1 ≤ 2 ^ w * (a + 1) := by rw [mul_add, mul_one]; omega
    calc c + 2 ^ lo * (x % 2 ^ w + 2 ^ w * a) < 2 ^ lo * (x % 2 ^ w + 2 ^ w * a + 1) := by rw [mul_add _ _ 1, mul_one]; omega
      _ ≤ 2 ^ lo * (2 ^ w * (a + 1)) := Nat.mul_le_mul_left _ h1
      _ = 2 ^ (lo + w) * (a + 1) := by rw [hp]; ring
      _ ≤ 2 ^ (lo + w) * 2 ^ (32 - (lo + w)) := Nat.mul_le_mul_left _ ha
      _ = 2 ^ 32 := h32
  rw [key, Nat.mod_eq_of_lt hlt, Nat.add_mul_div_left _ _ (by positivity), Nat.div_eq_of_lt hc, Nat.zero_add,
    Nat.add_mul_mod_self_left, Nat.mod_mod]

/-- A field reads below its width. -/
theorem fieldOf_lt (v : Word) (lo w : Nat) : fieldOf v lo w < 2 ^ w := Nat.mod_lt _ (by positivity)

/-- A field is left alone by a write of another field of its register. -/
theorem fieldOf_withField_disj (v : Word) (lo w l2 w2 x : Nat) (h : lo + w ≤ 32) (hd : l2 + w2 ≤ lo ∨ lo + w ≤ l2) :
    fieldOf (withField v lo w x) l2 w2 = fieldOf v l2 w2 := by
  have hv := v.isLt
  have hx : x % 2 ^ w < 2 ^ w := Nat.mod_lt _ (by positivity)
  have hc : v.toNat % 2 ^ lo < 2 ^ lo := Nat.mod_lt _ (by positivity)
  unfold fieldOf withField
  rw [BitVec.toNat_ofNat]
  have hp : 2 ^ (lo + w) = 2 ^ lo * 2 ^ w := pow_add 2 lo w
  have key : v.toNat / 2 ^ (lo + w) * 2 ^ (lo + w) + x % 2 ^ w * 2 ^ lo + v.toNat % 2 ^ lo
      = (v.toNat % 2 ^ lo) ||| ((x % 2 ^ w) <<< lo) ||| ((v.toNat / 2 ^ (lo + w)) <<< (lo + w)) := by
    have hlt : (x % 2 ^ w) <<< lo + v.toNat % 2 ^ lo < 2 ^ (lo + w) := by
      rw [hp, Nat.shiftLeft_eq]
      calc x % 2 ^ w * 2 ^ lo + v.toNat % 2 ^ lo < x % 2 ^ w * 2 ^ lo + 2 ^ lo := by omega
        _ = 2 ^ lo * (x % 2 ^ w + 1) := by ring
        _ ≤ 2 ^ lo * 2 ^ w := Nat.mul_le_mul_left _ hx
    rw [Nat.lor_comm (v.toNat % 2 ^ lo), ← Nat.shiftLeft_add_eq_or_of_lt hc, Nat.lor_comm, ← Nat.shiftLeft_add_eq_or_of_lt hlt,
      Nat.shiftLeft_eq, Nat.shiftLeft_eq]
    ring
  refine Nat.eq_of_testBit_eq fun i => ?_
  rw [key, Nat.testBit_mod_two_pow, Nat.testBit_mod_two_pow, Nat.testBit_div_two_pow, Nat.testBit_div_two_pow, Nat.testBit_mod_two_pow]
  simp only [Nat.testBit_or, Nat.testBit_shiftLeft, Nat.testBit_mod_two_pow, Nat.testBit_div_two_pow]
  by_cases hi : i < w2
  · have h32 : 32 ≤ i + l2 → v.toNat.testBit (i + l2) = false := fun h => Nat.testBit_lt_two_pow (lt_of_lt_of_le hv (Nat.pow_le_pow_right (by omega) h))
    by_cases h1 : i + l2 < lo
    · have h2 : ¬ lo + w ≤ i + l2 := by omega
      have h3 : i + l2 < 32 := by omega
      simp [hi, h1, h2, h3, show ¬ lo ≤ i + l2 by omega]
    · have h1' : lo + w ≤ i + l2 := by omega
      have h4 : ¬ i + l2 - lo < w := by omega
      by_cases h3 : i + l2 < 32
      · simp [hi, h1, h1', h3, h4, show i + l2 - (lo + w) + (lo + w) = i + l2 by omega]
      · simp [h3, h32 (by omega)]
  · simp [hi]

theorem Blk.rd_wr_disj (b : Blk) (f g : BF) (v : Nat) (h : f.lo + f.w ≤ 32) (hd : g.off ≠ f.off ∨ g.lo + g.w ≤ f.lo ∨ f.lo + f.w ≤ g.lo) :
    (b.wr f v).rd g = b.rd g := by
  by_cases ho : g.off = f.off
  · simp [Blk.rd, Blk.wr, ho, fieldOf_withField_disj _ _ _ _ _ _ h (hd.resolve_left (by simp [ho]))]
  · simp [Blk.rd, Blk.wr, ho]

theorem Blk.rd_wr_self (b : Blk) (f : BF) (v : Nat) (h : f.lo + f.w ≤ 32) : (b.wr f v).rd f = v % 2 ^ f.w := by
  simp [Blk.rd, Blk.wr, fieldOf_withField _ _ _ _ h]

theorem Blk.rd_wr_off (b : Blk) (f g : BF) (v : Nat) (h : g.off ≠ f.off) : (b.wr f v).rd g = b.rd g := by
  simp [Blk.rd, Blk.wr, h]

/-! ### Named updates -/

@[simp] theorem Blk.wr_part (b : Blk) (f : BF) (v : Nat) : (b.wr f v).part = b.part := Eq.refl _
@[simp] theorem Blk.wr_up (b : Blk) (f : BF) (v : Nat) : (b.wr f v).up = b.up := Eq.refl _
@[simp] theorem Blk.wr_freeCtr (b : Blk) (f : BF) (v : Nat) : (b.wr f v).freeCtr = b.freeCtr := Eq.refl _
@[simp] theorem Blk.wr_out (b : Blk) (f : BF) (v : Nat) : (b.wr f v).out = b.out := Eq.refl _
@[simp] theorem Blk.wr_ctr (b : Blk) (f : BF) (v : Nat) : (b.wr f v).ctr = b.ctr := Eq.refl _
@[simp] theorem Blk.wr_latch (b : Blk) (f : BF) (v : Nat) : (b.wr f v).latch = b.latch := Eq.refl _
@[simp] theorem Blk.wr_mode (b : Blk) (f : BF) (v : Nat) : (b.wr f v).mode = b.mode := Eq.refl _
@[simp] theorem Blk.wr_lastMode (b : Blk) (f : BF) (v : Nat) : (b.wr f v).lastMode = b.lastMode := Eq.refl _
@[simp] theorem Blk.wr_entryCause (b : Blk) (f : BF) (v : Nat) : (b.wr f v).entryCause = b.entryCause := Eq.refl _
@[simp] theorem Blk.wr_holdExpired (b : Blk) (f : BF) (v : Nat) : (b.wr f v).holdExpired = b.holdExpired := Eq.refl _
@[simp] theorem Blk.wr_modeReq (b : Blk) (f : BF) (v : Nat) : (b.wr f v).modeReq = b.modeReq := Eq.refl _
@[simp] theorem Blk.wr_rst (b : Blk) (f : BF) (v : Nat) : (b.wr f v).rst = b.rst := Eq.refl _
@[simp] theorem Blk.wr_boot (b : Blk) (f : BF) (v : Nat) : (b.wr f v).boot = b.boot := Eq.refl _
@[simp] theorem Blk.wr_lcs (b : Blk) (f : BF) (v : Nat) : (b.wr f v).lcs = b.lcs := Eq.refl _
@[simp] theorem Blk.wr_ses (b : Blk) (f : BF) (v : Nat) : (b.wr f v).ses = b.ses := Eq.refl _
@[simp] theorem Blk.wr_rings (b : Blk) (f : BF) (v : Nat) : (b.wr f v).rings = b.rings := Eq.refl _
@[simp] theorem Blk.wr_evts (b : Blk) (f : BF) (v : Nat) : (b.wr f v).evts = b.evts := Eq.refl _
@[simp] theorem Blk.wr_err (b : Blk) (f : BF) (v : Nat) : (b.wr f v).err = b.err := Eq.refl _
@[simp] theorem Blk.wr_pmc (b : Blk) (f : BF) (v : Nat) : (b.wr f v).pmc = b.pmc := Eq.refl _
@[simp] theorem Blk.wr_ins (b : Blk) (f : BF) (v : Nat) : (b.wr f v).ins = b.ins := Eq.refl _
@[simp] theorem Blk.wr_laster (b : Blk) (f : BF) (v : Nat) : (b.wr f v).laster = b.laster := Eq.refl _
@[simp] theorem Blk.wr_refs (b : Blk) (f : BF) (v : Nat) : (b.wr f v).refs = b.refs := Eq.refl _
@[simp] theorem Blk.wr_heel (b : Blk) (f : BF) (v : Nat) : (b.wr f v).heel = b.heel := Eq.refl _
@[simp] theorem Blk.wr_hold (b : Blk) (f : BF) (v : Nat) : (b.wr f v).hold = b.hold := Eq.refl _
@[simp] theorem Blk.wr_outs (b : Blk) (f : BF) (v : Nat) : (b.wr f v).outs = b.outs := Eq.refl _
@[simp] theorem Blk.wr_eyes (b : Blk) (f : BF) (v : Nat) : (b.wr f v).eyes = b.eyes := Eq.refl _
@[simp] theorem Blk.wr_ports (b : Blk) (f : BF) (v : Nat) : (b.wr f v).ports = b.ports := Eq.refl _
@[simp] theorem Blk.wr_clk (b : Blk) (f : BF) (v : Nat) : (b.wr f v).clk = b.clk := Eq.refl _
@[simp] theorem Blk.wr_ct (b : Blk) (f : BF) (v : Nat) : (b.wr f v).ct = b.ct := Eq.refl _
@[simp] theorem Blk.wr_eng (b : Blk) (f : BF) (v : Nat) : (b.wr f v).eng = b.eng := Eq.refl _
@[simp] theorem Blk.wr_nts (b : Blk) (f : BF) (v : Nat) : (b.wr f v).nts = b.nts := Eq.refl _
@[simp] theorem Blk.wr_ptp (b : Blk) (f : BF) (v : Nat) : (b.wr f v).ptp = b.ptp := Eq.refl _
@[simp] theorem Blk.wr_twin (b : Blk) (f : BF) (v : Nat) : (b.wr f v).twin = b.twin := Eq.refl _
@[simp] theorem Blk.wr_flow (b : Blk) (f : BF) (v : Nat) : (b.wr f v).flow = b.flow := Eq.refl _
@[simp] theorem Blk.wr_featAbsent (b : Blk) (f : BF) (v : Nat) : (b.wr f v).featAbsent = b.featAbsent := Eq.refl _
@[simp] theorem Blk.wr_tj (b : Blk) (f : BF) (v : Nat) : (b.wr f v).tj = b.tj := Eq.refl _

@[simp] theorem Blk.wrW_part (b : Blk) (off v : Nat) : (b.wrW off v).part = b.part := Eq.refl _
@[simp] theorem Blk.wrW_up (b : Blk) (off v : Nat) : (b.wrW off v).up = b.up := Eq.refl _
@[simp] theorem Blk.wrW_freeCtr (b : Blk) (off v : Nat) : (b.wrW off v).freeCtr = b.freeCtr := Eq.refl _
@[simp] theorem Blk.wrW_out (b : Blk) (off v : Nat) : (b.wrW off v).out = b.out := Eq.refl _
@[simp] theorem Blk.wrW_ctr (b : Blk) (off v : Nat) : (b.wrW off v).ctr = b.ctr := Eq.refl _
@[simp] theorem Blk.wrW_latch (b : Blk) (off v : Nat) : (b.wrW off v).latch = b.latch := Eq.refl _
@[simp] theorem Blk.wrW_mode (b : Blk) (off v : Nat) : (b.wrW off v).mode = b.mode := Eq.refl _
@[simp] theorem Blk.wrW_lastMode (b : Blk) (off v : Nat) : (b.wrW off v).lastMode = b.lastMode := Eq.refl _
@[simp] theorem Blk.wrW_entryCause (b : Blk) (off v : Nat) : (b.wrW off v).entryCause = b.entryCause := Eq.refl _
@[simp] theorem Blk.wrW_holdExpired (b : Blk) (off v : Nat) : (b.wrW off v).holdExpired = b.holdExpired := Eq.refl _
@[simp] theorem Blk.wrW_modeReq (b : Blk) (off v : Nat) : (b.wrW off v).modeReq = b.modeReq := Eq.refl _
@[simp] theorem Blk.wrW_rst (b : Blk) (off v : Nat) : (b.wrW off v).rst = b.rst := Eq.refl _
@[simp] theorem Blk.wrW_boot (b : Blk) (off v : Nat) : (b.wrW off v).boot = b.boot := Eq.refl _
@[simp] theorem Blk.wrW_lcs (b : Blk) (off v : Nat) : (b.wrW off v).lcs = b.lcs := Eq.refl _
@[simp] theorem Blk.wrW_ses (b : Blk) (off v : Nat) : (b.wrW off v).ses = b.ses := Eq.refl _
@[simp] theorem Blk.wrW_rings (b : Blk) (off v : Nat) : (b.wrW off v).rings = b.rings := Eq.refl _
@[simp] theorem Blk.wrW_evts (b : Blk) (off v : Nat) : (b.wrW off v).evts = b.evts := Eq.refl _
@[simp] theorem Blk.wrW_err (b : Blk) (off v : Nat) : (b.wrW off v).err = b.err := Eq.refl _
@[simp] theorem Blk.wrW_pmc (b : Blk) (off v : Nat) : (b.wrW off v).pmc = b.pmc := Eq.refl _
@[simp] theorem Blk.wrW_ins (b : Blk) (off v : Nat) : (b.wrW off v).ins = b.ins := Eq.refl _
@[simp] theorem Blk.wrW_laster (b : Blk) (off v : Nat) : (b.wrW off v).laster = b.laster := Eq.refl _
@[simp] theorem Blk.wrW_refs (b : Blk) (off v : Nat) : (b.wrW off v).refs = b.refs := Eq.refl _
@[simp] theorem Blk.wrW_heel (b : Blk) (off v : Nat) : (b.wrW off v).heel = b.heel := Eq.refl _
@[simp] theorem Blk.wrW_hold (b : Blk) (off v : Nat) : (b.wrW off v).hold = b.hold := Eq.refl _
@[simp] theorem Blk.wrW_outs (b : Blk) (off v : Nat) : (b.wrW off v).outs = b.outs := Eq.refl _
@[simp] theorem Blk.wrW_eyes (b : Blk) (off v : Nat) : (b.wrW off v).eyes = b.eyes := Eq.refl _
@[simp] theorem Blk.wrW_ports (b : Blk) (off v : Nat) : (b.wrW off v).ports = b.ports := Eq.refl _
@[simp] theorem Blk.wrW_clk (b : Blk) (off v : Nat) : (b.wrW off v).clk = b.clk := Eq.refl _
@[simp] theorem Blk.wrW_ct (b : Blk) (off v : Nat) : (b.wrW off v).ct = b.ct := Eq.refl _
@[simp] theorem Blk.wrW_eng (b : Blk) (off v : Nat) : (b.wrW off v).eng = b.eng := Eq.refl _
@[simp] theorem Blk.wrW_nts (b : Blk) (off v : Nat) : (b.wrW off v).nts = b.nts := Eq.refl _
@[simp] theorem Blk.wrW_ptp (b : Blk) (off v : Nat) : (b.wrW off v).ptp = b.ptp := Eq.refl _
@[simp] theorem Blk.wrW_twin (b : Blk) (off v : Nat) : (b.wrW off v).twin = b.twin := Eq.refl _
@[simp] theorem Blk.wrW_flow (b : Blk) (off v : Nat) : (b.wrW off v).flow = b.flow := Eq.refl _
@[simp] theorem Blk.wrW_featAbsent (b : Blk) (off v : Nat) : (b.wrW off v).featAbsent = b.featAbsent := Eq.refl _
@[simp] theorem Blk.wrW_tj (b : Blk) (off v : Nat) : (b.wrW off v).tj = b.tj := Eq.refl _

@[simp] theorem Blk.setF_part (b : Blk) (f : BF) : (b.setF f).part = b.part := Eq.refl _
@[simp] theorem Blk.setF_up (b : Blk) (f : BF) : (b.setF f).up = b.up := Eq.refl _
@[simp] theorem Blk.setF_freeCtr (b : Blk) (f : BF) : (b.setF f).freeCtr = b.freeCtr := Eq.refl _
@[simp] theorem Blk.setF_out (b : Blk) (f : BF) : (b.setF f).out = b.out := Eq.refl _
@[simp] theorem Blk.setF_ctr (b : Blk) (f : BF) : (b.setF f).ctr = b.ctr := Eq.refl _
@[simp] theorem Blk.setF_latch (b : Blk) (f : BF) : (b.setF f).latch = b.latch := Eq.refl _
@[simp] theorem Blk.setF_mode (b : Blk) (f : BF) : (b.setF f).mode = b.mode := Eq.refl _
@[simp] theorem Blk.setF_lastMode (b : Blk) (f : BF) : (b.setF f).lastMode = b.lastMode := Eq.refl _
@[simp] theorem Blk.setF_entryCause (b : Blk) (f : BF) : (b.setF f).entryCause = b.entryCause := Eq.refl _
@[simp] theorem Blk.setF_holdExpired (b : Blk) (f : BF) : (b.setF f).holdExpired = b.holdExpired := Eq.refl _
@[simp] theorem Blk.setF_modeReq (b : Blk) (f : BF) : (b.setF f).modeReq = b.modeReq := Eq.refl _
@[simp] theorem Blk.setF_rst (b : Blk) (f : BF) : (b.setF f).rst = b.rst := Eq.refl _
@[simp] theorem Blk.setF_boot (b : Blk) (f : BF) : (b.setF f).boot = b.boot := Eq.refl _
@[simp] theorem Blk.setF_lcs (b : Blk) (f : BF) : (b.setF f).lcs = b.lcs := Eq.refl _
@[simp] theorem Blk.setF_ses (b : Blk) (f : BF) : (b.setF f).ses = b.ses := Eq.refl _
@[simp] theorem Blk.setF_rings (b : Blk) (f : BF) : (b.setF f).rings = b.rings := Eq.refl _
@[simp] theorem Blk.setF_evts (b : Blk) (f : BF) : (b.setF f).evts = b.evts := Eq.refl _
@[simp] theorem Blk.setF_err (b : Blk) (f : BF) : (b.setF f).err = b.err := Eq.refl _
@[simp] theorem Blk.setF_pmc (b : Blk) (f : BF) : (b.setF f).pmc = b.pmc := Eq.refl _
@[simp] theorem Blk.setF_ins (b : Blk) (f : BF) : (b.setF f).ins = b.ins := Eq.refl _
@[simp] theorem Blk.setF_laster (b : Blk) (f : BF) : (b.setF f).laster = b.laster := Eq.refl _
@[simp] theorem Blk.setF_refs (b : Blk) (f : BF) : (b.setF f).refs = b.refs := Eq.refl _
@[simp] theorem Blk.setF_heel (b : Blk) (f : BF) : (b.setF f).heel = b.heel := Eq.refl _
@[simp] theorem Blk.setF_hold (b : Blk) (f : BF) : (b.setF f).hold = b.hold := Eq.refl _
@[simp] theorem Blk.setF_outs (b : Blk) (f : BF) : (b.setF f).outs = b.outs := Eq.refl _
@[simp] theorem Blk.setF_eyes (b : Blk) (f : BF) : (b.setF f).eyes = b.eyes := Eq.refl _
@[simp] theorem Blk.setF_ports (b : Blk) (f : BF) : (b.setF f).ports = b.ports := Eq.refl _
@[simp] theorem Blk.setF_clk (b : Blk) (f : BF) : (b.setF f).clk = b.clk := Eq.refl _
@[simp] theorem Blk.setF_ct (b : Blk) (f : BF) : (b.setF f).ct = b.ct := Eq.refl _
@[simp] theorem Blk.setF_eng (b : Blk) (f : BF) : (b.setF f).eng = b.eng := Eq.refl _
@[simp] theorem Blk.setF_nts (b : Blk) (f : BF) : (b.setF f).nts = b.nts := Eq.refl _
@[simp] theorem Blk.setF_ptp (b : Blk) (f : BF) : (b.setF f).ptp = b.ptp := Eq.refl _
@[simp] theorem Blk.setF_twin (b : Blk) (f : BF) : (b.setF f).twin = b.twin := Eq.refl _
@[simp] theorem Blk.setF_flow (b : Blk) (f : BF) : (b.setF f).flow = b.flow := Eq.refl _
@[simp] theorem Blk.setF_featAbsent (b : Blk) (f : BF) : (b.setF f).featAbsent = b.featAbsent := Eq.refl _
@[simp] theorem Blk.setF_tj (b : Blk) (f : BF) : (b.setF f).tj = b.tj := Eq.refl _

@[simp] theorem Blk.addF_part (b : Blk) (f : BF) (n : Nat) : (b.addF f n).part = b.part := Eq.refl _
@[simp] theorem Blk.addF_up (b : Blk) (f : BF) (n : Nat) : (b.addF f n).up = b.up := Eq.refl _
@[simp] theorem Blk.addF_freeCtr (b : Blk) (f : BF) (n : Nat) : (b.addF f n).freeCtr = b.freeCtr := Eq.refl _
@[simp] theorem Blk.addF_out (b : Blk) (f : BF) (n : Nat) : (b.addF f n).out = b.out := Eq.refl _
@[simp] theorem Blk.addF_ctr (b : Blk) (f : BF) (n : Nat) : (b.addF f n).ctr = b.ctr := Eq.refl _
@[simp] theorem Blk.addF_latch (b : Blk) (f : BF) (n : Nat) : (b.addF f n).latch = b.latch := Eq.refl _
@[simp] theorem Blk.addF_mode (b : Blk) (f : BF) (n : Nat) : (b.addF f n).mode = b.mode := Eq.refl _
@[simp] theorem Blk.addF_lastMode (b : Blk) (f : BF) (n : Nat) : (b.addF f n).lastMode = b.lastMode := Eq.refl _
@[simp] theorem Blk.addF_entryCause (b : Blk) (f : BF) (n : Nat) : (b.addF f n).entryCause = b.entryCause := Eq.refl _
@[simp] theorem Blk.addF_holdExpired (b : Blk) (f : BF) (n : Nat) : (b.addF f n).holdExpired = b.holdExpired := Eq.refl _
@[simp] theorem Blk.addF_modeReq (b : Blk) (f : BF) (n : Nat) : (b.addF f n).modeReq = b.modeReq := Eq.refl _
@[simp] theorem Blk.addF_rst (b : Blk) (f : BF) (n : Nat) : (b.addF f n).rst = b.rst := Eq.refl _
@[simp] theorem Blk.addF_boot (b : Blk) (f : BF) (n : Nat) : (b.addF f n).boot = b.boot := Eq.refl _
@[simp] theorem Blk.addF_lcs (b : Blk) (f : BF) (n : Nat) : (b.addF f n).lcs = b.lcs := Eq.refl _
@[simp] theorem Blk.addF_ses (b : Blk) (f : BF) (n : Nat) : (b.addF f n).ses = b.ses := Eq.refl _
@[simp] theorem Blk.addF_rings (b : Blk) (f : BF) (n : Nat) : (b.addF f n).rings = b.rings := Eq.refl _
@[simp] theorem Blk.addF_evts (b : Blk) (f : BF) (n : Nat) : (b.addF f n).evts = b.evts := Eq.refl _
@[simp] theorem Blk.addF_err (b : Blk) (f : BF) (n : Nat) : (b.addF f n).err = b.err := Eq.refl _
@[simp] theorem Blk.addF_pmc (b : Blk) (f : BF) (n : Nat) : (b.addF f n).pmc = b.pmc := Eq.refl _
@[simp] theorem Blk.addF_ins (b : Blk) (f : BF) (n : Nat) : (b.addF f n).ins = b.ins := Eq.refl _
@[simp] theorem Blk.addF_laster (b : Blk) (f : BF) (n : Nat) : (b.addF f n).laster = b.laster := Eq.refl _
@[simp] theorem Blk.addF_refs (b : Blk) (f : BF) (n : Nat) : (b.addF f n).refs = b.refs := Eq.refl _
@[simp] theorem Blk.addF_heel (b : Blk) (f : BF) (n : Nat) : (b.addF f n).heel = b.heel := Eq.refl _
@[simp] theorem Blk.addF_hold (b : Blk) (f : BF) (n : Nat) : (b.addF f n).hold = b.hold := Eq.refl _
@[simp] theorem Blk.addF_outs (b : Blk) (f : BF) (n : Nat) : (b.addF f n).outs = b.outs := Eq.refl _
@[simp] theorem Blk.addF_eyes (b : Blk) (f : BF) (n : Nat) : (b.addF f n).eyes = b.eyes := Eq.refl _
@[simp] theorem Blk.addF_ports (b : Blk) (f : BF) (n : Nat) : (b.addF f n).ports = b.ports := Eq.refl _
@[simp] theorem Blk.addF_clk (b : Blk) (f : BF) (n : Nat) : (b.addF f n).clk = b.clk := Eq.refl _
@[simp] theorem Blk.addF_ct (b : Blk) (f : BF) (n : Nat) : (b.addF f n).ct = b.ct := Eq.refl _
@[simp] theorem Blk.addF_eng (b : Blk) (f : BF) (n : Nat) : (b.addF f n).eng = b.eng := Eq.refl _
@[simp] theorem Blk.addF_nts (b : Blk) (f : BF) (n : Nat) : (b.addF f n).nts = b.nts := Eq.refl _
@[simp] theorem Blk.addF_ptp (b : Blk) (f : BF) (n : Nat) : (b.addF f n).ptp = b.ptp := Eq.refl _
@[simp] theorem Blk.addF_twin (b : Blk) (f : BF) (n : Nat) : (b.addF f n).twin = b.twin := Eq.refl _
@[simp] theorem Blk.addF_flow (b : Blk) (f : BF) (n : Nat) : (b.addF f n).flow = b.flow := Eq.refl _
@[simp] theorem Blk.addF_featAbsent (b : Blk) (f : BF) (n : Nat) : (b.addF f n).featAbsent = b.featAbsent := Eq.refl _
@[simp] theorem Blk.addF_tj (b : Blk) (f : BF) (n : Nat) : (b.addF f n).tj = b.tj := Eq.refl _

@[simp] theorem Blk.satF_part (b : Blk) (f : BF) (n : Nat) : (b.satF f n).part = b.part := Eq.refl _
@[simp] theorem Blk.satF_up (b : Blk) (f : BF) (n : Nat) : (b.satF f n).up = b.up := Eq.refl _
@[simp] theorem Blk.satF_freeCtr (b : Blk) (f : BF) (n : Nat) : (b.satF f n).freeCtr = b.freeCtr := Eq.refl _
@[simp] theorem Blk.satF_out (b : Blk) (f : BF) (n : Nat) : (b.satF f n).out = b.out := Eq.refl _
@[simp] theorem Blk.satF_ctr (b : Blk) (f : BF) (n : Nat) : (b.satF f n).ctr = b.ctr := Eq.refl _
@[simp] theorem Blk.satF_latch (b : Blk) (f : BF) (n : Nat) : (b.satF f n).latch = b.latch := Eq.refl _
@[simp] theorem Blk.satF_mode (b : Blk) (f : BF) (n : Nat) : (b.satF f n).mode = b.mode := Eq.refl _
@[simp] theorem Blk.satF_lastMode (b : Blk) (f : BF) (n : Nat) : (b.satF f n).lastMode = b.lastMode := Eq.refl _
@[simp] theorem Blk.satF_entryCause (b : Blk) (f : BF) (n : Nat) : (b.satF f n).entryCause = b.entryCause := Eq.refl _
@[simp] theorem Blk.satF_holdExpired (b : Blk) (f : BF) (n : Nat) : (b.satF f n).holdExpired = b.holdExpired := Eq.refl _
@[simp] theorem Blk.satF_modeReq (b : Blk) (f : BF) (n : Nat) : (b.satF f n).modeReq = b.modeReq := Eq.refl _
@[simp] theorem Blk.satF_rst (b : Blk) (f : BF) (n : Nat) : (b.satF f n).rst = b.rst := Eq.refl _
@[simp] theorem Blk.satF_boot (b : Blk) (f : BF) (n : Nat) : (b.satF f n).boot = b.boot := Eq.refl _
@[simp] theorem Blk.satF_lcs (b : Blk) (f : BF) (n : Nat) : (b.satF f n).lcs = b.lcs := Eq.refl _
@[simp] theorem Blk.satF_ses (b : Blk) (f : BF) (n : Nat) : (b.satF f n).ses = b.ses := Eq.refl _
@[simp] theorem Blk.satF_rings (b : Blk) (f : BF) (n : Nat) : (b.satF f n).rings = b.rings := Eq.refl _
@[simp] theorem Blk.satF_evts (b : Blk) (f : BF) (n : Nat) : (b.satF f n).evts = b.evts := Eq.refl _
@[simp] theorem Blk.satF_err (b : Blk) (f : BF) (n : Nat) : (b.satF f n).err = b.err := Eq.refl _
@[simp] theorem Blk.satF_pmc (b : Blk) (f : BF) (n : Nat) : (b.satF f n).pmc = b.pmc := Eq.refl _
@[simp] theorem Blk.satF_ins (b : Blk) (f : BF) (n : Nat) : (b.satF f n).ins = b.ins := Eq.refl _
@[simp] theorem Blk.satF_laster (b : Blk) (f : BF) (n : Nat) : (b.satF f n).laster = b.laster := Eq.refl _
@[simp] theorem Blk.satF_refs (b : Blk) (f : BF) (n : Nat) : (b.satF f n).refs = b.refs := Eq.refl _
@[simp] theorem Blk.satF_heel (b : Blk) (f : BF) (n : Nat) : (b.satF f n).heel = b.heel := Eq.refl _
@[simp] theorem Blk.satF_hold (b : Blk) (f : BF) (n : Nat) : (b.satF f n).hold = b.hold := Eq.refl _
@[simp] theorem Blk.satF_outs (b : Blk) (f : BF) (n : Nat) : (b.satF f n).outs = b.outs := Eq.refl _
@[simp] theorem Blk.satF_eyes (b : Blk) (f : BF) (n : Nat) : (b.satF f n).eyes = b.eyes := Eq.refl _
@[simp] theorem Blk.satF_ports (b : Blk) (f : BF) (n : Nat) : (b.satF f n).ports = b.ports := Eq.refl _
@[simp] theorem Blk.satF_clk (b : Blk) (f : BF) (n : Nat) : (b.satF f n).clk = b.clk := Eq.refl _
@[simp] theorem Blk.satF_ct (b : Blk) (f : BF) (n : Nat) : (b.satF f n).ct = b.ct := Eq.refl _
@[simp] theorem Blk.satF_eng (b : Blk) (f : BF) (n : Nat) : (b.satF f n).eng = b.eng := Eq.refl _
@[simp] theorem Blk.satF_nts (b : Blk) (f : BF) (n : Nat) : (b.satF f n).nts = b.nts := Eq.refl _
@[simp] theorem Blk.satF_ptp (b : Blk) (f : BF) (n : Nat) : (b.satF f n).ptp = b.ptp := Eq.refl _
@[simp] theorem Blk.satF_twin (b : Blk) (f : BF) (n : Nat) : (b.satF f n).twin = b.twin := Eq.refl _
@[simp] theorem Blk.satF_flow (b : Blk) (f : BF) (n : Nat) : (b.satF f n).flow = b.flow := Eq.refl _
@[simp] theorem Blk.satF_featAbsent (b : Blk) (f : BF) (n : Nat) : (b.satF f n).featAbsent = b.featAbsent := Eq.refl _
@[simp] theorem Blk.satF_tj (b : Blk) (f : BF) (n : Nat) : (b.satF f n).tj = b.tj := Eq.refl _

@[simp] theorem Blk.incN_part (b : Blk) (c n : Nat) : (b.incN c n).part = b.part := Eq.refl _
@[simp] theorem Blk.incN_up (b : Blk) (c n : Nat) : (b.incN c n).up = b.up := Eq.refl _
@[simp] theorem Blk.incN_freeCtr (b : Blk) (c n : Nat) : (b.incN c n).freeCtr = b.freeCtr := Eq.refl _
@[simp] theorem Blk.incN_out (b : Blk) (c n : Nat) : (b.incN c n).out = b.out := Eq.refl _
@[simp] theorem Blk.incN_regs (b : Blk) (c n : Nat) : (b.incN c n).regs = b.regs := Eq.refl _
@[simp] theorem Blk.incN_latch (b : Blk) (c n : Nat) : (b.incN c n).latch = b.latch := Eq.refl _
@[simp] theorem Blk.incN_mode (b : Blk) (c n : Nat) : (b.incN c n).mode = b.mode := Eq.refl _
@[simp] theorem Blk.incN_lastMode (b : Blk) (c n : Nat) : (b.incN c n).lastMode = b.lastMode := Eq.refl _
@[simp] theorem Blk.incN_entryCause (b : Blk) (c n : Nat) : (b.incN c n).entryCause = b.entryCause := Eq.refl _
@[simp] theorem Blk.incN_holdExpired (b : Blk) (c n : Nat) : (b.incN c n).holdExpired = b.holdExpired := Eq.refl _
@[simp] theorem Blk.incN_modeReq (b : Blk) (c n : Nat) : (b.incN c n).modeReq = b.modeReq := Eq.refl _
@[simp] theorem Blk.incN_rst (b : Blk) (c n : Nat) : (b.incN c n).rst = b.rst := Eq.refl _
@[simp] theorem Blk.incN_boot (b : Blk) (c n : Nat) : (b.incN c n).boot = b.boot := Eq.refl _
@[simp] theorem Blk.incN_lcs (b : Blk) (c n : Nat) : (b.incN c n).lcs = b.lcs := Eq.refl _
@[simp] theorem Blk.incN_ses (b : Blk) (c n : Nat) : (b.incN c n).ses = b.ses := Eq.refl _
@[simp] theorem Blk.incN_rings (b : Blk) (c n : Nat) : (b.incN c n).rings = b.rings := Eq.refl _
@[simp] theorem Blk.incN_evts (b : Blk) (c n : Nat) : (b.incN c n).evts = b.evts := Eq.refl _
@[simp] theorem Blk.incN_err (b : Blk) (c n : Nat) : (b.incN c n).err = b.err := Eq.refl _
@[simp] theorem Blk.incN_pmc (b : Blk) (c n : Nat) : (b.incN c n).pmc = b.pmc := Eq.refl _
@[simp] theorem Blk.incN_ins (b : Blk) (c n : Nat) : (b.incN c n).ins = b.ins := Eq.refl _
@[simp] theorem Blk.incN_laster (b : Blk) (c n : Nat) : (b.incN c n).laster = b.laster := Eq.refl _
@[simp] theorem Blk.incN_refs (b : Blk) (c n : Nat) : (b.incN c n).refs = b.refs := Eq.refl _
@[simp] theorem Blk.incN_heel (b : Blk) (c n : Nat) : (b.incN c n).heel = b.heel := Eq.refl _
@[simp] theorem Blk.incN_hold (b : Blk) (c n : Nat) : (b.incN c n).hold = b.hold := Eq.refl _
@[simp] theorem Blk.incN_outs (b : Blk) (c n : Nat) : (b.incN c n).outs = b.outs := Eq.refl _
@[simp] theorem Blk.incN_eyes (b : Blk) (c n : Nat) : (b.incN c n).eyes = b.eyes := Eq.refl _
@[simp] theorem Blk.incN_ports (b : Blk) (c n : Nat) : (b.incN c n).ports = b.ports := Eq.refl _
@[simp] theorem Blk.incN_clk (b : Blk) (c n : Nat) : (b.incN c n).clk = b.clk := Eq.refl _
@[simp] theorem Blk.incN_ct (b : Blk) (c n : Nat) : (b.incN c n).ct = b.ct := Eq.refl _
@[simp] theorem Blk.incN_eng (b : Blk) (c n : Nat) : (b.incN c n).eng = b.eng := Eq.refl _
@[simp] theorem Blk.incN_nts (b : Blk) (c n : Nat) : (b.incN c n).nts = b.nts := Eq.refl _
@[simp] theorem Blk.incN_ptp (b : Blk) (c n : Nat) : (b.incN c n).ptp = b.ptp := Eq.refl _
@[simp] theorem Blk.incN_twin (b : Blk) (c n : Nat) : (b.incN c n).twin = b.twin := Eq.refl _
@[simp] theorem Blk.incN_flow (b : Blk) (c n : Nat) : (b.incN c n).flow = b.flow := Eq.refl _
@[simp] theorem Blk.incN_featAbsent (b : Blk) (c n : Nat) : (b.incN c n).featAbsent = b.featAbsent := Eq.refl _
@[simp] theorem Blk.incN_tj (b : Blk) (c n : Nat) : (b.incN c n).tj = b.tj := Eq.refl _

@[simp] theorem Blk.inc_part (b : Blk) (c : Nat) : (b.inc c).part = b.part := Eq.refl _
@[simp] theorem Blk.inc_up (b : Blk) (c : Nat) : (b.inc c).up = b.up := Eq.refl _
@[simp] theorem Blk.inc_freeCtr (b : Blk) (c : Nat) : (b.inc c).freeCtr = b.freeCtr := Eq.refl _
@[simp] theorem Blk.inc_out (b : Blk) (c : Nat) : (b.inc c).out = b.out := Eq.refl _
@[simp] theorem Blk.inc_regs (b : Blk) (c : Nat) : (b.inc c).regs = b.regs := Eq.refl _
@[simp] theorem Blk.inc_latch (b : Blk) (c : Nat) : (b.inc c).latch = b.latch := Eq.refl _
@[simp] theorem Blk.inc_mode (b : Blk) (c : Nat) : (b.inc c).mode = b.mode := Eq.refl _
@[simp] theorem Blk.inc_lastMode (b : Blk) (c : Nat) : (b.inc c).lastMode = b.lastMode := Eq.refl _
@[simp] theorem Blk.inc_entryCause (b : Blk) (c : Nat) : (b.inc c).entryCause = b.entryCause := Eq.refl _
@[simp] theorem Blk.inc_holdExpired (b : Blk) (c : Nat) : (b.inc c).holdExpired = b.holdExpired := Eq.refl _
@[simp] theorem Blk.inc_modeReq (b : Blk) (c : Nat) : (b.inc c).modeReq = b.modeReq := Eq.refl _
@[simp] theorem Blk.inc_rst (b : Blk) (c : Nat) : (b.inc c).rst = b.rst := Eq.refl _
@[simp] theorem Blk.inc_boot (b : Blk) (c : Nat) : (b.inc c).boot = b.boot := Eq.refl _
@[simp] theorem Blk.inc_lcs (b : Blk) (c : Nat) : (b.inc c).lcs = b.lcs := Eq.refl _
@[simp] theorem Blk.inc_ses (b : Blk) (c : Nat) : (b.inc c).ses = b.ses := Eq.refl _
@[simp] theorem Blk.inc_rings (b : Blk) (c : Nat) : (b.inc c).rings = b.rings := Eq.refl _
@[simp] theorem Blk.inc_evts (b : Blk) (c : Nat) : (b.inc c).evts = b.evts := Eq.refl _
@[simp] theorem Blk.inc_err (b : Blk) (c : Nat) : (b.inc c).err = b.err := Eq.refl _
@[simp] theorem Blk.inc_pmc (b : Blk) (c : Nat) : (b.inc c).pmc = b.pmc := Eq.refl _
@[simp] theorem Blk.inc_ins (b : Blk) (c : Nat) : (b.inc c).ins = b.ins := Eq.refl _
@[simp] theorem Blk.inc_laster (b : Blk) (c : Nat) : (b.inc c).laster = b.laster := Eq.refl _
@[simp] theorem Blk.inc_refs (b : Blk) (c : Nat) : (b.inc c).refs = b.refs := Eq.refl _
@[simp] theorem Blk.inc_heel (b : Blk) (c : Nat) : (b.inc c).heel = b.heel := Eq.refl _
@[simp] theorem Blk.inc_hold (b : Blk) (c : Nat) : (b.inc c).hold = b.hold := Eq.refl _
@[simp] theorem Blk.inc_outs (b : Blk) (c : Nat) : (b.inc c).outs = b.outs := Eq.refl _
@[simp] theorem Blk.inc_eyes (b : Blk) (c : Nat) : (b.inc c).eyes = b.eyes := Eq.refl _
@[simp] theorem Blk.inc_ports (b : Blk) (c : Nat) : (b.inc c).ports = b.ports := Eq.refl _
@[simp] theorem Blk.inc_clk (b : Blk) (c : Nat) : (b.inc c).clk = b.clk := Eq.refl _
@[simp] theorem Blk.inc_ct (b : Blk) (c : Nat) : (b.inc c).ct = b.ct := Eq.refl _
@[simp] theorem Blk.inc_eng (b : Blk) (c : Nat) : (b.inc c).eng = b.eng := Eq.refl _
@[simp] theorem Blk.inc_nts (b : Blk) (c : Nat) : (b.inc c).nts = b.nts := Eq.refl _
@[simp] theorem Blk.inc_ptp (b : Blk) (c : Nat) : (b.inc c).ptp = b.ptp := Eq.refl _
@[simp] theorem Blk.inc_twin (b : Blk) (c : Nat) : (b.inc c).twin = b.twin := Eq.refl _
@[simp] theorem Blk.inc_flow (b : Blk) (c : Nat) : (b.inc c).flow = b.flow := Eq.refl _
@[simp] theorem Blk.inc_featAbsent (b : Blk) (c : Nat) : (b.inc c).featAbsent = b.featAbsent := Eq.refl _
@[simp] theorem Blk.inc_tj (b : Blk) (c : Nat) : (b.inc c).tj = b.tj := Eq.refl _

@[simp] theorem Blk.draw_part (b : Blk) (n : Nat) : (b.draw n).part = b.part := Eq.refl _
@[simp] theorem Blk.draw_up (b : Blk) (n : Nat) : (b.draw n).up = b.up := Eq.refl _
@[simp] theorem Blk.draw_out (b : Blk) (n : Nat) : (b.draw n).out = b.out := Eq.refl _
@[simp] theorem Blk.draw_regs (b : Blk) (n : Nat) : (b.draw n).regs = b.regs := Eq.refl _
@[simp] theorem Blk.draw_ctr (b : Blk) (n : Nat) : (b.draw n).ctr = b.ctr := Eq.refl _
@[simp] theorem Blk.draw_latch (b : Blk) (n : Nat) : (b.draw n).latch = b.latch := Eq.refl _
@[simp] theorem Blk.draw_mode (b : Blk) (n : Nat) : (b.draw n).mode = b.mode := Eq.refl _
@[simp] theorem Blk.draw_lastMode (b : Blk) (n : Nat) : (b.draw n).lastMode = b.lastMode := Eq.refl _
@[simp] theorem Blk.draw_entryCause (b : Blk) (n : Nat) : (b.draw n).entryCause = b.entryCause := Eq.refl _
@[simp] theorem Blk.draw_holdExpired (b : Blk) (n : Nat) : (b.draw n).holdExpired = b.holdExpired := Eq.refl _
@[simp] theorem Blk.draw_modeReq (b : Blk) (n : Nat) : (b.draw n).modeReq = b.modeReq := Eq.refl _
@[simp] theorem Blk.draw_rst (b : Blk) (n : Nat) : (b.draw n).rst = b.rst := Eq.refl _
@[simp] theorem Blk.draw_boot (b : Blk) (n : Nat) : (b.draw n).boot = b.boot := Eq.refl _
@[simp] theorem Blk.draw_lcs (b : Blk) (n : Nat) : (b.draw n).lcs = b.lcs := Eq.refl _
@[simp] theorem Blk.draw_ses (b : Blk) (n : Nat) : (b.draw n).ses = b.ses := Eq.refl _
@[simp] theorem Blk.draw_rings (b : Blk) (n : Nat) : (b.draw n).rings = b.rings := Eq.refl _
@[simp] theorem Blk.draw_evts (b : Blk) (n : Nat) : (b.draw n).evts = b.evts := Eq.refl _
@[simp] theorem Blk.draw_err (b : Blk) (n : Nat) : (b.draw n).err = b.err := Eq.refl _
@[simp] theorem Blk.draw_pmc (b : Blk) (n : Nat) : (b.draw n).pmc = b.pmc := Eq.refl _
@[simp] theorem Blk.draw_ins (b : Blk) (n : Nat) : (b.draw n).ins = b.ins := Eq.refl _
@[simp] theorem Blk.draw_laster (b : Blk) (n : Nat) : (b.draw n).laster = b.laster := Eq.refl _
@[simp] theorem Blk.draw_refs (b : Blk) (n : Nat) : (b.draw n).refs = b.refs := Eq.refl _
@[simp] theorem Blk.draw_heel (b : Blk) (n : Nat) : (b.draw n).heel = b.heel := Eq.refl _
@[simp] theorem Blk.draw_hold (b : Blk) (n : Nat) : (b.draw n).hold = b.hold := Eq.refl _
@[simp] theorem Blk.draw_outs (b : Blk) (n : Nat) : (b.draw n).outs = b.outs := Eq.refl _
@[simp] theorem Blk.draw_eyes (b : Blk) (n : Nat) : (b.draw n).eyes = b.eyes := Eq.refl _
@[simp] theorem Blk.draw_ports (b : Blk) (n : Nat) : (b.draw n).ports = b.ports := Eq.refl _
@[simp] theorem Blk.draw_clk (b : Blk) (n : Nat) : (b.draw n).clk = b.clk := Eq.refl _
@[simp] theorem Blk.draw_ct (b : Blk) (n : Nat) : (b.draw n).ct = b.ct := Eq.refl _
@[simp] theorem Blk.draw_eng (b : Blk) (n : Nat) : (b.draw n).eng = b.eng := Eq.refl _
@[simp] theorem Blk.draw_nts (b : Blk) (n : Nat) : (b.draw n).nts = b.nts := Eq.refl _
@[simp] theorem Blk.draw_ptp (b : Blk) (n : Nat) : (b.draw n).ptp = b.ptp := Eq.refl _
@[simp] theorem Blk.draw_twin (b : Blk) (n : Nat) : (b.draw n).twin = b.twin := Eq.refl _
@[simp] theorem Blk.draw_flow (b : Blk) (n : Nat) : (b.draw n).flow = b.flow := Eq.refl _
@[simp] theorem Blk.draw_featAbsent (b : Blk) (n : Nat) : (b.draw n).featAbsent = b.featAbsent := Eq.refl _
@[simp] theorem Blk.draw_tj (b : Blk) (n : Nat) : (b.draw n).tj = b.tj := Eq.refl _

@[simp] theorem Blk.put_part (b : Blk) (e : Emit) : (b.put e).part = b.part := Eq.refl _
@[simp] theorem Blk.put_up (b : Blk) (e : Emit) : (b.put e).up = b.up := Eq.refl _
@[simp] theorem Blk.put_freeCtr (b : Blk) (e : Emit) : (b.put e).freeCtr = b.freeCtr := Eq.refl _
@[simp] theorem Blk.put_regs (b : Blk) (e : Emit) : (b.put e).regs = b.regs := Eq.refl _
@[simp] theorem Blk.put_ctr (b : Blk) (e : Emit) : (b.put e).ctr = b.ctr := Eq.refl _
@[simp] theorem Blk.put_latch (b : Blk) (e : Emit) : (b.put e).latch = b.latch := Eq.refl _
@[simp] theorem Blk.put_mode (b : Blk) (e : Emit) : (b.put e).mode = b.mode := Eq.refl _
@[simp] theorem Blk.put_lastMode (b : Blk) (e : Emit) : (b.put e).lastMode = b.lastMode := Eq.refl _
@[simp] theorem Blk.put_entryCause (b : Blk) (e : Emit) : (b.put e).entryCause = b.entryCause := Eq.refl _
@[simp] theorem Blk.put_holdExpired (b : Blk) (e : Emit) : (b.put e).holdExpired = b.holdExpired := Eq.refl _
@[simp] theorem Blk.put_modeReq (b : Blk) (e : Emit) : (b.put e).modeReq = b.modeReq := Eq.refl _
@[simp] theorem Blk.put_rst (b : Blk) (e : Emit) : (b.put e).rst = b.rst := Eq.refl _
@[simp] theorem Blk.put_boot (b : Blk) (e : Emit) : (b.put e).boot = b.boot := Eq.refl _
@[simp] theorem Blk.put_lcs (b : Blk) (e : Emit) : (b.put e).lcs = b.lcs := Eq.refl _
@[simp] theorem Blk.put_ses (b : Blk) (e : Emit) : (b.put e).ses = b.ses := Eq.refl _
@[simp] theorem Blk.put_rings (b : Blk) (e : Emit) : (b.put e).rings = b.rings := Eq.refl _
@[simp] theorem Blk.put_evts (b : Blk) (e : Emit) : (b.put e).evts = b.evts := Eq.refl _
@[simp] theorem Blk.put_err (b : Blk) (e : Emit) : (b.put e).err = b.err := Eq.refl _
@[simp] theorem Blk.put_pmc (b : Blk) (e : Emit) : (b.put e).pmc = b.pmc := Eq.refl _
@[simp] theorem Blk.put_ins (b : Blk) (e : Emit) : (b.put e).ins = b.ins := Eq.refl _
@[simp] theorem Blk.put_laster (b : Blk) (e : Emit) : (b.put e).laster = b.laster := Eq.refl _
@[simp] theorem Blk.put_refs (b : Blk) (e : Emit) : (b.put e).refs = b.refs := Eq.refl _
@[simp] theorem Blk.put_heel (b : Blk) (e : Emit) : (b.put e).heel = b.heel := Eq.refl _
@[simp] theorem Blk.put_hold (b : Blk) (e : Emit) : (b.put e).hold = b.hold := Eq.refl _
@[simp] theorem Blk.put_outs (b : Blk) (e : Emit) : (b.put e).outs = b.outs := Eq.refl _
@[simp] theorem Blk.put_eyes (b : Blk) (e : Emit) : (b.put e).eyes = b.eyes := Eq.refl _
@[simp] theorem Blk.put_ports (b : Blk) (e : Emit) : (b.put e).ports = b.ports := Eq.refl _
@[simp] theorem Blk.put_clk (b : Blk) (e : Emit) : (b.put e).clk = b.clk := Eq.refl _
@[simp] theorem Blk.put_ct (b : Blk) (e : Emit) : (b.put e).ct = b.ct := Eq.refl _
@[simp] theorem Blk.put_eng (b : Blk) (e : Emit) : (b.put e).eng = b.eng := Eq.refl _
@[simp] theorem Blk.put_nts (b : Blk) (e : Emit) : (b.put e).nts = b.nts := Eq.refl _
@[simp] theorem Blk.put_ptp (b : Blk) (e : Emit) : (b.put e).ptp = b.ptp := Eq.refl _
@[simp] theorem Blk.put_twin (b : Blk) (e : Emit) : (b.put e).twin = b.twin := Eq.refl _
@[simp] theorem Blk.put_flow (b : Blk) (e : Emit) : (b.put e).flow = b.flow := Eq.refl _
@[simp] theorem Blk.put_featAbsent (b : Blk) (e : Emit) : (b.put e).featAbsent = b.featAbsent := Eq.refl _
@[simp] theorem Blk.put_tj (b : Blk) (e : Emit) : (b.put e).tj = b.tj := Eq.refl _

@[simp] theorem Blk.setSes_part (b : Blk) (f : Nat) (x : Ses) : (b.setSes f x).part = b.part := Eq.refl _
@[simp] theorem Blk.setSes_up (b : Blk) (f : Nat) (x : Ses) : (b.setSes f x).up = b.up := Eq.refl _
@[simp] theorem Blk.setSes_freeCtr (b : Blk) (f : Nat) (x : Ses) : (b.setSes f x).freeCtr = b.freeCtr := Eq.refl _
@[simp] theorem Blk.setSes_out (b : Blk) (f : Nat) (x : Ses) : (b.setSes f x).out = b.out := Eq.refl _
@[simp] theorem Blk.setSes_regs (b : Blk) (f : Nat) (x : Ses) : (b.setSes f x).regs = b.regs := Eq.refl _
@[simp] theorem Blk.setSes_ctr (b : Blk) (f : Nat) (x : Ses) : (b.setSes f x).ctr = b.ctr := Eq.refl _
@[simp] theorem Blk.setSes_latch (b : Blk) (f : Nat) (x : Ses) : (b.setSes f x).latch = b.latch := Eq.refl _
@[simp] theorem Blk.setSes_mode (b : Blk) (f : Nat) (x : Ses) : (b.setSes f x).mode = b.mode := Eq.refl _
@[simp] theorem Blk.setSes_lastMode (b : Blk) (f : Nat) (x : Ses) : (b.setSes f x).lastMode = b.lastMode := Eq.refl _
@[simp] theorem Blk.setSes_entryCause (b : Blk) (f : Nat) (x : Ses) : (b.setSes f x).entryCause = b.entryCause := Eq.refl _
@[simp] theorem Blk.setSes_holdExpired (b : Blk) (f : Nat) (x : Ses) : (b.setSes f x).holdExpired = b.holdExpired := Eq.refl _
@[simp] theorem Blk.setSes_modeReq (b : Blk) (f : Nat) (x : Ses) : (b.setSes f x).modeReq = b.modeReq := Eq.refl _
@[simp] theorem Blk.setSes_rst (b : Blk) (f : Nat) (x : Ses) : (b.setSes f x).rst = b.rst := Eq.refl _
@[simp] theorem Blk.setSes_boot (b : Blk) (f : Nat) (x : Ses) : (b.setSes f x).boot = b.boot := Eq.refl _
@[simp] theorem Blk.setSes_lcs (b : Blk) (f : Nat) (x : Ses) : (b.setSes f x).lcs = b.lcs := Eq.refl _
@[simp] theorem Blk.setSes_rings (b : Blk) (f : Nat) (x : Ses) : (b.setSes f x).rings = b.rings := Eq.refl _
@[simp] theorem Blk.setSes_evts (b : Blk) (f : Nat) (x : Ses) : (b.setSes f x).evts = b.evts := Eq.refl _
@[simp] theorem Blk.setSes_err (b : Blk) (f : Nat) (x : Ses) : (b.setSes f x).err = b.err := Eq.refl _
@[simp] theorem Blk.setSes_pmc (b : Blk) (f : Nat) (x : Ses) : (b.setSes f x).pmc = b.pmc := Eq.refl _
@[simp] theorem Blk.setSes_ins (b : Blk) (f : Nat) (x : Ses) : (b.setSes f x).ins = b.ins := Eq.refl _
@[simp] theorem Blk.setSes_laster (b : Blk) (f : Nat) (x : Ses) : (b.setSes f x).laster = b.laster := Eq.refl _
@[simp] theorem Blk.setSes_refs (b : Blk) (f : Nat) (x : Ses) : (b.setSes f x).refs = b.refs := Eq.refl _
@[simp] theorem Blk.setSes_heel (b : Blk) (f : Nat) (x : Ses) : (b.setSes f x).heel = b.heel := Eq.refl _
@[simp] theorem Blk.setSes_hold (b : Blk) (f : Nat) (x : Ses) : (b.setSes f x).hold = b.hold := Eq.refl _
@[simp] theorem Blk.setSes_outs (b : Blk) (f : Nat) (x : Ses) : (b.setSes f x).outs = b.outs := Eq.refl _
@[simp] theorem Blk.setSes_eyes (b : Blk) (f : Nat) (x : Ses) : (b.setSes f x).eyes = b.eyes := Eq.refl _
@[simp] theorem Blk.setSes_ports (b : Blk) (f : Nat) (x : Ses) : (b.setSes f x).ports = b.ports := Eq.refl _
@[simp] theorem Blk.setSes_clk (b : Blk) (f : Nat) (x : Ses) : (b.setSes f x).clk = b.clk := Eq.refl _
@[simp] theorem Blk.setSes_ct (b : Blk) (f : Nat) (x : Ses) : (b.setSes f x).ct = b.ct := Eq.refl _
@[simp] theorem Blk.setSes_eng (b : Blk) (f : Nat) (x : Ses) : (b.setSes f x).eng = b.eng := Eq.refl _
@[simp] theorem Blk.setSes_nts (b : Blk) (f : Nat) (x : Ses) : (b.setSes f x).nts = b.nts := Eq.refl _
@[simp] theorem Blk.setSes_ptp (b : Blk) (f : Nat) (x : Ses) : (b.setSes f x).ptp = b.ptp := Eq.refl _
@[simp] theorem Blk.setSes_twin (b : Blk) (f : Nat) (x : Ses) : (b.setSes f x).twin = b.twin := Eq.refl _
@[simp] theorem Blk.setSes_flow (b : Blk) (f : Nat) (x : Ses) : (b.setSes f x).flow = b.flow := Eq.refl _
@[simp] theorem Blk.setSes_featAbsent (b : Blk) (f : Nat) (x : Ses) : (b.setSes f x).featAbsent = b.featAbsent := Eq.refl _
@[simp] theorem Blk.setSes_tj (b : Blk) (f : Nat) (x : Ses) : (b.setSes f x).tj = b.tj := Eq.refl _

@[simp] theorem Blk.setRing_part (b : Blk) (r : Nat) (x : Ring) : (b.setRing r x).part = b.part := Eq.refl _
@[simp] theorem Blk.setRing_up (b : Blk) (r : Nat) (x : Ring) : (b.setRing r x).up = b.up := Eq.refl _
@[simp] theorem Blk.setRing_freeCtr (b : Blk) (r : Nat) (x : Ring) : (b.setRing r x).freeCtr = b.freeCtr := Eq.refl _
@[simp] theorem Blk.setRing_out (b : Blk) (r : Nat) (x : Ring) : (b.setRing r x).out = b.out := Eq.refl _
@[simp] theorem Blk.setRing_regs (b : Blk) (r : Nat) (x : Ring) : (b.setRing r x).regs = b.regs := Eq.refl _
@[simp] theorem Blk.setRing_ctr (b : Blk) (r : Nat) (x : Ring) : (b.setRing r x).ctr = b.ctr := Eq.refl _
@[simp] theorem Blk.setRing_latch (b : Blk) (r : Nat) (x : Ring) : (b.setRing r x).latch = b.latch := Eq.refl _
@[simp] theorem Blk.setRing_mode (b : Blk) (r : Nat) (x : Ring) : (b.setRing r x).mode = b.mode := Eq.refl _
@[simp] theorem Blk.setRing_lastMode (b : Blk) (r : Nat) (x : Ring) : (b.setRing r x).lastMode = b.lastMode := Eq.refl _
@[simp] theorem Blk.setRing_entryCause (b : Blk) (r : Nat) (x : Ring) : (b.setRing r x).entryCause = b.entryCause := Eq.refl _
@[simp] theorem Blk.setRing_holdExpired (b : Blk) (r : Nat) (x : Ring) : (b.setRing r x).holdExpired = b.holdExpired := Eq.refl _
@[simp] theorem Blk.setRing_modeReq (b : Blk) (r : Nat) (x : Ring) : (b.setRing r x).modeReq = b.modeReq := Eq.refl _
@[simp] theorem Blk.setRing_rst (b : Blk) (r : Nat) (x : Ring) : (b.setRing r x).rst = b.rst := Eq.refl _
@[simp] theorem Blk.setRing_boot (b : Blk) (r : Nat) (x : Ring) : (b.setRing r x).boot = b.boot := Eq.refl _
@[simp] theorem Blk.setRing_lcs (b : Blk) (r : Nat) (x : Ring) : (b.setRing r x).lcs = b.lcs := Eq.refl _
@[simp] theorem Blk.setRing_ses (b : Blk) (r : Nat) (x : Ring) : (b.setRing r x).ses = b.ses := Eq.refl _
@[simp] theorem Blk.setRing_evts (b : Blk) (r : Nat) (x : Ring) : (b.setRing r x).evts = b.evts := Eq.refl _
@[simp] theorem Blk.setRing_err (b : Blk) (r : Nat) (x : Ring) : (b.setRing r x).err = b.err := Eq.refl _
@[simp] theorem Blk.setRing_pmc (b : Blk) (r : Nat) (x : Ring) : (b.setRing r x).pmc = b.pmc := Eq.refl _
@[simp] theorem Blk.setRing_ins (b : Blk) (r : Nat) (x : Ring) : (b.setRing r x).ins = b.ins := Eq.refl _
@[simp] theorem Blk.setRing_laster (b : Blk) (r : Nat) (x : Ring) : (b.setRing r x).laster = b.laster := Eq.refl _
@[simp] theorem Blk.setRing_refs (b : Blk) (r : Nat) (x : Ring) : (b.setRing r x).refs = b.refs := Eq.refl _
@[simp] theorem Blk.setRing_heel (b : Blk) (r : Nat) (x : Ring) : (b.setRing r x).heel = b.heel := Eq.refl _
@[simp] theorem Blk.setRing_hold (b : Blk) (r : Nat) (x : Ring) : (b.setRing r x).hold = b.hold := Eq.refl _
@[simp] theorem Blk.setRing_outs (b : Blk) (r : Nat) (x : Ring) : (b.setRing r x).outs = b.outs := Eq.refl _
@[simp] theorem Blk.setRing_eyes (b : Blk) (r : Nat) (x : Ring) : (b.setRing r x).eyes = b.eyes := Eq.refl _
@[simp] theorem Blk.setRing_ports (b : Blk) (r : Nat) (x : Ring) : (b.setRing r x).ports = b.ports := Eq.refl _
@[simp] theorem Blk.setRing_clk (b : Blk) (r : Nat) (x : Ring) : (b.setRing r x).clk = b.clk := Eq.refl _
@[simp] theorem Blk.setRing_ct (b : Blk) (r : Nat) (x : Ring) : (b.setRing r x).ct = b.ct := Eq.refl _
@[simp] theorem Blk.setRing_eng (b : Blk) (r : Nat) (x : Ring) : (b.setRing r x).eng = b.eng := Eq.refl _
@[simp] theorem Blk.setRing_nts (b : Blk) (r : Nat) (x : Ring) : (b.setRing r x).nts = b.nts := Eq.refl _
@[simp] theorem Blk.setRing_ptp (b : Blk) (r : Nat) (x : Ring) : (b.setRing r x).ptp = b.ptp := Eq.refl _
@[simp] theorem Blk.setRing_twin (b : Blk) (r : Nat) (x : Ring) : (b.setRing r x).twin = b.twin := Eq.refl _
@[simp] theorem Blk.setRing_flow (b : Blk) (r : Nat) (x : Ring) : (b.setRing r x).flow = b.flow := Eq.refl _
@[simp] theorem Blk.setRing_featAbsent (b : Blk) (r : Nat) (x : Ring) : (b.setRing r x).featAbsent = b.featAbsent := Eq.refl _
@[simp] theorem Blk.setRing_tj (b : Blk) (r : Nat) (x : Ring) : (b.setRing r x).tj = b.tj := Eq.refl _

@[simp] theorem Blk.setEvt_part (b : Blk) (f : Nat) (x : Evt) : (b.setEvt f x).part = b.part := Eq.refl _
@[simp] theorem Blk.setEvt_up (b : Blk) (f : Nat) (x : Evt) : (b.setEvt f x).up = b.up := Eq.refl _
@[simp] theorem Blk.setEvt_freeCtr (b : Blk) (f : Nat) (x : Evt) : (b.setEvt f x).freeCtr = b.freeCtr := Eq.refl _
@[simp] theorem Blk.setEvt_out (b : Blk) (f : Nat) (x : Evt) : (b.setEvt f x).out = b.out := Eq.refl _
@[simp] theorem Blk.setEvt_regs (b : Blk) (f : Nat) (x : Evt) : (b.setEvt f x).regs = b.regs := Eq.refl _
@[simp] theorem Blk.setEvt_ctr (b : Blk) (f : Nat) (x : Evt) : (b.setEvt f x).ctr = b.ctr := Eq.refl _
@[simp] theorem Blk.setEvt_latch (b : Blk) (f : Nat) (x : Evt) : (b.setEvt f x).latch = b.latch := Eq.refl _
@[simp] theorem Blk.setEvt_mode (b : Blk) (f : Nat) (x : Evt) : (b.setEvt f x).mode = b.mode := Eq.refl _
@[simp] theorem Blk.setEvt_lastMode (b : Blk) (f : Nat) (x : Evt) : (b.setEvt f x).lastMode = b.lastMode := Eq.refl _
@[simp] theorem Blk.setEvt_entryCause (b : Blk) (f : Nat) (x : Evt) : (b.setEvt f x).entryCause = b.entryCause := Eq.refl _
@[simp] theorem Blk.setEvt_holdExpired (b : Blk) (f : Nat) (x : Evt) : (b.setEvt f x).holdExpired = b.holdExpired := Eq.refl _
@[simp] theorem Blk.setEvt_modeReq (b : Blk) (f : Nat) (x : Evt) : (b.setEvt f x).modeReq = b.modeReq := Eq.refl _
@[simp] theorem Blk.setEvt_rst (b : Blk) (f : Nat) (x : Evt) : (b.setEvt f x).rst = b.rst := Eq.refl _
@[simp] theorem Blk.setEvt_boot (b : Blk) (f : Nat) (x : Evt) : (b.setEvt f x).boot = b.boot := Eq.refl _
@[simp] theorem Blk.setEvt_lcs (b : Blk) (f : Nat) (x : Evt) : (b.setEvt f x).lcs = b.lcs := Eq.refl _
@[simp] theorem Blk.setEvt_ses (b : Blk) (f : Nat) (x : Evt) : (b.setEvt f x).ses = b.ses := Eq.refl _
@[simp] theorem Blk.setEvt_rings (b : Blk) (f : Nat) (x : Evt) : (b.setEvt f x).rings = b.rings := Eq.refl _
@[simp] theorem Blk.setEvt_err (b : Blk) (f : Nat) (x : Evt) : (b.setEvt f x).err = b.err := Eq.refl _
@[simp] theorem Blk.setEvt_pmc (b : Blk) (f : Nat) (x : Evt) : (b.setEvt f x).pmc = b.pmc := Eq.refl _
@[simp] theorem Blk.setEvt_ins (b : Blk) (f : Nat) (x : Evt) : (b.setEvt f x).ins = b.ins := Eq.refl _
@[simp] theorem Blk.setEvt_laster (b : Blk) (f : Nat) (x : Evt) : (b.setEvt f x).laster = b.laster := Eq.refl _
@[simp] theorem Blk.setEvt_refs (b : Blk) (f : Nat) (x : Evt) : (b.setEvt f x).refs = b.refs := Eq.refl _
@[simp] theorem Blk.setEvt_heel (b : Blk) (f : Nat) (x : Evt) : (b.setEvt f x).heel = b.heel := Eq.refl _
@[simp] theorem Blk.setEvt_hold (b : Blk) (f : Nat) (x : Evt) : (b.setEvt f x).hold = b.hold := Eq.refl _
@[simp] theorem Blk.setEvt_outs (b : Blk) (f : Nat) (x : Evt) : (b.setEvt f x).outs = b.outs := Eq.refl _
@[simp] theorem Blk.setEvt_eyes (b : Blk) (f : Nat) (x : Evt) : (b.setEvt f x).eyes = b.eyes := Eq.refl _
@[simp] theorem Blk.setEvt_ports (b : Blk) (f : Nat) (x : Evt) : (b.setEvt f x).ports = b.ports := Eq.refl _
@[simp] theorem Blk.setEvt_clk (b : Blk) (f : Nat) (x : Evt) : (b.setEvt f x).clk = b.clk := Eq.refl _
@[simp] theorem Blk.setEvt_ct (b : Blk) (f : Nat) (x : Evt) : (b.setEvt f x).ct = b.ct := Eq.refl _
@[simp] theorem Blk.setEvt_eng (b : Blk) (f : Nat) (x : Evt) : (b.setEvt f x).eng = b.eng := Eq.refl _
@[simp] theorem Blk.setEvt_nts (b : Blk) (f : Nat) (x : Evt) : (b.setEvt f x).nts = b.nts := Eq.refl _
@[simp] theorem Blk.setEvt_ptp (b : Blk) (f : Nat) (x : Evt) : (b.setEvt f x).ptp = b.ptp := Eq.refl _
@[simp] theorem Blk.setEvt_twin (b : Blk) (f : Nat) (x : Evt) : (b.setEvt f x).twin = b.twin := Eq.refl _
@[simp] theorem Blk.setEvt_flow (b : Blk) (f : Nat) (x : Evt) : (b.setEvt f x).flow = b.flow := Eq.refl _
@[simp] theorem Blk.setEvt_featAbsent (b : Blk) (f : Nat) (x : Evt) : (b.setEvt f x).featAbsent = b.featAbsent := Eq.refl _
@[simp] theorem Blk.setEvt_tj (b : Blk) (f : Nat) (x : Evt) : (b.setEvt f x).tj = b.tj := Eq.refl _

@[simp] theorem Blk.setSlot_part (b : Blk) (i : Nat) (x : Slot) : (b.setSlot i x).part = b.part := Eq.refl _
@[simp] theorem Blk.setSlot_up (b : Blk) (i : Nat) (x : Slot) : (b.setSlot i x).up = b.up := Eq.refl _
@[simp] theorem Blk.setSlot_freeCtr (b : Blk) (i : Nat) (x : Slot) : (b.setSlot i x).freeCtr = b.freeCtr := Eq.refl _
@[simp] theorem Blk.setSlot_out (b : Blk) (i : Nat) (x : Slot) : (b.setSlot i x).out = b.out := Eq.refl _
@[simp] theorem Blk.setSlot_regs (b : Blk) (i : Nat) (x : Slot) : (b.setSlot i x).regs = b.regs := Eq.refl _
@[simp] theorem Blk.setSlot_ctr (b : Blk) (i : Nat) (x : Slot) : (b.setSlot i x).ctr = b.ctr := Eq.refl _
@[simp] theorem Blk.setSlot_latch (b : Blk) (i : Nat) (x : Slot) : (b.setSlot i x).latch = b.latch := Eq.refl _
@[simp] theorem Blk.setSlot_mode (b : Blk) (i : Nat) (x : Slot) : (b.setSlot i x).mode = b.mode := Eq.refl _
@[simp] theorem Blk.setSlot_lastMode (b : Blk) (i : Nat) (x : Slot) : (b.setSlot i x).lastMode = b.lastMode := Eq.refl _
@[simp] theorem Blk.setSlot_entryCause (b : Blk) (i : Nat) (x : Slot) : (b.setSlot i x).entryCause = b.entryCause := Eq.refl _
@[simp] theorem Blk.setSlot_holdExpired (b : Blk) (i : Nat) (x : Slot) : (b.setSlot i x).holdExpired = b.holdExpired := Eq.refl _
@[simp] theorem Blk.setSlot_modeReq (b : Blk) (i : Nat) (x : Slot) : (b.setSlot i x).modeReq = b.modeReq := Eq.refl _
@[simp] theorem Blk.setSlot_rst (b : Blk) (i : Nat) (x : Slot) : (b.setSlot i x).rst = b.rst := Eq.refl _
@[simp] theorem Blk.setSlot_boot (b : Blk) (i : Nat) (x : Slot) : (b.setSlot i x).boot = b.boot := Eq.refl _
@[simp] theorem Blk.setSlot_lcs (b : Blk) (i : Nat) (x : Slot) : (b.setSlot i x).lcs = b.lcs := Eq.refl _
@[simp] theorem Blk.setSlot_ses (b : Blk) (i : Nat) (x : Slot) : (b.setSlot i x).ses = b.ses := Eq.refl _
@[simp] theorem Blk.setSlot_rings (b : Blk) (i : Nat) (x : Slot) : (b.setSlot i x).rings = b.rings := Eq.refl _
@[simp] theorem Blk.setSlot_evts (b : Blk) (i : Nat) (x : Slot) : (b.setSlot i x).evts = b.evts := Eq.refl _
@[simp] theorem Blk.setSlot_err (b : Blk) (i : Nat) (x : Slot) : (b.setSlot i x).err = b.err := Eq.refl _
@[simp] theorem Blk.setSlot_pmc (b : Blk) (i : Nat) (x : Slot) : (b.setSlot i x).pmc = b.pmc := Eq.refl _
@[simp] theorem Blk.setSlot_ins (b : Blk) (i : Nat) (x : Slot) : (b.setSlot i x).ins = b.ins := Eq.refl _
@[simp] theorem Blk.setSlot_laster (b : Blk) (i : Nat) (x : Slot) : (b.setSlot i x).laster = b.laster := Eq.refl _
@[simp] theorem Blk.setSlot_heel (b : Blk) (i : Nat) (x : Slot) : (b.setSlot i x).heel = b.heel := Eq.refl _
@[simp] theorem Blk.setSlot_hold (b : Blk) (i : Nat) (x : Slot) : (b.setSlot i x).hold = b.hold := Eq.refl _
@[simp] theorem Blk.setSlot_outs (b : Blk) (i : Nat) (x : Slot) : (b.setSlot i x).outs = b.outs := Eq.refl _
@[simp] theorem Blk.setSlot_eyes (b : Blk) (i : Nat) (x : Slot) : (b.setSlot i x).eyes = b.eyes := Eq.refl _
@[simp] theorem Blk.setSlot_ports (b : Blk) (i : Nat) (x : Slot) : (b.setSlot i x).ports = b.ports := Eq.refl _
@[simp] theorem Blk.setSlot_clk (b : Blk) (i : Nat) (x : Slot) : (b.setSlot i x).clk = b.clk := Eq.refl _
@[simp] theorem Blk.setSlot_ct (b : Blk) (i : Nat) (x : Slot) : (b.setSlot i x).ct = b.ct := Eq.refl _
@[simp] theorem Blk.setSlot_eng (b : Blk) (i : Nat) (x : Slot) : (b.setSlot i x).eng = b.eng := Eq.refl _
@[simp] theorem Blk.setSlot_nts (b : Blk) (i : Nat) (x : Slot) : (b.setSlot i x).nts = b.nts := Eq.refl _
@[simp] theorem Blk.setSlot_ptp (b : Blk) (i : Nat) (x : Slot) : (b.setSlot i x).ptp = b.ptp := Eq.refl _
@[simp] theorem Blk.setSlot_twin (b : Blk) (i : Nat) (x : Slot) : (b.setSlot i x).twin = b.twin := Eq.refl _
@[simp] theorem Blk.setSlot_flow (b : Blk) (i : Nat) (x : Slot) : (b.setSlot i x).flow = b.flow := Eq.refl _
@[simp] theorem Blk.setSlot_featAbsent (b : Blk) (i : Nat) (x : Slot) : (b.setSlot i x).featAbsent = b.featAbsent := Eq.refl _
@[simp] theorem Blk.setSlot_tj (b : Blk) (i : Nat) (x : Slot) : (b.setSlot i x).tj = b.tj := Eq.refl _

@[simp] theorem Blk.setOut_part (b : Blk) (u : Nat) (x : OutUnit) : (b.setOut u x).part = b.part := Eq.refl _
@[simp] theorem Blk.setOut_up (b : Blk) (u : Nat) (x : OutUnit) : (b.setOut u x).up = b.up := Eq.refl _
@[simp] theorem Blk.setOut_freeCtr (b : Blk) (u : Nat) (x : OutUnit) : (b.setOut u x).freeCtr = b.freeCtr := Eq.refl _
@[simp] theorem Blk.setOut_out (b : Blk) (u : Nat) (x : OutUnit) : (b.setOut u x).out = b.out := Eq.refl _
@[simp] theorem Blk.setOut_regs (b : Blk) (u : Nat) (x : OutUnit) : (b.setOut u x).regs = b.regs := Eq.refl _
@[simp] theorem Blk.setOut_ctr (b : Blk) (u : Nat) (x : OutUnit) : (b.setOut u x).ctr = b.ctr := Eq.refl _
@[simp] theorem Blk.setOut_latch (b : Blk) (u : Nat) (x : OutUnit) : (b.setOut u x).latch = b.latch := Eq.refl _
@[simp] theorem Blk.setOut_mode (b : Blk) (u : Nat) (x : OutUnit) : (b.setOut u x).mode = b.mode := Eq.refl _
@[simp] theorem Blk.setOut_lastMode (b : Blk) (u : Nat) (x : OutUnit) : (b.setOut u x).lastMode = b.lastMode := Eq.refl _
@[simp] theorem Blk.setOut_entryCause (b : Blk) (u : Nat) (x : OutUnit) : (b.setOut u x).entryCause = b.entryCause := Eq.refl _
@[simp] theorem Blk.setOut_holdExpired (b : Blk) (u : Nat) (x : OutUnit) : (b.setOut u x).holdExpired = b.holdExpired := Eq.refl _
@[simp] theorem Blk.setOut_modeReq (b : Blk) (u : Nat) (x : OutUnit) : (b.setOut u x).modeReq = b.modeReq := Eq.refl _
@[simp] theorem Blk.setOut_rst (b : Blk) (u : Nat) (x : OutUnit) : (b.setOut u x).rst = b.rst := Eq.refl _
@[simp] theorem Blk.setOut_boot (b : Blk) (u : Nat) (x : OutUnit) : (b.setOut u x).boot = b.boot := Eq.refl _
@[simp] theorem Blk.setOut_lcs (b : Blk) (u : Nat) (x : OutUnit) : (b.setOut u x).lcs = b.lcs := Eq.refl _
@[simp] theorem Blk.setOut_ses (b : Blk) (u : Nat) (x : OutUnit) : (b.setOut u x).ses = b.ses := Eq.refl _
@[simp] theorem Blk.setOut_rings (b : Blk) (u : Nat) (x : OutUnit) : (b.setOut u x).rings = b.rings := Eq.refl _
@[simp] theorem Blk.setOut_evts (b : Blk) (u : Nat) (x : OutUnit) : (b.setOut u x).evts = b.evts := Eq.refl _
@[simp] theorem Blk.setOut_err (b : Blk) (u : Nat) (x : OutUnit) : (b.setOut u x).err = b.err := Eq.refl _
@[simp] theorem Blk.setOut_pmc (b : Blk) (u : Nat) (x : OutUnit) : (b.setOut u x).pmc = b.pmc := Eq.refl _
@[simp] theorem Blk.setOut_ins (b : Blk) (u : Nat) (x : OutUnit) : (b.setOut u x).ins = b.ins := Eq.refl _
@[simp] theorem Blk.setOut_laster (b : Blk) (u : Nat) (x : OutUnit) : (b.setOut u x).laster = b.laster := Eq.refl _
@[simp] theorem Blk.setOut_refs (b : Blk) (u : Nat) (x : OutUnit) : (b.setOut u x).refs = b.refs := Eq.refl _
@[simp] theorem Blk.setOut_heel (b : Blk) (u : Nat) (x : OutUnit) : (b.setOut u x).heel = b.heel := Eq.refl _
@[simp] theorem Blk.setOut_hold (b : Blk) (u : Nat) (x : OutUnit) : (b.setOut u x).hold = b.hold := Eq.refl _
@[simp] theorem Blk.setOut_eyes (b : Blk) (u : Nat) (x : OutUnit) : (b.setOut u x).eyes = b.eyes := Eq.refl _
@[simp] theorem Blk.setOut_ports (b : Blk) (u : Nat) (x : OutUnit) : (b.setOut u x).ports = b.ports := Eq.refl _
@[simp] theorem Blk.setOut_clk (b : Blk) (u : Nat) (x : OutUnit) : (b.setOut u x).clk = b.clk := Eq.refl _
@[simp] theorem Blk.setOut_ct (b : Blk) (u : Nat) (x : OutUnit) : (b.setOut u x).ct = b.ct := Eq.refl _
@[simp] theorem Blk.setOut_eng (b : Blk) (u : Nat) (x : OutUnit) : (b.setOut u x).eng = b.eng := Eq.refl _
@[simp] theorem Blk.setOut_nts (b : Blk) (u : Nat) (x : OutUnit) : (b.setOut u x).nts = b.nts := Eq.refl _
@[simp] theorem Blk.setOut_ptp (b : Blk) (u : Nat) (x : OutUnit) : (b.setOut u x).ptp = b.ptp := Eq.refl _
@[simp] theorem Blk.setOut_twin (b : Blk) (u : Nat) (x : OutUnit) : (b.setOut u x).twin = b.twin := Eq.refl _
@[simp] theorem Blk.setOut_flow (b : Blk) (u : Nat) (x : OutUnit) : (b.setOut u x).flow = b.flow := Eq.refl _
@[simp] theorem Blk.setOut_featAbsent (b : Blk) (u : Nat) (x : OutUnit) : (b.setOut u x).featAbsent = b.featAbsent := Eq.refl _
@[simp] theorem Blk.setOut_tj (b : Blk) (u : Nat) (x : OutUnit) : (b.setOut u x).tj = b.tj := Eq.refl _

@[simp] theorem Blk.setEye_part (b : Blk) (e : Nat) (x : Eyelet) : (b.setEye e x).part = b.part := Eq.refl _
@[simp] theorem Blk.setEye_up (b : Blk) (e : Nat) (x : Eyelet) : (b.setEye e x).up = b.up := Eq.refl _
@[simp] theorem Blk.setEye_freeCtr (b : Blk) (e : Nat) (x : Eyelet) : (b.setEye e x).freeCtr = b.freeCtr := Eq.refl _
@[simp] theorem Blk.setEye_out (b : Blk) (e : Nat) (x : Eyelet) : (b.setEye e x).out = b.out := Eq.refl _
@[simp] theorem Blk.setEye_regs (b : Blk) (e : Nat) (x : Eyelet) : (b.setEye e x).regs = b.regs := Eq.refl _
@[simp] theorem Blk.setEye_ctr (b : Blk) (e : Nat) (x : Eyelet) : (b.setEye e x).ctr = b.ctr := Eq.refl _
@[simp] theorem Blk.setEye_latch (b : Blk) (e : Nat) (x : Eyelet) : (b.setEye e x).latch = b.latch := Eq.refl _
@[simp] theorem Blk.setEye_mode (b : Blk) (e : Nat) (x : Eyelet) : (b.setEye e x).mode = b.mode := Eq.refl _
@[simp] theorem Blk.setEye_lastMode (b : Blk) (e : Nat) (x : Eyelet) : (b.setEye e x).lastMode = b.lastMode := Eq.refl _
@[simp] theorem Blk.setEye_entryCause (b : Blk) (e : Nat) (x : Eyelet) : (b.setEye e x).entryCause = b.entryCause := Eq.refl _
@[simp] theorem Blk.setEye_holdExpired (b : Blk) (e : Nat) (x : Eyelet) : (b.setEye e x).holdExpired = b.holdExpired := Eq.refl _
@[simp] theorem Blk.setEye_modeReq (b : Blk) (e : Nat) (x : Eyelet) : (b.setEye e x).modeReq = b.modeReq := Eq.refl _
@[simp] theorem Blk.setEye_rst (b : Blk) (e : Nat) (x : Eyelet) : (b.setEye e x).rst = b.rst := Eq.refl _
@[simp] theorem Blk.setEye_boot (b : Blk) (e : Nat) (x : Eyelet) : (b.setEye e x).boot = b.boot := Eq.refl _
@[simp] theorem Blk.setEye_lcs (b : Blk) (e : Nat) (x : Eyelet) : (b.setEye e x).lcs = b.lcs := Eq.refl _
@[simp] theorem Blk.setEye_ses (b : Blk) (e : Nat) (x : Eyelet) : (b.setEye e x).ses = b.ses := Eq.refl _
@[simp] theorem Blk.setEye_rings (b : Blk) (e : Nat) (x : Eyelet) : (b.setEye e x).rings = b.rings := Eq.refl _
@[simp] theorem Blk.setEye_evts (b : Blk) (e : Nat) (x : Eyelet) : (b.setEye e x).evts = b.evts := Eq.refl _
@[simp] theorem Blk.setEye_err (b : Blk) (e : Nat) (x : Eyelet) : (b.setEye e x).err = b.err := Eq.refl _
@[simp] theorem Blk.setEye_pmc (b : Blk) (e : Nat) (x : Eyelet) : (b.setEye e x).pmc = b.pmc := Eq.refl _
@[simp] theorem Blk.setEye_ins (b : Blk) (e : Nat) (x : Eyelet) : (b.setEye e x).ins = b.ins := Eq.refl _
@[simp] theorem Blk.setEye_laster (b : Blk) (e : Nat) (x : Eyelet) : (b.setEye e x).laster = b.laster := Eq.refl _
@[simp] theorem Blk.setEye_refs (b : Blk) (e : Nat) (x : Eyelet) : (b.setEye e x).refs = b.refs := Eq.refl _
@[simp] theorem Blk.setEye_heel (b : Blk) (e : Nat) (x : Eyelet) : (b.setEye e x).heel = b.heel := Eq.refl _
@[simp] theorem Blk.setEye_hold (b : Blk) (e : Nat) (x : Eyelet) : (b.setEye e x).hold = b.hold := Eq.refl _
@[simp] theorem Blk.setEye_outs (b : Blk) (e : Nat) (x : Eyelet) : (b.setEye e x).outs = b.outs := Eq.refl _
@[simp] theorem Blk.setEye_ports (b : Blk) (e : Nat) (x : Eyelet) : (b.setEye e x).ports = b.ports := Eq.refl _
@[simp] theorem Blk.setEye_clk (b : Blk) (e : Nat) (x : Eyelet) : (b.setEye e x).clk = b.clk := Eq.refl _
@[simp] theorem Blk.setEye_ct (b : Blk) (e : Nat) (x : Eyelet) : (b.setEye e x).ct = b.ct := Eq.refl _
@[simp] theorem Blk.setEye_eng (b : Blk) (e : Nat) (x : Eyelet) : (b.setEye e x).eng = b.eng := Eq.refl _
@[simp] theorem Blk.setEye_nts (b : Blk) (e : Nat) (x : Eyelet) : (b.setEye e x).nts = b.nts := Eq.refl _
@[simp] theorem Blk.setEye_ptp (b : Blk) (e : Nat) (x : Eyelet) : (b.setEye e x).ptp = b.ptp := Eq.refl _
@[simp] theorem Blk.setEye_twin (b : Blk) (e : Nat) (x : Eyelet) : (b.setEye e x).twin = b.twin := Eq.refl _
@[simp] theorem Blk.setEye_flow (b : Blk) (e : Nat) (x : Eyelet) : (b.setEye e x).flow = b.flow := Eq.refl _
@[simp] theorem Blk.setEye_featAbsent (b : Blk) (e : Nat) (x : Eyelet) : (b.setEye e x).featAbsent = b.featAbsent := Eq.refl _
@[simp] theorem Blk.setEye_tj (b : Blk) (e : Nat) (x : Eyelet) : (b.setEye e x).tj = b.tj := Eq.refl _

@[simp] theorem Blk.setPort_part (b : Blk) (p : Nat) (x : Port) : (b.setPort p x).part = b.part := Eq.refl _
@[simp] theorem Blk.setPort_up (b : Blk) (p : Nat) (x : Port) : (b.setPort p x).up = b.up := Eq.refl _
@[simp] theorem Blk.setPort_freeCtr (b : Blk) (p : Nat) (x : Port) : (b.setPort p x).freeCtr = b.freeCtr := Eq.refl _
@[simp] theorem Blk.setPort_out (b : Blk) (p : Nat) (x : Port) : (b.setPort p x).out = b.out := Eq.refl _
@[simp] theorem Blk.setPort_regs (b : Blk) (p : Nat) (x : Port) : (b.setPort p x).regs = b.regs := Eq.refl _
@[simp] theorem Blk.setPort_ctr (b : Blk) (p : Nat) (x : Port) : (b.setPort p x).ctr = b.ctr := Eq.refl _
@[simp] theorem Blk.setPort_latch (b : Blk) (p : Nat) (x : Port) : (b.setPort p x).latch = b.latch := Eq.refl _
@[simp] theorem Blk.setPort_mode (b : Blk) (p : Nat) (x : Port) : (b.setPort p x).mode = b.mode := Eq.refl _
@[simp] theorem Blk.setPort_lastMode (b : Blk) (p : Nat) (x : Port) : (b.setPort p x).lastMode = b.lastMode := Eq.refl _
@[simp] theorem Blk.setPort_entryCause (b : Blk) (p : Nat) (x : Port) : (b.setPort p x).entryCause = b.entryCause := Eq.refl _
@[simp] theorem Blk.setPort_holdExpired (b : Blk) (p : Nat) (x : Port) : (b.setPort p x).holdExpired = b.holdExpired := Eq.refl _
@[simp] theorem Blk.setPort_modeReq (b : Blk) (p : Nat) (x : Port) : (b.setPort p x).modeReq = b.modeReq := Eq.refl _
@[simp] theorem Blk.setPort_rst (b : Blk) (p : Nat) (x : Port) : (b.setPort p x).rst = b.rst := Eq.refl _
@[simp] theorem Blk.setPort_boot (b : Blk) (p : Nat) (x : Port) : (b.setPort p x).boot = b.boot := Eq.refl _
@[simp] theorem Blk.setPort_lcs (b : Blk) (p : Nat) (x : Port) : (b.setPort p x).lcs = b.lcs := Eq.refl _
@[simp] theorem Blk.setPort_ses (b : Blk) (p : Nat) (x : Port) : (b.setPort p x).ses = b.ses := Eq.refl _
@[simp] theorem Blk.setPort_rings (b : Blk) (p : Nat) (x : Port) : (b.setPort p x).rings = b.rings := Eq.refl _
@[simp] theorem Blk.setPort_evts (b : Blk) (p : Nat) (x : Port) : (b.setPort p x).evts = b.evts := Eq.refl _
@[simp] theorem Blk.setPort_err (b : Blk) (p : Nat) (x : Port) : (b.setPort p x).err = b.err := Eq.refl _
@[simp] theorem Blk.setPort_pmc (b : Blk) (p : Nat) (x : Port) : (b.setPort p x).pmc = b.pmc := Eq.refl _
@[simp] theorem Blk.setPort_ins (b : Blk) (p : Nat) (x : Port) : (b.setPort p x).ins = b.ins := Eq.refl _
@[simp] theorem Blk.setPort_laster (b : Blk) (p : Nat) (x : Port) : (b.setPort p x).laster = b.laster := Eq.refl _
@[simp] theorem Blk.setPort_refs (b : Blk) (p : Nat) (x : Port) : (b.setPort p x).refs = b.refs := Eq.refl _
@[simp] theorem Blk.setPort_heel (b : Blk) (p : Nat) (x : Port) : (b.setPort p x).heel = b.heel := Eq.refl _
@[simp] theorem Blk.setPort_hold (b : Blk) (p : Nat) (x : Port) : (b.setPort p x).hold = b.hold := Eq.refl _
@[simp] theorem Blk.setPort_outs (b : Blk) (p : Nat) (x : Port) : (b.setPort p x).outs = b.outs := Eq.refl _
@[simp] theorem Blk.setPort_eyes (b : Blk) (p : Nat) (x : Port) : (b.setPort p x).eyes = b.eyes := Eq.refl _
@[simp] theorem Blk.setPort_clk (b : Blk) (p : Nat) (x : Port) : (b.setPort p x).clk = b.clk := Eq.refl _
@[simp] theorem Blk.setPort_ct (b : Blk) (p : Nat) (x : Port) : (b.setPort p x).ct = b.ct := Eq.refl _
@[simp] theorem Blk.setPort_eng (b : Blk) (p : Nat) (x : Port) : (b.setPort p x).eng = b.eng := Eq.refl _
@[simp] theorem Blk.setPort_nts (b : Blk) (p : Nat) (x : Port) : (b.setPort p x).nts = b.nts := Eq.refl _
@[simp] theorem Blk.setPort_ptp (b : Blk) (p : Nat) (x : Port) : (b.setPort p x).ptp = b.ptp := Eq.refl _
@[simp] theorem Blk.setPort_twin (b : Blk) (p : Nat) (x : Port) : (b.setPort p x).twin = b.twin := Eq.refl _
@[simp] theorem Blk.setPort_flow (b : Blk) (p : Nat) (x : Port) : (b.setPort p x).flow = b.flow := Eq.refl _
@[simp] theorem Blk.setPort_featAbsent (b : Blk) (p : Nat) (x : Port) : (b.setPort p x).featAbsent = b.featAbsent := Eq.refl _
@[simp] theorem Blk.setPort_tj (b : Blk) (p : Nat) (x : Port) : (b.setPort p x).tj = b.tj := Eq.refl _

@[simp] theorem Blk.setEpoch_part (b : Blk) (n : Nat) (x : Epoch) : (b.setEpoch n x).part = b.part := Eq.refl _
@[simp] theorem Blk.setEpoch_up (b : Blk) (n : Nat) (x : Epoch) : (b.setEpoch n x).up = b.up := Eq.refl _
@[simp] theorem Blk.setEpoch_freeCtr (b : Blk) (n : Nat) (x : Epoch) : (b.setEpoch n x).freeCtr = b.freeCtr := Eq.refl _
@[simp] theorem Blk.setEpoch_out (b : Blk) (n : Nat) (x : Epoch) : (b.setEpoch n x).out = b.out := Eq.refl _
@[simp] theorem Blk.setEpoch_regs (b : Blk) (n : Nat) (x : Epoch) : (b.setEpoch n x).regs = b.regs := Eq.refl _
@[simp] theorem Blk.setEpoch_ctr (b : Blk) (n : Nat) (x : Epoch) : (b.setEpoch n x).ctr = b.ctr := Eq.refl _
@[simp] theorem Blk.setEpoch_latch (b : Blk) (n : Nat) (x : Epoch) : (b.setEpoch n x).latch = b.latch := Eq.refl _
@[simp] theorem Blk.setEpoch_mode (b : Blk) (n : Nat) (x : Epoch) : (b.setEpoch n x).mode = b.mode := Eq.refl _
@[simp] theorem Blk.setEpoch_lastMode (b : Blk) (n : Nat) (x : Epoch) : (b.setEpoch n x).lastMode = b.lastMode := Eq.refl _
@[simp] theorem Blk.setEpoch_entryCause (b : Blk) (n : Nat) (x : Epoch) : (b.setEpoch n x).entryCause = b.entryCause := Eq.refl _
@[simp] theorem Blk.setEpoch_holdExpired (b : Blk) (n : Nat) (x : Epoch) : (b.setEpoch n x).holdExpired = b.holdExpired := Eq.refl _
@[simp] theorem Blk.setEpoch_modeReq (b : Blk) (n : Nat) (x : Epoch) : (b.setEpoch n x).modeReq = b.modeReq := Eq.refl _
@[simp] theorem Blk.setEpoch_rst (b : Blk) (n : Nat) (x : Epoch) : (b.setEpoch n x).rst = b.rst := Eq.refl _
@[simp] theorem Blk.setEpoch_boot (b : Blk) (n : Nat) (x : Epoch) : (b.setEpoch n x).boot = b.boot := Eq.refl _
@[simp] theorem Blk.setEpoch_lcs (b : Blk) (n : Nat) (x : Epoch) : (b.setEpoch n x).lcs = b.lcs := Eq.refl _
@[simp] theorem Blk.setEpoch_ses (b : Blk) (n : Nat) (x : Epoch) : (b.setEpoch n x).ses = b.ses := Eq.refl _
@[simp] theorem Blk.setEpoch_rings (b : Blk) (n : Nat) (x : Epoch) : (b.setEpoch n x).rings = b.rings := Eq.refl _
@[simp] theorem Blk.setEpoch_evts (b : Blk) (n : Nat) (x : Epoch) : (b.setEpoch n x).evts = b.evts := Eq.refl _
@[simp] theorem Blk.setEpoch_err (b : Blk) (n : Nat) (x : Epoch) : (b.setEpoch n x).err = b.err := Eq.refl _
@[simp] theorem Blk.setEpoch_pmc (b : Blk) (n : Nat) (x : Epoch) : (b.setEpoch n x).pmc = b.pmc := Eq.refl _
@[simp] theorem Blk.setEpoch_ins (b : Blk) (n : Nat) (x : Epoch) : (b.setEpoch n x).ins = b.ins := Eq.refl _
@[simp] theorem Blk.setEpoch_laster (b : Blk) (n : Nat) (x : Epoch) : (b.setEpoch n x).laster = b.laster := Eq.refl _
@[simp] theorem Blk.setEpoch_refs (b : Blk) (n : Nat) (x : Epoch) : (b.setEpoch n x).refs = b.refs := Eq.refl _
@[simp] theorem Blk.setEpoch_heel (b : Blk) (n : Nat) (x : Epoch) : (b.setEpoch n x).heel = b.heel := Eq.refl _
@[simp] theorem Blk.setEpoch_hold (b : Blk) (n : Nat) (x : Epoch) : (b.setEpoch n x).hold = b.hold := Eq.refl _
@[simp] theorem Blk.setEpoch_outs (b : Blk) (n : Nat) (x : Epoch) : (b.setEpoch n x).outs = b.outs := Eq.refl _
@[simp] theorem Blk.setEpoch_eyes (b : Blk) (n : Nat) (x : Epoch) : (b.setEpoch n x).eyes = b.eyes := Eq.refl _
@[simp] theorem Blk.setEpoch_ports (b : Blk) (n : Nat) (x : Epoch) : (b.setEpoch n x).ports = b.ports := Eq.refl _
@[simp] theorem Blk.setEpoch_clk (b : Blk) (n : Nat) (x : Epoch) : (b.setEpoch n x).clk = b.clk := Eq.refl _
@[simp] theorem Blk.setEpoch_ct (b : Blk) (n : Nat) (x : Epoch) : (b.setEpoch n x).ct = b.ct := Eq.refl _
@[simp] theorem Blk.setEpoch_eng (b : Blk) (n : Nat) (x : Epoch) : (b.setEpoch n x).eng = b.eng := Eq.refl _
@[simp] theorem Blk.setEpoch_ptp (b : Blk) (n : Nat) (x : Epoch) : (b.setEpoch n x).ptp = b.ptp := Eq.refl _
@[simp] theorem Blk.setEpoch_twin (b : Blk) (n : Nat) (x : Epoch) : (b.setEpoch n x).twin = b.twin := Eq.refl _
@[simp] theorem Blk.setEpoch_flow (b : Blk) (n : Nat) (x : Epoch) : (b.setEpoch n x).flow = b.flow := Eq.refl _
@[simp] theorem Blk.setEpoch_featAbsent (b : Blk) (n : Nat) (x : Epoch) : (b.setEpoch n x).featAbsent = b.featAbsent := Eq.refl _
@[simp] theorem Blk.setEpoch_tj (b : Blk) (n : Nat) (x : Epoch) : (b.setEpoch n x).tj = b.tj := Eq.refl _

@[simp] theorem Blk.setClient_part (b : Blk) (p : Nat) (x : PClient) : (b.setClient p x).part = b.part := Eq.refl _
@[simp] theorem Blk.setClient_up (b : Blk) (p : Nat) (x : PClient) : (b.setClient p x).up = b.up := Eq.refl _
@[simp] theorem Blk.setClient_freeCtr (b : Blk) (p : Nat) (x : PClient) : (b.setClient p x).freeCtr = b.freeCtr := Eq.refl _
@[simp] theorem Blk.setClient_out (b : Blk) (p : Nat) (x : PClient) : (b.setClient p x).out = b.out := Eq.refl _
@[simp] theorem Blk.setClient_regs (b : Blk) (p : Nat) (x : PClient) : (b.setClient p x).regs = b.regs := Eq.refl _
@[simp] theorem Blk.setClient_ctr (b : Blk) (p : Nat) (x : PClient) : (b.setClient p x).ctr = b.ctr := Eq.refl _
@[simp] theorem Blk.setClient_latch (b : Blk) (p : Nat) (x : PClient) : (b.setClient p x).latch = b.latch := Eq.refl _
@[simp] theorem Blk.setClient_mode (b : Blk) (p : Nat) (x : PClient) : (b.setClient p x).mode = b.mode := Eq.refl _
@[simp] theorem Blk.setClient_lastMode (b : Blk) (p : Nat) (x : PClient) : (b.setClient p x).lastMode = b.lastMode := Eq.refl _
@[simp] theorem Blk.setClient_entryCause (b : Blk) (p : Nat) (x : PClient) : (b.setClient p x).entryCause = b.entryCause := Eq.refl _
@[simp] theorem Blk.setClient_holdExpired (b : Blk) (p : Nat) (x : PClient) : (b.setClient p x).holdExpired = b.holdExpired := Eq.refl _
@[simp] theorem Blk.setClient_modeReq (b : Blk) (p : Nat) (x : PClient) : (b.setClient p x).modeReq = b.modeReq := Eq.refl _
@[simp] theorem Blk.setClient_rst (b : Blk) (p : Nat) (x : PClient) : (b.setClient p x).rst = b.rst := Eq.refl _
@[simp] theorem Blk.setClient_boot (b : Blk) (p : Nat) (x : PClient) : (b.setClient p x).boot = b.boot := Eq.refl _
@[simp] theorem Blk.setClient_lcs (b : Blk) (p : Nat) (x : PClient) : (b.setClient p x).lcs = b.lcs := Eq.refl _
@[simp] theorem Blk.setClient_ses (b : Blk) (p : Nat) (x : PClient) : (b.setClient p x).ses = b.ses := Eq.refl _
@[simp] theorem Blk.setClient_rings (b : Blk) (p : Nat) (x : PClient) : (b.setClient p x).rings = b.rings := Eq.refl _
@[simp] theorem Blk.setClient_evts (b : Blk) (p : Nat) (x : PClient) : (b.setClient p x).evts = b.evts := Eq.refl _
@[simp] theorem Blk.setClient_err (b : Blk) (p : Nat) (x : PClient) : (b.setClient p x).err = b.err := Eq.refl _
@[simp] theorem Blk.setClient_pmc (b : Blk) (p : Nat) (x : PClient) : (b.setClient p x).pmc = b.pmc := Eq.refl _
@[simp] theorem Blk.setClient_ins (b : Blk) (p : Nat) (x : PClient) : (b.setClient p x).ins = b.ins := Eq.refl _
@[simp] theorem Blk.setClient_laster (b : Blk) (p : Nat) (x : PClient) : (b.setClient p x).laster = b.laster := Eq.refl _
@[simp] theorem Blk.setClient_refs (b : Blk) (p : Nat) (x : PClient) : (b.setClient p x).refs = b.refs := Eq.refl _
@[simp] theorem Blk.setClient_heel (b : Blk) (p : Nat) (x : PClient) : (b.setClient p x).heel = b.heel := Eq.refl _
@[simp] theorem Blk.setClient_hold (b : Blk) (p : Nat) (x : PClient) : (b.setClient p x).hold = b.hold := Eq.refl _
@[simp] theorem Blk.setClient_outs (b : Blk) (p : Nat) (x : PClient) : (b.setClient p x).outs = b.outs := Eq.refl _
@[simp] theorem Blk.setClient_eyes (b : Blk) (p : Nat) (x : PClient) : (b.setClient p x).eyes = b.eyes := Eq.refl _
@[simp] theorem Blk.setClient_ports (b : Blk) (p : Nat) (x : PClient) : (b.setClient p x).ports = b.ports := Eq.refl _
@[simp] theorem Blk.setClient_clk (b : Blk) (p : Nat) (x : PClient) : (b.setClient p x).clk = b.clk := Eq.refl _
@[simp] theorem Blk.setClient_ct (b : Blk) (p : Nat) (x : PClient) : (b.setClient p x).ct = b.ct := Eq.refl _
@[simp] theorem Blk.setClient_eng (b : Blk) (p : Nat) (x : PClient) : (b.setClient p x).eng = b.eng := Eq.refl _
@[simp] theorem Blk.setClient_nts (b : Blk) (p : Nat) (x : PClient) : (b.setClient p x).nts = b.nts := Eq.refl _
@[simp] theorem Blk.setClient_twin (b : Blk) (p : Nat) (x : PClient) : (b.setClient p x).twin = b.twin := Eq.refl _
@[simp] theorem Blk.setClient_flow (b : Blk) (p : Nat) (x : PClient) : (b.setClient p x).flow = b.flow := Eq.refl _
@[simp] theorem Blk.setClient_featAbsent (b : Blk) (p : Nat) (x : PClient) : (b.setClient p x).featAbsent = b.featAbsent := Eq.refl _
@[simp] theorem Blk.setClient_tj (b : Blk) (p : Nat) (x : PClient) : (b.setClient p x).tj = b.tj := Eq.refl _

@[simp] theorem Blk.put_out (b : Blk) (e : Emit) : (b.put e).out = e :: b.out := Eq.refl _
@[simp] theorem Blk.draw_freeCtr (b : Blk) (n : Nat) : (b.draw n).freeCtr = b.freeCtr + n := Eq.refl _
@[simp] theorem Blk.sesOf_setSes (b : Blk) (f g : Nat) (x : Ses) : (b.setSes f x).sesOf g = if g = f then x else b.sesOf g := tget_tput ..
@[simp] theorem Blk.ringOf_setRing (b : Blk) (r q : Nat) (x : Ring) : (b.setRing r x).ringOf q = if q = r then x else b.ringOf q := tget_tput ..
@[simp] theorem Blk.evtOf_setEvt (b : Blk) (f g : Nat) (x : Evt) : (b.setEvt f x).evtOf g = if g = f then x else b.evtOf g := tget_tput ..
@[simp] theorem Blk.slotOf_setSlot (b : Blk) (i j : Nat) (x : Slot) : (b.setSlot i x).slotOf j = if j = i then x else b.slotOf j := tget_tput ..
@[simp] theorem Blk.outOf_setOut (b : Blk) (u v : Nat) (x : OutUnit) : (b.setOut u x).outOf v = if v = u then x else b.outOf v := tget_tput ..
@[simp] theorem Blk.eyeOf_setEye (b : Blk) (e g : Nat) (x : Eyelet) : (b.setEye e x).eyeOf g = if g = e then x else b.eyeOf g := tget_tput ..
@[simp] theorem Blk.portOf_setPort (b : Blk) (p q : Nat) (x : Port) : (b.setPort p x).portOf q = if q = p then x else b.portOf q := tget_tput ..
@[simp] theorem Blk.epochOf_setEpoch (b : Blk) (n m : Nat) (x : Epoch) : (b.setEpoch n x).epochOf m = if m = n then x else b.epochOf m := tget_tput ..
@[simp] theorem Blk.clientOf_setClient (b : Blk) (p q : Nat) (x : PClient) : (b.setClient p x).clientOf q = if q = p then x else b.clientOf q :=
  tget_tput ..

/-! ### The frame of a command -/

@[simp] theorem Blk.pass_part (b : Blk) (w : Nat) : (b.pass w).part = b.part := Eq.refl _
@[simp] theorem Blk.pass_freeCtr (b : Blk) (w : Nat) : (b.pass w).freeCtr = b.freeCtr := Eq.refl _
@[simp] theorem Blk.pass_out (b : Blk) (w : Nat) : (b.pass w).out = b.out := Eq.refl _
@[simp] theorem Blk.pass_regs (b : Blk) (w : Nat) : (b.pass w).regs = b.regs := Eq.refl _
@[simp] theorem Blk.pass_ctr (b : Blk) (w : Nat) : (b.pass w).ctr = b.ctr := Eq.refl _
@[simp] theorem Blk.pass_latch (b : Blk) (w : Nat) : (b.pass w).latch = b.latch := Eq.refl _
@[simp] theorem Blk.pass_mode (b : Blk) (w : Nat) : (b.pass w).mode = b.mode := Eq.refl _
@[simp] theorem Blk.pass_lastMode (b : Blk) (w : Nat) : (b.pass w).lastMode = b.lastMode := Eq.refl _
@[simp] theorem Blk.pass_entryCause (b : Blk) (w : Nat) : (b.pass w).entryCause = b.entryCause := Eq.refl _
@[simp] theorem Blk.pass_holdExpired (b : Blk) (w : Nat) : (b.pass w).holdExpired = b.holdExpired := Eq.refl _
@[simp] theorem Blk.pass_modeReq (b : Blk) (w : Nat) : (b.pass w).modeReq = b.modeReq := Eq.refl _
@[simp] theorem Blk.pass_rst (b : Blk) (w : Nat) : (b.pass w).rst = b.rst := Eq.refl _
@[simp] theorem Blk.pass_boot (b : Blk) (w : Nat) : (b.pass w).boot = b.boot := Eq.refl _
@[simp] theorem Blk.pass_lcs (b : Blk) (w : Nat) : (b.pass w).lcs = b.lcs := Eq.refl _
@[simp] theorem Blk.pass_ses (b : Blk) (w : Nat) : (b.pass w).ses = b.ses := Eq.refl _
@[simp] theorem Blk.pass_rings (b : Blk) (w : Nat) : (b.pass w).rings = b.rings := Eq.refl _
@[simp] theorem Blk.pass_evts (b : Blk) (w : Nat) : (b.pass w).evts = b.evts := Eq.refl _
@[simp] theorem Blk.pass_err (b : Blk) (w : Nat) : (b.pass w).err = b.err := Eq.refl _
@[simp] theorem Blk.pass_laster (b : Blk) (w : Nat) : (b.pass w).laster = b.laster := Eq.refl _
@[simp] theorem Blk.pass_refs (b : Blk) (w : Nat) : (b.pass w).refs = b.refs := Eq.refl _
@[simp] theorem Blk.pass_heel (b : Blk) (w : Nat) : (b.pass w).heel = b.heel := Eq.refl _
@[simp] theorem Blk.pass_hold (b : Blk) (w : Nat) : (b.pass w).hold = b.hold := Eq.refl _
@[simp] theorem Blk.pass_outs (b : Blk) (w : Nat) : (b.pass w).outs = b.outs := Eq.refl _
@[simp] theorem Blk.pass_eyes (b : Blk) (w : Nat) : (b.pass w).eyes = b.eyes := Eq.refl _
@[simp] theorem Blk.pass_ports (b : Blk) (w : Nat) : (b.pass w).ports = b.ports := Eq.refl _
@[simp] theorem Blk.pass_clk (b : Blk) (w : Nat) : (b.pass w).clk = b.clk := Eq.refl _
@[simp] theorem Blk.pass_ct (b : Blk) (w : Nat) : (b.pass w).ct = b.ct := Eq.refl _
@[simp] theorem Blk.pass_eng (b : Blk) (w : Nat) : (b.pass w).eng = b.eng := Eq.refl _
@[simp] theorem Blk.pass_nts (b : Blk) (w : Nat) : (b.pass w).nts = b.nts := Eq.refl _
@[simp] theorem Blk.pass_ptp (b : Blk) (w : Nat) : (b.pass w).ptp = b.ptp := Eq.refl _
@[simp] theorem Blk.pass_twin (b : Blk) (w : Nat) : (b.pass w).twin = b.twin := Eq.refl _
@[simp] theorem Blk.pass_flow (b : Blk) (w : Nat) : (b.pass w).flow = b.flow := Eq.refl _
@[simp] theorem Blk.pass_featAbsent (b : Blk) (w : Nat) : (b.pass w).featAbsent = b.featAbsent := Eq.refl _
@[simp] theorem Blk.pass_tj (b : Blk) (w : Nat) : (b.pass w).tj = b.tj := Eq.refl _
@[simp] theorem Blk.pass_up (b : Blk) (w : Nat) : (b.pass w).up = b.up + w := Eq.refl _

@[simp] theorem Blk.settle_part (a b : Blk) : (Blk.settle a b).part = b.part := Eq.refl _
@[simp] theorem Blk.settle_up (a b : Blk) : (Blk.settle a b).up = b.up := Eq.refl _
@[simp] theorem Blk.settle_freeCtr (a b : Blk) : (Blk.settle a b).freeCtr = b.freeCtr := Eq.refl _
@[simp] theorem Blk.settle_regs (a b : Blk) : (Blk.settle a b).regs = b.regs := Eq.refl _
@[simp] theorem Blk.settle_ctr (a b : Blk) : (Blk.settle a b).ctr = b.ctr := Eq.refl _
@[simp] theorem Blk.settle_latch (a b : Blk) : (Blk.settle a b).latch = b.latch := Eq.refl _
@[simp] theorem Blk.settle_mode (a b : Blk) : (Blk.settle a b).mode = b.mode := Eq.refl _
@[simp] theorem Blk.settle_lastMode (a b : Blk) : (Blk.settle a b).lastMode = b.lastMode := Eq.refl _
@[simp] theorem Blk.settle_entryCause (a b : Blk) : (Blk.settle a b).entryCause = b.entryCause := Eq.refl _
@[simp] theorem Blk.settle_holdExpired (a b : Blk) : (Blk.settle a b).holdExpired = b.holdExpired := Eq.refl _
@[simp] theorem Blk.settle_modeReq (a b : Blk) : (Blk.settle a b).modeReq = b.modeReq := Eq.refl _
@[simp] theorem Blk.settle_rst (a b : Blk) : (Blk.settle a b).rst = b.rst := Eq.refl _
@[simp] theorem Blk.settle_boot (a b : Blk) : (Blk.settle a b).boot = b.boot := Eq.refl _
@[simp] theorem Blk.settle_lcs (a b : Blk) : (Blk.settle a b).lcs = b.lcs := Eq.refl _
@[simp] theorem Blk.settle_ses (a b : Blk) : (Blk.settle a b).ses = b.ses := Eq.refl _
@[simp] theorem Blk.settle_rings (a b : Blk) : (Blk.settle a b).rings = b.rings := Eq.refl _
@[simp] theorem Blk.settle_err (a b : Blk) : (Blk.settle a b).err = b.err := Eq.refl _
@[simp] theorem Blk.settle_ins (a b : Blk) : (Blk.settle a b).ins = b.ins := Eq.refl _
@[simp] theorem Blk.settle_laster (a b : Blk) : (Blk.settle a b).laster = b.laster := Eq.refl _
@[simp] theorem Blk.settle_refs (a b : Blk) : (Blk.settle a b).refs = b.refs := Eq.refl _
@[simp] theorem Blk.settle_heel (a b : Blk) : (Blk.settle a b).heel = b.heel := Eq.refl _
@[simp] theorem Blk.settle_hold (a b : Blk) : (Blk.settle a b).hold = b.hold := Eq.refl _
@[simp] theorem Blk.settle_outs (a b : Blk) : (Blk.settle a b).outs = b.outs := Eq.refl _
@[simp] theorem Blk.settle_eyes (a b : Blk) : (Blk.settle a b).eyes = b.eyes := Eq.refl _
@[simp] theorem Blk.settle_ports (a b : Blk) : (Blk.settle a b).ports = b.ports := Eq.refl _
@[simp] theorem Blk.settle_clk (a b : Blk) : (Blk.settle a b).clk = b.clk := Eq.refl _
@[simp] theorem Blk.settle_ct (a b : Blk) : (Blk.settle a b).ct = b.ct := Eq.refl _
@[simp] theorem Blk.settle_eng (a b : Blk) : (Blk.settle a b).eng = b.eng := Eq.refl _
@[simp] theorem Blk.settle_nts (a b : Blk) : (Blk.settle a b).nts = b.nts := Eq.refl _
@[simp] theorem Blk.settle_ptp (a b : Blk) : (Blk.settle a b).ptp = b.ptp := Eq.refl _
@[simp] theorem Blk.settle_flow (a b : Blk) : (Blk.settle a b).flow = b.flow := Eq.refl _
@[simp] theorem Blk.settle_tj (a b : Blk) : (Blk.settle a b).tj = b.tj := Eq.refl _

end Sys2Proof.Machine
end

