-- ==== Sys2Proof/Tests/Slice0.lean ====
section
/-! SUPPORT. Tests: the checks of WellFormed refuse an ill-formed command each; single steps with results from the spec's own
words; and for every obligation with hypotheses a witness, states and operands that meet those of each of its clauses. -/

set_option Elab.async false
set_option linter.unusedVariables false
set_option linter.all false
namespace Sys2Proof.Tests
open Sys2Proof.Machine

/-- A state with a block and nothing else. -/
def st (b : Blk) : State := { pending := [], nvm := {}, blk := b }
/-- The block with register fields written. -/
def wrs (b : Blk) (l : List (BF × Nat)) : Blk := l.foldl (fun b x => b.wr x.1 x.2) b
/-- A booted block in ACQUIRE at 1000 s, with a session of F0 open in every privilege. -/
def on : Blk :=
  { mode := .acquire, lastMode := .loading, boot := { done := true }, ins := { running := true, now := secU 1000, absent := secU 1000, timeValid := true }, up := secU 2000
    ses := [(0, { st := .opened, priv := 0x1FFF, ks := List.replicate 16 7, idleFrom := secU 2000 })] }
/-- The same in another mode. -/
def onIn (m : Mode) : Blk := { on with mode := m }
/-- A descriptor: opcode, flags, and bytes from byte 8 on, filled to 32 bytes. -/
def desc (op flags : Nat) (l : Bytes) : Desc :=
  let a : Bytes := leB 1 op ++ leB 1 flags ++ List.replicate 6 0 ++ l
  { id := 0, idx := 0, data := a ++ List.replicate (32 - a.length) 0 }
/-- Ring pair 0 runs, with one descriptor to begin. -/
def ring (b : Blk) (d : Desc) : Blk := { b with rings := [(0, { running := true, sqCi := 1, sqPi := 1, descs := [d], nextId := 1 })] }
/-- The reset block once its reset has ended, in LOADING with one step running. -/
def loading (n : Nat) : Blk := { State.reset.blk with mode := .loading, rst := {}, boot := { step := some n } }

/-- An Olfel image of no records, signed by an owner (P-384; RESULT of an independent signer). -/
def img : Bytes := beB 224
  0x4f4c464c01000300e000000080000000000000000000000032ee5c42b2fe56347203b8edea84419f840701404d49c35da9b795ee000905419452be10623260b87ccc60aafff64239db3707273dda8747305f8c8e717b60081dc3ecd95b091d85e7a1c5672c5cd675336ecf789942c308e6c39226fcc0949c0000000000000000bfd152465458e5b9f1a903eafef03095ebfd52c5f9ea97be74de9194355fcfb40ec097315adf6afdefba21f44b625b48da7dc138e2b29b13610c77d60e7e50c26f06cf03899dfa8272d21120d0e6f0ef8c292272f564648d5c6a55f0538258c0
/-- Registers from a word on, from bytes in the order of 11 R290. -/
def words (b : Blk) (word : Nat → Nat) (n : Nat) (bs : Bytes) : Blk :=
  (List.range n).foldl (fun b i => b.wrW (word i) (beAt bs (4 * i) 4)) b
/-- The wrapped key of RFC 3394, 4.6, and its key-encryption key. -/
def wrapped : Bytes := beB 40 0x28C9F404C4B810F4CBCCB35CFB87F8263F5786E2D80ED326CBC7F0E71A99F43BFB988B9B7A02DD21
def kek : Bytes := beB 32 0x000102030405060708090A0B0C0D0E0F101112131415161718191A1B1C1D1E1F
/-- Reference slot 0 is QUALIFIED since 1000 s of elapsed time, bound to kind 1, and selected. -/
def locked (b : Blk) : Blk :=
  { b.wr (R.REF_SRC_KIND 0) 1 with refs := { slots := [(0, { st := .qualified, eligFrom := some (secU 1000) })], selected := some 0, lockFrom := some (secU 1000) } }
/-- The only Laster entry, at index 4095: issued, and due at 1000 s. -/
def lst (b : Blk) (e : LEntry) : Blk := { b with laster := { ents := [(4095, e)], gens := [(4095, 1)], seq := 1 } }
def entry (cls : Nat) : LEntry := { cls := cls, obj := 0, t0 := secU 1000, issued := true, owner := 0 }
/-- Reference slot 0 of a kind, in a state. -/
def slot (b : Blk) (kind : Nat) (x : Slot) : Blk := { b.wr (R.REF_SRC_KIND 0) kind with refs := { slots := [(0, x)] } }
/-- Eyelet 0 has a function, TBOSC is present, and its channel is as given. -/
def eye (b : Blk) (fn : Nat) (x : Eyelet) : Blk := { b.wr (R.PIN_EFN_FN 0) fn with eyes := { tbPresent := true, sensed := 0, ch := [(0, x)] } }
/-- ZDA of 1000 s after 1970. -/
def zda : Bytes := ascii "$GPZDA,001640,01,01,1970,00,00*44"
/-- Port 0 has LINK, and its queue and settings are as given. -/
def port (b : Blk) (x : Port) : Blk := { b with ports := [(0, { x with link := true, lock := true, fecLock := true })] }
def linked : Blk := port on {}
/-- A frame of 64 bytes with its FCS: destination, EtherType, and what follows. -/
def frame (dst : Bytes) (et : Nat) (l : Bytes) : Bytes :=
  let a := dst ++ [2, 0, 0, 0, 0, 9] ++ beB 2 et ++ l
  let a := a ++ List.replicate (60 - a.length) 0
  a ++ fcsOf a
def nullMac : Bytes := List.replicate 6 0
/-- A frame of a host that waits on port 0. -/
def tx : TxF := { id := 7, port := 0, cls := 0, data := List.replicate 60 0, src := .host, eg := 64, heldFrom := secU 2000, stamp := .keep }
/-- A plain request of port 0 that has just come, and an invocation for it. -/
def req : Req := { num := 3, port := 0, data := frame nullMac 0x0800 [], t2 := secU 1000, t2Up := secU 2000, svc := 0, nts := false, k := 0, cost := 1 }
def inv (x : Inv) : Blk := { on with eng := { invs := [(5, x)] } }
def inv0 : Inv := { entry := 0, req := req, eg := 128 }
/-- A client table with one row of the IPv4 client 192.0.2.1 in the bucket of its hash. -/
def cli : Bytes := [192, 0, 2, 1]
def tabled (x : Row) : Blk := { on with ct := { rows := [(on.bucketOf cli, { r0 := { x with valid := true, key := leNat cli } })] } }
/-- A CLIENT_TABLE_OP on that client. -/
def ctOp (sub : Nat) : Bytes := leB 1 sub ++ List.replicate 7 0 ++ cli
/-- The master key 00..3F wrapped under `kek` (RFC 3394), without activation and expiry. -/
def block : Bytes := beB 72 0xFD60DA85910562B7128C68E8EF7D0D9C52181542A03C58D6F16A00E9F4BEF9ED195EE89E3B724A701FCD74C1CE288CF8231E94A70F0B5B21DE12F6D18A4B28522A19529842B7DEEB
def master : Bytes := (List.range 64).map (BitVec.ofNat 8)
def keyed : Blk := { on with ses := [(0, { st := .opened, priv := 0x1FFF, ks := kek })] }
/-- A module of an attached pair with the Welt up. -/
def twin (b : Blk) (t : Twin) : Blk := { b with twin := { t with attached := true, link := true } }
/-- The client of port 0 runs: slot 0 is bound to it and PTP_REF is effective. -/
def client (b : Blk) (x : PClient) : Blk :=
  { wrs (port (locked b) {}) [(R.REF_SRC_KIND 0, 4), (R.REF_SRC_KIND 1, 4), (R.REF_SRC_OBJ 1, 9), (R.RST_FEATURE_EN, 2 ^ featRef), (R.PRT_FEATURE_EN 0, 2 ^ featRef)] with ptp := { clients := [(0, x)] } }
/-- The peer of a pair whose key is `kek`, SIDE 1, with the words of this block. -/
def mate (b : Blk) : TwinPeer :=
  let caps := [0, 1, 2, 3].map b.capWord
  { serial := 77, side := 1, prio := 0, nonce := [5], keyed := true, caps := caps, en := b.rd R.RST_FEATURE_EN, pset := b.psetWord, svn := b.psetSvn
    board := b.rdW R.TWN_BOARD, deployed := true, mode := 3, expired := false, claims := false, allowReset := true
    proof := attachProof kek 1 (freeBytes 16 65) [5] (attachDigest caps (b.rd R.RST_FEATURE_EN) b.psetWord b.psetSvn (b.rdW R.TWN_BOARD)) }
def pairing (b : Blk) : State := { st b with nvm := { lifecycle := .deployed, kp := some kek } }
/-- ACQUIRE with TWIN enabled, the Welt up and an attempt to make. -/
def ready (t : Twin) : Blk := { wrs on [(R.RST_FEATURE_EN, 2 ^ featTwin), (R.TWN_CFG_AUTO, 1)] with twin := { t with link := true } }

/-! ### Key unwrapping, one step at a time, so that the kernel evaluates each on literals -/

/-- The round keys of `kek`. -/
def rks : List Bytes :=
  (List.range 15).map fun i => beB 16 (0x102030405060708090A0B0C0D0E0F101112131415161718191A1B1C1D1E1FA573C29FA176C498A97FCE93A572C09C1651A8CD0244BEDA1A5DA4C10640BADEAE87DFF00FF11B68A68ED5FB03FC15676DE1F1486FA54F9275F8EB5373B8518DC656827FC9A799176F294CEC6CD5598B3DE23A75524775E727BF9EB45407CF390BDC905FC27B0948AD5245A4C1871C2F45F5A66017B2D387300D4D33640A820A7CCFF71CBEB4FE5413E6BBF0D261A7DFF01AFAFEE7A82979D7A5644AB3AFE6402541FE719BF500258813BBD55A721C0A4E5A6699A9F24FE07E572BAACDF8CDEA24FC79CCBF0979E9371AC23C6D68DE36 >>> (128 * (14 - i)) % 2 ^ 128)
theorem kek_keys : aesKeys kek = rks := by decide +kernel

/-- The register and the n blocks of an unwrapping, from one number. -/
def unpack (n v : Nat) : Bytes × List Bytes :=
  let b := beB (8 + 8 * n) v
  (b.take 8, (List.range n).map fun i => sliceB b (8 + 8 * i) 8)
/-- Each number of the list is one unwrapping step after the number before it; t counts the first of these steps down. -/
def unwraps (ks : List Bytes) (n : Nat) : Nat → List Nat → Bool
  | t + 1, v :: w :: l => unwrapStep ks n (t + 1) (unpack n v) == unpack n w && unwraps ks n t (w :: l)
  | _, [_] => true
  | _, _ => false
theorem unwraps_last (ks : List Bytes) (n : Nat) : ∀ (l : List Nat) (t v u : Nat), unwraps ks n t (v :: l) = true → (v :: l).getLastD 0 = u →
    unwrapLoop ks n t (unpack n v) = unwrapLoop ks n (t - l.length) (unpack n u)
  | [], t, _, _, _, hu => by subst hu; rfl
  | w :: l, 0, v, _, h, _ => by simp [unwraps] at h
  | w :: l, t + 1, v, u, h, hu => by
    simp only [unwraps, Bool.and_eq_true, beq_iff_eq] at h
    simp only [unwrapLoop, h.1, List.length_cons, Nat.add_sub_add_right]
    exact unwraps_last ks n l t w u h.2 hu
theorem unwrap_of_steps {ks w : Bytes} {n : Nat} {k : Bytes} (hks : ks = kek) (v u : Nat)
    (hn : w.length / 8 - 1 = n) (h0 : (w.take 8, (List.range n).map fun i => sliceB w (8 + 8 * i) 8) = unpack n v)
    (hs : unwrapLoop rks n (6 * n) (unpack n v) = unpack n u)
    (hk : (unpack n u).1 = List.replicate 8 0xA6 ∧ (unpack n u).2.flatten = k) : keyUnwrap ks w = some k := by
  subst hks hn
  simp only [keyUnwrap, kek_keys, h0, hs]
  rw [hk.1, hk.2]
  rfl

/-! The steps of RFC 3394's example. -/

theorem steps4_0 : unwraps rks 4 24 [
    0x28C9F404C4B810F4CBCCB35CFB87F8263F5786E2D80ED326CBC7F0E71A99F43BFB988B9B7A02DD21,
    0x0AEB82AE3146A90CCBCCB35CFB87F8263F5786E2D80ED326CBC7F0E71A99F43B07DFE775B9687E73,
    0x39D02FE7435870FBCBCCB35CFB87F8263F5786E2D80ED3261CFBF6B4C24CB98207DFE775B9687E73,
    0xC89A96CA7B163ED9CBCCB35CFB87F826F7EDAD518C960D361CFBF6B4C24CB98207DFE775B9687E73,
    0xD058823360F88A231BB8C765A84195E7F7EDAD518C960D361CFBF6B4C24CB98207DFE775B9687E73,
    0xB422B444B87A19181BB8C765A84195E7F7EDAD518C960D361CFBF6B4C24CB98240F68C91DB49702C,
    0xF19D80D437EFE8EB1BB8C765A84195E7F7EDAD518C960D36C272E9466AAE98F940F68C91DB49702C,
    0xA5382A26B47551E01BB8C765A84195E7BCA418BBF7DCE60BC272E9466AAE98F940F68C91DB49702C,
    0x5075496800978B5A4745856AF333F01FBCA418BBF7DCE60BC272E9466AAE98F940F68C91DB49702C] = true := by decide +kernel
theorem steps4_1 : unwraps rks 4 16 [
    0x5075496800978B5A4745856AF333F01FBCA418BBF7DCE60BC272E9466AAE98F940F68C91DB49702C,
    0x33FE29365885C4B84745856AF333F01FBCA418BBF7DCE60BC272E9466AAE98F93CF149E90E8C04D9,
    0x15342443CB95ADBF4745856AF333F01FBCA418BBF7DCE60BF56701DAF03882163CF149E90E8C04D9,
    0x2E8E2B6BB201669B4745856AF333F01FFBEC169FA5C0F6BAF56701DAF03882163CF149E90E8C04D9,
    0xF9ED8A1429515669D6AE29ECE7192D43FBEC169FA5C0F6BAF56701DAF03882163CF149E90E8C04D9,
    0x0629EB29A42E4FD2D6AE29ECE7192D43FBEC169FA5C0F6BAF56701DAF038821673E3B6CBE5D05D74,
    0xDBA417FB51F9E3C1D6AE29ECE7192D43FBEC169FA5C0F6BAC365B66943E2D76073E3B6CBE5D05D74,
    0x1A681354E84C41F1D6AE29ECE7192D43EFD48BA304945576C365B66943E2D76073E3B6CBE5D05D74,
    0xC58B9D3AC6D5B946E7D1194D853E53F8EFD48BA304945576C365B66943E2D76073E3B6CBE5D05D74] = true := by decide +kernel
theorem steps4_2 : unwraps rks 4 8 [
    0xC58B9D3AC6D5B946E7D1194D853E53F8EFD48BA304945576C365B66943E2D76073E3B6CBE5D05D74,
    0x66D7A8ADD086B9DAE7D1194D853E53F8EFD48BA304945576C365B66943E2D760E5923CB9FDB56FBC,
    0x963AAFFD96B223EAE7D1194D853E53F8EFD48BA3049455766CA405593A3B5154E5923CB9FDB56FBC,
    0x4EF02EDD3146AFBEE7D1194D853E53F8F60E0CDB7F429FE86CA405593A3B5154E5923CB9FDB56FBC,
    0x564408FDD0DD2EA0F661BD9F31FBFA31F60E0CDB7F429FE86CA405593A3B5154E5923CB9FDB56FBC,
    0x9DF8F5405FBC00C2F661BD9F31FBFA31F60E0CDB7F429FE86CA405593A3B515408090A0B0C0D0E0F,
    0xD450EA5C5BBCB563F661BD9F31FBFA31F60E0CDB7F429FE8000102030405060708090A0B0C0D0E0F,
    0x794314D454E3FDE0F661BD9F31FBFA318899AABBCCDDEEFF000102030405060708090A0B0C0D0E0F,
    0xA6A6A6A6A6A6A6A600112233445566778899AABBCCDDEEFF000102030405060708090A0B0C0D0E0F] = true := by decide +kernel
def key32 : Bytes := beB 32 0x00112233445566778899AABBCCDDEEFF000102030405060708090A0B0C0D0E0F
theorem key_unwraps {ks w : Bytes} (hks : ks = kek) (hw : w = wrapped) : keyUnwrap ks w = some key32 := by
  subst hw
  exact unwrap_of_steps hks 0x28C9F404C4B810F4CBCCB35CFB87F8263F5786E2D80ED326CBC7F0E71A99F43BFB988B9B7A02DD21 0xA6A6A6A6A6A6A6A600112233445566778899AABBCCDDEEFF000102030405060708090A0B0C0D0E0F (by decide +kernel) (by decide +kernel)
    ((unwraps_last rks 4 _ _ _ _ steps4_0 rfl).trans ((unwraps_last rks 4 _ _ _ _ steps4_1 rfl).trans ((unwraps_last rks 4 _ _ _ _ steps4_2 rfl)))) (by decide +kernel)

/-! The steps of `block`. -/

theorem steps8_0 : unwraps rks 8 48 [
    0xFD60DA85910562B7128C68E8EF7D0D9C52181542A03C58D6F16A00E9F4BEF9ED195EE89E3B724A701FCD74C1CE288CF8231E94A70F0B5B21DE12F6D18A4B28522A19529842B7DEEB,
    0x5843A9EC4DA7AF6C128C68E8EF7D0D9C52181542A03C58D6F16A00E9F4BEF9ED195EE89E3B724A701FCD74C1CE288CF8231E94A70F0B5B21DE12F6D18A4B285282B404F5A223FF6E,
    0xF75D3FB4000A11D3128C68E8EF7D0D9C52181542A03C58D6F16A00E9F4BEF9ED195EE89E3B724A701FCD74C1CE288CF8231E94A70F0B5B21AC06613970114B8D82B404F5A223FF6E,
    0x11AAF33018193529128C68E8EF7D0D9C52181542A03C58D6F16A00E9F4BEF9ED195EE89E3B724A701FCD74C1CE288CF81AC8FD3ED2E231DFAC06613970114B8D82B404F5A223FF6E,
    0x0E1861DACAE16D65128C68E8EF7D0D9C52181542A03C58D6F16A00E9F4BEF9ED195EE89E3B724A70430614B96DE32ACE1AC8FD3ED2E231DFAC06613970114B8D82B404F5A223FF6E,
    0x31AE409B86B92EB6128C68E8EF7D0D9C52181542A03C58D6F16A00E9F4BEF9EDFF0734B9B6ADC958430614B96DE32ACE1AC8FD3ED2E231DFAC06613970114B8D82B404F5A223FF6E,
    0xEA89A1F43462940F128C68E8EF7D0D9C52181542A03C58D66D2FB375DC3557EDFF0734B9B6ADC958430614B96DE32ACE1AC8FD3ED2E231DFAC06613970114B8D82B404F5A223FF6E,
    0x234236487C992C51128C68E8EF7D0D9C383BBAD31DE66AC56D2FB375DC3557EDFF0734B9B6ADC958430614B96DE32ACE1AC8FD3ED2E231DFAC06613970114B8D82B404F5A223FF6E,
    0x4DA106CFA16B2000B01102617EAAEEF5383BBAD31DE66AC56D2FB375DC3557EDFF0734B9B6ADC958430614B96DE32ACE1AC8FD3ED2E231DFAC06613970114B8D82B404F5A223FF6E] = true := by decide +kernel
theorem steps8_1 : unwraps rks 8 40 [
    0x4DA106CFA16B2000B01102617EAAEEF5383BBAD31DE66AC56D2FB375DC3557EDFF0734B9B6ADC958430614B96DE32ACE1AC8FD3ED2E231DFAC06613970114B8D82B404F5A223FF6E,
    0x60C6DF2ABA08C74EB01102617EAAEEF5383BBAD31DE66AC56D2FB375DC3557EDFF0734B9B6ADC958430614B96DE32ACE1AC8FD3ED2E231DFAC06613970114B8D2791E1F30BCAE0E9,
    0xEB351761E05C4F0DB01102617EAAEEF5383BBAD31DE66AC56D2FB375DC3557EDFF0734B9B6ADC958430614B96DE32ACE1AC8FD3ED2E231DF92BA053D6B0289512791E1F30BCAE0E9,
    0x11F28C68262F7A0AB01102617EAAEEF5383BBAD31DE66AC56D2FB375DC3557EDFF0734B9B6ADC958430614B96DE32ACE82C5BE4AD6990CE592BA053D6B0289512791E1F30BCAE0E9,
    0x276DE89E71141507B01102617EAAEEF5383BBAD31DE66AC56D2FB375DC3557EDFF0734B9B6ADC9585C10A387745DB59982C5BE4AD6990CE592BA053D6B0289512791E1F30BCAE0E9,
    0x81DB723484622326B01102617EAAEEF5383BBAD31DE66AC56D2FB375DC3557ED564A9F28D7F57BF45C10A387745DB59982C5BE4AD6990CE592BA053D6B0289512791E1F30BCAE0E9,
    0x0B0DB0C6A0553D40B01102617EAAEEF5383BBAD31DE66AC52F75FDF68626D223564A9F28D7F57BF45C10A387745DB59982C5BE4AD6990CE592BA053D6B0289512791E1F30BCAE0E9,
    0x6131A13E28F9FC0BB01102617EAAEEF5E1C117F6CE0B22122F75FDF68626D223564A9F28D7F57BF45C10A387745DB59982C5BE4AD6990CE592BA053D6B0289512791E1F30BCAE0E9,
    0x13507B275B565D00D158A8F64836E49EE1C117F6CE0B22122F75FDF68626D223564A9F28D7F57BF45C10A387745DB59982C5BE4AD6990CE592BA053D6B0289512791E1F30BCAE0E9] = true := by decide +kernel
theorem steps8_2 : unwraps rks 8 32 [
    0x13507B275B565D00D158A8F64836E49EE1C117F6CE0B22122F75FDF68626D223564A9F28D7F57BF45C10A387745DB59982C5BE4AD6990CE592BA053D6B0289512791E1F30BCAE0E9,
    0xF735263A64DB1B0BD158A8F64836E49EE1C117F6CE0B22122F75FDF68626D223564A9F28D7F57BF45C10A387745DB59982C5BE4AD6990CE592BA053D6B028951DE4D8112535E58F9,
    0x13ED176B908847FDD158A8F64836E49EE1C117F6CE0B22122F75FDF68626D223564A9F28D7F57BF45C10A387745DB59982C5BE4AD6990CE58D81C58626EF0342DE4D8112535E58F9,
    0xD8280D1DDC8030FCD158A8F64836E49EE1C117F6CE0B22122F75FDF68626D223564A9F28D7F57BF45C10A387745DB599C228F325AB0B27768D81C58626EF0342DE4D8112535E58F9,
    0x61C711A86CC71B27D158A8F64836E49EE1C117F6CE0B22122F75FDF68626D223564A9F28D7F57BF4AB2DE7DB782CC007C228F325AB0B27768D81C58626EF0342DE4D8112535E58F9,
    0x09DAD014C5978403D158A8F64836E49EE1C117F6CE0B22122F75FDF68626D2230B6902732599D1ECAB2DE7DB782CC007C228F325AB0B27768D81C58626EF0342DE4D8112535E58F9,
    0xB94F15FD71A7BB6ED158A8F64836E49EE1C117F6CE0B2212F1A5A9D3C23949090B6902732599D1ECAB2DE7DB782CC007C228F325AB0B27768D81C58626EF0342DE4D8112535E58F9,
    0x82EAED9C99647F62D158A8F64836E49EE35D85C15D955F41F1A5A9D3C23949090B6902732599D1ECAB2DE7DB782CC007C228F325AB0B27768D81C58626EF0342DE4D8112535E58F9,
    0xC09D38FE50F3097918801EF93878CF8CE35D85C15D955F41F1A5A9D3C23949090B6902732599D1ECAB2DE7DB782CC007C228F325AB0B27768D81C58626EF0342DE4D8112535E58F9] = true := by decide +kernel
theorem steps8_3 : unwraps rks 8 24 [
    0xC09D38FE50F3097918801EF93878CF8CE35D85C15D955F41F1A5A9D3C23949090B6902732599D1ECAB2DE7DB782CC007C228F325AB0B27768D81C58626EF0342DE4D8112535E58F9,
    0x675CDE0222A5B71418801EF93878CF8CE35D85C15D955F41F1A5A9D3C23949090B6902732599D1ECAB2DE7DB782CC007C228F325AB0B27768D81C58626EF0342EAD798808C4CC81E,
    0x83EEE9F43377DD0518801EF93878CF8CE35D85C15D955F41F1A5A9D3C23949090B6902732599D1ECAB2DE7DB782CC007C228F325AB0B27760C3B1E20485ACD8CEAD798808C4CC81E,
    0xD746D097E6D9F9E418801EF93878CF8CE35D85C15D955F41F1A5A9D3C23949090B6902732599D1ECAB2DE7DB782CC00702570317286DF3790C3B1E20485ACD8CEAD798808C4CC81E,
    0x85DE8C0717C47A9718801EF93878CF8CE35D85C15D955F41F1A5A9D3C23949090B6902732599D1EC28C90CD30859F7BF02570317286DF3790C3B1E20485ACD8CEAD798808C4CC81E,
    0x9BAA2EDBA165A20018801EF93878CF8CE35D85C15D955F41F1A5A9D3C2394909654CCF3AD809587828C90CD30859F7BF02570317286DF3790C3B1E20485ACD8CEAD798808C4CC81E,
    0x5C0B2A72DBE6895E18801EF93878CF8CE35D85C15D955F41903041D901C9691E654CCF3AD809587828C90CD30859F7BF02570317286DF3790C3B1E20485ACD8CEAD798808C4CC81E,
    0x55211499045A89DF18801EF93878CF8CB112D3C30DFC36EA903041D901C9691E654CCF3AD809587828C90CD30859F7BF02570317286DF3790C3B1E20485ACD8CEAD798808C4CC81E,
    0x4BDD21CDCEDF87C059178D4838FCE261B112D3C30DFC36EA903041D901C9691E654CCF3AD809587828C90CD30859F7BF02570317286DF3790C3B1E20485ACD8CEAD798808C4CC81E] = true := by decide +kernel
theorem steps8_4 : unwraps rks 8 16 [
    0x4BDD21CDCEDF87C059178D4838FCE261B112D3C30DFC36EA903041D901C9691E654CCF3AD809587828C90CD30859F7BF02570317286DF3790C3B1E20485ACD8CEAD798808C4CC81E,
    0x4C73B9DEE852186859178D4838FCE261B112D3C30DFC36EA903041D901C9691E654CCF3AD809587828C90CD30859F7BF02570317286DF3790C3B1E20485ACD8CF2EB0627A0E3513F,
    0xFFB35BABFAED45D959178D4838FCE261B112D3C30DFC36EA903041D901C9691E654CCF3AD809587828C90CD30859F7BF02570317286DF379EAD0881E8FED3C37F2EB0627A0E3513F,
    0xF5F8E45C730E097259178D4838FCE261B112D3C30DFC36EA903041D901C9691E654CCF3AD809587828C90CD30859F7BF64D7E2BDFCDA9F6FEAD0881E8FED3C37F2EB0627A0E3513F,
    0x9DC63D2B316A521459178D4838FCE261B112D3C30DFC36EA903041D901C9691E654CCF3AD8095878424F3B40712BEF5164D7E2BDFCDA9F6FEAD0881E8FED3C37F2EB0627A0E3513F,
    0xE01050EBCD177AF959178D4838FCE261B112D3C30DFC36EA903041D901C9691EC8BAA97EFC719EE4424F3B40712BEF5164D7E2BDFCDA9F6FEAD0881E8FED3C37F2EB0627A0E3513F,
    0x7663981E3DAFEFA159178D4838FCE261B112D3C30DFC36EA682488FFDB9DD966C8BAA97EFC719EE4424F3B40712BEF5164D7E2BDFCDA9F6FEAD0881E8FED3C37F2EB0627A0E3513F,
    0x4DF318D586EA1D6159178D4838FCE26122F710857224B133682488FFDB9DD966C8BAA97EFC719EE4424F3B40712BEF5164D7E2BDFCDA9F6FEAD0881E8FED3C37F2EB0627A0E3513F,
    0x6CFD8FC4CA046327CF0DEF35C75B63E122F710857224B133682488FFDB9DD966C8BAA97EFC719EE4424F3B40712BEF5164D7E2BDFCDA9F6FEAD0881E8FED3C37F2EB0627A0E3513F] = true := by decide +kernel
theorem steps8_5 : unwraps rks 8 8 [
    0x6CFD8FC4CA046327CF0DEF35C75B63E122F710857224B133682488FFDB9DD966C8BAA97EFC719EE4424F3B40712BEF5164D7E2BDFCDA9F6FEAD0881E8FED3C37F2EB0627A0E3513F,
    0x62396B50A300C3DBCF0DEF35C75B63E122F710857224B133682488FFDB9DD966C8BAA97EFC719EE4424F3B40712BEF5164D7E2BDFCDA9F6FEAD0881E8FED3C3738393A3B3C3D3E3F,
    0x32776FCABC76A554CF0DEF35C75B63E122F710857224B133682488FFDB9DD966C8BAA97EFC719EE4424F3B40712BEF5164D7E2BDFCDA9F6F303132333435363738393A3B3C3D3E3F,
    0x9A580D91D017B303CF0DEF35C75B63E122F710857224B133682488FFDB9DD966C8BAA97EFC719EE4424F3B40712BEF5128292A2B2C2D2E2F303132333435363738393A3B3C3D3E3F,
    0x95B0157F6487693CCF0DEF35C75B63E122F710857224B133682488FFDB9DD966C8BAA97EFC719EE4202122232425262728292A2B2C2D2E2F303132333435363738393A3B3C3D3E3F,
    0xF7C6DB9A004E2147CF0DEF35C75B63E122F710857224B133682488FFDB9DD96618191A1B1C1D1E1F202122232425262728292A2B2C2D2E2F303132333435363738393A3B3C3D3E3F,
    0xFAE3A23CDAD2EE96CF0DEF35C75B63E122F710857224B133101112131415161718191A1B1C1D1E1F202122232425262728292A2B2C2D2E2F303132333435363738393A3B3C3D3E3F,
    0x7006D58DA322C02ACF0DEF35C75B63E108090A0B0C0D0E0F101112131415161718191A1B1C1D1E1F202122232425262728292A2B2C2D2E2F303132333435363738393A3B3C3D3E3F,
    0xA6A6A6A6A6A6A6A6000102030405060708090A0B0C0D0E0F101112131415161718191A1B1C1D1E1F202122232425262728292A2B2C2D2E2F303132333435363738393A3B3C3D3E3F] = true := by decide +kernel
theorem master_unwraps {ks w : Bytes} (hks : ks = kek) (hw : w = block) : keyUnwrap ks w = some master := by
  subst hw
  exact unwrap_of_steps hks 0xFD60DA85910562B7128C68E8EF7D0D9C52181542A03C58D6F16A00E9F4BEF9ED195EE89E3B724A701FCD74C1CE288CF8231E94A70F0B5B21DE12F6D18A4B28522A19529842B7DEEB 0xA6A6A6A6A6A6A6A6000102030405060708090A0B0C0D0E0F101112131415161718191A1B1C1D1E1F202122232425262728292A2B2C2D2E2F303132333435363738393A3B3C3D3E3F (by decide +kernel) (by decide +kernel)
    ((unwraps_last rks 8 _ _ _ _ steps8_0 rfl).trans ((unwraps_last rks 8 _ _ _ _ steps8_1 rfl).trans ((unwraps_last rks 8 _ _ _ _ steps8_2 rfl).trans ((unwraps_last rks 8 _ _ _ _ steps8_3 rfl).trans ((unwraps_last rks 8 _ _ _ _ steps8_4 rfl).trans ((unwraps_last rks 8 _ _ _ _ steps8_5 rfl))))))) (by decide +kernel)

/-! ### Facts about the free values of a few witnesses -/

theorem attach_fits {b : Blk} {kp : Option Bytes} {dep : Bool} {nonce k : Bytes} {x : TwinPeer} (hk : kp = some k) (hd : dep = true)
    (h0 : b.rd R.TWN_CFG_SIDE = 0) (hp : x.proof = attachProof k x.side nonce x.nonce (attachDigest x.caps x.en x.pset x.svn x.board))
    (h : x.keyed = true ∧ x.side = 1 ∧ x.caps = [0, 1, 2, 3].map b.capWord ∧ x.en = b.rd R.RST_FEATURE_EN ∧ x.pset = b.psetWord ∧ x.svn = b.psetSvn
      ∧ x.board = b.rdW R.TWN_BOARD ∧ x.deployed = true) : b.attachCode kp dep nonce (some x) = none := by
  obtain ⟨h1, h2, h3, h4, h5, h6, h7, h8⟩ := h
  subst hk hd
  simp [Blk.attachCode, h0, h1, hp, h8, ← h3, ← h4, ← h5, ← h6, ← h7]
  simp [h2]
theorem mate_proof {b : Blk} {n : Nat} (h : n = 65) : (mate b).proof = attachProof kek (mate b).side (freeBytes 16 n) (mate b).nonce
    (attachDigest (mate b).caps (mate b).en (mate b).pset (mate b).svn (mate b).board) := by subst h; rfl

/-- A port whose one frame starts at any launch point: no step is so late that the wire could still be busy. -/
def early : Blk := { port on { queue := [tx] } with ins := { on.ins with stepSum := -(2 ^ 70) } }
theorem early_may (L : Nat) : (early.pass 0).mayStart tx L = true := by
  have h1 : (early.pass 0).pfeat 0 featGates = false := by decide +kernel
  have h2 : (early.pass 0).paused 0 0 = false := by decide +kernel
  have h3 : (early.pass 0).portOf 0 = (port on { queue := [tx] }).portOf 0 := by decide +kernel
  have h4 : (early.pass 0).wireU 0 8 < 2 ^ 70 := by decide +kernel
  have h5 : (early.pass 0).ins.stepSum = -(2 ^ 70) := by decide +kernel
  have h6 : ((early.pass 0).portOf 0).busyEnd = 0 := by decide +kernel
  have h7 : ((early.pass 0).portOf 0).armed = [] := by decide +kernel
  simp [Blk.mayStart, Blk.gateOpen, Blk.reserved, Blk.wireBusy, Blk.wireSpan, tx, h1, h2, h5, h6, h7]
  omega
theorem early_chooses (L : Nat) : ((early.pass 0).dropNoFit 0 ((early.pass 0).portOf 0).queue.length).chooseAt 0 L = some tx := by
  have h : (early.pass 0).dropNoFit 0 ((early.pass 0).portOf 0).queue.length = early.pass 0 := by decide +kernel
  have h7 : ((early.pass 0).portOf 0).armed = [] := by decide +kernel
  have h8 : ([7, 6, 5, 4, 3, 2, 1, 0].filterMap fun c => (early.pass 0).headOf 0 c) = [tx] := by decide +kernel
  rw [h]
  simp only [Blk.chooseAt, h7, List.find?_nil, h8, List.find?_cons, early_may]
theorem code_of_word (x : Nat) : (4 + 65536 * x) % 8 = 4 := by omega
theorem nonce_of_word {b c : Blk} (h : c.lcs.nonce = b.lcs.nonce) : (4 + 65536 * b.lcsNonce) / 65536 % 65536 = c.lcsNonce := by
  simp only [Blk.lcsNonce, h]
  omega
theorem each_port {b : Blk} (h : ∀ o < 32, ∀ f ∈ b.portFrames o, b.egExpired f = false) :
    ∀ o f, o < 32 → f ∈ b.portFrames o → b.egExpired f = false := fun o f ho hf => h o ho f hf
theorem mh_of_pass {s : State} {x : Ses} {w : Nat} {k : Bytes} (h : s.blk.ses = [(0, x)]) (hm : x.hmac = mhOf k 0 x.challenge x.hnonce) :
    mhOf k 0 ((s.blk.pass w).sesOf 0).challenge ((s.blk.pass w).sesOf 0).hnonce = ((s.blk.pass w).sesOf 0).hmac := by
  have e : (s.blk.pass w).sesOf 0 = x := by
    show tget _ s.blk.ses 0 = x
    rw [h]
    rfl
  rw [e, hm]
theorem fuses_blank : NvmOk State.reset.nvm := ⟨fun _ => rfl, by simp [State.reset, Nvm.shipped], by decide⟩

/-! ### Ill-formed commands, one for each check of WellFormed -/

theorem test_wf_refuses_function : Instr.wf (.flr 0 4) = false := by decide
theorem test_wf_refuses_ring : Instr.wf (.ringEnable 0 64) = false := by decide
theorem test_wf_refuses_port : Instr.wf (.frameStart 0 32) = false := by decide
theorem test_wf_refuses_eyelet : Instr.wf (.stuckOn 0 16) = false := by decide
theorem test_wf_refuses_output : Instr.wf (.outEdge 0 18) = false := by decide
theorem test_wf_refuses_slot : Instr.wf (.qualTimerExpire 0 24) = false := by decide
theorem test_wf_refuses_lane : Instr.wf (.resealStart 0 256) = false := by decide
theorem test_wf_refuses_entry : Instr.wf (.lasterIssue 0 4096) = false := by decide
theorem test_wf_refuses_context : Instr.wf (.aged 0 1024) = false := by decide
theorem test_wf_refuses_epoch : Instr.wf (.keyEmpty 0 4) = false := by decide
theorem test_wf_refuses_error_log : Instr.wf (.errLogRead 0 0 32) = false := by decide
theorem test_wf_refuses_counter : Instr.wf (.pmcCntLoRead 0 0 512) = false := by decide
theorem test_wf_refuses_word : Instr.wf (.lcsArm 0 0 0x100000000) = false := by decide
theorem test_wf_refuses_byte : Instr.wf (.patternReturn 0 0 256 0 []) = false := by decide
theorem test_wf_refuses_unit : Instr.wf (.unitResetDone 0 2 64) = false := by decide
theorem test_wf_refuses_result : Instr.wf (.bootStepFail 0 6 0 0) = false := by decide
theorem test_wf_refuses_second_lane_word : Instr.wf (.bootStepFail 0 1 0 4) = false := by decide
theorem test_wf_refuses_level : Instr.wf (.mismatch 0 4) = false := by decide
theorem test_wf_refuses_fuse_stop : Instr.wf (.lcsGo 0 0 0 3) = false := by decide
theorem test_wf_refuses_image_fault : Instr.wf (.optWriteDone 0 [] 5) = false := by decide
theorem test_wf_refuses_grant_message : Instr.wf (.clientRenew 0 0 0 1) = false := by decide
theorem test_wf_refuses_master : Instr.wf (.clientRenew 0 0 32 0) = false := by decide
theorem test_wf_refuses_role : Instr.wf (.announceTimeout 0 0 4) = false := by decide
theorem test_wf_refuses_vector : Instr.wf (.interrupt 0 0 65) = false := by decide
theorem test_wf_refuses_block : Instr.wf (.lasterArm 0 0 (List.replicate 65 0)) = false := by decide
theorem test_wf_refuses_descriptor : Instr.wf (.descriptorFetch 0 0 [0]) = false := by decide
theorem test_wf_refuses_doorbell_word : Instr.wf (.doorbellPoll 0 [0x100000000] []) = false := by decide
theorem test_wf_refuses_lost_ring : Instr.wf (.doorbellPoll 0 [] [64]) = false := by decide
theorem test_wf_refuses_offset : Instr.wf (.counterLoRead 0 0 0x200000) = false := by decide
theorem test_wf_refuses_alignment : Instr.wf (.counterLoRead 0 0 2) = false := by decide
theorem test_wf_refuses_mode : Instr.wf (.markerRx 0 0 8 0 true 0 0) = false := by decide
theorem test_wf_refuses_status : Instr.wf (.markerRx 0 0 0 256 true 0 0) = false := by decide
theorem test_wf_refuses_engine : Instr.wf (.pmcWrap 0 0 0 64 0 0 0) = false := by decide
theorem test_wf_refuses_byte_enables : Instr.wf (.registerWrite 0 0 0 16 false [0]) = false := by decide
theorem test_wf_accepts : Instr.wf (.registerWrite 0 3 0x1FFFFC 15 false [0xFFFFFFFF]) = true := by decide

/-! ### The worked examples of the spec -/

/-- No word spells a command: the table gives none of its rows any bits. -/
theorem test_no_words : decodeTableWord 32 0 = none := rfl
/-- 17, discovery on a KT-840 whose lane of P6 failed: IDC_CAP0 to IDC_CAP3. -/
theorem test_discovery :
    [0, 1, 2, 3].map { on with part := { variant := .kt840 }, boot := { done := true, laneFail0 := 64 } }.capWord
      = [0x0000FFBF, 0x0F33FFFF, 0x00201902, 0x00000D7F] := by decide +kernel
/-- 08 R202: RATE 0x100, BURST 32, a row of 20.00 tokens consulted after 0.5 s leaves 27.00 tokens, LAST 32,768 on. -/
theorem test_refill :
    let x := rateDecide { rate := 0x100, burst := 32, limitAct := 0, denyAct := false, exempt := false, kodInt := 0, kodPoll := 0 } 0x108000
      { tokens := 5120, last := 0x100000 }
    x.1 = .serve ∧ x.2.tokens = 27 * 256 ∧ x.2.last = 0x108000 := by decide +kernel
/-- 05, a 24-hour holdover: HLD_PRED reads 86,457. -/
theorem test_holdover :
    (wrs on [(R.HLD_BUD_TCAP, 480), (R.HLD_LIMIT_VALUE, 1500)]).holdPred { e0 := 10 ^ 16, uf := 3000, ua := 15000, ub := 20000, et := 20000 }
      = 86457 := by decide +kernel
/-- 12, one measurement: t1 to t4 of the example, ASYM_PS 20, side 1 follows; x is -85 ps. -/
theorem test_marker :
    let b := wrs on [(R.TWN_CFG_SIDE, 1), (R.TWN_BOARD_ASYM_PS, 20)]
    (b.measured (b.twinX (nsU 100000) (nsU 100000 + 106496) (nsU 100050) (nsU 100051 + 27197))).twin.xPs = -85 := by decide +kernel

/-! ### Published vectors of the functions that the spec names -/

/-- FIPS 180-4: SHA-256 and SHA-384 of "abc". -/
theorem test_sha256 : sha256 (ascii "abc") = beB 32 0xBA7816BF8F01CFEA414140DE5DAE2223B00361A396177A9CB410FF61F20015AD := by decide +kernel
theorem test_sha384 : sha384 (ascii "abc")
    = beB 48 0xCB00753F45A35E8BB5A03D699AC65007272C32AB0EDED1631A8B605A43FF5BED8086072BA1E7CC2358BAECA134C825A7 := by decide +kernel
/-- FIPS 197, C.1. -/
theorem test_aes : aesEnc (aesKeys (beB 16 0x000102030405060708090A0B0C0D0E0F)) (beB 16 0x00112233445566778899AABBCCDDEEFF)
    = beB 16 0x69C4E0D86A7B0430D8CDB78070B4C55A := by decide +kernel
/-- RFC 4493, a message of 16 bytes. -/
theorem test_cmac : cmac (aesKeys (beB 16 0x2B7E151628AED2A6ABF7158809CF4F3C)) (beB 16 0x6BC1BEE22E409F96E93D7E117393172A)
    = beB 16 0x070A16B46B4D4144F79BDD9DD04A287C := by decide +kernel
/-- RFC 5297, A.1. -/
theorem test_siv : sivSeal (beB 32 0xFFFEFDFCFBFAF9F8F7F6F5F4F3F2F1F0F0F1F2F3F4F5F6F7F8F9FAFBFCFDFEFF) [beB 24 0x101112131415161718191A1B1C1D1E1F2021222324252627]
      (beB 14 0x112233445566778899AABBCCDDEE)
    = (beB 16 0x85632D07C6E8F37F950ACD320A2ECC93, beB 14 0x40C02B9690C4DC04DAEF7F6AFE5C) := by decide +kernel
/-- The check value of CRC-32. -/
theorem test_crc : fcsOf (ascii "123456789") = leB 4 0xCBF43926 := by decide +kernel

/-! ### Single steps -/

/-- What holds of the block after the step that runs a command, another waiting behind it. -/
def after (s : State) (c : Instr) (p : Blk → Bool) : Bool :=
  match step { s with pending := [c, .watchdog 0] } with
  | .next t => t.pending == [.watchdog 0] && p t.blk
  | _ => false
/-- A RWL register is written in COMMISSION and keeps its value in ACQUIRE, where the access is recorded (17 R431, R444). -/
theorem test_write : after (st (onIn .commission)) (.registerWrite 0 0 R.HLD_LIMIT 15 true [1500])
    (fun b => b.rd R.HLD_LIMIT_VALUE == 1500) = true := by decide +kernel
theorem test_locked_setting : after (st on) (.registerWrite 0 0 R.HLD_LIMIT 15 true [1500])
    (fun b => b.rd R.HLD_LIMIT_VALUE == 1000) = true := by decide +kernel
/-- LOCKED without a contributing reference becomes HOLDOVER (02 R26). -/
theorem test_lock_lost : after (st (onIn .locked)) (.lockLost 0) (fun b => b.mode == .holdover) = true := by decide +kernel


/-- States and operands that meet the hypotheses of each clause of `Obligations.StepRunsFrontCommand`. -/
theorem wit_StepRunsFrontCommand :
  (let s : State := { State.reset with pending := [.resetN 0 true] }; let c : Instr := .resetN 0 true; let rest : List Instr := [];
    s.pending = c :: rest) :=
  by decide +kernel

/-- States and operands that meet the hypotheses of each clause of `Obligations.EmptyQueueIdles`. -/
theorem wit_EmptyQueueIdles :
  (let s : State := State.reset; s.pending = []) :=
  by decide +kernel

/-- States and operands that meet the hypotheses of each clause of `Obligations.SettleChangesOnly`. -/
theorem wit_SettleChangesOnly :
  (let b : Blk := on; b.twin.role ≠ 1)
  ∧ (let b : Blk := { on with twin := { role := 1 } }; let f := (0 : Nat); (b.evtOf f).running = false) :=
  ⟨by decide +kernel, by decide +kernel⟩

/-- States and operands that meet the hypotheses of each clause of `Obligations.ElapsedTimeAdvances`. -/
theorem wit_ElapsedTimeAdvances :
  (let c : Instr := .twinSetKey 5 0 []; let s : State := st on; let t : State := { st on with blk := Blk.settle on (on.pass 5) };
    exec c s = .next t) :=
  by exact rfl

/-- States and operands that meet the hypotheses of each clause of `Obligations.PassOfTime`. -/
theorem wit_PassOfTime :
  (let b : Blk := State.reset.blk; b.ins.running = false)
  ∧ (let b : Blk := on; b.ins.running = true ∧ b.ins.slewRem = 0)
  ∧ (let b : Blk := wrs { on with ins := { on.ins with slewRem := 5 } } [(R.TBS_SLEW_RATE, 100)]; 0 ≤ b.ins.slewRem)
  ∧ (let b : Blk := wrs { on with ins := { on.ins with slewRem := -5000 } } [(R.TBS_SLEW_RATE, 100)]; b.ins.slewRem ≤ 0) :=
  ⟨by decide +kernel, by decide +kernel, by decide +kernel, by decide +kernel⟩

/-- States and operands that meet the hypotheses of each clause of `Obligations.FusesStaySound`. -/
theorem wit_FusesStaySound :
  (let s : State := { State.reset with pending := [.mirrorSync 0] };
    let t : State := { State.reset with blk := Blk.settle State.reset.blk (State.reset.blk.pass 0) }; NvmOk s.nvm ∧ step s = .next t) :=
  by exact ⟨fuses_blank, rfl⟩

/-- States and operands that meet the hypotheses of each clause of `Obligations.LifecycleTransitions`. -/
theorem wit_LifecycleTransitions :
  (let n : Nvm := { prov := [(0, ⟨List.replicate 32 1, 1⟩)] }; n.lifecycle = .blank)
  ∧ (let n : Nvm := { lifecycle := .provisioned }; n.lifecycle = .provisioned)
  ∧ (let n : Nvm := { lifecycle := .deployed, owner := some [1] }; n.lifecycle = .deployed)
  ∧ (let t : Lifecycle := .rma; (t = .retired ∨ t = .rma))
  ∧ (let t : Lifecycle := .retired; (t = .retired ∨ t = .rma))
  ∧ (let t : Lifecycle := .provisioned; t ≠ .retired ∧ t ≠ .rma)
  ∧ (let n : Nvm := { lifecycle := .provisioned, owner := some [1] }; let o := [1]; n.owner = some o)
  ∧ (let n : Nvm := {}; n.owner = none) :=
  ⟨by decide +kernel, by decide +kernel, by decide +kernel, by decide +kernel, by decide +kernel, by decide +kernel, by decide +kernel, by decide +kernel⟩

/-- States and operands that meet the hypotheses of each clause of `Obligations.DeviceReachResets`. -/
theorem wit_DeviceReachResets :
  (let s : State := st on; let w : Nat := 0; let b := s.blk.pass w; b.rst.asserted.contains 1 = false)
  ∧ (let s : State := st on; let w : Nat := 0; let b := s.blk.pass w; b.rst.asserted.contains 2 = false)
  ∧ (let s : State := st on; let w : Nat := 0; let tj : Int := 125; let b := s.blk.pass w; b.rst.asserted.contains 3 = false ∧ 125 ≤ tj)
  ∧ (let s : State := st (wrs on [(R.RST_WDOG_EN, 1)]); let w : Nat := 0; let b := s.blk.pass w; b.rst.asserted.contains 4 = false ∧
    b.boot.done = true ∧ b.flag R.RST_WDOG_EN = true)
  ∧ (let s : State := st on; let w : Nat := 0; let f : Nat := 0; let v : Nat := 0xA5; let b := s.blk.pass w;
    b.rst.asserted.contains 5 = false ∧ b.setup f = true ∧ v % 256 = 0xA5)
  ∧ (let s : State := st { on with twin := { attached := true, link := true, resetOk := true } }; let w : Nat := 0; let b := s.blk.pass w;
    b.rst.asserted.contains 6 = false ∧ b.twin.attached = true ∧ b.twin.link = true ∧ b.twin.resetOk = true) :=
  ⟨by decide +kernel, by decide +kernel, by decide +kernel, by decide +kernel, by decide +kernel, by decide +kernel⟩

/-- States and operands that meet the hypotheses of each clause of `Obligations.KeepBlock`. -/
theorem wit_KeepBlock :
  (let b : Blk := on; let k := 0x2040; b.mode ≠ .loading ∧ isKeepKey k = true ∧ k ≠ R.RST_KEEP) :=
  by decide +kernel

/-- States and operands that meet the hypotheses of each clause of `Obligations.UnitResets`. -/
theorem wit_UnitResets :
  (let s : State := st on; let w : Nat := 0; let f : Nat := 0; let i : Nat := 3; let b := s.blk.pass w; b.setup f = true ∧
    b.benchPresent i = true ∧ b.resetting 1 i = false)
  ∧ (let s : State := st on; let w : Nat := 0; let f : Nat := 0; let i : Nat := 3; let b := s.blk.pass w; b.setup f = true ∧
    b.enginePresent i = true ∧ b.resetting 1 (i / 16) = false ∧ b.resetting 2 i = false)
  ∧ (let s : State := st on; let w : Nat := 0; let f : Nat := 0; let i : Nat := 3; let b := s.blk.pass w; b.setup f = true ∧
    b.portPresent i = true ∧ b.resetting 3 i = false)
  ∧ (let s : State := st on; let w : Nat := 0; let f : Nat := 0; let i : Nat := 4; let b := s.blk.pass w; b.setup f = true ∧
    b.benchPresent i = false)
  ∧ (let s : State := st on; let w : Nat := 0; let f : Nat := 0; let i : Nat := 64; let b := s.blk.pass w; b.setup f = true ∧
    (b.enginePresent i = false ∨ b.resetting 1 (i / 16) = true))
  ∧ (let s : State := st { on with rst := { units := [⟨1, 0, true⟩] } }; let w : Nat := 0; let f : Nat := 0; let i : Nat := 15;
    let b := s.blk.pass w; b.setup f = true ∧ (b.enginePresent i = false ∨ b.resetting 1 (i / 16) = true))
  ∧ (let s : State := st on; let w : Nat := 0; let f : Nat := 0; let i : Nat := 32; let b := s.blk.pass w; b.setup f = true ∧
    b.portPresent i = false)
  ∧ (let s : State := st { on with rst := { units := [⟨1, 3, true⟩] } }; let w : Nat := 0; let i : Nat := 3; let k : Nat := 1;
    let b := s.blk.pass w; let x := ⟨1, 3, true⟩; (b.rst.units.find? fun u => u.kind == k && u.index == i) = some x ∧ x.byHost = true) :=
  ⟨by decide +kernel, by decide +kernel, by decide +kernel, by decide +kernel, by decide +kernel, by decide +kernel, by decide +kernel, by decide +kernel⟩

/-- States and operands that meet the hypotheses of each clause of `Obligations.BootSteps`. -/
theorem wit_BootSteps :
  (let s : State := st (loading 0); let w : Nat := 0; let n : Nat := 0; let b := s.blk.pass w; b.mode = .loading ∧ b.boot.restart = false ∧
    b.boot.step = some n ∧ (bootWork s.nvm b n).1 = 0 ∧ n ≠ 9)
  ∧ (let s : State := st { loading 8 with boot := { step := some 8, minimal := true } }; let w : Nat := 0; let n : Nat := 8;
    let b := s.blk.pass w; b.mode = .loading ∧ b.boot.restart = false ∧ b.boot.step = some n ∧ (bootWork s.nvm b n).1 = 0 ∧ n ≠ 9)
  ∧ (let s : State := st { loading 9 with boot := { step := some 9, minimal := true } }; let w : Nat := 0; let n : Nat := 9;
    let b := s.blk.pass w; b.mode = .loading ∧ b.boot.restart = false ∧ b.boot.step = some n ∧ (bootWork s.nvm b n).1 = 0 ∧ n = 9 ∧
    b.boot.minimal = true)
  ∧ (let s : State := st (loading 9); let w : Nat := 0; let n : Nat := 9; let b := s.blk.pass w; b.mode = .loading ∧ b.boot.restart = false ∧
    b.boot.step = some n ∧ (bootWork s.nvm b n).1 = 0 ∧ n = 9 ∧ b.bootAlt = false ∧ b.boot.minimal = false) :=
  ⟨by decide +kernel, by decide +kernel, by decide +kernel, by decide +kernel⟩

/-- States and operands that meet the hypotheses of each clause of `Obligations.BootFailuresAndRestart`. -/
theorem wit_BootFailuresAndRestart :
  (let s : State := st (loading 2); let w : Nat := 0; let n : Nat := 2; let b := s.blk.pass w; b.mode = .loading ∧ b.boot.step = some n ∧
    b.boot.restart = false ∧ b.boot.minimal = false ∧ b.rst.vkeep = true)
  ∧ (let s : State := st { loading 3 with boot := { step := some 3, minimal := true } }; let w : Nat := 0; let n : Nat := 3;
    let b := s.blk.pass w; b.mode = .loading ∧ b.boot.step = some n ∧ b.boot.restart = false ∧ b.boot.minimal = true ∧ n ≠ 9)
  ∧ (let s : State := st { loading 3 with boot := { step := some 3, restart := true } }; let w : Nat := 0; let b := s.blk.pass w;
    b.mode = .loading ∧ b.boot.restart = true) :=
  ⟨by decide +kernel, by decide +kernel, by decide +kernel⟩

/-- States and operands that meet the hypotheses of each clause of `Obligations.ClockLosses`. -/
theorem wit_ClockLosses :
  (let s : State := State.reset; let w : Nat := 0; let b := s.blk.pass w; b.rst.crystal = true ∧ b.rst.startOsc = true ∧ b.mode = .dormant)
  ∧ (let s : State := st on; let w : Nat := 0; let b := s.blk.pass w; b.rst.crystal = true ∧ b.rst.startOsc = true ∧ b.mode ≠ .dormant)
  ∧ (let s : State := st { on with rst := { startOsc := false } }; let w : Nat := 0; let b := s.blk.pass w; b.rst.crystal = true ∧
    b.rst.startOsc = false)
  ∧ (let s : State := st on; let w : Nat := 0; let b := s.blk.pass w; b.rst.startOsc = true ∧ b.rst.crystal = true)
  ∧ (let s : State := st { on with rst := { crystal := false } }; let w : Nat := 0; let b := s.blk.pass w; b.rst.startOsc = true ∧
    b.rst.crystal = false)
  ∧ (let s : State := st on; let w : Nat := 0; let b := s.blk.pass w; b.rst.oscin = true)
  ∧ (let s : State := State.reset; let w : Nat := 0; let b := s.blk.pass w; b.rst.oscin = true ∧ b.boot.done = false) :=
  ⟨by decide +kernel, by decide +kernel, by decide +kernel, by decide +kernel, by decide +kernel, by decide +kernel, by decide +kernel⟩

/-- States and operands that meet the hypotheses of each clause of `Obligations.CompletionWritten`. -/
theorem wit_CompletionWritten :
  (let b : Blk := ring on (desc 2 0 []); let r : DRef := ⟨0, 0⟩; let d : Desc := desc 2 0 []; b.desc? r = some d)
  ∧ (let b : Blk := ring on (desc 2 0 []); let r : DRef := ⟨0, 0⟩; let d : Desc := desc 2 0 []; let q := (1 : Nat); b.desc? r = some d ∧
    q ≠ r.ring)
  ∧ (let b : Blk := ring on (desc 2 0 []); let r : DRef := ⟨1, 0⟩; b.desc? r = none) :=
  ⟨by decide +kernel, by decide +kernel, by decide +kernel⟩

/-- States and operands that meet the hypotheses of each clause of `Obligations.SessionsOpenAndClose`. -/
theorem wit_SessionsOpenAndClose :
  (let s : State := { st ({ on with ses := [] }) with nvm := { prov := [(0, ⟨List.replicate 32 9, 0xFF⟩)] } }; let w : Nat := 0;
    let f : Nat := 0; let b := s.blk.pass w; b.hostUp = true ∧ (b.sesOf f).st = .idle ∧ s.nvm.keyPresent f = true)
  ∧ (let s : State := st { on with ses := [] }; let w : Nat := 0; let f : Nat := 0; let b := s.blk.pass w; b.hostUp = true ∧
    (b.sesOf f).st = .idle ∧ s.nvm.keyPresent f = false)
  ∧ (let s : State := { st ({ on with ses := [(0, { st := .verifying, chal := 0, hnonce := [1], hmac := mhOf (List.replicate 32 9) 0 (freeBytes 16 0) [1] })] }) with nvm := { prov := [(0, ⟨List.replicate 32 9, 0xFF⟩)] } };
    let w : Nat := 0; let f : Nat := 0; let b := s.blk.pass w; let k := ⟨List.replicate 32 9, 0xFF⟩; (b.sesOf f).st = .verifying ∧
    s.nvm.provOf f = some k ∧ mhOf k.key f (b.sesOf f).challenge (b.sesOf f).hnonce = (b.sesOf f).hmac)
  ∧ (let s : State := { st ({ on with ses := [(0, { st := .verifying, chal := 0, hnonce := [1], hmac := [] })] }) with nvm := { prov := [(0, ⟨List.replicate 32 9, 0xFF⟩)] } };
    let w : Nat := 0; let f : Nat := 0; let b := s.blk.pass w; let k := ⟨List.replicate 32 9, 0xFF⟩; (b.sesOf f).st = .verifying ∧
    s.nvm.provOf f = some k ∧ mhOf k.key f (b.sesOf f).challenge (b.sesOf f).hnonce ≠ (b.sesOf f).hmac)
  ∧ (let s : State := st on; let w : Nat := 0; let f : Nat := 0; let b := s.blk.pass w; b.hostUp = true ∧ (b.sesOf f).st = .opened)
  ∧ (let s : State := st (wrs { on with up := secU 2005 } [(R.SES_IDLE_IDLE_S 0, 5)]); let w : Nat := 0; let f : Nat := 0;
    let b := s.blk.pass w; b.idleOver f = true)
  ∧ (let s : State := st { on with ses := [(0, { st := .locked, failCnt := 8, lockUntil := secU 2000 })] }; let w : Nat := 0; let f : Nat := 0;
    let b := s.blk.pass w; (b.sesOf f).st = .locked ∧ (b.sesOf f).lockUntil ≤ b.up)
  ∧ (let s : State := st on; let w : Nat := 0; let f : Nat := 0; let b := s.blk.pass w; b.hostUp = true ∧ s.nvm.provAllowed f = true) :=
  ⟨by decide +kernel, by decide +kernel, by exact ⟨by decide +kernel, by decide +kernel, mh_of_pass rfl (by simp only [Ses.challenge])⟩, by decide +kernel, by decide +kernel, by decide +kernel, by decide +kernel, by decide +kernel⟩

/-- States and operands that meet the hypotheses of each clause of `Obligations.FailuresLockOut`. -/
theorem wit_FailuresLockOut :
  (let f : Nat := 0; f < 4)
  ∧ (let b : Blk := { on with ses := [(0, { st := .locked, failCnt := 6, lockUntil := 0 })] }; let f : Nat := 0;
    let y := (Blk.sesRefused f b).sesOf f; f < 4 ∧ y.failCnt < 8)
  ∧ (let b : Blk := { on with ses := [(0, { st := .locked, failCnt := 7, lockUntil := 0 })] }; let f : Nat := 0;
    let y := (Blk.sesRefused f b).sesOf f; f < 4 ∧ 8 ≤ y.failCnt)
  ∧ (let b : Blk := { on with ses := [(0, { st := .locked, failCnt := 16, lockUntil := 0 })] }; let f : Nat := 0;
    let y := (Blk.sesRefused f b).sesOf f; f < 4 ∧ 8 ≤ y.failCnt)
  ∧ (let b : Blk := { on with ses := [(0, { st := .locked, failCnt := 16, lockUntil := secU 2256 })] }; let f : Nat := 0; let x := b.sesOf f;
    f < 4 ∧ x.st = .locked ∧ x.lockUntil ≤ b.up + secU 256)
  ∧ (let b : Blk := { on with ses := [(0, { st := .locked, failCnt := 8, lockUntil := 0 })] }; let f : Nat := 0; let x := b.sesOf f; f < 4 ∧
    x.st = .locked)
  ∧ (let b : Blk := on; let f : Nat := 0; let code := (5 : Nat); f < 4 ∧ code ∈ [4, 5, 6] ∧ b.rst.asserted.contains code = false)
  ∧ (let b : Blk := { on with ses := [(0, { st := .locked, failCnt := 8, lockUntil := secU 2001 })] }; let f : Nat := 0; let x := b.sesOf f;
    let code := (6 : Nat); f < 4 ∧ code ∈ [4, 5, 6] ∧ b.rst.asserted.contains code = false ∧ x.st = .locked ∧ b.up < x.lockUntil)
  ∧ (let b : Blk := on; let f : Nat := 0; let code := (3 : Nat); f < 4 ∧ code ∈ [1, 2, 3] ∧ b.rst.asserted.contains code = false) :=
  ⟨by decide +kernel, by decide +kernel, by decide +kernel, by decide +kernel, by decide +kernel, by decide +kernel, by decide +kernel, by decide +kernel, by decide +kernel⟩

/-- States and operands that meet the hypotheses of each clause of `Obligations.HostSideResets`. -/
theorem wit_HostSideResets :
  (let s : State := st (ring on (desc 2 0 [])); let w : Nat := 0; let b := s.blk.pass w; b.rst.perst = false) :=
  by decide +kernel

/-- States and operands that meet the hypotheses of each clause of `Obligations.RingsRunAndStop`. -/
theorem wit_RingsRunAndStop :
  (let s : State := st on; let w : Nat := 0; let r : Nat := 0; let b := s.blk.pass w; b.ringSes r = true ∧
    b.flag (R.HRG_CTL_ENABLE r) = false ∧ (b.ringOf r).running = false ∧ b.ringValid r = true)
  ∧ (let s : State := st (on.wrW (R.HRG_SQ_LO 0) 4); let w : Nat := 0; let r : Nat := 0; let b := s.blk.pass w; b.ringSes r = true ∧
    b.flag (R.HRG_CTL_ENABLE r) = false ∧ (b.ringOf r).running = false ∧ b.ringValid r = false)
  ∧ (let s : State := st (wrs ({ on with rings := [(0, { running := true, })] }) [(R.HRG_CTL_ENABLE 0, 1)]); let w : Nat := 0;
    let r : Nat := 0; let b := s.blk.pass w; b.ringSes r = true ∧ b.flag (R.HRG_CTL_ENABLE r) = true ∧ (b.ringOf r).descs = [])
  ∧ (let s : State := st ({ on with rings := [(0, { running := true, })] }); let w : Nat := 0; let r : Nat := 0; let f : Nat := 0;
    let pi : Nat := 64; let ci : Nat := 0xFFFFFFC0; let b := s.blk.pass w; b.sesOpen f = true ∧ b.ringOwner r = f ∧ r < 64 ∧ f < 4 ∧
    pi < 0x100000000 ∧ ci < 0x100000000 ∧ (b.ringOf r).running = true ∧ (b.ringOf r).err = 0 ∧
    (pi + 0x100000000 - (b.ringOf r).sqCi) % 0x100000000 ≤ b.sqLen r ∧ ((b.ringOf r).cqPi + 0x100000000 - ci) % 0x100000000 ≤ b.cqLen r)
  ∧ (let s : State := st ({ on with rings := [(0, { running := true, sqPi := 1 })] }); let w : Nat := 0; let r : Nat := 0;
    let data : Bytes := (desc 2 0 []).data; let b := s.blk.pass w; b.canFetch r = true ∧ data.length = 32 ∧
    b.descCheck (b.ringOwner r) data = none)
  ∧ (let s : State := st ({ on with rings := [(0, { running := true, sqPi := 1 })] }); let w : Nat := 0; let r : Nat := 0;
    let data : Bytes := (desc 0xFF 0 []).data; let b := s.blk.pass w; let st := stMalformed; b.canFetch r = true ∧ data.length = 32 ∧
    b.descCheck (b.ringOwner r) data = some st) :=
  ⟨by decide +kernel, by decide +kernel, by decide +kernel, by decide +kernel, by decide +kernel, by decide +kernel⟩

/-- States and operands that meet the hypotheses of each clause of `Obligations.EventRingsAndInterrupts`. -/
theorem wit_EventRingsAndInterrupts :
  (let s : State := st on; let w : Nat := 0; let f : Nat := 0; let b := s.blk.pass w; b.sesOpen f = true ∧
    b.flag (R.EVT_CTL_ENABLE f) = false)
  ∧ (let s : State := st { on with ins := { on.ins with now := secU 1000 + usU 10 } }; let w : Nat := 0; let b := s.blk.pass w;
    b.ins.running = true ∧ b.ins.now - wholeSec b.ins.now ≤ usU 10)
  ∧ (let s : State := st (wrs { on.wrW (bank 0 0x700C) 0 with evts := [(0, { running := true, pend := [0] })] } [(R.EVT_CTL_IRQ_EN 0, 1)]);
    let w : Nat := 0; let f : Nat := 0; let v : Nat := 0; let b := s.blk.pass w; b.sesOpen f = true ∧ b.vecDue f v = true ∧
    b.vecMasked f v = false ∧ b.vecRoom f = true)
  ∧ (let s : State := st (wrs { on.wrW (bank 0 (0x7000 + 16 + 12)) 1 with evts := [(0, { running := true, pend := [1] })] } [(R.HRG_CTL_IRQ_EN 0, 1)]);
    let w : Nat := 0; let f : Nat := 0; let v : Nat := 1; let b := s.blk.pass w; b.sesOpen f = true ∧ b.vecDue f v = true ∧
    b.vecMasked f v = true)
  ∧ (let s : State := st { on with evts := [(0, { running := true, gHeld := 8, gAt := [(3, secU 1999)] })] }; let w : Nat := 0;
    let f : Nat := 0; let b := s.blk.pass w; (b.evtOf f).running = true ∧ b.gsumReady f ≠ 0)
  ∧ (let s : State := st on; let w : Nat := 0; let f : Nat := 0; let b := s.blk.pass w; b.sesOpen f = true) :=
  ⟨by decide +kernel, by decide +kernel, by decide +kernel, by decide +kernel, by decide +kernel, by decide +kernel⟩

/-- States and operands that meet the hypotheses of each clause of `Obligations.HostDescriptors`. -/
theorem wit_HostDescriptors :
  (let s : State := st (ring on (desc 2 0 (List.replicate 8 0 ++ leB 2 64))); let w : Nat := 0; let r : Nat := 0;
    let d : Desc := desc 2 0 (List.replicate 8 0 ++ leB 2 64); let b := s.blk.pass w; Ready b r d 0x02 ∧ r = b.rd R.CLK_EXC_RING ∧
    64 ≤ leAt d.data 16 2 ∧ leAt d.data 16 2 ≤ 16384)
  ∧ (let s : State := st (ring (wrs on [(R.CLK_EXC_RING, 1)]) (desc 2 0 [])); let w : Nat := 0; let r : Nat := 0; let d : Desc := desc 2 0 [];
    let b := s.blk.pass w; Ready b r d 0x02 ∧ r ≠ b.rd R.CLK_EXC_RING)
  ∧ (let s : State := st (ring on (desc 0x50 0 (leB 2 127 ++ List.replicate 14 0 ++ leB 4 0x100000))); let w : Nat := 0; let r : Nat := 0;
    let d : Desc := desc 0x50 0 (leB 2 127 ++ List.replicate 14 0 ++ leB 4 0x100000); let b := s.blk.pass w; Ready b r d 0x50 ∧
    leAt d.data 8 2 < 128 ∧ (((List.range 8).filter (bitOf (leAt d.data 8 2) ·)).flatMap b.statsImage).length ≤ leAt d.data 24 4)
  ∧ (let s : State := st (ring on (desc 0x60 0 [])); let w : Nat := 0; let r : Nat := 0; let d : Desc := desc 0x60 0 []; let b := s.blk.pass w;
    let op := (0x60 : Nat); op ∈ [0x01, 0x10, 0x24, 0x31, 0x40, 0x60] ∧ Ready b r d op)
  ∧ (let s : State := st on; let w : Nat := 0; let b := s.blk.pass w; b.hostUp = true) :=
  ⟨by decide +kernel, by decide +kernel, by decide +kernel, by decide +kernel, by decide +kernel⟩

/-- States and operands that meet the hypotheses of each clause of `Obligations.LifecycleCommands`. -/
theorem wit_LifecycleCommands :
  (let s : State := st (onIn .commission); let w : Nat := 0; let v : Nat := 4 + 65536 * (onIn .commission).lcsNonce;
    let t : Lifecycle := .rma; let b := s.blk.pass w; b.setup 0 = true ∧ b.mode = .commission ∧ Lifecycle.ofCode? (v % 8) = some t ∧
    lcsAllowed s.nvm.lifecycle t = true ∧ v / 65536 % 65536 = b.lcsNonce)
  ∧ (let s : State := st (onIn .commission); let w : Nat := 0; let v : Nat := 2; let t : Lifecycle := .deployed; let b := s.blk.pass w;
    b.setup 0 = true ∧ b.mode = .commission ∧ Lifecycle.ofCode? (v % 8) = some t ∧ lcsAllowed s.nvm.lifecycle t = false)
  ∧ (let s : State := st { onIn .commission with lcs := { armed := some (4, 4, secU 2000) } }; let w : Nat := 0; let v : Nat := 0xFFFFFFFB;
    let t : Lifecycle := .rma; let b := s.blk.pass w; b.setup 0 = true ∧ b.mode = .commission ∧ b.lcsConfirmed v = some t ∧
    lcsAllowed s.nvm.lifecycle t = true ∧ lcsReady s.nvm t b.ownerDigest = true ∧ b.rst.asserted.contains 7 = false)
  ∧ (let s : State := st { onIn .commission with lcs := { armed := some (4, 4, secU 2000) } }; let w : Nat := 0; let v : Nat := 0xFFFFFFFB;
    let t : Lifecycle := .rma; let b := s.blk.pass w; b.setup 0 = true ∧ b.mode = .commission ∧ b.lcsConfirmed v = some t ∧
    lcsAllowed s.nvm.lifecycle t = true ∧ lcsReady s.nvm t b.ownerDigest = true)
  ∧ (let s : State := st { onIn .commission with lcs := { armed := some (1, 1, secU 2000 - msU 100) } }; let w : Nat := 0;
    let v : Nat := 0xFFFFFFFE; let t : Lifecycle := .provisioned; let b := s.blk.pass w; b.setup 0 = true ∧ b.mode = .commission ∧
    b.lcsConfirmed v = some t ∧ lcsAllowed s.nvm.lifecycle t = true ∧ lcsReady s.nvm t b.ownerDigest = false) :=
  ⟨by exact ⟨by decide +kernel, by decide +kernel, (congrArg Lifecycle.ofCode? (code_of_word _)).trans rfl, by decide +kernel, nonce_of_word (by decide +kernel)⟩, by decide +kernel, by decide +kernel, by decide +kernel, by decide +kernel⟩

/-- States and operands that meet the hypotheses of each clause of `Obligations.KeysAndOptionStore`. -/
theorem wit_KeysAndOptionStore :
  (let s : State := st (words { onIn .commission with ses := [(0, { st := .opened, priv := 1, ks := kek }), (1, { st := .opened })] } R.LCS_KEY 10 wrapped);
    let w : Nat := 0; let v : Nat := 0x31; let b := s.blk.pass w; let k := key32; b.setup 0 = true ∧ b.mode = .commission ∧
    keyUnwrap (b.sesOf 0).ks (b.wordBytes R.LCS_KEY 10) = some k ∧ v < 0x100000000)
  ∧ (let s : State := st (onIn .commission); let w : Nat := 0; let v : Nat := 0; let b := s.blk.pass w; b.setup 0 = true ∧
    b.mode = .commission ∧ v < 0x100000000 ∧ (v % 4 ≠ 0 ∨ (s.nvm.lifecycle ≠ .provisioned ∧ s.nvm.lifecycle ≠ .deployed)))
  ∧ (let s : State := { st (onIn .commission) with nvm := { lifecycle := .provisioned } }; let w : Nat := 0; let v : Nat := 3;
    let b := s.blk.pass w; b.setup 0 = true ∧ b.mode = .commission ∧ v < 0x100000000 ∧ (v % 4 ≠ 0 ∨ (s.nvm.lifecycle ≠ .provisioned ∧
    s.nvm.lifecycle ≠ .deployed)))
  ∧ (let s : State := { st (onIn .commission) with nvm := { lifecycle := .provisioned } }; let w : Nat := 0; let v : Nat := 4;
    let b := s.blk.pass w; b.setup 0 = true ∧ b.mode = .commission ∧ v < 0x100000000 ∧ v % 4 = 0 ∧
    (s.nvm.lifecycle = .provisioned ∨ s.nvm.lifecycle = .deployed))
  ∧ (let s : State := st (onIn .commission); let w : Nat := 0; let b := s.blk.pass w; b.setup 0 = true ∧ b.lcs.optBusy = false)
  ∧ (let s : State := { st { wrs on [(R.LCS_OPT_LEN_VALUE, 224)] with lcs := { optBusy := true } } with nvm := { lifecycle := .provisioned, svnFloor := 3, owner := some (sha384 (olfelOwner img)) } };
    let w : Nat := 0; let b := s.blk.pass w; let bytes := img; b.setup 0 = true ∧ b.lcs.optBusy = true ∧ olfelCheck s.nvm bytes = none ∧
    bytes.length = b.rd R.LCS_OPT_LEN_VALUE)
  ∧ (let s : State := st { on with lcs := { optBusy := true } }; let w : Nat := 0; let b := s.blk.pass w; let bytes := []; let x := .form;
    b.setup 0 = true ∧ b.lcs.optBusy = true ∧ olfelCheck s.nvm bytes = some x)
  ∧ (let s : State := st { onIn .commission with boot := { done := true, image := some ⟨5, false⟩ } }; let w : Nat := 0; let b := s.blk.pass w;
    let i := ⟨5, false⟩; b.setup 0 = true ∧ b.boot.image = some i ∧ b.mode = .commission) :=
  ⟨by exact ⟨by decide +kernel, by decide +kernel, key_unwraps (by decide +kernel) (by decide +kernel), by decide +kernel⟩, by decide +kernel, by decide +kernel, by decide +kernel, by decide +kernel, by decide +kernel, by decide +kernel, by decide +kernel⟩

/-- States and operands that meet the hypotheses of each clause of `Obligations.RegisterRequests`. -/
theorem wit_RegisterRequests :
  (let s : State := State.reset; let w : Nat := 0; let b := s.blk.pass w; b.hostUp = false)
  ∧ (let s : State := st on; let w : Nat := 0; let off : Nat := 0x8000; let be : Nat := 15; let b := s.blk.pass w; b.hostUp = true ∧
    off < 0x100000 ∧ be % 16 = 15)
  ∧ (let s : State := st on; let w : Nat := 0; let off : Nat := 0xFFFFC; let be : Nat := 0; let b := s.blk.pass w; b.hostUp = true ∧
    off < 0x100000 ∧ be % 16 ≠ 15 ∧ isMsix (off / 4 * 4) = false)
  ∧ (let s : State := st on; let w : Nat := 0; let off : Nat := 0x8014; let b := s.blk.pass w; b.hostUp = true ∧ off < 0x100000)
  ∧ (let s : State := st on; let w : Nat := 0; let off : Nat := 0x100000; let b := s.blk.pass w; b.hostUp = true ∧ 0x100000 ≤ off)
  ∧ (let s : State := st on; let w : Nat := 0; let off : Nat := 0x2000; let vals : List Nat := [1, 2, 3]; let b := s.blk.pass w;
    b.hostUp = true ∧ off < 0x100000 ∧ 3 ≤ vals.length ∧ isMsix (off / 4 * 4) = false) :=
  ⟨by decide +kernel, by decide +kernel, by decide +kernel, by decide +kernel, by decide +kernel, by decide +kernel⟩

/-- States and operands that meet the hypotheses of each clause of `Obligations.AccessErrors`. -/
theorem wit_AccessErrors :
  (let b : Blk := State.reset.blk; let f : Nat := 3; let kind : Nat := 5; let off : Nat := 0xFFFFC; f < 4 ∧ kind < 6 ∧ off < 0x100000 ∧
    b.sesOpen f = false)
  ∧ (let b : Blk := on; let f : Nat := 0; let kind : Nat := 5; let off : Nat := 0x2000; f < 4 ∧ kind < 6 ∧ off < 0x100000 ∧ b.sesOpen f = true)
  ∧ (let b : Blk := on; let f : Nat := 0; let kind : Nat := 2; let off : Nat := 0x2000; let j := (31 : Nat); f < 4 ∧ kind < 6 ∧
    off < 0x100000 ∧ b.sesOpen f = true ∧ j < 32 ∧ j ≠ kind)
  ∧ (let b : Blk := on; let f : Nat := 0; let kind : Nat := 2; let off : Nat := 0x2000; f < 4 ∧ kind < 6 ∧ off < 0x100000 ∧
    b.sesOpen f = true ∧ b.rdW (R.EVT_ACCERR f) = 0)
  ∧ (let b : Blk := on.accErr 0 1 0x2000 true; let f : Nat := 0; let kind : Nat := 2; let off : Nat := 0x2000; f < 4 ∧ kind < 6 ∧
    off < 0x100000 ∧ b.sesOpen f = true ∧ b.rdW (R.EVT_ACCERR f) ≠ 0)
  ∧ (let b : Blk := on; let f : Nat := 0; let kind : Nat := 2; let off : Nat := 0x2000; f < 4 ∧ kind < 6 ∧ off < 0x100000 ∧ b.sesOpen f = true)
  ∧ (let b : Blk := on; let off : Nat := 0x2000; let vals : List Nat := [1, 2, 3]; b.hostUp = true ∧ off < 0x100000 ∧ isMsix off = false ∧
    3 ≤ vals.length)
  ∧ (let b : Blk := on; let off : Nat := 0x2000; let be : Nat := 14; b.hostUp = true ∧ off < 0x100000 ∧ isMsix off = false ∧ be % 16 ≠ 15)
  ∧ (let b : Blk := on; let off : Nat := 0x8000; let be : Nat := 31; b.hostUp = true ∧ off < 0x100000 ∧ isMsix off = false ∧ be % 16 = 15)
  ∧ (let b : Blk := on; let off : Nat := 0x7FFFC; b.hostUp = true ∧ off < 0x100000 ∧ isMsix off = false ∧ isDefined off = false)
  ∧ (let b : Blk := { on with part := { variant := .kt820 } }; let off : Nat := 0x2A000; b.hostUp = true ∧ off < 0x100000 ∧
    isMsix off = false ∧ isDefined off = true ∧ b.absentAt off = true)
  ∧ (let b : Blk := { on with ses := [] }; let f : Nat := 0; let off : Nat := 0x8000; b.hostUp = true ∧ off < 0x100000 ∧ isMsix off = false ∧
    isDefined off = true ∧ b.absentAt off = false ∧ b.mayWrite f off = false)
  ∧ (let b : Blk := on; let f : Nat := 0; let off : Nat := 0x7FFFC; b.hostUp = true ∧ off < 0x100000 ∧ isMsix off = false ∧
    b.sesOpen f = true ∧ isDefined off = false)
  ∧ (let b : Blk := { on with part := { variant := .kt820 } }; let f : Nat := 0; let off : Nat := 0x2A000; b.hostUp = true ∧ off < 0x100000 ∧
    isMsix off = false ∧ b.sesOpen f = true ∧ isDefined off = true ∧ b.absentAt off = true)
  ∧ (let b : Blk := on; let f : Nat := 0; let off : Nat := 0x9000; let v : Nat := (0 : Nat);
    let x := (regRow? 0x9000).getD (⟨0, 0, 0, false, []⟩, 0); let word := 0; b.hostUp = true ∧ off < 0x100000 ∧ isMsix off = false ∧
    word = BitVec.ofNat 32 (b.maskBits off (v % 0x100000000)) ∧ b.absentAt off = false ∧ b.mayWrite f off = true ∧ regRow? off = some x)
  ∧ (let b : Blk := onIn .commission; let off : Nat := 0x9000; let x : RegRow × Nat := (regRow? 0x9000).getD (⟨0, 0, 0, false, []⟩, 0);
    regRow? off = some x ∧ x.1.base ≠ 0x1004C ∧ b.mode = .commission)
  ∧ (let off : Nat := 0x6028; let x : RegRow × Nat := (regRow? 0x6028).getD (⟨0, 0, 0, false, []⟩, 0); regRow? off = some x ∧
    x.1.base ≠ 0x1004C ∧ (∀ y ∈ x.1.fields, y.acc ≠ .rwl))
  ∧ (let b : Blk := on; let off : Nat := 0x9000; let x : RegRow × Nat := (regRow? 0x9000).getD (⟨0, 0, 0, false, []⟩, 0);
    regRow? off = some x ∧ x.1.base ≠ 0x1004C ∧ b.mode ≠ .commission)
  ∧ (let j : Nat := 1; j < 6) :=
  ⟨by decide +kernel, by decide +kernel, by decide +kernel, by decide +kernel, by decide +kernel, by decide +kernel, by decide +kernel, by decide +kernel, by decide +kernel, by decide +kernel, by decide +kernel, by decide +kernel, by decide +kernel, by decide +kernel, by decide +kernel, by decide +kernel, by decide +kernel, by decide +kernel, by decide +kernel⟩

/-- States and operands that meet the hypotheses of each clause of `Obligations.LatchedReads`. -/
theorem wit_LatchedReads :
  (let s : State := st on; let w : Nat := 0; let f : Nat := 0; let b := s.blk.pass w; b.sesOpen f = true)
  ∧ (let s : State := st on; let w : Nat := 0; let f : Nat := 0; let b := s.blk.pass w; let off := 0x28E90; let lo := (0x28E90 : Nat);
    let copy := (0 : Nat); b.sesOpen f = true ∧ counterAt? counterRanges off = some (lo, copy, false) ∧ b.absentAt off = false)
  ∧ (let s : State := st { on with err := { log := [(31, (⟨3, false, false, false, false, false, 0x40, 0x22, 0, 0, 0, 0⟩ : ErrEntry))] } };
    let w : Nat := 0; let f : Nat := 0; let b := s.blk.pass w; let i := (31 : Nat);
    let e := (⟨3, false, false, false, false, false, 0x40, 0x22, 0, 0, 0, 0⟩ : ErrEntry); b.sesOpen f = true ∧ i < 32 ∧
    b.err.at? i = some e)
  ∧ (let s : State := st on; let w : Nat := 0; let f : Nat := 0; let b := s.blk.pass w; let n := 17; b.sesOpen f = true ∧
    b.unitPresent n = true ∧ n < 18)
  ∧ (let s : State := st { on with pmc := { chained := false } }; let w : Nat := 0; let f : Nat := 0; let b := s.blk.pass w; let i := 511;
    b.sesOpen f = true ∧ i < 512 ∧ b.pmcReads f = true ∧ b.pmc.chained = false) :=
  ⟨by decide +kernel, by decide +kernel, by decide +kernel, by decide +kernel, by decide +kernel⟩

/-- States and operands that meet the hypotheses of each clause of `Obligations.PmcWritesAndWraps`. -/
theorem wit_PmcWritesAndWraps :
  (let s : State := st on; let w : Nat := 0; let f : Nat := 0; let i : Nat := 511; let b := s.blk.pass w; i < 512 ∧ b.pmcWrites f = true)
  ∧ (let s : State := st { on with pmc := { samp := [(511, 77)] } }; let w : Nat := 0; let i : Nat := 511; let b := s.blk.pass w;
    let x := (511, 77); i < 512 ∧ b.pmc.sampOf i = some x ∧ pmcInner (b.pmcEv i) = false) :=
  ⟨by decide +kernel, by decide +kernel⟩

/-- States and operands that meet the hypotheses of each clause of `Obligations.CountersWrapAndFlag`. -/
theorem wit_CountersWrapAndFlag :
  (let b : Blk := on; let p : Pmc := { chained := false, cnt := [(3, 2 ^ 48 - 1)] }; let i : Nat := 3; let n : Nat := 2 ^ 48;
    p.chained = false ∧ b.flag (R.PMC_SEL_SAMP i) = false ∧ tget 0 p.cnt i < 2 ^ 48 ∧ n ≤ 2 ^ 48)
  ∧ (let b : Blk := on; let p : Pmc := { chained := false, cnt := [(3, 2 ^ 48 - 1)] }; let i : Nat := 3; let n : Nat := 2 ^ 48;
    let j := (4 : Nat); p.chained = false ∧ b.flag (R.PMC_SEL_SAMP i) = false ∧ tget 0 p.cnt i < 2 ^ 48 ∧ n ≤ 2 ^ 48 ∧ j ≠ i)
  ∧ (let b : Blk := on; let p : Pmc := { chained := false, cnt := [(3, 2 ^ 48 - 1)] }; let i : Nat := 3; let n : Nat := 2 ^ 48;
    let j := (2 : Nat); p.chained = false ∧ b.flag (R.PMC_SEL_SAMP i) = false ∧ tget 0 p.cnt i < 2 ^ 48 ∧ n ≤ 2 ^ 48 ∧ j ≠ i)
  ∧ (let b : Blk := { on with pmc := { ovf := 2 ^ 512 - 1 } }; let f : Nat := 0; let k : Nat := 15; let j := (31 : Nat); b.pmcWrites f = true ∧
    k < 16 ∧ j < 32) :=
  ⟨by decide +kernel, by decide +kernel, by decide +kernel, by decide +kernel⟩

/-- States and operands that meet the hypotheses of each clause of `Obligations.ErrorsRaisedAndHandled`. -/
theorem wit_ErrorsRaisedAndHandled :
  (let s : State := st on; let w : Nat := 0; let code : Nat := 0x17; let unit : Nat := 255; let detail : Nat := 0xFFFFFFFF;
    let b := s.blk.pass w; b.boot.done = true ∧ code < 256 ∧ code ≠ 0x1B ∧ code ≠ 0x0D ∧ unit < 256 ∧ detail < 0x100000000)
  ∧ (let s : State := st (onIn .diagnostic); let w : Nat := 0; let f : Nat := 0; let v : Nat := 0x40000 + 0x30000 % 0x40000;
    let b := s.blk.pass w; b.hostUp = true ∧ b.setup f = true ∧ b.mode = .diagnostic ∧ bitOf v 18 = true)
  ∧ (let s : State := st { on with err := { cur := some ⟨0, 0x22, 0x40, 2, false, false, 0, 0⟩, log := [(0, (⟨3, false, false, false, false, false, 0x40, 0x22, 0, 0, 0, 0⟩ : ErrEntry))] } };
    let w : Nat := 0; let b := s.blk.pass w; b.err.cur.isSome = true)
  ∧ (let b : Blk := on; let code : Nat := 0x03; let unit : Nat := 0x40; let cls : Nat := 0; code ≠ 0x1A ∧ errEsc code = false ∧
    b.covered unit = false ∧ b.isHeld unit = false ∧ b.err.queue.length < 16 ∧ cls < 4 ∧ cls = 0)
  ∧ (let b : Blk := on; let code : Nat := 0x20; let unit : Nat := 0x40; let cls : Nat := 1; code ≠ 0x1A ∧ errEsc code = false ∧
    b.covered unit = false ∧ b.isHeld unit = false ∧ b.err.queue.length < 16 ∧ cls < 4 ∧ 0 < cls ∧ b.err.cur = none)
  ∧ (let b : Blk := { on with err := { cur := some ⟨0, 0x22, 0x40, 2, false, false, 0, 0⟩, log := [(0, (⟨3, false, false, false, false, false, 0x40, 0x22, 0, 0, 0, 0⟩ : ErrEntry))] } };
    let code : Nat := 0x20; let unit : Nat := 0x42; let cls : Nat := 2; let k := (⟨0, 0x22, 0x40, 2, false, false, 0, 0⟩ : ErrJob);
    code ≠ 0x1A ∧ errEsc code = false ∧ b.covered unit = false ∧ b.isHeld unit = false ∧ b.err.queue.length < 16 ∧ cls < 4 ∧ 0 < cls ∧
    b.err.cur = some k ∧ cls ≤ k.cls)
  ∧ (let cls : Nat := 3; cls < 4)
  ∧ (let b : Blk := { on with err := { cur := some ⟨0, 0x22, 0x40, 2, false, false, 0, 0⟩, log := [(0, (⟨3, false, false, false, false, false, 0x40, 0x22, 0, 0, 0, 0⟩ : ErrEntry))] } };
    let j : ErrJob := ⟨0, 0x22, 0x40, 2, false, false, 0, 0⟩; b.err.cur = some j ∧ b.errActing j = false ∧ b.err.suspended = [] ∧
    b.err.queue = []) :=
  ⟨by decide +kernel, by decide +kernel, by decide +kernel, by decide +kernel, by decide +kernel, by decide +kernel, by decide +kernel, by decide +kernel⟩

/-- States and operands that meet the hypotheses of each clause of `Obligations.ModeRequests`. -/
theorem wit_ModeRequests :
  (let s : State := st (ring (on) (desc 0x70 0 ([6]))); let w : Nat := 0; let r : Nat := 0; let d : Desc := desc 0x70 0 ([6]);
    let b := s.blk.pass w; let t := bitsOf (byteAt d.data 8) 0 3; Ready b r d 0x70 ∧ t ∈ [0, 1, 4, 5, 6])
  ∧ (let s : State := st (ring (on) (desc 0x70 0 ([1]))); let w : Nat := 0; let r : Nat := 0; let d : Desc := desc 0x70 0 ([1]);
    let b := s.blk.pass w; let t := bitsOf (byteAt d.data 8) 0 3; Ready b r d 0x70 ∧ t ∈ [0, 1, 4, 5, 6])
  ∧ (let s : State := { st (ring ({ onIn .commission with eng := { op := some ⟨1, 2, 3, 4, false, 0xFFFF, 2⟩, sets := [(0, ⟨1, 2, 3, 4, false, 0xFFFF, 2⟩)] } }) (desc 0x70 0 [3])) with nvm := { lifecycle := .provisioned } };
    let w : Nat := 0; let r : Nat := 0; let d : Desc := desc 0x70 0 ([3]); let b := s.blk.pass w; let t := bitsOf (byteAt d.data 8) 0 3;
    let may := !([Lifecycle.blank, .retired, .rma].contains s.nvm.lifecycle) && b.opLoaded && !b.err.machineFault && !b.err.oscLost;
    Ready b r d 0x70 ∧ t = 3 ∧ b.mode = .commission ∧ b.modeReq = none ∧ b.roleChange = false ∧ may = true)
  ∧ (let s : State := st (ring (onIn .commission) (desc 0x70 0 ([3]))); let w : Nat := 0; let r : Nat := 0; let d : Desc := desc 0x70 0 ([3]);
    let b := s.blk.pass w; let t := bitsOf (byteAt d.data 8) 0 3;
    let may := !([Lifecycle.blank, .retired, .rma].contains s.nvm.lifecycle) && b.opLoaded && !b.err.machineFault && !b.err.oscLost;
    Ready b r d 0x70 ∧ t = 3 ∧ b.mode = .commission ∧ b.modeReq = none ∧ b.roleChange = false ∧ may = false)
  ∧ (let s : State := st (ring (onIn .commission) (desc 0x70 0 ([7]))); let w : Nat := 0; let r : Nat := 0; let d : Desc := desc 0x70 0 ([7]);
    let b := s.blk.pass w; let t := bitsOf (byteAt d.data 8) 0 3; Ready b r d 0x70 ∧ t = 7 ∧ b.mode = .commission ∧ b.modeReq = none ∧
    b.roleChange = false)
  ∧ (let s : State := st (ring (onIn .holdover) (desc 0x70 0 ([2]))); let w : Nat := 0; let r : Nat := 0; let d : Desc := desc 0x70 0 ([2]);
    let b := s.blk.pass w; let t := bitsOf (byteAt d.data 8) 0 3; Ready b r d 0x70 ∧ t = 2 ∧ b.mode ∈ [.acquire, .locked, .holdover] ∧
    b.modeReq = none ∧ b.roleChange = false ∧ b.twin.attached = false)
  ∧ (let s : State := st (ring { on with modeReq := some ⟨.commission, false, ⟨0, 0⟩, 0⟩ } (desc 0x70 0 [2])); let w : Nat := 0;
    let b := s.blk.pass w; let m := (⟨.commission, false, ⟨0, 0⟩, 0⟩ : ModeReq); b.modeReq = some m ∧ b.mode.serving = true ∧
    b.twin.handed = false ∧ m.handover = false ∧ ((List.range 32).foldl Blk.drainPaused b).drained m.from_ = true)
  ∧ (let s : State := st (ring { on with modeReq := some ⟨.commission, true, ⟨0, 0⟩, 0⟩, twin := { role := 1, attached := true, link := true } } (desc 0x70 0 [2]));
    let w : Nat := 0; let b := s.blk.pass w; let m := (⟨.commission, true, ⟨0, 0⟩, 0⟩ : ModeReq); b.modeReq = some m ∧
    b.mode.serving = true ∧ b.twin.handed = false ∧ m.handover = true ∧ ((List.range 32).foldl Blk.drainPaused b).drained 0 = true)
  ∧ (let s : State := st (ring { onIn .diagnostic with modeReq := some ⟨.commission, false, ⟨0, 0⟩, 0⟩, eng := { op := some ⟨1, 2, 3, 4, false, 0xFFFF, 2⟩ } } (desc 0x70 0 [2]));
    let w : Nat := 0; let b := s.blk.pass w; let m := (⟨.commission, false, ⟨0, 0⟩, 0⟩ : ModeReq);
    let p := (⟨1, 2, 3, 4, false, 0xFFFF, 2⟩ : Machine.PSet); b.modeReq = some m ∧ b.mode = .diagnostic ∧ b.eng.op = some p)
  ∧ (let s : State := st (ring (on) (desc 0x31 0 ([1, 0xFF] ++ List.replicate 14 0 ++ leB 2 0x7FF ++ leB 2 0x1FFF))); let w : Nat := 0;
    let r : Nat := 0; let d : Desc := desc 0x31 0 ([1, 0xFF] ++ List.replicate 14 0 ++ leB 2 0x7FF ++ leB 2 0x1FFF); let b := s.blk.pass w;
    let new := maskedBits (b.rd R.RST_FEATURE_EN) (leAt d.data 24 2) (leAt d.data 26 2); Ready b r d 0x31 ∧ byteAt d.data 8 = 1 ∧
    byteAt d.data 9 = 0xFF ∧ b.mode ≠ .follower ∧ bitOf (b.rd R.RST_FEATURE_EN) featTwin = bitOf new featTwin)
  ∧ (let s : State := st (ring (on) (desc 0x31 0 ([1, 0xFF] ++ List.replicate 14 0 ++ leB 2 0xFFF ++ leB 2 0xFFF))); let w : Nat := 0;
    let r : Nat := 0; let d : Desc := desc 0x31 0 ([1, 0xFF] ++ List.replicate 14 0 ++ leB 2 0xFFF ++ leB 2 0xFFF); let b := s.blk.pass w;
    let new := maskedBits (b.rd R.RST_FEATURE_EN) (leAt d.data 24 2) (leAt d.data 26 2); Ready b r d 0x31 ∧ byteAt d.data 8 = 1 ∧
    byteAt d.data 9 = 0xFF ∧ b.mode ≠ .follower ∧ bitOf (b.rd R.RST_FEATURE_EN) featTwin ≠ bitOf new featTwin) :=
  ⟨by decide +kernel, by decide +kernel, by decide +kernel, by decide +kernel, by decide +kernel, by decide +kernel, by decide +kernel, by decide +kernel, by decide +kernel, by decide +kernel, by decide +kernel⟩

/-- States and operands that meet the hypotheses of each clause of `Obligations.LockGainedAndLost`. -/
theorem wit_LockGainedAndLost :
  (let s : State := st (locked on); let w : Nat := 0; let b := s.blk.pass w; b.mode = .acquire ∧ b.acqLocked = true)
  ∧ (let s : State := st (locked (onIn .holdover)); let w : Nat := 0; let b := s.blk.pass w; b.mode = .holdover ∧ b.shadow.any b.dwelt = true)
  ∧ (let s : State := st on; let w : Nat := 0; let b := s.blk.pass w; (b.mode = .acquire → b.acqLocked = false) ∧
    (b.mode = .holdover → b.shadow.any b.dwelt = false))
  ∧ (let s : State := st (onIn .locked); let w : Nat := 0; let b := s.blk.pass w; b.mode = .locked ∧ b.contrib = [])
  ∧ (let s : State := st { locked (onIn .locked) with refs := { (locked on).refs with overCnt := 3 } }; let w : Nat := 0;
    let b := s.blk.pass w; b.mode = .locked ∧ b.contrib ≠ [] ∧ b.refs.sw = none ∧ (3 ≤ b.refs.overCnt ∨ b.refs.atPull = true))
  ∧ (let s : State := st { locked (onIn .locked) with refs := { (locked on).refs with atPull := true } }; let w : Nat := 0;
    let b := s.blk.pass w; b.mode = .locked ∧ b.contrib ≠ [] ∧ b.refs.sw = none ∧ (3 ≤ b.refs.overCnt ∨ b.refs.atPull = true))
  ∧ (let s : State := st on; let w : Nat := 0; let b := s.blk.pass w; b.mode ≠ .locked)
  ∧ (let s : State := st { locked (onIn .locked) with refs := { (locked on).refs with atPull := true, sw := some { target := 0 } } };
    let w : Nat := 0; let b := s.blk.pass w; b.contrib ≠ [] ∧ b.refs.sw.isSome = true)
  ∧ (let s : State := st { locked (onIn .locked) with refs := { (locked on).refs with overCnt := 2 } }; let w : Nat := 0;
    let b := s.blk.pass w; b.contrib ≠ [] ∧ b.refs.overCnt < 3 ∧ b.refs.atPull = false) :=
  ⟨by decide +kernel, by decide +kernel, by decide +kernel, by decide +kernel, by decide +kernel, by decide +kernel, by decide +kernel, by decide +kernel, by decide +kernel⟩

/-- States and operands that meet the hypotheses of each clause of `Obligations.LeapSeconds`. -/
theorem wit_LeapSeconds :
  (let s : State := st (ring (on) (desc 0x20 0 (leB 1 1 ++ [1, 0, 0, 0, 0, 0, 0] ++ leB 6 86400))); let w : Nat := 0; let r : Nat := 0;
    let d : Desc := desc 0x20 0 (leB 1 1 ++ [1, 0, 0, 0, 0, 0, 0] ++ leB 6 86400); let b := s.blk.pass w; let δ := (leapArgs d.data).1;
    let m := (leapArgs d.data).2; Ready b r d 0x20 ∧ byteAt d.data 8 = 1 ∧ m % 86400 = 0 ∧ (δ = 1 ∨ δ = -1) ∧
    (b.ins.now : Int) + 2 * oneS ≤ leapS b.utcD δ m * oneS ∧ b.ins.leap = none)
  ∧ (let s : State := st (ring ({ on with ins := { on.ins with leap := some (⟨1, 86400, 0, 86400, 86400 * oneS, 86400 * oneS, none⟩ : Leap) } }) (desc 0x20 0 (leB 1 1 ++ [1, 0, 0, 0, 0, 0, 0] ++ leB 6 86400)));
    let w : Nat := 0; let r : Nat := 0; let d : Desc := desc 0x20 0 (leB 1 1 ++ [1, 0, 0, 0, 0, 0, 0] ++ leB 6 86400);
    let b := s.blk.pass w; let δ := (leapArgs d.data).1; let m := (leapArgs d.data).2;
    let l := (⟨1, 86400, 0, 86400, 86400 * oneS, 86400 * oneS, none⟩ : Leap); Ready b r d 0x20 ∧ byteAt d.data 8 = 1 ∧ m % 86400 = 0 ∧
    (δ = 1 ∨ δ = -1) ∧ (b.ins.now : Int) + 2 * oneS ≤ leapS b.utcD δ m * oneS ∧ b.ins.leap = some l ∧ (l.m = m ∧ l.delta = δ))
  ∧ (let s : State := st (ring ({ on with ins := { on.ins with leap := some (⟨1, 86400, 0, 86400, 86400 * oneS, 86400 * oneS, none⟩ : Leap) } }) (desc 0x20 0 ([1, 0xFF, 0, 0, 0, 0, 0, 0] ++ leB 6 86400)));
    let w : Nat := 0; let r : Nat := 0; let d : Desc := desc 0x20 0 ([1, 0xFF, 0, 0, 0, 0, 0, 0] ++ leB 6 86400); let b := s.blk.pass w;
    let δ := (leapArgs d.data).1; let m := (leapArgs d.data).2; let l := (⟨1, 86400, 0, 86400, 86400 * oneS, 86400 * oneS, none⟩ : Leap);
    Ready b r d 0x20 ∧ byteAt d.data 8 = 1 ∧ m % 86400 = 0 ∧ (δ = 1 ∨ δ = -1) ∧ (b.ins.now : Int) + 2 * oneS ≤ leapS b.utcD δ m * oneS ∧
    b.ins.leap = some l ∧ (l.m ≠ m ∨ l.delta ≠ δ))
  ∧ (let s : State := st (ring (on) (desc 0x20 0 ([0]))); let w : Nat := 0; let r : Nat := 0; let d : Desc := desc 0x20 0 ([0]);
    let b := s.blk.pass w; let δ := (leapArgs d.data).1; let m := (leapArgs d.data).2; Ready b r d 0x20 ∧ byteAt d.data 8 ≠ 2 ∧
    (byteAt d.data 8 ≠ 1 ∨ m % 86400 ≠ 0 ∨ δ ≠ 1 ∧ δ ≠ -1))
  ∧ (let s : State := st (ring (on) (desc 0x20 0 ([1, 1, 0, 0, 0, 0, 0, 0] ++ leB 6 86401))); let w : Nat := 0; let r : Nat := 0;
    let d : Desc := desc 0x20 0 ([1, 1, 0, 0, 0, 0, 0, 0] ++ leB 6 86401); let b := s.blk.pass w; let δ := (leapArgs d.data).1;
    let m := (leapArgs d.data).2; Ready b r d 0x20 ∧ byteAt d.data 8 ≠ 2 ∧ (byteAt d.data 8 ≠ 1 ∨ m % 86400 ≠ 0 ∨ δ ≠ 1 ∧ δ ≠ -1))
  ∧ (let s : State := st (ring (on) (desc 0x20 0 ([1, 2]))); let w : Nat := 0; let r : Nat := 0; let d : Desc := desc 0x20 0 ([1, 2]);
    let b := s.blk.pass w; let δ := (leapArgs d.data).1; let m := (leapArgs d.data).2; Ready b r d 0x20 ∧ byteAt d.data 8 ≠ 2 ∧
    (byteAt d.data 8 ≠ 1 ∨ m % 86400 ≠ 0 ∨ δ ≠ 1 ∧ δ ≠ -1))
  ∧ (let s : State := st (ring ({ on with ins := { on.ins with now := secU 86398 + 1 } }) (desc 0x20 0 (leB 1 1 ++ [1, 0, 0, 0, 0, 0, 0] ++ leB 6 86400)));
    let w : Nat := 0; let r : Nat := 0; let d : Desc := desc 0x20 0 (leB 1 1 ++ [1, 0, 0, 0, 0, 0, 0] ++ leB 6 86400);
    let b := s.blk.pass w; let δ := (leapArgs d.data).1; let m := (leapArgs d.data).2; Ready b r d 0x20 ∧ byteAt d.data 8 = 1 ∧
    m % 86400 = 0 ∧ (δ = 1 ∨ δ = -1) ∧ leapS b.utcD δ m * oneS < (b.ins.now : Int) + 2 * oneS)
  ∧ (let s : State := st (ring (on) (desc 0x20 0 ([2]))); let w : Nat := 0; let r : Nat := 0; let d : Desc := desc 0x20 0 ([2]);
    let b := s.blk.pass w; Ready b r d 0x20 ∧ byteAt d.data 8 = 2 ∧ b.ins.leap = none)
  ∧ (let s : State := st (ring ({ on with ins := { on.ins with leap := some (⟨1, 86400, 0, 86400, 86400 * oneS, 86400 * oneS, none⟩ : Leap) } }) (desc 0x20 0 ([2])));
    let w : Nat := 0; let r : Nat := 0; let d : Desc := desc 0x20 0 ([2]); let b := s.blk.pass w; let smear := b.feat featSmear;
    let l := (⟨1, 86400, 0, 86400, 86400 * oneS, 86400 * oneS, none⟩ : Leap); Ready b r d 0x20 ∧ byteAt d.data 8 = 2 ∧
    b.ins.leap = some l ∧ (l.smears smear = false ∨ (b.ins.now : Int) < l.w0) ∧ (b.ins.now : Int) + oneS ≤ l.sLU)
  ∧ (let s : State := st (ring (wrs { on with ins := { on.ins with leap := some (⟨1, 86400, 0, 86400, 1000 * oneS, 2000 * oneS, some true⟩ : Leap) } } [(R.RST_FEATURE_EN, 2 ^ featSmear)]) (desc 0x20 0 ([2])));
    let w : Nat := 0; let r : Nat := 0; let d : Desc := desc 0x20 0 ([2]); let b := s.blk.pass w; let smear := b.feat featSmear;
    let l := (⟨1, 86400, 0, 86400, 1000 * oneS, 2000 * oneS, some true⟩ : Leap); Ready b r d 0x20 ∧ byteAt d.data 8 = 2 ∧
    b.ins.leap = some l ∧ (l.smears smear = true ∧ l.w0 ≤ (b.ins.now : Int) ∨ l.sLU < (b.ins.now : Int) + oneS))
  ∧ (let s : State := st (ring ({ on with ins := { on.ins with now := secU 86399 + 1, leap := some (⟨1, 86400, 0, 86400, 86400 * oneS, 86400 * oneS, none⟩ : Leap) } }) (desc 0x20 0 ([2])));
    let w : Nat := 0; let r : Nat := 0; let d : Desc := desc 0x20 0 ([2]); let b := s.blk.pass w; let smear := b.feat featSmear;
    let l := (⟨1, 86400, 0, 86400, 86400 * oneS, 86400 * oneS, none⟩ : Leap); Ready b r d 0x20 ∧ byteAt d.data 8 = 2 ∧
    b.ins.leap = some l ∧ (l.smears smear = true ∧ l.w0 ≤ (b.ins.now : Int) ∨ l.sLU < (b.ins.now : Int) + oneS))
  ∧ (let s : State := st (ring (wrs { on with ins := { on.ins with leap := some (⟨1, 86400, 0, 86400, 1000 * oneS, 2000 * oneS, none⟩ : Leap) } } [(R.RST_FEATURE_EN, 2 ^ featSmear)]) (desc 0x20 0 ([2])));
    let w : Nat := 0; let b := s.blk.pass w; let l := (⟨1, 86400, 0, 86400, 1000 * oneS, 2000 * oneS, none⟩ : Leap); b.ins.leap = some l ∧
    l.sample = none ∧ l.w0 ≤ (b.ins.now : Int))
  ∧ (let s : State := st (ring ({ on with ins := { on.ins with leap := some (⟨1, 86400, 0, 86400, 86400 * oneS, 86400 * oneS, none⟩ : Leap) } }) (desc 0x20 0 ([2])));
    let w : Nat := 0; let b := s.blk.pass w; let l := (⟨1, 86400, 0, 86400, 86400 * oneS, 86400 * oneS, none⟩ : Leap);
    b.ins.leap = some l ∧ ((b.ins.now : Int) < l.w0 ∨ l.sample.isSome = true))
  ∧ (let s : State := st (ring ({ on with ins := { on.ins with leap := some (⟨-1, 86400, 0, 1000, 1000 * oneS, 1000 * oneS, none⟩ : Leap) } }) (desc 0x20 0 ([2])));
    let w : Nat := 0; let b := s.blk.pass w; let l := (⟨-1, 86400, 0, 1000, 1000 * oneS, 1000 * oneS, none⟩ : Leap); b.ins.leap = some l ∧
    l.sLU ≤ (b.ins.now : Int))
  ∧ (let s : State := st (ring ({ on with ins := { on.ins with leap := some (⟨1, 86400, 0, 86400, 86400 * oneS, 86400 * oneS, none⟩ : Leap) } }) (desc 0x20 0 ([2])));
    let w : Nat := 0; let b := s.blk.pass w; let l := (⟨1, 86400, 0, 86400, 86400 * oneS, 86400 * oneS, none⟩ : Leap);
    b.ins.leap = some l ∧ (b.ins.now : Int) < l.sLU) :=
  ⟨by decide +kernel, by decide +kernel, by decide +kernel, by decide +kernel, by decide +kernel, by decide +kernel, by decide +kernel, by decide +kernel, by decide +kernel, by decide +kernel, by decide +kernel, by decide +kernel, by decide +kernel, by decide +kernel, by decide +kernel⟩

/-- States and operands that meet the hypotheses of each clause of `Obligations.TimeAdjusted`. -/
theorem wit_TimeAdjusted :
  (let s : State := st on; let w : Nat := 0; let b := s.blk.pass w; b.ins.running = true ∧ b.rst.vkeep = true)
  ∧ (let s : State := st (ring (onIn .locked) (desc 0x21 0 ([1, 0] ++ leB 8 1 ++ List.replicate 4 0 ++ leB 6 0 ++ leB 4 0))); let w : Nat := 0;
    let r : Nat := 0; let d : Desc := desc 0x21 0 ([1, 0] ++ leB 8 1 ++ List.replicate 4 0 ++ leB 6 0 ++ leB 4 0); let b := s.blk.pass w;
    let v := 1; let t := 0; Ready b r d 0x21 ∧ byteAt d.data 8 = 1 ∧ adjustValue d.data = some v ∧ time10At d.data 22 = some t ∧
    b.adjustOk 1 = false)
  ∧ (let s : State := st (ring (on) (desc 0x21 0 ([1, 0] ++ leB 8 1 ++ List.replicate 4 0 ++ leB 6 0 ++ leB 4 0))); let w : Nat := 0;
    let r : Nat := 0; let d : Desc := desc 0x21 0 ([1, 0] ++ leB 8 1 ++ List.replicate 4 0 ++ leB 6 0 ++ leB 4 0); let b := s.blk.pass w;
    let now := allZero (sliceB d.data 22 10); let v := 1; let t := 0; Ready b r d 0x21 ∧ byteAt d.data 8 = 1 ∧
    adjustValue d.data = some v ∧ time10At d.data 22 = some t ∧ b.adjustOk 1 = true ∧ now = true ∧ b.steps54 (b.corrSum v) false = false)
  ∧ (let s : State := st (ring (on) (desc 0x21 0 ([1, 0] ++ leB 8 (10 * 65536000000000) ++ List.replicate 4 0 ++ leB 6 0 ++ leB 4 0)));
    let w : Nat := 0; let r : Nat := 0;
    let d : Desc := desc 0x21 0 ([1, 0] ++ leB 8 (10 * 65536000000000) ++ List.replicate 4 0 ++ leB 6 0 ++ leB 4 0); let b := s.blk.pass w;
    let now := allZero (sliceB d.data 22 10); let v := 10 * 65536000000000; let t := 0; Ready b r d 0x21 ∧ byteAt d.data 8 = 1 ∧
    adjustValue d.data = some v ∧ time10At d.data 22 = some t ∧ b.adjustOk 1 = true ∧ now = true ∧ b.steps54 (b.corrSum v) false = true)
  ∧ (let s : State := st (ring (on) (desc 0x21 0 ([1, 0] ++ leB 8 1 ++ List.replicate 4 0 ++ leB 6 1001 ++ leB 4 0))); let w : Nat := 0;
    let r : Nat := 0; let d : Desc := desc 0x21 0 ([1, 0] ++ leB 8 1 ++ List.replicate 4 0 ++ leB 6 1001 ++ leB 4 0);
    let b := s.blk.pass w; let now := allZero (sliceB d.data 22 10); let v := 1; let t := secU 1001; Ready b r d 0x21 ∧
    byteAt d.data 8 = 1 ∧ adjustValue d.data = some v ∧ time10At d.data 22 = some t ∧ b.adjustOk 1 = true ∧ now = false ∧
    b.poolDeny (b.ringOwner r) 1 = none ∧ b.ins.now + leadU ≤ t)
  ∧ (let s : State := st (ring (lst (wrs on [(R.LST_CTRL_HOST_MAX, 0)]) (entry 3)) (desc 0x21 0 ([1, 0] ++ leB 8 1 ++ List.replicate 4 0 ++ leB 6 1001 ++ leB 4 0)));
    let w : Nat := 0; let r : Nat := 0; let d : Desc := desc 0x21 0 ([1, 0] ++ leB 8 1 ++ List.replicate 4 0 ++ leB 6 1001 ++ leB 4 0);
    let b := s.blk.pass w; let now := allZero (sliceB d.data 22 10); let v := 1; let t := secU 1001; let st := stDenied; Ready b r d 0x21 ∧
    byteAt d.data 8 = 1 ∧ adjustValue d.data = some v ∧ time10At d.data 22 = some t ∧ b.adjustOk 1 = true ∧ now = false ∧
    b.poolDeny (b.ringOwner r) 1 = some st)
  ∧ (let s : State := st (ring (onIn .commission) (desc 0x21 0 ([2, 0] ++ leB 12 5 ++ List.replicate 0 0 ++ leB 6 0 ++ leB 4 0)));
    let w : Nat := 0; let r : Nat := 0; let d : Desc := desc 0x21 0 ([2, 0] ++ leB 12 5 ++ List.replicate 0 0 ++ leB 6 0 ++ leB 4 0);
    let b := s.blk.pass w; let now := allZero (sliceB d.data 22 10); let v := secU 5; let t := 0; Ready b r d 0x21 ∧ byteAt d.data 8 = 2 ∧
    timeAt d.data 10 = some v ∧ time10At d.data 22 = some t ∧ b.adjustOk 2 = true ∧ now = true)
  ∧ (let s : State := st (ring (onIn .diagnostic) (desc 0x21 0 ([2, 0] ++ leB 12 5 ++ List.replicate 0 0 ++ leB 6 1001 ++ leB 4 0)));
    let w : Nat := 0; let r : Nat := 0; let d : Desc := desc 0x21 0 ([2, 0] ++ leB 12 5 ++ List.replicate 0 0 ++ leB 6 1001 ++ leB 4 0);
    let b := s.blk.pass w; let now := allZero (sliceB d.data 22 10); let v := secU 5; let t := secU 1001; Ready b r d 0x21 ∧
    byteAt d.data 8 = 2 ∧ timeAt d.data 10 = some v ∧ time10At d.data 22 = some t ∧ b.adjustOk 2 = true ∧ now = false ∧
    b.poolDeny (b.ringOwner r) 1 = none ∧ b.ins.now + leadU ≤ t)
  ∧ (let s : State := st (ring (onIn .holdover) (desc 0x21 0 ([2, 0] ++ leB 12 5 ++ List.replicate 0 0 ++ leB 6 1001 ++ leB 4 0)));
    let w : Nat := 0; let r : Nat := 0; let d : Desc := desc 0x21 0 ([2, 0] ++ leB 12 5 ++ List.replicate 0 0 ++ leB 6 1001 ++ leB 4 0);
    let b := s.blk.pass w; let v := secU 5; let t := secU 1001; Ready b r d 0x21 ∧ byteAt d.data 8 = 2 ∧ timeAt d.data 10 = some v ∧
    time10At d.data 22 = some t ∧ b.mode ≠ .commission ∧ b.mode ≠ .diagnostic)
  ∧ (let s : State := st (ring ({ on with ins := { on.ins with slewRem := 7 } }) (desc 0x21 0 ([3, 0] ++ leB 8 0 ++ List.replicate 4 0 ++ leB 6 0 ++ leB 4 0)));
    let w : Nat := 0; let r : Nat := 0; let d : Desc := desc 0x21 0 ([3, 0] ++ leB 8 0 ++ List.replicate 4 0 ++ leB 6 0 ++ leB 4 0);
    let b := s.blk.pass w; let now := allZero (sliceB d.data 22 10); let t := 0; Ready b r d 0x21 ∧ byteAt d.data 8 = 3 ∧
    time10At d.data 22 = some t ∧ b.adjustOk 3 = true ∧ now = true)
  ∧ (let s : State := st (lst on (entry 0xA)); let w : Nat := 0; let i : Nat := 4095; let d : Desc := desc 0 0 []; let b := s.blk.pass w;
    let now := allZero (sliceB d.data 22 10); let e := entry 0xA; b.lstAt? i = some e ∧ e.cls = 0xA ∧ e.issued = true ∧
    b.point e ≤ (b.ins.now : Int))
  ∧ (let s : State := st (lst (ring on (desc 0x21 0 [])) ({ entry 0xA with pay := .adjust ⟨0, 0⟩ 3 0 })); let w : Nat := 0;
    let i : Nat := 4095; let d : Desc := desc 0 0 []; let b := s.blk.pass w; let now := allZero (sliceB d.data 22 10);
    let e := { entry 0xA with pay := .adjust ⟨0, 0⟩ 3 0 }; let ref := (⟨0, 0⟩ : DRef); let v := (0 : Int); b.lstAt? i = some e ∧
    e.cls = 0xA ∧ e.issued = true ∧ b.point e ≤ (b.ins.now : Int) ∧ e.pay = .adjust ref 3 v ∧ b.adjustOk 3 = true ∧ e.period = 0 ∧
    e.notify = false) :=
  ⟨by decide +kernel, by decide +kernel, by decide +kernel, by decide +kernel, by decide +kernel, by decide +kernel, by decide +kernel, by decide +kernel, by decide +kernel, by decide +kernel, by decide +kernel, by decide +kernel⟩

/-- States and operands that meet the hypotheses of each clause of `Obligations.LasterArmsAndIssues`. -/
theorem wit_LasterArmsAndIssues :
  (let s : State := st (ring (on) (desc 0x24 0 ([]))); let w : Nat := 0; let r : Nat := 0; let block : Bytes := [];
    let d : Desc := desc 0x24 0 ([]); let b := s.blk.pass w; let c := b.beginDesc r d; let st := stMalformed; Ready b r d 0x24 ∧
    c.armCheck (b.ringOwner r) block = .inl st)
  ∧ (let s : State := st (ring (on) (desc 0x24 0 ([]))); let w : Nat := 0; let r : Nat := 0;
    let block : Bytes := leB 1 1 ++ List.replicate 63 0; let d : Desc := desc 0x24 0 ([]); let b := s.blk.pass w; let c := b.beginDesc r d;
    let st := stDenied; Ready b r d 0x24 ∧ c.armCheck (b.ringOwner r) block = .inl st)
  ∧ (let s : State := st (ring (on) (desc 0x24 0 ([]))); let w : Nat := 0; let r : Nat := 0;
    let block : Bytes := leB 1 0xD ++ leB 1 0 ++ [0, 0, 0, 0, 0, 0] ++ leB 6 1001 ++ List.replicate 50 0; let d : Desc := desc 0x24 0 ([]);
    let b := s.blk.pass w; let c := b.beginDesc r d; let l := [{ cls := 0xD, obj := 0, t0 := secU 1001, owner := 0 }]; Ready b r d 0x24 ∧
    c.armCheck (b.ringOwner r) block = .inr l)
  ∧ (let s : State := st (ring (on) (desc 0x24 0 ([]))); let w : Nat := 0; let r : Nat := 0;
    let block : Bytes := leB 1 0xD ++ leB 1 0 ++ [0, 0, 0, 0, 0, 0] ++ leB 6 1001 ++ List.replicate 50 0; let d : Desc := desc 0x24 0 ([]);
    let b := s.blk.pass w; let c := b.beginDesc r d; let e := ({ cls := 0xD, obj := 0, t0 := secU 1001, owner := 0 } : LEntry);
    Ready b r d 0x24 ∧ c.armCheck (b.ringOwner r) block = .inr [e] ∧ (b.ins.now : Int) + leadU ≤ e.t0 ∧ e.k = 0 ∧ e.cyc = none)
  ∧ (let s : State := st (ring (on) (desc 0x25 0 (leB 2 0x1FFF))); let w : Nat := 0; let r : Nat := 0;
    let d : Desc := desc 0x25 0 (leB 2 0x1FFF); let b := s.blk.pass w; let h := leAt d.data 8 2; Ready b r d 0x25 ∧
    (thas b.laster.gens (h % 4096) = false ∨ tget 0 b.laster.gens (h % 4096) ≠ h / 4096))
  ∧ (let s : State := st (ring ({ on with laster := { gens := [(4095, 1)] } }) (desc 0x25 0 (leB 2 0x1FFF))); let w : Nat := 0;
    let r : Nat := 0; let d : Desc := desc 0x25 0 (leB 2 0x1FFF); let b := s.blk.pass w; let h := leAt d.data 8 2; Ready b r d 0x25 ∧
    thas b.laster.gens (h % 4096) = true ∧ tget 0 b.laster.gens (h % 4096) = h / 4096 ∧ b.lstAt? (h % 4096) = none)
  ∧ (let s : State := st (ring (lst on (entry 0xA)) (desc 0x25 0 (leB 2 0x1FFF))); let w : Nat := 0; let r : Nat := 0;
    let d : Desc := desc 0x25 0 (leB 2 0x1FFF); let b := s.blk.pass w; let h := leAt d.data 8 2; let e := entry 0xA; Ready b r d 0x25 ∧
    thas b.laster.gens (h % 4096) = true ∧ tget 0 b.laster.gens (h % 4096) = h / 4096 ∧ b.lstAt? (h % 4096) = some e ∧
    (e.owner ≠ b.ringOwner r ∨ e.cls = 0xA))
  ∧ (let s : State := st (ring (lst on { entry 3 with issued := false }) (desc 0x25 0 (leB 2 0x1FFF))); let w : Nat := 0; let r : Nat := 0;
    let d : Desc := desc 0x25 0 (leB 2 0x1FFF); let b := s.blk.pass w; let h := leAt d.data 8 2; let e := { entry 3 with issued := false };
    Ready b r d 0x25 ∧ thas b.laster.gens (h % 4096) = true ∧ tget 0 b.laster.gens (h % 4096) = h / 4096 ∧ b.lstAt? (h % 4096) = some e ∧
    e.owner = b.ringOwner r ∧ e.cls ≠ 0xA ∧ e.issued = false)
  ∧ (let s : State := st (ring (lst on (entry 3)) (desc 0x25 0 (leB 2 0x1FFF))); let w : Nat := 0; let r : Nat := 0;
    let d : Desc := desc 0x25 0 (leB 2 0x1FFF); let b := s.blk.pass w; let h := leAt d.data 8 2; let e := entry 3; Ready b r d 0x25 ∧
    thas b.laster.gens (h % 4096) = true ∧ tget 0 b.laster.gens (h % 4096) = h / 4096 ∧ b.lstAt? (h % 4096) = some e ∧
    e.owner = b.ringOwner r ∧ e.cls ≠ 0xA ∧ e.issued = true ∧ e.period = 0)
  ∧ (let s : State := st (ring (lst on { entry 3 with period := 1000 }) (desc 0x25 0 (leB 2 0x1FFF))); let w : Nat := 0; let r : Nat := 0;
    let d : Desc := desc 0x25 0 (leB 2 0x1FFF); let b := s.blk.pass w; let h := leAt d.data 8 2; let e := { entry 3 with period := 1000 };
    Ready b r d 0x25 ∧ thas b.laster.gens (h % 4096) = true ∧ tget 0 b.laster.gens (h % 4096) = h / 4096 ∧ b.lstAt? (h % 4096) = some e ∧
    e.owner = b.ringOwner r ∧ e.cls ≠ 0xA ∧ e.issued = true ∧ e.period ≠ 0)
  ∧ (let s : State := st (lst on { entry 3 with spilled := true, issued := false }); let w : Nat := 0; let i : Nat := 4095;
    let b := s.blk.pass w; let e := { entry 3 with spilled := true, issued := false }; b.lstAt? i = some e ∧ e.spilled = true ∧
    e.target ≤ (b.ins.now + b.hotU : Nat))
  ∧ (let s : State := st (lst on { entry 3 with issued := false, t0 := secU 1000 + leadU }); let w : Nat := 0; let i : Nat := 4095;
    let b := s.blk.pass w; let e := { entry 3 with issued := false, t0 := secU 1000 + leadU }; b.lstAt? i = some e ∧ e.issued = false ∧
    e.resolved = true ∧ (b.ins.now : Int) + leadU ≤ b.point e ∧ e.spilled = false)
  ∧ (let s : State := st (lst on { entry 3 with issued := false }); let w : Nat := 0; let i : Nat := 4095; let b := s.blk.pass w;
    let e := { entry 3 with issued := false }; b.lstAt? i = some e ∧ e.issued = false ∧ e.resolved = true ∧
    b.point e < (b.ins.now : Int) + leadU)
  ∧ (let s : State := st (lst on { entry 3 with issued := false, policy := 1 }); let w : Nat := 0; let i : Nat := 4095; let b := s.blk.pass w;
    let e := { entry 3 with issued := false, policy := 1 }; b.lstAt? i = some e ∧ e.issued = false ∧ e.resolved = true ∧
    b.point e < (b.ins.now : Int) + leadU ∧ e.cls ≠ 1 ∧ e.policy ≠ 0 ∧ e.notify = false ∧ e.period = 0 ∧ b.flow.waits = []) :=
  ⟨by decide +kernel, by decide +kernel, by decide +kernel, by decide +kernel, by decide +kernel, by decide +kernel, by decide +kernel, by decide +kernel, by decide +kernel, by decide +kernel, by decide +kernel, by decide +kernel, by decide +kernel, by decide +kernel⟩

/-- States and operands that meet the hypotheses of each clause of `Obligations.EntriesRun`. -/
theorem wit_EntriesRun :
  (let s : State := st (lst on (entry 3)); let w : Nat := 0; let i : Nat := 4095; let e : LEntry := entry 3; let b := s.blk.pass w;
    b.lstAt? i = some e ∧ e.issued = true ∧ b.point e ≤ (b.ins.now : Int) ∧ e.cls = 3)
  ∧ (let s : State := st (lst on ({ entry 4 with period := 1000, count := 2 })); let w : Nat := 0; let i : Nat := 4095;
    let e : LEntry := { entry 4 with period := 1000, count := 2 }; let b := s.blk.pass w; b.lstAt? i = some e ∧ e.issued = true ∧
    b.point e ≤ (b.ins.now : Int) ∧ e.cls = 4)
  ∧ (let s : State := st (lst on (entry 5)); let w : Nat := 0; let i : Nat := 4095; let e : LEntry := entry 5; let b := s.blk.pass w;
    b.lstAt? i = some e ∧ e.issued = true ∧ b.point e ≤ (b.ins.now : Int) ∧ e.cls = 5)
  ∧ (let s : State := st (lst on (entry 6)); let w : Nat := 0; let i : Nat := 4095; let e : LEntry := entry 6; let b := s.blk.pass w;
    b.lstAt? i = some e ∧ e.issued = true ∧ b.point e ≤ (b.ins.now : Int) ∧ e.cls = 6)
  ∧ (let s : State := st (lst on (entry 0xD)); let w : Nat := 0; let i : Nat := 4095; let e : LEntry := entry 0xD; let b := s.blk.pass w;
    b.lstAt? i = some e ∧ e.issued = true ∧ b.point e ≤ (b.ins.now : Int) ∧ e.cls = 0xD ∧ e.pair = none)
  ∧ (let s : State := st (lst on (entry 2)); let w : Nat := 0; let i : Nat := 4095; let e : LEntry := entry 2; let b := s.blk.pass w;
    b.lstAt? i = some e ∧ e.issued = true ∧ b.point e ≤ (b.ins.now : Int) ∧ e.cls = 2 ∧ e.notify = false)
  ∧ (let s : State := st (lst { on with ports := [(0, { link := true, armed := [{ id := 7, port := 0, cls := 0, data := List.replicate 60 0, src := .host, eg := 64, heldFrom := 0, stamp := .keep, launch := some (secU 1000), entry := some 4095 }] })] } { entry 1 with pay := .launch 7 });
    let w : Nat := 0; let i : Nat := 4095; let e : LEntry := { entry 1 with pay := .launch 7 }; let b := s.blk.pass w; let id := 7;
    let f := ({ id := 7, port := 0, cls := 0, data := List.replicate 60 0, src := .host, eg := 64, heldFrom := 0, stamp := .keep, launch := some (secU 1000), entry := some 4095 } : TxF);
    b.lstAt? i = some e ∧ e.issued = true ∧ b.point e ≤ (b.ins.now : Int) ∧ e.cls = 1 ∧ e.notify = false ∧ e.pay = .launch id ∧
    b.armedFrame? e.obj id = some f)
  ∧ (let s : State := st { on with ports := [(31, { link := true, pend := some (⟨0, 1000, []⟩, secU 1000, 5) })] }; let w : Nat := 0;
    let b := s.blk.pass w; let p := (31 : Nat); b.gateDue p = true)
  ∧ (let s : State := st { on with nts := { epochs := [(3, { st := 1, id := 9, act := secU 1000, actEntry := some 4 })] } }; let w : Nat := 0;
    let b := s.blk.pass w; let n := (3 : Nat); let x := (⟨roundTo 80000 (secU 1000), 2, 4, .keyAct 3⟩ : LKey);
    b.keyRolls (b.ins.now + nsU 1) = [x] ∧ x.pt ≤ (b.ins.now : Int) ∧ x.item = .keyAct n)
  ∧ (let s : State := st { on with nts := { epochs := [(3, { st := 2, id := 9, exp := secU 1000, expEntry := some 4 })] } }; let w : Nat := 0;
    let b := s.blk.pass w; let n := (3 : Nat); let x := (⟨roundTo 80000 (secU 1000), 2, 4, .keyExp 3⟩ : LKey);
    b.keyRolls (b.ins.now + nsU 1) = [x] ∧ x.pt ≤ (b.ins.now : Int) ∧ x.item = .keyExp n)
  ∧ (let s : State := st on; let w : Nat := 0; let b := s.blk.pass w; b.keyRolls (b.ins.now + nsU 1) = []) :=
  ⟨by decide +kernel, by decide +kernel, by decide +kernel, by decide +kernel, by decide +kernel, by decide +kernel, by decide +kernel, by decide +kernel, by decide +kernel, by decide +kernel, by decide +kernel⟩

/-- States and operands that meet the hypotheses of each clause of `Obligations.OutputUnitsRun`. -/
theorem wit_OutputUnitsRun :
  (let s : State := st (ring { on with part := { variant := .kt820 } } (desc 0x23 0 (leB 4 (2 ^ 17 + 2 ^ 15) ++ [1, 0] ++ leB 4 500000 ++ List.replicate 10 0)));
    let w : Nat := 0; let r : Nat := 0;
    let d : Desc := desc 0x23 0 (leB 4 (2 ^ 17 + 2 ^ 15) ++ [1, 0] ++ leB 4 500000 ++ List.replicate 10 0); let b := s.blk.pass w;
    let mask := leAt d.data 8 4; let us := maskUnits mask; let t := 0; Ready b r d 0x23 ∧ time10At d.data 18 = some t ∧ mask ≠ 0 ∧
    mask < 2 ^ 18 ∧ leAt d.data 14 4 ≤ 500000 ∧ byteAt d.data 12 ∈ [1, 2, 3] ∧ (us.any fun u => !b.unitPresent u) = true)
  ∧ (let s : State := st (ring (on) (desc 0x23 0 (leB 4 (2 ^ 17) ++ [1, 0] ++ leB 4 500000 ++ List.replicate 10 0))); let w : Nat := 0;
    let r : Nat := 0; let d : Desc := desc 0x23 0 (leB 4 (2 ^ 17) ++ [1, 0] ++ leB 4 500000 ++ List.replicate 10 0); let b := s.blk.pass w;
    let mask := leAt d.data 8 4; let us := maskUnits mask; let t := 0; Ready b r d 0x23 ∧ time10At d.data 18 = some t ∧ mask ≠ 0 ∧
    mask < 2 ^ 18 ∧ leAt d.data 14 4 ≤ 500000 ∧ byteAt d.data 12 ∈ [1, 2, 3] ∧ (us.all b.unitPresent) = true ∧
    (us.any fun u => !(b.outOf u).running) = true)
  ∧ (let s : State := st (ring ({ on with outs := { units := [(17, { running := true, next := secU 1000, realign := some { method := 1, rate := 1, apply := 0, started := false, ref := some ⟨0, 0⟩ } })] } }) (desc 0x23 0 (leB 4 (2 ^ 17) ++ [2, 0] ++ leB 4 500000 ++ List.replicate 10 0)));
    let w : Nat := 0; let r : Nat := 0; let d : Desc := desc 0x23 0 (leB 4 (2 ^ 17) ++ [2, 0] ++ leB 4 500000 ++ List.replicate 10 0);
    let b := s.blk.pass w; let mask := leAt d.data 8 4; let us := maskUnits mask; let t := 0; Ready b r d 0x23 ∧
    time10At d.data 18 = some t ∧ mask ≠ 0 ∧ mask < 2 ^ 18 ∧ leAt d.data 14 4 ≤ 500000 ∧ byteAt d.data 12 ∈ [1, 2, 3] ∧
    (us.all b.unitPresent) = true ∧ (us.all fun u => (b.outOf u).running) = true ∧ byteAt d.data 12 ≠ 3 ∧
    (us.any fun u => (b.outOf u).realign.isSome) = true)
  ∧ (let s : State := st (ring ({ on with outs := { units := [(17, { running := true, next := secU 1000, gate := true })] } }) (desc 0x23 0 (leB 4 (2 ^ 17) ++ [1, 0] ++ leB 4 500000 ++ List.replicate 10 0)));
    let w : Nat := 0; let r : Nat := 0; let d : Desc := desc 0x23 0 (leB 4 (2 ^ 17) ++ [1, 0] ++ leB 4 500000 ++ List.replicate 10 0);
    let b := s.blk.pass w; let mask := leAt d.data 8 4; let us := maskUnits mask; let t := 0; Ready b r d 0x23 ∧
    time10At d.data 18 = some t ∧ mask ≠ 0 ∧ mask < 2 ^ 18 ∧ leAt d.data 14 4 ≤ 500000 ∧ byteAt d.data 12 ∈ [1, 2, 3] ∧
    (us.all b.unitPresent) = true ∧ (us.all fun u => (b.outOf u).running) = true ∧ byteAt d.data 12 ≠ 3 ∧
    (us.all fun u => (b.outOf u).realign.isNone) = true)
  ∧ (let s : State := st (ring ({ on with outs := { units := [(17, { running := true, next := secU 1000, realign := some { method := 1, rate := 1, apply := 0, started := true, ref := some ⟨0, 0⟩ } })] } }) (desc 0x23 0 (leB 4 (2 ^ 17) ++ [3, 0] ++ leB 4 500000 ++ List.replicate 10 0)));
    let w : Nat := 0; let r : Nat := 0; let d : Desc := desc 0x23 0 (leB 4 (2 ^ 17) ++ [3, 0] ++ leB 4 500000 ++ List.replicate 10 0);
    let b := s.blk.pass w; let mask := leAt d.data 8 4; let us := maskUnits mask; let t := 0; Ready b r d 0x23 ∧
    time10At d.data 18 = some t ∧ mask ≠ 0 ∧ mask < 2 ^ 18 ∧ leAt d.data 14 4 ≤ 500000 ∧ byteAt d.data 12 ∈ [1, 2, 3] ∧
    (us.all b.unitPresent) = true ∧ (us.all fun u => (b.outOf u).running) = true ∧ byteAt d.data 12 = 3)
  ∧ (let s : State := st (wrs ({ on with outs := { units := [(17, { running := true, next := secU 1000, mis := 5, realign := some { method := 2, rate := 1, apply := 0, started := false, ref := some ⟨0, 0⟩ } })] } }) [(R.HLD_OCFG_KIND 17, 1)]);
    let w : Nat := 0; let n : Nat := 17; let b := s.blk.pass w;
    let x := ({ method := 2, rate := 1, apply := 0, started := false, ref := some ⟨0, 0⟩ } : Realign); (b.outOf n).realign = some x ∧
    (b.outOf n).firstAlign = false ∧ b.alignDue n x = true ∧ b.rd (R.HLD_OCFG_KIND n) ≠ 4 ∧ (b.outOf n).mis ≠ 0 ∧ x.method = 2)
  ∧ (let s : State := st (wrs ({ on with outs := { units := [(17, { running := true, next := secU 1000, mis := 5, realign := some { method := 1, rate := 1, apply := 0, started := false, ref := some ⟨0, 0⟩ } })] } }) [(R.HLD_OCFG_KIND 17, 1)]);
    let w : Nat := 0; let n : Nat := 17; let b := s.blk.pass w;
    let x := ({ method := 1, rate := 1, apply := 0, started := false, ref := some ⟨0, 0⟩ } : Realign); (b.outOf n).realign = some x ∧
    (b.outOf n).firstAlign = false ∧ b.alignDue n x = true ∧ b.rd (R.HLD_OCFG_KIND n) ≠ 4 ∧ (b.outOf n).mis ≠ 0 ∧ x.method ≠ 2 ∧
    b.rd (R.HLD_OCFG_KIND n) ≠ 3)
  ∧ (let s : State := st (wrs ({ on with outs := { units := [(17, { running := true, next := secU 1000, realign := some { method := 1, rate := 1, apply := 0, started := false, ref := some ⟨0, 0⟩ } })] } }) [(R.HLD_OCFG_KIND 17, 1)]);
    let w : Nat := 0; let n : Nat := 17; let b := s.blk.pass w;
    let x := ({ method := 1, rate := 1, apply := 0, started := false, ref := some ⟨0, 0⟩ } : Realign); (b.outOf n).realign = some x ∧
    (b.outOf n).firstAlign = false ∧ b.alignDue n x = true ∧ b.rd (R.HLD_OCFG_KIND n) ≠ 4 ∧ (b.outOf n).mis = 0)
  ∧ (let s : State := st (wrs ({ on with outs := { units := [(17, { running := true, next := secU 1000, firstAlign := true })] } }) [(R.HLD_OCFG_KIND 17, 1)]);
    let w : Nat := 0; let n : Nat := 17; let b := s.blk.pass w; (b.outOf n).firstAlign = true)
  ∧ (let s : State := st (wrs ({ on with outs := { units := [(17, { running := true, next := secU 1000, gate := true })] } }) [(R.HLD_OCFG_KIND 17, 1)]);
    let w : Nat := 0; let n : Nat := 17; let b := s.blk.pass w; (b.outOf n).firstAlign = false)
  ∧ (let s : State := st (wrs ({ on with outs := { units := [(17, { running := true, next := secU 1000, realign := some { method := 2, rate := 1, apply := 0, started := true, ref := some ⟨0, 0⟩ } })] } }) [(R.HLD_OCFG_KIND 17, 1)]);
    let w : Nat := 0; let n : Nat := 17; let b := s.blk.pass w;
    let x := ({ method := 2, rate := 1, apply := 0, started := true, ref := some ⟨0, 0⟩ } : Realign); (b.outNow n).realign = some x ∧
    x.started = true ∧ x.method = 2 ∧ (b.outNow n).mis = 0)
  ∧ (let s : State := st (wrs ({ on with outs := { units := [(17, { running := true, next := secU 1000, trail := some 5 })] } }) [(R.HLD_OCFG_KIND 17, 1)]);
    let w : Nat := 0; let n : Nat := 17; let b := s.blk.pass w; let t := (5 : Int); (b.outOf n).trail = some t ∧
    roundTo 625 t ≤ (b.ins.now : Int))
  ∧ (let s : State := st (wrs ({ on with outs := { units := [(17, { running := true, next := secU 1000, firstAlign := false })] } }) [(R.HLD_OCFG_KIND 17, 1)]);
    let w : Nat := 0; let n : Nat := 17; let b := s.blk.pass w; let p := secU 1; let q := 1; (b.outOf n).trail = none ∧
    b.edgePending n = true ∧ roundTo 625 (b.outNow n).next ≤ (b.ins.now : Int) ∧ b.unitPeriod n = some (p, q)) :=
  ⟨by decide +kernel, by decide +kernel, by decide +kernel, by decide +kernel, by decide +kernel, by decide +kernel, by decide +kernel, by decide +kernel, by decide +kernel, by decide +kernel, by decide +kernel, by decide +kernel, by decide +kernel⟩

/-- States and operands that meet the hypotheses of each clause of `Obligations.ReferencesCompared`. -/
theorem wit_ReferencesCompared :
  (let s : State := st (slot (on) 3 { st := .qualified, bucket := 1 }); let w : Nat := 0; let k : Nat := 0; let bytes : Bytes := [];
    let b := s.blk.pass w; let x := b.slotOf k; b.slotKind k = 3 ∧ x.st ≠ .disabled ∧ b.todOf k bytes = none)
  ∧ (let s : State := st (wrs (slot (on) 3 { st := .qualified, bucket := 1 }) [(R.REF_SRC_LABEL_NEXT 0, 1)]); let w : Nat := 0;
    let k : Nat := 0; let bytes : Bytes := zda; let b := s.blk.pass w; let x := b.slotOf k; let m := (⟨1000, 0, 65535, false⟩ : Tod);
    b.slotKind k = 3 ∧ x.st ≠ .disabled ∧ b.todOf k bytes = some m ∧ b.flag (R.REF_SRC_LABEL_NEXT k) = true)
  ∧ (let s : State := st (slot (on) 3 { st := .qualified, bucket := 1 }); let w : Nat := 0; let k : Nat := 0; let bytes : Bytes := zda;
    let b := s.blk.pass w; let x := b.slotOf k; let m := (⟨1000, 0, 65535, false⟩ : Tod); b.slotKind k = 3 ∧ x.st ≠ .disabled ∧
    b.todOf k bytes = some m ∧ b.flag (R.REF_SRC_LABEL_NEXT k) = false ∧ x.edge = none)
  ∧ (let s : State := st (slot (on) 3 { st := .qualified, edge := some (secU 999, secU 2000 - msU 20 + 1) }); let w : Nat := 0;
    let k : Nat := 0; let bytes : Bytes := zda; let b := s.blk.pass w; let x := b.slotOf k; let m := (⟨1000, 0, 65535, false⟩ : Tod);
    let tE := (secU 999 : Int); let uE := secU 2000 - msU 20 + 1; b.slotKind k = 3 ∧ x.st ≠ .disabled ∧ b.todOf k bytes = some m ∧
    b.flag (R.REF_SRC_LABEL_NEXT k) = false ∧ x.edge = some (tE, uE) ∧ labelWindow uE b.up = false)
  ∧ (let s : State := st (slot (on) 3 { st := .qualified, edge := some (secU 999, secU 2000 - msU 980 - 1) }); let w : Nat := 0;
    let k : Nat := 0; let bytes : Bytes := zda; let b := s.blk.pass w; let x := b.slotOf k; let m := (⟨1000, 0, 65535, false⟩ : Tod);
    let tE := (secU 999 : Int); let uE := secU 2000 - msU 980 - 1; b.slotKind k = 3 ∧ x.st ≠ .disabled ∧ b.todOf k bytes = some m ∧
    b.flag (R.REF_SRC_LABEL_NEXT k) = false ∧ x.edge = some (tE, uE) ∧ labelWindow uE b.up = false)
  ∧ (let s : State := st (slot (on) 3 { st := .qualified, edge := some (secU 1000, secU 2000 - msU 20) }); let w : Nat := 0; let k : Nat := 0;
    let bytes : Bytes := zda; let b := s.blk.pass w; let x := b.slotOf k; let m := (⟨1000, 0, 65535, false⟩ : Tod);
    let tE := (secU 1000 : Int); let uE := secU 2000 - msU 20; b.slotKind k = 3 ∧ x.st ≠ .disabled ∧ b.todOf k bytes = some m ∧
    b.flag (R.REF_SRC_LABEL_NEXT k) = false ∧ x.edge = some (tE, uE) ∧ labelWindow uE b.up = true)
  ∧ (let s : State := st (slot (on) 3 { st := .qualified, edge := some (secU 1000, secU 2000 - msU 980) }); let w : Nat := 0; let k : Nat := 0;
    let bytes : Bytes := zda; let b := s.blk.pass w; let x := b.slotOf k; let m := (⟨1000, 0, 65535, false⟩ : Tod);
    let tE := (secU 1000 : Int); let uE := secU 2000 - msU 980; b.slotKind k = 3 ∧ x.st ≠ .disabled ∧ b.todOf k bytes = some m ∧
    b.flag (R.REF_SRC_LABEL_NEXT k) = false ∧ x.edge = some (tE, uE) ∧ labelWindow uE b.up = true)
  ∧ (let s : State := st on; let w : Nat := 0; let k : Nat := 24; let b := s.blk.pass w; let x := b.slotOf k;
    (24 ≤ k ∨ x.st = .disabled ∨ b.slotReceives k = false))
  ∧ (let s : State := st on; let w : Nat := 0; let k : Nat := 0; let b := s.blk.pass w; let x := b.slotOf k;
    (24 ≤ k ∨ x.st = .disabled ∨ b.slotReceives k = false))
  ∧ (let s : State := st (slot on 1 { st := .qualified }); let w : Nat := 0; let k : Nat := 0; let b := s.blk.pass w; let x := b.slotOf k;
    (24 ≤ k ∨ x.st = .disabled ∨ b.slotReceives k = false))
  ∧ (let s : State := st (eye (slot on 1 { st := .qualified }) 1 {}); let w : Nat := 0; let k : Nat := 0; let b := s.blk.pass w;
    let x := b.slotOf k; k < 24 ∧ x.st ≠ .disabled ∧ b.slotReceives k = true ∧ b.slotKind k = 1)
  ∧ (let s : State := st (eye (slot on 2 { st := .qualified }) 1 {}); let w : Nat := 0; let k : Nat := 0; let b := s.blk.pass w;
    let x := b.slotOf k; k < 24 ∧ x.st ≠ .disabled ∧ b.slotReceives k = true ∧ (b.slotKind k = 2 ∨ b.slotKind k = 5))
  ∧ (let s : State := st { wrs (slot on 5 { st := .qualified }) [(R.RST_FEATURE_EN, 0x1FFF), (R.PRT_FEATURE_EN 0, 0x1FFF)] with ports := [(0, { lock := true, link := true })] };
    let w : Nat := 0; let k : Nat := 0; let b := s.blk.pass w; let x := b.slotOf k; k < 24 ∧ x.st ≠ .disabled ∧ b.slotReceives k = true ∧
    (b.slotKind k = 2 ∨ b.slotKind k = 5))
  ∧ (let s : State := st (eye (slot on 3 { st := .qualified }) 1 {}); let w : Nat := 0; let k : Nat := 0; let b := s.blk.pass w;
    let x := b.slotOf k; k < 24 ∧ x.st ≠ .disabled ∧ b.slotReceives k = true ∧ b.slotKind k = 3 ∧ b.flag (R.REF_SRC_LABEL_NEXT k) = false)
  ∧ (let s : State := st (slot (on) 1 { st := .qualified, bucket := 1 }); let w : Nat := 0; let k : Nat := 0; let b := s.blk.pass w;
    let x := b.slotOf k; k < 24 ∧ b.ins.running = true ∧ x.st ≠ .disabled)
  ∧ (let s : State := st (slot (on) 1 { st := .qualified, bucket := 0 }); let w : Nat := 0; let k : Nat := 0; let b := s.blk.pass w;
    let x := b.slotOf k; k < 24 ∧ b.ins.running = true ∧ b.disableCause k = none ∧ x.st = .qualified ∧ b.actFails k = false ∧
    b.rejectCause k = none)
  ∧ (let s : State := st (slot (on) 1 { st := .qualifying, timer := some (secU 2000) }); let w : Nat := 0; let k : Nat := 0;
    let b := s.blk.pass w; let x := b.slotOf k; x.st = .qualifying ∧ b.timerOver k = true ∧ x.wasQual = false)
  ∧ (let s : State := st (slot (on) 1 { st := .qualifying, timer := some (secU 2000), wasQual := true }); let w : Nat := 0; let k : Nat := 0;
    let b := s.blk.pass w; let x := b.slotOf k; x.st = .qualifying ∧ b.timerOver k = true ∧ x.wasQual = true)
  ∧ (let s : State := st (slot (on) 1 { st := .wtr, timer := some (secU 2000) }); let w : Nat := 0; let k : Nat := 0; let b := s.blk.pass w;
    let x := b.slotOf k; x.st = .wtr ∧ b.timerOver k = true)
  ∧ (let s : State := st on; let w : Nat := 0; let b := s.blk.pass w; b.ins.running = true)
  ∧ (let s : State := st (wrs (locked on) [(R.REF_SEL_MODE, 1), (R.REF_SRC_ENS 0, 1)]); let w : Nat := 0; let b := s.blk.pass w;
    b.ins.running = true ∧ b.ensMode = true)
  ∧ (let s : State := st { wrs on [(R.REF_SEL_BW, 2), (R.REF_SEL_ACQ_BW, 4)] with refs := { acqStep := 5, acqFrom := some 0 } };
    let w : Nat := 0; let b := s.blk.pass w; b.narrowDue = true) :=
  ⟨by decide +kernel, by decide +kernel, by decide +kernel, by decide +kernel, by decide +kernel, by decide +kernel, by decide +kernel, by decide +kernel, by decide +kernel, by decide +kernel, by decide +kernel, by decide +kernel, by decide +kernel, by decide +kernel, by decide +kernel, by decide +kernel, by decide +kernel, by decide +kernel, by decide +kernel, by decide +kernel, by decide +kernel, by decide +kernel⟩

/-- States and operands that meet the hypotheses of each clause of `Obligations.ReferenceCommands`. -/
theorem wit_ReferenceCommands :
  (let s : State := st (ring (on) (desc 0x22 0 ([1, 24, 0, 0]))); let w : Nat := 0; let r : Nat := 0;
    let d : Desc := desc 0x22 0 ([1, 24, 0, 0]); let b := s.blk.pass w; let k := byteAt d.data 9; Ready b r d 0x22 ∧ byteAt d.data 8 = 1 ∧
    (24 ≤ k ∨ b.slotKind k = 0))
  ∧ (let s : State := st (ring (on) (desc 0x22 0 ([1, 0, 0, 0]))); let w : Nat := 0; let r : Nat := 0;
    let d : Desc := desc 0x22 0 ([1, 0, 0, 0]); let b := s.blk.pass w; let k := byteAt d.data 9; Ready b r d 0x22 ∧ byteAt d.data 8 = 1 ∧
    (24 ≤ k ∨ b.slotKind k = 0))
  ∧ (let s : State := st (ring ({ wrs (slot on 1 {}) [(R.REF_SRC_OBJ 0, 15)] with part := { variant := .kt820 } }) (desc 0x22 0 ([1, 0, 0, 0])));
    let w : Nat := 0; let r : Nat := 0; let d : Desc := desc 0x22 0 ([1, 0, 0, 0]); let b := s.blk.pass w; let k := byteAt d.data 9;
    Ready b r d 0x22 ∧ byteAt d.data 8 = 1 ∧ k < 24 ∧ b.slotKind k ≠ 0 ∧ b.slotFitted k = false)
  ∧ (let s : State := st (ring (slot on 1 {}) (desc 0x22 0 ([1, 0, 0, 0]))); let w : Nat := 0; let r : Nat := 0;
    let d : Desc := desc 0x22 0 ([1, 0, 0, 0]); let b := s.blk.pass w; let k := byteAt d.data 9; Ready b r d 0x22 ∧ byteAt d.data 8 = 1 ∧
    k < 24 ∧ b.slotKind k ≠ 0 ∧ b.slotFitted k = true ∧ (b.eligible k = false ∨ b.ensMode = true ∨ b.mode = .follower))
  ∧ (let s : State := st (ring (wrs (locked on) [(R.REF_SEL_MODE, 1)]) (desc 0x22 0 ([1, 0, 0, 0]))); let w : Nat := 0; let r : Nat := 0;
    let d : Desc := desc 0x22 0 ([1, 0, 0, 0]); let b := s.blk.pass w; let k := byteAt d.data 9; Ready b r d 0x22 ∧ byteAt d.data 8 = 1 ∧
    k < 24 ∧ b.slotKind k ≠ 0 ∧ b.slotFitted k = true ∧ (b.eligible k = false ∨ b.ensMode = true ∨ b.mode = .follower))
  ∧ (let s : State := st (ring (locked (onIn .follower)) (desc 0x22 0 ([1, 0, 0, 0]))); let w : Nat := 0; let r : Nat := 0;
    let d : Desc := desc 0x22 0 ([1, 0, 0, 0]); let b := s.blk.pass w; let k := byteAt d.data 9; Ready b r d 0x22 ∧ byteAt d.data 8 = 1 ∧
    k < 24 ∧ b.slotKind k ≠ 0 ∧ b.slotFitted k = true ∧ (b.eligible k = false ∨ b.ensMode = true ∨ b.mode = .follower))
  ∧ (let s : State := st (ring (locked on) (desc 0x22 0 ([1, 0, 0, 0]))); let w : Nat := 0; let r : Nat := 0;
    let d : Desc := desc 0x22 0 ([1, 0, 0, 0]); let b := s.blk.pass w; let k := byteAt d.data 9; Ready b r d 0x22 ∧ byteAt d.data 8 = 1 ∧
    k < 24 ∧ b.slotKind k ≠ 0 ∧ b.slotFitted k = true ∧ b.eligible k = true ∧ b.ensMode = false ∧ b.mode ≠ .follower)
  ∧ (let s : State := st (ring (on) (desc 0x22 0 ([2, 0, 0, 0]))); let w : Nat := 0; let r : Nat := 0;
    let d : Desc := desc 0x22 0 ([2, 0, 0, 0]); let b := s.blk.pass w; Ready b r d 0x22 ∧ byteAt d.data 8 = 2)
  ∧ (let s : State := st (ring (slot on 1 { st := .qualified }) (desc 0x22 0 ([3, 0, 0, 0]))); let w : Nat := 0; let r : Nat := 0;
    let d : Desc := desc 0x22 0 ([3, 0, 0, 0]); let b := s.blk.pass w; let k := byteAt d.data 9; Ready b r d 0x22 ∧ byteAt d.data 8 = 3 ∧
    k < 24 ∧ b.slotKind k ≠ 0 ∧ (b.mode = .follower → b.slotKind k ≠ 6) ∧ (b.slotOf k).st ≠ .disabled)
  ∧ (let s : State := st (ring (slot on 1 {}) (desc 0x22 0 ([3, 0, 0, 0]))); let w : Nat := 0; let r : Nat := 0;
    let d : Desc := desc 0x22 0 ([3, 0, 0, 0]); let b := s.blk.pass w; let k := byteAt d.data 9; Ready b r d 0x22 ∧ byteAt d.data 8 = 3 ∧
    k < 24 ∧ b.slotKind k ≠ 0 ∧ (b.mode = .follower → b.slotKind k ≠ 6) ∧ (b.slotOf k).st = .disabled)
  ∧ (let s : State := st (ring (slot on 1 { st := .held, flaps := [1] }) (desc 0x22 0 ([4, 0, 0, 0]))); let w : Nat := 0; let r : Nat := 0;
    let d : Desc := desc 0x22 0 ([4, 0, 0, 0]); let b := s.blk.pass w; let k := byteAt d.data 9; Ready b r d 0x22 ∧ byteAt d.data 8 = 4 ∧
    k < 24 ∧ ((b.slotOf k).st = .held ∨ (b.slotOf k).st = .lockedOut))
  ∧ (let s : State := st (ring (slot on 1 { st := .lockedOut, lockoutHeld := true }) (desc 0x22 0 ([4, 0, 0, 0]))); let w : Nat := 0;
    let r : Nat := 0; let d : Desc := desc 0x22 0 ([4, 0, 0, 0]); let b := s.blk.pass w; let k := byteAt d.data 9; Ready b r d 0x22 ∧
    byteAt d.data 8 = 4 ∧ k < 24 ∧ ((b.slotOf k).st = .held ∨ (b.slotOf k).st = .lockedOut))
  ∧ (let s : State := st (ring (slot on 1 { st := .qualified }) (desc 0x22 0 ([4, 0, 0, 0]))); let w : Nat := 0; let r : Nat := 0;
    let d : Desc := desc 0x22 0 ([4, 0, 0, 0]); let b := s.blk.pass w; let k := byteAt d.data 9; Ready b r d 0x22 ∧ byteAt d.data 8 = 4 ∧
    k < 24 ∧ (b.slotOf k).st ∉ [.held, .lockedOut, .disabled])
  ∧ (let s : State := st (ring (slot on 1 { st := .wtr }) (desc 0x22 0 ([5, 0, 0, 0]))); let w : Nat := 0; let r : Nat := 0;
    let d : Desc := desc 0x22 0 ([5, 0, 0, 0]); let b := s.blk.pass w; let k := byteAt d.data 9; Ready b r d 0x22 ∧ byteAt d.data 8 = 5 ∧
    k < 24 ∧ (b.slotOf k).st = .wtr)
  ∧ (let s : State := st (ring (on) (desc 0x22 0 ([5, 23, 0, 0]))); let w : Nat := 0; let r : Nat := 0;
    let d : Desc := desc 0x22 0 ([5, 23, 0, 0]); let b := s.blk.pass w; let k := byteAt d.data 9; Ready b r d 0x22 ∧ byteAt d.data 8 = 5 ∧
    k < 24 ∧ (b.slotOf k).st ≠ .wtr)
  ∧ (let s : State := st (ring (slot on 1 { st := .qualified }) (desc 0x22 0 ([6, 0, 255, 0]))); let w : Nat := 0; let r : Nat := 0;
    let d : Desc := desc 0x22 0 ([6, 0, 255, 0]); let b := s.blk.pass w; let k := byteAt d.data 9; Ready b r d 0x22 ∧ byteAt d.data 8 = 6 ∧
    k < 24 ∧ b.slotKind k ≠ 0)
  ∧ (let s : State := st (ring (on) (desc 0x22 0 ([8, 0, 15, 1]))); let w : Nat := 0; let r : Nat := 0;
    let d : Desc := desc 0x22 0 ([8, 0, 15, 1]); let b := s.blk.pass w; let v := byteAt d.data 10; Ready b r d 0x22 ∧ byteAt d.data 8 = 8 ∧
    v ≤ 15 ∧ byteAt d.data 11 ≤ 1)
  ∧ (let s : State := st (ring (on) (desc 0x22 0 ([8, 0, 0, 0]))); let w : Nat := 0; let r : Nat := 0;
    let d : Desc := desc 0x22 0 ([8, 0, 0, 0]); let b := s.blk.pass w; let v := byteAt d.data 10; Ready b r d 0x22 ∧ byteAt d.data 8 = 8 ∧
    v ≤ 15 ∧ byteAt d.data 11 ≤ 1)
  ∧ (let s : State := st (ring ({ on with refs := { sw := some { target := 0 } } }) (desc 0x22 0 ([9, 0, 1, 0]))); let w : Nat := 0;
    let r : Nat := 0; let d : Desc := desc 0x22 0 ([9, 0, 1, 0]); let b := s.blk.pass w; let v := byteAt d.data 10; Ready b r d 0x22 ∧
    byteAt d.data 8 = 9 ∧ v ≤ 1 ∧ b.mode ≠ .follower ∧ b.switching = true)
  ∧ (let s : State := st (ring (on) (desc 0x22 0 ([9, 0, 0, 0]))); let w : Nat := 0; let r : Nat := 0;
    let d : Desc := desc 0x22 0 ([9, 0, 0, 0]); let b := s.blk.pass w; let v := byteAt d.data 10; Ready b r d 0x22 ∧ byteAt d.data 8 = 9 ∧
    v ≤ 1 ∧ b.mode ≠ .follower ∧ b.switching = false ∧ b.rd R.REF_SEL_MODE = v)
  ∧ (let s : State := st (ring (locked on) (desc 0x22 0 ([9, 0, 1, 0]))); let w : Nat := 0; let r : Nat := 0;
    let d : Desc := desc 0x22 0 ([9, 0, 1, 0]); let b := s.blk.pass w; let v := byteAt d.data 10; Ready b r d 0x22 ∧ byteAt d.data 8 = 9 ∧
    v ≤ 1 ∧ b.mode ≠ .follower ∧ b.switching = false ∧ b.rd R.REF_SEL_MODE ≠ v)
  ∧ (let s : State := st (ring (onIn .follower) (desc 0x22 0 ([9, 0, 1, 0]))); let w : Nat := 0; let r : Nat := 0;
    let d : Desc := desc 0x22 0 ([9, 0, 1, 0]); let b := s.blk.pass w; let v := byteAt d.data 10; Ready b r d 0x22 ∧ byteAt d.data 8 = 9 ∧
    v ≤ 1 ∧ b.mode = .follower)
  ∧ (let s : State := st (ring (on) (desc 0x22 0 ([7, 23, 0, 0]))); let w : Nat := 0; let r : Nat := 0;
    let d : Desc := desc 0x22 0 ([7, 23, 0, 0]); let b := s.blk.pass w; let k := byteAt d.data 9; Ready b r d 0x22 ∧ byteAt d.data 8 = 7 ∧
    k < 24 ∧ (b.slotOf k).frozen = false)
  ∧ (let s : State := st (ring (slot on 4 { st := .qualified, frozen := true }) (desc 0x22 0 ([7, 0, 0, 0]))); let w : Nat := 0;
    let r : Nat := 0; let d : Desc := desc 0x22 0 ([7, 0, 0, 0]); let b := s.blk.pass w; let k := byteAt d.data 9; Ready b r d 0x22 ∧
    byteAt d.data 8 = 7 ∧ k < 24 ∧ (b.slotOf k).frozen = true) :=
  ⟨by decide +kernel, by decide +kernel, by decide +kernel, by decide +kernel, by decide +kernel, by decide +kernel, by decide +kernel, by decide +kernel, by decide +kernel, by decide +kernel, by decide +kernel, by decide +kernel, by decide +kernel, by decide +kernel, by decide +kernel, by decide +kernel, by decide +kernel, by decide +kernel, by decide +kernel, by decide +kernel, by decide +kernel, by decide +kernel, by decide +kernel, by decide +kernel⟩

/-- States and operands that meet the hypotheses of each clause of `Obligations.HeelHoldsAndLearns`. -/
theorem wit_HeelHoldsAndLearns :
  (let s : State := st { onIn .holdover with laster := { holdCheck := some (secU 1000) }, heel := { steering := true }, hold := { active := true, thUp := secU 1000 } };
    let w : Nat := 0; let b := s.blk.pass w; let h := secU 1000; b.laster.holdCheck = some h ∧ h ≤ b.ins.now ∧ b.heel.steering = true)
  ∧ (let s : State := st { on with laster := { holdCheck := some (secU 1000) } }; let w : Nat := 0; let b := s.blk.pass w; let h := secU 1000;
    b.laster.holdCheck = some h ∧ h ≤ b.ins.now ∧ b.heel.steering = false)
  ∧ (let s : State := st (wrs { on with heel := { src := 1, bad := 2 } } [(R.HLD_TEMP_CFG_SRC, 1)]); let w : Nat := 0; let ok : Bool := true;
    let t : Int := -14080; let b := s.blk.pass w; b.ins.running = true ∧ b.heel.src = b.rd R.HLD_TEMP_CFG_SRC ∧
    b.rd R.HLD_TEMP_CFG_SRC ≠ 0 ∧ ok = true ∧ tempGood t = true)
  ∧ (let s : State := st (wrs { on with heel := { src := 1, tempLost := true, good := 9 } } [(R.HLD_TEMP_CFG_SRC, 1)]); let w : Nat := 0;
    let ok : Bool := true; let t : Int := -14080; let b := s.blk.pass w; b.ins.running = true ∧ b.heel.src = b.rd R.HLD_TEMP_CFG_SRC ∧
    b.rd R.HLD_TEMP_CFG_SRC ≠ 0 ∧ ok = true ∧ tempGood t = true)
  ∧ (let s : State := st (wrs { on with heel := { src := 1, bad := 1 } } [(R.HLD_TEMP_CFG_SRC, 1)]); let w : Nat := 0; let ok : Bool := false;
    let t : Int := -14080; let b := s.blk.pass w; b.ins.running = true ∧ b.heel.src = b.rd R.HLD_TEMP_CFG_SRC ∧
    b.rd R.HLD_TEMP_CFG_SRC ≠ 0 ∧ (ok = false ∨ tempGood t = false) ∧ (b.heel.tempLost = true ∨ b.heel.bad < 2))
  ∧ (let s : State := st (wrs { on with heel := { src := 1, bad := 1 } } [(R.HLD_TEMP_CFG_SRC, 1)]); let w : Nat := 0; let ok : Bool := true;
    let t : Int := 32001; let b := s.blk.pass w; b.ins.running = true ∧ b.heel.src = b.rd R.HLD_TEMP_CFG_SRC ∧
    b.rd R.HLD_TEMP_CFG_SRC ≠ 0 ∧ (ok = false ∨ tempGood t = false) ∧ (b.heel.tempLost = true ∨ b.heel.bad < 2))
  ∧ (let s : State := st (wrs { on with heel := { src := 1, bad := 2 } } [(R.HLD_TEMP_CFG_SRC, 1)]); let w : Nat := 0; let ok : Bool := false;
    let t : Int := -14080; let b := s.blk.pass w; b.ins.running = true ∧ b.heel.src = b.rd R.HLD_TEMP_CFG_SRC ∧
    b.rd R.HLD_TEMP_CFG_SRC ≠ 0 ∧ (ok = false ∨ tempGood t = false) ∧ b.heel.tempLost = false ∧ 2 ≤ b.heel.bad)
  ∧ (let s : State := st on; let w : Nat := 0; let b := s.blk.pass w; b.heel.src = b.rd R.HLD_TEMP_CFG_SRC ∧
    (b.ins.running = false ∨ b.rd R.HLD_TEMP_CFG_SRC = 0))
  ∧ (let s : State := st (onIn .locked); let w : Nat := 0; let b := s.blk.pass w; b.learns = true)
  ∧ (let s : State := st on; let w : Nat := 0; let b := s.blk.pass w; b.learns = false) :=
  ⟨by decide +kernel, by decide +kernel, by decide +kernel, by decide +kernel, by decide +kernel, by decide +kernel, by decide +kernel, by decide +kernel, by decide +kernel, by decide +kernel⟩

/-- States and operands that meet the hypotheses of each clause of `Obligations.EdgesTimestamped`. -/
theorem wit_EdgesTimestamped :
  (let s : State := st on; let w : Nat := 0; let e : Nat := 0; let b := s.blk.pass w; b.eyeletPresent e = true ∧ b.eyeLive e = false)
  ∧ (let s : State := st { on with eyes := { tbPresent := true } }; let w : Nat := 0; let e : Nat := 15; let b := s.blk.pass w;
    b.eyeletPresent e = true ∧ b.eyeLive e = false)
  ∧ (let s : State := st (wrs (eye on 1 {}) [(R.PIN_ECOND_MINW 0, 1)]); let w : Nat := 0; let e : Nat := 0; let held : Nat := 0;
    let high : Bool := true; let b := s.blk.pass w; let x := b.eyeOf e; let act := high != b.flag (R.PIN_ECOND_POL e);
    b.eyeletPresent e = true ∧ b.eyeLive e = true ∧ act ≠ x.level ∧ b.narrow e held = true)
  ∧ (let s : State := st (eye on 1 {}); let w : Nat := 0; let e : Nat := 0; let held : Nat := 100; let high : Bool := true;
    let b := s.blk.pass w; let x := b.eyeOf e; let act := high != b.flag (R.PIN_ECOND_POL e); b.eyeletPresent e = true ∧
    b.eyeLive e = true ∧ act ≠ x.level ∧ b.narrow e held = false)
  ∧ (let s : State := st (wrs (eye on 2 {}) [(R.PIN_EMEAS_MEAS 0, 1)]); let w : Nat := 0; let e : Nat := 0; let held : Nat := 100;
    let high : Bool := true; let b := s.blk.pass w; let c := b.pairAll; let x := b.eyeOf e; let act := high != b.flag (R.PIN_ECOND_POL e);
    let y := b.stages4 e act b.up { c.eyeOf e with level := act, transAt := b.up }; b.eyeletPresent e = true ∧ b.eyeLive e = true ∧
    act ≠ x.level ∧ b.narrow e held = false ∧ b.eyeFn e ≠ 3 ∧ x.stuck = false ∧ y.2.1 = .admitted ∧ b.flow.waits = [])
  ∧ (let s : State := st (wrs (eye on 2 { holdEnd := secU 2001 }) [(R.PIN_EMEAS_MEAS 0, 1)]); let w : Nat := 0; let e : Nat := 0;
    let held : Nat := 100; let high : Bool := true; let b := s.blk.pass w; let c := b.pairAll; let x := b.eyeOf e;
    let act := high != b.flag (R.PIN_ECOND_POL e); let y := b.stages4 e act b.up { c.eyeOf e with level := act, transAt := b.up };
    b.eyeletPresent e = true ∧ b.eyeLive e = true ∧ act ≠ x.level ∧ b.narrow e held = false ∧ y.2.1 = .held ∧ x.stuck = false ∧
    b.flow.waits = [])
  ∧ (let s : State := st on; let w : Nat := 0; let n : Nat := on.rd R.PIN_BANK_LEVEL; let b := s.blk.pass w;
    let m := min 3 n == 3 || min 3 n != b.rd R.PIN_BANK_LEVEL; (m = false ∨ b.eyes.mismatch = true))
  ∧ (let s : State := st { on with eyes := { mismatch := true } }; let w : Nat := 0; let n : Nat := 3; let b := s.blk.pass w;
    let m := min 3 n == 3 || min 3 n != b.rd R.PIN_BANK_LEVEL; (m = false ∨ b.eyes.mismatch = true))
  ∧ (let s : State := st on; let w : Nat := 0; let n : Nat := 9; let b := s.blk.pass w;
    let m := min 3 n == 3 || min 3 n != b.rd R.PIN_BANK_LEVEL; m = true ∧ b.eyes.mismatch = false)
  ∧ (let s : State := st (wrs (eye on 2 { level := true, transAt := secU 2000 - msU 1 }) [(R.PIN_ESTUCK_STUCK_MS 0, 1)]); let w : Nat := 0;
    let e : Nat := 0; let b := s.blk.pass w; (b.stuckAt e).isSome = true)
  ∧ (let s : State := st (eye on 2 {}); let w : Nat := 0; let e : Nat := 0; let b := s.blk.pass w; b.stuckAt e = none)
  ∧ (let s : State := st (eye on 2 { chatter := true }); let w : Nat := 0; let e : Nat := 0; let b := s.blk.pass w; let x := b.eyeOf e;
    x.chatter = true ∧ x.sixAt + b.chatQuiet e ≤ b.up)
  ∧ (let s : State := st (eye on 2 { armed := some ⟨0, true, 0, 0, 0, 0⟩ }); let w : Nat := 0; let e : Nat := 0; let b := s.blk.pass w;
    let c := b.pairAll; let y := (⟨0, true, 0, 0, 0, 0⟩ : PairStamp); (c.eyeOf e).armed = some y ∧ y.upAt + b.pairMax e < b.up)
  ∧ (let s : State := st (wrs (eye on 2 {}) [(R.PIN_EMEAS_MEAS 0, 2)]); let w : Nat := 0; let e : Nat := 0; let b := s.blk.pass w;
    b.gateOver e = true ∧ b.eyeUsed e = true)
  ∧ (let s : State := st (eye on 2 {}); let w : Nat := 0; let e : Nat := 0; let b := s.blk.pass w; (b.gateOver e && b.eyeUsed e) = false)
  ∧ (let s : State := st (eye on 3 { cycLast := some 0 }); let w : Nat := 0; let e : Nat := 0; let b := s.blk.pass w; let x := b.eyeOf e;
    let l := (0 : Int); x.cycLast = some l ∧ b.eyeFn e = 3 ∧ b.ins.running = true ∧ b.laster.ents = [] ∧
    b.rd (R.LST_CYC_MISS_WIN e) * b.pEst e ≤ 16 * ((b.ins.now : Int) - b.ins.stepSum - l))
  ∧ (let s : State := st { on with rst := { oscin := false }, eyes := { tbPresent := true } }; let w : Nat := 0; let b := s.blk.pass w;
    b.eyes.tbPresent = true ∧ b.rst.oscin = false)
  ∧ (let s : State := st on; let w : Nat := 0; let b := s.blk.pass w; b.eyes.tbPresent = false ∧ b.boot.done = true)
  ∧ (let s : State := st (eye on 2 { queue := [⟨0, 0, 3, 0, 0, []⟩] }); let w : Nat := 0; let e : Nat := 0; let b := s.blk.pass w;
    let c := b.pairAll; let p := (⟨0, 0, 3, 0, 0, []⟩ : PinRec); let l := ([] : List PinRec); (c.eyeOf e).queue = p :: l ∧
    b.eyes.tbPresent = true ∧ b.rst.oscin = true ∧ b.ins.running = true ∧ p.tUp ≤ b.up)
  ∧ (let s : State := st { eye on 2 { queue := [⟨0, 0, 3, 0, 0, []⟩], lost := 2 } with evts := [(0, { running := true })] }; let w : Nat := 0;
    let e : Nat := 0; let b := s.blk.pass w; let c := b.pairAll; let p := (⟨0, 0, 3, 0, 0, []⟩ : PinRec); let l := ([] : List PinRec);
    (c.eyeOf e).queue = p :: l ∧ b.eyes.tbPresent = true ∧ b.rst.oscin = true ∧ b.ins.running = true ∧ p.tUp ≤ b.up) :=
  ⟨by decide +kernel, by decide +kernel, by decide +kernel, by decide +kernel, by decide +kernel, by decide +kernel, by decide +kernel, by decide +kernel, by decide +kernel, by decide +kernel, by decide +kernel, by decide +kernel, by decide +kernel, by decide +kernel, by decide +kernel, by decide +kernel, by decide +kernel, by decide +kernel, by decide +kernel, by decide +kernel⟩

/-- States and operands that meet the hypotheses of each clause of `Obligations.AwlCalibrates`. -/
theorem wit_AwlCalibrates :
  (let s : State := st (onIn .commission); let w : Nat := 0; let f : Nat := 0; let b := s.blk.pass w; b.setup f = true ∧
    b.mode = .commission ∧ b.eyes.rot = none ∧ b.ins.running = true)
  ∧ (let s : State := st on; let w : Nat := 0; let f : Nat := 0; let b := s.blk.pass w;
    (b.setup f = false ∨ b.mode ≠ .commission ∨ b.eyes.rot.isSome = true))
  ∧ (let s : State := st ({ onIn .commission with eyes := { tbPresent := true, rot := some ⟨0, 1⟩ } }); let w : Nat := 0; let f : Nat := 0;
    let b := s.blk.pass w; (b.setup f = false ∨ b.mode ≠ .commission ∨ b.eyes.rot.isSome = true))
  ∧ (let s : State := st { wrs on [(R.PIN_CAL_INT_MIN, 1), (R.PIN_CAL_AUTO, 1)] with eyes := { rotFrom := 0 } }; let w : Nat := 0;
    let tj : Int := 20; let b := s.blk.pass w; let c : Blk := { b with tj := tj }; c.calDue = true ∧ b.eyes.rot = none ∧
    b.ins.running = true)
  ∧ (let s : State := st (wrs on [(R.PIN_CAL_AUTO, 0)]); let w : Nat := 0; let tj : Int := 20; let b := s.blk.pass w;
    let c : Blk := { b with tj := tj }; c.calDue = false)
  ∧ (let s : State := st (ring (on) (desc 0x31 0 ([4]))); let w : Nat := 0; let r : Nat := 0; let d : Desc := desc 0x31 0 ([4]);
    let b := s.blk.pass w; Ready b r d 0x31 ∧ byteAt d.data 8 = 4 ∧ b.eyes.rot = none ∧ b.ins.running = true)
  ∧ (let s : State := st (ring ({ on with eyes := { tbPresent := true, rot := some ⟨0, 1⟩ } }) (desc 0x31 0 ([4]))); let w : Nat := 0;
    let r : Nat := 0; let d : Desc := desc 0x31 0 ([4]); let b := s.blk.pass w; Ready b r d 0x31 ∧ byteAt d.data 8 = 4 ∧
    b.eyes.rot.isSome = true)
  ∧ (let s : State := st on; let w : Nat := 0; let b := s.blk.pass w; b.eyes.rot = none)
  ∧ (let s : State := st ({ on with eyes := { tbPresent := true, rot := some ⟨15, 1⟩ } }); let w : Nat := 0; let diff : Nat := 1000;
    let edge : Bool := true; let b := s.blk.pass w; let c := (15 : Nat); b.eyes.rot = some ⟨c, 1⟩ ∧ (edge = false ∨ diff ≤ 1000))
  ∧ (let s : State := st ({ on with eyes := { tbPresent := true, rot := some ⟨16, 1⟩ } }); let w : Nat := 0; let diff : Nat := 0;
    let edge : Bool := false; let b := s.blk.pass w; let c := (16 : Nat); b.eyes.rot = some ⟨c, 1⟩ ∧ (edge = false ∨ diff ≤ 1000))
  ∧ (let s : State := st ({ on with eyes := { tbPresent := true, rot := some ⟨3, 1⟩ } }); let w : Nat := 0; let diff : Nat := 1001;
    let edge : Bool := true; let b := s.blk.pass w; let c := (3 : Nat); b.eyes.rot = some ⟨c, 1⟩ ∧ edge = true ∧ 1000 < diff)
  ∧ (let s : State := st ({ on with eyes := { tbPresent := true, rot := some ⟨15, 3⟩ } }); let w : Nat := 0; let b := s.blk.pass w;
    let c := (15 : Nat); b.eyes.rot = some ⟨c, 3⟩ ∧ c ≠ 16)
  ∧ (let s : State := st ({ on with eyes := { tbPresent := true, rot := some ⟨16, 3⟩ } }); let w : Nat := 0; let b := s.blk.pass w;
    b.eyes.rot = some ⟨16, 3⟩)
  ∧ (let s : State := st ({ on with eyes := { tbPresent := true, rot := some ⟨15, 4⟩ } }); let w : Nat := 0; let diff : Nat := 0;
    let edge : Bool := false; let b := s.blk.pass w; let c := (15 : Nat); b.eyes.rot = some ⟨c, 4⟩ ∧ (edge = false ∨ diff ≤ 1000)) :=
  ⟨by decide +kernel, by decide +kernel, by decide +kernel, by decide +kernel, by decide +kernel, by decide +kernel, by decide +kernel, by decide +kernel, by decide +kernel, by decide +kernel, by decide +kernel, by decide +kernel, by decide +kernel, by decide +kernel⟩

/-- States and operands that meet the hypotheses of each clause of `Obligations.FramesReceived`. -/
theorem wit_FramesReceived :
  (let s : State := st on; let w : Nat := 0; let p : Nat := 0; let b := s.blk.pass w; let up := b.portPresent p && (b.portOf p).link;
    up = false)
  ∧ (let s : State := st linked; let w : Nat := 0; let p : Nat := 31; let b := s.blk.pass w; let up := b.portPresent p && (b.portOf p).link;
    up = false)
  ∧ (let s : State := st linked; let w : Nat := 0; let p : Nat := 0; let bad : Bool := true; let b := s.blk.pass w;
    let up := b.portPresent p && (b.portOf p).link; up = true ∧ bad = true)
  ∧ (let s : State := st linked; let w : Nat := 0; let p : Nat := 0; let bs : Bytes := List.replicate 63 0; let bad : Bool := false;
    let b := s.blk.pass w; let up := b.portPresent p && (b.portOf p).link; up = true ∧ bad = false ∧ bs.length < 64)
  ∧ (let s : State := st (wrs linked [(R.PRT_MAXFRAME_MAXFRAME 0, 64)]); let w : Nat := 0; let p : Nat := 0;
    let bs : Bytes := List.replicate 65 0; let bad : Bool := false; let b := s.blk.pass w; let up := b.portPresent p && (b.portOf p).link;
    up = true ∧ bad = false ∧ 64 ≤ bs.length ∧ b.rd (R.PRT_MAXFRAME_MAXFRAME p) < bs.length)
  ∧ (let s : State := st linked; let w : Nat := 0; let p : Nat := 0; let bs : Bytes := List.replicate 64 0; let bad : Bool := false;
    let b := s.blk.pass w; let data := bs.take (bs.length - 4); let up := b.portPresent p && (b.portOf p).link; up = true ∧ bad = false ∧
    64 ≤ bs.length ∧ bs.length ≤ b.rd (R.PRT_MAXFRAME_MAXFRAME p) ∧ fcsOf data ≠ bs.drop (bs.length - 4))
  ∧ (let s : State := st linked; let w : Nat := 0; let p : Nat := 0; let bs : Bytes := frame nullMac 0x8808 []; let bad : Bool := false;
    let b := s.blk.pass w; let data := bs.take (bs.length - 4); let up := b.portPresent p && (b.portOf p).link;
    let l := layOf (b.tpid p) data; up = true ∧ bad = false ∧ 64 ≤ bs.length ∧ bs.length ≤ b.rd (R.PRT_MAXFRAME_MAXFRAME p) ∧
    fcsOf data = bs.drop (bs.length - 4) ∧ l.et = 0x8808)
  ∧ (let s : State := st linked; let w : Nat := 0; let p : Nat := 0; let bs : Bytes := frame nullMac 0x0800 []; let bad : Bool := false;
    let b := s.blk.pass w; let data := bs.take (bs.length - 4); let up := b.portPresent p && (b.portOf p).link;
    let l := layOf (b.tpid p) data; let sum := false; up = true ∧ bad = false ∧ 64 ≤ bs.length ∧
    bs.length ≤ b.rd (R.PRT_MAXFRAME_MAXFRAME p) ∧ fcsOf data = bs.drop (bs.length - 4) ∧ l.et ≠ 0x8808 ∧
    headerFault (b.tpid p) data = some sum)
  ∧ (let s : State := st { linked with rst := { units := [⟨1, 0, true⟩] } }; let w : Nat := 0; let p : Nat := 0;
    let bs : Bytes := frame nullMac 0x1234 []; let bad : Bool := false; let b := s.blk.pass w; let data := bs.take (bs.length - 4);
    let up := b.portPresent p && (b.portOf p).link; let l := layOf (b.tpid p) data; up = true ∧ bad = false ∧ 64 ≤ bs.length ∧
    bs.length ≤ b.rd (R.PRT_MAXFRAME_MAXFRAME p) ∧ fcsOf data = bs.drop (bs.length - 4) ∧ l.et ≠ 0x8808 ∧
    headerFault (b.tpid p) data = none ∧ b.benchUp (benchOfPort p) = false)
  ∧ (let s : State := st linked; let w : Nat := 0; let p : Nat := 0; let age : Nat := 0; let bs : Bytes := frame [2, 0, 0, 0, 0, 1] 0x1234 [];
    let var : Int := 0; let bad : Bool := false; let b := s.blk.pass w; let data := bs.take (bs.length - 4);
    let up := b.portPresent p && (b.portOf p).link; let x : RxF := { port := p, tRx := b.rxTime p age var, data := data };
    let l := layOf (b.tpid p) data; up = true ∧ bad = false ∧ 64 ≤ bs.length ∧ bs.length ≤ b.rd (R.PRT_MAXFRAME_MAXFRAME p) ∧
    fcsOf data = bs.drop (bs.length - 4) ∧ l.et ≠ 0x8808 ∧ headerFault (b.tpid p) data = none ∧ b.benchUp (benchOfPort p) = true ∧
    b.forUs x = false)
  ∧ (let s : State := st linked; let w : Nat := 0; let p : Nat := 0; let age : Nat := 0; let bs : Bytes := frame nullMac 0x1234 [];
    let var : Int := 0; let bad : Bool := false; let b := s.blk.pass w; let data := bs.take (bs.length - 4);
    let up := b.portPresent p && (b.portOf p).link; let x : RxF := { port := p, tRx := b.rxTime p age var, data := data };
    let l := layOf (b.tpid p) data; up = true ∧ bad = false ∧ 64 ≤ bs.length ∧ bs.length ≤ b.rd (R.PRT_MAXFRAME_MAXFRAME p) ∧
    fcsOf data = bs.drop (bs.length - 4) ∧ l.et ≠ 0x8808 ∧ headerFault (b.tpid p) data = none ∧ b.benchUp (benchOfPort p) = true ∧
    b.forUs x = true) :=
  ⟨by decide +kernel, by decide +kernel, by decide +kernel, by decide +kernel, by decide +kernel, by decide +kernel, by decide +kernel, by decide +kernel, by decide +kernel, by decide +kernel, by decide +kernel⟩

/-- States and operands that meet the hypotheses of each clause of `Obligations.PortsFollowTheirLines`. -/
theorem wit_PortsFollowTheirLines :
  (let s : State := st on; let w : Nat := 0; let p : Nat := 31; let b := s.blk.pass w; b.portPresent p = true)
  ∧ (let s : State := st linked; let w : Nat := 0; let p : Nat := 0; let b := s.blk.pass w; b.portPresent p = true)
  ∧ (let s : State := st on; let w : Nat := 0; let p : Nat := 32; let b := s.blk.pass w; b.portPresent p = false)
  ∧ (let s : State := st (port on { pauseEnd := secU 2000 + 1 }); let w : Nat := 0; let p : Nat := 0; let b := s.blk.pass w;
    b.paused p (b.serveTc p) = true)
  ∧ (let s : State := st { port on { pauseEnd := secU 2000 } with nts := { ctxs := [(5, { req := ⟨0, 0, [], 0, 0, 0, true, 0, 0, 0, false, false⟩, leaseEnd := 0, missed := some 2 })] } };
    let w : Nat := 0; let p : Nat := 0; let b := s.blk.pass w; b.paused p (b.serveTc p) = false)
  ∧ (let s : State := st (port on { pauseEnd := secU 2000, runFrom := [(8, 0)] }); let w : Nat := 0; let p : Nat := 0; let b := s.blk.pass w;
    b.stormDue p = true)
  ∧ (let s : State := st linked; let w : Nat := 0; let p : Nat := 0; let b := s.blk.pass w; b.stormDue p = false)
  ∧ (let s : State := st (port on { stormEnd := some (secU 2000) }); let w : Nat := 0; let p : Nat := 0; let b := s.blk.pass w;
    let q := b.portOf p; let e := secU 2000; q.stormEnd = some e ∧ e ≤ b.up)
  ∧ (let s : State := st (port on { stormEnd := some (secU 2000 + 1) }); let w : Nat := 0; let p : Nat := 0; let b := s.blk.pass w;
    let q := b.portOf p; let e := secU 2000 + 1; q.stormEnd = some e ∧ b.up < e)
  ∧ (let s : State := st (wrs linked [(R.RST_FEATURE_EN, 0x1FFF), (R.PRT_FEATURE_EN 0, 2 ^ featLpi), (R.PRT_CTRL_SPEED 0, 2), (R.PRT_LPI_TW_TX 0, 5)]);
    let w : Nat := 0; let p : Nat := 0; let b := s.blk.pass w; let q := b.portOf p; b.canSend p = true ∧ b.lpiOn p = true ∧ q.idle = true ∧
    (q.busyEnd : Int) ≤ b.tm ∧ q.idleFrom + usU (atLeast1 (b.rd (R.PRT_LPI_IDLE_US p))) ≤ b.up ∧
    b.launchWithin p (b.twTx p + usU 2) = false)
  ∧ (let s : State := st linked; let w : Nat := 0; let p : Nat := 0; let b := s.blk.pass w; let q := b.portOf p;
    (b.canSend p && b.lpiOn p && q.idle) = false)
  ∧ (let s : State := st (port on { lpiTx := true }); let w : Nat := 0; let p : Nat := 0; let b := s.blk.pass w; let q := b.portOf p;
    q.lpiTx = true ∧ (q.idle = false ∨ b.launchWithin p (b.twTx p + usU 1 + 1) = true ∨ b.lpiOn p = false))
  ∧ (let s : State := st linked; let w : Nat := 0; let p : Nat := 0; let b := s.blk.pass w; let q := b.portOf p; q.lpiTx = false)
  ∧ (let s : State := st (port on { qlTimeout := false, esmcAt := secU 1995 }); let w : Nat := 0; let p : Nat := 0; let b := s.blk.pass w;
    let q := b.portOf p; q.qlTimeout = false ∧ q.esmcAt + secU 5 ≤ b.up)
  ∧ (let s : State := st linked; let w : Nat := 0; let p : Nat := 0; let b := s.blk.pass w; let q := b.portOf p;
    (q.qlTimeout = true ∨ b.up < q.esmcAt + secU 5))
  ∧ (let s : State := st (port on { qlTimeout := false, esmcAt := secU 1995 + 1 }); let w : Nat := 0; let p : Nat := 0; let b := s.blk.pass w;
    let q := b.portOf p; (q.qlTimeout = true ∨ b.up < q.esmcAt + secU 5))
  ∧ (let s : State := st (wrs linked [(R.RST_FEATURE_EN, 0x1FFF), (R.PRT_FEATURE_EN 0, 2 ^ featSynceOut)]); let w : Nat := 0; let p : Nat := 0;
    let b := s.blk.pass w; let q := b.portOf p; let event := b.qlCode p != q.qlSent;
    let f := builtFrame p (b.rd (R.PRT_TXCTL_PTP_TC p)) .esmc (b.esmcFrame p (b.qlCode p) event);
    let due := b.pfeat p featSynceOut && q.link && !b.nearLoop p && (event || decide (q.esmcTxAt + secU 1 ≤ b.up)); due = true ∧
    b.egGrants p f.len = true)
  ∧ (let s : State := st (wrs (port on { qlSent := linked.qlCode 0, esmcTxAt := secU 1999 }) [(R.RST_FEATURE_EN, 0x1FFF), (R.PRT_FEATURE_EN 0, 2 ^ featSynceOut)]);
    let w : Nat := 0; let p : Nat := 0; let b := s.blk.pass w; let q := b.portOf p; let event := b.qlCode p != q.qlSent;
    let f := builtFrame p (b.rd (R.PRT_TXCTL_PTP_TC p)) .esmc (b.esmcFrame p (b.qlCode p) event);
    let due := b.pfeat p featSynceOut && q.link && !b.nearLoop p && (event || decide (q.esmcTxAt + secU 1 ≤ b.up)); due = true ∧
    b.egGrants p f.len = true)
  ∧ (let s : State := st linked; let w : Nat := 0; let p : Nat := 0; let b := s.blk.pass w; let q := b.portOf p;
    let event := b.qlCode p != q.qlSent; let f := builtFrame p (b.rd (R.PRT_TXCTL_PTP_TC p)) .esmc (b.esmcFrame p (b.qlCode p) event);
    let due := b.pfeat p featSynceOut && q.link && !b.nearLoop p && (event || decide (q.esmcTxAt + secU 1 ≤ b.up));
    (due = false ∨ b.egGrants p f.len = false)) :=
  ⟨by decide +kernel, by decide +kernel, by decide +kernel, by decide +kernel, by decide +kernel, by decide +kernel, by decide +kernel, by decide +kernel, by decide +kernel, by decide +kernel, by decide +kernel, by decide +kernel, by decide +kernel, by decide +kernel, by decide +kernel, by decide +kernel, by decide +kernel, by decide +kernel, by decide +kernel⟩

/-- States and operands that meet the hypotheses of each clause of `Obligations.GateListsAndLpiSet`. -/
theorem wit_GateListsAndLpiSet :
  (let s : State := st (port (onIn .commission) { image := [(0, 1), (4, 1000), (8, 255), (9, 1000)] }); let w : Nat := 0; let f : Nat := 0;
    let p : Nat := 0; let b := s.blk.pass w; let q := b.portOf p; let may := b.setup f && b.mode == .commission && b.portPresent p;
    let l := (⟨0, 1000, [(255, 1000)]⟩ : GateList); may = true ∧ gateImage (fun i => tget 0 q.image i) = some l)
  ∧ (let s : State := st (onIn .commission); let w : Nat := 0; let f : Nat := 0; let p : Nat := 31; let b := s.blk.pass w; let q := b.portOf p;
    let may := b.setup f && b.mode == .commission && b.portPresent p; may = true ∧ gateImage (fun i => tget 0 q.image i) = none)
  ∧ (let s : State := st on; let w : Nat := 0; let f : Nat := 0; let p : Nat := 0; let b := s.blk.pass w;
    let may := b.setup f && b.mode == .commission && b.portPresent p; may = false)
  ∧ (let s : State := st (onIn .commission); let w : Nat := 0; let f : Nat := 0; let p : Nat := 32; let b := s.blk.pass w;
    let may := b.setup f && b.mode == .commission && b.portPresent p; may = false)
  ∧ (let s : State := st (port (onIn .commission) { pend := some ((⟨0, 1000, [(255, 1000)]⟩ : GateList), 0, 0) }); let w : Nat := 0;
    let f : Nat := 0; let p : Nat := 0; let b := s.blk.pass w; let may := b.setup f && b.mode == .commission && b.portPresent p; may = true)
  ∧ (let s : State := st on; let w : Nat := 0; let f : Nat := 0; let p : Nat := 0; let b := s.blk.pass w; b.sesOpen f = true ∧
    b.portPresent p = true)
  ∧ (let s : State := st (wrs on [(R.PRT_GCL_ADDR_ADDR 0, 1023)]); let w : Nat := 0; let f : Nat := 0; let p : Nat := 0; let b := s.blk.pass w;
    b.sesOpen f = true ∧ b.portPresent p = true)
  ∧ (let s : State := st (wrs (onIn .commission) [(R.PRT_GCL_ADDR_ADDR 0, 519)]); let w : Nat := 0; let f : Nat := 0; let p : Nat := 0;
    let v : Nat := 7; let b := s.blk.pass w; let may := b.setup f && b.mode == .commission && b.portPresent p;
    let a := b.rd (R.PRT_GCL_ADDR_ADDR p); may = true ∧ a < 520 ∧ v < 0x100000000)
  ∧ (let s : State := st on; let w : Nat := 0; let f : Nat := 0; let p : Nat := 0; let b := s.blk.pass w;
    let a := b.rd (R.PRT_GCL_ADDR_ADDR p); b.setup f = true ∧ b.portPresent p = true ∧ (b.mode ≠ .commission ∨ 520 ≤ a))
  ∧ (let s : State := st (wrs (onIn .commission) [(R.PRT_GCL_ADDR_ADDR 0, 520)]); let w : Nat := 0; let f : Nat := 0; let p : Nat := 0;
    let b := s.blk.pass w; let a := b.rd (R.PRT_GCL_ADDR_ADDR p); b.setup f = true ∧ b.portPresent p = true ∧
    (b.mode ≠ .commission ∨ 520 ≤ a))
  ∧ (let s : State := st { on with ses := [] }; let w : Nat := 0; let f : Nat := 0; let p : Nat := 0; let b := s.blk.pass w;
    (b.setup f = false ∨ b.portPresent p = false))
  ∧ (let s : State := st (ring (on) (desc 0x31 0 ([2, 31, 0, 0] ++ leB 4 40 ++ List.replicate 8 0 ++ leB 2 0))); let w : Nat := 0;
    let p : Nat := 31; let r : Nat := 0; let img : Bytes := [];
    let d : Desc := desc 0x31 0 ([2, 31, 0, 0] ++ leB 4 40 ++ List.replicate 8 0 ++ leB 2 0); let b := s.blk.pass w;
    let x := gateImage fun i => leAt (sliceB img 0 (leAt d.data 12 4)) (4 * i) 4; Ready b r d 0x31 ∧ byteAt d.data 8 = 2 ∧
    byteAt d.data 9 = p ∧ p < 32 ∧ b.portPresent p = true ∧ x = none)
  ∧ (let s : State := st (ring (port on { pend := some ((⟨0, 1000, [(255, 1000)]⟩ : GateList), 0, 0) }) (desc 0x31 0 ([2, 0, 0, 0] ++ leB 4 40 ++ List.replicate 8 0 ++ leB 2 0)));
    let w : Nat := 0; let p : Nat := 0; let r : Nat := 0;
    let img : Bytes := (leB 4 1 ++ List.replicate 12 0 ++ leB 4 1000 ++ List.replicate 12 0 ++ leB 4 255 ++ leB 4 1000);
    let d : Desc := desc 0x31 0 ([2, 0, 0, 0] ++ leB 4 40 ++ List.replicate 8 0 ++ leB 2 0); let b := s.blk.pass w; let q := b.portOf p;
    let x := gateImage fun i => leAt (sliceB img 0 (leAt d.data 12 4)) (4 * i) 4; let l := (⟨0, 1000, [(255, 1000)]⟩ : GateList);
    Ready b r d 0x31 ∧ byteAt d.data 8 = 2 ∧ byteAt d.data 9 = p ∧ p < 32 ∧ b.portPresent p = true ∧ x = some l ∧ q.pend.isSome = true)
  ∧ (let s : State := st (ring (on) (desc 0x31 0 ([2, 0, 0, 0] ++ leB 4 40 ++ List.replicate 8 0 ++ leB 2 0))); let w : Nat := 0;
    let p : Nat := 0; let r : Nat := 0;
    let img : Bytes := (leB 4 1 ++ List.replicate 12 0 ++ leB 4 1000 ++ List.replicate 12 0 ++ leB 4 255 ++ leB 4 1000);
    let d : Desc := desc 0x31 0 ([2, 0, 0, 0] ++ leB 4 40 ++ List.replicate 8 0 ++ leB 2 0); let b := s.blk.pass w; let q := b.portOf p;
    let x := gateImage fun i => leAt (sliceB img 0 (leAt d.data 12 4)) (4 * i) 4; let l := (⟨0, 1000, [(255, 1000)]⟩ : GateList);
    Ready b r d 0x31 ∧ byteAt d.data 8 = 2 ∧ byteAt d.data 9 = p ∧ p < 32 ∧ b.portPresent p = true ∧ x = some l ∧ q.pend = none)
  ∧ (let s : State := st (ring (on) (desc 0x31 0 ([3, 32, 0, 0] ++ leB 4 40 ++ List.replicate 8 0 ++ leB 2 0))); let w : Nat := 0;
    let p : Nat := 32; let r : Nat := 0; let d : Desc := desc 0x31 0 ([3, 32, 0, 0] ++ leB 4 40 ++ List.replicate 8 0 ++ leB 2 0);
    let b := s.blk.pass w; Ready b r d 0x31 ∧ byteAt d.data 8 = 3 ∧ byteAt d.data 9 = p ∧ 32 ≤ p)
  ∧ (let s : State := st (ring ({ on with part := { variant := .kt820 } }) (desc 0x31 0 ([3, 31, 0, 0] ++ leB 4 40 ++ List.replicate 8 0 ++ leB 2 0)));
    let w : Nat := 0; let p : Nat := 31; let r : Nat := 0;
    let d : Desc := desc 0x31 0 ([3, 31, 0, 0] ++ leB 4 40 ++ List.replicate 8 0 ++ leB 2 0); let b := s.blk.pass w; Ready b r d 0x31 ∧
    byteAt d.data 8 = 3 ∧ byteAt d.data 9 = p ∧ p < 32 ∧ b.portPresent p = false)
  ∧ (let s : State := st (ring (on) (desc 0x31 0 ([3, 31, 0, 0] ++ leB 4 40 ++ List.replicate 8 0 ++ leB 2 0xFFFF))); let w : Nat := 0;
    let p : Nat := 31; let r : Nat := 0; let d : Desc := desc 0x31 0 ([3, 31, 0, 0] ++ leB 4 40 ++ List.replicate 8 0 ++ leB 2 0xFFFF);
    let b := s.blk.pass w; Ready b r d 0x31 ∧ byteAt d.data 8 = 3 ∧ byteAt d.data 9 = p ∧ p < 32 ∧ b.portPresent p = true) :=
  ⟨by decide +kernel, by decide +kernel, by decide +kernel, by decide +kernel, by decide +kernel, by decide +kernel, by decide +kernel, by decide +kernel, by decide +kernel, by decide +kernel, by decide +kernel, by decide +kernel, by decide +kernel, by decide +kernel, by decide +kernel, by decide +kernel, by decide +kernel⟩

/-- States and operands that meet the hypotheses of each clause of `Obligations.FramesSent`. -/
theorem wit_FramesSent :
  (let s : State := st (ring ({ on with part := { variant := .kt820 } }) (desc 0x01 0 (List.replicate 8 0 ++ leB 2 60 ++ leB 1 31 ++ leB 1 0 ++ [])));
    let w : Nat := 0; let r : Nat := 0; let data : Bytes := List.replicate 60 0;
    let d : Desc := desc 0x01 0 (List.replicate 8 0 ++ leB 2 60 ++ leB 1 31 ++ leB 1 0 ++ []); let b := s.blk.pass w;
    let o := byteAt d.data 18 % 32; Ready b r d 0x01 ∧ b.portPresent o = false)
  ∧ (let s : State := st (ring (linked) (desc 0x01 0 (List.replicate 8 0 ++ leB 2 60 ++ leB 1 0 ++ leB 1 32 ++ []))); let w : Nat := 0;
    let r : Nat := 0; let data : Bytes := List.replicate 60 0;
    let d : Desc := desc 0x01 0 (List.replicate 8 0 ++ leB 2 60 ++ leB 1 0 ++ leB 1 32 ++ []); let b := s.blk.pass w;
    let o := byteAt d.data 18 % 32; Ready b r d 0x01 ∧ b.portPresent o = true ∧ launchTime b.ins.now d.data = none)
  ∧ (let s : State := st (ring (linked) (desc 0x01 0 (List.replicate 8 0 ++ leB 2 9215 ++ leB 1 0 ++ leB 1 0 ++ []))); let w : Nat := 0;
    let r : Nat := 0; let data : Bytes := List.replicate 60 0;
    let d : Desc := desc 0x01 0 (List.replicate 8 0 ++ leB 2 9215 ++ leB 1 0 ++ leB 1 0 ++ []); let b := s.blk.pass w;
    let o := byteAt d.data 18 % 32; let n := leAt d.data 16 2; let L := none; Ready b r d 0x01 ∧ b.portPresent o = true ∧
    launchTime b.ins.now d.data = some L ∧ b.rd (R.PRT_MAXFRAME_MAXFRAME o) < n + 4)
  ∧ (let s : State := st (ring (linked) (desc 0x01 0 (List.replicate 8 0 ++ leB 2 13 ++ leB 1 0 ++ leB 1 0 ++ []))); let w : Nat := 0;
    let r : Nat := 0; let data : Bytes := List.replicate 60 0;
    let d : Desc := desc 0x01 0 (List.replicate 8 0 ++ leB 2 13 ++ leB 1 0 ++ leB 1 0 ++ []); let b := s.blk.pass w;
    let o := byteAt d.data 18 % 32; let n := leAt d.data 16 2; let L := none; Ready b r d 0x01 ∧ b.portPresent o = true ∧
    launchTime b.ins.now d.data = some L ∧ n + 4 ≤ b.rd (R.PRT_MAXFRAME_MAXFRAME o) ∧ (n < 14 ∨ n < 60 ∧
    b.flag (R.PRT_TXCTL_PAD o) = false))
  ∧ (let s : State := st (ring (wrs linked [(R.PRT_TXCTL_PAD 0, 0)]) (desc 0x01 0 (List.replicate 8 0 ++ leB 2 59 ++ leB 1 0 ++ leB 1 0 ++ [])));
    let w : Nat := 0; let r : Nat := 0; let data : Bytes := List.replicate 60 0;
    let d : Desc := desc 0x01 0 (List.replicate 8 0 ++ leB 2 59 ++ leB 1 0 ++ leB 1 0 ++ []); let b := s.blk.pass w;
    let o := byteAt d.data 18 % 32; let n := leAt d.data 16 2; let L := none; Ready b r d 0x01 ∧ b.portPresent o = true ∧
    launchTime b.ins.now d.data = some L ∧ n + 4 ≤ b.rd (R.PRT_MAXFRAME_MAXFRAME o) ∧ (n < 14 ∨ n < 60 ∧
    b.flag (R.PRT_TXCTL_PAD o) = false))
  ∧ (let s : State := st (ring (linked) (desc 0x01 0 (List.replicate 8 0 ++ leB 2 60 ++ leB 1 0 ++ leB 1 8 ++ []))); let w : Nat := 0;
    let r : Nat := 0; let data : Bytes := List.replicate 60 0;
    let d : Desc := desc 0x01 0 (List.replicate 8 0 ++ leB 2 60 ++ leB 1 0 ++ leB 1 8 ++ []); let b := s.blk.pass w;
    let o := byteAt d.data 18 % 32; let n := leAt d.data 16 2; let bs := sliceB data 0 n; let fl := byteAt d.data 19; let L := none;
    Ready b r d 0x01 ∧ b.portPresent o = true ∧ launchTime b.ins.now d.data = some L ∧ n + 4 ≤ b.rd (R.PRT_MAXFRAME_MAXFRAME o) ∧ 14 ≤ n ∧
    (60 ≤ n ∨ b.flag (R.PRT_TXCTL_PAD o) = true) ∧ csumOk (b.tpid o) (bitOf fl 3) (bitOf fl 4) bs = false)
  ∧ (let s : State := st (ring (on) (desc 0x01 0 (List.replicate 8 0 ++ leB 2 60 ++ leB 1 0 ++ leB 1 0 ++ []))); let w : Nat := 0;
    let r : Nat := 0; let data : Bytes := List.replicate 60 0;
    let d : Desc := desc 0x01 0 (List.replicate 8 0 ++ leB 2 60 ++ leB 1 0 ++ leB 1 0 ++ []); let b := s.blk.pass w;
    let o := byteAt d.data 18 % 32; let n := leAt d.data 16 2; let bs := sliceB data 0 n; let fl := byteAt d.data 19; let L := none;
    Ready b r d 0x01 ∧ b.portPresent o = true ∧ launchTime b.ins.now d.data = some L ∧ n + 4 ≤ b.rd (R.PRT_MAXFRAME_MAXFRAME o) ∧ 14 ≤ n ∧
    (60 ≤ n ∨ b.flag (R.PRT_TXCTL_PAD o) = true) ∧ csumOk (b.tpid o) (bitOf fl 3) (bitOf fl 4) bs = true)
  ∧ (let s : State := st (ring (wrs linked [(R.PRT_TXCTL_PAD 0, 1)]) (desc 0x01 0 (List.replicate 8 0 ++ leB 2 14 ++ leB 1 0 ++ leB 1 0 ++ [])));
    let w : Nat := 0; let r : Nat := 0; let data : Bytes := List.replicate 60 0;
    let d : Desc := desc 0x01 0 (List.replicate 8 0 ++ leB 2 14 ++ leB 1 0 ++ leB 1 0 ++ []); let b := s.blk.pass w;
    let o := byteAt d.data 18 % 32; let n := leAt d.data 16 2; let bs := sliceB data 0 n; let fl := byteAt d.data 19; let L := none;
    let f := b.txFrameOf ⟨r, d.id⟩ d.data bs L; Ready b r d 0x01 ∧ b.portPresent o = true ∧ launchTime b.ins.now d.data = some L ∧
    n + 4 ≤ b.rd (R.PRT_MAXFRAME_MAXFRAME o) ∧ 14 ≤ n ∧ (60 ≤ n ∨ b.flag (R.PRT_TXCTL_PAD o) = true) ∧
    csumOk (b.tpid o) (bitOf fl 3) (bitOf fl 4) bs = true ∧ L = none ∧ (b.portOf o).link = true ∧ b.egFits o f.eg = true ∧
    b.egClaimed o = false)
  ∧ (let s : State := st (ring ({ linked with flow := { egUsed := [(0, 1000000)] } }) (desc 0x01 0 (List.replicate 8 0 ++ leB 2 60 ++ leB 1 0 ++ leB 1 0 ++ [])));
    let w : Nat := 0; let r : Nat := 0; let data : Bytes := List.replicate 60 0;
    let d : Desc := desc 0x01 0 (List.replicate 8 0 ++ leB 2 60 ++ leB 1 0 ++ leB 1 0 ++ []); let b := s.blk.pass w;
    let o := byteAt d.data 18 % 32; let n := leAt d.data 16 2; let bs := sliceB data 0 n; let fl := byteAt d.data 19; let L := none;
    let f := b.txFrameOf ⟨r, d.id⟩ d.data bs L; Ready b r d 0x01 ∧ b.portPresent o = true ∧ launchTime b.ins.now d.data = some L ∧
    n + 4 ≤ b.rd (R.PRT_MAXFRAME_MAXFRAME o) ∧ 14 ≤ n ∧ (60 ≤ n ∨ b.flag (R.PRT_TXCTL_PAD o) = true) ∧
    csumOk (b.tpid o) (bitOf fl 3) (bitOf fl 4) bs = true ∧ L = none ∧ (b.portOf o).link = true ∧ b.egFits o f.eg = false ∧
    b.escalated r 1 = false)
  ∧ (let s : State := st (ring { on with flow := { done := [(⟨0, 0⟩, stOk, [])] } } (desc 1 0 [])); let w : Nat := 0; let b := s.blk.pass w;
    let x := ((⟨0, 0⟩, stOk, []) : DRef × Nat × Bytes); let l := ([] : List (DRef × Nat × Bytes)); b.flow.done = x :: l)
  ∧ (let s : State := st on; let w : Nat := 0; let b := s.blk.pass w; b.flow.done = [])
  ∧ (let s : State := st on; let w : Nat := 0; let p : Nat := 0; let b := s.blk.pass w; b.canSend p = false)
  ∧ (let s : State := st (port on { commit := some (tx, tx, 0) }); let w : Nat := 0; let p : Nat := 0; let b := s.blk.pass w; let g := tx;
    let f := tx; let at_ := (0 : Int); b.canSend p = true ∧ (b.portOf p).commit = some (g, f, at_) ∧ b.paused f.port f.cls = false ∧
    at_ ≤ b.tm)
  ∧ (let s : State := st early; let w : Nat := 0; let p : Nat := 0; let b := s.blk.pass w; let y := b.dropNoFit p (b.portOf p).queue.length;
    let f := tx; b.canSend p = true ∧ (b.portOf p).commit = none ∧ y.chooseAt p (b.launchPoint p (b.ins.now + b.wireU p 8)) = some f)
  ∧ (let s : State := st early; let w : Nat := 0; let p : Nat := 0; let b := s.blk.pass w; let y := b.dropNoFit p (b.portOf p).queue.length;
    let f := tx; b.canSend p = true ∧ (b.portOf p).commit = none ∧ y.chooseAt p (b.launchPoint p (b.ins.now + nsU 160)) = some f)
  ∧ (let s : State := st (port on { queue := [{ tx with heldFrom := 0 }] }); let w : Nat := 0; let b := s.blk.pass w; b.flow.waits = [])
  ∧ (let s : State := st (port on { queue := [tx] }); let w : Nat := 0; let data : Bytes := List.replicate 60 0; let d : Desc := desc 0 0 [];
    let b := s.blk.pass w; let o := byteAt d.data 18 % 32; (∀ o f, o < 32 → f ∈ b.portFrames o → b.egExpired f = false)) :=
  ⟨by decide +kernel, by decide +kernel, by decide +kernel, by decide +kernel, by decide +kernel, by decide +kernel, by decide +kernel, by decide +kernel, by decide +kernel, by decide +kernel, by decide +kernel, by decide +kernel, by decide +kernel, by exact ⟨by decide +kernel, by decide +kernel, early_chooses _⟩, by exact ⟨by decide +kernel, by decide +kernel, early_chooses _⟩, by decide +kernel, by exact each_port (by decide +kernel)⟩

/-- States and operands that meet the hypotheses of each clause of `Obligations.RequestsDispatched`. -/
theorem wit_RequestsDispatched :
  (let s : State := st { onIn .locked with nts := { ctxs := [(3, ({ req := { req with nts := true }, leaseEnd := secU 2000, ready := some 0 } : Ctx))] } };
    let w : Nat := 0; let b := s.blk.pass w; let k := (3 : Nat);
    let x := ({ req := { req with nts := true }, leaseEnd := secU 2000, ready := some 0 } : Ctx); let l := (0 : Nat);
    b.resealNext = some (k, x, l))
  ∧ (let s : State := st { port (onIn .locked) {} with clk := { reqs := [req] } }; let w : Nat := 0; let b := s.blk.pass w;
    let heads := (reqHeads b.clk.reqs).filter fun r => decide (b.leaseNow < b.ageEnd r); let r := req; let rest := ([] : List Req);
    let g := (b.reqReserve req).1; let r1 := { req with eg := 128 }; let i := (0 : Nat); let l := (0 : Nat); b.resealNext = none ∧
    heads = r :: rest ∧ b.reqReserve r = (g, some r1) ∧ g.pickBench r1 = some i ∧ g.nextLane i = some l)
  ∧ (let s : State := st { on with clk := { reqs := [{ req with t2Up := 0 }] } }; let w : Nat := 0; let b := s.blk.pass w;
    let heads := (reqHeads b.clk.reqs).filter fun r => decide (b.leaseNow < b.ageEnd r); b.resealNext = none ∧ heads = [])
  ∧ (let s : State := st { on with clk := { reqs := [req] } }; let w : Nat := 0; let b := s.blk.pass w;
    (∀ r ∈ b.clk.reqs, b.leaseNow < b.ageEnd r))
  ∧ (let s : State := st on; let w : Nat := 0; let b := s.blk.pass w; b.epochNo ≠ b.clk.epoch)
  ∧ (let s : State := st { on with clk := { epoch := secU 2000 / usU 10 - 1, offered := [(0, 9)] } }; let w : Nat := 0; let b := s.blk.pass w;
    b.epochNo ≠ b.clk.epoch)
  ∧ (let s : State := st { on with clk := { epoch := secU 2000 / usU 10 } }; let w : Nat := 0; let b := s.blk.pass w; b.epochNo = b.clk.epoch)
  ∧ (let s : State := st { ring (wrs on [(R.CLK_EXC_RING, 0)]) { desc 2 0 (leB 8 0x1000 ++ leB 2 64) with begun := true } with clk := { exc := [⟨0, 0, 0, 12, List.replicate 64 1, false⟩] } };
    let w : Nat := 0; let b := s.blk.pass w; let e := (⟨0, 0, 0, 12, List.replicate 64 1, false⟩ : ExcF); let rest := ([] : List ExcF);
    let d := { desc 2 0 (leB 8 0x1000 ++ leB 2 64) with begun := true }; let more := ([] : List Desc); b.clk.exc = e :: rest ∧
    b.rxBufs = d :: more)
  ∧ (let s : State := st on; let w : Nat := 0; let b := s.blk.pass w; (b.clk.exc = [] ∨ b.rxBufs = [])) :=
  ⟨by decide +kernel, by decide +kernel, by decide +kernel, by decide +kernel, by decide +kernel, by decide +kernel, by decide +kernel, by decide +kernel, by decide +kernel⟩

/-- States and operands that meet the hypotheses of each clause of `Obligations.InvocationsRun`. -/
theorem wit_InvocationsRun :
  (let s : State := st (inv { inv0 with entry := 6 }); let w : Nat := 0; let lane : Nat := 5; let v : Inv := { inv0 with entry := 6 };
    let b := s.blk.pass w; let has := bitOf (b.setOf (lane / 64)).entries v.entry; b.invAt? lane = some v ∧ v.started = false ∧
    v.lockWait = false ∧ has = false)
  ∧ (let s : State := st (inv { inv0 with entry := 1 }); let w : Nat := 0; let lane : Nat := 5; let v : Inv := { inv0 with entry := 1 };
    let b := s.blk.pass w; let has := bitOf (b.setOf (lane / 64)).entries v.entry; b.invAt? lane = some v ∧ v.started = false ∧
    v.lockWait = false ∧ has = true ∧ v.entry ≠ 2)
  ∧ (let s : State := st { onIn .locked with eng := { invs := [(5, { inv0 with entry := 2, ctx := some 3 })] }, nts := { ctxs := [(3, ({ req := { req with nts := true }, leaseEnd := secU 2000, ready := some 0 } : Ctx))] } };
    let w : Nat := 0; let lane : Nat := 5; let v : Inv := { inv0 with entry := 2, ctx := some 3 }; let b := s.blk.pass w;
    let has := bitOf (b.setOf (lane / 64)).entries v.entry; let k := (3 : Nat);
    let x := ({ req := { req with nts := true }, leaseEnd := secU 2000, ready := some 0 } : Ctx); b.invAt? lane = some v ∧
    v.started = false ∧ v.lockWait = false ∧ has = true ∧ v.entry = 2 ∧ v.ctx = some k ∧ b.ctxAt? k = some x ∧
    b.servesNtp (b.nearLoop v.req.port) = true)
  ∧ (let s : State := st (inv { inv0 with started := true }); let w : Nat := 0; let lane : Nat := 5;
    let v : Inv := { inv0 with started := true }; let b := s.blk.pass w; b.invAt? lane = some v ∧ (v.started = true ∨ v.lockWait = true))
  ∧ (let s : State := st (inv { inv0 with lockWait := true }); let w : Nat := 0; let lane : Nat := 5;
    let v : Inv := { inv0 with lockWait := true }; let b := s.blk.pass w; b.invAt? lane = some v ∧ (v.started = true ∨ v.lockWait = true))
  ∧ (let s : State := st (inv { inv0 with started := true, storeWait := true }); let w : Nat := 0; let lane : Nat := 5;
    let v : Inv := { inv0 with started := true, storeWait := true }; let b := s.blk.pass w; b.invAt? lane = some v ∧ v.storeWait = true)
  ∧ (let s : State := st (inv { inv0 with started := true }); let w : Nat := 0; let lane : Nat := 5;
    let v : Inv := { inv0 with started := true }; let b := s.blk.pass w; b.invAt? lane = some v ∧ v.storeWait = false)
  ∧ (let s : State := st (inv { inv0 with started := true, plan := some .serve }); let w : Nat := 0; let lane : Nat := 5; let code : Nat := 0;
    let v : Inv := { inv0 with started := true, plan := some .serve }; let b := s.blk.pass w; let p := .serve; b.invAt? lane = some v ∧
    v.started = true ∧ v.self = false ∧ planned code = true ∧ v.plan = some p)
  ∧ (let s : State := st (inv { inv0 with started := true }); let w : Nat := 0; let lane : Nat := 5; let code : Nat := 0x20;
    let v : Inv := { inv0 with started := true }; let b := s.blk.pass w; b.invAt? lane = some v ∧ v.started = true ∧ v.self = false ∧
    code = 0x20)
  ∧ (let s : State := st (inv { inv0 with started := true }); let w : Nat := 0; let lane : Nat := 5; let code : Nat := 0xFF;
    let v : Inv := { inv0 with started := true }; let b := s.blk.pass w; b.invAt? lane = some v ∧ v.started = true ∧ v.self = false ∧
    planned code = false ∧ code ≠ 0x20)
  ∧ (let s : State := st (inv { inv0 with started := true }); let w : Nat := 0; let lane : Nat := 5; let instr : Nat := 4096;
    let v : Inv := { inv0 with started := true }; let b := s.blk.pass w; b.invAt? lane = some v ∧ v.started = true ∧ v.self = false ∧
    v.entry ≠ 2 ∧ clampN 256 4095 (b.rd R.ENG_CTRL_LIMIT) < instr)
  ∧ (let s : State := st (inv { inv0 with started := true }); let w : Nat := 0; let lane : Nat := 5; let instr : Nat := 256;
    let v : Inv := { inv0 with started := true }; let b := s.blk.pass w; b.invAt? lane = some v ∧
    instr ≤ clampN 256 4095 (b.rd R.ENG_CTRL_LIMIT))
  ∧ (let s : State := st { inv { inv0 with bucket := some 9, lockFrom := secU 2000 - usU 4 } with ct := { locks := [(9, 5)] } };
    let w : Nat := 0; let lane : Nat := 5; let v : Inv := { inv0 with bucket := some 9, lockFrom := secU 2000 - usU 4 };
    let b := s.blk.pass w; let k := (9 : Nat); b.invAt? lane = some v ∧ v.bucket = some k ∧ b.lockHolder k = some lane ∧
    v.lockFrom + usU 4 ≤ b.leaseNow)
  ∧ (let s : State := st (inv { inv0 with started := true }); let w : Nat := 0; let lane : Nat := 5;
    let v : Inv := { inv0 with started := true }; let b := s.blk.pass w; b.invAt? lane = some v ∧ v.bucket = none)
  ∧ (let s : State := st (inv { inv0 with started := true, storeWait := true, startUp := secU 1 }); let w : Nat := 0; let lane : Nat := 5;
    let v : Inv := { inv0 with started := true, storeWait := true, startUp := secU 1 }; let b := s.blk.pass w; b.invAt? lane = some v ∧
    v.started = true ∧ v.storeWait = true ∧ v.startUp + usU (atLeast1 (b.rd R.FLC_LIMIT_STORE_TMO_US)) ≤ b.leaseNow) :=
  ⟨by decide +kernel, by decide +kernel, by decide +kernel, by decide +kernel, by decide +kernel, by decide +kernel, by decide +kernel, by decide +kernel, by decide +kernel, by decide +kernel, by decide +kernel, by decide +kernel, by decide +kernel, by decide +kernel, by decide +kernel⟩

/-- States and operands that meet the hypotheses of each clause of `Obligations.ClientTableOperations`. -/
theorem wit_ClientTableOperations :
  (let s : State := st (ring (on) (desc 0x30 0 ([1, 1, 31]))); let w : Nat := 0; let r : Nat := 0; let d : Desc := desc 0x30 0 ([1, 1, 31]);
    let b := s.blk.pass w; Ready b r d 0x30 ∧ b.desc? ⟨r, d.id⟩ = some d ∧ subOp d.data = 1 ∧ ctBad d.data = true)
  ∧ (let s : State := st (ring (onIn .follower) (desc 0x30 0 (ctOp 2))); let w : Nat := 0; let r : Nat := 0;
    let d : Desc := desc 0x30 0 (ctOp 2); let b := s.blk.pass w; Ready b r d 0x30 ∧ b.desc? ⟨r, d.id⟩ = some d ∧ subOp d.data = 2 ∧
    b.mode = .follower ∧ ctBad d.data = false)
  ∧ (let s : State := st (ring (tabled {}) (desc 0x30 0 (ctOp 1))); let w : Nat := 0; let r : Nat := 0; let d : Desc := desc 0x30 0 (ctOp 1);
    let b := s.blk.pass w; let k := ctOpKey d.data; let at_ := b.bucketOf k.2; let bkt := b.bucketAt at_; let i := 0; Ready b r d 0x30 ∧
    b.desc? ⟨r, d.id⟩ = some d ∧ ctBad d.data = false ∧ b.ctDenied d.data = false ∧ b.lockHolder at_ = none ∧ subOp d.data = 1 ∧
    findRow bkt k.1 k.2 = some i)
  ∧ (let s : State := st (ring (on) (desc 0x30 0 (ctOp 1))); let w : Nat := 0; let r : Nat := 0; let d : Desc := desc 0x30 0 (ctOp 1);
    let b := s.blk.pass w; let k := ctOpKey d.data; let at_ := b.bucketOf k.2; let bkt := b.bucketAt at_; Ready b r d 0x30 ∧
    b.desc? ⟨r, d.id⟩ = some d ∧ ctBad d.data = false ∧ b.ctDenied d.data = false ∧ b.lockHolder at_ = none ∧ subOp d.data = 1 ∧
    findRow bkt k.1 k.2 = none)
  ∧ (let s : State := st (ring (tabled {}) (desc 0x30 0 (ctOp 2))); let w : Nat := 0; let r : Nat := 0; let d : Desc := desc 0x30 0 (ctOp 2);
    let b := s.blk.pass w; let k := ctOpKey d.data; let at_ := b.bucketOf k.2; let bkt := b.bucketAt at_; let i := 0; Ready b r d 0x30 ∧
    b.desc? ⟨r, d.id⟩ = some d ∧ ctBad d.data = false ∧ b.ctDenied d.data = false ∧ b.lockHolder at_ = none ∧ subOp d.data = 2 ∧
    findRow bkt k.1 k.2 = some i)
  ∧ (let s : State := st (ring ({ on with ct := { rows := [(on.bucketOf cli, { r0 := { valid := true, pinned := true }, r1 := { valid := true, pinned := true } })] } }) (desc 0x30 0 (ctOp 2)));
    let w : Nat := 0; let r : Nat := 0; let d : Desc := desc 0x30 0 (ctOp 2); let b := s.blk.pass w; let k := ctOpKey d.data;
    let at_ := b.bucketOf k.2; let bkt := b.bucketAt at_; let now := now16 b.ins.now; Ready b r d 0x30 ∧ b.desc? ⟨r, d.id⟩ = some d ∧
    ctBad d.data = false ∧ b.ctDenied d.data = false ∧ b.lockHolder at_ = none ∧ subOp d.data = 2 ∧ findRow bkt k.1 k.2 = none ∧
    victim bkt now = none)
  ∧ (let s : State := st (ring (on) (desc 0x30 0 (ctOp 2))); let w : Nat := 0; let r : Nat := 0; let d : Desc := desc 0x30 0 (ctOp 2);
    let b := s.blk.pass w; let k := ctOpKey d.data; let at_ := b.bucketOf k.2; let bkt := b.bucketAt at_; let now := now16 b.ins.now;
    let i := 0; Ready b r d 0x30 ∧ b.desc? ⟨r, d.id⟩ = some d ∧ ctBad d.data = false ∧ b.ctDenied d.data = false ∧
    b.lockHolder at_ = none ∧ subOp d.data = 2 ∧ findRow bkt k.1 k.2 = none ∧ victim bkt now = some i)
  ∧ (let s : State := st (ring ({ on with ct := { rows := [(on.bucketOf cli, { r0 := { valid := true, pinned := true }, r1 := { valid := true } })] } }) (desc 0x30 0 (ctOp 2)));
    let w : Nat := 0; let r : Nat := 0; let d : Desc := desc 0x30 0 (ctOp 2); let b := s.blk.pass w; let k := ctOpKey d.data;
    let at_ := b.bucketOf k.2; let bkt := b.bucketAt at_; let now := now16 b.ins.now; let i := 1; Ready b r d 0x30 ∧
    b.desc? ⟨r, d.id⟩ = some d ∧ ctBad d.data = false ∧ b.ctDenied d.data = false ∧ b.lockHolder at_ = none ∧ subOp d.data = 2 ∧
    findRow bkt k.1 k.2 = none ∧ victim bkt now = some i)
  ∧ (let s : State := st (ring (tabled {}) (desc 0x30 0 (ctOp 3))); let w : Nat := 0; let r : Nat := 0; let d : Desc := desc 0x30 0 (ctOp 3);
    let b := s.blk.pass w; let k := ctOpKey d.data; let at_ := b.bucketOf k.2; let bkt := b.bucketAt at_; let i := (0 : Nat);
    Ready b r d 0x30 ∧ b.desc? ⟨r, d.id⟩ = some d ∧ ctBad d.data = false ∧ b.ctDenied d.data = false ∧ b.lockHolder at_ = none ∧
    subOp d.data = 3 ∧ findRow bkt k.1 k.2 = some i)
  ∧ (let s : State := st (ring (on) (desc 0x30 0 (ctOp 3))); let w : Nat := 0; let r : Nat := 0; let d : Desc := desc 0x30 0 (ctOp 3);
    let b := s.blk.pass w; let k := ctOpKey d.data; let at_ := b.bucketOf k.2; let bkt := b.bucketAt at_; Ready b r d 0x30 ∧
    b.desc? ⟨r, d.id⟩ = some d ∧ ctBad d.data = false ∧ b.ctDenied d.data = false ∧ b.lockHolder at_ = none ∧ subOp d.data = 3 ∧
    findRow bkt k.1 k.2 = none)
  ∧ (let s : State := st (ring (tabled { served := 4 }) (desc 0x30 0 (ctOp 4))); let w : Nat := 0; let r : Nat := 0;
    let d : Desc := desc 0x30 0 (ctOp 4); let b := s.blk.pass w; let k := ctOpKey d.data; let at_ := b.bucketOf k.2;
    let bkt := b.bucketAt at_; let i := (0 : Nat); Ready b r d 0x30 ∧ b.desc? ⟨r, d.id⟩ = some d ∧ ctBad d.data = false ∧
    b.ctDenied d.data = false ∧ b.lockHolder at_ = none ∧ subOp d.data = 4 ∧ findRow bkt k.1 k.2 = some i)
  ∧ (let s : State := st (ring (on) (desc 0x30 0 (ctOp 4))); let w : Nat := 0; let r : Nat := 0; let d : Desc := desc 0x30 0 (ctOp 4);
    let b := s.blk.pass w; let k := ctOpKey d.data; let at_ := b.bucketOf k.2; let bkt := b.bucketAt at_; Ready b r d 0x30 ∧
    b.desc? ⟨r, d.id⟩ = some d ∧ ctBad d.data = false ∧ b.ctDenied d.data = false ∧ b.lockHolder at_ = none ∧ subOp d.data = 4 ∧
    findRow bkt k.1 k.2 = none)
  ∧ (let s : State := st (ring ({ on with ct := { locks := [(on.bucketOf cli, 5)] } }) (desc 0x30 0 (ctOp 1))); let w : Nat := 0;
    let r : Nat := 0; let d : Desc := desc 0x30 0 (ctOp 1); let b := s.blk.pass w; let k := ctOpKey d.data; let at_ := b.bucketOf k.2;
    let h := (5 : Nat); Ready b r d 0x30 ∧ b.desc? ⟨r, d.id⟩ = some d ∧ subOp d.data = 1 ∧ ctBad d.data = false ∧
    b.lockHolder at_ = some h ∧ b.escalated r 0x30 = false) :=
  ⟨by decide +kernel, by decide +kernel, by decide +kernel, by decide +kernel, by decide +kernel, by decide +kernel, by decide +kernel, by decide +kernel, by decide +kernel, by decide +kernel, by decide +kernel, by decide +kernel, by decide +kernel⟩

/-- States and operands that meet the hypotheses of each clause of `Obligations.TableScansAndPolicies`. -/
theorem wit_TableScansAndPolicies :
  (let s : State := st (ring (onIn .follower) (desc 0x30 0 (ctOp 5))); let w : Nat := 0; let r : Nat := 0;
    let d : Desc := desc 0x30 0 (ctOp 5); let b := s.blk.pass w; Ready b r d 0x30 ∧ subOp d.data = 5 ∧ b.mode = .follower)
  ∧ (let s : State := st (ring ({ on with ct := { (tabled {}).ct with flushBusy := true } }) (desc 0x30 0 (ctOp 5))); let w : Nat := 0;
    let r : Nat := 0; let d : Desc := desc 0x30 0 (ctOp 5); let b := s.blk.pass w; Ready b r d 0x30 ∧ subOp d.data = 5 ∧
    b.mode ≠ .follower ∧ b.tableBusy = true)
  ∧ (let s : State := st (ring (tabled { pinned := true }) (desc 0x30 0 (ctOp 5))); let w : Nat := 0; let r : Nat := 0;
    let d : Desc := desc 0x30 0 (ctOp 5); let b := s.blk.pass w; Ready b r d 0x30 ∧ subOp d.data = 5 ∧ b.mode ≠ .follower ∧
    b.tableBusy = false)
  ∧ (let s : State := st (ring ({ on with ct := { (tabled {}).ct with scanBusy := true, scanRefs := [⟨0, 5⟩] } }) (desc 0x30 0 (ctOp 6)));
    let w : Nat := 0; let r : Nat := 0; let d : Desc := desc 0x30 0 (ctOp 6); let b := s.blk.pass w; Ready b r d 0x30 ∧ subOp d.data = 6 ∧
    b.tableBusy = true)
  ∧ (let s : State := st (ring ({ on with ct := { (tabled {}).ct with scanBusy := true } }) (desc 0x30 0 (ctOp 6))); let w : Nat := 0;
    let r : Nat := 0; let d : Desc := desc 0x30 0 (ctOp 6); let b := s.blk.pass w; Ready b r d 0x30 ∧ subOp d.data = 6 ∧
    b.tableBusy = false)
  ∧ (let s : State := st (tabled {}); let w : Nat := 0; let b := s.blk.pass w; b.ct.scanBusy = false)
  ∧ (let s : State := st ({ on with ct := { (tabled {}).ct with scanBusy := true } }); let w : Nat := 0; let b := s.blk.pass w;
    b.ct.scanBusy = true)
  ∧ (let s : State := st ({ on with ct := { (tabled {}).ct with scanBusy := true, scanLeft := [9] } }); let w : Nat := 0;
    let b := s.blk.pass w; let held := fun i => (b.lockHolder i).isSome; b.ct.scanBusy = true ∧ b.ct.scanLeft.any held = false)
  ∧ (let s : State := st ({ on with ct := { (tabled {}).ct with scanBusy := true } }); let w : Nat := 0; let b := s.blk.pass w;
    let held := fun i => (b.lockHolder i).isSome; b.ct.scanBusy = true ∧ b.ct.scanLeft.any held = false)
  ∧ (let s : State := st ({ on with ct := { (tabled {}).ct with scanBusy := true, scanLeft := [9, 10], locks := [(9, 5)] } });
    let w : Nat := 0; let b := s.blk.pass w; let held := fun i => (b.lockHolder i).isSome; b.ct.scanBusy = true ∧
    b.ct.scanLeft.any held = true)
  ∧ (let s : State := st ({ on with ct := { (tabled {}).ct with flushBusy := true, flushLeft := [9] } }); let w : Nat := 0;
    let b := s.blk.pass w; let held := fun i => (b.lockHolder i).isSome; b.ct.flushBusy = true ∧ b.ct.flushLeft.any held = false)
  ∧ (let s : State := st ({ on with ct := { (tabled {}).ct with flushBusy := true, flushLeft := [9, 10], locks := [(9, 5)] } });
    let w : Nat := 0; let b := s.blk.pass w; let held := fun i => (b.lockHolder i).isSome; b.ct.flushBusy = true ∧
    b.ct.flushLeft.any held = true)
  ∧ (let s : State := st (ring (onIn .follower) (desc 0x31 0 ([5, 0, 0, 0] ++ leB 4 8))); let w : Nat := 0; let r : Nat := 0;
    let d : Desc := desc 0x31 0 ([5, 0, 0, 0] ++ leB 4 8); let b := s.blk.pass w; Ready b r d 0x31 ∧ byteAt d.data 8 = 5 ∧
    b.mode = .follower)
  ∧ (let s : State := st (ring (on) (desc 0x31 0 ([5, 0, 0, 0] ++ leB 4 0))); let w : Nat := 0; let r : Nat := 0; let img : Bytes := [];
    let d : Desc := desc 0x31 0 ([5, 0, 0, 0] ++ leB 4 0); let b := s.blk.pass w; let n := leAt d.data 12 4;
    let rs := recordsOf (sliceB img 0 n); Ready b r d 0x31 ∧ byteAt d.data 8 = 5 ∧ b.mode ≠ .follower ∧
    (n = 0 ∨ n % 8 ≠ 0 ∨ 4096 < n ∨ rs.all (fun x => policyOff x.1) = false))
  ∧ (let s : State := st (ring (on) (desc 0x31 0 ([5, 0, 0, 0] ++ leB 4 4))); let w : Nat := 0; let r : Nat := 0;
    let img : Bytes := leB 4 0x20208 ++ leB 4 1; let d : Desc := desc 0x31 0 ([5, 0, 0, 0] ++ leB 4 4); let b := s.blk.pass w;
    let n := leAt d.data 12 4; let rs := recordsOf (sliceB img 0 n); Ready b r d 0x31 ∧ byteAt d.data 8 = 5 ∧ b.mode ≠ .follower ∧
    (n = 0 ∨ n % 8 ≠ 0 ∨ 4096 < n ∨ rs.all (fun x => policyOff x.1) = false))
  ∧ (let s : State := st (ring (on) (desc 0x31 0 ([5, 0, 0, 0] ++ leB 4 8))); let w : Nat := 0; let r : Nat := 0;
    let img : Bytes := leB 4 0x2040C ++ leB 4 1; let d : Desc := desc 0x31 0 ([5, 0, 0, 0] ++ leB 4 8); let b := s.blk.pass w;
    let n := leAt d.data 12 4; let rs := recordsOf (sliceB img 0 n); Ready b r d 0x31 ∧ byteAt d.data 8 = 5 ∧ b.mode ≠ .follower ∧
    (n = 0 ∨ n % 8 ≠ 0 ∨ 4096 < n ∨ rs.all (fun x => policyOff x.1) = false))
  ∧ (let s : State := st (ring (on) (desc 0x31 0 ([5, 0, 0, 0] ++ leB 4 4104))); let w : Nat := 0; let r : Nat := 0; let img : Bytes := [];
    let d : Desc := desc 0x31 0 ([5, 0, 0, 0] ++ leB 4 4104); let b := s.blk.pass w; let n := leAt d.data 12 4;
    let rs := recordsOf (sliceB img 0 n); Ready b r d 0x31 ∧ byteAt d.data 8 = 5 ∧ b.mode ≠ .follower ∧
    (n = 0 ∨ n % 8 ≠ 0 ∨ 4096 < n ∨ rs.all (fun x => policyOff x.1) = false))
  ∧ (let s : State := st (ring (on) (desc 0x31 0 ([5, 0, 0, 0] ++ leB 4 8))); let w : Nat := 0; let r : Nat := 0;
    let img : Bytes := leB 4 0x20400 ++ leB 4 1; let d : Desc := desc 0x31 0 ([5, 0, 0, 0] ++ leB 4 8); let b := s.blk.pass w;
    let n := leAt d.data 12 4; let rs := recordsOf (sliceB img 0 n); Ready b r d 0x31 ∧ byteAt d.data 8 = 5 ∧ b.mode ≠ .follower ∧ n ≠ 0 ∧
    n % 8 = 0 ∧ n ≤ 4096 ∧ rs.all (fun x => policyOff x.1) = true)
  ∧ (let s : State := st (ring (on) (desc 0x31 0 ([5, 0, 0, 0] ++ leB 4 8))); let w : Nat := 0; let r : Nat := 0;
    let img : Bytes := leB 4 0x20204 ++ leB 4 1; let d : Desc := desc 0x31 0 ([5, 0, 0, 0] ++ leB 4 8); let b := s.blk.pass w;
    let n := leAt d.data 12 4; let rs := recordsOf (sliceB img 0 n); Ready b r d 0x31 ∧ byteAt d.data 8 = 5 ∧ b.mode ≠ .follower ∧ n ≠ 0 ∧
    n % 8 = 0 ∧ n ≤ 4096 ∧ rs.all (fun x => policyOff x.1) = true)
  ∧ (let s : State := st (ring (on) (desc 0x31 0 ([6, 0, 0, 0] ++ leB 4 8))); let w : Nat := 0; let r : Nat := 0;
    let img : Bytes := leB 4 0x20818 ++ leB 4 1; let d : Desc := desc 0x31 0 ([6, 0, 0, 0] ++ leB 4 8); let b := s.blk.pass w;
    let n := leAt d.data 12 4; let rs := recordsOf (sliceB img 0 n); Ready b r d 0x31 ∧ byteAt d.data 8 = 6 ∧ b.mode ≠ .follower ∧
    (n = 0 ∨ n % 8 ≠ 0 ∨ 4096 < n ∨ rs.all (fun x => serviceOff x.1) = false))
  ∧ (let s : State := st (ring (on) (desc 0x31 0 ([6, 0, 0, 0] ++ leB 4 8))); let w : Nat := 0; let r : Nat := 0;
    let img : Bytes := leB 4 0x20814 ++ leB 4 1; let d : Desc := desc 0x31 0 ([6, 0, 0, 0] ++ leB 4 8); let b := s.blk.pass w;
    let n := leAt d.data 12 4; let rs := recordsOf (sliceB img 0 n); Ready b r d 0x31 ∧ byteAt d.data 8 = 6 ∧ b.mode ≠ .follower ∧ n ≠ 0 ∧
    n % 8 = 0 ∧ n ≤ 4096 ∧ rs.all (fun x => serviceOff x.1) = true) :=
  ⟨by decide +kernel, by decide +kernel, by decide +kernel, by decide +kernel, by decide +kernel, by decide +kernel, by decide +kernel, by decide +kernel, by decide +kernel, by decide +kernel, by decide +kernel, by decide +kernel, by decide +kernel, by decide +kernel, by decide +kernel, by decide +kernel, by decide +kernel, by decide +kernel, by decide +kernel, by decide +kernel, by decide +kernel⟩

/-- States and operands that meet the hypotheses of each clause of `Obligations.PatternsAndSelftests`. -/
theorem wit_PatternsAndSelftests :
  (let s : State := st (ring ({ on with eng := { load := some (⟨[], true, [0], true, ⟨0, 0⟩⟩ : PLoad) } }) (desc 0x60 0 ([])));
    let w : Nat := 0; let r : Nat := 0; let d : Desc := desc 0x60 0 ([]); let b := s.blk.pass w; Ready b r d 0x60 ∧
    b.eng.load.isSome = true)
  ∧ (let s : State := st (ring (on) (desc 0x60 0 ([]))); let w : Nat := 0; let r : Nat := 0; let d : Desc := desc 0x60 0 ([]);
    let b := s.blk.pass w; let quiet := b.mode == .commission || b.mode == .diagnostic; let rolling := bitOf (byteAt d.data 8) 0;
    Ready b r d 0x60 ∧ b.eng.load = none ∧ quiet = false ∧ rolling = false)
  ∧ (let s : State := st (ring (on) (desc 0x60 0 ([1]))); let w : Nat := 0; let r : Nat := 0; let d : Desc := desc 0x60 0 ([1]);
    let b := s.blk.pass w; let quiet := b.mode == .commission || b.mode == .diagnostic; let rolling := bitOf (byteAt d.data 8) 0;
    Ready b r d 0x60 ∧ b.eng.load = none ∧ (quiet || rolling) = true)
  ∧ (let s : State := st (ring (onIn .commission) (desc 0x60 0 ([]))); let w : Nat := 0; let r : Nat := 0; let d : Desc := desc 0x60 0 ([]);
    let b := s.blk.pass w; let quiet := b.mode == .commission || b.mode == .diagnostic; let rolling := bitOf (byteAt d.data 8) 0;
    Ready b r d 0x60 ∧ b.eng.load = none ∧ (quiet || rolling) = true)
  ∧ (let s : State := st (ring { on with eng := { load := some (⟨[], true, [0, 1], false, ⟨0, 0⟩⟩ : PLoad), invs := [(5, inv0)] } } (desc 0x60 0 []));
    let w : Nat := 0; let b := s.blk.pass w; let l := (⟨[], true, [0, 1], false, ⟨0, 0⟩⟩ : PLoad); b.eng.load = some l ∧
    b.eng.invs.any (fun e => l.now.contains (e.1 / 64)) = true)
  ∧ (let s : State := st (ring { on with eng := { load := some (⟨[], true, [0, 1], true, ⟨0, 0⟩⟩ : PLoad) } } (desc 0x60 0 []));
    let w : Nat := 0; let b := s.blk.pass w; let l := (⟨[], true, [0, 1], true, ⟨0, 0⟩⟩ : PLoad);
    let chk := if l.first then patCheck s.nvm.engSvnMin b.part.silicon (b.mode == .diagnostic) l.bytes else none; let st := stMalformed;
    let fc := (2 : Nat); b.eng.load = some l ∧ b.eng.invs.any (fun e => l.now.contains (e.1 / 64)) = false ∧ chk = some (st, fc))
  ∧ (let s : State := st (ring { on with eng := { load := some (⟨[], true, [0], false, ⟨0, 0⟩⟩ : PLoad) } } (desc 0x60 0 []));
    let w : Nat := 0; let parity : Bool := true; let b := s.blk.pass w; let l := (⟨[], true, [0], false, ⟨0, 0⟩⟩ : PLoad);
    let chk := if l.first then patCheck s.nvm.engSvnMin b.part.silicon (b.mode == .diagnostic) l.bytes else none; b.eng.load = some l ∧
    b.eng.invs.any (fun e => l.now.contains (e.1 / 64)) = false ∧ chk = none ∧ parity = true)
  ∧ (let s : State := st (ring { on with eng := { load := some (⟨[], true, [0, 1], false, ⟨0, 0⟩⟩ : PLoad) } } (desc 0x60 0 []));
    let w : Nat := 0; let parity : Bool := false; let b := s.blk.pass w; let l := (⟨[], true, [0, 1], false, ⟨0, 0⟩⟩ : PLoad);
    let chk := if l.first then patCheck s.nvm.engSvnMin b.part.silicon (b.mode == .diagnostic) l.bytes else none; b.eng.load = some l ∧
    b.eng.invs.any (fun e => l.now.contains (e.1 / 64)) = false ∧ chk = none ∧ parity = false)
  ∧ (let s : State := st (ring { on with eng := { load := some (⟨[], false, [0, 1], false, ⟨0, 0⟩⟩ : PLoad) } } (desc 0x60 0 []));
    let w : Nat := 0; let parity : Bool := false; let b := s.blk.pass w; let l := (⟨[], false, [0, 1], false, ⟨0, 0⟩⟩ : PLoad);
    let chk := if l.first then patCheck s.nvm.engSvnMin b.part.silicon (b.mode == .diagnostic) l.bytes else none; b.eng.load = some l ∧
    b.eng.invs.any (fun e => l.now.contains (e.1 / 64)) = false ∧ chk = none ∧ parity = false)
  ∧ (let s : State := st (ring (on) (desc 0x31 0 ([7, 0, 0, 0] ++ leB 4 64))); let w : Nat := 0; let r : Nat := 0;
    let d : Desc := desc 0x31 0 ([7, 0, 0, 0] ++ leB 4 64); let b := s.blk.pass w; Ready b r d 0x31 ∧ byteAt d.data 8 = 7 ∧
    b.mode ≠ .diagnostic)
  ∧ (let s : State := st (ring (onIn .diagnostic) (desc 0x31 0 ([7, 64, 0, 0] ++ leB 4 64))); let w : Nat := 0; let r : Nat := 0;
    let d : Desc := desc 0x31 0 ([7, 64, 0, 0] ++ leB 4 64); let b := s.blk.pass w; let o := byteAt d.data 9; let len := leAt d.data 12 4;
    Ready b r d 0x31 ∧ byteAt d.data 8 = 7 ∧ b.mode = .diagnostic ∧ (63 < o ∧ o ≠ 0xFF ∨ len < 64 ∨ 4096 < len))
  ∧ (let s : State := st (ring (onIn .diagnostic) (desc 0x31 0 ([7, 0, 0, 0] ++ leB 4 63))); let w : Nat := 0; let r : Nat := 0;
    let d : Desc := desc 0x31 0 ([7, 0, 0, 0] ++ leB 4 63); let b := s.blk.pass w; let o := byteAt d.data 9; let len := leAt d.data 12 4;
    Ready b r d 0x31 ∧ byteAt d.data 8 = 7 ∧ b.mode = .diagnostic ∧ (63 < o ∧ o ≠ 0xFF ∨ len < 64 ∨ 4096 < len))
  ∧ (let s : State := st (ring (onIn .diagnostic) (desc 0x31 0 ([7, 255, 0, 0] ++ leB 4 4097))); let w : Nat := 0; let r : Nat := 0;
    let d : Desc := desc 0x31 0 ([7, 255, 0, 0] ++ leB 4 4097); let b := s.blk.pass w; let o := byteAt d.data 9;
    let len := leAt d.data 12 4; Ready b r d 0x31 ∧ byteAt d.data 8 = 7 ∧ b.mode = .diagnostic ∧ (63 < o ∧
    o ≠ 0xFF ∨ len < 64 ∨ 4096 < len))
  ∧ (let s : State := st (ring ({ onIn .diagnostic with eng := { sets := [(0, ⟨1, 2, 3, 4, false, 0x7F, 2⟩)] } }) (desc 0x31 0 ([7, 0, 0, 0] ++ leB 4 64)));
    let w : Nat := 0; let r : Nat := 0; let d : Desc := desc 0x31 0 ([7, 0, 0, 0] ++ leB 4 64); let b := s.blk.pass w;
    let o := byteAt d.data 9; let len := leAt d.data 12 4; let es := b.testEngines o; Ready b r d 0x31 ∧ byteAt d.data 8 = 7 ∧
    b.mode = .diagnostic ∧ (o < 64 ∨ o = 0xFF) ∧ 64 ≤ len ∧ len ≤ 4096 ∧ (o = 0xFF ∨ b.enginePresent o = true) ∧
    es.any (fun e => !bitOf (b.setOf (e / 16)).entries 6) = false ∧ es.all b.engineOut = false ∧ b.eng.self = none ∧ b.eng.load = none)
  ∧ (let s : State := st (ring ({ onIn .diagnostic with eng := { sets := [(0, ⟨1, 2, 3, 4, false, 0x7F, 2⟩)], load := some (⟨[], true, [0], true, ⟨0, 0⟩⟩ : PLoad) } }) (desc 0x31 0 ([7, 0, 0, 0] ++ leB 4 4096)));
    let w : Nat := 0; let r : Nat := 0; let d : Desc := desc 0x31 0 ([7, 0, 0, 0] ++ leB 4 4096); let b := s.blk.pass w;
    let o := byteAt d.data 9; let len := leAt d.data 12 4; let es := b.testEngines o; Ready b r d 0x31 ∧ byteAt d.data 8 = 7 ∧
    b.mode = .diagnostic ∧ (o < 64 ∨ o = 0xFF) ∧ 64 ≤ len ∧ len ≤ 4096 ∧ (o = 0xFF ∨ b.enginePresent o = true) ∧
    es.any (fun e => !bitOf (b.setOf (e / 16)).entries 6) = false ∧ es.all b.engineOut = false ∧
    (b.eng.self.isSome = true ∨ b.eng.load.isSome = true))
  ∧ (let s : State := st (ring { on with eng := { self := some { engines := [0], addr := 0, buf := [], ref := ⟨0, 0⟩, started := true } } } (desc 0x31 0 [7]));
    let w : Nat := 0; let b := s.blk.pass w; let t := ({ engines := [0], addr := 0, buf := [], ref := ⟨0, 0⟩, started := true } : SelfT);
    b.eng.self = some t ∧ t.started = true ∧ b.eng.invs.any (fun e => e.2.self) = false)
  ∧ (let s : State := st on; let w : Nat := 0; let b := s.blk.pass w; b.eng.self = none) :=
  ⟨by decide +kernel, by decide +kernel, by decide +kernel, by decide +kernel, by decide +kernel, by decide +kernel, by decide +kernel, by decide +kernel, by decide +kernel, by decide +kernel, by decide +kernel, by decide +kernel, by decide +kernel, by decide +kernel, by decide +kernel, by decide +kernel, by decide +kernel⟩

/-- States and operands that meet the hypotheses of each clause of `Obligations.EpochsInstalledAndRetired`. -/
theorem wit_EpochsInstalledAndRetired :
  (let s : State := st (ring ({ keyed with twin := { attached := true, role := 2 } }) (desc 0x10 0 (leB 2 7))); let w : Nat := 0;
    let r : Nat := 0; let blk : Bytes := block ++ leB 6 0 ++ List.replicate 6 0 ++ leB 6 0 ++ List.replicate 6 0;
    let d : Desc := desc 0x10 0 (leB 2 7); let b := s.blk.pass w; Ready b r d 0x10 ∧ b.part.variant.stitchers ≠ 0 ∧ b.following = true)
  ∧ (let s : State := st (ring ({ keyed with nts := { epochs := [(3, ({ st := 2, id := 7, key := master, act := 0, exp := 0, actEntry := none, expEntry := none, refs := [] } : Epoch))] } }) (desc 0x10 0 (leB 2 7)));
    let w : Nat := 0; let r : Nat := 0; let blk : Bytes := block ++ leB 6 0 ++ List.replicate 6 0 ++ leB 6 0 ++ List.replicate 6 0;
    let d : Desc := desc 0x10 0 (leB 2 7); let b := s.blk.pass w; let id := leAt d.data 8 2;
    let live := fun e : Epoch => e.st == 1 || e.st == 2 || e.st == 3; let slots := (List.range 4).map b.epochOf; let act := (0 : Nat);
    let exp := (0 : Nat); let key := master; Ready b r d 0x10 ∧ b.part.variant.stitchers ≠ 0 ∧ b.following = false ∧
    timeAt blk 72 = some act ∧ timeAt blk 84 = some exp ∧ id ≠ 0 ∧ (act = 0 ∨ exp = 0 ∨ act < exp) ∧ (exp = 0 ∨ b.ins.now < exp) ∧
    keyUnwrap (b.sesOf (b.ringOwner r)).ks (sliceB blk 0 72) = some key ∧
    slots.any (fun e => live e && e.id == id && e.key == key && e.act == act && e.exp == exp) = true)
  ∧ (let s : State := st (ring ({ keyed with nts := { epochs := [(3, ({ st := 4, id := 7, key := master, act := 0, exp := 0, actEntry := none, expEntry := none, refs := [] } : Epoch))] } }) (desc 0x10 0 (leB 2 7)));
    let w : Nat := 0; let r : Nat := 0; let blk : Bytes := block ++ leB 6 0 ++ List.replicate 6 0 ++ leB 6 0 ++ List.replicate 6 0;
    let d : Desc := desc 0x10 0 (leB 2 7); let b := s.blk.pass w; let id := leAt d.data 8 2;
    let live := fun e : Epoch => e.st == 1 || e.st == 2 || e.st == 3; let slots := (List.range 4).map b.epochOf; let act := (0 : Nat);
    let exp := (0 : Nat); let key := master; Ready b r d 0x10 ∧ b.part.variant.stitchers ≠ 0 ∧ b.following = false ∧
    timeAt blk 72 = some act ∧ timeAt blk 84 = some exp ∧ id ≠ 0 ∧ (act = 0 ∨ exp = 0 ∨ act < exp) ∧ (exp = 0 ∨ b.ins.now < exp) ∧
    keyUnwrap (b.sesOf (b.ringOwner r)).ks (sliceB blk 0 72) = some key ∧ slots.any (fun e => e.st != 0 && e.id == id) = true ∧
    slots.any (fun e => live e && e.id == id && e.key == key && e.act == act && e.exp == exp) = false)
  ∧ (let s : State := st (ring (keyed) (desc 0x10 0 (leB 2 7))); let w : Nat := 0; let r : Nat := 0;
    let blk : Bytes := block ++ leB 6 0 ++ List.replicate 6 0 ++ leB 6 0 ++ List.replicate 6 0; let d : Desc := desc 0x10 0 (leB 2 7);
    let b := s.blk.pass w; let id := leAt d.data 8 2; let slots := (List.range 4).map b.epochOf; let act := (0 : Nat);
    let exp := (0 : Nat); let key := master; let i := (0 : Nat); Ready b r d 0x10 ∧ b.part.variant.stitchers ≠ 0 ∧ b.following = false ∧
    timeAt blk 72 = some act ∧ timeAt blk 84 = some exp ∧ id ≠ 0 ∧ (act = 0 ∨ exp = 0 ∨ act < exp) ∧ (exp = 0 ∨ b.ins.now < exp) ∧
    keyUnwrap (b.sesOf (b.ringOwner r)).ks (sliceB blk 0 72) = some key ∧ slots.any (fun e => e.st != 0 && e.id == id) = false ∧
    b.epochIn 0 = some i ∧ (act = 0 ∨ b.ins.now < act))
  ∧ (let s : State := st (ring (keyed) (desc 0x10 0 (leB 2 7))); let w : Nat := 0; let r : Nat := 0;
    let blk : Bytes := block ++ leB 6 1001 ++ List.replicate 6 0 ++ leB 6 1002 ++ List.replicate 6 0;
    let d : Desc := desc 0x10 0 (leB 2 7); let b := s.blk.pass w; let id := leAt d.data 8 2; let slots := (List.range 4).map b.epochOf;
    let act := secU 1001; let exp := secU 1002; let key := master; let i := (0 : Nat); Ready b r d 0x10 ∧ b.part.variant.stitchers ≠ 0 ∧
    b.following = false ∧ timeAt blk 72 = some act ∧ timeAt blk 84 = some exp ∧ id ≠ 0 ∧ (act = 0 ∨ exp = 0 ∨ act < exp) ∧
    (exp = 0 ∨ b.ins.now < exp) ∧ keyUnwrap (b.sesOf (b.ringOwner r)).ks (sliceB blk 0 72) = some key ∧
    slots.any (fun e => e.st != 0 && e.id == id) = false ∧ b.epochIn 0 = some i ∧ (act = 0 ∨ b.ins.now < act))
  ∧ (let s : State := st (ring (on) (desc 0x11 0 (leB 2 7))); let w : Nat := 0; let r : Nat := 0; let blk : Bytes := [];
    let d : Desc := desc 0x11 0 (leB 2 7); let b := s.blk.pass w; let id := leAt d.data 8 2; Ready b r d 0x11 ∧
    b.part.variant.stitchers ≠ 0 ∧ b.following = false ∧ id ≠ 0 ∧ b.epochOfId id = none)
  ∧ (let s : State := st (ring ({ keyed with nts := { epochs := [(3, ({ st := 4, id := 7, key := master, act := 0, exp := 0, actEntry := none, expEntry := none, refs := [] } : Epoch))] } }) (desc 0x11 0 (leB 2 7 ++ [0])));
    let w : Nat := 0; let r : Nat := 0; let blk : Bytes := []; let d : Desc := desc 0x11 0 (leB 2 7 ++ [0]); let b := s.blk.pass w;
    let id := leAt d.data 8 2; let i := (3 : Nat); Ready b r d 0x11 ∧ b.part.variant.stitchers ≠ 0 ∧ b.following = false ∧ id ≠ 0 ∧
    b.epochOfId id = some i ∧ (b.epochOf i).st = 4)
  ∧ (let s : State := st (ring ({ keyed with nts := { epochs := [(3, ({ st := 2, id := 7, key := master, act := 0, exp := 0, actEntry := none, expEntry := none, refs := [] } : Epoch))] } }) (desc 0x11 0 (leB 2 7 ++ [0])));
    let w : Nat := 0; let r : Nat := 0; let blk : Bytes := []; let d : Desc := desc 0x11 0 (leB 2 7 ++ [0]); let b := s.blk.pass w;
    let id := leAt d.data 8 2; let i := (3 : Nat); Ready b r d 0x11 ∧ b.part.variant.stitchers ≠ 0 ∧ b.following = false ∧ id ≠ 0 ∧
    b.epochOfId id = some i ∧ (b.epochOf i).st = 2 ∧ bitOf (byteAt d.data 10) 0 = false)
  ∧ (let s : State := st (ring ({ keyed with nts := { epochs := [(3, ({ st := 2, id := 7, key := master, act := 0, exp := 0, actEntry := none, expEntry := none, refs := [] } : Epoch))] } }) (desc 0x11 0 (leB 2 7 ++ [1])));
    let w : Nat := 0; let r : Nat := 0; let blk : Bytes := []; let d : Desc := desc 0x11 0 (leB 2 7 ++ [1]); let b := s.blk.pass w;
    let id := leAt d.data 8 2; let i := (3 : Nat); Ready b r d 0x11 ∧ b.part.variant.stitchers ≠ 0 ∧ b.following = false ∧ id ≠ 0 ∧
    b.epochOfId id = some i ∧ (b.epochOf i).st = 2 ∧ bitOf (byteAt d.data 10) 0 = true)
  ∧ (let s : State := st (ring ({ keyed with nts := { epochs := [(3, ({ st := 1, id := 7, key := master, act := 0, exp := 0, actEntry := none, expEntry := none, refs := [] } : Epoch))] } }) (desc 0x11 0 (leB 2 7 ++ [0])));
    let w : Nat := 0; let r : Nat := 0; let blk : Bytes := []; let d : Desc := desc 0x11 0 (leB 2 7 ++ [0]); let b := s.blk.pass w;
    let id := leAt d.data 8 2; let i := (3 : Nat); Ready b r d 0x11 ∧ b.part.variant.stitchers ≠ 0 ∧ b.following = false ∧ id ≠ 0 ∧
    b.epochOfId id = some i ∧ (b.epochOf i).st ≠ 2 ∧ (b.epochOf i).st ≠ 4)
  ∧ (let s : State := st (ring ({ keyed with nts := { epochs := [(3, ({ st := 3, id := 7, key := master, act := 0, exp := 0, actEntry := none, expEntry := none, refs := [] } : Epoch))] } }) (desc 0x11 0 (leB 2 7 ++ [0])));
    let w : Nat := 0; let r : Nat := 0; let blk : Bytes := []; let d : Desc := desc 0x11 0 (leB 2 7 ++ [0]); let b := s.blk.pass w;
    let id := leAt d.data 8 2; let i := (3 : Nat); Ready b r d 0x11 ∧ b.part.variant.stitchers ≠ 0 ∧ b.following = false ∧ id ≠ 0 ∧
    b.epochOfId id = some i ∧ (b.epochOf i).st ≠ 2 ∧ (b.epochOf i).st ≠ 4)
  ∧ (let s : State := st ({ keyed with nts := { epochs := [(3, ({ st := 4, id := 7, key := master, act := 0, exp := 0, actEntry := none, expEntry := none, refs := [] } : Epoch))] } });
    let w : Nat := 0; let n : Nat := 3; let blk : Bytes := []; let b := s.blk.pass w; n < 4 ∧ (b.epochOf n).st = 4 ∧ b.nts.waits = [])
  ∧ (let s : State := st on; let w : Nat := 0; let n : Nat := 3; let blk : Bytes := []; let b := s.blk.pass w; (b.epochOf n).st ≠ 4)
  ∧ (let s : State := st { on with nts := { ctxs := [(1023, ({ req := { req with nts := true }, leaseEnd := secU 2000, ready := some 0 } : Ctx))] } };
    let w : Nat := 0; let k : Nat := 1023; let blk : Bytes := []; let b := s.blk.pass w;
    let x := ({ req := { req with nts := true }, leaseEnd := secU 2000, ready := some 0 } : Ctx); b.ctxAt? k = some x ∧
    x.leaseEnd ≤ b.leaseNow)
  ∧ (let s : State := st { on with nts := { ctxs := [(1023, { ({ req := { req with nts := true }, leaseEnd := secU 2000, ready := some 0 } : Ctx) with leaseEnd := secU 2000 + 1 })] } };
    let w : Nat := 0; let k : Nat := 1023; let blk : Bytes := []; let b := s.blk.pass w;
    let x := { ({ req := { req with nts := true }, leaseEnd := secU 2000, ready := some 0 } : Ctx) with leaseEnd := secU 2000 + 1 };
    b.ctxAt? k = some x ∧ b.leaseNow < x.leaseEnd) :=
  ⟨by decide +kernel, by exact ⟨by decide +kernel, by decide +kernel, by decide +kernel, by decide +kernel, by decide +kernel, by decide +kernel, by decide +kernel, by decide +kernel, master_unwraps (by decide +kernel) (by decide +kernel), by decide +kernel⟩, by exact ⟨by decide +kernel, by decide +kernel, by decide +kernel, by decide +kernel, by decide +kernel, by decide +kernel, by decide +kernel, by decide +kernel, master_unwraps (by decide +kernel) (by decide +kernel), by decide +kernel, by decide +kernel⟩, by exact ⟨by decide +kernel, by decide +kernel, by decide +kernel, by decide +kernel, by decide +kernel, by decide +kernel, by decide +kernel, by decide +kernel, master_unwraps (by decide +kernel) (by decide +kernel), by decide +kernel, by decide +kernel, by decide +kernel⟩, by exact ⟨by decide +kernel, by decide +kernel, by decide +kernel, by decide +kernel, by decide +kernel, by decide +kernel, by decide +kernel, by decide +kernel, master_unwraps (by decide +kernel) (by decide +kernel), by decide +kernel, by decide +kernel, by decide +kernel⟩, by decide +kernel, by decide +kernel, by decide +kernel, by decide +kernel, by decide +kernel, by decide +kernel, by decide +kernel, by decide +kernel, by decide +kernel, by decide +kernel⟩

/-- States and operands that meet the hypotheses of each clause of `Obligations.PtpTimersRun`. -/
theorem wit_PtpTimersRun :
  (let s : State := st { on with ptp := { sweeps := [(8, secU 1000)] } }; let w : Nat := 0; let p : Nat := 0; let n : Int := 0;
    let b := s.blk.pass w; let can := b.ins.running && b.portPresent p; can = true ∧ -8 ≤ n ∧ n ≤ 7 ∧
    b.gridDue (sweepKey p n) (logU n) = none)
  ∧ (let s : State := st on; let w : Nat := 0; let p : Nat := 0; let n : Int := 7; let b := s.blk.pass w;
    let can := b.ins.running && b.portPresent p; let t := secU 1000 / logU 7 * logU 7; can = true ∧ -8 ≤ n ∧ n ≤ 7 ∧
    b.gridDue (sweepKey p n) (logU n) = some t ∧ (b.portOf p).link = false)
  ∧ (let s : State := st linked; let w : Nat := 0; let p : Nat := 0; let n : Int := -8; let b := s.blk.pass w;
    let can := b.ins.running && b.portPresent p; let t := secU 1000; can = true ∧ -8 ≤ n ∧ n ≤ 7 ∧
    b.gridDue (sweepKey p n) (logU n) = some t ∧ (b.portOf p).link = true)
  ∧ (let s : State := st linked; let w : Nat := 0; let p : Nat := 0; let n : Int := 0; let b := s.blk.pass w;
    let can := b.ins.running && b.portPresent p; let t := secU 1000; can = true ∧ -8 ≤ n ∧ n ≤ 7 ∧
    b.gridDue (sweepKey p n) (logU n) = some t ∧ (b.portOf p).link = true)
  ∧ (let s : State := State.reset; let w : Nat := 0; let p : Nat := 0; let n : Int := 0; let b := s.blk.pass w;
    let can := b.ins.running && b.portPresent p; (can = false ∨ n < -8 ∨ 7 < n))
  ∧ (let s : State := st on; let w : Nat := 0; let p : Nat := 0; let n : Int := 8; let b := s.blk.pass w;
    let can := b.ins.running && b.portPresent p; (can = false ∨ n < -8 ∨ 7 < n))
  ∧ (let s : State := st on; let w : Nat := 0; let p : Nat := 0; let n : Int := -9; let b := s.blk.pass w;
    let can := b.ins.running && b.portPresent p; (can = false ∨ n < -8 ∨ 7 < n))
  ∧ (let s : State := st (client on {}); let w : Nat := 0; let p : Nat := 0; let b := s.blk.pass w;
    let iv := logU (b.rdS (R.PTP_RC_CFG_LOG_DREQ p)); let can := b.ins.running && b.portPresent p; let t := secU 1000; can = true ∧
    2 * (b.ins.now % iv) < iv ∧ b.gridDue (512 + p) iv = some t ∧ (b.portOf p).link = true)
  ∧ (let s : State := st { on with ins := { on.ins with now := secU 1000 + secU 1 / 2 } }; let w : Nat := 0; let p : Nat := 0;
    let b := s.blk.pass w; let iv := logU (b.rdS (R.PTP_RC_CFG_LOG_DREQ p)); iv ≤ 2 * (b.ins.now % iv))
  ∧ (let s : State := st on; let w : Nat := 0; let b := s.blk.pass w; b.ptp.fups = [])
  ∧ (let s : State := st { linked with ptp := { fups := [⟨0, 5, ⟨0, 0, 0, frame nullMac 0x88F7 []⟩⟩] } }; let w : Nat := 0;
    let b := s.blk.pass w; let x := (⟨0, 5, ⟨0, 0, 0, frame nullMac 0x88F7 []⟩⟩ : Fup); let l := ([] : List Fup); b.ptp.fups = x :: l)
  ∧ (let s : State := st { on with ptp := { sess := [(⟨0, 1, [1], [2], [3], [], [⟨0, 0, 60, secU 2000, 0, 0, 0⟩, ⟨11, 0, 60, secU 2060, 0, 0, 0⟩]⟩ : PSess)] } };
    let w : Nat := 0; let i : Nat := 0; let b := s.blk.pass w;
    let x := (⟨0, 1, [1], [2], [3], [], [⟨0, 0, 60, secU 2000, 0, 0, 0⟩, ⟨11, 0, 60, secU 2060, 0, 0, 0⟩]⟩ : PSess);
    b.ptp.sess[i]? = some x)
  ∧ (let s : State := st on; let w : Nat := 0; let i : Nat := 5; let b := s.blk.pass w; b.ptp.sess[i]? = none)
  ∧ (let s : State := st (wrs (client on {}) [(R.PTP_MASTER_CFG_VALID 31, 1), (R.PTP_RC_CFG_UNICAST 0, 1), (R.PTP_RC_CFG_TRANSPORT 0, 1)]);
    let w : Nat := 0; let p : Nat := 0; let i : Nat := 31; let msg : Nat := 0; let b := s.blk.pass w; p < 32 ∧ b.clientRuns p = true ∧
    b.clientUni p = true ∧ i < 32 ∧ b.masterOn p i = true ∧ b.clientWants p msg = true ∧ b.renewDue p i msg = true)
  ∧ (let s : State := st (client on { grants := [(31, 0, secU 2006 + 1, secU 10)] }); let w : Nat := 0; let p : Nat := 0; let i : Nat := 31;
    let msg : Nat := 0; let b := s.blk.pass w; b.renewDue p i msg = false)
  ∧ (let s : State := st { wrs on [(R.PTP_INST_RATE_ANN_TIMEOUT 3, 2)] with ptp := { passive := [(3, 2 ^ 31)] } }; let w : Nat := 0;
    let p : Nat := 31; let i : Nat := 3; let b := s.blk.pass w; let m := b.rd (R.PTP_INST_RATE_ANN_TIMEOUT i);
    let late := tget 0 b.ptp.betterAt (bmcaKey i p) + m * logU (b.rdS (R.PTP_INST_RATE_LOG_ANN i)) ≤ b.up; p < 32 ∧ i < 4 ∧
    bitOf (tget 0 b.ptp.passive i) p = true ∧ late)
  ∧ (let s : State := st on; let w : Nat := 0; let p : Nat := 0; let i : Nat := 3; let b := s.blk.pass w;
    let m := b.rd (R.PTP_INST_RATE_ANN_TIMEOUT i);
    let late := tget 0 b.ptp.betterAt (bmcaKey i p) + m * logU (b.rdS (R.PTP_INST_RATE_LOG_ANN i)) ≤ b.up; p < 32 ∧ i < 4 ∧
    (bitOf (tget 0 b.ptp.passive i) p = false ∨ ¬late))
  ∧ (let s : State := st { wrs on [(R.PTP_INST_RATE_ANN_TIMEOUT 3, 2)] with ptp := { passive := [(3, 2 ^ 31)], betterAt := [(bmcaKey 3 31, secU 2000)] } };
    let w : Nat := 0; let p : Nat := 31; let i : Nat := 3; let b := s.blk.pass w; let m := b.rd (R.PTP_INST_RATE_ANN_TIMEOUT i);
    let late := tget 0 b.ptp.betterAt (bmcaKey i p) + m * logU (b.rdS (R.PTP_INST_RATE_LOG_ANN i)) ≤ b.up; p < 32 ∧ i < 4 ∧
    (bitOf (tget 0 b.ptp.passive i) p = false ∨ ¬late))
  ∧ (let s : State := st (client on {}); let w : Nat := 0; let p : Nat := 0; let b := s.blk.pass w; p < 32 ∧ b.clientRuns p = true)
  ∧ (let s : State := st on; let w : Nat := 0; let p : Nat := 31; let b := s.blk.pass w; p < 32 ∧ b.clientRuns p = false)
  ∧ (let s : State := st (port on { queue := [{ id := 7, port := 0, cls := 0, data := [], src := .fwd, eg := 0, heldFrom := secU 2000, stamp := .residence 0 0 false }] });
    let w : Nat := 0; let p : Nat := 0; let id : Nat := 7; let b := s.blk.pass w;
    let f := ({ id := 7, port := 0, cls := 0, data := [], src := .fwd, eg := 0, heldFrom := secU 2000, stamp := .residence 0 0 false } : TxF);
    let r := (secU 1000 : Int); (b.portOf p).queue.find? (fun f => f.id == id) = some f ∧ b.resideNow f = some r ∧
    (usU (atLeast1 (b.rd R.PTP_FWD_CTRL_MAX_RES_US)) : Int) ≤ r)
  ∧ (let s : State := st (port on { queue := [{ id := 7, port := 0, cls := 0, data := [], src := .fwd, eg := 0, heldFrom := secU 2000, stamp := .residence (secU 1000) 0 false }] });
    let w : Nat := 0; let p : Nat := 0; let id : Nat := 7; let b := s.blk.pass w;
    let f := ({ id := 7, port := 0, cls := 0, data := [], src := .fwd, eg := 0, heldFrom := secU 2000, stamp := .residence (secU 1000) 0 false } : TxF);
    let r := (0 : Int); (b.portOf p).queue.find? (fun f => f.id == id) = some f ∧ b.resideNow f = some r ∧
    r < (usU (atLeast1 (b.rd R.PTP_FWD_CTRL_MAX_RES_US)) : Int))
  ∧ (let s : State := st { wrs (client on ({ postFrom := some (secU 1999 + 1), freeze := 1, anchor := some 1, stepAt := secU 1998, q := [] })) [(R.REF_SRC_KIND 1, 1), (R.REF_SRC_OBJ 1, 0), (R.PTP_RC_ASYM_CFG_ASYM_S 0, 1), (R.PTP_RC_ASYM_CFG_ASYM_MAX 0, 10)] with refs := { slots := [(0, { st := .qualified, frozen := true }), (1, { st := .qualified, eligFrom := some 0 })] } };
    let w : Nat := 0; let p : Nat := 0; let b := s.blk.pass w; let t := (secU 1999 + 1); let c := b.clientOf p; p < 32 ∧
    c.postFrom = some t ∧ c.freeze ≠ 0 ∧ b.clientFrozen p = true ∧ c.estDone = false ∧ b.anchorHolds p = true ∧ b.up < t + b.asymU p)
  ∧ (let s : State := st { wrs (client on ({ postFrom := some (secU 1999), freeze := 1, anchor := some 1, stepAt := secU 1998, q := [(secU 1997, 1, 10000000), (secU 2000, 1, 0)] })) [(R.REF_SRC_KIND 1, 1), (R.REF_SRC_OBJ 1, 0), (R.PTP_RC_ASYM_CFG_ASYM_S 0, 1), (R.PTP_RC_ASYM_CFG_ASYM_MAX 0, 10)] with refs := { slots := [(0, { st := .qualified, frozen := true }), (1, { st := .qualified, eligFrom := some 0 })] } };
    let w : Nat := 0; let p : Nat := 0; let b := s.blk.pass w; let t := (secU 1999); let c := b.clientOf p;
    let dx := b.meanQ p t - b.meanQ p (c.stepAt - b.asymU p); p < 32 ∧ c.postFrom = some t ∧ c.freeze ≠ 0 ∧ b.clientFrozen p = true ∧
    c.estDone = false ∧ b.anchorHolds p = true ∧ t + b.asymU p ≤ b.up ∧ nsU (b.rd (R.PTP_RC_ASYM_CFG_ASYM_MAX p)) < dx.natAbs)
  ∧ (let s : State := st { wrs (client on ({ postFrom := some (secU 1999), freeze := 1, anchor := some 1, stepAt := secU 1998, q := [(secU 1997, 1, 1000), (secU 2000, 1, 0)] })) [(R.REF_SRC_KIND 1, 1), (R.REF_SRC_OBJ 1, 0), (R.PTP_RC_ASYM_CFG_ASYM_S 0, 1), (R.PTP_RC_ASYM_CFG_ASYM_MAX 0, 10)] with refs := { slots := [(0, { st := .qualified, frozen := true }), (1, { st := .qualified, eligFrom := some 0 })] } };
    let w : Nat := 0; let p : Nat := 0; let b := s.blk.pass w; let t := (secU 1999); let c := b.clientOf p;
    let dx := b.meanQ p t - b.meanQ p (c.stepAt - b.asymU p); p < 32 ∧ c.postFrom = some t ∧ c.freeze ≠ 0 ∧ b.clientFrozen p = true ∧
    c.estDone = false ∧ b.anchorHolds p = true ∧ t + b.asymU p ≤ b.up ∧ dx.natAbs ≤ nsU (b.rd (R.PTP_RC_ASYM_CFG_ASYM_MAX p))) :=
  ⟨by decide +kernel, by decide +kernel, by decide +kernel, by decide +kernel, by decide +kernel, by decide +kernel, by decide +kernel, by decide +kernel, by decide +kernel, by decide +kernel, by decide +kernel, by decide +kernel, by decide +kernel, by decide +kernel, by decide +kernel, by decide +kernel, by decide +kernel, by decide +kernel, by decide +kernel, by decide +kernel, by decide +kernel, by decide +kernel, by decide +kernel, by decide +kernel, by decide +kernel⟩

/-- States and operands that meet the hypotheses of each clause of `Obligations.TwinLinkAndTakeover`. -/
theorem wit_TwinLinkAndTakeover :
  (let s : State := st on; let w : Nat := 0; let b := s.blk.pass w; let t := b.twin; b.capWelt = 3 ∧ b.isHeld 0x86 = false ∧
    b.err.oscLost = false ∧ b.mode.serving = true ∧ t.link = false)
  ∧ (let s : State := State.reset; let w : Nat := 0; let b := s.blk.pass w; let t := b.twin; (b.mode.serving = false ∨ t.link = true))
  ∧ (let s : State := st (twin on {}); let w : Nat := 0; let b := s.blk.pass w; let t := b.twin; (b.mode.serving = false ∨ t.link = true))
  ∧ (let n : Nat := 15; 0 < n ∧ n < 16)
  ∧ (let s : State := st (twin on { role := 2 }); let w : Nat := 0; let n : Nat := 16; let b := s.blk.pass w; let t := b.twin;
    (n = 0 ∨ 16 ≤ n) ∧ t.link = true)
  ∧ (let s : State := st (wrs (twin on { testFails := 3, armFault := true }) [(R.TWN_CFG_ARB_TEST, 1)]); let w : Nat := 0;
    let b := s.blk.pass w; let t := b.twin; t.attached = true ∧ t.link = true ∧ b.flag R.TWN_CFG_ARB_TEST = true)
  ∧ (let s : State := st (wrs (twin on {}) [(R.TWN_CFG_ARB_TEST, 1)]); let w : Nat := 0; let b := s.blk.pass w; let t := b.twin;
    t.attached = true ∧ t.link = true ∧ b.flag R.TWN_CFG_ARB_TEST = true ∧ t.testFails = 0 ∧ t.armFault = false)
  ∧ (let s : State := st (wrs (twin on { testFails := 1 }) [(R.TWN_CFG_ARB_TEST, 1)]); let w : Nat := 0; let b := s.blk.pass w;
    let t := b.twin; t.attached = true ∧ t.link = true ∧ b.flag R.TWN_CFG_ARB_TEST = true ∧ 1 ≤ t.testFails ∧ t.armFault = false)
  ∧ (let s : State := st (twin (onIn .follower) { role := 2 }); let w : Nat := 0; let b := s.blk.pass w; let t := b.twin; t.attached = true ∧
    t.link = true ∧ t.role = 2)
  ∧ (let s : State := st on; let w : Nat := 0; let b := s.blk.pass w; let t := b.twin; t.role ≠ 2)
  ∧ (let s : State := st { on with part := { variant := .kt820 } }; let w : Nat := 0; let b := s.blk.pass w; b.part.variant.welt = false)
  ∧ (let s : State := st { onIn .follower with twin := { role := 2, claimIn := true } }; let w : Nat := 0; let ok : Bool := true;
    let b := s.blk.pass w; let t := b.twin; b.part.variant.welt = true ∧ (ok = false ∨ t.handed = false))
  ∧ (let s : State := st { onIn .follower with twin := { role := 2, claimIn := true, handed := true } }; let w : Nat := 0;
    let ok : Bool := false; let b := s.blk.pass w; let t := b.twin; b.part.variant.welt = true ∧ (ok = false ∨ t.handed = false))
  ∧ (let s : State := st (twin (ring (onIn .locked) (desc 0x40 0 [3])) { role := 1, handed := true, switchRef := some ⟨0, 0⟩ });
    let w : Nat := 0; let ok : Bool := true; let b := s.blk.pass w; let t := b.twin; let ref := (⟨0, 0⟩ : DRef);
    b.part.variant.welt = true ∧ ok = true ∧ t.handed = true ∧ t.switchRef = some ref ∧ b.mode ≠ .follower)
  ∧ (let s : State := st { onIn .follower with twin := { role := 2, failAt := some 0, peerMode := 3 } }; let w : Nat := 0;
    let b := s.blk.pass w; b.takesOver = true)
  ∧ (let s : State := st on; let w : Nat := 0; let b := s.blk.pass w; b.takesOver = false)
  ∧ (let s : State := st { wrs on [(R.TWN_CFG_SIDE, 1)] with twin := { role := 1, claimOut := true, claimIn := true, bothFrom := some 0 } };
    let w : Nat := 0; let b := s.blk.pass w; let t := b.twin; let x := (0 : Nat); t.bothFrom = some x ∧ x + b.settleU ≤ b.up ∧
    t.link = false ∧ t.claimOut = true ∧ t.claimIn = true ∧ b.rd R.TWN_CFG_SIDE ≠ 0)
  ∧ (let s : State := st on; let w : Nat := 0; let b := s.blk.pass w; let t := b.twin;
    (t.bothFrom = none ∨ t.link = true ∨ t.claimIn = false ∨ b.rd R.TWN_CFG_SIDE = 0)) :=
  ⟨by decide +kernel, by decide +kernel, by decide +kernel, by decide +kernel, by decide +kernel, by decide +kernel, by decide +kernel, by decide +kernel, by decide +kernel, by decide +kernel, by decide +kernel, by decide +kernel, by decide +kernel, by decide +kernel, by decide +kernel, by decide +kernel, by decide +kernel, by decide +kernel⟩

/-- States and operands that meet the hypotheses of each clause of `Obligations.TwinAttachesAndDetaches`. -/
theorem wit_TwinAttachesAndDetaches :
  (let s : State := st (ready {}); let w : Nat := 0; let peer : Option TwinPeer := none; let b := s.blk.pass w; let t := b.twin;
    let code := b.attachCode s.nvm.kp (s.nvm.lifecycle == .deployed) (freeBytes 16 b.freeCtr) peer; let m := (9 : Nat); code = some m ∧
    b.mayAttach = true ∧ (t.attachRef.isSome = true ∨ b.flag R.TWN_CFG_AUTO = true ∧ t.autoStop = false ∧ t.retryAt = 0))
  ∧ (let s : State := st (ready { attachRef := some (⟨0, 0⟩, secU 2000), retryAt := 5 }); let w : Nat := 0; let peer : Option TwinPeer := none;
    let b := s.blk.pass w; let t := b.twin; let code := b.attachCode s.nvm.kp (s.nvm.lifecycle == .deployed) (freeBytes 16 b.freeCtr) peer;
    let m := (9 : Nat); code = some m ∧ b.mayAttach = true ∧ (t.attachRef.isSome = true ∨ b.flag R.TWN_CFG_AUTO = true ∧
    t.autoStop = false ∧ t.retryAt = 0))
  ∧ (let s : State := st (ready { retryAt := secU 2000 }); let w : Nat := 0; let peer : Option TwinPeer := none; let b := s.blk.pass w;
    let t := b.twin; let code := b.attachCode s.nvm.kp (s.nvm.lifecycle == .deployed) (freeBytes 16 b.freeCtr) peer; let m := (9 : Nat);
    code = some m ∧ b.mayAttach = true ∧ b.flag R.TWN_CFG_AUTO = true ∧ t.autoStop = false ∧ t.retryAt ≠ 0 ∧ t.retryAt ≤ b.up)
  ∧ (let s : State := pairing (ready {}); let w : Nat := 0; let peer : Option TwinPeer := some (mate (ready {})); let b := s.blk.pass w;
    let t := b.twin; let code := b.attachCode s.nvm.kp (s.nvm.lifecycle == .deployed) (freeBytes 16 b.freeCtr) peer;
    let x := mate (ready {}); let k := kek; code = none ∧ peer = some x ∧ s.nvm.kp = some k ∧ b.mayAttach = true ∧
    (t.attachRef.isSome = true ∨ b.flag R.TWN_CFG_AUTO = true ∧ t.autoStop = false ∧ t.retryAt = 0))
  ∧ (let s : State := pairing (wrs (ready {}) [(R.TWN_CFG_PRIO, 9)]); let w : Nat := 0; let peer : Option TwinPeer := some (mate (ready {}));
    let b := s.blk.pass w; let t := b.twin; let code := b.attachCode s.nvm.kp (s.nvm.lifecycle == .deployed) (freeBytes 16 b.freeCtr) peer;
    let x := mate (ready {}); let k := kek; code = none ∧ peer = some x ∧ s.nvm.kp = some k ∧ b.mayAttach = true ∧
    (t.attachRef.isSome = true ∨ b.flag R.TWN_CFG_AUTO = true ∧ t.autoStop = false ∧ t.retryAt = 0))
  ∧ (let s : State := pairing (ready { retryAt := 5 }); let w : Nat := 0; let peer : Option TwinPeer := some (mate (ready {}));
    let b := s.blk.pass w; let t := b.twin; let code := b.attachCode s.nvm.kp (s.nvm.lifecycle == .deployed) (freeBytes 16 b.freeCtr) peer;
    let x := mate (ready {}); let k := kek; code = none ∧ peer = some x ∧ s.nvm.kp = some k ∧ b.mayAttach = true ∧
    b.flag R.TWN_CFG_AUTO = true ∧ t.autoStop = false ∧ t.retryAt ≠ 0 ∧ t.retryAt ≤ b.up)
  ∧ (let s : State := st on; let w : Nat := 0; let b := s.blk.pass w; b.mayAttach = false)
  ∧ (let s : State := st { ring on (desc 0x40 0 [1]) with twin := { attachRef := some (⟨0, 0⟩, secU 1990) } }; let w : Nat := 0;
    let b := s.blk.pass w; let t := b.twin; let ref := (⟨0, 0⟩ : DRef); let x := secU 1990; t.attachRef = some (ref, x) ∧
    x + secU 10 ≤ b.up)
  ∧ (let s : State := st { ring on (desc 0x40 0 [1]) with twin := { attachRef := some (⟨0, 0⟩, secU 1990 + 1) } }; let w : Nat := 0;
    let b := s.blk.pass w; let t := b.twin; let ref := (⟨0, 0⟩ : DRef); let x := secU 1990 + 1; t.attachRef = some (ref, x) ∧
    b.up < x + secU 10)
  ∧ (let s : State := st (ring ({ on with part := { variant := .kt820 } }) (desc 0x40 0 ([1]))); let w : Nat := 0; let r : Nat := 0;
    let d : Desc := desc 0x40 0 ([1]); let b := s.blk.pass w; Ready b r d 0x40 ∧ byteAt d.data 8 = 1 ∧ b.part.variant.welt = false)
  ∧ (let s : State := st (ring ({ on with twin := { attachRef := some (⟨1, 0⟩, 0) } }) (desc 0x40 0 ([1]))); let w : Nat := 0;
    let r : Nat := 0; let d : Desc := desc 0x40 0 ([1]); let b := s.blk.pass w; let t := b.twin; Ready b r d 0x40 ∧ byteAt d.data 8 = 1 ∧
    b.part.variant.welt = true ∧ t.attachRef.isSome = true)
  ∧ (let s : State := st (ring (twin on {}) (desc 0x40 0 ([1]))); let w : Nat := 0; let r : Nat := 0; let d : Desc := desc 0x40 0 ([1]);
    let b := s.blk.pass w; let t := b.twin; Ready b r d 0x40 ∧ byteAt d.data 8 = 1 ∧ b.part.variant.welt = true ∧ t.attachRef = none ∧
    t.attached = true)
  ∧ (let s : State := st (ring (on) (desc 0x40 0 ([1]))); let w : Nat := 0; let r : Nat := 0; let d : Desc := desc 0x40 0 ([1]);
    let b := s.blk.pass w; let t := b.twin; Ready b r d 0x40 ∧ byteAt d.data 8 = 1 ∧ b.part.variant.welt = true ∧ t.attachRef = none ∧
    t.attached = false)
  ∧ (let s : State := st (ring (twin on { handed := true }) (desc 0x40 0 ([2]))); let w : Nat := 0; let r : Nat := 0;
    let d : Desc := desc 0x40 0 ([2]); let b := s.blk.pass w; Ready b r d 0x40 ∧ byteAt d.data 8 = 2 ∧ b.part.variant.welt = true ∧
    b.roleChange = true)
  ∧ (let s : State := st (ring (twin (onIn .follower) { role := 2 }) (desc 0x40 0 ([2]))); let w : Nat := 0; let r : Nat := 0;
    let d : Desc := desc 0x40 0 ([2]); let b := s.blk.pass w; Ready b r d 0x40 ∧ byteAt d.data 8 = 2 ∧ b.part.variant.welt = true ∧
    b.roleChange = false)
  ∧ (let s : State := st (twin (onIn .follower) { role := 2 }); let w : Nat := 0; let b := s.blk.pass w; let t := b.twin; t.attached = true ∧
    t.link = true)
  ∧ (let s : State := st (twin (onIn .locked) { role := 1 }); let w : Nat := 0; let b := s.blk.pass w; let t := b.twin; t.attached = true ∧
    t.link = true) :=
  ⟨by decide +kernel, by decide +kernel, by decide +kernel, by exact ⟨attach_fits rfl (by decide +kernel) (by decide +kernel) (mate_proof (by decide +kernel)) (by decide +kernel), rfl, rfl, by decide +kernel, by decide +kernel⟩, by exact ⟨attach_fits rfl (by decide +kernel) (by decide +kernel) (mate_proof (by decide +kernel)) (by decide +kernel), rfl, rfl, by decide +kernel, by decide +kernel⟩, by exact ⟨attach_fits rfl (by decide +kernel) (by decide +kernel) (mate_proof (by decide +kernel)) (by decide +kernel), rfl, rfl, by decide +kernel⟩, by decide +kernel, by decide +kernel, by decide +kernel, by decide +kernel, by decide +kernel, by decide +kernel, by decide +kernel, by decide +kernel, by decide +kernel, by decide +kernel, by decide +kernel⟩

/-- States and operands that meet the hypotheses of each clause of `Obligations.MirrorMarkersAndTwinCommands`. -/
theorem wit_MirrorMarkersAndTwinCommands :
  (let s : State := st (twin (onIn .follower) { role := 2 }); let w : Nat := 0; let blk : Bytes := []; let b := s.blk.pass w;
    let t := b.twin; t.attached = true ∧ t.link = true ∧ t.role = 2)
  ∧ (let s : State := st (twin on { role := 1, queue := 4 }); let w : Nat := 0; let blk : Bytes := []; let b := s.blk.pass w; let t := b.twin;
    t.attached = true ∧ t.link = true ∧ t.role ≠ 2)
  ∧ (let s : State := st on; let w : Nat := 0; let blk : Bytes := []; let b := s.blk.pass w; let t := b.twin;
    (t.attached = false ∨ t.link = false))
  ∧ (let s : State := st (twin on { role := 1 }); let w : Nat := 0; let full : Bool := true; let blk : Bytes := []; let b := s.blk.pass w;
    let t := b.twin; t.attached = true ∧ t.role = 1 ∧ (full = true ∨ t.queue ≠ 0 ∧ t.creditAt + b.creditU ≤ b.up))
  ∧ (let s : State := st (twin on { role := 1, queue := 1, creditAt := 0 }); let w : Nat := 0; let full : Bool := false; let blk : Bytes := [];
    let b := s.blk.pass w; let t := b.twin; t.attached = true ∧ t.role = 1 ∧ (full = true ∨ t.queue ≠ 0 ∧ t.creditAt + b.creditU ≤ b.up))
  ∧ (let s : State := st on; let w : Nat := 0; let blk : Bytes := []; let b := s.blk.pass w; let t := b.twin; t.role ≠ 1)
  ∧ (let s : State := st (twin on { role := 1 }); let w : Nat := 0; let blk : Bytes := []; let b := s.blk.pass w; let t := b.twin;
    t.attached = true ∧ t.role = 1)
  ∧ (let s : State := st (twin on { role := 1 }); let w : Nat := 0; let blk : Bytes := []; let b := s.blk.pass w; let t := b.twin;
    t.attached = true ∧ t.link = true ∧ b.ins.running = true)
  ∧ (let s : State := st (twin on { role := 1 }); let w : Nat := 0; let have4 : Bool := false; let blk : Bytes := []; let b := s.blk.pass w;
    let t := b.twin; t.attached = true ∧ t.link = true ∧ b.ins.running = true ∧
    (t.role ≠ 2 ∨ have4 = false ∨ t.rxMark = none ∨ t.txMark = none))
  ∧ (let s : State := st (twin (onIn .follower) { role := 2 }); let w : Nat := 0; let have4 : Bool := true; let blk : Bytes := [];
    let b := s.blk.pass w; let t := b.twin; t.attached = true ∧ t.link = true ∧ b.ins.running = true ∧
    (t.role ≠ 2 ∨ have4 = false ∨ t.rxMark = none ∨ t.txMark = none))
  ∧ (let s : State := st (twin (onIn .follower) { role := 2, txMark := some 5, rxMark := some (5, 0) }); let w : Nat := 0;
    let have4 : Bool := true; let blk : Bytes := []; let b := s.blk.pass w; let t := b.twin; let x := (5 : Int); let t3 := (5 : Int);
    t.attached = true ∧ t.link = true ∧ b.ins.running = true ∧ t.role = 2 ∧ have4 = true ∧ t.rxMark = some (x, b.ins.stepSum) ∧
    t.txMark = some t3 ∧ x ≤ t3)
  ∧ (let s : State := st (ring (on) (desc 0x40 0 ([3]))); let w : Nat := 0; let r : Nat := 0; let blk : Bytes := [];
    let d : Desc := desc 0x40 0 ([3]); let b := s.blk.pass w; let t := b.twin; Ready b r d 0x40 ∧ byteAt d.data 8 = 3 ∧
    b.part.variant.welt = true ∧ (t.attached = false ∨ t.role ≠ 1))
  ∧ (let s : State := st (ring (twin on { role := 1 }) (desc 0x40 0 ([3]))); let w : Nat := 0; let r : Nat := 0; let blk : Bytes := [];
    let d : Desc := desc 0x40 0 ([3]); let b := s.blk.pass w; let t := b.twin; Ready b r d 0x40 ∧ byteAt d.data 8 = 3 ∧
    b.part.variant.welt = true ∧ t.attached = true ∧ t.role = 1 ∧ t.peerTrack = false ∧ bitOf (byteAt d.data 9) 0 = false)
  ∧ (let s : State := st (ring (twin on { role := 1 }) (desc 0x40 0 ([3, 1]))); let w : Nat := 0; let r : Nat := 0; let blk : Bytes := [];
    let d : Desc := desc 0x40 0 ([3, 1]); let b := s.blk.pass w; let t := b.twin; Ready b r d 0x40 ∧ byteAt d.data 8 = 3 ∧
    b.part.variant.welt = true ∧ t.attached = true ∧ t.role = 1 ∧ (t.peerTrack = true ∨ bitOf (byteAt d.data 9) 0 = true) ∧
    b.roleChange = false ∧ b.modeReq = none)
  ∧ (let s : State := st (ring ({ onIn .commission with ses := [(0, { st := .opened, priv := 0x1FFF, ks := kek })] }) (desc 0x40 0 ([4])));
    let w : Nat := 0; let r : Nat := 0; let mode : Nat := 0; let blk : Bytes := wrapped; let d : Desc := desc 0x40 0 ([4]);
    let b := s.blk.pass w; let k := key32; Ready b r d 0x40 ∧ byteAt d.data 8 = 4 ∧ b.part.variant.welt = true ∧ b.mode = .commission ∧
    keyUnwrap (b.sesOf (b.ringOwner r)).ks (sliceB blk 0 40) = some k)
  ∧ (let s : State := st (ring (on) (desc 0x40 0 ([4]))); let w : Nat := 0; let r : Nat := 0; let mode : Nat := 0; let blk : Bytes := wrapped;
    let d : Desc := desc 0x40 0 ([4]); let b := s.blk.pass w; Ready b r d 0x40 ∧ byteAt d.data 8 = 4 ∧ b.part.variant.welt = true ∧
    (b.mode ≠ .commission ∨ keyUnwrap (b.sesOf (b.ringOwner r)).ks (sliceB blk 0 40) = none))
  ∧ (let s : State := st (ring (twin on { peerResetOk := true }) (desc 0x40 0 ([5]))); let w : Nat := 0; let r : Nat := 0;
    let blk : Bytes := []; let d : Desc := desc 0x40 0 ([5]); let b := s.blk.pass w; let t := b.twin; Ready b r d 0x40 ∧
    byteAt d.data 8 = 5 ∧ b.part.variant.welt = true ∧ t.attached = true ∧ t.peerResetOk = true)
  ∧ (let s : State := st (ring (twin on {}) (desc 0x40 0 ([5]))); let w : Nat := 0; let r : Nat := 0; let blk : Bytes := [];
    let d : Desc := desc 0x40 0 ([5]); let b := s.blk.pass w; let t := b.twin; Ready b r d 0x40 ∧ byteAt d.data 8 = 5 ∧
    b.part.variant.welt = true ∧ (t.attached = false ∨ t.peerResetOk = false))
  ∧ (let s : State := st (ring ({ on with twin := { xPs := -5, peerMode := 4, peerStatus := 255, peerSerial := 77 } }) (desc 0x40 0 ([6])));
    let w : Nat := 0; let r : Nat := 0; let blk : Bytes := []; let d : Desc := desc 0x40 0 ([6]); let b := s.blk.pass w; Ready b r d 0x40 ∧
    byteAt d.data 8 = 6 ∧ b.part.variant.welt = true) :=
  ⟨by decide +kernel, by decide +kernel, by decide +kernel, by decide +kernel, by decide +kernel, by decide +kernel, by decide +kernel, by decide +kernel, by decide +kernel, by decide +kernel, by decide +kernel, by decide +kernel, by decide +kernel, by decide +kernel, by exact ⟨by decide +kernel, by decide +kernel, by decide +kernel, by decide +kernel, key_unwraps (by decide +kernel) (by decide +kernel)⟩, by decide +kernel, by decide +kernel, by decide +kernel, by decide +kernel⟩

/-- States and operands that meet the hypotheses of each clause of `Obligations.ShortTime`. -/
theorem wit_ShortTime :
  (let frac : Nat := 65535; frac < 65536) :=
  by decide +kernel

end Sys2Proof.Tests
end

section
/-! The loss of the clocks of CFG and of OSCIN (01 R17, 15 R405). -/

namespace Sys2Proof.Machine

/-! ### The block after a reset -/

/-- What holds of the default and of every entry of a table holds of each value read from it. -/
theorem tget_mem_or_default {α : Type} (p : α → Prop) (d : α) (t : Tab α) (k : Nat) (hd : p d) (ht : ∀ e ∈ t, p e.2) :
    p (tget d t k) := by
  induction t with
  | nil => exact hd
  | cons e t ih =>
    rw [List.forall_mem_cons] at ht
    obtain ⟨he, ht⟩ := ht
    unfold tget
    split
    · exact he
    · exact ih ht

/-- A session survives a reset only as a lockout (11 R293, 17 R436). -/
theorem sesAfter_idle_or_locked (x : Ses) (group1 : Bool) (up chal : Nat) :
    (sesAfter x group1 up chal).st = .idle ∨ (sesAfter x group1 up chal).st = .locked := by
  unfold sesAfter
  split
  · exact .inl rfl
  · dsimp only
    split
    · exact .inr rfl
    · exact .inl rfl

theorem Blk.reInit_sesOf_idle_or_locked (b : Blk) (group1 : Bool) (f : Nat) :
    ((b.reInit group1).sesOf f).st = .idle ∨ ((b.reInit group1).sesOf f).st = .locked := by
  refine tget_mem_or_default (fun x : Ses => x.st = .idle ∨ x.st = .locked) _ _ f (.inl rfl) fun e he => ?_
  obtain ⟨g, -, rfl⟩ := List.mem_map.mp he
  exact sesAfter_idle_or_locked ..

/-- Of the registers a reset keeps those of KEEP alone (14 R371). -/
theorem Blk.rfGet_reInit_regs (b : Blk) (group1 : Bool) (k : Nat) :
    rfGet (b.reInit group1).regs k = if isKeepKey k then rfGet b.regs k else resetWord k :=
  rfGet_filter b.regs isKeepKey k

theorem Blk.reInit_cleared (b : Blk) (group1 : Bool) : Cleared b (b.reInit group1) := by
  have hregs (k : Nat) (hk : isKeepKey k = false) : rfGet (b.reInit group1).regs k = resetWord k := by
    rw [b.rfGet_reInit_regs, hk]; rfl
  exact ⟨rfl, rfl, rfl, rfl, rfl, rfl, rfl, rfl, rfl, rfl, rfl, rfl, rfl, rfl, rfl, rfl, rfl, rfl, rfl, rfl, rfl, rfl, rfl, rfl, rfl,
    hregs, b.reInit_sesOf_idle_or_locked group1⟩

/-! ### Which oscillator is noted as stopped -/

/-- The block with the crystal noted as stopped. -/
def Blk.noCrystal (b : Blk) : Blk := { b with rst := { b.rst with crystal := false } }

/-- The block with the start-up oscillator noted as failed. -/
def Blk.noStartOsc (b : Blk) : Blk := { b with rst := { b.rst with startOsc := false } }

/-- The block with OSCIN noted as stopped at this instant. -/
def Blk.noOscin (b : Blk) : Blk := { b with rst := { b.rst with oscin := false, oscinUp := b.up } }

theorem Blk.noCrystal_frame (b : Blk) : FrameM 0x1000 b b.noCrystal := FrameM.upd_rst b

theorem Blk.noStartOsc_frame (b : Blk) : FrameM 0x1000 b b.noStartOsc := FrameM.upd_rst b

theorem Blk.noOscin_frame (b : Blk) : FrameM 0x1000 b b.noOscin := FrameM.upd_rst b

/-! ### The commands, by the oscillators that still work -/

section
variable {s : State} {w : Nat}

theorem exec_cfgFallback_dormant (hx : (s.blk.pass w).rst.crystal = true) (ho : (s.blk.pass w).rst.startOsc = true)
    (hm : (s.blk.pass w).mode = .dormant) :
    exec (.cfgFallback w) s = .next { s with blk := Blk.settle s.blk (s.blk.pass w).noCrystal } := by
  change execCfgFallback w s = _
  simp only [execCfgFallback, State.upd, Blk.noCrystal, hx, ho, hm, Bool.not_true, beq_self_eq_true, if_true, Bool.false_eq_true, if_false]

theorem exec_cfgFallback_running (hx : (s.blk.pass w).rst.crystal = true) (ho : (s.blk.pass w).rst.startOsc = true)
    (hm : (s.blk.pass w).mode ≠ .dormant) :
    exec (.cfgFallback w) s
      = .next { s with blk := Blk.settle s.blk (((s.blk.pass w).noCrystal.setF R.RST_BOOT_CFG_FALLBACK).raise 0x16 0x89 0) } := by
  change execCfgFallback w s = _
  simp only [execCfgFallback, State.upd, Blk.noCrystal, hx, ho, beq_eq_false_iff_ne.mpr hm, Bool.not_true, Bool.false_eq_true, if_false]

theorem exec_cfgFallback_bothLost (hx : (s.blk.pass w).rst.crystal = true) (ho : (s.blk.pass w).rst.startOsc = false) :
    exec (.cfgFallback w) s = .next { s with blk := Blk.settle s.blk (s.blk.pass w).noCrystal.cfgLost } := by
  change execCfgFallback w s = _
  simp only [execCfgFallback, State.upd, Blk.noCrystal, hx, ho, Bool.not_true, Bool.not_false, if_true, Bool.false_eq_true, if_false]

theorem exec_startupOscillatorLost_crystalWorks (ho : (s.blk.pass w).rst.startOsc = true) (hx : (s.blk.pass w).rst.crystal = true) :
    exec (.startupOscillatorLost w) s = .next { s with blk := Blk.settle s.blk (s.blk.pass w).noStartOsc } := by
  change execStartupOscillatorLost w s = _
  simp only [execStartupOscillatorLost, State.upd, Blk.noStartOsc, hx, ho, Bool.not_true, if_true, Bool.false_eq_true, if_false]

theorem exec_startupOscillatorLost_bothLost (ho : (s.blk.pass w).rst.startOsc = true) (hx : (s.blk.pass w).rst.crystal = false) :
    exec (.startupOscillatorLost w) s = .next { s with blk := Blk.settle s.blk (s.blk.pass w).noStartOsc.cfgLost } := by
  change execStartupOscillatorLost w s = _
  simp only [execStartupOscillatorLost, State.upd, Blk.noStartOsc, hx, ho, Bool.not_true, Bool.false_eq_true, if_false]

theorem exec_oscinLost_raises (hi : (s.blk.pass w).rst.oscin = true) :
    exec (.oscinLost w) s = .next { s with blk := Blk.settle s.blk ((s.blk.pass w).noOscin.raise 0x17 0xFF 0) } := by
  change execOscinLost w s = _
  simp only [execOscinLost, State.upd, Blk.noOscin, hi, Bool.not_true, Bool.false_eq_true, if_false]

end

/-! ### Frames and effects of what they leave -/

theorem FrameM.trans {m : Nat} {a b c : Blk} (h : FrameM m a b) (k : FrameM m b c) : FrameM m a c := by
  rw [k.iff m a (Nat.and_self m)]; exact h

theorem Blk.flag_setF_self (b : Blk) (f : BF) (hw : f.w ≠ 0) (h : f.lo + f.w ≤ 32) : (b.setF f).flag f = true := by
  have hrd : (b.setF f).rd f = 1 := by
    rw [Blk.setF, Blk.rd_wr_self b f 1 h, Nat.mod_eq_of_lt (Nat.one_lt_two_pow hw)]
  rw [Blk.flag, hrd]; rfl

/-- Before S9 no error is raised (15, introduction). -/
theorem Blk.raise_of_not_done {b : Blk} (h : b.boot.done = false) (code unit detail : Nat) : b.raise code unit detail = b := by
  rw [Blk.raise, h]; rfl

/-- Settles O17: each clause is the case of its command that `exec` answers, a frame, and what a reset clears. -/
theorem clockLosses : Obligations.ClockLosses := by
  intro s w b
  refine ⟨fun hx ho hm => ?dormant, fun hx ho hm => ?running, fun hx ho => ?crystalLast, fun ho hx => ?startOscFirst,
    fun ho hx => ?startOscLast, fun hi => ?oscin, fun hi hd => ?oscinEarly⟩
  case dormant => exact ⟨_, exec_cfgFallback_dormant hx ho hm, .of b.noCrystal_frame rfl, rfl⟩
  case running =>
    have hset : FrameM 0x1010 b (b.noCrystal.setF R.RST_BOOT_CFG_FALLBACK) :=
      (b.noCrystal_frame.mono rfl).trans ((Blk.setF_frame ..).mono rfl)
    have hraise : FrameM 0xffffffffc b ((b.noCrystal.setF R.RST_BOOT_CFG_FALLBACK).raise 0x16 0x89 0) :=
      (hset.mono rfl).trans ((Blk.raise_frame ..).mono rfl)
    exact ⟨_, exec_cfgFallback_running hx ho hm, .of hraise rfl, _, rfl, .of hset rfl, rfl,
      Blk.flag_setF_self _ _ (by decide) (by decide)⟩
  case crystalLast =>
    have hframe : FrameM 0xffffffffc b b.noCrystal.cfgLost :=
      (b.noCrystal_frame.mono rfl).trans ((Blk.cfgLost_frame _).mono rfl)
    exact ⟨_, exec_cfgFallback_bothLost hx ho, .of hframe rfl, Blk.reInit_cleared .., rfl, ho⟩
  case startOscFirst => exact ⟨_, exec_startupOscillatorLost_crystalWorks ho hx, .of b.noStartOsc_frame rfl, rfl⟩
  case startOscLast =>
    have hframe : FrameM 0xffffffff4 b b.noStartOsc.cfgLost :=
      (b.noStartOsc_frame.mono rfl).trans (Blk.cfgLost_frame _)
    exact ⟨_, exec_startupOscillatorLost_bothLost ho hx, .of hframe rfl, Blk.reInit_cleared .., hx, rfl⟩
  case oscin =>
    have hframe : FrameM 0x7fc7fbfbc b (b.noOscin.raise 0x17 0xFF 0) :=
      (b.noOscin_frame.mono rfl).trans (Blk.raise_frame ..)
    exact ⟨_, exec_oscinLost_raises hi, .of hframe rfl, rfl⟩
  case oscinEarly =>
    have hsilent : b.noOscin.raise 0x17 0xFF 0 = b.noOscin := Blk.raise_of_not_done (b := b.noOscin) hd ..
    exact ⟨_, hsilent ▸ exec_oscinLost_raises hi, .of b.noOscin_frame rfl, rfl⟩

end Sys2Proof.Machine
end

section
/-! Every command answers a next state, and its own work changes only the pieces of its row in `touches`. -/

namespace Sys2Proof.Machine

/-- A list of pieces as the number that has their bits set. -/
def pieceBits (ps : List Piece) : Nat := ps.foldl (fun x p => x ||| 2 ^ p.ctorIdx) 0

theorem Frame.of_pieceBits {m : Nat} {ps : List Piece} {a b : Blk} (h : FrameM m a b) (hm : pieceBits ps = m) : Frame ps a b := .of h hm

/-- The command answers a next state: what it leaves settles, the fuses change only if it may write them, and its own work stays in `touches`. -/
def AnswersWithin (c : Instr) (s : State) : Prop :=
  ∃ (n : Nvm) (u : Blk), exec c s = .next { s with nvm := n, blk := Blk.settle s.blk u }
    ∧ (writesNvm c = false → n = s.nvm) ∧ Frame (touches c) (s.blk.pass c.wait) u

/-- A command that leaves the fuses alone. -/
theorem AnswersWithin.ofRuns {c : Instr} {s : State} {m : Nat}
    (h : ∃ u, exec c s = .next { s with blk := Blk.settle s.blk u } ∧ FrameM m (s.blk.pass c.wait) u)
    (hm : pieceBits (touches c) = m) : AnswersWithin c s := by
  obtain ⟨u, hexec, hframe⟩ := h
  exact ⟨s.nvm, u, hexec, fun _ => rfl, .of_pieceBits hframe hm⟩

/-- A command that may write the fuses. -/
theorem AnswersWithin.ofRunsNvm {c : Instr} {s : State} {m : Nat}
    (h : ∃ n u, exec c s = .next { s with nvm := n, blk := Blk.settle s.blk u } ∧ FrameM m (s.blk.pass c.wait) u)
    (hm : pieceBits (touches c) = m) (hw : writesNvm c = true) : AnswersWithin c s := by
  obtain ⟨n, u, hexec, hframe⟩ := h
  exact ⟨n, u, hexec, fun hn => Bool.noConfusion (hn.symm.trans hw), .of_pieceBits hframe hm⟩

/-- Each arm of `exec` is one operation, whose frame has the bits of the command's row in `touches`. -/
theorem exec_answersWithin (c : Instr) (s : State) : AnswersWithin c s :=
  match c with
  | .vinPowerOn w on => .ofRuns (execVinPowerOn_runs w on s) rfl
  | .resetN w on => .ofRuns (execResetN_runs w on s) rfl
  | .thermalTrip w tj => .ofRuns (execThermalTrip_runs w tj s) rfl
  | .watchdog w => .ofRuns (execWatchdog_runs w s) rfl
  | .devReset w f v => .ofRuns (execDevReset_runs w f v s) rfl
  | .vkeepPowerOn w => .ofRuns (execVkeepPowerOn_runs w s) rfl
  | .vkeepLost w => .ofRuns (execVkeepLost_runs w s) rfl
  | .perst w on => .ofRuns (execPerst_runs w on s) rfl
  | .flr w f => .ofRuns (execFlr_runs w f s) rfl
  | .benchReset w f index => .ofRuns (execBenchReset_runs w f index s) rfl
  | .engineReset w f index => .ofRuns (execEngineReset_runs w f index s) rfl
  | .portReset w f index => .ofRuns (execPortReset_runs w f index s) rfl
  | .unitResetDone w kind index => .ofRuns (execUnitResetDone_runs w kind index s) rfl
  | .bootStart w => .ofRuns (execBootStart_runs w s) rfl
  | .bootStepDone w => .ofRunsNvm (execBootStepDone_runs w s) rfl rfl
  | .bootStepFail w result lanes0 lanes1 => .ofRuns (execBootStepFail_runs w result lanes0 lanes1 s) rfl
  | .bootRestart w => .ofRuns (execBootRestart_runs w s) rfl
  | .cfgFallback w => .ofRuns (execCfgFallback_runs w s) rfl
  | .oscinLost w => .ofRuns (execOscinLost_runs w s) rfl
  | .modeRequest w r => .ofRuns (execModeRequest_runs w r s) rfl
  | .drainDone w => .ofRuns (execDrainDone_runs w s) rfl
  | .diagnosticExitDone w ok => .ofRuns (execDiagnosticExitDone_runs w ok s) rfl
  | .lockGained w => .ofRuns (execLockGained_runs w s) rfl
  | .lockLost w => .ofRuns (execLockLost_runs w s) rfl
  | .policySetFeatures w r => .ofRuns (execPolicySetFeatures_runs w r s) rfl
  | .policySetGateList w r img => .ofRuns (execPolicySetGateList_runs w r img s) rfl
  | .policySetPortLpi w r => .ofRuns (execPolicySetPortLpi_runs w r s) rfl
  | .awlCal w r => .ofRuns (execAwlCal_runs w r s) rfl
  | .clientPolicy w r img => .ofRuns (execClientPolicy_runs w r img s) rfl
  | .serviceAddr w r img => .ofRuns (execServiceAddr_runs w r img s) rfl
  | .selftest w r buf => .ofRuns (execSelftest_runs w r buf s) rfl
  | .selftestDone w => .ofRuns (execSelftestDone_runs w s) rfl
  | .tbsNow0Read w f => .ofRuns (execTbsNow0Read_runs w f s) rfl
  | .keepRtcLoad w => .ofRuns (execKeepRtcLoad_runs w s) rfl
  | .leapInstall w r => .ofRuns (execLeapInstall_runs w r s) rfl
  | .leapCancel w r => .ofRuns (execLeapCancel_runs w r s) rfl
  | .leapWarnStart w => .ofRuns (execLeapWarnStart_runs w s) rfl
  | .smearSample w => .ofRuns (execSmearSample_runs w s) rfl
  | .smearEnd w => .ofRuns (execSmearEnd_runs w s) rfl
  | .timeAdjustOffset w r => .ofRuns (execTimeAdjustOffset_runs w r s) rfl
  | .timeAdjustSet w r => .ofRuns (execTimeAdjustSet_runs w r s) rfl
  | .slewCancel w r => .ofRuns (execSlewCancel_runs w r s) rfl
  | .slewDone w => .ofRuns (execSlewDone_runs w s) rfl
  | .lasterArm w r block => .ofRuns (execLasterArm_runs w r block s) rfl
  | .lasterCancel w r => .ofRuns (execLasterCancel_runs w r s) rfl
  | .lasterSpillFill w ix => .ofRuns (execLasterSpillFill_runs w ix s) rfl
  | .lasterIssue w ix => .ofRuns (execLasterIssue_runs w ix s) rfl
  | .launchEntry w ix => .ofRuns (execLaunchEntry_runs w ix s) rfl
  | .gateListEntry w ix dev => .ofRuns (execGateListEntry_runs w ix dev s) rfl
  | .outputOn w ix => .ofRuns (execOutputOn_runs w ix s) rfl
  | .outputOff w ix => .ofRuns (execOutputOff_runs w ix s) rfl
  | .captureOpen w ix => .ofRuns (execCaptureOpen_runs w ix s) rfl
  | .captureClose w ix => .ofRuns (execCaptureClose_runs w ix s) rfl
  | .outEdge w u => .ofRuns (execOutEdge_runs w u s) rfl
  | .keyRoll w n expiry => .ofRuns (execKeyRoll_runs w n expiry s) rfl
  | .leapEntry w => .ofRuns (execLeapEntry_runs w s) rfl
  | .adjustEntry w ix => .ofRuns (execAdjustEntry_runs w ix s) rfl
  | .holdCheck w => .ofRuns (execHoldCheck_runs w s) rfl
  | .ptpSweep w p n client => .ofRuns (execPtpSweep_runs w p n client s) rfl
  | .hostEvent w ix => .ofRuns (execHostEvent_runs w ix s) rfl
  | .synth w e => .ofRuns (execSynth_runs w e s) rfl
  | .gnssMessage w slot bytes => .ofRuns (execGnssMessage_runs w slot bytes s) rfl
  | .refComparison w slot t tRef => .ofRuns (execRefComparison_runs w slot t tRef s) rfl
  | .refEvalTick w slot missed => .ofRuns (execRefEvalTick_runs w slot missed s) rfl
  | .qualTimerExpire w slot => .ofRuns (execQualTimerExpire_runs w slot s) rfl
  | .wtrTimerExpire w slot => .ofRuns (execWtrTimerExpire_runs w slot s) rfl
  | .sentinelRound w => .ofRuns (execSentinelRound_runs w s) rfl
  | .ensembleUpdate w => .ofRuns (execEnsembleUpdate_runs w s) rfl
  | .acqNarrow w => .ofRuns (execAcqNarrow_runs w s) rfl
  | .refForce w r => .ofRuns (execRefForce_runs w r s) rfl
  | .refRelease w r => .ofRuns (execRefRelease_runs w r s) rfl
  | .refLockout w r => .ofRuns (execRefLockout_runs w r s) rfl
  | .refClear w r => .ofRuns (execRefClear_runs w r s) rfl
  | .refClearWtr w r => .ofRuns (execRefClearWtr_runs w r s) rfl
  | .refSetPrio w r => .ofRuns (execRefSetPrio_runs w r s) rfl
  | .refAcceptPath w r => .ofRuns (execRefAcceptPath_runs w r s) rfl
  | .refSetBw w r => .ofRuns (execRefSetBw_runs w r s) rfl
  | .refSetMode w r => .ofRuns (execRefSetMode_runs w r s) rfl
  | .tempSample w ok t => .ofRuns (execTempSample_runs w ok t s) rfl
  | .heelLearnSample w => .ofRuns (execHeelLearnSample_runs w s) rfl
  | .outputRealign w r => .ofRuns (execOutputRealign_runs w r s) rfl
  | .realignStart w u => .ofRuns (execRealignStart_runs w u s) rfl
  | .realignDone w u => .ofRuns (execRealignDone_runs w u s) rfl
  | .firstAlign w u => .ofRuns (execFirstAlign_runs w u s) rfl
  | .eyeletEdge w e high held pos phase => .ofRuns (execEyeletEdge_runs w e high held pos phase s) rfl
  | .mismatch w sensed => .ofRuns (execMismatch_runs w sensed s) rfl
  | .stuckOn w e => .ofRuns (execStuckOn_runs w e s) rfl
  | .chatOff w e => .ofRuns (execChatOff_runs w e s) rfl
  | .nostop w e => .ofRuns (execNostop_runs w e s) rfl
  | .freqGateEnd w e => .ofRuns (execFreqGateEnd_runs w e s) rfl
  | .tbLost w back => .ofRuns (execTbLost_runs w back s) rfl
  | .tbBack w => .ofRuns (execTbBack_runs w s) rfl
  | .awlRecordDeliver w e => .ofRuns (execAwlRecordDeliver_runs w e s) rfl
  | .pinStart w f => .ofRuns (execPinStart_runs w f s) rfl
  | .calPeriodic w tj => .ofRuns (execCalPeriodic_runs w tj s) rfl
  | .calStepDone w edge diff dly => .ofRuns (execCalStepDone_runs w edge diff dly s) rfl
  | .frameReceived w p bs age var bad => .ofRuns (execFrameReceived_runs w p bs age var bad s) rfl
  | .linkChange w p lock fec aligned localFault remoteFault lpi => .ofRuns (execLinkChange_runs w p lock fec aligned localFault remoteFault lpi s) rfl
  | .pauseExpire w p => .ofRuns (execPauseExpire_runs w p s) rfl
  | .storm w p => .ofRuns (execStorm_runs w p s) rfl
  | .stormEnd w p => .ofRuns (execStormEnd_runs w p s) rfl
  | .frameStart w p => .ofRuns (execFrameStart_runs w p s) rfl
  | .lpiEnter w p => .ofRuns (execLpiEnter_runs w p s) rfl
  | .lpiWake w p => .ofRuns (execLpiWake_runs w p s) rfl
  | .qlTimeout w p => .ofRuns (execQlTimeout_runs w p s) rfl
  | .esmcTx w p => .ofRuns (execEsmcTx_runs w p s) rfl
  | .gclCommit w f p => .ofRuns (execGclCommit_runs w f p s) rfl
  | .gclAbort w f p => .ofRuns (execGclAbort_runs w f p s) rfl
  | .prtGclDataAccess w f p write v => .ofRuns (execPrtGclDataAccess_runs w f p write v s) rfl
  | .txFrame w r data => .ofRuns (execTxFrame_runs w r data s) rfl
  | .txFrameDone w => .ofRuns (execTxFrameDone_runs w s) rfl
  | .rxBuffer w r => .ofRuns (execRxBuffer_runs w r s) rfl
  | .excDeliver w => .ofRuns (execExcDeliver_runs w s) rfl
  | .dispatchAssign w => .ofRuns (execDispatchAssign_runs w s) rfl
  | .engineInvoke w lane hit => .ofRuns (execEngineInvoke_runs w lane hit s) rfl
  | .bucketArrive w lane => .ofRuns (execBucketArrive_runs w lane s) rfl
  | .patternReturn w lane code instr scratch => .ofRuns (execPatternReturn_runs w lane code instr scratch s) rfl
  | .overrun w lane instr scratch => .ofRuns (execOverrun_runs w lane instr scratch s) rfl
  | .bucketLeaseExpire w lane => .ofRuns (execBucketLeaseExpire_runs w lane s) rfl
  | .closerCommit w p => .ofRuns (execCloserCommit_runs w p s) rfl
  | .fairEpoch w => .ofRuns (execFairEpoch_runs w s) rfl
  | .ageShed w => .ofRuns (execAgeShed_runs w s) rfl
  | .ageingScan w => .ofRuns (execAgeingScan_runs w s) rfl
  | .ctLookup w r => .ofRuns (execCtLookup_runs w r s) rfl
  | .ctUpsert w r => .ofRuns (execCtUpsert_runs w r s) rfl
  | .ctDelete w r => .ofRuns (execCtDelete_runs w r s) rfl
  | .ctResetCounts w r => .ofRuns (execCtResetCounts_runs w r s) rfl
  | .ctFlush w r => .ofRuns (execCtFlush_runs w r s) rfl
  | .ctScanNow w r => .ofRuns (execCtScanNow_runs w r s) rfl
  | .patternLoad w r img => .ofRuns (execPatternLoad_runs w r img s) rfl
  | .benchDrained w parity => .ofRuns (execBenchDrained_runs w parity s) rfl
  | .keyInstall w r blk => .ofRuns (execKeyInstall_runs w r blk s) rfl
  | .keyRetire w r => .ofRuns (execKeyRetire_runs w r s) rfl
  | .keyEmpty w n => .ofRuns (execKeyEmpty_runs w n s) rfl
  | .aged w k => .ofRuns (execAged_runs w k s) rfl
  | .resealStart w lane => .ofRuns (execResealStart_runs w lane s) rfl
  | .grantExpire w ix msg => .ofRuns (execGrantExpire_runs w ix msg s) rfl
  | .clientRenew w p m msg => .ofRuns (execClientRenew_runs w p m msg s) rfl
  | .announceTimeout w p who => .ofRuns (execAnnounceTimeout_runs w p who s) rfl
  | .followUp w => .ofRuns (execFollowUp_runs w s) rfl
  | .maxResExpire w p id => .ofRuns (execMaxResExpire_runs w p id s) rfl
  | .asymEstimateDone w p => .ofRuns (execAsymEstimateDone_runs w p s) rfl
  | .sesOpen w f => .ofRuns (execSesOpen_runs w f s) rfl
  | .sessionVerifyDone w f => .ofRuns (execSessionVerifyDone_runs w f s) rfl
  | .sesClose w f => .ofRuns (execSesClose_runs w f s) rfl
  | .lockoutEnd w f => .ofRuns (execLockoutEnd_runs w f s) rfl
  | .idleTimeout w f => .ofRuns (execIdleTimeout_runs w f s) rfl
  | .sesProvLoad w f => .ofRunsNvm (execSesProvLoad_runs w f s) rfl rfl
  | .ringEnable w r => .ofRuns (execRingEnable_runs w r s) rfl
  | .ringDisable w r => .ofRuns (execRingDisable_runs w r s) rfl
  | .doorbellPoll w vals lost => .ofRuns (execDoorbellPoll_runs w vals lost s) rfl
  | .hrgNudge w f vals => .ofRuns (execHrgNudge_runs w f vals s) rfl
  | .descriptorFetch w r data => .ofRuns (execDescriptorFetch_runs w r data s) rfl
  | .eventRingEnable w f => .ofRuns (execEventRingEnable_runs w f s) rfl
  | .anchor w => .ofRuns (execAnchor_runs w s) rfl
  | .interrupt w f v => .ofRuns (execInterrupt_runs w f v s) rfl
  | .statsSnapshot w r => .ofRuns (execStatsSnapshot_runs w r s) rfl
  | .lcsArm w f v => .ofRuns (execLcsArm_runs w f v s) rfl
  | .lcsGo w f v stop => .ofRunsNvm (execLcsGo_runs w f v stop s) rfl rfl
  | .lcsKeyInstall w f v => .ofRunsNvm (execLcsKeyInstall_runs w f v s) rfl rfl
  | .lcsKeyErase w f v => .ofRunsNvm (execLcsKeyErase_runs w f v s) rfl rfl
  | .optWriteStart w f copyB => .ofRunsNvm (execOptWriteStart_runs w f copyB s) rfl rfl
  | .optWriteDone w bytes fault => .ofRunsNvm (execOptWriteDone_runs w bytes fault s) rfl rfl
  | .raiseSvn w f => .ofRunsNvm (execRaiseSvn_runs w f s) rfl rfl
  | .weltLinkUp w => .ofRuns (execWeltLinkUp_runs w s) rfl
  | .weltLinkLost w fails => .ofRuns (execWeltLinkLost_runs w fails s) rfl
  | .arbTest w ok => .ofRuns (execArbTest_runs w ok s) rfl
  | .attachAttempt w peer => .ofRuns (execAttachAttempt_runs w peer s) rfl
  | .attachRetry w peer => .ofRuns (execAttachRetry_runs w peer s) rfl
  | .mirrorApply w item => .ofRuns (execMirrorApply_runs w item s) rfl
  | .mirrorCreditTimeout w full => .ofRuns (execMirrorCreditTimeout_runs w full s) rfl
  | .mirrorSync w => .ofRuns (execMirrorSync_runs w s) rfl
  | .markerTx w => .ofRuns (execMarkerTx_runs w s) rfl
  | .markerRx w age mode status have4 t1 t4 => .ofRuns (execMarkerRx_runs w age mode status have4 t1 t4 s) rfl
  | .failBlockRx w handover => .ofRuns (execFailBlockRx_runs w handover s) rfl
  | .twarbBChange w level => .ofRuns (execTwarbBChange_runs w level s) rfl
  | .takeover w => .ofRuns (execTakeover_runs w s) rfl
  | .twinAttach w r => .ofRuns (execTwinAttach_runs w r s) rfl
  | .attachTimeout w => .ofRuns (execAttachTimeout_runs w s) rfl
  | .twinDetach w r peer => .ofRuns (execTwinDetach_runs w r peer s) rfl
  | .twinSwitchover w r => .ofRuns (execTwinSwitchover_runs w r s) rfl
  | .twinSetKey w r blk => .ofRunsNvm (execTwinSetKey_runs w r blk s) rfl rfl
  | .twinResetPeer w r => .ofRuns (execTwinResetPeer_runs w r s) rfl
  | .twinCommandedReset w => .ofRuns (execTwinCommandedReset_runs w s) rfl
  | .twinStatus w r => .ofRuns (execTwinStatus_runs w r s) rfl
  | .hostStall w => .ofRuns (execHostStall_runs w s) rfl
  | .storeTimeout w lane => .ofRuns (execStoreTimeout_runs w lane s) rfl
  | .egExpire w => .ofRuns (execEgExpire_runs w s) rfl
  | .txwExpire w => .ofRuns (execTxwExpire_runs w s) rfl
  | .errorRaised w code unit detail item => .ofRuns (execErrorRaised_runs w code unit detail item s) rfl
  | .errorHandlingDone w => .ofRuns (execErrorHandlingDone_runs w s) rfl
  | .goInject w f v => .ofRuns (execGoInject_runs w f v s) rfl
  | .errLogRead w f ix => .ofRuns (execErrLogRead_runs w f ix s) rfl
  | .counterLoRead w f off => .ofRuns (execCounterLoRead_runs w f off s) rfl
  | .hldOmisRead w f u => .ofRuns (execHldOmisRead_runs w f u s) rfl
  | .pmcCntLoRead w f ix => .ofRuns (execPmcCntLoRead_runs w f ix s) rfl
  | .pmcCntHiWrite w f ix v => .ofRuns (execPmcCntHiWrite_runs w f ix v s) rfl
  | .pmcCntLoWrite w f ix v => .ofRuns (execPmcCntLoWrite_runs w f ix v s) rfl
  | .pmcWrap w ix n engine entry offset idle => .ofRuns (execPmcWrap_runs w ix n engine entry offset idle s) rfl
  | .gsumReport w f => .ofRuns (execGsumReport_runs w f s) rfl
  | .evtGintEnWrite w f v => .ofRuns (execEvtGintEnWrite_runs w f v s) rfl
  | .registerWrite w f off be write vals => .ofRunsNvm (execRegisterWrite_runs w f off be write vals s) rfl rfl
  | .startupOscillatorLost w => .ofRuns (execStartupOscillatorLost_runs w s) rfl
  | .pcieCompletionTimeout w r => .ofRuns (execPcieCompletionTimeout_runs w r s) rfl
  | .clientTableLockTimeout w => .ofRuns (execClientTableLockTimeout_runs w s) rfl
  | .ctFlushDone w => .ofRuns (execCtFlushDone_runs w s) rfl
  | .ctScanDone w => .ofRuns (execCtScanDone_runs w s) rfl
  | .bothClaimSettle w => .ofRuns (execBothClaimSettle_runs w s) rfl

/-- Settles O3, by the case of each command. -/
theorem everyCommandAnswers : Obligations.EveryCommandAnswers := exec_answersWithin

end Sys2Proof.Machine
end

section
/-! What the device derives after a command (02 R34, 16 R418, 17 R443, 12 R331). -/

namespace Sys2Proof.Machine

/-! ### Event rings only add to the output -/

theorem evtWrite_out_suffix (pl : EvtPlace) (rec : Bytes) (x : Evt × List Emit) : x.2 <:+ (evtWrite pl rec x).2 := ⟨[_, _], rfl⟩

theorem evtWriteCounted_out_suffix (pl : EvtPlace) (up ty : Nat) (rec : Bytes) (x : Evt × List Emit) :
    x.2 <:+ (evtWriteCounted pl up ty rec x).2 := by
  unfold evtWriteCounted
  dsimp only
  split <;> exact evtWrite_out_suffix pl rec x

theorem evtResume_out_suffix (pl : EvtPlace) (up now stepGen : Nat) (valid : Bool) (x : Evt × List Emit) :
    x.2 <:+ (evtResume pl up now stepGen valid x).2 := by
  unfold evtResume
  split
  · exact (evtWriteCounted_out_suffix pl up 3 _ ({ x.1 with gap := false, lostNow := 0 }, x.2)).trans (evtWrite_out_suffix pl _ _)
  · exact List.suffix_refl _

theorem evtOffer_out_suffix (pl : EvtPlace) (up now stepGen : Nat) (valid : Bool) (ty : Nat) (rec : Bytes) (x : Evt × List Emit) :
    x.2 <:+ (evtOffer pl up now stepGen valid ty rec x).2 := by
  have hresume := evtResume_out_suffix pl up now stepGen valid x
  unfold evtOffer
  dsimp only
  split
  · exact hresume
  · exact hresume.trans (evtWriteCounted_out_suffix ..)

/-- From `a` to `b` what was put out stays and is only added to, and an event ring that does not run is left alone (11 R310, R312). -/
structure AddsRecords (a b : Blk) : Prop where
  out_suffix : a.out <:+ b.out
  evtOf_stopped : ∀ f, (a.evtOf f).running = false → b.evtOf f = a.evtOf f

theorem AddsRecords.refl (a : Blk) : AddsRecords a a := ⟨List.suffix_refl _, fun _ _ => rfl⟩

theorem AddsRecords.trans {a b c : Blk} (h : AddsRecords a b) (k : AddsRecords b c) : AddsRecords a c where
  out_suffix := h.out_suffix.trans k.out_suffix
  evtOf_stopped f hf := by
    have hb := h.evtOf_stopped f hf
    exact (k.evtOf_stopped f (by rw [hb, hf])).trans hb

theorem AddsRecords.foldl {α : Type} {g : Blk → α → Blk} (hg : ∀ b x, AddsRecords b (g b x)) (l : List α) (b : Blk) :
    AddsRecords b (l.foldl g b) := by
  induction l generalizing b with
  | nil => exact .refl b
  | cons x l ih => exact (hg b x).trans (ih (g b x))

/-- A running event ring may be set, and the output extended. -/
theorem AddsRecords.ofRunning {b : Blk} {f : Nat} (hf : (b.evtOf f).running = true) (x : Evt) {o : List Emit} (ho : b.out <:+ o) :
    AddsRecords b { b with evts := tput b.evts f x, out := o } where
  out_suffix := ho
  evtOf_stopped g hg := tget_tput_ne _ _ _ (by rintro rfl; exact Bool.noConfusion (hg.symm.trans hf))

theorem Blk.offer_addsRecords (b : Blk) (f ty : Nat) (rec : Bytes) : AddsRecords b (b.offer f ty rec) := by
  unfold Blk.offer
  dsimp only
  split
  · next hf => exact .ofRunning hf _ (evtOffer_out_suffix (x := (b.evtOf f, b.out)) ..)
  · exact .refl b

theorem Blk.gsumOne_addsRecords (b : Blk) (old f : Nat) : AddsRecords b (b.gsumOne old f) := by
  unfold Blk.gsumOne
  dsimp only
  split
  · exact .refl b
  · next hrun =>
    obtain ⟨hf, -⟩ : (b.evtOf f).running = true ∧ ¬b.gsum = old := by simpa using hrun
    have hset (x : Evt) : AddsRecords b { b with evts := tput b.evts f x } := .ofRunning hf x (List.suffix_refl _)
    split
    · exact hset _
    · exact (hset _).trans (Blk.offer_addsRecords ..)

/-! ### The mirror of a twin's leader -/

theorem Blk.mirrored_out_suffix (old b : Blk) : b.out <:+ (Blk.mirrored old b).2 := by
  unfold Blk.mirrored
  dsimp only
  split
  · split
    · exact List.suffix_refl _
    · exact List.suffix_append _ _
  · exact List.suffix_refl _

/-- The mirror changes nothing of the twin but the count of blocks that wait for a credit and the time of the last one. -/
theorem Blk.mirrored_twin (old b : Blk) : ∃ q c, (Blk.mirrored old b).1 = { b.twin with queue := q, creditAt := c } := by
  unfold Blk.mirrored
  dsimp only
  split
  · split <;> exact ⟨_, _, rfl⟩
  · exact ⟨_, _, rfl⟩

theorem Blk.mirrored_twin_of_not_leader (old : Blk) {b : Blk} (h : b.twin.role ≠ 1) : (Blk.mirrored old b).1 = b.twin := by
  rw [Blk.mirrored, if_neg (by simp [h])]

/-! ### What settles -/

/-- The reports of IDC_GSUM, on the block with its sticky bits and chaining set. -/
theorem Blk.gsumAll_addsRecords (old b : Blk) :
    AddsRecords b { b with evts := (Blk.gsumAll old b).1, out := (Blk.gsumAll old b).2 } := by
  obtain ⟨hout, hevt⟩ := AddsRecords.foldl (fun b f => b.gsumOne_addsRecords old.gsum f) (List.range 4) b
  exact ⟨hout, hevt⟩

theorem Blk.settle_addsRecords (a b : Blk) : AddsRecords b (Blk.settle a b) := by
  obtain ⟨hout, hevt⟩ := Blk.gsumAll_addsRecords a b.derive
  exact ⟨hout.trans (Blk.mirrored_out_suffix ..), hevt⟩

theorem Blk.settle_frame (a b : Blk) : FrameM 0xa000a0008 b (Blk.settle a b) := by
  have hderive : FrameM 0xa000a0008 b b.derive := b.derive_frame.mono rfl
  have hreport : FrameM 0xa000a0008 b { b.derive with evts := (Blk.gsumAll a b.derive).1, out := (Blk.gsumAll a b.derive).2 } :=
    hderive.trans ((FrameM.upd_out_evts _).mono rfl)
  exact hreport.trans ((FrameM.upd_out_twin _).mono rfl)

/-- Settles O4: each clause is what one of the three parts of `Blk.settle` does. -/
theorem settleChangesOnly : Obligations.SettleChangesOnly := by
  intro a b
  obtain ⟨⟨l, hl⟩, hevt⟩ := Blk.settle_addsRecords a b
  have htwin : b.twin.role ≠ 1 → (Blk.settle a b).twin = b.twin := fun h => Blk.mirrored_twin_of_not_leader a h
  exact ⟨.of (Blk.settle_frame a b) rfl, rfl, rfl, ⟨l, hl.symm⟩, Blk.mirrored_twin .., htwin, hevt⟩

end Sys2Proof.Machine
end

section
/-! MODE_REQUEST, the drain, the exit from DIAGNOSTIC and the FEATURES selector (02 R37 to R40). -/

namespace Sys2Proof.Machine

/-! ### What a mode change leaves -/

theorem Blk.changeMode_modes (b : Blk) (m : Mode) (cause : Nat) :
    (b.changeMode m cause).mode = m ∧ (b.changeMode m cause).lastMode = b.mode ∧ (b.changeMode m cause).entryCause = cause := by
  have hroute (x : Blk) (tail : Bytes) : FrameM 0x20008 x (x.route 0 4 0 0 x.ins.now tail) := Blk.route_frame ..
  exact ⟨(hroute _ _).same .mode rfl, (hroute _ _).same .lastMode rfl, (hroute _ _).same .entryCause rfl⟩

/-- Once the mode has changed, entering it changes neither the mode nor its causes. -/
theorem Blk.modeEnter_after (b : Blk) (m : Mode) (cause : Nat) : FrameM 0x489eb0038 (b.changeMode m cause) (b.modeEnter m cause) := by
  have hrefs (x : Blk) (v : Refs) : FrameM 0x489eb0038 x { x with refs := v } := (FrameM.upd_refs x).mono rfl
  have hentered (x : Blk) (v : Refs) : FrameM 0x489eb0038 x (Blk.linksSync { x with refs := v }).refsSettle :=
    ((hrefs x v).trans ((Blk.linksSync_frame _).mono rfl)).trans ((Blk.refsSettle_frame _).mono rfl)
  unfold Blk.modeEnter
  dsimp only
  split <;> split
  · exact hentered ..
  · exact (hentered ..).trans (hrefs ..)
  · exact hentered ..
  · exact (hentered ..).trans (hrefs ..)

theorem Blk.modeEnter_modes (b : Blk) (m : Mode) (cause : Nat) :
    (b.modeEnter m cause).mode = m ∧ (b.modeEnter m cause).lastMode = b.mode ∧ (b.modeEnter m cause).entryCause = cause := by
  have hafter := b.modeEnter_after m cause
  obtain ⟨hmode, hlast, hcause⟩ := b.changeMode_modes m cause
  exact ⟨(hafter.same .mode rfl).trans hmode, (hafter.same .lastMode rfl).trans hlast, (hafter.same .entryCause rfl).trans hcause⟩

/-! ### A descriptor that may begin -/

theorem Blk.withDesc_of_ready {b : Blk} {r op : Nat} {d : Desc} {p : Bytes → Bool} (h : Ready b r d op) (hp : p d.data = true)
    (f : DRef → Bytes → Blk → Blk) : b.withDesc r op p f = f ⟨r, d.id⟩ d.data (b.beginDesc r d) := by
  obtain ⟨hnext, hop⟩ := h
  simp only [Blk.withDesc, hnext, hop, hp, beq_self_eq_true, Bool.and_self, if_true]

/-! ### MODE_REQUEST -/

section
variable {c : Blk} {lc : Lifecycle} {ref : DRef} {d : Bytes}

theorem Blk.modeRequest_unnamed (ht : bitsOf (byteAt d 8) 0 3 ∈ [0, 1, 4, 5, 6]) : c.modeRequest lc ref d = c.complete ref stMalformed [] := by
  simp only [List.mem_cons, List.not_mem_nil, or_false] at ht
  exact if_pos ht

theorem Blk.modeRequest_diagnostic (ht : bitsOf (byteAt d 8) 0 3 = 7) (hm : c.mode = .commission) (hreq : c.modeReq = none)
    (hrole : c.roleChange = false) : c.modeRequest lc ref d = (c.modeEnter .diagnostic 1).complete ref stOk [] := by
  simp [Blk.modeRequest, ht, hm, hreq, hrole, Mode.code]

theorem Blk.modeRequest_commission (ht : bitsOf (byteAt d 8) 0 3 = 2) (hm : c.mode ∈ [.acquire, .locked, .holdover]) (hreq : c.modeReq = none)
    (hrole : c.roleChange = false) (ha : c.twin.attached = false) : c.modeRequest lc ref d = c.askBegin ref false := by
  simp only [List.mem_cons, List.not_mem_nil, or_false] at hm
  rcases hm with hm | hm | hm <;> simp [Blk.modeRequest, Blk.askCommission, ht, hm, hreq, hrole, ha, Mode.code, Mode.serving]

/-- Whether ACQUIRE may be requested from COMMISSION (02 R38). -/
def Blk.mayAcquire (c : Blk) (lc : Lifecycle) : Bool :=
  !([Lifecycle.blank, .retired, .rma].contains lc) && c.opLoaded && !c.err.machineFault && !c.err.oscLost

theorem Blk.beginDesc_mayAcquire (b : Blk) (r : Nat) (x : Desc) (lc : Lifecycle) : (b.beginDesc r x).mayAcquire lc = b.mayAcquire lc := rfl

theorem Blk.askAcquire_of_commission (hm : c.mode = .commission) :
    c.askAcquire lc ref = if c.mayAcquire lc then (c.modeEnter .acquire 1).complete ref stOk [] else c.complete ref stDenied [] := by
  have hdeny : (c.mode ≠ .commission ∨ lc = .blank ∨ lc = .retired ∨ lc = .rma ∨ !c.opLoaded ∨ c.err.machineFault ∨ c.err.oscLost)
      ↔ ¬c.mayAcquire lc = true := by
    simp only [Blk.mayAcquire, hm, List.contains_cons, List.contains_nil, ne_eq, not_true, false_or, Bool.and_eq_true, Bool.not_eq_true',
      Bool.or_eq_false_iff, beq_eq_false_iff_ne, not_and_or, Bool.not_eq_false, Bool.not_eq_true, not_not, and_true, or_assoc]
  rw [Blk.askAcquire, if_congr hdeny rfl rfl, ite_not]

theorem Blk.modeRequest_acquire (ht : bitsOf (byteAt d 8) 0 3 = 3) (hm : c.mode = .commission) (hreq : c.modeReq = none)
    (hrole : c.roleChange = false) :
    c.modeRequest lc ref d = if c.mayAcquire lc then (c.modeEnter .acquire 1).complete ref stOk [] else c.complete ref stDenied [] := by
  rw [← Blk.askAcquire_of_commission hm]
  simp [Blk.modeRequest, ht, hm, hreq, hrole, Mode.code]

end

theorem exec_modeRequest_of_ready {s : State} {w r : Nat} {d : Desc} (h : Ready (s.blk.pass w) r d 0x70) :
    exec (.modeRequest w r) s
      = .next { s with blk := Blk.settle s.blk (((s.blk.pass w).beginDesc r d).modeRequest s.nvm.lifecycle ⟨r, d.id⟩ d.data) } := by
  change execModeRequest w r s = _
  rw [execModeRequest, State.upd, Blk.withDesc_of_ready h rfl]

/-! ### The drain -/

theorem Blk.drainPaused_all_frame (b : Blk) : FrameM 0x488290028 b ((List.range 32).foldl Blk.drainPaused b) :=
  .foldI Blk.drainPaused_frame (of_eq_true (FrameM.refl _ b))

section
variable {b : Blk} {m : ModeReq}

theorem Blk.drainDone_request (hreq : b.modeReq = some m) (hserv : b.mode.serving = true) (hhand : b.twin.handed = false) :
    b.drainDone =
      let c := (List.range 32).foldl Blk.drainPaused b
      if m.handover then (if c.drained 0 then c.handOver else c)
      else if c.drained m.from_ then (Blk.modeEnter { c with modeReq := none } .commission 1).complete m.ref stOk [] else c := by
  have hframe := b.drainPaused_all_frame
  unfold Blk.drainDone
  generalize (List.range 32).foldl Blk.drainPaused b = c at hframe ⊢
  have hreq' : c.modeReq = some m := (hframe.same .modeReq rfl).trans hreq
  have hmode : c.mode = b.mode := hframe.same .mode rfl
  have htwin : c.twin = b.twin := hframe.same .twin rfl
  simp only [hreq', hmode, htwin, hserv, hhand, Bool.not_true, Bool.or_self, Bool.false_eq_true, if_false]

theorem Blk.drainDone_completes (hreq : b.modeReq = some m) (hserv : b.mode.serving = true) (hhand : b.twin.handed = false)
    (hover : m.handover = false) (hdr : ((List.range 32).foldl Blk.drainPaused b).drained m.from_ = true) :
    ∃ g : Blk, b.drainDone = g.complete m.ref stOk []
      ∧ g.mode = .commission ∧ g.modeReq = none ∧ g.lastMode = b.mode ∧ g.entryCause = 1 := by
  have hdone := Blk.drainDone_request hreq hserv hhand
  have hpaused := b.drainPaused_all_frame
  generalize (List.range 32).foldl Blk.drainPaused b = c at hdone hpaused hdr
  simp only [hover, hdr, Bool.false_eq_true, if_false, if_true] at hdone
  obtain ⟨hmode, hlast, hcause⟩ := Blk.modeEnter_modes { c with modeReq := none } .commission 1
  have hnone := (Blk.modeEnter_frame { c with modeReq := none } .commission 1).same .modeReq rfl
  exact ⟨_, hdone, hmode, hnone, hlast.trans (hpaused.same .mode rfl), hcause⟩

theorem Blk.drainDone_handsOver (hreq : b.modeReq = some m) (hserv : b.mode.serving = true) (hhand : b.twin.handed = false)
    (hover : m.handover = true) (hdr : ((List.range 32).foldl Blk.drainPaused b).drained 0 = true) :
    ∃ c : Blk, b.drainDone = c.handOver ∧ c.mode = b.mode := by
  have hdone := Blk.drainDone_request hreq hserv hhand
  simp only [hover, hdr, if_true] at hdone
  exact ⟨_, hdone, b.drainPaused_all_frame.same .mode rfl⟩

end

theorem Blk.handOver_twin (b : Blk) : b.handOver.twin = { b.twin with handed := true, claimOut := false } := by
  unfold Blk.handOver
  dsimp only
  split <;> rfl

theorem Blk.handOver_txRetry (b : Blk) :
    b.handOver.txRetry.mode = b.mode ∧ b.handOver.txRetry.twin.handed = true ∧ b.handOver.txRetry.twin.claimOut = false := by
  have hretry := b.handOver.txRetry_frame
  have hmode : b.handOver.txRetry.mode = b.mode := (hretry.same .mode rfl).trans (b.handOver_frame.same .mode rfl)
  have htwin : b.handOver.txRetry.twin = { b.twin with handed := true, claimOut := false } := (hretry.same .twin rfl).trans b.handOver_twin
  exact ⟨hmode, congrArg Twin.handed htwin, congrArg Twin.claimOut htwin⟩

/-! ### The exit from DIAGNOSTIC: the work in flight ends, and the operational set stays -/

theorem Blk.foldl_engOp {α : Type} {g : Blk → α → Blk} (hg : ∀ b x, (g b x).eng.op = b.eng.op) (l : List α) (b : Blk) :
    (l.foldl g b).eng.op = b.eng.op := by
  induction l generalizing b with
  | nil => rfl
  | cons x l ih => exact (ih (g b x)).trans (hg b x)

/-- A frame without the engines keeps the operational set. -/
theorem FrameM.engOp {m : Nat} {a b : Blk} (h : FrameM m a b) (hm : m.testBit Piece.eng.ctorIdx = false) : b.eng.op = a.eng.op :=
  congrArg Eng.op (h.same .eng hm)

theorem Blk.lockNext_engOp (b : Blk) (bkt n : Nat) : (b.lockNext bkt n).eng.op = b.eng.op := by
  induction n generalizing b with
  | zero => rfl
  | succ n ih =>
    unfold Blk.lockNext
    split
    · rfl
    · rfl
    · exact (ih _).trans ((Blk.ctOpNow_frame ..).engOp rfl)

theorem Blk.lockFree_engOp (b : Blk) (bkt lane : Nat) : (b.lockFree bkt lane).eng.op = b.eng.op := by
  unfold Blk.lockFree
  split
  · exact Blk.lockNext_engOp ..
  · rfl

theorem Blk.invUnlock_engOp (b : Blk) (lane : Nat) (v : Inv) : (b.invUnlock lane v).eng.op = b.eng.op := by
  unfold Blk.invUnlock
  split
  · exact Blk.lockFree_engOp ..
  · rfl

theorem Blk.invLeave_engOp (b : Blk) (lane : Nat) (v : Inv) : (b.invLeave lane v).eng.op = b.eng.op := by
  have hunlock : ((b.delInv lane).invUnlock lane v).eng.op = b.eng.op := Blk.invUnlock_engOp ..
  unfold Blk.invLeave
  dsimp only
  split
  · exact hunlock
  · exact ((Blk.ingFree_frame ..).engOp rfl).trans hunlock

theorem Blk.ctxFree?_engOp (b : Blk) (o : Option Nat) : (b.ctxFree? o).eng.op = b.eng.op := by
  cases o with
  | none => rfl
  | some k => exact (b.ctxFree_frame k).engOp rfl

theorem Blk.invAbort_engOp (b : Blk) (lane : Nat) : (b.invAbort lane).eng.op = b.eng.op := by
  unfold Blk.invAbort
  split
  · rfl
  · next v _ =>
    calc _ = _ := (Blk.pmcEvent_frame ..).engOp rfl
      _ = _ := Blk.ctxFree?_engOp ..
      _ = _ := (Blk.egFree_frame ..).engOp rfl
      _ = _ := b.invLeave_engOp lane v

theorem Blk.invDiscard_engOp (b : Blk) (lane : Nat) : (b.invDiscard lane).eng.op = b.eng.op := by
  unfold Blk.invDiscard
  split
  · rfl
  · split
    · exact b.invAbort_engOp lane
    · exact ((Blk.inc_frame ..).engOp rfl).trans (b.invAbort_engOp lane)

theorem Blk.ctxRevoke_engOp (b : Blk) (k : Nat) : (b.ctxRevoke k).eng.op = b.eng.op := by
  unfold Blk.ctxRevoke
  split
  · rfl
  · calc _ = _ := (Blk.inc_frame ..).engOp rfl
      _ = _ := (Blk.sealDrop_frame ..).engOp rfl
      _ = _ := (Blk.inc_frame ..).engOp rfl
      _ = _ := (Blk.ctxFree_frame ..).engOp rfl
      _ = _ := Blk.foldl_engOp Blk.invAbort_engOp _ _
      _ = _ := Blk.foldl_engOp (fun b f => (b.frameFree_frame f).engOp rfl) _ _
      _ = _ := (Blk.setPort_frame ..).engOp rfl

theorem Blk.benchWork_engOp (b : Blk) (i : Nat) : (b.benchWork i).eng.op = b.eng.op :=
  calc (b.benchWork i).eng.op = _ := (Blk.reqsDiscard_frame ..).engOp rfl
    _ = _ := (Blk.waitsAbort_frame ..).engOp rfl
    _ = _ := Blk.foldl_engOp (fun b p => (b.portDiscard_frame _ _ p).engOp rfl) _ _
    _ = _ := Blk.foldl_engOp Blk.ctxRevoke_engOp _ _
    _ = _ := Blk.foldl_engOp Blk.invDiscard_engOp _ _

theorem Blk.allBenchWork_engOp (b : Blk) : b.allBenchWork.eng.op = b.eng.op := Blk.foldl_engOp Blk.benchWork_engOp _ b

theorem Blk.reloadOp_signed {b : Blk} {p : PSet} (hop : b.eng.op = some p) : b.reloadOp true = b.runSet p := by
  rw [Blk.reloadOp, hop]; rfl

theorem Blk.diagExit_signed {b : Blk} {m : ModeReq} {p : PSet} (hreq : b.modeReq = some m) (hmode : b.mode = .diagnostic)
    (hop : b.eng.op = some p) :
    b.diagExit true
      = (((Blk.allBenchWork { b with modeReq := none }).runSet p).modeEnter .commission 1).complete m.ref stOk [] := by
  have hop' : (Blk.allBenchWork { b with modeReq := none }).eng.op = some p := (Blk.allBenchWork_engOp _).trans hop
  rw [Blk.diagExit, hreq]
  dsimp only
  rw [if_neg (not_not_intro hmode), Blk.reloadOp_signed hop']

/-! ### POLICY_SET FEATURES -/

/-- The FEATURES selector on the device's own enables. -/
theorem Blk.setFeatures_device {c : Blk} {d : Bytes} (ref : DRef) (hsel : byteAt d 8 = 1) (hobj : byteAt d 9 = 0xFF) (hm : c.mode ≠ .follower) :
    c.setFeatures ref d =
      let new := maskedBits (c.rd R.RST_FEATURE_EN) (leAt d 24 2) (leAt d 26 2)
      if bitOf (c.rd R.RST_FEATURE_EN) featTwin ≠ bitOf new featTwin then c.complete ref stDenied []
      else ((c.wr R.RST_FEATURE_EN new).refsSettle).complete ref stOk [] := by
  simp only [Blk.setFeatures, hsel, hobj, hm, ne_eq, not_true, if_false, if_true, or_false]

theorem maskedBits_lt (old value mask : Nat) : maskedBits old value mask < 2 ^ 13 := Nat.mod_lt _ (by decide)

theorem FrameM.rd {m : Nat} {a b : Blk} (h : FrameM m a b) (hm : m.testBit Piece.regs.ctorIdx = false) (f : BF) : b.rd f = a.rd f := by
  have hregs : b.regs = a.regs := h.same .regs hm
  rw [Blk.rd, Blk.rd, hregs]

theorem exec_policySetFeatures_of_ready {s : State} {w r : Nat} {d : Desc} (h : Ready (s.blk.pass w) r d 0x31) (hsel : byteAt d.data 8 = 1) :
    exec (.policySetFeatures w r) s
      = .next { s with blk := Blk.settle s.blk (((s.blk.pass w).beginDesc r d).setFeatures ⟨r, d.id⟩ d.data).txRetry } := by
  change execPolicySetFeatures w r s = _
  rw [execPolicySetFeatures, State.upd, Blk.withDesc_of_ready h (by simp [hsel])]

/-! ### The clauses put together -/

section
variable {s : State} {w r : Nat} {d : Desc}

/-- A Ready MODE_REQUEST that ends as `c.complete`, `c` being the block with its descriptor begun. -/
theorem completes_modeRequest (h : Ready (s.blk.pass w) r d 0x70) {status : Nat}
    (he : ((s.blk.pass w).beginDesc r d).modeRequest s.nvm.lifecycle ⟨r, d.id⟩ d.data
      = ((s.blk.pass w).beginDesc r d).complete ⟨r, d.id⟩ status []) :
    Completes (.modeRequest w r) s r d status [] [] fun g => g = (s.blk.pass w).beginDesc r d :=
  ⟨_, he ▸ exec_modeRequest_of_ready h, rfl, .of (Blk.beginDesc_frame ..) rfl, rfl⟩

theorem answers_modeRequest (h : Ready (s.blk.pass w) r d 0x70) {u : Blk} {P : Blk → Prop}
    (he : ((s.blk.pass w).beginDesc r d).modeRequest s.nvm.lifecycle ⟨r, d.id⟩ d.data = u) (hP : P u) :
    Answers (.modeRequest w r) s (touches (.modeRequest w r)) P := by
  have hframe : FrameM 0x6f9eb0fb8 (s.blk.pass w) u :=
    he ▸ ((Blk.beginDesc_frame ..).mono rfl).trans (Blk.modeRequest_frame _ s.nvm.lifecycle ⟨r, d.id⟩ d.data)
  exact ⟨u, he ▸ exec_modeRequest_of_ready h, .of hframe rfl, hP⟩

theorem answers_drainDone {u : Blk} {P : Blk → Prop} (he : (s.blk.pass w).drainDone = u) (hP : P u.txRetry) :
    Answers (.drainDone w) s (touches (.drainDone w)) P := by
  have hframe : FrameM 0x689eb0fb8 (s.blk.pass w) u.txRetry := he ▸ (Blk.drainDone_frame _).trans ((Blk.txRetry_frame _).mono rfl)
  exact ⟨u.txRetry, he ▸ rfl, .of hframe rfl, hP⟩

theorem answers_diagnosticExitDone {u : Blk} {P : Blk → Prop} (he : (s.blk.pass w).diagExit true = u) (hP : P u.txRetry) :
    Answers (.diagnosticExitDone w true) s (touches (.diagnosticExitDone w true)) P := by
  have hframe : FrameM 0x7fdffbfbc (s.blk.pass w) u.txRetry := he ▸ (Blk.diagExit_frame _ true).trans ((Blk.txRetry_frame _).mono rfl)
  exact ⟨u.txRetry, he ▸ rfl, .of hframe rfl, hP⟩

theorem answers_policySetFeatures (h : Ready (s.blk.pass w) r d 0x31) (hsel : byteAt d.data 8 = 1) {u : Blk} {P : Blk → Prop}
    (he : ((s.blk.pass w).beginDesc r d).setFeatures ⟨r, d.id⟩ d.data = u) (hP : P u.txRetry) :
    Answers (.policySetFeatures w r) s (touches (.policySetFeatures w r)) P := by
  have hframe : FrameM 0x409eb0038 (s.blk.pass w) u.txRetry :=
    (((Blk.beginDesc_frame ..).mono rfl).trans (he ▸ (Blk.setFeatures_frame _ ⟨r, d.id⟩ d.data).mono rfl)).trans
      ((Blk.txRetry_frame u).mono rfl)
  exact ⟨u.txRetry, he ▸ exec_policySetFeatures_of_ready h hsel, .of hframe rfl, hP⟩

end

/-- Settles O33: each clause is the row of its command that applies, with what it leaves. -/
theorem modeRequests : Obligations.ModeRequests := by
  intro s w r d b t c may
  refine ⟨fun h ht => ?unnamed, fun h ht hm hreq hrole hmay => ?acquire, fun h ht hm hreq hrole hmay => ?acquireDenied,
    fun h ht hm hreq hrole => ?diagnostic, fun h ht hm hreq hrole ha => ?drain, fun m hreq hserv hhand hover hdr => ?drained,
    fun m hreq hserv hhand hover hdr => ?handover, fun m p hreq hm hop => ?exit, fun h hsel hobj hm => ?features⟩
  case unnamed => exact completes_modeRequest h (Blk.modeRequest_unnamed ht)
  case acquire =>
    have hyes : c.mayAcquire s.nvm.lifecycle = true := (b.beginDesc_mayAcquire r d s.nvm.lifecycle).trans hmay
    have hrow := (Blk.modeRequest_acquire (c := c) (ref := ⟨r, d.id⟩) ht hm hreq hrole).trans (if_pos hyes)
    obtain ⟨hmode, hlast, hcause⟩ := c.modeEnter_modes .acquire 1
    exact answers_modeRequest h hrow ⟨_, rfl, hmode, hlast.trans hm, hcause⟩
  case acquireDenied =>
    have hno : c.mayAcquire s.nvm.lifecycle = false := (b.beginDesc_mayAcquire r d s.nvm.lifecycle).trans hmay
    have hrow := (Blk.modeRequest_acquire (c := c) (ref := ⟨r, d.id⟩) ht hm hreq hrole).trans (if_neg (Bool.eq_false_iff.mp hno))
    exact completes_modeRequest h hrow
  case diagnostic =>
    obtain ⟨hmode, hlast, hcause⟩ := c.modeEnter_modes .diagnostic 1
    exact answers_modeRequest h (Blk.modeRequest_diagnostic (c := c) ht hm hreq hrole) ⟨_, rfl, hmode, hlast.trans hm, hcause⟩
  case drain =>
    have hframe : FrameM 0x10800 b (c.askBegin ⟨r, d.id⟩ false) :=
      ((Blk.beginDesc_frame ..).mono rfl).trans ((Blk.askBegin_frame ..).mono rfl)
    have hrow := Blk.modeRequest_commission (c := c) (lc := s.nvm.lifecycle) (ref := ⟨r, d.id⟩) ht hm hreq hrole ha
    exact ⟨_, hrow ▸ exec_modeRequest_of_ready h, .of hframe rfl, rfl⟩
  case drained =>
    obtain ⟨g, hdone, hg⟩ := Blk.drainDone_completes hreq hserv hhand hover hdr
    exact answers_drainDone hdone ⟨g, rfl, hg⟩
  case handover =>
    obtain ⟨g, hdone, hkept⟩ := Blk.drainDone_handsOver hreq hserv hhand hover hdr
    obtain ⟨hmode, htwin⟩ := g.handOver_txRetry
    exact answers_drainDone hdone ⟨hmode.trans hkept, htwin⟩
  case exit =>
    refine answers_diagnosticExitDone (Blk.diagExit_signed hreq hm hop) ⟨_, rfl, rfl, ?_⟩
    exact (Blk.modeEnter_modes ..).1
  case features =>
    have he := Blk.setFeatures_device (c := c) ⟨r, d.id⟩ hsel hobj hm
    refine ⟨fun hsame => ?_, fun hdiff => ?_⟩
    · have hok := he.trans (if_neg (not_not_intro hsame))
      refine answers_policySetFeatures h hsel hok ⟨rfl, ?_⟩
      calc _ = _ := (Blk.txRetry_frame _).rd rfl _
        _ = _ := (Blk.complete_frame ..).rd rfl _
        _ = _ := (Blk.refsSettle_frame _).rd rfl _
        _ = _ := Blk.rd_wr_self c R.RST_FEATURE_EN _ (by decide)
        _ = _ := Nat.mod_eq_of_lt (maskedBits_lt ..)
    · exact answers_policySetFeatures h hsel (he.trans (if_pos hdiff)) rfl

end Sys2Proof.Machine
end

section
/-! What passes with time, and the short time (03 R43, R59). -/

namespace Sys2Proof.Machine

/-- An Insole that stands still keeps its value, and the time for which TIME is absent is counted in it (15 R402). -/
theorem Blk.pass_ins_of_standing {b : Blk} (h : b.ins.running = false) (w : Nat) :
    (b.pass w).ins = { b.ins with absent := b.ins.absent + w } := by
  simp only [Blk.pass, insPass, h, Bool.false_eq_true, if_false]

/-- Refutes O6: the statement has an Insole that stands still not change at all, but one unit of time after the reset state its
`absent` has grown from 0 to 1 (its value `now` has not). -/
theorem not_passOfTime : ¬ Obligations.PassOfTime := by
  intro h
  obtain ⟨-, -, hstands, -⟩ := h State.reset.blk 1
  have hstill : State.reset.blk.ins.running = false := rfl
  have habsent : State.reset.blk.ins.absent + 1 = State.reset.blk.ins.absent :=
    congrArg Insole.absent ((Blk.pass_ins_of_standing hstill 1).symm.trans (hstands hstill))
  exact Nat.succ_ne_self _ habsent

/-- Settles O59, by arithmetic on the whole nanoseconds of the time. -/
theorem shortTime : Obligations.ShortTime := by
  intro t d frac
  refine ⟨?_, fun hf => ⟨?_, ?_⟩, ?_⟩
  · simp only [shortOf, secOf, nsOf]; omega
  · simp only [fracOf]; omega
  · simp only [shortOf]; omega
  · simp only [shortOf, nsU]; omega

end Sys2Proof.Machine
end

section
/-! Reads that latch (03 R45, 05 R123, 15 R400, 16 R419, 17 R429). -/

namespace Sys2Proof.Machine

/-! ### What a latch holds -/

theorem tget_tdel_ne {α : Type} (d : α) (t : Tab α) {k q : Nat} (h : q ≠ k) : tget d (tdel t k) q = tget d t q := by
  induction t with
  | nil => rfl
  | cons e t ih =>
    obtain ⟨k', v'⟩ := e
    unfold tdel
    split
    · next hk => simp [tget, hk, Ne.symm h]
    · simp [tget, ih]

theorem bank_inj (f : Nat) {x y : Nat} : bank f x = bank f y ↔ x = y := by simp only [bank]; omega

/-- Words latched from an offset on leave what the same function has latched before it. -/
theorem Blk.latched_latchAt_before (b : Blk) (f : Nat) {off x : Nat} (l : List Nat) (h : x < off) :
    (b.latchAt f off l).latched f x = b.latched f x := by
  induction l generalizing b off with
  | nil => rfl
  | cons v l ih => exact (ih _ (by omega)).trans (tget_tput_ne _ _ _ (mt (bank_inj f).mp (by omega)))

/-- Each word latched is read at its place. -/
theorem Blk.latched_latchAt (b : Blk) (f : Nat) {off x j v : Nat} {l : List Nat} (hv : l[j]? = some v) (hx : x = off + 4 * j) :
    (b.latchAt f off l).latched f x = v := by
  induction l generalizing b off j with
  | nil => simp at hv
  | cons y l ih =>
    cases j with
    | zero =>
      obtain rfl : y = v := by simpa using hv
      subst hx
      exact (Blk.latched_latchAt_before _ f l (by omega)).trans (tget_tput_self ..)
    | succ j => exact ih _ hv (by omega)

/-- A read latches words in the bank of its function alone. -/
theorem Blk.latchAt_other (b : Blk) {f off k : Nat} {l : List Nat} (hend : off + 4 * l.length ≤ 0x100000) (hk : k / 0x100000 ≠ f) :
    tget 0 (b.latchAt f off l).latch k = tget 0 b.latch k := by
  induction l generalizing b off with
  | nil => rfl
  | cons v l ih =>
    rw [List.length_cons] at hend
    have hne : k ≠ bank f off := by simp only [bank]; omega
    exact (ih _ (by omega)).trans (tget_tput_ne _ _ _ hne)

theorem Blk.latched_unlatch_ne (b : Blk) (f : Nat) {off x : Nat} (h : x ≠ off) : (b.unlatch f off).latched f x = b.latched f x :=
  tget_tdel_ne _ _ (mt (bank_inj f).mp h)

/-! ### A read of a function with an open session -/

theorem Blk.readFor_of_open {b : Blk} {f : Nat} (h : b.sesOpen f = true) (off : Nat) (x : Blk × Nat) :
    b.readFor f off x = x.1.put (.readData f off [BitVec.ofNat 32 x.2]) := by
  have hup : b.hostUp = true := (Bool.and_eq_true_iff.mp h).1
  rw [Blk.readFor, hup, h]; rfl

/-- A command that reads for an open session: the word is put out, and what else the read did is its latch. -/
theorem answers_read {c : Instr} {s : State} {f off : Nat} {x : Blk × Nat} {P : Blk → Prop}
    (hexec : exec c s = .next { s with blk := Blk.settle s.blk ((s.blk.pass c.wait).readFor f off x) })
    (hopen : (s.blk.pass c.wait).sesOpen f = true) (hframe : FrameM 0x40 (s.blk.pass c.wait) x.1)
    (hP : ∀ u : Blk, u.out = .readData f off [BitVec.ofNat 32 x.2] :: (s.blk.pass c.wait).out → u.latch = x.1.latch → P u) :
    Answers c s [.latch, .out] P := by
  rw [Blk.readFor_of_open hopen] at hexec
  have hput : FrameM 0x48 (s.blk.pass c.wait) (x.1.put (.readData f off [BitVec.ofNat 32 x.2])) :=
    (hframe.mono rfl).trans ((Blk.put_frame ..).mono rfl)
  have hout : x.1.out = (s.blk.pass c.wait).out := hframe.same .out rfl
  exact ⟨_, hexec, .of hput rfl, hP _ (by rw [Blk.put_out, hout]) rfl⟩

/-- What a function has latched is read from the latch alone. -/
theorem Blk.latched_congr {u c : Blk} (h : u.latch = c.latch) (f x : Nat) : u.latched f x = c.latched f x := by
  rw [Blk.latched, h]; rfl

theorem exec_counterLoRead_present {s : State} {w f off lo copy : Nat} (hat : counterAt? counterRanges off = some (lo, copy, false))
    (hpres : (s.blk.pass w).absentAt off = false) :
    exec (.counterLoRead w f off) s
      = .next { s with blk := Blk.settle s.blk ((s.blk.pass w).readFor f off ((s.blk.pass w).ctrRead f lo)) } := by
  change execCounterLoRead w f off s = _
  simp only [execCounterLoRead, State.upd, Blk.counterRead, hat, hpres, Bool.false_eq_true, if_false]

theorem exec_errLogRead_of_lt {s : State} {w f i : Nat} (hi : i < 32) :
    exec (.errLogRead w f i) s
      = .next { s with blk := Blk.settle s.blk ((s.blk.pass w).readFor f (0x2E200 + 0x10 * i) ((s.blk.pass w).errLogRead f i)) } := by
  change execErrLogRead w f i s = _
  simp only [execErrLogRead, State.upd, Nat.mod_eq_of_lt hi]

theorem exec_hldOmisRead_present {s : State} {w f n : Nat} (hn : n < 18) (hpres : (s.blk.pass w).unitPresent n = true) :
    exec (.hldOmisRead w f n) s
      = .next { s with blk := Blk.settle s.blk ((s.blk.pass w).readFor f (R.HLD_OMIS n) ((s.blk.pass w).misRead f n)) } := by
  change execHldOmisRead w f n s = _
  simp only [execHldOmisRead, State.upd, if_pos hn, hpres, if_true]

theorem exec_pmcCntLoRead_of_lt {s : State} {w f i : Nat} (hi : i < 512) :
    exec (.pmcCntLoRead w f i) s
      = .next { s with blk := Blk.settle s.blk ((s.blk.pass w).readFor f (pmcLo i) ((s.blk.pass w).pmcLoRead f i)) } := by
  change execPmcCntLoRead w f i s = _
  simp only [execPmcCntLoRead, State.upd, Nat.mod_eq_of_lt hi]

/-- A counter outside chaining: its high word is latched, and a word latched for its partner is forgotten (16 R419). -/
theorem Blk.pmcLoRead_unchained {b : Blk} {f i : Nat} (hreads : b.pmcReads f = true) (hch : b.pmc.chained = false) :
    (b.pmcLoRead f i).2 = b.pmcVal i % 0x100000000 ∧ (b.pmcLoRead f i).1.latched f (pmcHi i) = b.pmcVal i / 0x100000000 := by
  have hpair : pmcHi i ≠ pmcLo (i + 1) := by simp only [pmcHi, pmcLo]; omega
  have hheld : (b.latchAt f (pmcHi i) [b.pmcVal i / 0x100000000]).latched f (pmcHi i) = b.pmcVal i / 0x100000000 :=
    b.latched_latchAt f (j := 0) rfl rfl
  simp only [Blk.pmcLoRead, hreads, hch, Bool.not_true, Bool.false_and, Bool.false_eq_true, if_false, true_and]
  split
  · exact hheld
  · exact (Blk.latched_unlatch_ne _ f hpair).trans hheld

/-- Settles O29: each command is a read that latches, for an open session. -/
theorem latchedReads : Obligations.LatchedReads := by
  intro s w f b hopen
  refine ⟨?now, fun off lo copy hat hpres => ?counter, fun i e hi he => ?errLog, fun n hpres hn => ?omis, fun i hi hreads hch => ?pmc⟩
  case now =>
    refine answers_read (x := b.nowRead f) rfl hopen (Blk.nowRead_frame ..) fun u hout hl => ⟨hout, ?_, ?_, ?_, fun k hk => ?_⟩
    · exact (Blk.latched_congr hl ..).trans (b.latched_latchAt f (j := 0) rfl rfl)
    · exact (Blk.latched_congr hl ..).trans (b.latched_latchAt f (j := 1) rfl rfl)
    · exact (Blk.latched_congr hl ..).trans (b.latched_latchAt f (j := 2) rfl rfl)
    · exact (congrArg (tget 0 · k) hl).trans (b.latchAt_other (by simp [R.TBS_NOW1]) hk)
  case counter =>
    refine answers_read (exec_counterLoRead_present hat hpres) hopen (Blk.ctrRead_frame ..) fun u hout hl => ⟨hout, ?_⟩
    exact (Blk.latched_congr hl ..).trans (b.latched_latchAt f (j := 0) rfl rfl)
  case errLog =>
    have hwords : b.errWords i = [e.w0, e.w1, e.w2, e.w3] := by rw [Blk.errWords, Nat.mod_eq_of_lt hi, he]
    have hread : b.errLogRead f i = (b.latchAt f (0x2E204 + 0x10 * i) [e.w1, e.w2, e.w3], e.w0) := by
      rw [Blk.errLogRead, hwords, Nat.mod_eq_of_lt hi]; rfl
    refine answers_read (hread ▸ exec_errLogRead_of_lt hi) hopen (Blk.latchAt_frame ..) fun u hout hl => ⟨hout, ?_, ?_, ?_⟩
    · exact (Blk.latched_congr hl ..).trans (b.latched_latchAt f (j := 0) rfl (by omega))
    · exact (Blk.latched_congr hl ..).trans (b.latched_latchAt f (j := 1) rfl (by omega))
    · exact (Blk.latched_congr hl ..).trans (b.latched_latchAt f (j := 2) rfl (by omega))
  case omis =>
    have hread : b.misRead f n = (b.latchAt f (R.HLD_OST n) [b.misPs n], b.misNs n) := if_pos hpres
    refine answers_read (hread ▸ exec_hldOmisRead_present hn hpres) hopen (Blk.latchAt_frame ..) fun u hout hl => ⟨hout, ?_⟩
    exact (Blk.latched_congr hl ..).trans (b.latched_latchAt f (j := 0) rfl rfl)
  case pmc =>
    obtain ⟨hword, hhigh⟩ := Blk.pmcLoRead_unchained (i := i) hreads hch
    refine answers_read (exec_pmcCntLoRead_of_lt hi) hopen (Blk.pmcLoRead_frame ..) fun u hout hl => ⟨hword ▸ hout, ?_⟩
    exact (Blk.latched_congr hl ..).trans hhigh

end Sys2Proof.Machine
end

section
/-! LEAP_SET cancel with a sealed response armed for launch (03 R49, 09 R255). -/

namespace Sys2Proof.Machine

theorem exec_leapCancel_of_ready {s : State} {w r : Nat} {d : Desc} (h : Ready (s.blk.pass w) r d 0x20) (hop : byteAt d.data 8 = 2) :
    exec (.leapCancel w r) s = .next { s with blk := Blk.settle s.blk (((s.blk.pass w).beginDesc r d).leapCancel ⟨r, d.id⟩) } := by
  change execLeapCancel w r s = _
  rw [execLeapCancel, State.upd, Blk.withDesc_of_ready h (by simp [hop])]

theorem Blk.complete_egUsed (b : Blk) (ref : DRef) (status : Nat) (result : Bytes) :
    (b.complete ref status result).flow.egUsed = b.flow.egUsed := by
  unfold Blk.complete Blk.completeX
  split
  · rfl
  · have hcount (x : Blk) : (x.pmcEvent 0x91 ref.ring 1).flow = x.flow := (Blk.pmcEvent_frame ..).same .flow rfl
    exact (congrArg Flow.egUsed (hcount _)).trans rfl

/-- A command that completes a descriptor within pieces that leave out the flow control keeps the egress space as it is. -/
theorem egUsed_of_completes {c : Instr} {s : State} {r : Nat} {d : Desc} {status : Nat} {result : Bytes} {ps : List Piece} {P : Blk → Prop}
    {u : Blk} (h : Completes c s r d status result ps P) (hps : Piece.flow ∉ ps)
    (hexec : exec c s = .next { s with blk := Blk.settle s.blk u }) : u.flow.egUsed = s.blk.flow.egUsed := by
  obtain ⟨g, hexec', -, hframe, -⟩ := h
  have hsettled : Blk.settle s.blk u = Blk.settle s.blk (g.complete ⟨r, d.id⟩ status result) :=
    congrArg State.blk (Host.Outcome.next.inj (hexec.symm.trans hexec'))
  have hflow : g.flow = (s.blk.pass c.wait).flow := hframe .flow (by simp [hps])
  have hcompleted : u.flow = (g.complete ⟨r, d.id⟩ status result).flow := by simpa only [Blk.settle_flow] using congrArg Blk.flow hsettled
  calc u.flow.egUsed = _ := congrArg Flow.egUsed hcompleted
    _ = g.flow.egUsed := Blk.complete_egUsed ..
    _ = s.blk.flow.egUsed := congrArg Flow.egUsed hflow

/-! ### A leap pending at 1 s, and a response sealed for a launch after it -/

namespace SealedOverLeap

/-- LEAP_SET cancel. -/
def desc : Desc := { id := 0, idx := 0, data := [0x20, 0, 0, 0, 0, 0, 0, 0, 2] }

def leap : Leap := { delta := 1, m := 0, dOld := 0, sL := 1, w0 := 0, w1 := 0, sample := none }

/-- The request that the context of the response was taken for. -/
def req : Req := { num := 0, port := 0, data := [], t2 := 0, t2Up := 0, svc := 0, nts := true, k := 0, cost := 1 }

/-- A UDP datagram over IPv6 to be launched at 2 s, whose T3 is right with the leap: 1 s of UTC. -/
def response : TxF :=
  { id := 0, port := 0, cls := 0, src := .response, eg := 128, heldFrom := 0, stamp := .ntp, launch := some (secU 2), ctx := some 0
    data := List.replicate 12 0 ++ [0x86, 0xDD] ++ List.replicate 6 0 ++ [17] ++ List.replicate 81 0 ++ beB 8 (ntpOfUtc (secU 1)) }

/-- A session is open, ring pair 0 has the cancel to begin, and the response holds 128 bytes of the egress space of port 0. -/
def blk : Blk :=
  { boot := { done := true }, ses := [(0, { st := .opened })], rings := [(0, { running := true, descs := [desc] })]
    ins := { leap := some leap }, ports := [(0, { armed := [response] })], nts := { ctxs := [(0, { req := req, leaseEnd := 0 })] }
    flow := { egUsed := [(0, 128)] } }

def state : State := { pending := [], nvm := {}, blk := blk }

theorem ready : Ready (state.blk.pass 0) 0 desc 0x20 := by decide +kernel

/-- The leap is 1 s ahead, so its cancel is permitted. -/
theorem due : ((state.blk.pass 0).ins.now : Int) + oneS ≤ leap.sLU := by decide +kernel

/-- The launch instant is 2 s of UTC once the leap is gone, so the launch misses and its egress space is given back (09 R255). -/
theorem egUsed_leapCancel : (((state.blk.pass 0).beginDesc 0 desc).leapCancel ⟨0, desc.id⟩).flow.egUsed = [(0, 0)] := by decide +kernel

end SealedOverLeap

open SealedOverLeap in
/-- Refutes O35: a cancel also changes the flow control, which its clause for the cancel leaves out. Where a sealed response waits for a
launch whose T3 the cancel makes wrong, its launch is missed and its egress space is given back. -/
theorem not_leapSeconds : ¬ Obligations.LeapSeconds := by
  intro h
  obtain ⟨-, -, -, -, hcancel, -⟩ := h state 0 0 desc
  obtain ⟨hpermitted, -⟩ := hcancel leap ready rfl rfl
  have hcompletes := hpermitted (.inl rfl) due
  have hkept := egUsed_of_completes hcompletes (by decide) (exec_leapCancel_of_ready ready rfl)
  exact absurd (egUsed_leapCancel.symm.trans hkept) (by decide)

end Sys2Proof.Machine
end

section
/-! The entries of the Laster: its table, an entry that goes on or ends, and the run of an issued entry (03 R64 to R67). -/

namespace Sys2Proof.Machine

/-! ### The table of entries -/

theorem find?_tput {α : Type} (t : Tab α) (k q : Nat) (v : α) :
    (tput t k v).find? (fun e => e.1 == q) = if q = k then some (k, v) else t.find? fun e => e.1 == q := by
  induction t with
  | nil => by_cases h : q = k <;> simp [tput, h, Ne.symm]
  | cons e t ih =>
    obtain ⟨k', v'⟩ := e
    unfold tput
    split
    · by_cases h : q = k
      · simp [h]
      · simp [h, Ne.symm h]
    · split
      · next hk =>
        subst hk
        by_cases h : q = k
        · simp [h]
        · simp [h, Ne.symm h]
      · next hne =>
        by_cases h : q = k
        · subst h; simp [Ne.symm hne, ih]
        · simp [h, List.find?_cons, ih]

/-- An index reads as it was last written; the others are left alone. -/
theorem Blk.lstAt?_tput {b u : Blk} {i : Nat} {x : LEntry} (h : u.laster.ents = tput b.laster.ents i x) (j : Nat) :
    u.lstAt? j = if j = i then some x else b.lstAt? j := by
  rw [Blk.lstAt?, h, find?_tput]
  split <;> rfl

/-! ### An entry goes on, or ends -/

section
variable {b : Blk} {i k : Nat} {e : LEntry}

theorem Blk.lstNextOcc_last (h : e.has k = false) : (b.lstNextOcc i e k).laster.ents = tdel b.laster.ents i := by
  have hlast : LEntry.has { e with k := k, issued := false } k = false := h
  simp only [Blk.lstNextOcc, hlast, Bool.false_eq_true, if_false]
  split
  · rfl
  · split <;> rfl

theorem Blk.lstNextOcc_more (h : e.has k = true) (hcyc : e.cyc = none) :
    ∃ x, (b.lstNextOcc i e k).laster.ents = tput b.laster.ents i x ∧ x.k = k ∧ x.issued = false := by
  have hmore : LEntry.has { e with k := k, issued := false } k = true := h
  unfold Blk.lstNextOcc
  dsimp only
  rw [if_neg (by simp [hcyc]), if_pos hmore]
  exact ⟨_, rfl, rfl, rfl⟩

theorem Blk.lstNextOcc_lateRun : (b.lstNextOcc i e k).laster.lateRun = b.laster.lateRun := by
  unfold Blk.lstNextOcc
  dsimp only
  split <;> split
  · rfl
  · rfl
  · rfl
  · split <;> rfl

/-- A single action has no occurrence but the first. -/
theorem LEntry.has_of_single (hp : e.period = 0) (hk : k ≠ 0) : e.has k = false := by
  rw [LEntry.has, if_pos hp]; exact beq_eq_false_iff_ne.mpr hk

end

/-! ### The run of an issued entry -/

/-- The block once entry i has gone on to its next occurrence, its run counted. -/
def Blk.gone (b : Blk) (i : Nat) (e : LEntry) : Blk :=
  (b.lstNextOcc i { e with ranAt := some e.target } (e.k + 1)).pmcEvent 0xA0 0 1

theorem Blk.gone_frame (b : Blk) (i : Nat) (e : LEntry) : FrameM 0x280000 b (b.gone i e) :=
  ((Blk.lstNextOcc_frame ..).mono rfl).trans ((Blk.pmcEvent_frame ..).mono rfl)

theorem Blk.gone_laster (b : Blk) (i : Nat) (e : LEntry) :
    (b.gone i e).laster = (b.lstNextOcc i { e with ranAt := some e.target } (e.k + 1)).laster :=
  (Blk.pmcEvent_frame ..).same .laster rfl

theorem Blk.gone_last {b : Blk} {i : Nat} {e : LEntry} (h : e.has (e.k + 1) = false) :
    (b.gone i e).laster.ents = tdel b.laster.ents i := by
  rw [Blk.gone_laster]; exact Blk.lstNextOcc_last (e := { e with ranAt := some e.target }) h

theorem Blk.gone_more {b : Blk} {i : Nat} {e : LEntry} (h : e.has (e.k + 1) = true) (hcyc : e.cyc = none) :
    ∃ x, (b.gone i e).lstAt? i = some x ∧ x.k = e.k + 1 ∧ x.issued = false := by
  obtain ⟨x, hents, hk, hissued⟩ := Blk.lstNextOcc_more (b := b) (i := i) (e := { e with ranAt := some e.target }) h hcyc
  have hput : (b.gone i e).laster.ents = tput b.laster.ents i x := by rw [Blk.gone_laster, hents]
  exact ⟨x, by rw [Blk.lstAt?_tput hput, if_pos rfl], hk, hissued⟩

theorem Blk.runIssued_due {b : Blk} {cls i : Nat} {e : LEntry} (hat : b.lstAt? i = some e) (hcls : e.cls = cls) (hissued : e.issued = true)
    (hdue : b.point e ≤ (b.ins.now : Int)) : b.runIssued cls i = b.runEntry stepFn i e (e.k + 1) false := by
  simp only [Blk.runIssued, hat, hcls, hissued, beq_self_eq_true, decide_eq_true hdue, Bool.and_self, if_true]

/-- Whether a class is one of OUTPUT_ON, OUTPUT_OFF, CAPTURE_OPEN and CAPTURE_CLOSE (03 R75, R76). -/
def startStop (cls : Nat) : Bool := cls == 3 || cls == 4 || cls == 5 || cls == 6

/-- What the run of an occurrence at its target does: the action, a NOP counted for the start and stop classes, and the record asked for. -/
theorem Blk.runEntry_onTime (b : Blk) (i : Nat) (e : LEntry) :
    b.runEntry stepFn i e (e.k + 1) false =
      let r := (b.gone i e).act stepFn e false (b.pairEmpty e false)
      let u := if startStop e.cls then r.1.lstNop r.2 else r.1
      if e.notify || e.cls == 0xD then u.lstRecord i e 1 false (b.pairEmpty e false) r.2 (b.point e) e.target else u := rfl

/-- The run of an entry of another class whose record nobody asked for is its action. -/
theorem Blk.runEntry_plain {b : Blk} {i : Nat} {e : LEntry} (hss : startStop e.cls = false) (hn : e.notify = false) (hcls : e.cls ≠ 0xD) :
    b.runEntry stepFn i e (e.k + 1) false = ((b.gone i e).act stepFn e false (b.pairEmpty e false)).1 := by
  simp only [Blk.runEntry_onTime, hss, hn, beq_eq_false_iff_ne.mpr hcls, Bool.or_self, Bool.false_eq_true, if_false]

/-! ### What a command answers -/

theorem exec_of_issued {c : Instr} {s : State} {b : Blk} (hb : s.blk.pass c.wait = b) {cls i : Nat} {e : LEntry}
    (hexec : exec c s = s.upd c.wait fun _ b => b.runIssued cls i) (hat : b.lstAt? i = some e) (hcls : e.cls = cls)
    (hissued : e.issued = true) (hdue : b.point e ≤ (b.ins.now : Int)) :
    exec c s = .next { s with blk := Blk.settle s.blk (b.runEntry stepFn i e (e.k + 1) false) } := by
  rw [hexec, State.upd, hb, Blk.runIssued_due hat hcls hissued hdue]

/-- A command that answers `u`, of those whose row in `touches` is that of the Laster's commands. -/
theorem answers_laster {c : Instr} {s : State} {u : Blk} {P : Blk → Prop} (hexec : exec c s = .next { s with blk := Blk.settle s.blk u })
    (hframe : FrameM 0x7fe7fbfbc (s.blk.pass c.wait) u) (hc : pieceBits (touches c) = 0x7fe7fbfbc) (hP : P u) :
    Answers c s (touches c) P :=
  ⟨u, hexec, .of_pieceBits hframe hc, hP⟩

/-- A command that completes its descriptor and does nothing else. -/
theorem completes_only {c : Instr} {s : State} {r : Nat} {d : Desc} {u : Blk} {status : Nat} {result : Bytes}
    (hexec : exec c s = .next { s with blk := Blk.settle s.blk u })
    (he : u = ((s.blk.pass c.wait).beginDesc r d).complete ⟨r, d.id⟩ status result) :
    Completes c s r d status result [] fun g => g = (s.blk.pass c.wait).beginDesc r d :=
  ⟨_, he ▸ hexec, rfl, .of (Blk.beginDesc_frame ..) rfl, rfl⟩

end Sys2Proof.Machine
end

section
/-! TIME_ADJUST at once and at its time, and the seconds of the Keep clock (03 R44, R54 to R57). -/

namespace Sys2Proof.Machine

/-! ### What TIME_ADJUST does -/

section
variable {b : Blk} {ref : DRef} {d : Bytes} {v : Int} {t kind : Nat}

theorem Blk.timeAdjust_denied (hk : byteAt d 8 = kind) (hv : adjustValue d = some v) (ht : time10At d 22 = some t)
    (hno : b.adjustOk kind = false) : b.timeAdjust ref d = b.complete ref stDenied [] := by
  simp only [Blk.timeAdjust, hk, hv, ht, hno, Bool.not_false, if_true]

theorem Blk.timeAdjust_now (hk : byteAt d 8 = kind) (hv : adjustValue d = some v) (ht : time10At d 22 = some t)
    (hok : b.adjustOk kind = true) (hnow : allZero (sliceB d 22 10) = true) :
    b.timeAdjust ref d = b.adjustRun stepFn ref kind v stOk := by
  simp only [Blk.timeAdjust, hk, hv, ht, hok, hnow, Bool.not_true, Bool.false_eq_true, if_false, if_true]

theorem Blk.timeAdjust_noRoom {st : Nat} (hk : byteAt d 8 = kind) (hv : adjustValue d = some v) (ht : time10At d 22 = some t)
    (hok : b.adjustOk kind = true) (hlater : allZero (sliceB d 22 10) = false) (hpool : b.poolDeny (b.funcOf ref) 1 = some st) :
    b.timeAdjust ref d = b.complete ref st [] := by
  simp only [Blk.timeAdjust, hk, hv, ht, hok, hlater, hpool, Bool.not_true, Bool.false_eq_true, if_false]

theorem Blk.timeAdjust_arms (hk : byteAt d 8 = kind) (hv : adjustValue d = some v) (ht : time10At d 22 = some t)
    (hok : b.adjustOk kind = true) (hlater : allZero (sliceB d 22 10) = false) (hpool : b.poolDeny (b.funcOf ref) 1 = none)
    (hlead : b.ins.now + leadU ≤ t) :
    b.timeAdjust ref d = b.lstArm { cls := 0xA, obj := 0, t0 := t, owner := b.funcOf ref, pay := .adjust ref kind v } := by
  simp only [Blk.timeAdjust, hk, hv, ht, hok, hlater, hpool, Bool.not_true, Bool.false_eq_true, if_false, if_neg (Nat.not_lt.mpr hlead)]

end

section
variable {b : Blk} {stp : Int → Blk → Blk} {v : Int} {status : Nat}

/-- The block with this remaining slew. -/
def Blk.withSlew (b : Blk) (x : Int) : Blk := { b with ins := { b.ins with slewRem := x } }

theorem Blk.adjustRun_corrects (ref : DRef) (hok : b.adjustOk 1 = true) :
    b.adjustRun stp ref 1 v status
      = (b.correct stp v).1.complete ref status (leB 8 (ofSigned (b.correct stp v).2 64)) := by
  unfold Blk.adjustRun
  rw [if_neg (by simp [hok])]
  split
  · rfl
  · next h => exact absurd h (by decide)
  · next h _ => exact absurd rfl h

theorem Blk.correct_slews (hs : b.steps54 (b.corrSum v) false = false) :
    b.correct stp v = (b.withSlew (b.corrSum v), 0) :=
  if_neg (by simp [hs])

theorem Blk.correct_steps (hs : b.steps54 (b.corrSum v) false = true) :
    b.correct stp v
      = (stp ((b.corrSum v).tdiv 1000000000) (b.withSlew 0), (b.corrSum v).tdiv 1000000000) :=
  if_pos hs

theorem Blk.adjustRun_slews (ref : DRef) (hok : b.adjustOk 1 = true) (hs : b.steps54 (b.corrSum v) false = false) :
    b.adjustRun stp ref 1 v status
      = (b.withSlew (b.corrSum v)).complete ref status (leB 8 0) := by
  rw [Blk.adjustRun_corrects ref hok, Blk.correct_slews hs]; rfl

theorem Blk.adjustRun_steps (ref : DRef) (hok : b.adjustOk 1 = true) (hs : b.steps54 (b.corrSum v) false = true) :
    b.adjustRun stp ref 1 v status
      = (stp ((b.corrSum v).tdiv 1000000000) (b.withSlew 0)).complete ref status
          (leB 8 (ofSigned ((b.corrSum v).tdiv 1000000000) 64)) := by
  rw [Blk.adjustRun_corrects ref hok, Blk.correct_steps hs]

theorem Blk.adjustRun_sets (ref : DRef) (hok : b.adjustOk 2 = true) :
    b.adjustRun stp ref 2 v status
      = (b.validWith (stp (v - b.ins.now))).complete ref status (leB 8 (ofSigned (v - b.ins.now) 64)) := by
  unfold Blk.adjustRun
  exact if_neg (by simp [hok])

theorem Blk.adjustRun_cancels (ref : DRef) (hok : b.adjustOk 3 = true) :
    b.adjustRun stp ref 3 v status = (b.withSlew 0).complete ref status (leB 8 0) := by
  unfold Blk.adjustRun
  exact if_neg (by simp [hok])

theorem Blk.act_adjust {ref : DRef} {kind : Nat} {e : LEntry} {empty : Bool} (h : e.cls = 0xA) (hpay : e.pay = .adjust ref kind v) :
    (b.act stp e false empty).1 = b.adjustRun stp ref kind v stOk := by
  simp [Blk.act, h, hpay]

end

theorem Blk.adjustOk_congr {u b : Blk} (h : u.mode = b.mode) (kind : Nat) : u.adjustOk kind = b.adjustOk kind := by
  rw [Blk.adjustOk, h]; rfl

/-- SET is permitted in COMMISSION and DIAGNOSTIC alone (03 R56). -/
theorem Blk.adjustOk_set {b : Blk} (hc : b.mode ≠ .commission) (hd : b.mode ≠ .diagnostic) : b.adjustOk 2 = false := by
  unfold Blk.adjustOk
  split
  · next h => exact absurd h hc
  · next h => exact absurd h hd
  · rfl
  · rfl
  · rfl

theorem Blk.validWith_timeValid (b : Blk) (f : Blk → Blk) : (b.validWith f).ins.timeValid = true := by
  unfold Blk.validWith
  dsimp only
  split
  · rfl
  · exact congrArg Insole.timeValid ((Blk.firstAligns_frame _).same .ins rfl)

/-! ### The commands -/

section
variable {s : State} {w r : Nat} {d : Desc}

theorem exec_timeAdjustOffset_of_ready (h : Ready (s.blk.pass w) r d 0x21) (hk : byteAt d.data 8 = 1) :
    exec (.timeAdjustOffset w r) s
      = .next { s with blk := Blk.settle s.blk (((s.blk.pass w).beginDesc r d).timeAdjust ⟨r, d.id⟩ d.data) } := by
  change execTimeAdjustOffset w r s = _
  rw [execTimeAdjustOffset, State.upd, Blk.withDesc_of_ready h (by simp [hk])]

theorem exec_timeAdjustSet_of_ready (h : Ready (s.blk.pass w) r d 0x21) (hk : byteAt d.data 8 = 2) :
    exec (.timeAdjustSet w r) s
      = .next { s with blk := Blk.settle s.blk (((s.blk.pass w).beginDesc r d).timeAdjust ⟨r, d.id⟩ d.data) } := by
  change execTimeAdjustSet w r s = _
  rw [execTimeAdjustSet, State.upd, Blk.withDesc_of_ready h (by simp [hk])]

theorem exec_slewCancel_of_ready (h : Ready (s.blk.pass w) r d 0x21) (hk : byteAt d.data 8 = 3) :
    exec (.slewCancel w r) s
      = .next { s with blk := Blk.settle s.blk (((s.blk.pass w).beginDesc r d).timeAdjust ⟨r, d.id⟩ d.data) } := by
  change execSlewCancel w r s = _
  rw [execSlewCancel, State.upd, Blk.withDesc_of_ready h (by simp [hk])]

end

section
variable {c : Instr} {s : State} {r : Nat} {d : Desc} {u : Blk} {P : Blk → Prop}

theorem answers_timeAdjust
    (hexec : exec c s = .next { s with blk := Blk.settle s.blk (((s.blk.pass c.wait).beginDesc r d).timeAdjust ⟨r, d.id⟩ d.data) })
    (hc : pieceBits (touches c) = 0x7fe7fbfbc) (he : ((s.blk.pass c.wait).beginDesc r d).timeAdjust ⟨r, d.id⟩ d.data = u) (hP : P u) :
    Answers c s (touches c) P :=
  answers_laster (he ▸ hexec) (he ▸ ((Blk.beginDesc_frame ..).mono rfl).trans (Blk.timeAdjust_frame ..)) hc hP

/-- A command that arms an entry and leaves its descriptor begun. -/
theorem answers_armed {e : LEntry} (hexec : exec c s = .next { s with blk := Blk.settle s.blk u })
    (he : u = ((s.blk.pass c.wait).beginDesc r d).lstArm e) :
    Answers c s [.laster, .rings] fun u => u = ((s.blk.pass c.wait).beginDesc r d).lstArm e := by
  have hframe : FrameM 0x210000 (s.blk.pass c.wait) (((s.blk.pass c.wait).beginDesc r d).lstArm e) :=
    ((Blk.beginDesc_frame ..).mono rfl).trans ((Blk.lstArm_frame ..).mono rfl)
  exact ⟨_, he ▸ hexec, .of hframe rfl, rfl⟩

/-- A command that sets the remaining slew and completes its descriptor. -/
theorem completes_slewRem {status : Nat} {result : Bytes} {x : Int} (hexec : exec c s = .next { s with blk := Blk.settle s.blk u })
    (he : u = (((s.blk.pass c.wait).beginDesc r d).withSlew x).complete ⟨r, d.id⟩ status result) :
    Completes c s r d status result [.ins] fun g => g.ins = { (s.blk.pass c.wait).ins with slewRem := x } := by
  have hframe : FrameM 0x110000 (s.blk.pass c.wait) (((s.blk.pass c.wait).beginDesc r d).withSlew x) :=
    ((Blk.beginDesc_frame ..).mono rfl).trans ((FrameM.upd_ins _).mono rfl)
  exact ⟨((s.blk.pass c.wait).beginDesc r d).withSlew x, he ▸ hexec, rfl, .of hframe rfl, rfl⟩

end

/-- Settles O36: each clause is the case of TIME_ADJUST that applies to the block with its descriptor begun. -/
theorem timeAdjusted : Obligations.TimeAdjusted := by
  intro s w r i d b c now
  refine ⟨fun hrun hkeep => ?rtc, ?slewDone, fun v t h hk hv ht => ?offset, fun v t h hk hv ht => ?set, fun t h hk ht hok hnow => ?cancel,
    fun e hat hcls hissued hdue => ?entry⟩
  case rtc =>
    have hload : exec (.keepRtcLoad w) s
        = .next { s with blk := Blk.settle s.blk { b with rst := { b.rst with rtc := some (secOf b.ins.now, b.up) } } } := by
      change execKeepRtcLoad w s = _
      rw [execKeepRtcLoad, State.upd, if_pos (by rw [hrun, hkeep]; rfl)]
    exact ⟨_, hload, .of (FrameM.upd_rst b) rfl, rfl⟩
  case slewDone => exact ⟨b, rfl, .of (of_eq_true (FrameM.refl 0 b)) rfl, rfl⟩
  case offset =>
    have hexec := exec_timeAdjustOffset_of_ready h hk
    refine ⟨fun hno => ?_, fun hok hnow hs => ?_, fun hok hnow hs => ?_, fun hok hlater hpool hlead => ?_, fun st hok hlater hpool => ?_⟩
    · exact completes_only hexec (Blk.timeAdjust_denied hk hv ht hno)
    · exact completes_slewRem hexec ((Blk.timeAdjust_now (b := c) hk hv ht hok hnow).trans (Blk.adjustRun_slews ⟨r, d.id⟩ hok hs))
    · exact answers_timeAdjust hexec rfl ((Blk.timeAdjust_now (b := c) hk hv ht hok hnow).trans (Blk.adjustRun_steps ⟨r, d.id⟩ hok hs)) rfl
    · exact answers_armed hexec (Blk.timeAdjust_arms (b := c) hk hv ht hok hlater hpool hlead)
    · exact completes_only hexec (Blk.timeAdjust_noRoom (b := c) hk hv ht hok hlater hpool)
  case set =>
    have hexec := exec_timeAdjustSet_of_ready h hk
    have hvalue : adjustValue d.data = some (v : Int) := by simp only [adjustValue, hk, hv]; rfl
    refine ⟨fun hok hnow => ?_, fun hok hlater hpool hlead => ?_, fun hcom hdiag => ?_⟩
    · have he := (Blk.timeAdjust_now (b := c) hk hvalue ht hok hnow).trans (Blk.adjustRun_sets ⟨r, d.id⟩ hok)
      refine answers_timeAdjust hexec rfl he ⟨rfl, ?_⟩
      exact (congrArg Insole.timeValid ((Blk.complete_frame ..).same .ins rfl)).trans (Blk.validWith_timeValid ..)
    · exact answers_armed hexec (Blk.timeAdjust_arms (b := c) hk hvalue ht hok hlater hpool hlead)
    · exact completes_only hexec (Blk.timeAdjust_denied hk hvalue ht (Blk.adjustOk_set hcom hdiag))
  case cancel =>
    have hvalue : adjustValue d.data = some 0 := by simp only [adjustValue, hk]
    exact completes_slewRem (exec_slewCancel_of_ready h hk)
      ((Blk.timeAdjust_now (b := c) hk hvalue ht hok hnow).trans (Blk.adjustRun_cancels ⟨r, d.id⟩ hok))
  case entry =>
    have hexec : exec (.adjustEntry w i) s = .next { s with blk := Blk.settle s.blk (b.runEntry stepFn i e (e.k + 1) false) } :=
      exec_of_issued rfl rfl hat hcls hissued hdue
    have hframe := Blk.runEntry_frame stepFn stepFn_frame b i e (e.k + 1) false
    refine ⟨answers_laster hexec hframe rfl rfl, fun ref v hpay hok hp hn => answers_laster hexec hframe rfl ?_⟩
    have hgone := b.gone_frame i e
    have hok' : (b.gone i e).adjustOk 3 = true := (Blk.adjustOk_congr (hgone.same .mode rfl) 3).trans hok
    have hrun : b.runEntry stepFn i e (e.k + 1) false = ((b.gone i e).withSlew 0).complete ref stOk (leB 8 0) :=
      calc _ = _ := Blk.runEntry_plain (by rw [hcls]; rfl) hn (by rw [hcls]; decide)
        _ = _ := Blk.act_adjust hcls hpay
        _ = _ := Blk.adjustRun_cancels ref hok'
    have hdone := ((b.gone i e).withSlew 0).complete_frame ref stOk (leB 8 0)
    have hlast := Blk.gone_last (b := b) (i := i) (LEntry.has_of_single hp (Nat.succ_ne_zero e.k))
    refine ⟨?_, ?_, _, hrun⟩
    · rw [hrun, hdone.same .ins rfl, Blk.withSlew, hgone.same .ins rfl]
    · rw [hrun, hdone.same .laster rfl]; exact hlast

end Sys2Proof.Machine
end

section
/-! Arming, cancelling, filling and issuing the entries of the Laster (03 R61 to R69, R75). -/

namespace Sys2Proof.Machine

/-! ### LASTER_ARM -/

section
variable {b : Blk} {ref : DRef} {d : Bytes} {e : LEntry}

theorem Blk.lasterArm_refused {st : Nat} (h : b.armCheck (b.funcOf ref) d = .inl st) : b.lasterArm ref d = b.complete ref st [] := by
  simp only [Blk.lasterArm, h]

theorem Blk.lasterArm_arms {l : List LEntry} (h : b.armCheck (b.funcOf ref) d = .inr l) :
    b.lasterArm ref d
      = ((b.armAll l).1.armLate (b.armAll l).2).complete ref ((l.map b.armStatus).foldl worse stOk)
          ((b.armAll l).2.flatMap fun j => leB 2 ((b.armAll l).1.lstHandle j)) := by
  simp only [Blk.lasterArm, h]

theorem Blk.lstAt?_lstArm (b : Blk) (e : LEntry) :
    (b.lstArm e).lstAt? b.lstNext
      = some { e with seq := b.laster.seq, spilled := decide (e.t0 > (b.ins.now + b.hotU : Nat)) } :=
  (Blk.lstAt?_tput (b := b) (u := b.lstArm e) rfl b.lstNext).trans (if_pos rfl)

/-- The first target of an entry that is based on no cycle. -/
theorem LEntry.target_first (hk : e.k = 0) (hcyc : e.cyc = none) : e.target = e.t0 := by
  simp [LEntry.target, LEntry.targetAt, hk, hcyc]

theorem Blk.armLate_inTime {i : Nat} (hat : b.lstAt? i = some e) (hlead : (b.ins.now : Int) + leadU ≤ e.target) : b.armLate [i] = b := by
  simp only [Blk.armLate, List.foldl_cons, List.foldl_nil, hat, decide_eq_false (Int.not_lt.mpr hlead), Bool.and_false, Bool.false_eq_true,
    if_false]

theorem Blk.armStatus_inTime (hlead : (b.ins.now : Int) + leadU ≤ e.t0) : b.armStatus e = stOk := by
  simp only [Blk.armStatus, decide_eq_false (Int.not_lt.mpr hlead), Bool.and_false, Bool.false_eq_true, if_false]

/-- One entry armed in time takes the lowest free index, and its handle is the result. -/
theorem Blk.lasterArm_one (h : b.armCheck (b.funcOf ref) d = .inr [e]) (hlead : (b.ins.now : Int) + leadU ≤ e.t0) (hk : e.k = 0)
    (hcyc : e.cyc = none) :
    b.lasterArm ref d = (b.lstArm e).complete ref stOk (leB 2 ((b.lstArm e).lstHandle b.lstNext)) := by
  have hall : b.armAll [e] = (b.lstArm e, [b.lstNext]) := rfl
  have hlate : (b.lstArm e).armLate [b.lstNext] = b.lstArm e :=
    Blk.armLate_inTime (b.lstAt?_lstArm e) (hlead.trans_eq (LEntry.target_first hk hcyc).symm)
  rw [Blk.lasterArm_arms h, hall, hlate]
  simp only [List.map_cons, List.map_nil, List.foldl_cons, List.foldl_nil, List.flatMap_cons, List.flatMap_nil, List.append_nil,
    Blk.armStatus_inTime hlead]
  rfl

end

/-! ### LASTER_CANCEL -/

section
variable {b : Blk} {ref : DRef} {h : Nat} {e : LEntry}

theorem Blk.lasterCancel_neverGiven (hg : thas b.laster.gens (h % 4096) = false ∨ tget 0 b.laster.gens (h % 4096) ≠ h / 4096) :
    b.lasterCancel ref h = b.complete ref stMalformed [] := by
  rcases hg with hg | hg <;> simp [Blk.lasterCancel, hg]

variable (hhas : thas b.laster.gens (h % 4096) = true) (hgen : tget 0 b.laster.gens (h % 4096) = h / 4096)
include hhas hgen

theorem Blk.lasterCancel_gone (hat : b.lstAt? (h % 4096) = none) : b.lasterCancel ref h = b.complete ref stLate [] := by
  simp [Blk.lasterCancel, hhas, hgen, hat]

variable (hat : b.lstAt? (h % 4096) = some e)
include hat

theorem Blk.lasterCancel_notMine (hno : e.owner ≠ b.funcOf ref ∨ e.cls = 0xA) : b.lasterCancel ref h = b.complete ref stDenied [] := by
  simp [Blk.lasterCancel, hhas, hgen, hat, if_pos hno]

variable (hown : e.owner = b.funcOf ref) (hcls : e.cls ≠ 0xA)
include hown hcls

theorem Blk.lasterCancel_waiting (hi : e.issued = false) :
    b.lasterCancel ref h = (b.lstDel (h % 4096)).complete ref stOk [] := by
  simp [Blk.lasterCancel, hhas, hgen, hat, hown, hcls, hi]

theorem Blk.lasterCancel_issued (hi : e.issued = true) (hp : e.period = 0) : b.lasterCancel ref h = b.complete ref stLate [] := by
  simp [Blk.lasterCancel, hhas, hgen, hat, hown, hcls, hi, hp]

theorem Blk.lasterCancel_periodic (hi : e.issued = true) (hp : e.period ≠ 0) :
    b.lasterCancel ref h
      = Blk.complete { b with laster := { b.laster with ents := tput b.laster.ents (h % 4096) { e with count := e.k + 1, rearm := false } } }
          ref stOk [] := by
  simp [Blk.lasterCancel, hhas, hgen, hat, hown, hcls, hi, hp]

end

/-! ### An entry that is late -/

theorem Blk.lateCount_ents (b : Blk) (p n : Nat) : (b.lateCount p n).laster.ents = b.laster.ents := by
  unfold Blk.lateCount
  dsimp only
  split <;> rfl

/-- LATE_SKIP and LATE_NEXT count no run. -/
theorem Blk.lateCount_lateRun (b : Blk) {p : Nat} (hp : p ≠ 0) (n : Nat) : (b.lateCount p n).laster.lateRun = b.laster.lateRun := by
  unfold Blk.lateCount
  dsimp only
  split
  · exact absurd rfl hp
  · rfl
  · rfl

/-- The occurrence with which an entry goes on that is late for every one before `lim` (03 R67). -/
def LEntry.afterLate (e : LEntry) (lim : Int) : Nat :=
  let k := if e.cyc.isSome then e.k + 1 else max (e.k + 1) (e.firstFrom lim)
  if e.period ≠ 0 && e.count ≠ 0 then min k e.count else k

theorem LEntry.afterLate_of_single {e : LEntry} (hp : e.period = 0) (lim : Int) : e.afterLate lim ≠ 0 := by
  have hk : e.afterLate lim = if e.cyc.isSome then e.k + 1 else max (e.k + 1) (e.firstFrom lim) := if_neg (by simp [hp])
  rw [hk]
  split <;> omega

/-- Under LATE_SKIP or LATE_NEXT a late entry whose record nobody asked for is counted and goes on. -/
theorem Blk.lateEntry_skips {b : Blk} {stp : Int → Blk → Blk} {i : Nat} {e : LEntry} (hcls : e.cls ≠ 1) (hpol : e.policy ≠ 0)
    (hn : e.notify = false) (lim : Int) :
    b.lateEntry stp i e lim = (b.lateCount e.policy (e.afterLate lim - e.k)).lstNextOcc i e (e.afterLate lim) := by
  unfold Blk.lateEntry
  dsimp only
  rw [if_neg hcls]
  split
  · next h => exact absurd h hpol
  · next p _ => exact if_neg (by simp [hn])

/-! ### LASTER_ISSUE -/

theorem Blk.txRetry_of_no_waits {b : Blk} (h : b.flow.waits = []) : b.txRetry = b := by
  rw [Blk.txRetry, h]; rfl

section
variable {b : Blk} {i : Nat} {e : LEntry}

theorem Blk.lasterIssue_late (hat : b.lstAt? i = some e) (hi : e.issued = false) (hres : e.resolved = true)
    (hlate : b.point e < (b.ins.now : Int) + leadU) : b.lasterIssue i = b.lateEntry stepFn i e (b.ins.now + leadU) := by
  simp only [Blk.lasterIssue, hat, hi, hres, Bool.not_true, Bool.or_self, Bool.false_eq_true, if_false, if_pos hlate]

theorem Blk.lasterIssue_issues (hat : b.lstAt? i = some e) (hi : e.issued = false) (hres : e.resolved = true)
    (hlead : (b.ins.now : Int) + leadU ≤ b.point e) (hsp : e.spilled = false) :
    b.lasterIssue i = { b with laster := { b.laster with ents := tput b.laster.ents i { e with issued := true } } } := by
  simp only [Blk.lasterIssue, hat, hi, hres, hsp, Bool.not_true, Bool.or_self, Bool.false_eq_true, if_false, if_neg (Int.not_lt.mpr hlead)]

end

/-! ### The commands -/

section
variable {s : State} {w r i : Nat} {d : Desc}

theorem exec_lasterArm_of_ready {block : Bytes} (h : Ready (s.blk.pass w) r d 0x24) :
    exec (.lasterArm w r block) s
      = .next { s with blk := Blk.settle s.blk (((s.blk.pass w).beginDesc r d).lasterArm ⟨r, d.id⟩ block) } := by
  change execLasterArm w r block s = _
  rw [execLasterArm, State.upd, Blk.withDesc_of_ready h rfl]

theorem exec_lasterCancel_of_ready (h : Ready (s.blk.pass w) r d 0x25) :
    exec (.lasterCancel w r) s
      = .next { s with blk := Blk.settle s.blk (((s.blk.pass w).beginDesc r d).lasterCancel ⟨r, d.id⟩ (leAt d.data 8 2)) } := by
  change execLasterCancel w r s = _
  rw [execLasterCancel, State.upd, Blk.withDesc_of_ready h rfl]

/-- A descriptor that completes with nothing but entries of the Laster changed. -/
theorem completes_laster {c : Instr} {u g : Blk} {status : Nat} {result : Bytes} {P : Blk → Prop}
    (hexec : exec c s = .next { s with blk := Blk.settle s.blk u }) (he : u = g.complete ⟨r, d.id⟩ status result)
    (hframe : FrameM 0x200000 ((s.blk.pass c.wait).beginDesc r d) g) (hP : P g) : Completes c s r d status result [.laster] P := by
  have hwhole : FrameM 0x210000 (s.blk.pass c.wait) g := ((Blk.beginDesc_frame ..).mono rfl).trans (hframe.mono rfl)
  exact ⟨g, he ▸ hexec, hframe.same .rings rfl, .of hwhole rfl, hP⟩

theorem exec_lasterSpillFill_fills {e : LEntry} (hat : (s.blk.pass w).lstAt? i = some e) (hsp : e.spilled = true)
    (hhot : e.target ≤ ((s.blk.pass w).ins.now + (s.blk.pass w).hotU : Nat)) :
    exec (.lasterSpillFill w i) s
      = .next { s with blk := Blk.settle s.blk { s.blk.pass w with laster := { (s.blk.pass w).laster with
          ents := tput (s.blk.pass w).laster.ents i { e with spilled := false } } } } := by
  change execLasterSpillFill w i s = _
  simp only [execLasterSpillFill, State.upd, hat, hsp, decide_eq_true hhot, Bool.and_self, if_true]

end

/-- Settles O37: each clause is the case of its command that applies, the descriptor begun where it has one. -/
theorem lasterArmsAndIssues : Obligations.LasterArmsAndIssues := by
  intro s w r i block d b c h
  refine ⟨fun st hr hno => ?refused, fun l hr hyes => ?arms, fun e hr hyes hlead hk hcyc => ?one, fun hr hg => ?neverGiven,
    fun hr hhas hgen => ⟨fun hat => ?gone, fun e hat => ⟨fun hno => ?notMine, fun hown hcls hi => ?waiting, fun hown hcls hi hp => ?issued,
      fun hown hcls hi hp => ?periodic⟩⟩,
    fun e hat hsp hhot => ?fill, fun e hat hi hres => ⟨fun hlead hsp => ?issues, fun hlate => ?late, fun hlate hcls hpol hn hp hw => ?skips⟩⟩
  case refused => exact completes_only (exec_lasterArm_of_ready hr) (Blk.lasterArm_refused hno)
  case arms =>
    have hframe : FrameM 0x7fe7fbfbc b (c.lasterArm ⟨r, d.id⟩ block) := ((b.beginDesc_frame r d).mono rfl).trans (Blk.lasterArm_frame ..)
    exact answers_laster (exec_lasterArm_of_ready hr) hframe rfl (Blk.lasterArm_arms hyes)
  case one =>
    exact completes_laster (exec_lasterArm_of_ready hr) (Blk.lasterArm_one (b := c) hyes hlead hk hcyc) (Blk.lstArm_frame ..) rfl
  case neverGiven => exact completes_only (exec_lasterCancel_of_ready hr) (Blk.lasterCancel_neverGiven (b := c) hg)
  case gone => exact completes_only (exec_lasterCancel_of_ready hr) (Blk.lasterCancel_gone (b := c) hhas hgen hat)
  case notMine => exact completes_only (exec_lasterCancel_of_ready hr) (Blk.lasterCancel_notMine (b := c) hhas hgen hat hno)
  case waiting =>
    exact completes_laster (exec_lasterCancel_of_ready hr) (Blk.lasterCancel_waiting (b := c) hhas hgen hat hown hcls hi)
      (Blk.lstDel_frame ..) rfl
  case issued => exact completes_only (exec_lasterCancel_of_ready hr) (Blk.lasterCancel_issued (b := c) hhas hgen hat hown hcls hi hp)
  case periodic =>
    exact completes_laster (exec_lasterCancel_of_ready hr) (Blk.lasterCancel_periodic (b := c) hhas hgen hat hown hcls hi hp)
      (FrameM.upd_laster _) ((Blk.lstAt?_tput (b := c) rfl _).trans (if_pos rfl))
  case fill =>
    refine ⟨_, exec_lasterSpillFill_fills hat hsp hhot, .of (FrameM.upd_laster b) rfl, ?_, fun j hj => ?_⟩
    · exact (Blk.lstAt?_tput (b := b) rfl _).trans (if_pos rfl)
    · exact (Blk.lstAt?_tput (b := b) rfl _).trans (if_neg hj)
  case issues =>
    exact answers_laster (u := (b.lasterIssue i).txRetry) rfl ((Blk.lasterIssue_frame ..).trans ((Blk.txRetry_frame _).mono rfl)) rfl
      (congrArg Blk.txRetry (Blk.lasterIssue_issues hat hi hres hlead hsp))
  case late =>
    exact answers_laster (u := (b.lasterIssue i).txRetry) rfl ((Blk.lasterIssue_frame ..).trans ((Blk.txRetry_frame _).mono rfl)) rfl
      (congrArg Blk.txRetry (Blk.lasterIssue_late hat hi hres hlate))
  case skips =>
    let x := e.afterLate (b.ins.now + leadU)
    have hcount : FrameM 0x200000 b (b.lateCount e.policy (x - e.k)) := Blk.lateCount_frame ..
    have hframe : FrameM 0x200000 b ((b.lateCount e.policy (x - e.k)).lstNextOcc i e x) := hcount.trans (Blk.lstNextOcc_frame ..)
    have hissue : (b.lasterIssue i).txRetry = (b.lateCount e.policy (x - e.k)).lstNextOcc i e x := by
      rw [Blk.lasterIssue_late hat hi hres hlate, Blk.lateEntry_skips hcls hpol hn]
      exact Blk.txRetry_of_no_waits ((congrArg Flow.waits (hframe.same .flow rfl)).trans hw)
    have hlast : e.has x = false := LEntry.has_of_single hp (LEntry.afterLate_of_single hp _)
    refine ⟨(b.lasterIssue i).txRetry, rfl, hissue ▸ .of hframe rfl, hissue ▸ ⟨?_, ?_⟩⟩
    · exact (Blk.lstNextOcc_last hlast).trans (congrArg (tdel · i) (Blk.lateCount_ents ..))
    · exact Blk.lstNextOcc_lateRun.trans (b.lateCount_lateRun hpol _)

end Sys2Proof.Machine
end

section
/-! Issued entries at their targets: gates, windows, records, gate lists, launches and key rolls (03 R64 to R76, R471, 07 R176, 09 R246). -/

namespace Sys2Proof.Machine

/-! ### Gates and windows -/

theorem Blk.outOf_congr {u c : Blk} (h : u.outs = c.outs) (v : Nat) : u.outOf v = c.outOf v := by
  rw [Blk.outOf, h]; rfl

theorem Blk.eyeOf_congr {u c : Blk} (h : u.eyes = c.eyes) (v : Nat) : u.eyeOf v = c.eyeOf v := by
  rw [Blk.eyeOf, h]; rfl

theorem Blk.lstAt?_congr {u c : Blk} (h : u.laster.ents = c.laster.ents) (i : Nat) : u.lstAt? i = c.lstAt? i := by
  rw [Blk.lstAt?, h]; rfl

theorem Blk.setGate_gate (b : Blk) (u : Nat) (on : Bool) : ((b.setGate u on).1.outOf u).gate = on := by
  unfold Blk.setGate
  dsimp only
  split
  · next h => exact beq_iff_eq.mp h
  · rw [Blk.outOf_setOut, if_pos rfl]

theorem Blk.setGate_outOf_ne (b : Blk) {u v : Nat} (on : Bool) (h : v ≠ u) : (b.setGate u on).1.outOf v = b.outOf v := by
  unfold Blk.setGate
  dsimp only
  split
  · rfl
  · rw [Blk.outOf_setOut, if_neg h]

theorem Blk.setWindow_windowOpen (b : Blk) (x : Nat) (on : Bool) : ((b.setWindow x on).1.eyeOf x).windowOpen = on := by
  unfold Blk.setWindow
  dsimp only
  split
  · next h => exact beq_iff_eq.mp h
  · rw [Blk.eyeOf_setEye, if_pos rfl]

theorem Blk.setWindow_eyeOf_ne (b : Blk) {x v : Nat} (on : Bool) (h : v ≠ x) : (b.setWindow x on).1.eyeOf v = b.eyeOf v := by
  unfold Blk.setWindow
  dsimp only
  split
  · rfl
  · rw [Blk.eyeOf_setEye, if_neg h]

/-- What OUTPUT_ON does to the gate of its unit: nothing where its stop falls on the same point (03 R76). -/
def Blk.startGate (b : Blk) (u : Nat) (empty : Bool) : Blk := if empty then b else (b.setGate u true).1

/-- What CAPTURE_OPEN does to the window of its Eyelet. -/
def Blk.startWindow (b : Blk) (x : Nat) (empty : Bool) : Blk := if empty then b else (b.setWindow x true).1

theorem Blk.startGate_frame (b : Blk) (u : Nat) (empty : Bool) : FrameM 0x2000000 b (b.startGate u empty) := by
  cases empty
  · exact b.setGate_frame u true
  · exact of_eq_true (FrameM.refl _ b)

theorem Blk.startWindow_frame (b : Blk) (x : Nat) (empty : Bool) : FrameM 0x4000000 b (b.startWindow x empty) := by
  cases empty
  · exact b.setWindow_frame x true
  · exact of_eq_true (FrameM.refl _ b)

theorem Blk.startGate_gate (b : Blk) (u : Nat) (empty : Bool) :
    ((b.startGate u empty).outOf u).gate = ((b.outOf u).gate || !empty) := by
  cases empty
  · exact (b.setGate_gate u true).trans (Bool.or_true _).symm
  · exact (Bool.or_false _).symm

theorem Blk.startGate_outOf_ne (b : Blk) {u v : Nat} (empty : Bool) (h : v ≠ u) : (b.startGate u empty).outOf v = b.outOf v := by
  cases empty
  · exact b.setGate_outOf_ne true h
  · rfl

theorem Blk.startWindow_windowOpen (b : Blk) (x : Nat) (empty : Bool) :
    ((b.startWindow x empty).eyeOf x).windowOpen = ((b.eyeOf x).windowOpen || !empty) := by
  cases empty
  · exact (b.setWindow_windowOpen x true).trans (Bool.or_true _).symm
  · exact (Bool.or_false _).symm

theorem Blk.startWindow_eyeOf_ne (b : Blk) {x v : Nat} (empty : Bool) (h : v ≠ x) : (b.startWindow x empty).eyeOf v = b.eyeOf v := by
  cases empty
  · exact b.setWindow_eyeOf_ne true h
  · rfl

/-! ### What each class does -/

section
variable {b : Blk} {stp : Int → Blk → Blk} {e : LEntry} {late empty : Bool}

theorem Blk.act_outputOn (h : e.cls = 3) : (b.act stp e late empty).1 = b.startGate e.obj empty := by
  simp only [Blk.act, h, Blk.startGate, fst_ite]

theorem Blk.act_outputOff (h : e.cls = 4) : (b.act stp e late empty).1 = (b.setGate e.obj false).1 := by
  cases empty <;> simp [Blk.act, h]

theorem Blk.act_captureOpen (h : e.cls = 5) : (b.act stp e late empty).1 = b.startWindow e.obj empty := by
  simp only [Blk.act, h, Blk.startWindow, fst_ite]

theorem Blk.act_captureClose (h : e.cls = 6) : (b.act stp e late empty).1 = (b.setWindow e.obj false).1 := by
  cases empty <;> simp [Blk.act, h]

theorem Blk.act_gateList (h : e.cls = 2) : (b.act stp e late empty).1 = b.gateTake e.obj := by
  simp [Blk.act, h]

theorem Blk.act_hostEvent (h : e.cls = 0xD) : b.act stp e late empty = (b, false) := by
  simp [Blk.act, h]

theorem Blk.act_launch {id : Nat} {f : TxF} (h : e.cls = 1) (hpay : e.pay = .launch id) (hf : b.armedFrame? e.obj id = some f) :
    (b.act stp e false empty).1 = b.launchRun f e.target.toNat := by
  simp [Blk.act, h, hpay, hf]

end

/-! ### The run of a start or stop action -/

theorem Blk.lstNop_ents (b : Blk) (nop : Bool) : (b.lstNop nop).laster.ents = b.laster.ents := by
  unfold Blk.lstNop
  split <;> rfl

/-- After its action a start or stop counts a NOP and gives its record: neither touches a gate, a window or an entry. -/
theorem Blk.runEntry_startStop {b a : Blk} {i : Nat} {e : LEntry} (hss : startStop e.cls = true)
    (ha : ((b.gone i e).act stepFn e false (b.pairEmpty e false)).1 = a) :
    FrameM 0x220008 a (b.runEntry stepFn i e (e.k + 1) false)
      ∧ (b.runEntry stepFn i e (e.k + 1) false).laster.ents = a.laster.ents := by
  subst ha
  rw [Blk.runEntry_onTime]
  dsimp only
  rw [if_pos hss]
  generalize (b.gone i e).act stepFn e false (b.pairEmpty e false) = r
  have hnop : FrameM 0x220008 r.1 (r.1.lstNop r.2) := (Blk.lstNop_frame ..).mono rfl
  split
  · have hrec := (r.1.lstNop r.2).lstRecord_frame i e 1 false (b.pairEmpty e false) r.2 (b.point e) e.target
    exact ⟨hnop.trans (hrec.mono rfl), (congrArg Laster.ents (hrec.same .laster rfl)).trans (Blk.lstNop_ents ..)⟩
  · exact ⟨hnop, Blk.lstNop_ents ..⟩

theorem Blk.gone_outOf (b : Blk) (i : Nat) (e : LEntry) (v : Nat) : (b.gone i e).outOf v = b.outOf v :=
  Blk.outOf_congr ((b.gone_frame i e).same .outs rfl) v

theorem Blk.gone_eyeOf (b : Blk) (i : Nat) (e : LEntry) (v : Nat) : (b.gone i e).eyeOf v = b.eyeOf v :=
  Blk.eyeOf_congr ((b.gone_frame i e).same .eyes rfl) v

/-- A command that runs a start or stop action `a`: what holds of the gates, windows and entries of `a` holds after it. -/
theorem answers_startStop {c : Instr} {s : State} {b : Blk} (hb : s.blk.pass c.wait = b) {i m q : Nat} {e : LEntry} {a : Blk}
    {ps : List Piece} {P : Blk → Prop}
    (hexec : exec c s = .next { s with blk := Blk.settle s.blk (b.runEntry stepFn i e (e.k + 1) false) }) (hss : startStop e.cls = true)
    (ha : ((b.gone i e).act stepFn e false (b.pairEmpty e false)).1 = a) (hframe : FrameM m (b.gone i e) a)
    (hlaster : m.testBit Piece.laster.ctorIdx = false) (hps : pieceBits ps = q) (hm : m &&& q = m) (hq : 0x2a0008 &&& q = 0x2a0008)
    (hP : ∀ u : Blk, FrameM 0x220008 a u → u.laster.ents = (b.gone i e).laster.ents → P u) : Answers c s ps P := by
  obtain ⟨hafter, hents⟩ := Blk.runEntry_startStop hss ha
  have hgone : FrameM 0x2a0008 b (b.gone i e) := (Blk.gone_frame ..).mono rfl
  have hrest : FrameM 0x2a0008 a (b.runEntry stepFn i e (e.k + 1) false) := hafter.mono rfl
  have hwhole := ((hgone.mono hq).trans (hframe.mono hm)).trans (hrest.mono hq)
  subst hb
  exact ⟨_, hexec, .of_pieceBits hwhole hps, hP _ hafter (hents.trans (congrArg Laster.ents (hframe.same .laster hlaster)))⟩

/-! ### The device's own entries -/

theorem Blk.keyRoll_one {b : Blk} {n : Nat} {x : LKey} {expiry : Bool} (hrolls : b.keyRolls (b.ins.now + nsU 1) = [x])
    (hpt : x.pt ≤ (b.ins.now : Int)) (hitem : x.item = bif expiry then LItem.keyExp n else LItem.keyAct n) :
    b.keyRoll n expiry = b.keyItem x.item := by
  cases expiry <;> simp [Blk.keyRoll, hrolls, hpt, insertKey, hitem]

theorem Blk.keyRoll_none {b : Blk} (hrolls : b.keyRolls (b.ins.now + nsU 1) = []) (n : Nat) (expiry : Bool) : b.keyRoll n expiry = b := by
  simp [Blk.keyRoll, hrolls]

/-- Settles O38: each command runs its entry, and what an entry does is its class's action on the block in which it has gone on. -/
theorem entriesRun : Obligations.EntriesRun := by
  intro s w i e b c
  have hgone : FrameM 0x280000 b c := b.gone_frame i e
  have hretry (u : Blk) (h : FrameM 0x7fe7fbfbc b u) : FrameM 0x7fe7fbfbc b u.txRetry := h.trans ((Blk.txRetry_frame u).mono rfl)
  refine ⟨fun hat hissued hdue => ⟨fun hcls => ?on, fun hcls => ?off, fun hcls => ?opens, fun hcls => ?closes, fun hcls hpair => ?event,
    fun hcls hn => ?gateList, fun id f hcls hn hpay hf => ?launch⟩, fun p hdue => ?gate,
    fun n x hrolls hpt => ⟨fun hitem => ?act, fun hitem => ?exp⟩, fun hrolls n x => ?noRoll⟩
  case on =>
    refine answers_startStop (b := b) rfl (exec_of_issued rfl rfl hat hcls hissued hdue) (by rw [hcls]; rfl) (Blk.act_outputOn hcls)
      (Blk.startGate_frame ..) rfl rfl rfl rfl fun u hu hents => ?_
    have hunits (v : Nat) := Blk.outOf_congr (hu.same .outs rfl) v
    refine ⟨?_, fun v hv => ?_, fun hlast => hents.trans (Blk.gone_last hlast), fun hmore hcyc => ?_⟩
    · rw [hunits, Blk.startGate_gate, Blk.gone_outOf]
    · rw [hunits, Blk.startGate_outOf_ne _ _ hv, Blk.gone_outOf]
    · rw [Blk.lstAt?_congr hents]; exact Blk.gone_more hmore hcyc
  case off =>
    refine answers_startStop (b := b) rfl (exec_of_issued rfl rfl hat hcls hissued hdue) (by rw [hcls]; rfl) (Blk.act_outputOff hcls)
      (Blk.setGate_frame ..) rfl rfl rfl rfl fun u hu hents => ?_
    have hunits (v : Nat) := Blk.outOf_congr (hu.same .outs rfl) v
    refine ⟨?_, fun v hv => ?_, fun hlast => hents.trans (Blk.gone_last hlast)⟩
    · rw [hunits, Blk.setGate_gate]
    · rw [hunits, Blk.setGate_outOf_ne _ _ hv, Blk.gone_outOf]
  case opens =>
    refine answers_startStop (b := b) rfl (exec_of_issued rfl rfl hat hcls hissued hdue) (by rw [hcls]; rfl) (Blk.act_captureOpen hcls)
      (Blk.startWindow_frame ..) rfl rfl rfl rfl fun u hu hents => ?_
    have heyelets (v : Nat) := Blk.eyeOf_congr (hu.same .eyes rfl) v
    refine ⟨?_, fun v hv => ?_, fun hlast => hents.trans (Blk.gone_last hlast)⟩
    · rw [heyelets, Blk.startWindow_windowOpen, Blk.gone_eyeOf]
    · rw [heyelets, Blk.startWindow_eyeOf_ne _ _ hv, Blk.gone_eyeOf]
  case closes =>
    refine answers_startStop (b := b) rfl (exec_of_issued rfl rfl hat hcls hissued hdue) (by rw [hcls]; rfl) (Blk.act_captureClose hcls)
      (Blk.setWindow_frame ..) rfl rfl rfl rfl fun u hu hents => ?_
    have heyelets (v : Nat) := Blk.eyeOf_congr (hu.same .eyes rfl) v
    refine ⟨?_, fun v hv => ?_, fun hlast => hents.trans (Blk.gone_last hlast)⟩
    · rw [heyelets, Blk.setWindow_windowOpen]
    · rw [heyelets, Blk.setWindow_eyeOf_ne _ _ hv, Blk.gone_eyeOf]
  case event =>
    have hempty : b.pairEmpty e false = false := by rw [Blk.pairEmpty, hpair]
    have hrun : b.runEntry stepFn i e (e.k + 1) false = c.lstRecord i e 1 false false false (b.point e) e.target := by
      rw [Blk.runEntry_onTime, Blk.act_hostEvent hcls, hempty, hcls]
      exact if_pos (Bool.or_true _)
    have hframe : FrameM 0x2a0008 b (b.runEntry stepFn i e (e.k + 1) false) :=
      hrun ▸ (hgone.mono rfl).trans ((Blk.lstRecord_frame ..).mono rfl)
    exact ⟨_, exec_of_issued rfl rfl hat hcls hissued hdue, .of hframe rfl, hrun⟩
  case gateList =>
    have hrun : b.runIssued 2 i = c.gateTake e.obj :=
      (Blk.runIssued_due hat hcls hissued hdue).trans
        ((Blk.runEntry_plain (by rw [hcls]; rfl) hn (by rw [hcls]; decide)).trans (Blk.act_gateList hcls))
    exact answers_laster (u := (b.runIssued 2 i).txRetry) rfl (hretry _ (Blk.runIssued_frame ..)) rfl (congrArg Blk.txRetry hrun)
  case launch =>
    have harmed : c.armedFrame? e.obj id = some f := by
      rw [Blk.armedFrame?, Blk.portOf, hgone.same .ports rfl]; exact hf
    have hrun : b.runIssued 1 i = c.launchRun f e.target.toNat :=
      (Blk.runIssued_due hat hcls hissued hdue).trans
        ((Blk.runEntry_plain (by rw [hcls]; rfl) hn (by rw [hcls]; decide)).trans (Blk.act_launch hcls hpay harmed))
    exact answers_laster (u := (b.runIssued 1 i).txRetry) rfl (hretry _ (Blk.runIssued_frame ..)) rfl (congrArg Blk.txRetry hrun)
  case gate =>
    have hframe : FrameM 0x7fe7fbfbc b ((b.pmcEvent 0xA0 0 1).gateTake p) :=
      ((Blk.pmcEvent_frame ..).mono rfl).trans ((Blk.gateTake_frame ..).mono rfl)
    have hexec : exec (.gateListEntry w p true) s
        = .next { s with blk := Blk.settle s.blk ((b.pmcEvent 0xA0 0 1).gateTake p).txRetry } := by
      change execGateListEntry w p true s = _
      rw [execGateListEntry, State.upd, if_pos rfl, if_pos hdue]
    exact answers_laster hexec (hretry _ hframe) rfl rfl
  case act =>
    have hroll : b.keyRoll n false = (b.pmcEvent 0xA0 0 1).keyActivate n := by
      rw [Blk.keyRoll_one (expiry := false) hrolls hpt hitem, hitem]; rfl
    exact ⟨b.keyRoll n false, rfl, .of (Blk.keyRoll_frame ..) rfl, hroll⟩
  case exp =>
    have hroll : b.keyRoll n true = (b.pmcEvent 0xA0 0 1).keyExpire n := by
      rw [Blk.keyRoll_one (expiry := true) hrolls hpt hitem, hitem]; rfl
    exact ⟨b.keyRoll n true, rfl, .of (Blk.keyRoll_frame ..) rfl, hroll⟩
  case noRoll =>
    have hroll : b.keyRoll n x = b := Blk.keyRoll_none hrolls n x
    have hframe : FrameM 0 b (b.keyRoll n x) := by rw [hroll]; exact of_eq_true (FrameM.refl 0 b)
    exact ⟨b.keyRoll n x, rfl, .of hframe rfl, hroll⟩

end Sys2Proof.Machine
end

section
/-! LOCKED is gained and lost (04 R103, R104). -/

namespace Sys2Proof.Machine

/-! ### The rows of LOCK_GAINED and LOCK_LOST -/

/-- A command that changes nothing. -/
theorem answers_idle {c : Instr} {s : State} {u : Blk} (hexec : exec c s = .next { s with blk := Blk.settle s.blk u })
    (he : u = s.blk.pass c.wait) : Answers c s [] fun u => u = s.blk.pass c.wait :=
  ⟨u, hexec, he ▸ .of (m := 0) (of_eq_true (FrameM.refl ..)) rfl, he⟩

section
variable {s : State} {w : Nat}

theorem exec_lockGained_acquire (hm : (s.blk.pass w).mode = .acquire) (hl : (s.blk.pass w).acqLocked = true) :
    exec (.lockGained w) s = .next { s with blk := Blk.settle s.blk ((s.blk.pass w).modeEnter .locked 2) } := by
  change execLockGained w s = _
  simp only [execLockGained, State.upd, hm, hl, if_true]

theorem exec_lockGained_holdover (hm : (s.blk.pass w).mode = .holdover)
    (hd : (s.blk.pass w).shadow.any (s.blk.pass w).dwelt = true) :
    exec (.lockGained w) s = .next { s with blk := Blk.settle s.blk (s.blk.pass w).relock } := by
  change execLockGained w s = _
  simp only [execLockGained, State.upd, hm, hd, if_true]

theorem exec_lockGained_idle (hacq : (s.blk.pass w).mode = .acquire → (s.blk.pass w).acqLocked = false)
    (hhold : (s.blk.pass w).mode = .holdover → (s.blk.pass w).shadow.any (s.blk.pass w).dwelt = false) :
    exec (.lockGained w) s = .next { s with blk := Blk.settle s.blk (s.blk.pass w) } := by
  change execLockGained w s = _
  rw [execLockGained, State.upd]
  split
  · next hm => rw [if_neg (Bool.eq_false_iff.mp (hacq hm))]
  · next hm => rw [if_neg (Bool.eq_false_iff.mp (hhold hm))]
  · rfl

end

/-- Lock from HOLDOVER ends by entering LOCKED with cause 2. -/
theorem Blk.relock_modes (b : Blk) : b.relock.mode = .locked ∧ b.relock.entryCause = 2 := by
  obtain ⟨c, hc⟩ : ∃ c : Blk, b.relock = c.modeEnter .locked 2 := by unfold Blk.relock; exact ⟨_, rfl⟩
  obtain ⟨hmode, -, hcause⟩ := c.modeEnter_modes .locked 2
  exact ⟨hc ▸ hmode, hc ▸ hcause⟩

section
variable {b : Blk}

theorem Blk.lockLost_unlocked (hm : b.mode ≠ .locked) : b.lockLost = b := by rw [Blk.lockLost, if_pos hm]

theorem Blk.lockLost_noReference (hm : b.mode = .locked) (hc : b.contrib = []) :
    b.lockLost = (b.modeEnter .holdover 4).recHold 1 := by
  simp only [Blk.lockLost, hm, hc, ne_eq, not_true, if_false, List.isEmpty_nil, if_true]

/-- In LOCKED with a contributor, the criteria decide unless a switch runs. -/
theorem Blk.lockLost_contrib (hm : b.mode = .locked) (hc : b.contrib ≠ []) :
    b.lockLost = if b.refs.sw.isSome then b
      else if 3 ≤ b.refs.overCnt ∨ b.refs.atPull then (b.modeEnter .holdover 3).recHold 1 else b := by
  simp only [Blk.lockLost, hm, ne_eq, not_true, if_false, List.isEmpty_iff, hc]

theorem Blk.lockLost_switching (hc : b.contrib ≠ []) (hsw : b.refs.sw.isSome = true) : b.lockLost = b := by
  by_cases hm : b.mode = .locked
  · rw [Blk.lockLost_contrib hm hc, if_pos hsw]
  · exact Blk.lockLost_unlocked hm

theorem Blk.lockLost_criteriaMet (hc : b.contrib ≠ []) (hover : b.refs.overCnt < 3) (hpull : b.refs.atPull = false) : b.lockLost = b := by
  by_cases hm : b.mode = .locked
  · rw [Blk.lockLost_contrib hm hc, if_neg (c := 3 ≤ _ ∨ _) (by simp [hover, hpull]), ite_self]
  · exact Blk.lockLost_unlocked hm

end

theorem Blk.modeEnter_recHold_modes (b : Blk) (m : Mode) (cause event : Nat) :
    ((b.modeEnter m cause).recHold event).mode = m ∧ ((b.modeEnter m cause).recHold event).lastMode = b.mode
      ∧ ((b.modeEnter m cause).recHold event).entryCause = cause := by
  have hrec := (b.modeEnter m cause).recHold_frame event
  obtain ⟨hmode, hlast, hcause⟩ := b.modeEnter_modes m cause
  exact ⟨(hrec.same .mode rfl).trans hmode, (hrec.same .lastMode rfl).trans hlast, (hrec.same .entryCause rfl).trans hcause⟩

section
variable {s : State} {w : Nat}

/-- LOCK_LOST where it leaves LOCKED for HOLDOVER. -/
theorem answers_lockLost_holdover {cause : Nat} (hm : (s.blk.pass w).mode = .locked)
    (he : (s.blk.pass w).lockLost = ((s.blk.pass w).modeEnter .holdover cause).recHold 1) :
    Answers (.lockLost w) s (touches (.lockLost w)) fun u => u.mode = .holdover ∧ u.lastMode = .locked ∧ u.entryCause = cause := by
  obtain ⟨hmode, hlast, hcause⟩ := (s.blk.pass w).modeEnter_recHold_modes .holdover cause 1
  exact ⟨(s.blk.pass w).lockLost, rfl, .of_pieceBits (Blk.lockLost_frame _) rfl, he ▸ ⟨hmode, hlast.trans hm, hcause⟩⟩

end

/-- Settles O34: each clause is the row of its command that applies. -/
theorem lockGainedAndLost : Obligations.LockGainedAndLost := by
  intro s w b
  refine ⟨fun hm hl => ?acquire, fun hm hd => ?holdover, fun hacq hhold => ?idle, fun hm hc => ?noReference,
    fun hm hc hsw hfail => ?failed, fun hm => answers_idle rfl (Blk.lockLost_unlocked hm),
    fun hc hsw => answers_idle rfl (Blk.lockLost_switching hc hsw),
    fun hc hover hpull => answers_idle rfl (Blk.lockLost_criteriaMet hc hover hpull)⟩
  case acquire =>
    obtain ⟨hmode, hlast, hcause⟩ := b.modeEnter_modes .locked 2
    exact ⟨_, exec_lockGained_acquire hm hl, .of ((Blk.modeEnter_frame ..).mono (q := 0x7ffffbfbc) rfl) rfl, hmode, hlast.trans hm, hcause⟩
  case holdover => exact ⟨_, exec_lockGained_holdover hm hd, .of b.relock_frame rfl, b.relock_modes⟩
  case idle => exact answers_idle (exec_lockGained_idle hacq hhold) rfl
  case noReference => exact answers_lockLost_holdover hm (Blk.lockLost_noReference hm hc)
  case failed =>
    have hrow := Blk.lockLost_contrib hm hc
    rw [hsw, Option.isSome_none, if_neg Bool.false_ne_true, if_pos hfail] at hrow
    exact answers_lockLost_holdover hm hrow

end Sys2Proof.Machine
end

section
/-! What moving a slot, evaluating it and settling the references leave of the slots and of the choice (04 R89, R92 to R96). -/

namespace Sys2Proof.Machine

/-! ### Records and moves -/

theorem Blk.slotOf_congr {a b : Blk} (h : a.refs = b.refs) (k : Nat) : a.slotOf k = b.slotOf k := by
  rw [Blk.slotOf, Blk.slotOf, h]

@[simp] theorem Blk.recRef_refs (b : Blk) (slot code cause event : Nat) : (b.recRef slot code cause event).refs = b.refs :=
  (Blk.recRef_frame ..).same .refs rfl

theorem Blk.slotMove_refs (b : Blk) (k : Nat) (x : Slot) (st : SlotState) (cause : Nat) :
    (b.slotMove k x st cause).refs = (b.setSlot k { x with st := st, cause := cause }).refs := Blk.recRef_refs ..

theorem Blk.slotOf_slotMove (b : Blk) (k : Nat) (x : Slot) (st : SlotState) (cause : Nat) :
    (b.slotMove k x st cause).slotOf k = { x with st := st, cause := cause } := by
  rw [Blk.slotOf_congr (b.slotMove_refs k x st cause), Blk.slotOf_setSlot, if_pos rfl]

/-! ### What settling keeps -/

/-- A slot without what its eligibility and the ensemble keep in it. -/
def Slot.steady (x : Slot) : Slot := { x with eligFrom := none, base := none, weight := 0, joinN := 0, means := [], sig2 := 0 }

/-- From `a` to `b` every slot is as it was but for what its eligibility and the ensemble keep in it, the split of the sentinel is the same,
and no force has begun. -/
structure Blk.SlotsStay (a b : Blk) : Prop where
  steady : ∀ k, (b.slotOf k).steady = (a.slotOf k).steady
  split : b.refs.split = a.refs.split
  unforced : a.refs.forced = false → b.refs.forced = false

theorem Blk.SlotsStay.trans {a b c : Blk} (h : Blk.SlotsStay a b) (k : Blk.SlotsStay b c) : Blk.SlotsStay a c where
  steady i := (k.steady i).trans (h.steady i)
  split := k.split.trans h.split
  unforced hf := k.unforced (h.unforced hf)

/-- An operation that leaves the table of slots alone. -/
theorem Blk.SlotsStay.of_refs {a b : Blk} {r : Refs} (h : b.refs = r) (hslots : r.slots = a.refs.slots) (hsplit : r.split = a.refs.split)
    (hforced : a.refs.forced = false → r.forced = false) : Blk.SlotsStay a b := by
  subst h
  exact ⟨fun k => by rw [Blk.slotOf, Blk.slotOf, hslots], hsplit, hforced⟩

theorem Blk.SlotsStay.refl (a : Blk) : Blk.SlotsStay a a := .of_refs rfl rfl rfl id

theorem Blk.setChoice_slotsStay (b : Blk) (k : Option Nat) : Blk.SlotsStay b (b.setChoice k) := .of_refs rfl rfl rfl id

theorem Blk.switchTo_refs (b : Blk) (k : Nat) (freq : Int) :
    (b.switchTo k freq).refs = { (b.setChoice (some k)).refs with sw := some { target := k, freq := freq } } := Blk.recRef_refs ..

theorem Blk.switchTo_slotsStay (b : Blk) (k : Nat) (freq : Int) : Blk.SlotsStay b (b.switchTo k freq) :=
  .of_refs (b.switchTo_refs k freq) rfl rfl id

theorem Blk.abandon_refs (b : Blk) (s : Switch) :
    (b.abandon s).refs = { b.refs with sw := none, abandCnt := satNat (b.refs.abandCnt + 1) 16 } := Blk.recRef_refs ..

theorem Blk.abandon_slotsStay (b : Blk) (s : Switch) : Blk.SlotsStay b (b.abandon s) := .of_refs (b.abandon_refs s) rfl rfl id

/-- A force ends with the eligibility of its slot. -/
def Blk.endForce (b : Blk) : Blk :=
  match b.refs.selected with
  | some k => if b.eligible k then b else { b with refs := { b.refs with forced := false } }
  | none => b

theorem Blk.endForce_slotsStay (b : Blk) : Blk.SlotsStay b b.endForce := by
  unfold Blk.endForce
  split
  · split
    · exact .refl b
    · exact .of_refs rfl rfl rfl fun _ => rfl
  · exact .refl b

/-- Selection once the force has been looked at: what a running switch becomes, or which slot is chosen without one (04 R92 to R94). -/
theorem Blk.reselect_eq (b : Blk) :
    b.reselect = let c := b.endForce
      match c.refs.sw with
      | some s =>
        if c.ensMode then (if c.eligible s.target then c else Blk.setChoice (c.abandon s) none)
        else if c.choice = some s.target then c
        else match c.choice with
          | some k => (c.abandon s).switchTo k s.freq
          | none => (c.abandon s).setChoice none
      | none =>
        if c.ensMode then (if c.refs.selected.isSome then c.setChoice none else c)
        else if c.choice = c.refs.selected then c
        else match c.choice, c.refs.selected with
          | some k, some _ => if c.switches then c.switchTo k c.heldFreq else c.setChoice (some k)
          | x, _ => c.setChoice x := rfl

theorem Blk.reselect_slotsStay (b : Blk) : Blk.SlotsStay b b.reselect := by
  rw [Blk.reselect_eq]
  refine b.endForce_slotsStay.trans ?_
  generalize b.endForce = c
  have habandoned (s : Switch) {d : Blk} (h : Blk.SlotsStay (c.abandon s) d) : Blk.SlotsStay c d := (c.abandon_slotsStay s).trans h
  dsimp only
  split
  · split
    · split
      · exact .refl c
      · exact habandoned _ (Blk.setChoice_slotsStay ..)
    · split
      · exact .refl c
      · split
        · exact habandoned _ (Blk.switchTo_slotsStay ..)
        · exact habandoned _ (Blk.setChoice_slotsStay ..)
  · split
    · split
      · exact c.setChoice_slotsStay none
      · exact .refl c
    · split
      · exact .refl c
      · split
        · split
          · exact Blk.switchTo_slotsStay ..
          · exact Blk.setChoice_slotsStay ..
        · exact Blk.setChoice_slotsStay ..

/-- Without a switch and without a choice, ensemble mode has nothing to select. -/
theorem Blk.reselect_ensemble {b : Blk} (hens : b.ensMode = true) (hsw : b.refs.sw = none) (hsel : b.refs.selected = none) :
    b.reselect = b := by
  have hforce : b.endForce = b := by rw [Blk.endForce, hsel]
  simp only [Blk.reselect_eq, hforce, hens, hsw, hsel, Option.isSome_none, Bool.false_eq_true, if_true, if_false]

/-- Mapping the entries of a table by a function that keeps each key and a view of each value keeps that view. -/
theorem tget_map_view {α β : Type} {f : Nat × α → Nat × α} {v : α → β} (hk : ∀ e, (f e).1 = e.1) (hv : ∀ e, v (f e).2 = v e.2) (d : α)
    (t : Tab α) (k : Nat) : v (tget d (t.map f) k) = v (tget d t k) := by
  induction t with
  | nil => rfl
  | cons e t ih =>
    have hkey := hk e
    have hval := hv e
    rw [List.map_cons]
    generalize f e = g at hkey hval
    obtain ⟨i, x⟩ := e
    obtain ⟨j, y⟩ := g
    rw [tget, tget, show j = i from hkey]
    split
    · exact hval
    · exact ih

theorem Blk.eligSync_slotsStay (b : Blk) : Blk.SlotsStay b b.eligSync where
  steady k := by
    refine tget_map_view (v := Slot.steady) (fun e => ?_) (fun e => ?_) {} b.refs.slots k
    · split_ifs <;> rfl
    · split_ifs <;> rfl
  split := rfl
  unforced := id

/-- Steering changes which slot a holdover keeps and the switch, and nothing else of the references. -/
theorem Blk.steerSync_refs (b : Blk) : ∃ hold sw, b.steerSync.refs = { b.refs with holdSlot := hold, sw := sw } := by
  have htake : b.heelTake.refs = b.refs := b.heelTake_frame.same .refs rfl
  have hstop : b.heelStop.refs = b.refs := b.heelStop_frame.same .refs rfl
  unfold Blk.steerSync
  split_ifs
  · exact ⟨_, _, rfl⟩
  · exact ⟨_, _, rfl⟩
  · exact ⟨b.heelTake.holdSlotNow, none, congrArg (fun r : Refs => { r with holdSlot := b.heelTake.holdSlotNow, sw := none }) htake⟩
  · exact ⟨_, _, hstop⟩

theorem Blk.steerSync_slotsStay (b : Blk) : Blk.SlotsStay b b.steerSync := by
  obtain ⟨_, _, h⟩ := b.steerSync_refs
  exact .of_refs h rfl rfl id

theorem Blk.refsSettle_slotsStay (b : Blk) : Blk.SlotsStay b b.refsSettle :=
  (b.eligSync_slotsStay.trans (Blk.reselect_slotsStay _)).trans (Blk.steerSync_slotsStay _)

/-! ### The evaluation of a slot -/

/-- What an evaluation may leave: the block as it is, the slot written, or the slot moved to a state. -/
inductive Blk.Evaluated (b : Blk) (k : Nat) : Blk → Prop
  | same : Blk.Evaluated b k b
  | write (x : Slot) : Blk.Evaluated b k (b.setSlot k x)
  | move (x : Slot) (st : SlotState) (cause : Nat) : Blk.Evaluated b k (b.slotMove k x st cause)

theorem Blk.toNoSignal_evaluated (b : Blk) (k : Nat) (x : Slot) (cause : Nat) : Blk.Evaluated b k (b.toNoSignal k x cause) := .move ..

theorem Blk.toQualifying_evaluated (b : Blk) (k : Nat) (x : Slot) : Blk.Evaluated b k (b.toQualifying k x) := .move ..

theorem Blk.Evaluated.ite {b u v : Blk} {k : Nat} {p : Prop} [Decidable p] (hu : Blk.Evaluated b k u) (hv : Blk.Evaluated b k v) :
    Blk.Evaluated b k (if p then u else v) := by
  split
  · exact hu
  · exact hv

theorem Blk.slotEval_evaluated (b : Blk) (k : Nat) : Blk.Evaluated b k (b.slotEval k) := by
  unfold Blk.slotEval
  dsimp only
  split
  case h_1 => exact .ite (.write _) (.move ..)
  case h_2 =>
    split
    case h_1 => exact .ite (.move ..) (Blk.toNoSignal_evaluated ..)
    case h_2 => exact .ite (.ite (.move ..) (.ite (Blk.toNoSignal_evaluated ..) (.move ..))) .same
    case h_3 => exact .ite (Blk.toNoSignal_evaluated ..) (.ite .same (Blk.toQualifying_evaluated ..))
    case h_4 => exact .ite (Blk.toNoSignal_evaluated ..) (.ite .same (.write _))
    case h_5 => exact .ite (Blk.toQualifying_evaluated ..) .same
    case h_6 => exact .ite (Blk.toQualifying_evaluated ..) .same
    case h_7 => exact .same
    case h_8 => exact .same

theorem Blk.slotEval_split (b : Blk) (k : Nat) : (b.slotEval k).refs.split = b.refs.split := by
  have h := b.slotEval_evaluated k
  generalize b.slotEval k = u at h ⊢
  cases h with
  | same => rfl
  | write x => rfl
  | move x st cause => exact (congrArg Refs.split (b.slotMove_refs k x st cause)).trans rfl

/-- A QUALIFIED slot that fails no test stays as it is. -/
theorem Blk.slotEval_qualified {b : Blk} {k : Nat} (hd : b.disableCause k = none) (hst : (b.slotOf k).st = .qualified)
    (hact : b.actFails k = false) (hrej : b.rejectCause k = none) : b.slotEval k = b := by
  simp only [Blk.slotEval, hd, hst, hact, hrej, Option.isSome_none, Bool.or_self, Bool.false_eq_true, if_false]

end Sys2Proof.Machine
end

section
/-! References compared: messages, comparisons, evaluations and timers (04 R81 to R91, R96, R102). -/

namespace Sys2Proof.Machine

/-! ### Messages and edges of a GNSS slot -/

section
variable {b : Blk} {k : Nat} {bytes : Bytes} {m : Tod}

/-- A GNSS slot with what an accepted message says of its accuracy and its offset (04 R83). -/
def Slot.told (x : Slot) (m : Tod) : Slot := { x with acc := m.acc, cause := if m.offsetDiffers then 6 else x.cause }

theorem Blk.gnssMessage_unaccepted (hk : b.slotKind k = 3) (hst : (b.slotOf k).st ≠ .disabled) (hm : b.todOf k bytes = none) :
    b.gnssMessage k bytes = b := by
  simp only [Blk.gnssMessage, hk, beq_eq_false_iff_ne.mpr hst, hm, bne_self_eq_false, Bool.or_self, Bool.false_eq_true, if_false]

/-- An accepted message waits for the next edge under LABEL_NEXT and else labels the edge that has come. -/
theorem Blk.gnssMessage_accepted (hk : b.slotKind k = 3) (hst : (b.slotOf k).st ≠ .disabled) (hm : b.todOf k bytes = some m) :
    b.gnssMessage k bytes =
      let y := (b.slotOf k).told m
      if b.flag (R.REF_SRC_LABEL_NEXT k) then b.setSlot k { y with label := some ⟨m.sec, m.qerr, b.up⟩ }
      else match (b.slotOf k).edge with
        | some (t, u) =>
          if labelWindow u b.up then (b.setSlot k { y with edge := none }).labelled k m.sec m.qerr t u else b.setSlot k { y with edge := none }
        | none => b.setSlot k y := by
  simp only [Blk.gnssMessage, hk, beq_eq_false_iff_ne.mpr hst, hm, bne_self_eq_false, Bool.or_self, Bool.false_eq_true, if_false]
  rfl

/-- A comparison of a slot that takes none. -/
theorem Blk.refComparison_ignored (t tRef : Int) (h : 24 ≤ k ∨ (b.slotOf k).st = .disabled ∨ b.slotReceives k = false) :
    b.refComparison k t tRef = b := by
  rw [Blk.refComparison, if_pos (by simpa [or_assoc] using h)]

/-- A comparison of a slot that takes it goes by the kind of its source (04 R81): an EYELET_PPS slot's reference time is the nearest second. -/
theorem Blk.refComparison_pps (t tRef : Int) (hk : k < 24) (hst : (b.slotOf k).st ≠ .disabled) (hr : b.slotReceives k = true)
    (hkind : b.slotKind k = 1) : b.refComparison k t tRef = b.slotEvent k (nearSec t) t b.up := by
  rw [Blk.refComparison, if_neg (by simp [hk, hst, hr])]
  simp only [hkind]

theorem Blk.refComparison_frequency (t tRef : Int) (hk : k < 24) (hst : (b.slotOf k).st ≠ .disabled) (hr : b.slotReceives k = true)
    (hkind : b.slotKind k = 2 ∨ b.slotKind k = 5) : b.refComparison k t tRef = b.slotEvent k tRef t b.up := by
  rw [Blk.refComparison, if_neg (by simp [hk, hst, hr])]
  obtain hkind | hkind := hkind <;> simp only [hkind]

theorem Blk.refComparison_gnss (t tRef : Int) (hk : k < 24) (hst : (b.slotOf k).st ≠ .disabled) (hr : b.slotReceives k = true)
    (hkind : b.slotKind k = 3) : b.refComparison k t tRef = b.gnssEdge k t := by
  rw [Blk.refComparison, if_neg (by simp [hk, hst, hr])]
  simp only [hkind]

theorem Blk.gnssEdge_waits (t : Int) (hl : b.flag (R.REF_SRC_LABEL_NEXT k) = false) :
    b.gnssEdge k t = b.setSlot k { b.slotOf k with edge := some (t, b.up) } := by
  simp only [Blk.gnssEdge, hl, Bool.false_eq_true, if_false]

end

/-! ### Evaluations and timers -/

section
variable {b : Blk} {k : Nat}

theorem Blk.refTick_missed (hk : k < 24) (hrun : b.ins.running = true) (hst : (b.slotOf k).st ≠ .disabled) :
    b.refTick k true = ((b.setSlot k { b.slotOf k with
      bucket := min (max (b.slotOf k).bucket (b.rd (R.REF_ACT_CAP k))) ((b.slotOf k).bucket + b.rd (R.REF_ACT_INC k)) }).slotEval k).refsSettle := by
  rw [Blk.refTick, if_neg (by simp [hk, hrun])]
  simp only [bne_iff_ne.mpr hst, Bool.and_self, if_true]

theorem Blk.refTick_came (hk : k < 24) (hrun : b.ins.running = true) : b.refTick k false = (b.slotEval k).refsSettle := by
  rw [Blk.refTick, if_neg (by simp [hk, hrun])]
  simp only [Bool.false_and, Bool.false_eq_true, if_false]

/-- A slot moved and then settled: what it keeps of its fields. -/
theorem Blk.steady_slotMove_refsSettle (b : Blk) (k : Nat) (x : Slot) (st : SlotState) (cause : Nat) :
    ((b.slotMove k x st cause).refsSettle.slotOf k).steady = Slot.steady { x with st := st, cause := cause } := by
  rw [(Blk.refsSettle_slotsStay _).steady k, Blk.slotOf_slotMove]

theorem Blk.toQualified_slot (b : Blk) (k : Nat) : let x := (b.toQualified k).slotOf k
    x.st = .qualified ∧ x.timer = none ∧ x.wasQual = true ∧ x.cause = 0 := by
  have h := b.steady_slotMove_refsSettle k { b.slotOf k with timer := none, wasQual := true } .qualified 0
  exact ⟨congrArg Slot.st h, congrArg Slot.timer h, congrArg Slot.wasQual h, congrArg Slot.cause h⟩

theorem Blk.qualExpire_first (hst : (b.slotOf k).st = .qualifying) (ht : b.timerOver k = true) (hw : (b.slotOf k).wasQual = false) :
    b.qualExpire k = b.toQualified k := by
  simp only [Blk.qualExpire, hst, ht, hw, bne_self_eq_false, Bool.not_true, Bool.or_self, Bool.false_eq_true, if_false]

theorem Blk.qualExpire_again (hst : (b.slotOf k).st = .qualifying) (ht : b.timerOver k = true) (hw : (b.slotOf k).wasQual = true) :
    b.qualExpire k = (b.slotMove k { b.slotOf k with timer := some (b.up + secU (b.rd (R.REF_TIMES_WTR_S k))) } .wtr
      (b.slotOf k).cause).refsSettle := by
  simp only [Blk.qualExpire, hst, ht, hw, bne_self_eq_false, Bool.not_true, Bool.or_self, Bool.false_eq_true, if_false, if_true]

theorem exec_wtrTimerExpire_over {s : State} {w : Nat} (hst : ((s.blk.pass w).slotOf k).st = .wtr) (ht : (s.blk.pass w).timerOver k = true) :
    exec (.wtrTimerExpire w k) s = .next { s with blk := Blk.settle s.blk ((s.blk.pass w).toQualified k) } := by
  change execWtrTimerExpire w k s = _
  simp only [execWtrTimerExpire, State.upd, hst, ht, beq_self_eq_true, Bool.and_self, if_true]

end

/-! ### The drift sentinel -/

/-- A fold keeps whatever each of its steps keeps. -/
theorem foldl_keeps {α β γ : Type} {g : β → α → β} {v : β → γ} {l : List α} (h : ∀ c, ∀ x ∈ l, v (g c x) = v c) (b : β) :
    v (l.foldl g b) = v b :=
  List.foldlRecOn (motive := fun c => v c = v b) l g rfl fun c hc x hx => (h c x hx).trans hc

/-- The slots that a round outvotes (04 R90). -/
def Blk.outvoted (b : Blk) : List Nat :=
  ((List.range 24).filter b.isCandidate).filter fun k => b.outvotes (((List.range 24).filter b.isVoter).map b.peerOf) (b.peerOf k)

/-- Whether a round that outvotes none shows voters that differ (04 R91). -/
def Blk.splits (b : Blk) : Bool :=
  let voters := ((List.range 24).filter b.isVoter).map b.peerOf
  b.outvoted.isEmpty && voters.any fun p => voters.any fun q => b.peerOver p q

/-- The block with what a round notes: the slots outvoted and the split. -/
def Blk.noteRound (b : Blk) : Blk :=
  let c := { b with refs := { b.refs with slots := b.refs.slots.map fun e => (e.1, { e.2 with outvoted := b.outvoted.contains e.1 })
                                          split := b.splits } }
  if b.splits then c.setF R.REF_STATUS_SENT_SPLIT else c

theorem Blk.noteRound_split (b : Blk) : b.noteRound.refs.split = b.splits := by
  unfold Blk.noteRound
  dsimp only
  split <;> rfl

theorem Blk.noteRound_flag (b : Blk) :
    b.noteRound.flag R.REF_STATUS_SENT_SPLIT = (b.flag R.REF_STATUS_SENT_SPLIT || b.splits) := by
  unfold Blk.noteRound
  dsimp only
  split
  · next h => rw [Blk.flag_setF_self _ _ (by decide) (by decide), h, Bool.or_true]
  · next h => rw [Bool.eq_false_iff.mpr h, Bool.or_false]; rfl

/-- The voter that the record of a split names (04 R91). -/
def Blk.firstVoter (b : Blk) : Nat := ((((List.range 24).filter b.isVoter).map b.peerOf).head?.map (·.k)).getD 0

/-- The block once a round has noted what it found and recorded the first of a run of splits. -/
def Blk.tellRound (b : Blk) : Blk :=
  let c := b.noteRound
  if b.splits && !b.refs.split then c.recRef b.firstVoter (c.slotOf b.firstVoter).st.code (c.slotOf b.firstVoter).cause 3 else c

theorem Blk.tellRound_frame (b : Blk) : FrameM 0x20008 b.noteRound b.tellRound := by
  rw [Blk.tellRound, FrameM.ite]
  exact ⟨fun _ => Blk.recRef_frame .., fun _ => of_eq_true (FrameM.refl ..)⟩

/-- A round tells what it found, and then the candidates are evaluated. -/
theorem Blk.sentinelRound_running {b : Blk} (hrun : b.ins.running = true) :
    b.sentinelRound = (((List.range 24).filter b.isCandidate).foldl Blk.slotEval b.tellRound).refsSettle := by
  rw [Blk.sentinelRound, hrun]
  rfl

theorem Blk.sentinelRound_notes {b : Blk} (hrun : b.ins.running = true) :
    b.sentinelRound.refs.split = b.splits
      ∧ b.sentinelRound.flag R.REF_STATUS_SENT_SPLIT = (b.flag R.REF_STATUS_SENT_SPLIT || b.splits) := by
  have hround := Blk.sentinelRound_running hrun
  generalize (List.range 24).filter b.isCandidate = cands at hround
  have hsplit : (cands.foldl Blk.slotEval b.tellRound).refs.split = b.tellRound.refs.split :=
    foldl_keeps (v := fun c : Blk => c.refs.split) (fun c k _ => c.slotEval_split k) _
  have hevals : FrameM 0x1c20008 b.noteRound (cands.foldl Blk.slotEval b.tellRound) :=
    .foldI (fun c k => (c.slotEval_frame k).mono rfl) (b.tellRound_frame.mono rfl)
  constructor
  · calc b.sentinelRound.refs.split = _ := by rw [hround]
      _ = _ := (Blk.refsSettle_slotsStay _).split
      _ = b.tellRound.refs.split := hsplit
      _ = b.noteRound.refs.split := congrArg Refs.split (b.tellRound_frame.same .refs rfl)
      _ = b.splits := b.noteRound_split
  · rw [← b.noteRound_flag, Blk.flag, Blk.flag, hround, (hevals.trans (Blk.refsSettle_frame _)).rd rfl]

/-! ### The ensemble -/

/-- Folding an operation that counts an interval of one slot over different slots counts one interval of each. -/
theorem Blk.foldl_joinN {g : Blk → Nat → Blk} (hself : ∀ b k, ((g b k).slotOf k).joinN = min 16 ((b.slotOf k).joinN + 1))
    (hother : ∀ b k j, j ≠ k → (g b k).slotOf j = b.slotOf j) {l : List Nat} (hl : l.Nodup) (b : Blk) {j : Nat} (hj : j ∈ l) :
    ((l.foldl g b).slotOf j).joinN = min 16 ((b.slotOf j).joinN + 1) := by
  induction l generalizing b with
  | nil => exact absurd hj List.not_mem_nil
  | cons k l ih =>
    obtain ⟨hk, hl⟩ := List.nodup_cons.mp hl
    rw [List.foldl_cons]
    obtain rfl | hj := List.mem_cons.mp hj
    · have hstay : (l.foldl g (g b j)).slotOf j = (g b j).slotOf j :=
        foldl_keeps (v := fun c : Blk => c.slotOf j) (fun c i hi => hother c i j fun h => hk (h ▸ hi)) _
      rw [hstay, hself]
    · rw [ih hl (g b k) hj, hother b k j fun h => hk (h ▸ hj)]

theorem Blk.ensSlots_nodup (b : Blk) : b.ensSlots.Nodup := by
  have hall : ((List.range 24).filter fun k => b.eligible k && b.flag (R.REF_SRC_ENS k) && b.slotKind k != 6).Nodup := List.nodup_range.filter _
  unfold Blk.ensSlots
  dsimp only
  split
  · exact hall
  · exact hall.filter _

theorem Blk.reweigh_joinN (b : Blk) (j : Nat) : (b.reweigh.slotOf j).joinN = (b.slotOf j).joinN := by
  unfold Blk.reweigh
  refine foldl_keeps (v := fun c : Blk => (c.slotOf j).joinN) (fun c x _ => ?_) b
  rw [Blk.slotOf_setSlot]
  split
  · next h => rw [h]
  · rfl

theorem Blk.ensembleUpdate_ensAt {b : Blk} (hens : b.ensMode = true) : b.ensembleUpdate.refs.ensAt = some (b.ins.now : Int) := by
  have hins : b.ensembleUpdate.ins = b.ins := b.ensembleUpdate_frame.same .ins rfl
  rw [← hins, Blk.ensembleUpdate, if_neg (by simp [hens])]

/-- The slots after an interval of the ensemble: each contributor in turn is written with one interval more, and then they are weighed. -/
theorem Blk.ensembleUpdate_slots {b : Blk} (hens : b.ensMode = true) :
    ∃ g : Blk → Nat → Blk, (∀ c k, ((g c k).slotOf k).joinN = min 16 ((c.slotOf k).joinN + 1))
      ∧ (∀ c k i, i ≠ k → (g c k).slotOf i = c.slotOf i)
      ∧ b.ensembleUpdate.refs.slots = (b.ensSlots.foldl g b).reweigh.refs.slots := by
  rw [Blk.ensembleUpdate, if_neg (by simp [hens])]
  dsimp only
  refine ⟨_, ?_, ?_, congrArg (fun c : Blk => c.reweigh.refs.slots) rfl⟩
  · intro c k
    rw [Blk.slotOf_setSlot, if_pos rfl]
  · intro c k i hi
    rw [Blk.slotOf_setSlot, if_neg hi]

theorem Blk.ensembleUpdate_joinN {b : Blk} (hens : b.ensMode = true) {j : Nat} (hj : j ∈ b.ensSlots) :
    (b.ensembleUpdate.slotOf j).joinN = min 16 ((b.slotOf j).joinN + 1) := by
  obtain ⟨g, hself, hother, hslots⟩ := Blk.ensembleUpdate_slots hens
  calc (b.ensembleUpdate.slotOf j).joinN = ((b.ensSlots.foldl g b).reweigh.slotOf j).joinN := by rw [Blk.slotOf, Blk.slotOf, hslots]
    _ = ((b.ensSlots.foldl g b).slotOf j).joinN := Blk.reweigh_joinN ..
    _ = min 16 ((b.slotOf j).joinN + 1) := Blk.foldl_joinN hself hother b.ensSlots_nodup b hj

theorem exec_ensembleUpdate_running {s : State} {w : Nat} (hrun : (s.blk.pass w).ins.running = true) :
    exec (.ensembleUpdate w) s = .next { s with blk := Blk.settle s.blk (s.blk.pass w).ensembleUpdate } := by
  change execEnsembleUpdate w s = _
  simp only [execEnsembleUpdate, State.upd, hrun, if_true]

theorem exec_acqNarrow_due {s : State} {w : Nat} (h : (s.blk.pass w).narrowDue = true) :
    exec (.acqNarrow w) s = .next { s with blk := Blk.settle s.blk { s.blk.pass w with
      refs := { (s.blk.pass w).refs with acqStep := (s.blk.pass w).refs.acqStep - 1, acqFrom := some (s.blk.pass w).up } } } := by
  change execAcqNarrow w s = _
  simp only [execAcqNarrow, State.upd, h, if_true]

/-- A command that writes one slot. -/
theorem answers_setSlot {c : Instr} {s : State} {u : Blk} {k : Nat} {x : Slot} (hexec : exec c s = .next { s with blk := Blk.settle s.blk u })
    (he : u = (s.blk.pass c.wait).setSlot k x) : Answers c s [.refs] fun u => u.slotOf k = x := by
  subst he
  exact ⟨_, hexec, .of (Blk.setSlot_frame ..) rfl, (Blk.slotOf_setSlot ..).trans (if_pos rfl)⟩

/-- Settles O40: each clause is the case of its command that applies. -/
theorem referencesCompared : Obligations.ReferencesCompared := by
  intro s w k bytes t tRef b x
  refine ⟨fun hk hst hm => ?unaccepted, fun m hk hst hm => ⟨fun hl => ?next, fun hl he => ?noEdge,
      fun tE uE hl he => ⟨fun hw => ?outside, fun hw => ?labels⟩⟩, fun h => ?ignored,
    fun hk hst hr => ⟨fun hkind => ?pps, fun hkind => ?frequency, fun hkind hl => ?gnss⟩,
    fun hk hrun hst => ?missed, fun hk hrun hd hst hact hrej => ?passes,
    fun hst ht => ⟨fun hw => ?first, fun hw => ?again⟩, fun hst ht => ?restored, fun hrun => ?round, fun hrun hens => ?interval,
    fun hdue => ?narrow⟩
  case unaccepted => exact answers_idle rfl (Blk.gnssMessage_unaccepted hk hst hm)
  case next =>
    have hmsg := Blk.gnssMessage_accepted hk hst hm
    simp only [hl, if_true] at hmsg
    exact answers_setSlot rfl hmsg
  case noEdge =>
    have hmsg := Blk.gnssMessage_accepted hk hst hm
    simp only [hl, show (b.slotOf k).edge = none from he, Bool.false_eq_true, if_false] at hmsg
    exact answers_setSlot rfl hmsg
  case outside =>
    have hmsg := Blk.gnssMessage_accepted hk hst hm
    simp only [hl, show (b.slotOf k).edge = some (tE, uE) from he, hw, Bool.false_eq_true, if_false] at hmsg
    exact answers_setSlot rfl hmsg
  case labels =>
    have hmsg := Blk.gnssMessage_accepted hk hst hm
    simp only [hl, show (b.slotOf k).edge = some (tE, uE) from he, hw, Bool.false_eq_true, if_false, if_true] at hmsg
    exact ⟨b.gnssMessage k bytes, rfl, .of_pieceBits (Blk.gnssMessage_frame ..) rfl, hmsg⟩
  case ignored => exact answers_idle rfl (Blk.refComparison_ignored t tRef h)
  case pps =>
    exact ⟨b.refComparison k t tRef, rfl, .of_pieceBits (Blk.refComparison_frame ..) rfl, Blk.refComparison_pps t tRef hk hst hr hkind⟩
  case frequency =>
    exact ⟨b.refComparison k t tRef, rfl, .of_pieceBits (Blk.refComparison_frame ..) rfl, Blk.refComparison_frequency t tRef hk hst hr hkind⟩
  case gnss => exact answers_setSlot rfl ((Blk.refComparison_gnss t tRef hk hst hr hkind).trans (Blk.gnssEdge_waits t hl))
  case missed => exact ⟨b.refTick k true, rfl, .of (Blk.refTick_frame ..) rfl, Blk.refTick_missed hk hrun hst⟩
  case passes =>
    refine ⟨b.refTick k false, rfl, .of (Blk.refTick_frame ..) rfl, ?_⟩
    rw [Blk.refTick_came hk hrun, Blk.slotEval_qualified hd hst hact hrej]
    exact (congrArg Slot.st (b.refsSettle_slotsStay.steady k)).trans hst
  case first =>
    exact ⟨b.qualExpire k, rfl, .of (Blk.qualExpire_frame ..) rfl, Blk.qualExpire_first hst ht hw ▸ b.toQualified_slot k⟩
  case again =>
    refine ⟨b.qualExpire k, rfl, .of (Blk.qualExpire_frame ..) rfl, ?_⟩
    rw [Blk.qualExpire_again hst ht hw]
    have hslot := b.steady_slotMove_refsSettle k { x with timer := some (b.up + secU (b.rd (R.REF_TIMES_WTR_S k))) } .wtr x.cause
    exact ⟨congrArg Slot.st hslot, congrArg Slot.timer hslot⟩
  case restored =>
    obtain ⟨hqual, htimer, -, -⟩ := b.toQualified_slot k
    exact ⟨_, exec_wtrTimerExpire_over hst ht, .of (Blk.toQualified_frame ..) rfl, hqual, htimer⟩
  case round => exact ⟨b.sentinelRound, rfl, .of b.sentinelRound_frame rfl, Blk.sentinelRound_notes hrun⟩
  case interval => exact ⟨_, exec_ensembleUpdate_running hrun, .of b.ensembleUpdate_frame rfl, Blk.ensembleUpdate_ensAt hens, fun _ => Blk.ensembleUpdate_joinN hens⟩
  case narrow => exact ⟨_, exec_acqNarrow_due hdue, .of (FrameM.upd_refs b) rfl, rfl⟩

end Sys2Proof.Machine
end

section
/-! REF_COMMAND: force and release, lockout and clearing, priority, bandwidth, mode, and ACCEPT_PATH (04 R105). -/

namespace Sys2Proof.Machine

/-! ### A descriptor that begins and completes -/

/-- A command of a descriptor that may begin does its work on the block with that descriptor begun. -/
theorem exec_of_ready {c : Instr} {s : State} {r op : Nat} {d : Desc} {p : Bytes → Bool} {f : DRef → Bytes → Blk → Blk}
    (hexec : exec c s = s.upd c.wait fun _ b => b.withDesc r op p f) (h : Ready (s.blk.pass c.wait) r d op) (hp : p d.data = true) :
    exec c s = .next { s with blk := Blk.settle s.blk (f ⟨r, d.id⟩ d.data ((s.blk.pass c.wait).beginDesc r d)) } := by
  rw [hexec, State.upd, Blk.withDesc_of_ready h hp]

/-- A descriptor that completes with the block as `g`, changed within `ps` since it began. -/
theorem completes_of {c : Instr} {s : State} {r status : Nat} {d : Desc} {result : Bytes} {ps : List Piece} {P : Blk → Prop} {u g : Blk}
    (hexec : exec c s = .next { s with blk := Blk.settle s.blk u }) (he : u = g.complete ⟨r, d.id⟩ status result)
    (hframe : Frame ps ((s.blk.pass c.wait).beginDesc r d) g) (hrings : ps.contains .rings = false) (hP : P g) :
    Completes c s r d status result ps P := by
  have hkept : Piece.rings ∉ ps := fun h => Bool.eq_false_iff.mp hrings (List.contains_iff_mem.mpr h)
  refine ⟨g, he ▸ hexec, hframe .rings hkept, fun p hp => ?_, hP⟩
  obtain ⟨hother, hp⟩ := not_or.mp (mt List.mem_cons.mpr hp)
  have hbegun : Frame [.rings] (s.blk.pass c.wait) ((s.blk.pass c.wait).beginDesc r d) := .of (Blk.beginDesc_frame ..) rfl
  exact Piece.same_trans (hbegun p (by simpa using hother)) (hframe p hp)

/-! ### FORCE and RELEASE -/

section
variable {b : Blk} {k : Nat}

theorem Blk.switchTo_forced (b : Blk) (k : Nat) (freq : Int) : (b.switchTo k freq).refs.forced = b.refs.forced :=
  (congrArg Refs.forced (b.switchTo_refs k freq)).trans rfl

theorem Blk.abandon_forced (b : Blk) (x : Switch) : (b.abandon x).refs.forced = b.refs.forced :=
  (congrArg Refs.forced (b.abandon_refs x)).trans rfl

theorem Blk.forceSlot_forced (b : Blk) (k : Nat) : (b.forceSlot k).refs.forced = true := by
  unfold Blk.forceSlot
  dsimp only
  split
  · split
    · rfl
    · exact (Blk.switchTo_forced ..).trans (Blk.abandon_forced ..)
  · split
    · rfl
    · split
      · exact Blk.switchTo_forced ..
      · rfl

theorem Blk.forceSlot_selected (hsw : b.refs.sw = none) : (b.forceSlot k).refs.selected = some k := by
  simp only [Blk.forceSlot, hsw]
  split
  · next h => exact beq_iff_eq.mp h
  · split
    · exact (congrArg Refs.selected (Blk.switchTo_refs ..)).trans rfl
    · rfl

end

section
variable {b : Blk} {ref : DRef} {d : Bytes}

theorem Blk.refForce_malformed (h : 24 ≤ refSlot d ∨ b.slotKind (refSlot d) = 0) : b.refForce ref d = b.complete ref stMalformed [] := by
  rw [Blk.refForce, if_pos (.inr h)]

/-- FORCE of a slot in use (04 R105). -/
theorem Blk.refForce_inUse (hop : byteAt d 8 = 1) (hk : refSlot d < 24) (hkind : b.slotKind (refSlot d) ≠ 0) :
    b.refForce ref d = if !b.slotFitted (refSlot d) then b.complete ref stAbsent []
      else if !b.eligible (refSlot d) ∨ b.ensMode ∨ b.mode = .follower then b.complete ref stDenied []
      else ((b.forceSlot (refSlot d)).steerSync).complete ref stOk [] := by
  rw [Blk.refForce, if_neg (by simp [hop, hk, hkind])]

theorem Blk.refForce_absent (hop : byteAt d 8 = 1) (hk : refSlot d < 24) (hkind : b.slotKind (refSlot d) ≠ 0)
    (hfit : b.slotFitted (refSlot d) = false) : b.refForce ref d = b.complete ref stAbsent [] := by
  rw [Blk.refForce_inUse hop hk hkind, if_pos (by simp [hfit])]

theorem Blk.refForce_denied (hop : byteAt d 8 = 1) (hk : refSlot d < 24) (hkind : b.slotKind (refSlot d) ≠ 0)
    (hfit : b.slotFitted (refSlot d) = true) (hno : b.eligible (refSlot d) = false ∨ b.ensMode = true ∨ b.mode = .follower) :
    b.refForce ref d = b.complete ref stDenied [] := by
  rw [Blk.refForce_inUse hop hk hkind, if_neg (by simp [hfit]), if_pos (by simpa using hno)]

theorem Blk.refForce_forces (hop : byteAt d 8 = 1) (hk : refSlot d < 24) (hkind : b.slotKind (refSlot d) ≠ 0)
    (hfit : b.slotFitted (refSlot d) = true) (helig : b.eligible (refSlot d) = true) (hens : b.ensMode = false) (hm : b.mode ≠ .follower) :
    b.refForce ref d = ((b.forceSlot (refSlot d)).steerSync).complete ref stOk [] := by
  rw [Blk.refForce_inUse hop hk hkind, if_neg (by simp [hfit]), if_neg (by simp [helig, hens, hm])]

/-! ### LOCKOUT, CLEAR and CLEAR_WTR -/

/-- LOCKOUT of a slot in use (04 R89). -/
theorem Blk.refLockout_inUse (hk : refSlot d < 24) (hkind : b.slotKind (refSlot d) ≠ 0)
    (hfol : b.mode = .follower → b.slotKind (refSlot d) ≠ 6) :
    b.refLockout ref d = let x := b.slotOf (refSlot d)
      if x.st = .disabled then (b.setSlot (refSlot d) { x with lockoutHeld := true }).complete ref stOk []
      else ((b.slotMove (refSlot d) { x with lockoutHeld := true, timer := none } .lockedOut 8).refsSettle).complete ref stOk [] := by
  rw [Blk.refLockout, if_neg (by simp [hk, hkind]), if_neg (not_and.mpr hfol)]

theorem Blk.refClear_clears (hk : refSlot d < 24) (hst : (b.slotOf (refSlot d)).st = .held ∨ (b.slotOf (refSlot d)).st = .lockedOut) :
    b.refClear ref d = ((b.toNoSignal (refSlot d) { b.slotOf (refSlot d) with flaps := [], lockoutHeld := false }
      (b.slotOf (refSlot d)).cause).refsSettle).complete ref stOk [] := by
  rw [Blk.refClear, if_neg (Nat.not_le.mpr hk), if_pos hst]

theorem Blk.refClear_denied (hk : refSlot d < 24) (hst : (b.slotOf (refSlot d)).st ∉ [.held, .lockedOut, .disabled]) :
    b.refClear ref d = b.complete ref stDenied [] := by
  simp only [List.mem_cons, List.not_mem_nil, or_false, not_or] at hst
  obtain ⟨hheld, hlocked, hdis⟩ := hst
  rw [Blk.refClear, if_neg (Nat.not_le.mpr hk), if_neg (not_or.mpr ⟨hheld, hlocked⟩), if_neg fun h => hdis h.1]

theorem Blk.refClearWtr_clears (hk : refSlot d < 24) (hst : (b.slotOf (refSlot d)).st = .wtr) :
    b.refClearWtr ref d = (b.toQualified (refSlot d)).complete ref stOk [] := by
  rw [Blk.refClearWtr, if_neg (Nat.not_le.mpr hk), if_neg (not_not_intro hst)]

theorem Blk.refClearWtr_denied (hk : refSlot d < 24) (hst : (b.slotOf (refSlot d)).st ≠ .wtr) :
    b.refClearWtr ref d = b.complete ref stDenied [] := by
  rw [Blk.refClearWtr, if_neg (Nat.not_le.mpr hk), if_pos hst]

/-- A slot that enters NO_SIGNAL, settled: its flaps and its lockout are those it enters with, and its bucket is full (04 R89). -/
theorem Blk.toNoSignal_refsSettle_slot (b : Blk) (k : Nat) (x : Slot) (cause : Nat) : let y := (b.toNoSignal k x cause).refsSettle.slotOf k
    y.st = .noSignal ∧ y.flaps = x.flaps ∧ y.lockoutHeld = x.lockoutHeld ∧ y.bucket = b.rd (R.REF_ACT_CAP k) := by
  have hslot : Slot.steady ((b.toNoSignal k x cause).refsSettle.slotOf k) = _ := Blk.steady_slotMove_refsSettle ..
  exact ⟨congrArg Slot.st hslot, (congrArg Slot.flaps hslot).trans rfl, (congrArg Slot.lockoutHeld hslot).trans rfl,
    congrArg Slot.bucket hslot⟩

theorem byteAt_lt (bs : Bytes) (off : Nat) : byteAt bs off < 2 ^ 8 := BitVec.isLt _

/-! ### SET_PRIO, SET_BW and ACCEPT_PATH -/

theorem Blk.refSetPrio_sets (hk : refSlot d < 24) (hkind : b.slotKind (refSlot d) ≠ 0) :
    b.refSetPrio ref d = ((b.wr (R.REF_CFG_PRIO (refSlot d)) (byteAt d 10)).refsSettle).complete ref stOk [] := by
  rw [Blk.refSetPrio, if_neg (by simp [hk, hkind])]

theorem Blk.refSetBw_sets (hv : byteAt d 10 ≤ 15) (hf : byteAt d 11 ≤ 1) :
    b.refSetBw ref d = (b.wr (if byteAt d 11 = 1 then R.REF_SEL_ACQ_BW else R.REF_SEL_BW) (byteAt d 10)).complete ref stOk [] := by
  rw [Blk.refSetBw, if_neg (by simp [hv, hf])]

/-- A step of bandwidth written to one of its two fields reads back, and the other field stays. -/
theorem Blk.rd_wr_bandwidth (b : Blk) (acq : Prop) [Decidable acq] {v : Nat} (hv : v ≤ 15) :
    let f := if acq then R.REF_SEL_ACQ_BW else R.REF_SEL_BW
    let o := if acq then R.REF_SEL_BW else R.REF_SEL_ACQ_BW
    (b.wr f v).rd f = v ∧ (b.wr f v).rd o = b.rd o := by
  have hfits : v % 2 ^ 4 = v := Nat.mod_eq_of_lt (Nat.lt_succ_of_le hv)
  by_cases h : acq
  · simp only [h, if_true]
    exact ⟨(Blk.rd_wr_self b R.REF_SEL_ACQ_BW v (by decide)).trans hfits, Blk.rd_wr_disj b R.REF_SEL_ACQ_BW R.REF_SEL_BW v (by decide) (by decide)⟩
  · simp only [h, if_false]
    exact ⟨(Blk.rd_wr_self b R.REF_SEL_BW v (by decide)).trans hfits, Blk.rd_wr_disj b R.REF_SEL_BW R.REF_SEL_ACQ_BW v (by decide) (by decide)⟩

theorem Blk.acceptPath_denied (hk : refSlot d < 24) (hfr : (b.slotOf (refSlot d)).frozen = false) :
    b.acceptPath ref d = b.complete ref stDenied [] := by
  rw [Blk.acceptPath, if_neg (Nat.not_le.mpr hk), if_pos (by simp [hfr])]

theorem Blk.acceptPath_thaws (hk : refSlot d < 24) (hfr : (b.slotOf (refSlot d)).frozen = true) :
    b.acceptPath ref d = (b.thaw (b.slotObj (refSlot d))).complete ref stOk [] := by
  rw [Blk.acceptPath, if_neg (Nat.not_le.mpr hk), if_neg (by simp [hfr])]

/-! ### SET_MODE -/

theorem Blk.refSetMode_denied (hv : byteAt d 10 ≤ 1) (hm : b.mode = .follower) : b.refSetMode ref d = b.complete ref stDenied [] := by
  rw [Blk.refSetMode, if_neg (Nat.not_lt.mpr hv), if_pos hm]

theorem Blk.refSetMode_busy (hv : byteAt d 10 ≤ 1) (hm : b.mode ≠ .follower) (hsw : b.switching = true) :
    b.refSetMode ref d = b.completeBusy ref := by
  rw [Blk.refSetMode, if_neg (Nat.not_lt.mpr hv), if_neg hm, if_pos hsw]

/-- SET_MODE while no switch runs (04 R99). -/
theorem Blk.refSetMode_idle (hv : byteAt d 10 ≤ 1) (hm : b.mode ≠ .follower) (hsw : b.switching = false) :
    b.refSetMode ref d = if b.rd R.REF_SEL_MODE = byteAt d 10 then b.complete ref stOk []
      else (if byteAt d 10 = 1 then b.toEnsemble else b.toSelect).complete ref stOk [] := by
  rw [Blk.refSetMode, if_neg (Nat.not_lt.mpr hv), if_neg hm, if_neg (Bool.eq_false_iff.mp hsw)]

theorem Blk.toEnsemble_mode (b : Blk) : b.toEnsemble.rd R.REF_SEL_MODE = 1 :=
  calc b.toEnsemble.rd R.REF_SEL_MODE = _ := (Blk.refsSettle_frame _).rd rfl _
    _ = 1 := Blk.rd_wr_self _ R.REF_SEL_MODE 1 (by decide)

/-- Settling selects nothing in ensemble mode where nothing is selected and no switch runs. -/
theorem Blk.refsSettle_unselected (hens : b.ensMode = true) (hsw : b.refs.sw = none) (hsel : b.refs.selected = none) :
    b.refsSettle.refs.selected = none := by
  have hstay : b.eligSync.reselect = b.eligSync := Blk.reselect_ensemble hens hsw hsel
  obtain ⟨_, _, h⟩ := b.eligSync.reselect.steerSync_refs
  rw [Blk.refsSettle, h, hstay]
  exact hsel

theorem Blk.toEnsemble_unselected (hsw : b.switching = false) : b.toEnsemble.refs.selected = none ∧ b.toEnsemble.refs.forced = false := by
  have hnone : b.refs.sw = none := Option.isNone_iff_eq_none.mp (by simpa [Blk.switching] using hsw)
  have hens (c : Blk) : (c.wr R.REF_SEL_MODE 1).ensMode = true := by
    rw [Blk.ensMode, Blk.rd_wr_self c R.REF_SEL_MODE 1 (by decide)]; rfl
  exact ⟨Blk.refsSettle_unselected (hens _) hnone rfl, (Blk.refsSettle_slotsStay _).unforced rfl⟩

theorem Blk.toSelect_mode (b : Blk) : b.toSelect.rd R.REF_SEL_MODE = 0 := by
  have hwr : (b.wr R.REF_SEL_MODE 0).rd R.REF_SEL_MODE = 0 := Blk.rd_wr_self b R.REF_SEL_MODE 0 (by decide)
  unfold Blk.toSelect
  refine ((Blk.refsSettle_frame _).rd rfl _).trans ?_
  split
  · split
    · exact ((Blk.switchTo_frame ..).rd rfl _).trans hwr
    · exact ((Blk.setChoice_frame ..).rd rfl _).trans hwr
  · exact hwr

/-! ### A descriptor in hand that ends with BUSY_RETRY -/

theorem Blk.mem_descs_of_nextDesc {r : Nat} {x : Desc} (h : b.nextDesc r = some x) : x ∈ (b.ringOf r).descs := by
  cases hfind : (b.ringOf r).descs.find? (!·.begun) with
  | none => simp [Blk.nextDesc, hfind] at h
  | some y =>
    simp only [Blk.nextDesc, hfind, Option.ite_none_left_eq_some, Option.some.injEq] at h
    obtain ⟨-, -, -, rfl⟩ := h
    exact List.mem_of_find?_eq_some hfind

/-- A descriptor that has begun is the one its reference names. -/
theorem Blk.beginDesc_desc? {r : Nat} {x : Desc} (h : x ∈ (b.ringOf r).descs) : ((b.beginDesc r x).desc? ⟨r, x.id⟩).isSome = true := by
  rw [Blk.desc?, Blk.beginDesc, Blk.ringOf_setRing, if_pos rfl, List.find?_isSome]
  exact ⟨{ x with begun := true }, List.mem_map.mpr ⟨x, h, if_pos rfl⟩, beq_self_eq_true x.id⟩

/-- The block with one more BUSY_RETRY counted in a run (13 R359). -/
def Blk.busyCounted (b : Blk) (n : Nat) : Blk :=
  { b with flow := { b.flow with busyRuns := tput b.flow.busyRuns n (tget 0 b.flow.busyRuns n + 1) } }

theorem Blk.completeBusy_of_desc {x : Desc} (h : b.desc? ref = some x) :
    b.completeBusy ref = (b.busyCounted (ref.ring * 256 + byteAt x.data 0)).complete ref stBusy [] := by
  rw [Blk.completeBusy, h]
  rfl

end

/-- Settles O41: each clause is the case of its code that applies, on the block with its descriptor begun. -/
theorem referenceCommands : Obligations.ReferenceCommands := by
  intro s w r d b c k v ps
  refine ⟨fun h hop => ⟨fun hbad => ?forceMalformed, fun hk hkind hfit => ?forceAbsent, fun hk hkind hfit hno => ?forceDenied,
      fun hk hkind hfit helig hens hm => ?force⟩,
    fun h hop => ?release, fun h hop hk hkind hfol => ⟨fun hst => ?lockout, fun hst => ?lockoutKept⟩,
    fun h hop hk => ⟨fun hst => ?clear, fun hst => ?clearDenied⟩,
    fun h hop hk => ⟨fun hst => ?clearWtr, fun hst => ?clearWtrDenied⟩, fun h hop hk hkind => ?prio, fun h hop hv hf => ?bw,
    fun h hop hv hm => ⟨fun hsw => ?busy, fun hsw hsame => ?sameMode, fun hsw hdiff => ?newMode⟩, fun h hop hv hm => ?modeDenied,
    fun h hop hk => ⟨fun hfr => ?acceptDenied, fun hfr => ?accept⟩⟩
  case forceMalformed => exact completes_only (exec_of_ready rfl h (by simp [hop])) (Blk.refForce_malformed (b := c) hbad)
  case forceAbsent => exact completes_only (exec_of_ready rfl h (by simp [hop])) (Blk.refForce_absent (b := c) hop hk hkind hfit)
  case forceDenied => exact completes_only (exec_of_ready rfl h (by simp [hop])) (Blk.refForce_denied (b := c) hop hk hkind hfit hno)
  case force =>
    obtain ⟨_, _, hrefs⟩ := (c.forceSlot k).steerSync_refs
    refine completes_of (exec_of_ready rfl h (by simp [hop])) (Blk.refForce_forces (b := c) hop hk hkind hfit helig hens hm)
      (.of (m := 0x1c20008) (((Blk.forceSlot_frame ..).mono rfl).trans ((Blk.steerSync_frame _).mono rfl)) rfl) rfl ⟨?_, fun hsw => ?_⟩
    · exact (congrArg Refs.forced hrefs).trans (c.forceSlot_forced k)
    · exact (congrArg Refs.selected hrefs).trans (Blk.forceSlot_selected (b := c) hsw)
  case release =>
    exact completes_of (exec_of_ready rfl h (by simp [hop])) rfl
      (.of (((FrameM.upd_refs c).mono rfl).trans (Blk.refsSettle_frame _)) rfl) rfl ((Blk.refsSettle_slotsStay _).unforced rfl)
  case lockout =>
    have hrow := (Blk.refLockout_inUse (b := c) (ref := ⟨r, d.id⟩) hk hkind hfol).trans (if_neg hst)
    have hslot := c.steady_slotMove_refsSettle k { c.slotOf k with lockoutHeld := true, timer := none } .lockedOut 8
    exact completes_of (exec_of_ready rfl h (by simp [hop])) hrow
      (.of (((Blk.slotMove_frame ..).mono rfl).trans (Blk.refsSettle_frame _)) rfl) rfl
      ⟨congrArg Slot.st hslot, congrArg Slot.cause hslot, congrArg Slot.lockoutHeld hslot, congrArg Slot.timer hslot⟩
  case lockoutKept =>
    have hrow := (Blk.refLockout_inUse (b := c) (ref := ⟨r, d.id⟩) hk hkind hfol).trans (if_pos hst)
    exact completes_of (exec_of_ready rfl h (by simp [hop])) hrow (.of (Blk.setSlot_frame ..) rfl) rfl
      ((Blk.slotOf_setSlot ..).trans (if_pos rfl))
  case clear =>
    obtain ⟨hstate, hflaps, hheld, hbucket⟩ := c.toNoSignal_refsSettle_slot k { c.slotOf k with flaps := [], lockoutHeld := false }
      (c.slotOf k).cause
    exact completes_of (exec_of_ready rfl h (by simp [hop])) (Blk.refClear_clears (b := c) hk hst)
      (.of (((Blk.toNoSignal_frame ..).mono rfl).trans (Blk.refsSettle_frame _)) rfl) rfl ⟨hstate, hflaps, hheld, hbucket⟩
  case clearDenied => exact completes_only (exec_of_ready rfl h (by simp [hop])) (Blk.refClear_denied (b := c) hk hst)
  case clearWtr =>
    exact completes_of (exec_of_ready rfl h (by simp [hop])) (Blk.refClearWtr_clears (b := c) hk hst)
      (.of (Blk.toQualified_frame ..) rfl) rfl (c.toQualified_slot k).1
  case clearWtrDenied => exact completes_only (exec_of_ready rfl h (by simp [hop])) (Blk.refClearWtr_denied (b := c) hk hst)
  case prio =>
    have hsettle := (c.wr (R.REF_CFG_PRIO k) v).refsSettle_frame
    refine completes_of (exec_of_ready rfl h (by simp [hop])) (Blk.refSetPrio_sets (b := c) hk hkind)
      (.of (m := 0x1c20018) (((Blk.wr_frame ..).mono rfl).trans (hsettle.mono rfl)) rfl) rfl ⟨?_, hsettle.same .regs rfl⟩
    calc _ = (c.wr (R.REF_CFG_PRIO k) v).rd (R.REF_CFG_PRIO k) := hsettle.rd rfl _
      _ = v % 2 ^ 8 := Blk.rd_wr_self c (R.REF_CFG_PRIO k) v (show 0 + 8 ≤ 32 by decide)
      _ = v := Nat.mod_eq_of_lt (byteAt_lt ..)
  case bw =>
    exact completes_of (exec_of_ready rfl h (by simp [hop])) (Blk.refSetBw_sets (b := c) hv hf) (.of (Blk.wr_frame ..) rfl) rfl
      (c.rd_wr_bandwidth (byteAt d.data 11 = 1) hv)
  case busy =>
    obtain ⟨x, hx⟩ := Option.isSome_iff_exists.mp (Blk.beginDesc_desc? (Blk.mem_descs_of_nextDesc h.1))
    exact completes_of (exec_of_ready rfl h (by simp [hop]))
      ((Blk.refSetMode_busy (b := c) hv hm hsw).trans (Blk.completeBusy_of_desc hx)) (.of (FrameM.upd_flow c) rfl) rfl ⟨_, rfl⟩
  case sameMode =>
    exact completes_only (exec_of_ready rfl h (by simp [hop])) ((Blk.refSetMode_idle (b := c) hv hm hsw).trans (if_pos hsame))
  case newMode =>
    have hrow := (Blk.refSetMode_idle (b := c) (ref := ⟨r, d.id⟩) hv hm hsw).trans (if_neg hdiff)
    obtain hone | hone := eq_or_ne (byteAt d.data 10) 1
    · rw [if_pos hone] at hrow
      exact completes_of (exec_of_ready rfl h (by simp [hop])) hrow (.of (Blk.toEnsemble_frame _) rfl) rfl
        ⟨c.toEnsemble_mode.trans hone.symm, fun _ => Blk.toEnsemble_unselected (b := c) hsw⟩
    · rw [if_neg hone] at hrow
      have hzero : v = 0 := by omega
      exact completes_of (exec_of_ready rfl h (by simp [hop])) hrow (.of (Blk.toSelect_frame _) rfl) rfl
        ⟨c.toSelect_mode.trans hzero.symm, fun hv1 => absurd hv1 hone⟩
  case modeDenied => exact completes_only (exec_of_ready rfl h (by simp [hop])) (Blk.refSetMode_denied (b := c) hv hm)
  case acceptDenied => exact completes_only (exec_of_ready rfl h (by simp [hop])) (Blk.acceptPath_denied (b := c) hk hfr)
  case accept =>
    exact completes_of (exec_of_ready rfl h (by simp [hop])) (Blk.acceptPath_thaws (b := c) hk hfr) (.of (Blk.thaw_frame ..) rfl) rfl rfl

end Sys2Proof.Machine
end

section
/-! Output units at work: OUTPUT_REALIGN, the start and the end of a realign, and edges on the grid (05 R121 to R128). -/

namespace Sys2Proof.Machine

/-! ### A unit is written -/

theorem Blk.outOf_setOut_self (b : Blk) (n : Nat) (x : OutUnit) : (b.setOut n x).outOf n = x :=
  (Blk.outOf_setOut ..).trans (if_pos rfl)

theorem Blk.outOf_setOut_ne (b : Blk) {n v : Nat} (x : OutUnit) (h : v ≠ n) : (b.setOut n x).outOf v = b.outOf v :=
  (Blk.outOf_setOut ..).trans (if_neg h)

/-- A command that writes one unit. -/
theorem answers_setOut {c : Instr} {s : State} {u : Blk} {n : Nat} {x : OutUnit} (hexec : exec c s = .next { s with blk := Blk.settle s.blk u })
    (he : u = (s.blk.pass c.wait).setOut n x) :
    Answers c s [.outs] fun u => u.outOf n = x ∧ ∀ v, v ≠ n → u.outOf v = (s.blk.pass c.wait).outOf v := by
  subst he
  exact ⟨_, hexec, .of (Blk.setOut_frame ..) rfl, Blk.outOf_setOut_self .., fun _ => Blk.outOf_setOut_ne _ _⟩

/-! ### OUTPUT_REALIGN -/

/-- The realign that a descriptor asks for, to start at time t at the earliest. -/
def Blk.realignAsked (b : Blk) (ref : DRef) (d : Bytes) (t : Nat) : Realign :=
  { method := byteAt d 12, rate := if leAt d 14 4 = 0 then b.rd R.TBS_SLEW_RATE else leAt d 14 4
    apply := max t b.ins.now, ref := some ref }

/-- A unit with this realign. -/
def Blk.setRealign (b : Blk) (x : Realign) (n : Nat) : Blk := b.setOut n { b.outOf n with realign := some x }

/-- The block in which these units have begun this realign, for the descriptor that waits for them. -/
def Blk.beginRealign (b : Blk) (ref : DRef) (mask : Nat) (x : Realign) : Blk :=
  let c := (maskUnits mask).foldl (Blk.setRealign · x) b
  { c with outs := { c.outs with jobs := c.outs.jobs ++ [{ ref := ref, mask := mask }] } }

theorem Blk.foldl_setRealign_outOf (x : Realign) (l : List Nat) (b : Blk) (v : Nat) :
    (l.foldl (Blk.setRealign · x) b).outOf v = if v ∈ l then { b.outOf v with realign := some x } else b.outOf v := by
  induction l generalizing b with
  | nil => rw [if_neg List.not_mem_nil]; rfl
  | cons n l ih =>
    rw [List.foldl_cons, ih]
    obtain rfl | hne := eq_or_ne v n
    · rw [if_pos List.mem_cons_self, Blk.setRealign, Blk.outOf_setOut_self, ite_self]
    · rw [Blk.setRealign, Blk.outOf_setOut_ne _ _ hne]
      exact if_congr (by rw [List.mem_cons, or_iff_right hne]) rfl rfl

theorem Blk.beginRealign_outOf (b : Blk) (ref : DRef) (mask : Nat) (x : Realign) (v : Nat) :
    (b.beginRealign ref mask x).outOf v = if v ∈ maskUnits mask then { b.outOf v with realign := some x } else b.outOf v :=
  Blk.foldl_setRealign_outOf x (maskUnits mask) b v

theorem Blk.beginRealign_jobs (b : Blk) (ref : DRef) (mask : Nat) (x : Realign) :
    (b.beginRealign ref mask x).outs.jobs = b.outs.jobs ++ [{ ref := ref, mask := mask }] :=
  congrArg (· ++ [_]) (foldl_keeps (g := (Blk.setRealign · x)) (v := fun c : Blk => c.outs.jobs) (fun _ _ _ => rfl) b)

theorem Blk.beginRealign_frame (b : Blk) (ref : DRef) (mask : Nat) (x : Realign) : FrameM 0x2000000 b (b.beginRealign ref mask x) :=
  (FrameM.foldI (fun _ _ => Blk.setOut_frame ..) (of_eq_true (FrameM.refl _ b))).trans (FrameM.upd_outs _)

theorem any_not_of_all {α : Type} {l : List α} {p : α → Bool} (h : l.all p = true) : ¬(l.any fun x => !p x) = true := by
  rw [← List.not_all_eq_any_not, h]; decide

section
variable {b : Blk} {ref : DRef} {d : Bytes} {t : Nat}
variable (ht : time10At d 18 = some t) (hnz : leAt d 8 4 ≠ 0) (hmask : leAt d 8 4 < 2 ^ 18) (hrate : leAt d 14 4 ≤ 500000)
  (hmethod : byteAt d 12 ∈ [1, 2, 3])
include ht hnz hmask hrate hmethod

/-- The checks of the units, in the order of R126, once the operands are within their limits. -/
theorem Blk.outputRealign_inRange :
    b.outputRealign ref d =
      if (maskUnits (leAt d 8 4)).any fun n => !b.unitPresent n then b.complete ref stAbsent []
      else if (maskUnits (leAt d 8 4)).any fun n => !(b.outOf n).running then b.complete ref stDenied []
      else if byteAt d 12 = 3 then ((maskUnits (leAt d 8 4)).foldl Blk.alignCancel b).complete ref stOk []
      else if (maskUnits (leAt d 8 4)).any fun n => (b.outOf n).realign.isSome then b.complete ref stBusy []
      else b.beginRealign ref (leAt d 8 4) (b.realignAsked ref d t) := by
  have hvalid : ¬(leAt d 8 4 = 0 ∨ leAt d 8 4 ≥ 2 ^ 18 ∨ byteAt d 12 = 0 ∨ byteAt d 12 > 3 ∨ leAt d 14 4 > 500000) := by
    simp only [List.mem_cons, List.not_mem_nil, or_false] at hmethod
    omega
  unfold Blk.outputRealign
  dsimp only
  rw [ht]
  exact if_neg hvalid

theorem Blk.outputRealign_absent (habs : ((maskUnits (leAt d 8 4)).any fun n => !b.unitPresent n) = true) :
    b.outputRealign ref d = b.complete ref stAbsent [] := by
  rw [Blk.outputRealign_inRange ht hnz hmask hrate hmethod, if_pos habs]

theorem Blk.outputRealign_stopped (hpres : (maskUnits (leAt d 8 4)).all b.unitPresent = true)
    (hstop : ((maskUnits (leAt d 8 4)).any fun n => !(b.outOf n).running) = true) :
    b.outputRealign ref d = b.complete ref stDenied [] := by
  rw [Blk.outputRealign_inRange ht hnz hmask hrate hmethod, if_neg (any_not_of_all hpres), if_pos hstop]

variable (hpres : (maskUnits (leAt d 8 4)).all b.unitPresent = true)
  (hrun : ((maskUnits (leAt d 8 4)).all fun n => (b.outOf n).running) = true)
include hpres hrun

theorem Blk.outputRealign_cancels (hcancel : byteAt d 12 = 3) :
    b.outputRealign ref d = ((maskUnits (leAt d 8 4)).foldl Blk.alignCancel b).complete ref stOk [] := by
  rw [Blk.outputRealign_inRange ht hnz hmask hrate hmethod, if_neg (any_not_of_all hpres), if_neg (any_not_of_all hrun), if_pos hcancel]

theorem Blk.outputRealign_busy (hcancel : byteAt d 12 ≠ 3)
    (hbusy : ((maskUnits (leAt d 8 4)).any fun n => (b.outOf n).realign.isSome) = true) :
    b.outputRealign ref d = b.complete ref stBusy [] := by
  rw [Blk.outputRealign_inRange ht hnz hmask hrate hmethod, if_neg (any_not_of_all hpres), if_neg (any_not_of_all hrun), if_neg hcancel,
    if_pos hbusy]

theorem Blk.outputRealign_begins (hcancel : byteAt d 12 ≠ 3)
    (hfree : ((maskUnits (leAt d 8 4)).all fun n => (b.outOf n).realign.isNone) = true) :
    b.outputRealign ref d = b.beginRealign ref (leAt d 8 4) (b.realignAsked ref d t) := by
  have hnone := any_not_of_all hfree
  simp only [Option.not_isNone] at hnone
  rw [Blk.outputRealign_inRange ht hnz hmask hrate hmethod, if_neg (any_not_of_all hpres), if_neg (any_not_of_all hrun), if_neg hcancel,
    if_neg hnone]

end

theorem exec_outputRealign_of_ready {s : State} {w r : Nat} {d : Desc} (h : Ready (s.blk.pass w) r d 0x23) :
    exec (.outputRealign w r) s
      = .next { s with blk := Blk.settle s.blk (((s.blk.pass w).beginDesc r d).outputRealign ⟨r, d.id⟩ d.data) } :=
  exec_of_ready (f := fun ref d b => b.outputRealign ref d) rfl h rfl

/-! ### A realign starts and ends -/

theorem Blk.foldl_complete_outs (l : List RealignJob) (b : Blk) : (l.foldl (fun c j => c.complete j.ref stOk []) b).outs = b.outs :=
  (FrameM.foldI (fun _ _ => Blk.complete_frame ..) (of_eq_true (FrameM.refl _ b))).same .outs rfl

theorem Blk.alignEnd_realign (b : Blk) (n : Nat) (o : OutUnit) : ((b.alignEnd n o).outOf n).realign = none := by
  unfold Blk.alignEnd
  dsimp only
  rw [Blk.outOf_congr (Blk.foldl_complete_outs ..)]
  exact congrArg OutUnit.realign (b.outOf_setOut_self n { o with realign := none, firstAlign := false })

section
variable {b : Blk} {n : Nat} {x : Realign}

theorem Blk.alignStart_due (hx : (b.outOf n).realign = some x) (hdue : b.alignDue n x = true) (hkind : b.rd (R.HLD_OCFG_KIND n) ≠ 4) :
    b.alignStart n =
      if (b.outOf n).mis = 0 then b.alignEnd n (b.outOf n)
      else if x.method = 2 then b.setOut n { b.outOf n with realign := some { x with started := true, from_ := b.up } }
      else b.setOut n { b.stepAlign n (b.outOf n) with
        realign := some { x with started := true, from_ := if b.rd (R.HLD_OCFG_KIND n) = 3 then 1 else 0 } } := by
  simp only [Blk.alignStart, hx, hdue, hkind, or_false, Bool.not_true, Bool.false_eq_true, if_false]

theorem Blk.alignDone_slew (hx : (b.outNow n).realign = some x) (hstart : x.started = true) (hslew : x.method = 2) (hmis : (b.outNow n).mis = 0) :
    b.alignDone n = b.alignEnd n (b.outNow n) := by
  simp [Blk.alignDone, hx, hstart, hslew, hmis]

variable {s : State} {w : Nat}

theorem exec_realignStart_later (h : ((s.blk.pass w).outOf n).firstAlign = false) :
    exec (.realignStart w n) s = .next { s with blk := Blk.settle s.blk ((s.blk.pass w).alignStart n) } := by
  change execRealignStart w n s = _
  rw [execRealignStart, State.upd, if_neg (Bool.eq_false_iff.mp h)]

theorem exec_firstAlign_first (h : ((s.blk.pass w).outOf n).firstAlign = true) :
    exec (.firstAlign w n) s = .next { s with blk := Blk.settle s.blk ((s.blk.pass w).alignStart n) } := by
  change execFirstAlign w n s = _
  rw [execFirstAlign, State.upd, if_pos h]

theorem exec_firstAlign_later (h : ((s.blk.pass w).outOf n).firstAlign = false) :
    exec (.firstAlign w n) s = .next { s with blk := Blk.settle s.blk (s.blk.pass w) } := by
  change execFirstAlign w n s = _
  rw [execFirstAlign, State.upd, if_neg (Bool.eq_false_iff.mp h)]

end

/-! ### Edges -/

theorem Blk.outNow_trail (b : Blk) (n : Nat) : (b.outNow n).trail = (b.outOf n).trail := by
  unfold Blk.outNow
  dsimp only
  split
  · split <;> rfl
  · rfl

theorem Blk.trailOut_outOf (b : Blk) (n : Nat) (t : Int) (v : Nat) :
    (b.trailOut n t).outOf v = if v = n then { b.outOf n with trail := none } else b.outOf v :=
  (Blk.outOf_setOut ..).trans (if_congr Iff.rfl rfl (Blk.outOf_congr ((b.edgeOut_frame n false t).same .outs rfl) v))

/-- The block once the leading edge of a unit's pending target has been emitted, or has been held back by squelch. -/
def Blk.leadEmitted (b : Blk) (n : Nat) : Blk :=
  let c := b.pmcEvent 0xA0 0 1
  if b.squelchNow n then c else c.edgeOut n true (b.outNow n).next

theorem Blk.leadEmitted_frame (b : Blk) (n : Nat) : FrameM 0x80008 b (b.leadEmitted n) := by
  have hcount : FrameM 0x80008 b (b.pmcEvent 0xA0 0 1) := (Blk.pmcEvent_frame ..).mono rfl
  rw [Blk.leadEmitted, FrameM.ite]
  exact ⟨fun _ => hcount, fun _ => hcount.trans ((Blk.edgeOut_frame ..).mono rfl)⟩

theorem Blk.unitPeriod_congr {u b : Blk} (h : u.regs = b.regs) (n : Nat) : u.unitPeriod n = b.unitPeriod n := by
  simp only [Blk.unitPeriod, Blk.rd, h]

theorem Blk.unitWidth_congr {u b : Blk} (h : u.regs = b.regs) (n : Nat) : u.unitWidth n = b.unitWidth n := by
  simp only [Blk.unitWidth, Blk.rd, h]

section
variable {b : Blk} {n : Nat}

theorem Blk.outEdge_trail {t : Int} (ht : (b.outOf n).trail = some t) (hdue : roundTo 625 t ≤ (b.ins.now : Int)) :
    b.outEdge n = b.trailOut n t := by
  simp only [Blk.outEdge, ht, hdue, if_true]

theorem Blk.outEdge_lead (ht : (b.outOf n).trail = none) (hp : b.edgePending n = true)
    (hdue : roundTo 625 (b.outNow n).next ≤ (b.ins.now : Int)) : b.outEdge n = b.leadOut n := by
  simp only [Blk.outEdge, ht, hp, hdue, decide_true, Bool.and_self, if_true]

/-- A leading edge arms the next grid point and, unless it was held back, the trailing edge of its pulse. -/
theorem Blk.leadOut_unit {p q : Nat} (hp : b.unitPeriod n = some (p, q)) : let o := (b.leadOut n).outOf n
    o.next = (b.outNow n).next + p ∧ o.squelched = b.squelchNow n
      ∧ o.trail = if b.squelchNow n then (b.outOf n).trail else some ((b.outNow n).next + b.unitWidth n) := by
  have hregs : (b.leadEmitted n).regs = b.regs := (b.leadEmitted_frame n).same .regs rfl
  have hperiod := (Blk.unitPeriod_congr hregs n).trans hp
  refine ⟨?_, ?_, ?_⟩
  · rw [Blk.leadOut, Blk.outOf_setOut_self]
    change (match (b.leadEmitted n).unitPeriod n with | some (p, _) => _ | none => _) = _
    rw [hperiod]
  · rw [Blk.leadOut, Blk.outOf_setOut_self]
  · rw [Blk.leadOut, Blk.outOf_setOut_self]
    change (if _ then _ else some (_ + ((b.leadEmitted n).unitWidth n : Int))) = _
    rw [Blk.outNow_trail, Blk.unitWidth_congr hregs]

/-- A unit beyond the Eyelets is never high-impedance: its leading edge goes out at the pin's level for active (06 R132). -/
theorem Blk.leadEmitted_out (hn : 16 ≤ n) (hsq : b.squelchNow n = false) :
    (b.leadEmitted n).out = .edge n (true != b.flag (R.HLD_OCFG_POL n)) (roundTo 625 (b.outNow n).next) :: b.out := by
  rw [Blk.leadEmitted, hsq, if_neg Bool.false_ne_true, Blk.edgeOut, if_neg (by simp [Nat.not_lt.mpr hn]), Blk.put_out,
    (Blk.pmcEvent_frame ..).same .out rfl, Blk.flag, (Blk.pmcEvent_frame b ..).rd rfl]
  rfl

theorem Blk.leadEmitted_squelched (hsq : b.squelchNow n = true) : (b.leadEmitted n).out = b.out := by
  rw [Blk.leadEmitted, hsq, if_pos rfl]
  exact (Blk.pmcEvent_frame ..).same .out rfl

end

/-- Settles O39: each clause is the case of its command that applies. -/
theorem outputUnitsRun : Obligations.OutputUnitsRun := by
  intro s w r n d b c mask us
  refine ⟨fun t h ht hnz hmask hrate hmethod => ⟨fun habs => ?absent, fun hpres hstop => ?stopped,
      fun hpres hrun hmeth => ⟨fun hbusy => ?busy, fun hfree => ?begins⟩, fun hpres hrun hcancel => ?cancel⟩,
    fun x hx hfirst hdue hkind => ⟨fun hmis hslew => ?slew, fun hmis hstep hclock => ?step, fun hmis => ?aligned⟩,
    fun hfirst => ?first, fun hfirst => answers_idle (exec_firstAlign_later hfirst) rfl,
    fun x hx hstart hslew hmis => ?done, fun t ht hdue => ?trail, fun p q ht hpend hdue hperiod => ?lead⟩
  case absent =>
    exact completes_only (exec_outputRealign_of_ready h) (Blk.outputRealign_absent (b := c) ht hnz hmask hrate hmethod habs)
  case stopped =>
    exact completes_only (exec_outputRealign_of_ready h) (Blk.outputRealign_stopped (b := c) ht hnz hmask hrate hmethod hpres hstop)
  case busy =>
    exact completes_only (exec_outputRealign_of_ready h) (Blk.outputRealign_busy (b := c) ht hnz hmask hrate hmethod hpres hrun hmeth hbusy)
  case begins =>
    have hrow := Blk.outputRealign_begins (b := c) (ref := ⟨r, d.id⟩) ht hnz hmask hrate hmethod hpres hrun hmeth hfree
    have hframe : FrameM 0x2010000 b (c.outputRealign ⟨r, d.id⟩ d.data) :=
      hrow ▸ ((Blk.beginDesc_frame ..).mono rfl).trans ((Blk.beginRealign_frame ..).mono rfl)
    refine ⟨c.outputRealign ⟨r, d.id⟩ d.data, exec_outputRealign_of_ready h, .of hframe rfl, ?_⟩
    rw [hrow]
    exact ⟨Blk.beginRealign_jobs .., fun v hv => (Blk.beginRealign_outOf ..).trans (if_pos hv),
      fun v hv => (Blk.beginRealign_outOf ..).trans (if_neg hv)⟩
  case cancel =>
    have hframe : FrameM 0x402090008 b (c.outputRealign ⟨r, d.id⟩ d.data) :=
      ((Blk.beginDesc_frame ..).mono rfl).trans (Blk.outputRealign_frame ..)
    exact ⟨_, exec_outputRealign_of_ready h, .of_pieceBits hframe rfl,
      Blk.outputRealign_cancels (b := c) ht hnz hmask hrate hmethod hpres hrun hcancel⟩
  case slew =>
    have hrow := Blk.alignStart_due hx hdue hkind
    rw [if_neg hmis, if_pos hslew] at hrow
    exact answers_setOut (exec_realignStart_later hfirst) hrow
  case step =>
    have hrow := Blk.alignStart_due hx hdue hkind
    rw [if_neg hmis, if_neg hstep, if_neg hclock] at hrow
    exact answers_setOut (exec_realignStart_later hfirst) hrow
  case aligned =>
    have hrow := (Blk.alignStart_due hx hdue hkind).trans (if_pos hmis)
    exact ⟨b.alignStart n, exec_realignStart_later hfirst, .of_pieceBits (Blk.alignStart_frame ..) rfl, hrow, hrow ▸ Blk.alignEnd_realign ..⟩
  case first => exact ⟨b.alignStart n, exec_firstAlign_first hfirst, .of_pieceBits (Blk.alignStart_frame ..) rfl, rfl⟩
  case done =>
    have hrow := Blk.alignDone_slew hx hstart hslew hmis
    exact ⟨b.alignDone n, rfl, .of_pieceBits (Blk.alignDone_frame ..) rfl, hrow, hrow ▸ Blk.alignEnd_realign ..⟩
  case trail =>
    refine ⟨b.outEdge n, rfl, ?_, ?_⟩ <;> rw [Blk.outEdge_trail ht hdue]
    · exact .of (Blk.trailOut_frame ..) rfl
    · exact ⟨(Blk.trailOut_outOf ..).trans (if_pos rfl), fun v hv => (Blk.trailOut_outOf ..).trans (if_neg hv)⟩
  case lead =>
    refine ⟨b.outEdge n, rfl, .of (Blk.outEdge_frame ..) rfl, ?_⟩
    rw [Blk.outEdge_lead ht hpend hdue]
    obtain ⟨hnext, hsq, htrail⟩ := Blk.leadOut_unit hperiod
    exact ⟨hnext, hsq, fun hheld => ⟨Blk.leadEmitted_squelched hheld, (htrail.trans (if_pos hheld)).trans ht⟩,
      fun hgoes => ⟨htrail.trans (if_neg (Bool.eq_false_iff.mp hgoes)), fun hn => Blk.leadEmitted_out hn hgoes⟩⟩

end Sys2Proof.Machine
end

section
/-! The Heel: HOLD_CHECK, samples of the temperature, and learning (05 R111 to R119). -/

namespace Sys2Proof.Machine

/-! ### HOLD_CHECK -/

theorem nextCheck_window {h now : Nat} (hle : h ≤ now) : now < nextCheck h now ∧ nextCheck h now ≤ now + secU 1 := by
  have hsec : 0 < secU 1 := by decide
  have hdiv := Nat.div_add_mod (now - h) (secU 1)
  have hmod := Nat.mod_lt (now - h) hsec
  rw [nextCheck, Nat.add_mul, Nat.one_mul, Nat.mul_comm]
  omega

/-- The block once a HOLD_CHECK that has come is counted and armed for the next second. -/
def Blk.checkArmed (b : Blk) (h : Nat) : Blk :=
  Blk.pmcEvent { b with laster := { b.laster with holdCheck := some (nextCheck h b.ins.now) } } 0xA0 0 1

theorem Blk.checkArmed_frame (b : Blk) (h : Nat) : FrameM 0x280000 b (b.checkArmed h) :=
  ((FrameM.upd_laster b).mono rfl).trans ((Blk.pmcEvent_frame ..).mono rfl)

theorem Blk.checkArmed_laster (b : Blk) (h : Nat) :
    (b.checkArmed h).laster = { b.laster with holdCheck := some (nextCheck h b.ins.now) } :=
  (Blk.pmcEvent_frame ..).same .laster rfl

theorem Blk.holdE_congr {u b : Blk} (hregs : u.regs = b.regs) (hup : u.up = b.up) (hhold : u.hold = b.hold) : u.holdE = b.holdE := by
  simp only [Blk.holdE, Blk.bound, Blk.rd, hregs, hup, hhold]

theorem exec_holdCheck_due {s : State} {w h : Nat} (hcheck : (s.blk.pass w).laster.holdCheck = some h) (hdue : h ≤ (s.blk.pass w).ins.now) :
    exec (.holdCheck w) s = .next { s with blk := Blk.settle s.blk ((s.blk.pass w).checkArmed h).holdEval } := by
  change execHoldCheck w s = _
  simp only [execHoldCheck, State.upd, hcheck, hdue, if_true, Blk.checkArmed]

/-- The block with E and the elapsed time shown and the frequency that the Heel steers. -/
def Blk.budgetShown (b : Blk) : Blk :=
  { b with hold := { b.hold with budget := satNat (b.holdE / 1000000000000000) 32, elapsed := satNat ((b.up - b.hold.thUp) / secU 1) 32 }
           refs := { b.refs with freq := b.heelFreq } }

section
variable {b : Blk}

theorem Blk.holdEval_idle (h : b.heel.steering = false) : b.holdEval = b := if_pos (by rw [h]; rfl)

variable (h : b.heel.steering = true)
include h

theorem Blk.holdEval_steering :
    b.holdEval = if b.mode == .holdover && !b.holdExpired && decide (b.holdLimit < b.holdE)
      then { b.budgetShown with holdExpired := true }.recHold 2 else b.budgetShown :=
  if_neg (by rw [h]; decide)

theorem Blk.holdEval_hold : b.holdEval.hold = b.budgetShown.hold := by
  rw [Blk.holdEval_steering h]
  split
  · exact (Blk.recHold_frame ..).same .hold rfl
  · rfl

theorem Blk.holdEval_expired :
    b.holdEval.holdExpired = (b.holdExpired || (b.mode == .holdover && decide (b.holdLimit < b.holdE))) := by
  rw [Blk.holdEval_steering h]
  split
  · next hexp =>
    simp only [Bool.and_eq_true] at hexp
    obtain ⟨⟨hmode, -⟩, hover⟩ := hexp
    rw [hmode, hover, Bool.and_self, Bool.or_true]
    exact (Blk.recHold_frame ..).same .holdExpired rfl
  · next hkept =>
    change b.holdExpired = _
    cases hexp : b.holdExpired
    · rw [hexp, Bool.not_false, Bool.and_true] at hkept
      exact (Bool.eq_false_iff.mpr hkept).symm
    · rfl

end

/-- What a HOLD_CHECK that has come shows, and whether the holdover has expired with it. -/
theorem Blk.checkArmed_holdEval {b : Blk} (hsteer : b.heel.steering = true) (h : Nat) : let u := (b.checkArmed h).holdEval
    u.hold = b.budgetShown.hold
      ∧ u.holdExpired = (b.holdExpired || (b.mode == .holdover && decide (b.holdLimit < b.holdE))) := by
  have harmed := b.checkArmed_frame h
  have hsteers : (b.checkArmed h).heel.steering = true := (congrArg Heel.steering (harmed.same .heel rfl)).trans hsteer
  have hhold : (b.checkArmed h).hold = b.hold := harmed.same .hold rfl
  have hup : (b.checkArmed h).up = b.up := harmed.same .up rfl
  have hmode : (b.checkArmed h).mode = b.mode := harmed.same .mode rfl
  have hexpired : (b.checkArmed h).holdExpired = b.holdExpired := harmed.same .holdExpired rfl
  have hE : (b.checkArmed h).holdE = b.holdE := Blk.holdE_congr (harmed.same .regs rfl) hup hhold
  constructor
  · rw [Blk.holdEval_hold hsteers]
    simp only [Blk.budgetShown, hhold, hup, hE]
  · rw [Blk.holdEval_expired hsteers, hexpired, hmode, hE, Blk.holdLimit, harmed.rd rfl]
    rfl

/-! ### Samples of the temperature -/

theorem Blk.srcSync_same {b : Blk} (hsrc : b.heel.src = b.rd R.HLD_TEMP_CFG_SRC) : b.srcSync = b := if_pos hsrc

section
variable {s : State} {w : Nat} {ok : Bool} {t : Int} (hsrc : (s.blk.pass w).heel.src = (s.blk.pass w).rd R.HLD_TEMP_CFG_SRC)
include hsrc

/-- A sample of a source that has not changed. -/
theorem exec_tempSample_sameSrc :
    exec (.tempSample w ok t) s = .next { s with blk := Blk.settle s.blk (
      if !(s.blk.pass w).ins.running || (s.blk.pass w).rd R.HLD_TEMP_CFG_SRC = 0 then s.blk.pass w
      else if ok && tempGood t then (s.blk.pass w).tempGoodAt t else (s.blk.pass w).tempBadAt) } := by
  change execTempSample w ok t s = _
  rw [execTempSample, State.upd, Blk.srcSync_same hsrc]

theorem exec_tempSample_none (h : (s.blk.pass w).ins.running = false ∨ (s.blk.pass w).rd R.HLD_TEMP_CFG_SRC = 0) :
    exec (.tempSample w ok t) s = .next { s with blk := Blk.settle s.blk (s.blk.pass w) } := by
  rw [exec_tempSample_sameSrc hsrc, if_pos (by simpa using h)]

variable (hrun : (s.blk.pass w).ins.running = true) (hne : (s.blk.pass w).rd R.HLD_TEMP_CFG_SRC ≠ 0)
include hrun hne

theorem exec_tempSample_good (hok : ok = true) (hgood : tempGood t = true) :
    exec (.tempSample w ok t) s = .next { s with blk := Blk.settle s.blk ((s.blk.pass w).tempGoodAt t) } := by
  rw [exec_tempSample_sameSrc hsrc, if_neg (by simp [hrun, hne]), if_pos (by rw [hok, hgood]; rfl)]

theorem exec_tempSample_bad (hbad : ok = false ∨ tempGood t = false) :
    exec (.tempSample w ok t) s = .next { s with blk := Blk.settle s.blk (s.blk.pass w).tempBadAt } := by
  rw [exec_tempSample_sameSrc hsrc, if_neg (by simp [hrun, hne]), if_neg (by simpa using fun hok => hbad.resolve_left (by simp [hok]))]

end

/-- The third good reading in a row after a loss. -/
def Heel.tempBack (h : Heel) : Bool := h.tempLost && decide (2 ≤ h.good)

/-- The readings of RATE_WIN with a new one. -/
def Blk.readingsWith (b : Blk) (t : Int) : List (Nat × Int) :=
  ((b.up, t) :: b.heel.readings).filter fun e => decide (b.up ≤ e.1 + b.rateWin)

/-- The Heel after a good reading: T and Ṫ are held while a loss goes on. -/
def Blk.heelAfter (b : Blk) (t : Int) : Heel :=
  let lost := b.heel.tempLost && !b.heel.tempBack
  { b.heel with seen := true, bad := 0, good := b.heel.good + 1, tempLost := lost, t := if lost then b.heel.t else t
                readings := b.readingsWith t, tdot := if lost then b.heel.tdot else slopeOf (b.readingsWith t) }

section
variable {b : Blk} {t : Int}

theorem Blk.tempGoodAt_goesOn (h : b.heel.tempBack = false) : b.tempGoodAt t = { b with heel := b.heelAfter t } :=
  if_neg (Bool.eq_false_iff.mp h)

theorem Blk.tempGoodAt_back (h : b.heel.tempBack = true) :
    b.tempGoodAt t
      = { b with heel := b.heelAfter t, hold := { b.hold with lossAcc := b.hold.loss b.up, lossFrom := none } }.recHold 4 :=
  if_pos h

theorem Blk.tempGoodAt_heel : (b.tempGoodAt t).heel = b.heelAfter t := by
  cases h : b.heel.tempBack
  · rw [Blk.tempGoodAt_goesOn h]
  · rw [Blk.tempGoodAt_back h]
    exact (Blk.recHold_frame ..).same .heel rfl

theorem Blk.tempGoodAt_back_hold (h : b.heel.tempBack = true) :
    (b.tempGoodAt t).hold = { b.hold with lossAcc := b.hold.loss b.up, lossFrom := none } := by
  rw [Blk.tempGoodAt_back h]
  exact (Blk.recHold_frame ..).same .hold rfl

theorem Blk.heelAfter_known (h : b.heel.tempLost = false ∨ b.heel.tempBack = true) :
    (b.heelAfter t).t = t ∧ (b.heelAfter t).tdot = slopeOf (b.heelAfter t).readings ∧ (b.heelAfter t).tempLost = false := by
  have hknown : (b.heel.tempLost && !b.heel.tempBack) = false := by obtain h | h := h <;> simp [h]
  simp only [Blk.heelAfter, hknown, Bool.false_eq_true, if_false, and_self]

theorem Blk.heelAfter_lost (hlost : b.heel.tempLost = true) (hback : b.heel.tempBack = false) :
    (b.heelAfter t).t = b.heel.t ∧ (b.heelAfter t).tempLost = true := by
  simp only [Blk.heelAfter, hlost, hback, Bool.not_false, Bool.and_self, if_true, and_self]

/-- The block after one more bad reading. -/
def Blk.badCounted (b : Blk) : Blk := { b with heel := { b.heel with bad := b.heel.bad + 1, good := 0 } }

/-- The block in which the temperature is lost from now on, before the error is raised. -/
def Blk.tempGone (b : Blk) : Blk :=
  let c := { b.badCounted with heel := { b.badCounted.heel with tempLost := true }
                               hold := { b.hold with lossFrom := if b.hold.active then some b.up else none } }
  let c := { c with hold := { c.hold with pred := if c.hold.active then c.holdPred c.hold else c.hold.pred } }
  (c.setF R.HLD_STATUS_TEMP_EVENT).recHold 3

theorem Blk.tempBadAt_counts (h : b.heel.tempLost = true ∨ b.heel.bad < 2) : b.tempBadAt = b.badCounted :=
  if_pos (by simpa using h)

theorem Blk.tempBadAt_loses (hlost : b.heel.tempLost = false) (hbad : 2 ≤ b.heel.bad) : b.tempBadAt = b.tempGone.raiseEnv errTempLost 0 :=
  if_neg (by simp [hlost, Nat.not_lt.mpr hbad])

theorem Blk.tempGone_heel : b.tempGone.heel.tempLost = true :=
  (congrArg Heel.tempLost ((Blk.recHold_frame ..).same .heel rfl)).trans rfl

theorem Blk.tempGone_lossFrom : b.tempGone.hold.lossFrom = if b.hold.active then some b.up else none :=
  (congrArg Hold.lossFrom ((Blk.recHold_frame ..).same .hold rfl)).trans rfl

theorem Blk.tempGone_event : b.tempGone.flag R.HLD_STATUS_TEMP_EVENT = true := by
  rw [Blk.tempGone, Blk.flag, (Blk.recHold_frame ..).rd rfl]
  exact Blk.flag_setF_self _ _ (by decide) (by decide)

theorem Blk.tempGone_frame : FrameM 0x1820018 b b.tempGone :=
  (((FrameM.upd_heel_hold b).mono rfl).trans ((Blk.setF_frame ..).mono rfl)).trans ((Blk.recHold_frame ..).mono rfl)

end

/-! ### Learning -/

theorem Blk.rd_wrW_ne (b : Blk) {off : Nat} (v : Nat) {f : BF} (h : f.off ≠ off) : (b.wrW off v).rd f = b.rd f := by
  rw [Blk.rd, Blk.wrW, rfGet_rfPut, if_neg h]; rfl

theorem Blk.rd_wrW_epoch (b : Blk) {v : Nat} (h : v < 0x100000000) : (b.wrW R.HLD_EPOCH v).rd R.HLD_EPOCH_SEC = v := by
  rw [Blk.rd, Blk.wrW, rfGet_rfPut]
  change (BitVec.ofNat 32 v).toNat / 2 ^ 0 % 2 ^ 32 = v
  rw [BitVec.toNat_ofNat]
  omega

/-- The registers of the model stand after the epoch. -/
theorem Blk.putFit_epoch (b : Blk) (terms : List Nat) (sol diag : List Rat) (ssr : Rat) (n : Nat) :
    (b.putFit terms sol diag ssr n).rd R.HLD_EPOCH_SEC = b.rd R.HLD_EPOCH_SEC := by
  have hterm (c : Blk) (i v : Nat) : (c.wrW (R.HLD_F0 + 4 * i) v).rd R.HLD_EPOCH_SEC = c.rd R.HLD_EPOCH_SEC :=
    Blk.rd_wrW_ne c v (show 0xb01c ≠ 0xb040 + 4 * i by omega)
  have herror (c : Blk) (i v : Nat) : (c.wrW (R.HLD_UF + 4 * i) v).rd R.HLD_EPOCH_SEC = c.rd R.HLD_EPOCH_SEC :=
    Blk.rd_wrW_ne c v (show 0xb01c ≠ 0xb058 + 4 * i by omega)
  have hfold {α : Type} (g : Blk → α → Blk) (hg : ∀ c x, (g c x).rd R.HLD_EPOCH_SEC = c.rd R.HLD_EPOCH_SEC) (l : List α) (c : Blk) :
      (l.foldl g c).rd R.HLD_EPOCH_SEC = c.rd R.HLD_EPOCH_SEC :=
    foldl_keeps (v := fun c : Blk => c.rd R.HLD_EPOCH_SEC) (fun c x _ => hg c x) c
  unfold Blk.putFit
  dsimp only
  rw [Blk.rd_wrW_ne _ _ (by decide)]
  split
  · exact hfold _ (fun _ _ => hterm ..) _ _
  · refine (hfold _ (fun c x => ?_) _ _).trans (hfold _ (fun _ _ => hterm ..) _ _)
    split
    · exact herror ..
    · rfl

/-- The block whose model has been fitted with these terms. -/
def Blk.withLearned (b : Blk) (terms : Nat) : Blk := { b with heel := { b.heel with learned := terms } }

/-- A fit changes nothing, or writes the registers of the model and notes which terms it had. -/
theorem Blk.heelFit_cases (b : Blk) :
    b.heelFit = b ∨ ∃ terms sol diag ssr n learned, b.heelFit = (b.putFit terms sol diag ssr n).withLearned learned := by
  unfold Blk.heelFit
  dsimp only
  split
  · exact .inl rfl
  · exact .inr ⟨_, _, _, _, _, _, rfl⟩

theorem Blk.heelFit_epoch (b : Blk) : b.heelFit.rd R.HLD_EPOCH_SEC = b.rd R.HLD_EPOCH_SEC := by
  obtain hsame | ⟨terms, sol, diag, ssr, n, learned, hfit⟩ := b.heelFit_cases
  · rw [hsame]
  · rw [hfit]
    exact b.putFit_epoch terms sol diag ssr n

theorem Blk.heelFit_heel (b : Blk) : ∃ learned, b.heelFit.heel = { b.heel with learned := learned } := by
  obtain hsame | ⟨terms, sol, diag, ssr, n, learned, hfit⟩ := b.heelFit_cases
  · exact ⟨b.heel.learned, congrArg Blk.heel hsame⟩
  · rw [hfit]
    exact ⟨learned, congrArg (fun x : Heel => { x with learned := learned }) ((b.putFit_frame terms sol diag ssr n).same .heel rfl)⟩

/-- The block with its epoch started at the first sample, unless the host has written one (05 R114). -/
def Blk.epochStarted (b : Blk) : Blk :=
  if b.heel.epochTaken || b.rd R.HLD_EPOCH_SEC != 0 then b else b.wrW R.HLD_EPOCH (secOf b.ins.now % 0x100000000)

/-- A state of the Heel that has taken one more learning sample now, with the hours after which the model is valid. -/
def Blk.heelWith (b : Blk) (h : Heel) (hours : Nat) (x : HeelSample) : Heel :=
  { h with
    epochTaken := true, count := h.count + 1
    samples := (x :: h.samples).filter fun y =>
      decide ((secOf b.ins.now : Int) ≤ y.sec + (86400 * atLeast1 (b.rd R.HLD_LEARN_WIN_D) : Nat))
    modelValid := h.modelValid || decide (3600 * hours ≤ (h.count + 1) * atLeast1 (b.rd R.HLD_LEARN_INT_S)) }

/-- The block that has taken a learning sample, before the fit. -/
def Blk.sampleTaken (b : Blk) (x : HeelSample) : Blk :=
  { b.epochStarted with heel := b.heelWith b.epochStarted.heel (b.epochStarted.rd R.HLD_LEARN_MIN_H) x }

section
variable {b : Blk}

theorem Blk.epochStarted_frame : FrameM 0x10 b b.epochStarted := by
  rw [Blk.epochStarted, FrameM.ite]
  exact ⟨fun _ => of_eq_true (FrameM.refl ..), fun _ => Blk.wrW_frame ..⟩

theorem Blk.epochStarted_minH : b.epochStarted.rd R.HLD_LEARN_MIN_H = b.rd R.HLD_LEARN_MIN_H := by
  unfold Blk.epochStarted
  split
  · rfl
  · exact Blk.rd_wrW_ne _ _ (by decide)

theorem Blk.sampleTaken_heel (x : HeelSample) : (b.sampleTaken x).heel = b.heelWith b.heel (b.rd R.HLD_LEARN_MIN_H) x := by
  rw [← Blk.epochStarted_minH, Blk.sampleTaken, Blk.epochStarted_frame.same .heel rfl]

theorem Blk.epochStarted_kept (h : b.heel.epochTaken = true ∨ b.rd R.HLD_EPOCH_SEC ≠ 0) : b.epochStarted = b :=
  if_pos (by simpa using h)

theorem Blk.epochStarted_starts (htaken : b.heel.epochTaken = false) (hzero : b.rd R.HLD_EPOCH_SEC = 0) :
    b.epochStarted = b.wrW R.HLD_EPOCH (secOf b.ins.now % 0x100000000) :=
  if_neg (by simp [htaken, hzero])

theorem Blk.heelLearn_idle (h : b.learns = false) : b.heelLearn = b := if_pos (by rw [h]; rfl)

/-- A learning sample starts the epoch, is taken, and the model is fitted again. -/
theorem Blk.heelLearn_learns (h : b.learns = true) :
    ∃ x : HeelSample, x.sec = (secOf b.ins.now : Int) ∧ x.tdot = b.heelTdot
      ∧ b.heelLearn = (b.sampleTaken x).heelFit := by
  have hrow : b.heelLearn = _ := if_neg (by rw [h]; decide)
  extract_lets iv ys ts sec x at hrow
  exact ⟨x, rfl, rfl, hrow⟩

end

/-- Settles O42: each clause is the case of its command that applies. -/
theorem heelHoldsAndLearns : Obligations.HeelHoldsAndLearns := by
  intro s w ok t b
  refine ⟨fun h hcheck hdue hsteer => ?check, fun h hcheck hdue hsteer => ?idleCheck, fun hrun hsrc hne hok hgood => ?good,
    fun hrun hsrc hne hbad => ⟨fun hfew => ?counts, fun hlost hthird => ?loses⟩, fun hsrc hno => answers_idle (exec_tempSample_none hsrc hno) rfl,
    fun hlearns => ?learns, fun hlearns => answers_idle rfl (Blk.heelLearn_idle hlearns)⟩
  case check =>
    have hframe : FrameM 0x16a0408 b (b.checkArmed h).holdEval := ((b.checkArmed_frame h).mono rfl).trans ((Blk.holdEval_frame _).mono rfl)
    have hlaster := ((Blk.holdEval_frame _).same .laster rfl).trans (b.checkArmed_laster h)
    obtain ⟨hnow, hnext⟩ := nextCheck_window hdue
    obtain ⟨hhold, hexpired⟩ := Blk.checkArmed_holdEval hsteer h
    exact ⟨_, exec_holdCheck_due hcheck hdue, .of_pieceBits hframe rfl, congrArg Laster.holdCheck hlaster, hnow, hnext,
      congrArg Hold.budget hhold, congrArg Hold.elapsed hhold, hexpired⟩
  case idleCheck =>
    have harmed := b.checkArmed_frame h
    have hidle : (b.checkArmed h).holdEval = b.checkArmed h :=
      Blk.holdEval_idle ((congrArg Heel.steering (harmed.same .heel rfl)).trans hsteer)
    have hexec := exec_holdCheck_due hcheck hdue
    rw [hidle] at hexec
    exact ⟨_, hexec, .of harmed rfl, b.checkArmed_laster h⟩
  case good =>
    refine ⟨b.tempGoodAt t, exec_tempSample_good hsrc hrun hne hok hgood, .of (Blk.tempGoodAt_frame ..) rfl, ?_⟩
    simp only [Blk.tempGoodAt_heel]
    refine ⟨rfl, rfl, rfl, rfl, fun hlost => ?_, fun hlost hfew => ?_, fun hlost htwo => ?_⟩
    · have hback : b.heel.tempBack = false := by simp [Heel.tempBack, hlost]
      obtain ⟨htemp, hslope, hknown⟩ := Blk.heelAfter_known (b := b) (t := t) (.inl hlost)
      exact ⟨htemp, hslope, hknown, (congrArg Blk.hold (Blk.tempGoodAt_goesOn hback)).trans rfl⟩
    · exact Blk.heelAfter_lost hlost (by simp [Heel.tempBack, hfew])
    · have hback : b.heel.tempBack = true := by simp [Heel.tempBack, hlost, htwo]
      obtain ⟨htemp, -, hknown⟩ := Blk.heelAfter_known (b := b) (t := t) (.inr hback)
      have hhold := Blk.tempGoodAt_back_hold (t := t) hback
      exact ⟨htemp, hknown, congrArg Hold.lossFrom hhold, congrArg Hold.lossAcc hhold⟩
  case counts =>
    have hrow := Blk.tempBadAt_counts hfew
    exact ⟨b.badCounted, hrow ▸ exec_tempSample_bad hsrc hrun hne hbad, .of (FrameM.upd_heel b) rfl, rfl⟩
  case loses =>
    exact ⟨b.tempBadAt, exec_tempSample_bad hsrc hrun hne hbad, .of_pieceBits (Blk.tempBadAt_frame _) rfl, b.tempGone,
      Blk.tempBadAt_loses hlost hthird, Blk.tempGone_heel, Blk.tempGone_event, Blk.tempGone_lossFrom, .of Blk.tempGone_frame rfl⟩
  case learns =>
    obtain ⟨x, hsec, htdot, hrow⟩ := Blk.heelLearn_learns hlearns
    obtain ⟨learned, hheel⟩ := (b.sampleTaken x).heelFit_heel
    have hepoch : b.heelLearn.rd R.HLD_EPOCH_SEC = b.epochStarted.rd R.HLD_EPOCH_SEC :=
      hrow ▸ (b.sampleTaken x).heelFit_epoch
    rw [← hrow, Blk.sampleTaken_heel] at hheel
    refine ⟨b.heelLearn, rfl, .of (Blk.heelLearn_frame _) rfl, ?_⟩
    simp only [hheel]
    refine ⟨rfl, rfl, rfl, ⟨x, hsec, htdot, rfl⟩, fun hkept => ?_, fun htaken hzero => ?_⟩
    · rw [hepoch, Blk.epochStarted_kept hkept]
    · rw [hepoch, Blk.epochStarted_starts htaken hzero, Blk.rd_wrW_epoch _ (Nat.mod_lt _ (by decide))]

end Sys2Proof.Machine
end

section
/-! What keeping records, intervals and gates leaves of the channels and of the registers (06 R141 to R148). -/

namespace Sys2Proof.Machine

/-- A channel without what the keeping of records, intervals and gates writes: its edges, its numbers and its calibration. -/
def Eyelet.core (x : Eyelet) : Eyelet :=
  { x with
    queue := [], lost := 0, stamps := [], armed := none, decim := 0
    fN := 0, fI := 0, fT := 0, fII := 0, fIT := 0, fGate := 0, fSteps := 0, fSlew := 0 }

/-- From `b` to `c` the Awl has at most kept records, intervals and gates: of the registers it writes those of LOST_COUNT and of the odd
counts, the last two in a channel's 64 bytes (R156), and of a channel nothing of its core. -/
structure RecordsOnly (b c : Blk) : Prop where
  frame : FrameM 0x4000010 b c
  word : ∀ k, k % 64 ≠ 0x38 → k % 64 ≠ 0x3c → rfGet c.regs k = rfGet b.regs k
  core : ∀ v, (c.eyeOf v).core = (b.eyeOf v).core
  rest : { c.eyes with ch := [] } = { b.eyes with ch := [] }

theorem Blk.eyeOf_setEye_self (b : Blk) (e : Nat) (x : Eyelet) : (b.setEye e x).eyeOf e = x :=
  (Blk.eyeOf_setEye ..).trans (if_pos rfl)

theorem Blk.eyeOf_setEye_ne (b : Blk) {e v : Nat} (x : Eyelet) (h : v ≠ e) : (b.setEye e x).eyeOf v = b.eyeOf v :=
  (Blk.eyeOf_setEye ..).trans (if_neg h)

namespace RecordsOnly

theorem refl (b : Blk) : RecordsOnly b b := ⟨of_eq_true (FrameM.refl ..), fun _ _ _ => rfl, fun _ => rfl, rfl⟩

theorem trans {a b c : Blk} (h : RecordsOnly a b) (k : RecordsOnly b c) : RecordsOnly a c :=
  ⟨h.frame.trans k.frame, fun x hx hy => (k.word x hx hy).trans (h.word x hx hy), fun v => (k.core v).trans (h.core v), k.rest.trans h.rest⟩

theorem ite {b x y : Blk} {q : Prop} [Decidable q] (hx : RecordsOnly b x) (hy : RecordsOnly b y) : RecordsOnly b (if q then x else y) := by
  split
  · exact hx
  · exact hy

theorem foldl {α : Type} {g : Blk → α → Blk} (h : ∀ b x, RecordsOnly b (g b x)) (l : List α) (b : Blk) : RecordsOnly b (l.foldl g b) :=
  List.foldlRecOn (motive := RecordsOnly b) l g (refl b) fun c hc x _ => hc.trans (h c x)

theorem setEye (b : Blk) (e : Nat) (x : Eyelet) (h : x.core = (b.eyeOf e).core) : RecordsOnly b (b.setEye e x) := by
  refine ⟨(Blk.setEye_frame ..).mono rfl, fun _ _ _ => rfl, fun v => ?_, rfl⟩
  obtain rfl | hne := eq_or_ne v e
  · rw [Blk.eyeOf_setEye_self, h]
  · rw [Blk.eyeOf_setEye_ne _ _ hne]

theorem ofSetEye {b c : Blk} {e : Nat} {x : Eyelet} (k : RecordsOnly (b.setEye e x) c) (h : x.core = (b.eyeOf e).core) : RecordsOnly b c :=
  (setEye b e x h).trans k

theorem wr {b : Blk} {f : BF} {v : Nat} (h : f.off % 64 = 0x38 ∨ f.off % 64 = 0x3c) : RecordsOnly b (b.wr f v) := by
  refine ⟨(Blk.wr_frame ..).mono rfl, fun k hlost hodd => ?_, fun _ => rfl, rfl⟩
  exact (rfGet_rfPut ..).trans (if_neg (by rintro rfl; exact h.elim hlost hodd))

theorem addLost (b : Blk) (e n : Nat) : RecordsOnly b (b.addF (R.PIN_ECNT_LOST_COUNT e) n) :=
  wr (.inl (by dsimp only [R.PIN_ECNT_LOST_COUNT, R.PIN_ECNT_LOST]; omega))

/-- A count among the odd counts of a channel. -/
theorem satOdd (b : Blk) (e lo w n : Nat) : RecordsOnly b (b.satF ⟨R.PIN_ECNT_ODD e, lo, w⟩ n) :=
  wr (.inr (by dsimp only [R.PIN_ECNT_ODD]; omega))

/-! ### Records and intervals -/

theorem awlLost (b : Blk) (e : Nat) : RecordsOnly b (b.awlLost e) := ofSetEye (addLost ..) rfl

theorem awlPush (b : Blk) (e : Nat) (status : Bool) (r : PinRec) : RecordsOnly b (b.awlPush e status r) :=
  ite (setEye b e _ rfl) (awlLost ..)

theorem awlRec (b : Blk) (e ty chan flags : Nat) (t : Int) (u : Nat) (tail : Bytes) : RecordsOnly b (b.awlRec e ty chan flags t u tail) :=
  awlPush ..

theorem interval (b : Blk) (a : Nat) (x y : PairStamp) : RecordsOnly b (b.interval a x y) := awlRec ..

theorem stopAlone (b : Blk) (a : Nat) (y : PairStamp) (rest : List PairStamp) : RecordsOnly b (b.stopAlone a y rest).1 := by
  unfold Blk.stopAlone
  split
  · rw [fst_ite]
    exact ite (interval ..) (satOdd ..)
  · exact satOdd ..

theorem pairOne (b : Blk) (a : Nat) (y : PairStamp) (rest : List PairStamp) : RecordsOnly b (b.pairOne a y rest).1 := by
  unfold Blk.pairOne
  dsimp only
  split
  · exact ofSetEye (satOdd ..) rfl
  · split
    · exact stopAlone ..
    · rw [fst_ite]
      have hdisarmed := setEye b a { b.eyeOf a with armed := none } rfl
      exact ite ((hdisarmed.trans (satOdd ..)).trans (stopAlone ..)) (hdisarmed.trans (interval ..))

theorem pairRun (b : Blk) (a n : Nat) : RecordsOnly b (b.pairRun a n) := by
  induction n generalizing b with
  | zero => exact refl b
  | succ n ih =>
    unfold Blk.pairRun
    split
    · exact refl b
    · exact ite (refl b) ((pairOne ..).trans (ofSetEye (ih _) rfl))

theorem pairAll (b : Blk) : RecordsOnly b b.pairAll := foldl (fun c a => pairRun c a _) _ b

/-! ### Measurements of an edge -/

theorem pairPut (b : Blk) (a : Nat) (isStart : Bool) (t : Int) (seq : Nat) : RecordsOnly b (b.pairPut a isStart t seq) := setEye b a _ rfl

theorem pairEdge (b : Blk) (e : Nat) (act : Bool) (t : Int) (seq : Nat) : RecordsOnly b (b.pairEdge e act t seq) :=
  foldl (fun c _ => ite (refl c) (ite (pairPut ..) (ite (pairPut ..) (refl c)))) _ b

theorem gateFresh (b : Blk) (e t : Nat) : RecordsOnly b (b.gateFresh e t) := setEye b e _ rfl

theorem gateEnd (b : Blk) (e : Nat) : RecordsOnly b (b.gateEnd e) := (awlRec ..).trans (gateFresh ..)

theorem gateAdd (b : Blk) (e : Nat) (t : Int) (idx : Nat) : RecordsOnly b (b.gateAdd e t idx) := by
  have hend : RecordsOnly b (if b.gateOver e then b.gateEnd e else b) := ite (gateEnd ..) (refl b)
  exact ite hend (hend.trans (setEye _ e _ rfl))

theorem recEdge (b : Blk) (e : Nat) (act : Bool) (t : Int) (seq phase : Nat) (chat : Bool) :
    RecordsOnly b (b.recEdge e act t seq phase chat) :=
  ite (refl b) (ite (setEye b e _ rfl) (ofSetEye (awlRec ..) rfl))

/-! ### What the conditioning of edges reads stays -/

section
variable {b c : Blk} (h : RecordsOnly b c)
include h

theorem level (v : Nat) : (c.eyeOf v).level = (b.eyeOf v).level := (congrArg Eyelet.level (h.core v) :)
theorem stuck (v : Nat) : (c.eyeOf v).stuck = (b.eyeOf v).stuck := (congrArg Eyelet.stuck (h.core v) :)
theorem chatter (v : Nat) : (c.eyeOf v).chatter = (b.eyeOf v).chatter := (congrArg Eyelet.chatter (h.core v) :)
theorem chatFlag (v : Nat) : (c.eyeOf v).chatFlag = (b.eyeOf v).chatFlag := (congrArg Eyelet.chatFlag (h.core v) :)
theorem supCnt (v : Nat) : (c.eyeOf v).supCnt = (b.eyeOf v).supCnt := (congrArg Eyelet.supCnt (h.core v) :)
theorem six (v : Nat) : (c.eyeOf v).six = (b.eyeOf v).six := (congrArg Eyelet.six (h.core v) :)
theorem seq (v : Nat) : (c.eyeOf v).seq = (b.eyeOf v).seq := (congrArg Eyelet.seq (h.core v) :)
theorem idx (v : Nat) : (c.eyeOf v).idx = (b.eyeOf v).idx := (congrArg Eyelet.idx (h.core v) :)
theorem cycN (v : Nat) : (c.eyeOf v).cycN = (b.eyeOf v).cycN := (congrArg Eyelet.cycN (h.core v) :)
theorem cycLast (v : Nat) : (c.eyeOf v).cycLast = (b.eyeOf v).cycLast := (congrArg Eyelet.cycLast (h.core v) :)
theorem synthRun (v : Nat) : (c.eyeOf v).synthRun = (b.eyeOf v).synthRun := (congrArg Eyelet.synthRun (h.core v) :)
theorem spare (v : Nat) : (c.eyeOf v).spare = (b.eyeOf v).spare := (congrArg Eyelet.spare (h.core v) :)
theorem mismatch : c.eyes.mismatch = b.eyes.mismatch := (congrArg Eyes.mismatch h.rest :)
theorem tbPresent : c.eyes.tbPresent = b.eyes.tbPresent := (congrArg Eyes.tbPresent h.rest :)

theorem rd {f : BF} (hlost : f.off % 64 ≠ 0x38) (hodd : f.off % 64 ≠ 0x3c) : c.rd f = b.rd f := by
  rw [Blk.rd, Blk.rd, h.word _ hlost hodd]

/-- A field of a channel's register in another row. -/
theorem rd_row {k : Nat} (i lo w : Nat) (hk : k % 64 < 0x38) : c.rd ⟨k + 0x40 * i, lo, w⟩ = b.rd ⟨k + 0x40 * i, lo, w⟩ :=
  h.rd (by dsimp only; omega) (by dsimp only; omega)

theorem accCount (e : Nat) : c.rd (R.PIN_ECNT_ACC_COUNT e) = b.rd (R.PIN_ECNT_ACC_COUNT e) := h.rd_row e 0 32 (k := 0xc12c) (by decide)

theorem heldCount (e : Nat) : c.rd (R.PIN_ECNT_HELD_COUNT e) = b.rd (R.PIN_ECNT_HELD_COUNT e) := h.rd_row e 0 32 (k := 0xc130) (by decide)

theorem eyeFn (e : Nat) : c.eyeFn e = b.eyeFn e := h.rd_row e 0 3 (k := 0xc100) (by decide)

theorem eyeletPresent (e : Nat) : c.eyeletPresent e = b.eyeletPresent e := by
  rw [Blk.eyeletPresent, Blk.eyeletPresent, h.frame.same .part rfl]

theorem boundTo (kind obj : Nat) : c.boundTo kind obj = b.boundTo kind obj := by
  have hsrc (i lo w : Nat) : c.rd ⟨R.REF_SRC i, lo, w⟩ = b.rd ⟨R.REF_SRC i, lo, w⟩ :=
    h.rd (by dsimp only [R.REF_SRC]; omega) (by dsimp only [R.REF_SRC]; omega)
  simp only [Blk.boundTo, R.REF_SRC_KIND, R.REF_SRC_OBJ, hsrc]

theorem freqDiv (e : Nat) : c.freqDiv e = b.freqDiv e := by
  simp (disch := decide) only [Blk.freqDiv, h.eyeFn, h.boundTo, R.PIN_ECYC_NOM_MHZ, R.PIN_ECYC, h.rd_row]

theorem edgeDiv (e : Nat) : c.edgeDiv e = b.edgeDiv e := by
  simp (disch := decide) only [Blk.edgeDiv, h.freqDiv, R.PIN_EFN_PRE, R.PIN_EFN, h.rd_row]

theorem edgeSel (e : Nat) : c.edgeSel e = b.edgeSel e := by
  have hmeas : c.rd (R.PIN_EMEAS_MEAS e) = b.rd (R.PIN_EMEAS_MEAS e) := h.rd_row e 0 2 (k := 0xc114) (by decide)
  have hstop : c.rd (R.PIN_EMEAS_STOP_CH e) = b.rd (R.PIN_EMEAS_STOP_CH e) := h.rd_row e 4 4 (k := 0xc114) (by decide)
  have hedge : c.rd (R.PIN_ECOND_EDGE e) = b.rd (R.PIN_ECOND_EDGE e) := h.rd_row e 1 2 (k := 0xc104) (by decide)
  unfold Blk.edgeSel Blk.selfPair
  rw [hmeas, hstop, hedge, h.eyeFn]

theorem selected (e : Nat) (act : Bool) : c.selected e act = b.selected e act := by
  rw [Blk.selected, h.edgeSel]
  rfl

theorem chatWin (e : Nat) : c.chatWin e = b.chatWin e := by
  simp (disch := decide) only [Blk.chatWin, R.PIN_ECHAT_CHAT_WIN, R.PIN_ECHAT, h.rd_row]

theorem lastStages (e : Nat) : c.lastStages e = b.lastStages e := by
  have hgated : c.rd (R.PIN_EFN_GATED e) = b.rd (R.PIN_EFN_GATED e) := h.rd_row e 7 1 (k := 0xc100) (by decide)
  funext x
  unfold Blk.lastStages Blk.flag
  rw [hgated]

theorem stages6 (e u : Nat) : c.stages6 e u = b.stages6 e u := by
  have hcount : c.rd (R.PIN_ECHAT_CHAT_N e) = b.rd (R.PIN_ECHAT_CHAT_N e) := h.rd_row e 0 8 (k := 0xc10c) (by decide)
  have hhold : c.rd (R.PIN_EHOLD_HOLDOFF e) = b.rd (R.PIN_EHOLD_HOLDOFF e) := h.rd_row e 0 30 (k := 0xc108) (by decide)
  funext x
  unfold Blk.stages6
  rw [hcount, hhold, h.chatWin, h.lastStages]

theorem stages4 (e : Nat) (act : Bool) (u : Nat) (x : Eyelet) : c.stages4 e act u x = b.stages4 e act u x := by
  unfold Blk.stages4
  rw [h.selected, h.edgeDiv, h.freqDiv, h.stages6]

theorem narrow (e held : Nat) : c.narrow e held = b.narrow e held := by
  have hminw : c.rd (R.PIN_ECOND_MINW e) = b.rd (R.PIN_ECOND_MINW e) := h.rd_row e 8 8 (k := 0xc104) (by decide)
  rw [Blk.narrow, Blk.narrow, h.freqDiv, hminw]

theorem eyeLive (e : Nat) : c.eyeLive e = b.eyeLive e := by
  have hins : c.ins = b.ins := h.frame.same .ins rfl
  simp (disch := decide) only [Blk.eyeLive, Blk.eyeUsed, Blk.flag, h.eyeFn, h.eyeletPresent, h.mismatch, h.tbPresent, hins, R.PIN_EFN_RDBK,
    R.PIN_EFN, h.rd_row]

theorem stampOf (e i pos : Nat) : c.stampOf e i pos = b.stampOf e i pos := by
  simp (disch := decide) only [Blk.stampOf, Blk.rdS, R.PIN_EDLY_DLY, R.PIN_EDLY, R.PIN_EBOARD_BOARD_PS, R.PIN_EBOARD, h.rd_row]

theorem pairMax (e : Nat) : c.pairMax e = b.pairMax e := by
  simp (disch := decide) only [Blk.pairMax, R.PIN_EPAIR_PAIR_MAX, R.PIN_EPAIR, h.rd_row]

theorem gateU (e : Nat) : c.gateU e = b.gateU e := by
  simp (disch := decide) only [Blk.gateU, R.PIN_EMEAS_GATE_MS, R.PIN_EMEAS, h.rd_row]

theorem awlTakes (e : Nat) : c.awlTakes e = b.awlTakes e := by
  have hfunc : c.awlFunc e = b.awlFunc e := h.rd_row e 4 2 (k := 0xc100) (by decide)
  have hboot : c.boot = b.boot := h.frame.same .boot rfl
  have hrst : c.rst = b.rst := h.frame.same .rst rfl
  have hses : c.ses = b.ses := h.frame.same .ses rfl
  have hevts : c.evts = b.evts := h.frame.same .evts rfl
  simp only [Blk.awlTakes, Blk.sesOpen, Blk.hostUp, Blk.sesOf, Blk.evtOf, hfunc, hboot, hrst, hses, hevts]

end

end RecordsOnly

end Sys2Proof.Machine
end

section
/-! Edges at the Eyelets: the stages of their conditioning and what the Awl records of them (06 R132 to R150). -/

namespace Sys2Proof.Machine

/-! ### The stages of an edge -/

/-- The result of stages 4 to 9 keeps the level and SEQ of the channel, and chatter begins only with a suppressed edge (R138). -/
structure Staged (level : Bool) (seq : Nat) (r : Eyelet × EdgeFate × Bool) : Prop where
  level : r.1.level = level
  seq : r.1.seq = seq
  quiet : r.2.1 ≠ .sup → r.2.2 = false

theorem Staged.ite {level : Bool} {seq : Nat} {r r' : Eyelet × EdgeFate × Bool} {q : Prop} [Decidable q] (h : Staged level seq r)
    (h' : Staged level seq r') : Staged level seq (if q then r else r') := by
  split
  · exact h
  · exact h'

theorem Blk.stages6_staged (b : Blk) (e u : Nat) {x : Eyelet} {level : Bool} {seq : Nat} (hlevel : x.level = level) (hseq : x.seq = seq) :
    Staged level seq (b.stages6 e u x) :=
  .ite ⟨hlevel, hseq, fun _ => rfl⟩ <| .ite ⟨hlevel, hseq, fun _ => rfl⟩ <| .ite ⟨hlevel, hseq, fun h => absurd rfl h⟩ ⟨hlevel, hseq, fun _ => rfl⟩

theorem Blk.stages4_staged (b : Blk) (e : Nat) (act : Bool) (u : Nat) {x : Eyelet} {level : Bool} {seq : Nat} (hlevel : x.level = level)
    (hseq : x.seq = seq) : Staged level seq (b.stages4 e act u x) :=
  .ite ⟨hlevel, hseq, fun _ => rfl⟩ <| .ite ⟨hlevel, hseq, fun _ => rfl⟩ <| .ite ⟨hlevel, hseq, fun _ => rfl⟩ (b.stages6_staged e u hlevel hseq)

/-- The channel once its level has become `act`. -/
def Blk.turned (b : Blk) (e : Nat) (act : Bool) : Eyelet := { b.eyeOf e with level := act, transAt := b.up }

/-- The channel after the stages of that transition, its fate, and whether chatter begins. -/
def Blk.staged (b : Blk) (e : Nat) (act : Bool) : Eyelet × EdgeFate × Bool := b.stages4 e act b.up (b.turned e act)

theorem Blk.staged_staged (b : Blk) (e : Nat) (act : Bool) : Staged act (b.eyeOf e).seq (b.staged e act) := b.stages4_staged e act b.up rfl rfl

/-! ### What follows a transition -/

theorem Blk.rd_addF_self (b : Blk) {f : BF} (n : Nat) (h : f.lo + f.w ≤ 32) : (b.addF f n).rd f = (b.rd f + n) % 2 ^ f.w := by
  rw [Blk.addF, Blk.rd_wr_self _ _ _ h, Nat.mod_mod]

theorem Blk.eyeOf_addF (b : Blk) (f : BF) (n e : Nat) : (b.addF f n).eyeOf e = b.eyeOf e := Blk.eyeOf_congr (Blk.wr_eyes ..) e

theorem Blk.rd_addF_counter (b : Blk) {f : BF} (n : Nat) (hlo : f.lo = 0) (hw : f.w = 32) : (b.addF f n).rd f = (b.rd f + n) % 0x100000000 := by
  rw [Blk.rd_addF_self b n (by omega), hw, show 2 ^ 32 = 0x100000000 from rfl]

theorem Blk.rd_satF_self (b : Blk) {f : BF} (n : Nat) (h : f.lo + f.w ≤ 32) : (b.satF f n).rd f = satNat (b.rd f + n) f.w := by
  rw [Blk.satF, Blk.rd_wr_self _ _ _ h, Nat.mod_eq_of_lt]
  unfold satNat
  have := Nat.two_pow_pos f.w
  split <;> omega

section
variable {b : Blk} {e : Nat} {act : Bool}

/-- An admitted edge of a channel that is no CYCLE input advances SEQ; what follows are records and measurements. -/
theorem RecordsOnly.admitEdge (t : Int) (phase : Nat) (hfn : b.eyeFn e ≠ 3) :
    RecordsOnly (b.setEye e { b.eyeOf e with seq := ((b.eyeOf e).seq + 1) % 0x100000000, chatFlag := false })
      (b.admitEdge e act t phase) := by
  unfold Blk.admitEdge
  extract_lets x start paired gated crossed
  have hgated : RecordsOnly start gated := (pairEdge ..).trans (ite (gateAdd ..) (refl _))
  have hcrossed : crossed = gated :=
    if_neg (by rw [hgated.eyeFn, show start.eyeFn e = b.eyeFn e from rfl, beq_false_of_ne hfn]; exact Bool.false_ne_true)
  rw [hcrossed]
  exact hgated.trans (recEdge ..)

variable (hstuck : (b.eyeOf e).stuck = false)
include hstuck

/-- A transition of a channel that is not stuck, unless it is suppressed. -/
theorem Blk.transition_counted (t : Int) (phase : Nat) (hfate : (b.staged e act).2.1 ≠ .sup) :
    b.transition e act t phase =
      let c := (b.setEye e (b.staged e act).1).countFate e (b.staged e act).2.1
      if (b.staged e act).2.1 == .admitted then c.admitEdge e act t phase else c := by
  have hquiet : (b.staged e act).2.2 = false := (b.staged_staged e act).quiet hfate
  unfold Blk.transition
  extract_lets eye x r fate counted begun y unstuck
  have hsame : fate = (b.staged e act).2.1 := if_neg (by rw [show x.stuck = false from hstuck]; exact Bool.false_ne_true)
  have hbegun : begun = counted := if_neg (by rw [show r.2.2 = false from hquiet]; exact Bool.false_ne_true)
  have hunstuck : unstuck = begun := if_neg (by rw [show x.stuck = false from hstuck]; exact Bool.false_ne_true)
  rw [hunstuck, hbegun, show counted = (b.setEye e (b.staged e act).1).countFate e fate from rfl, hsame]

theorem Blk.transition_held (t : Int) (phase : Nat) (hfate : (b.staged e act).2.1 = .held) :
    b.transition e act t phase = (b.setEye e (b.staged e act).1).addF (R.PIN_ECNT_HELD_COUNT e) 1 := by
  rw [Blk.transition_counted hstuck t phase (by rw [hfate]; decide), hfate]
  exact if_neg (by decide)

theorem Blk.transition_admitted (t : Int) (phase : Nat) (hfate : (b.staged e act).2.1 = .admitted) :
    b.transition e act t phase = ((b.setEye e (b.staged e act).1).addF (R.PIN_ECNT_ACC_COUNT e) 1).admitEdge e act t phase := by
  rw [Blk.transition_counted hstuck t phase (by rw [hfate]; decide), hfate]
  exact if_pos rfl

theorem Blk.transition_admitted_counts (t : Int) (phase : Nat) (hfate : (b.staged e act).2.1 = .admitted) (hfn : b.eyeFn e ≠ 3) :
    let u := b.transition e act t phase
    FrameM 0x4000010 b u ∧ u.rd (R.PIN_ECNT_ACC_COUNT e) = (b.rd (R.PIN_ECNT_ACC_COUNT e) + 1) % 0x100000000
      ∧ (u.eyeOf e).seq = ((b.eyeOf e).seq + 1) % 0x100000000 ∧ (u.eyeOf e).level = act ∧ (u.eyeOf e).idx = (b.staged e act).1.idx := by
  obtain ⟨hlevel, hseq, -⟩ := b.staged_staged e act
  rw [Blk.transition_admitted hstuck t phase hfate]
  generalize (b.staged e act).1 = x at hlevel hseq
  have hcounted : FrameM 0x4000010 b ((b.setEye e x).addF (R.PIN_ECNT_ACC_COUNT e) 1) :=
    ((Blk.setEye_frame ..).mono rfl).trans ((Blk.addF_frame ..).mono rfl)
  have hacc : ((b.setEye e x).addF (R.PIN_ECNT_ACC_COUNT e) 1).rd (R.PIN_ECNT_ACC_COUNT e) = (b.rd (R.PIN_ECNT_ACC_COUNT e) + 1) % 0x100000000 :=
    Blk.rd_addF_counter _ 1 rfl rfl
  have heye : ((b.setEye e x).addF (R.PIN_ECNT_ACC_COUNT e) 1).eyeOf e = x := by
    rw [Blk.eyeOf_addF, Blk.eyeOf_setEye_self]
  have hcfn : ((b.setEye e x).addF (R.PIN_ECNT_ACC_COUNT e) 1).eyeFn e ≠ 3 := by
    rw [Blk.eyeFn, Blk.addF, Blk.rd_wr_off _ _ _ _ (by dsimp only [R.PIN_EFN_FN, R.PIN_EFN, R.PIN_ECNT_ACC_COUNT, R.PIN_ECNT_ACC]; omega)]
    exact hfn
  generalize (b.setEye e x).addF (R.PIN_ECNT_ACC_COUNT e) 1 = c at hcounted hacc heye hcfn ⊢
  have hkept := RecordsOnly.admitEdge (act := act) t phase hcfn
  refine ⟨hcounted.trans (((Blk.setEye_frame ..).mono rfl).trans hkept.frame), ?_, ?_, ?_, ?_⟩
  · exact (hkept.accCount e).trans hacc
  · rw [hkept.seq, Blk.eyeOf_setEye_self, heye]
    exact congrArg (fun n => (n + 1) % 0x100000000) hseq
  · rw [hkept.level, Blk.eyeOf_setEye_self, heye, hlevel]
  · rw [hkept.idx, Blk.eyeOf_setEye_self, heye]

end

/-! ### EYELET_EDGE -/

section
variable {b : Blk} {e held pos phase : Nat} {high : Bool} (hpres : b.eyeletPresent e = true)
include hpres

theorem Blk.eyeletEdge_unused (hlive : b.eyeLive e = false) :
    b.eyeletEdge e high held pos phase
      = b.pairAll.setEye e { b.pairAll.eyeOf e with level := high != b.flag (R.PIN_ECOND_POL e), transAt := b.up } := by
  have hpaired := RecordsOnly.pairAll b
  have hup : b.pairAll.up = b.up := hpaired.frame.same .up rfl
  simp only [Blk.eyeletEdge, hpaired.eyeletPresent, hpaired.eyeLive, hpres, hlive, hup, Bool.not_true, Bool.not_false, Bool.false_eq_true,
    if_false, if_true]

section
variable (hlive : b.eyeLive e = true) (hturn : (high != b.flag (R.PIN_ECOND_POL e)) ≠ (b.eyeOf e).level)
include hlive hturn

theorem Blk.eyeletEdge_live :
    b.eyeletEdge e high held pos phase =
      if b.narrow e held then b.pairAll.addF (R.PIN_ECNT_HELD_COUNT e) 1
      else b.pairAll.transition e (high != b.flag (R.PIN_ECOND_POL e)) (b.stampOf e b.ins.now pos) phase := by
  have hpaired := RecordsOnly.pairAll b
  have hins : b.pairAll.ins = b.ins := hpaired.frame.same .ins rfl
  simp only [Blk.eyeletEdge, Blk.countFate, hpaired.eyeletPresent, hpaired.eyeLive, hpaired.narrow, hpaired.stampOf, hpaired.level, hpres, hlive,
    hins, beq_false_of_ne hturn, Bool.not_true, Bool.false_eq_true, if_false]

theorem Blk.eyeletEdge_narrow (hnarrow : b.narrow e held = true) :
    b.eyeletEdge e high held pos phase = b.pairAll.addF (R.PIN_ECNT_HELD_COUNT e) 1 :=
  (Blk.eyeletEdge_live hpres hlive hturn).trans (if_pos hnarrow)

theorem Blk.eyeletEdge_wide (hwide : b.narrow e held = false) :
    b.eyeletEdge e high held pos phase
      = b.pairAll.transition e (high != b.flag (R.PIN_ECOND_POL e)) (b.stampOf e b.ins.now pos) phase :=
  (Blk.eyeletEdge_live hpres hlive hturn).trans (if_neg (Bool.eq_false_iff.mp hwide))

end

end

theorem answers_eyeletEdge {s : State} {w e held pos phase : Nat} {high : Bool} {u : Blk}
    (he : (s.blk.pass w).eyeletEdge e high held pos phase = u) :
    Answers (.eyeletEdge w e high held pos phase) s (touches (.eyeletEdge w e high held pos phase)) fun v => v = u.txRetry :=
  ⟨_, rfl, .of_pieceBits ((Blk.eyeletEdge_frame ..).trans ((Blk.txRetry_frame _).mono rfl)) rfl, congrArg Blk.txRetry he⟩

/-- An edge after which no frame waits for a grant. -/
theorem answers_eyeletEdge_alone {s : State} {w e held pos phase : Nat} {high : Bool} {u : Blk} {P : Blk → Prop}
    (he : (s.blk.pass w).eyeletEdge e high held pos phase = u) (hframe : FrameM 0x4000010 (s.blk.pass w) u)
    (hwaits : (s.blk.pass w).flow.waits = []) (hP : P u) : Answers (.eyeletEdge w e high held pos phase) s [.regs, .eyes] P := by
  have hflow : u.flow = (s.blk.pass w).flow := hframe.same .flow rfl
  have hdone : ((s.blk.pass w).eyeletEdge e high held pos phase).txRetry = u := by
    rw [he, Blk.txRetry_of_no_waits (hflow ▸ hwaits)]
  refine ⟨u, ?_, .of hframe rfl, hP⟩
  rw [← hdone]
  rfl

end Sys2Proof.Machine
end

section
/-! What the Awl notes besides edges: the bank, stuck inputs, chatter, pairs, gates, synthetic crossings, TIME and the delivery of its
records (06 R132 to R150). -/

namespace Sys2Proof.Machine

/-! ### The bank -/

/-- The block with a sensed class of VEY noted. -/
def Blk.bankSensed (b : Blk) (n : Nat) : Blk :=
  { b with eyes := { b.eyes with sensed := n, mismatch := n == 3 || n != b.rd R.PIN_BANK_LEVEL } }

section
variable {s : State} {w n : Nat}

theorem exec_mismatch_quiet (h : (min 3 n == 3 || min 3 n != (s.blk.pass w).rd R.PIN_BANK_LEVEL) = false ∨ (s.blk.pass w).eyes.mismatch = true) :
    exec (.mismatch w n) s = .next { s with blk := Blk.settle s.blk ((s.blk.pass w).bankSensed (min 3 n)) } := by
  refine congrArg (fun u => Host.Outcome.next { s with blk := Blk.settle s.blk u }) (if_neg ?_)
  rw [Bool.and_eq_true, Bool.not_eq_true']
  rintro ⟨hwrong, hfresh⟩
  exact h.elim (Bool.eq_false_iff.mp · hwrong) (Bool.eq_false_iff.mp hfresh)

theorem exec_mismatch_raises (hwrong : (min 3 n == 3 || min 3 n != (s.blk.pass w).rd R.PIN_BANK_LEVEL) = true)
    (hfresh : (s.blk.pass w).eyes.mismatch = false) :
    exec (.mismatch w n) s = .next { s with blk := Blk.settle s.blk (((s.blk.pass w).bankSensed (min 3 n)).raiseEnv errMismatch 0) } := by
  refine congrArg (fun u => Host.Outcome.next { s with blk := Blk.settle s.blk u }) (if_pos ?_)
  rw [Bool.and_eq_true, Bool.not_eq_true']
  exact ⟨hwrong, hfresh⟩

end

/-! ### Status records -/

theorem RecordsOnly.awlStatus (b : Blk) (e code u count : Nat) : RecordsOnly b (b.awlStatus e code u count) := awlRec ..

theorem Blk.eyeOf_satF (b : Blk) (f : BF) (n e : Nat) : (b.satF f n).eyeOf e = b.eyeOf e := Blk.eyeOf_congr (Blk.wr_eyes ..) e

theorem Blk.awlLost_eyeOf_self (b : Blk) (e : Nat) : (b.awlLost e).eyeOf e = { b.eyeOf e with lost := (b.eyeOf e).lost + 1 } :=
  (Blk.eyeOf_addF ..).trans (Blk.eyeOf_setEye_self ..)

theorem Blk.awlLost_eyeOf_ne (b : Blk) {e v : Nat} (h : v ≠ e) : (b.awlLost e).eyeOf v = b.eyeOf v :=
  (Blk.eyeOf_addF ..).trans (Blk.eyeOf_setEye_ne _ _ h)

theorem Blk.awlRec_eyeOf_ne (b : Blk) {e v : Nat} (h : v ≠ e) (ty chan flags : Nat) (t : Int) (u : Nat) (tail : Bytes) :
    (b.awlRec e ty chan flags t u tail).eyeOf v = b.eyeOf v := by
  unfold Blk.awlRec Blk.awlPush
  dsimp only
  rw [apply_ite (Blk.eyeOf · v), Blk.eyeOf_setEye_ne _ _ h, Blk.awlLost_eyeOf_ne _ h, ite_self]

/-! ### Stuck inputs, chatter, pairs and gates -/

/-- The channel noted as stuck. -/
def Blk.stuckNoted (b : Blk) (e : Nat) : Blk := b.setEye e { b.eyeOf e with stuck := true }

/-- The channel out of chatter. -/
def Blk.chatterOver (b : Blk) (e : Nat) : Blk := b.setEye e { b.eyeOf e with chatter := false, chatFlag := true, supCnt := 0, six := [] }

/-- The channel without its armed start. -/
def Blk.disarmed (b : Blk) (e : Nat) : Blk := b.setEye e { b.eyeOf e with armed := none }

section
variable {s : State} {w e : Nat}

theorem exec_stuckOn_of_stuck {u : Nat} (h : (s.blk.pass w).stuckAt e = some u) :
    exec (.stuckOn w e) s = .next { s with blk := Blk.settle s.blk (((s.blk.pass w).stuckNoted e).awlStatus e 1 u 0) } := by
  change execStuckOn w e s = _
  rw [execStuckOn, State.upd, h]
  rfl

theorem exec_stuckOn_idle (h : (s.blk.pass w).stuckAt e = none) :
    exec (.stuckOn w e) s = .next { s with blk := Blk.settle s.blk (s.blk.pass w) } := by
  change execStuckOn w e s = _
  rw [execStuckOn, State.upd, h]

theorem exec_freqGateEnd_over (hover : (s.blk.pass w).gateOver e = true) (hused : (s.blk.pass w).eyeUsed e = true) :
    exec (.freqGateEnd w e) s = .next { s with blk := Blk.settle s.blk ((s.blk.pass w).gateEnd e) } := by
  change execFreqGateEnd w e s = _
  rw [execFreqGateEnd, State.upd, if_pos (by rw [hover, hused]; rfl)]

end

section
variable {b : Blk} {e : Nat}

theorem Blk.chatEnd_ends (hchatter : (b.eyeOf e).chatter = true) (hquiet : (b.eyeOf e).sixAt + b.chatQuiet e ≤ b.up) :
    RecordsOnly (b.chatterOver e) (b.chatEnd e) := by
  have hends : b.chatEnd e = (b.chatterOver e).awlStatus e 4 ((b.eyeOf e).sixAt + b.chatQuiet e) (b.eyeOf e).supCnt :=
    if_pos (by rw [hchatter, decide_eq_true hquiet]; rfl)
  exact hends ▸ .awlStatus ..

theorem Blk.pairExpire_expires {y : PairStamp} (harmed : (b.pairAll.eyeOf e).armed = some y) (hpast : y.upAt + b.pairMax e < b.up) :
    b.pairExpire e = (b.pairAll.disarmed e).satF (R.PIN_ECNT_ODD_NOSTOP e) 1 := by
  have hpaired := RecordsOnly.pairAll b
  have hup : b.pairAll.up = b.up := hpaired.frame.same .up rfl
  rw [Blk.pairExpire]
  simp only [harmed, hpaired.pairMax, hup, if_pos hpast]
  rfl

/-- The gate in force ends, and the next one starts empty at a multiple of its length. -/
theorem Blk.gateEnd_gate : ((b.gateEnd e).eyeOf e).fN = 0 ∧ ((b.gateEnd e).eyeOf e).fGate = b.ins.now / b.gateU e * b.gateU e := by
  unfold Blk.gateEnd
  extract_lets x t fl recorded
  have hrecorded : RecordsOnly b recorded := .awlRec ..
  have hins : recorded.ins = b.ins := hrecorded.frame.same .ins rfl
  rw [Blk.gateFresh, Blk.eyeOf_setEye_self, hrecorded.gateU, hins]
  exact ⟨rfl, rfl⟩

end

/-! ### Synthetic crossings (03 R74) -/

/-- The block in which a synthetic crossing of a cycle input has been counted, after the one at l. -/
def Blk.synthCounted (b : Blk) (e : Nat) (l : Int) : Blk :=
  b.setEye e { b.eyeOf e with
    cycN := (b.eyeOf e).cycN + 1, cycLast := some (l + b.pEst e), synthRun := (b.eyeOf e).synthRun + 1 }

theorem Blk.cycCross_eyes {b : Blk} (h : b.laster.ents = []) (e : Nat) (t p : Int) (synth lost : Bool) :
    (b.cycCross e t p synth lost).eyes = b.eyes := by
  rw [Blk.cycCross, h]
  rfl

/-- With no entry of the Laster a synthetic crossing changes no more of the channels than to be counted and recorded. -/
theorem Blk.synthCross_counts {b : Blk} {e : Nat} {l : Int} (hlast : (b.eyeOf e).cycLast = some l) (hfn : b.eyeFn e = 3)
    (hrun : b.ins.running = true) (hents : b.laster.ents = [])
    (hdue : b.rd (R.LST_CYC_MISS_WIN e) * b.pEst e ≤ 16 * ((b.ins.now : Int) - b.ins.stepSum - l)) :
    ∃ c, RecordsOnly (b.synthCounted e l) c ∧ (b.synthCross e).eyes = c.eyes := by
  have hgo : ¬(b.eyeFn e != 3 || !b.ins.running
      || decide (16 * ((b.ins.now : Int) - b.ins.stepSum - l) < b.rd (R.LST_CYC_MISS_WIN e) * b.pEst e)) = true := by
    rw [hfn, hrun, decide_eq_false (not_lt.mpr hdue)]
    decide
  unfold Blk.synthCross
  dsimp only
  rw [hlast]
  dsimp only
  rw [if_neg hgo]
  refine ⟨_, .awlRec .., ((Blk.cycUnits_frame ..).same .eyes rfl).trans (Blk.cycCross_eyes ?_ ..)⟩
  exact (congrArg Laster.ents ((Blk.awlRec_frame ..).same .laster rfl)).trans hents

/-! ### TIME lost and back (R142) -/

/-- The last instant at which TIME was confirmed before its loss, `back` before its end. -/
def Blk.timeEnd (b : Blk) (back : Nat) : Nat := max b.eyes.confirmed (b.ins.now - min back (usU 1))

/-- The block in which the loss of TIME has been noted. -/
def Blk.timeLost (b : Blk) (back : Nat) : Blk :=
  Blk.setF { b with eyes := { b.eyes with tbPresent := false, confirmed := b.timeEnd back
                                          confirmedUp := max b.eyes.confirmedUp (b.rst.oscinUp - min back (usU 1)) } } R.PIN_STATUS_TB_EVENT

/-- The block in which the return of TIME has been noted. -/
def Blk.timeBack (b : Blk) : Blk :=
  { b with rst := { b.rst with oscin := true }, eyes := { b.eyes with tbPresent := true, confirmed := b.ins.now, confirmedUp := b.up } }

theorem Blk.tbLost_loses {b : Blk} (hpresent : b.eyes.tbPresent = true) (hosc : b.rst.oscin = false) (back : Nat) :
    b.tbLost back = (b.timeLost back).tbRecord 5 (b.timeEnd back) :=
  if_neg (by rw [hpresent, hosc]; decide)

theorem exec_tbBack_returns {s : State} {w : Nat} (habsent : (s.blk.pass w).eyes.tbPresent = false) (hdone : (s.blk.pass w).boot.done = true) :
    exec (.tbBack w) s = .next { s with blk := Blk.settle s.blk ((s.blk.pass w).timeBack.tbRecord 6 (s.blk.pass w).ins.now) } := by
  refine congrArg (fun u => Host.Outcome.next { s with blk := Blk.settle s.blk u }) (if_neg ?_)
  rw [habsent, hdone]
  decide

/-! ### Delivery (R141) -/

/-- The block in which TIME is confirmed now. -/
def Blk.timeConfirmed (b : Blk) : Blk := { b with eyes := { b.eyes with confirmed := b.ins.now, confirmedUp := b.up } }

/-- The block in which TIME is confirmed now and a channel's queue is left with `l`. -/
def Blk.dequeued (b : Blk) (e : Nat) (l : List PinRec) : Blk := b.timeConfirmed.setEye e { b.eyeOf e with queue := l }

/-- The channel with no records lost. -/
def Blk.noneLost (b : Blk) (e : Nat) : Blk := b.setEye e { b.eyeOf e with lost := 0 }

section
variable {b : Blk} {e : Nat} {p : PinRec} {l : List PinRec} (hqueue : (b.eyeOf e).queue = p :: l)
  (hpresent : b.eyes.tbPresent = true) (hosc : b.rst.oscin = true) (hrun : b.ins.running = true) (hpast : p.tUp ≤ b.up)
include hqueue hpresent hosc hrun hpast

/-- The head of a queue whose event TIME has been confirmed after is taken: it is written where it can be, or else lost. -/
theorem Blk.awlDeliver_dequeues : ∃ fl t tail, b.awlDeliver e =
    if !b.awlTakes e then (b.dequeued e l).awlLost e
    else ((b.dequeued e l).noneLost e).record (b.awlFunc e) p.ty p.chan fl t tail := by
  have hlate : decide (b.up < p.tUp) = false := decide_eq_false (not_lt.mpr hpast)
  have hrunning : (b.eyes.tbPresent && b.rst.oscin && b.ins.running) = true := by
    rw [hpresent, hosc, hrun]
    rfl
  simp only [Blk.awlDeliver, hrunning, if_true]
  split
  · next hnone => exact absurd (hqueue.symm.trans hnone) (List.cons_ne_nil p l)
  · next q rest hsome =>
    obtain ⟨rfl, rfl⟩ := List.cons.inj (hqueue.symm.trans hsome)
    rw [hlate]
    exact ⟨_, _, _, rfl⟩

theorem Blk.awlDeliver_delivers :
    ((b.awlDeliver e).eyeOf e).queue = l ∧ (b.awlDeliver e).eyes.confirmed = b.ins.now
      ∧ (b.awlTakes e = true → ((b.awlDeliver e).eyeOf e).lost = 0)
      ∧ (b.awlTakes e = false → ((b.awlDeliver e).eyeOf e).lost = (b.eyeOf e).lost + 1) := by
  obtain ⟨fl, t, tail, hrow⟩ := Blk.awlDeliver_dequeues hqueue hpresent hosc hrun hpast
  have htaken : (b.dequeued e l).eyeOf e = { b.eyeOf e with queue := l } := Blk.eyeOf_setEye_self ..
  cases htakes : b.awlTakes e with
  | false =>
    rw [htakes, if_pos (by decide)] at hrow
    rw [hrow, Blk.awlLost_eyeOf_self, htaken]
    exact ⟨rfl, (congrArg Eyes.confirmed (RecordsOnly.awlLost (b.dequeued e l) e).rest :), nofun, fun _ => rfl⟩
  | true =>
    rw [htakes, if_neg (by decide)] at hrow
    have heyes : (b.awlDeliver e).eyes = ((b.dequeued e l).noneLost e).eyes := hrow ▸ (Blk.record_frame ..).same .eyes rfl
    rw [heyes, Blk.eyeOf_congr heyes, Blk.noneLost, Blk.eyeOf_setEye_self, htaken]
    exact ⟨rfl, rfl, fun _ => rfl, nofun⟩

end

/-! ### The clauses put together -/

/-- Settles O43: each clause is the case of its command that applies, on the block in which what was held has been paired. -/
theorem edgesTimestamped : Obligations.EdgesTimestamped := by
  intro s w e held pos phase n high b c x act
  have hpaired : RecordsOnly b c := .pairAll b
  have hup : c.up = b.up := hpaired.frame.same .up rfl
  have hcstuck (h : x.stuck = false) : (c.eyeOf e).stuck = false := (hpaired.stuck e).trans h
  have hstaged : c.staged e act = b.stages4 e act b.up { c.eyeOf e with level := act, transAt := b.up } := by
    rw [Blk.staged, hpaired.stages4, Blk.turned, hup]
  refine ⟨fun hpres hlive => ?unused, fun hpres hlive hturn hnarrow => ?narrow,
    fun hpres hlive hturn hwide => ⟨?turns, fun hfn hstuck hfate hwaits => ?admitted, fun hfate hstuck hwaits => ?held⟩,
    ⟨fun hquiet => ?bankNoted, fun hwrong hfresh => ?bankWrong⟩, fun hstuck => ?stuck,
    fun hstuck => answers_idle (exec_stuckOn_idle hstuck) rfl, fun hchatter hover => ?chatter, fun y harmed hpast => ?unpaired,
    fun hover hused => ?gateEnds, fun hgo => answers_idle rfl (if_neg (Bool.eq_false_iff.mp hgo)),
    fun l hlast hfn hrun hents hdue => ?synth, fun hpresent hosc => ?timeLost, fun habsent hdone => ?timeBack,
    fun p l hqueue hpresent hosc hrun hpast => ?delivers⟩
  case unused => exact answers_eyeletEdge (Blk.eyeletEdge_unused hpres hlive)
  case narrow => exact answers_eyeletEdge (Blk.eyeletEdge_narrow hpres hlive hturn hnarrow)
  case turns => exact answers_eyeletEdge (Blk.eyeletEdge_wide hpres hlive hturn hwide)
  case admitted =>
    obtain ⟨hframe, hacc, hseq, hlevel, hidx⟩ :=
      Blk.transition_admitted_counts (hcstuck hstuck) (b.stampOf e b.ins.now pos) phase (hstaged ▸ hfate) (hpaired.eyeFn e ▸ hfn)
    refine answers_eyeletEdge_alone (Blk.eyeletEdge_wide hpres hlive hturn hwide) (hpaired.frame.trans hframe) hwaits ⟨?_, ?_, hlevel, ?_⟩
    · rw [hacc, hpaired.accCount]
    · rw [hseq, hpaired.seq]
    · rw [hidx, hstaged]
  case held =>
    have hheld := Blk.transition_held (hcstuck hstuck) (b.stampOf e b.ins.now pos) phase (hstaged ▸ hfate)
    have hcounted : FrameM 0x4000010 c ((c.setEye e (c.staged e act).1).addF (R.PIN_ECNT_HELD_COUNT e) 1) :=
      ((Blk.setEye_frame ..).mono rfl).trans ((Blk.addF_frame ..).mono rfl)
    refine answers_eyeletEdge_alone ((Blk.eyeletEdge_wide hpres hlive hturn hwide).trans hheld) (hpaired.frame.trans hcounted) hwaits ⟨?_, ?_⟩
    · exact (Blk.rd_addF_counter _ 1 rfl rfl).trans
        (congrArg (fun k => (k + 1) % 0x100000000) (hpaired.heldCount e))
    · rw [Blk.eyeOf_addF, Blk.eyeOf_setEye_self, (c.staged_staged e act).seq, hpaired.seq]
  case bankNoted => exact ⟨_, exec_mismatch_quiet hquiet, .of (FrameM.upd_eyes b) rfl, rfl⟩
  case bankWrong =>
    have hnoted : FrameM 0x4000000 b (b.bankSensed (min 3 n)) := FrameM.upd_eyes b
    exact ⟨_, exec_mismatch_raises hwrong hfresh, .of_pieceBits ((hnoted.mono rfl).trans (Blk.raiseEnv_frame ..)) rfl, _, rfl,
      congrArg (fun m => { b.eyes with sensed := min 3 n, mismatch := m }) hwrong, .of hnoted rfl⟩
  case stuck =>
    obtain ⟨u, hu⟩ := Option.isSome_iff_exists.mp hstuck
    have hnoted : FrameM 0x4000010 b (b.stuckNoted e) := (Blk.setEye_frame ..).mono rfl
    have hkept := RecordsOnly.awlStatus (b.stuckNoted e) e 1 u 0
    refine ⟨_, exec_stuckOn_of_stuck hu, .of (hnoted.trans hkept.frame) rfl, ?_, fun v hv => ?_⟩
    · rw [hkept.stuck, Blk.stuckNoted, Blk.eyeOf_setEye_self]
    · rw [Blk.awlStatus, Blk.awlRec_eyeOf_ne _ hv, Blk.stuckNoted, Blk.eyeOf_setEye_ne _ _ hv]
  case chatter =>
    have hkept := Blk.chatEnd_ends hchatter hover
    refine ⟨b.chatEnd e, rfl, .of (Blk.chatEnd_frame ..) rfl, ?_⟩
    beta_reduce
    rw [hkept.chatter, hkept.chatFlag, hkept.supCnt, hkept.six, Blk.chatterOver, Blk.eyeOf_setEye_self]
    exact ⟨rfl, rfl, rfl, rfl⟩
  case unpaired =>
    refine ⟨b.pairExpire e, rfl, .of (Blk.pairExpire_frame ..) rfl, ?_⟩
    rw [Blk.pairExpire_expires harmed hpast]
    refine ⟨?_, Blk.rd_satF_self (c.disarmed e) 1 (show 8 + 8 ≤ 32 by decide)⟩
    rw [Blk.eyeOf_satF, Blk.disarmed, Blk.eyeOf_setEye_self]
  case gateEnds =>
    exact ⟨b.gateEnd e, exec_freqGateEnd_over hover hused, .of (Blk.gateEnd_frame ..) rfl, Blk.gateEnd_gate⟩
  case synth =>
    obtain ⟨g, hkept, heyes⟩ := Blk.synthCross_counts hlast hfn hrun hents hdue
    have hafter : (b.synthCross e).txRetry.eyes = g.eyes := ((Blk.txRetry_frame _).same .eyes rfl).trans heyes
    refine ⟨(b.synthCross e).txRetry, rfl, .of_pieceBits ((Blk.synthCross_frame ..).trans ((Blk.txRetry_frame _).mono rfl)) rfl, ?_⟩
    beta_reduce
    rw [Blk.eyeOf_congr hafter, hkept.cycN, hkept.cycLast, hkept.synthRun, Blk.synthCounted, Blk.eyeOf_setEye_self]
    exact ⟨rfl, rfl, rfl⟩
  case timeLost =>
    have hlost := Blk.tbLost_loses hpresent hosc n
    have hrecord := Blk.tbRecord_frame (b.timeLost n) 5 (b.timeEnd n)
    refine ⟨b.tbLost n, rfl, .of (Blk.tbLost_frame ..) rfl, ?_⟩
    have heyes : (b.tbLost n).eyes = (b.timeLost n).eyes := hlost ▸ hrecord.same .eyes rfl
    have hevent : (b.tbLost n).flag R.PIN_STATUS_TB_EVENT = (b.timeLost n).flag R.PIN_STATUS_TB_EVENT := by
      rw [hlost, Blk.flag, Blk.flag, hrecord.rd rfl]
    beta_reduce
    rw [heyes, hevent]
    exact ⟨rfl, rfl, Blk.flag_setF_self _ _ (by decide) (by decide)⟩
  case timeBack =>
    have hnoted : FrameM 0x4021008 b b.timeBack := (FrameM.upd_rst_eyes b).mono rfl
    have hrecord := Blk.tbRecord_frame b.timeBack 6 b.ins.now
    exact ⟨_, exec_tbBack_returns habsent hdone, .of (hnoted.trans (hrecord.mono rfl)) rfl, hrecord.same .eyes rfl, hrecord.same .rst rfl⟩
  case delivers =>
    have hins : c.ins = b.ins := hpaired.frame.same .ins rfl
    have hrst : c.rst = b.rst := hpaired.frame.same .rst rfl
    have hdelivers := Blk.awlDeliver_delivers hqueue (hpaired.tbPresent.trans hpresent) (hrst ▸ hosc) (hins ▸ hrun) (hup ▸ hpast)
    rw [hpaired.awlTakes, hins] at hdelivers
    exact ⟨c.awlDeliver e, rfl, .of ((hpaired.frame.mono rfl).trans (Blk.awlDeliver_frame ..)) rfl, hdelivers⟩

end Sys2Proof.Machine
end

section
/-! Calibrations of the Awl's channels: a rotation starts, and its steps (06 R152, R153). -/

namespace Sys2Proof.Machine

/-! ### A rotation starts -/

/-- The block in which a rotation of calibrations has started. -/
def Blk.rotStarted (b : Blk) : Blk := { b with eyes := { b.eyes with rot := some ⟨0, 1⟩, rotFrom := b.up } }

theorem Blk.rotStarted_frame (b : Blk) : FrameM 0x4000000 b b.rotStarted := FrameM.upd_eyes b

section
variable {b : Blk}

theorem Blk.rotStart_starts (hnone : b.eyes.rot = none) (hrun : b.ins.running = true) : b.rotStart = b.rotStarted :=
  if_neg (by rw [hnone, hrun]; decide)

theorem Blk.rotStart_runs (hrot : b.eyes.rot.isSome = true) : b.rotStart = b :=
  if_pos (by rw [hrot, Bool.true_or])

theorem Blk.calStart_starts {f : Nat} (hsetup : b.setup f = true) (hmode : b.mode = .commission) (hnone : b.eyes.rot = none)
    (hrun : b.ins.running = true) : b.calStart f = b.rotStarted := by
  rw [Blk.calStart, if_pos (by rw [hsetup, hmode]; rfl), Blk.rotStart_starts hnone hrun]

theorem Blk.calStart_ignored {f : Nat} (h : b.setup f = false ∨ b.mode ≠ .commission ∨ b.eyes.rot.isSome = true) : b.calStart f = b := by
  unfold Blk.calStart
  split
  · next hmay =>
    obtain ⟨hsetup, hmode⟩ := Bool.and_eq_true_iff.mp hmay
    obtain hno | hno | hrot := h
    · exact absurd hsetup (Bool.eq_false_iff.mp hno)
    · exact absurd (eq_of_beq hmode) hno
    · exact Blk.rotStart_runs hrot
  · rfl

end

/-- The block with the die temperature measured. -/
def Blk.withDieTemp (b : Blk) (tj : Int) : Blk := { b with tj := tj }

section
variable {s : State} {w : Nat} {tj : Int}

theorem exec_calPeriodic_due (hdue : ((s.blk.pass w).withDieTemp tj).calDue = true) (hnone : (s.blk.pass w).eyes.rot = none)
    (hrun : (s.blk.pass w).ins.running = true) :
    exec (.calPeriodic w tj) s = .next { s with blk := Blk.settle s.blk ((s.blk.pass w).withDieTemp tj).rotStarted } := by
  rw [← Blk.rotStart_starts (b := (s.blk.pass w).withDieTemp tj) hnone hrun]
  exact congrArg (fun u => Host.Outcome.next { s with blk := Blk.settle s.blk u }) (if_pos hdue)

theorem exec_calPeriodic_notDue (hdue : ((s.blk.pass w).withDieTemp tj).calDue = false) :
    exec (.calPeriodic w tj) s = .next { s with blk := Blk.settle s.blk ((s.blk.pass w).withDieTemp tj) } := by
  refine congrArg (fun u => Host.Outcome.next { s with blk := Blk.settle s.blk u }) (if_neg ?_)
  exact Bool.eq_false_iff.mp hdue

end

/-! ### The steps of a rotation -/

/-- The block in which the spare serves a channel, or no longer does. -/
def Blk.spareSet (b : Blk) (c : Nat) (on : Bool) : Blk := b.setEye c { b.eyeOf c with spare := on }

/-- The block in which a channel has been calibrated now, with this delay. -/
def Blk.calibrated (b : Blk) (c dly : Nat) : Blk :=
  (b.setEye c { b.eyeOf c with calTemp := some b.tj, calUp := b.up }).wr (R.PIN_EDLY_DLY c) dly

theorem Blk.calibrated_frame (b : Blk) (c dly : Nat) : FrameM 0x4000010 b (b.calibrated c dly) :=
  ((Blk.setEye_frame ..).mono rfl).trans ((Blk.wr_frame ..).mono rfl)

theorem Blk.calibrated_eye (b : Blk) (c dly : Nat) :
    (b.calibrated c dly).eyeOf c = { b.eyeOf c with calTemp := some b.tj, calUp := b.up } :=
  (Blk.eyeOf_congr (Blk.wr_eyes ..) c).trans (Blk.eyeOf_setEye_self ..)

theorem Blk.calibrated_delay (b : Blk) (c dly : Nat) : (b.calibrated c dly).rd (R.PIN_EDLY_DLY c) = dly % 2 ^ 24 :=
  Blk.rd_wr_self _ (R.PIN_EDLY_DLY c) dly (show 0 + 24 ≤ 32 by decide)

theorem Blk.eyeOf_setRot (b : Blk) (r : Option Rotation) (v : Nat) : (b.setRot r).eyeOf v = b.eyeOf v := rfl

theorem Blk.rd_setRot (b : Blk) (r : Option Rotation) (f : BF) : (b.setRot r).rd f = b.rd f := rfl

section
variable {b : Blk} {c diff dly : Nat} {edge : Bool}

theorem Blk.calStep_none (hrot : b.eyes.rot = none) : b.calStep edge diff dly = b := by
  rw [Blk.calStep, hrot]

/-- A comparison within 10 ps, or of no edge at all, has not failed. -/
theorem comparison_passes (h : edge = false ∨ diff ≤ 1000) : (edge && decide (1000 < diff)) = false := by
  obtain rfl | hle := h
  · rfl
  · rw [decide_eq_false (not_lt.mpr hle), Bool.and_false]

theorem Blk.calStep_compared (hrot : b.eyes.rot = some ⟨c, 1⟩) (hpass : edge = false ∨ diff ≤ 1000) :
    b.calStep edge diff dly = (b.spareSet c true).setRot (some ⟨c, 3⟩) := by
  rw [Blk.calStep, hrot]
  exact if_neg (Bool.eq_false_iff.mp (comparison_passes hpass))

theorem Blk.calStep_failed (hrot : b.eyes.rot = some ⟨c, 1⟩) (hedge : edge = true) (hdiff : 1000 < diff) :
    b.calStep edge diff dly = ((b.awlStatus c 8 b.up diff).raiseEnv errCalFail c).setRot (some ⟨c, 3⟩) := by
  rw [Blk.calStep, hrot]
  exact if_pos (by rw [hedge, decide_eq_true hdiff]; rfl)

theorem Blk.calStep_takesDelay (hrot : b.eyes.rot = some ⟨c, 3⟩) (hne : c ≠ 16) :
    b.calStep edge diff dly = (b.calibrated c dly).setRot (some ⟨c, 4⟩) := by
  rw [Blk.calStep, hrot]
  exact if_neg hne

theorem Blk.calStep_ends (hrot : b.eyes.rot = some ⟨16, 3⟩) : b.calStep edge diff dly = b.setRot none := by
  rw [Blk.calStep, hrot]
  rfl

theorem RecordsOnly.rotNext {u : Blk} (h : RecordsOnly b u) (c : Nat) : u.rotNext c = b.rotNext c := by
  have hfitted : u.eyeletPresent = b.eyeletPresent := funext h.eyeletPresent
  rw [Blk.rotNext, Blk.eyelets, hfitted]
  rfl

/-- The block in which the spare has given a channel back, with a record of its delay where the spare served it. -/
def Blk.givenBack (b : Blk) (c : Nat) : Blk :=
  if (b.eyeOf c).spare then (b.spareSet c false).awlStatus c 7 b.up (b.rd (R.PIN_EDLY_DLY c)) else b.spareSet c false

theorem Blk.givenBack_spareSet (b : Blk) (c : Nat) : RecordsOnly (b.spareSet c false) (b.givenBack c) := .ite (.awlStatus ..) (.refl _)

theorem Blk.calStep_goesOn (hrot : b.eyes.rot = some ⟨c, 4⟩) (hpass : edge = false ∨ diff ≤ 1000) :
    b.calStep edge diff dly = (b.givenBack c).setRot (some (b.rotNext c)) := by
  have hback : (if edge && decide (1000 < diff) then (b.spareSet c false).calFail c diff else b.givenBack c) = b.givenBack c :=
    if_neg (Bool.eq_false_iff.mp (comparison_passes hpass))
  have hnext : (b.givenBack c).rotNext c = b.rotNext c := (b.givenBack_spareSet c).rotNext c
  rw [← hnext, ← hback, Blk.calStep, hrot]
  rfl

end

/-! ### The clauses put together -/

/-- Settles O44: each clause is the case of its command that applies. -/
theorem awlCalibrates : Obligations.AwlCalibrates := by
  intro s w f r diff dly tj edge d b
  have hstarted : Frame [.eyes] b b.rotStarted := .of b.rotStarted_frame rfl
  refine ⟨fun hsetup hmode hnone hrun => ⟨b.calStart f, rfl, ?start⟩, fun hno => answers_idle rfl (Blk.calStart_ignored hno),
    ⟨fun hdue hnone hrun => ?periodic, fun hdue => ?notDue⟩, fun h hop hnone hrun => ?policy, fun h hop hrot => ?policyRuns,
    fun hnone => answers_idle rfl (Blk.calStep_none hnone), fun c hrot hpass => ⟨b.calStep edge diff dly, rfl, ?compared⟩,
    fun c hrot hedge hdiff => ⟨b.calStep edge diff dly, rfl, .of_pieceBits (Blk.calStep_frame ..) rfl, ?failed⟩,
    fun c hrot hne => ⟨b.calStep edge diff dly, rfl, ?delay⟩, fun hrot => ⟨b.calStep edge diff dly, rfl, ?ends⟩,
    fun c hrot hpass => ⟨b.calStep edge diff dly, rfl, ?goesOn⟩⟩
  case start =>
    rw [Blk.calStart_starts hsetup hmode hnone hrun]
    exact ⟨hstarted, rfl⟩
  case periodic =>
    have hdie : FrameM 0x1004000000 b (b.withDieTemp tj) := (FrameM.upd_tj b).mono rfl
    exact ⟨_, exec_calPeriodic_due hdue hnone hrun, .of (hdie.trans ((Blk.rotStarted_frame _).mono rfl)) rfl, rfl, rfl⟩
  case notDue => exact ⟨_, exec_calPeriodic_notDue hdue, .of (FrameM.upd_tj b) rfl, rfl⟩
  case policy =>
    exact completes_of (exec_of_ready rfl h (by simp [hop]))
      (congrArg (Blk.complete · ⟨r, d.id⟩ stOk []) (Blk.rotStart_starts (b := b.beginDesc r d) hnone hrun))
      (.of (Blk.rotStarted_frame _) rfl) rfl rfl
  case policyRuns =>
    exact completes_only (exec_of_ready rfl h (by simp [hop]))
      (congrArg (Blk.complete · ⟨r, d.id⟩ stOk []) (Blk.rotStart_runs (b := b.beginDesc r d) hrot))
  case compared =>
    rw [Blk.calStep_compared hrot hpass]
    exact ⟨.of ((Blk.setEye_frame ..).trans (Blk.setRot_frame ..)) rfl, rfl, Blk.eyeOf_setEye_self .., fun v hv => Blk.eyeOf_setEye_ne _ _ hv⟩
  case failed =>
    rw [Blk.calStep_failed hrot hedge hdiff]
    exact ⟨rfl, rfl⟩
  case delay =>
    rw [Blk.calStep_takesDelay hrot hne]
    beta_reduce
    rw [Blk.eyeOf_setRot, Blk.calibrated_eye, Blk.rd_setRot, Blk.calibrated_delay]
    exact ⟨.of ((Blk.calibrated_frame ..).trans ((Blk.setRot_frame ..).mono rfl)) rfl, rfl, rfl, rfl, rfl⟩
  case ends =>
    rw [Blk.calStep_ends hrot]
    exact ⟨.of (Blk.setRot_frame ..) rfl, rfl⟩
  case goesOn =>
    have hspare : ((b.givenBack c).eyeOf c).spare = false := by
      rw [(b.givenBack_spareSet c).spare, Blk.spareSet, Blk.eyeOf_setEye_self]
    have hback : FrameM 0x4000010 b (b.givenBack c) := ((Blk.setEye_frame ..).mono rfl).trans (b.givenBack_spareSet c).frame
    rw [Blk.calStep_goesOn hrot hpass]
    exact ⟨.of (hback.trans ((Blk.setRot_frame ..).mono rfl)) rfl, rfl, (congrArg Eyelet.spare (Blk.eyeOf_setRot ..)).trans hspare⟩

end Sys2Proof.Machine
end

section
/-! Received frames: the checks of a port in their order, and what each one leads to (07 R164, 08 R193). -/

namespace Sys2Proof.Machine

/-! ### The first checks -/

/-- The block once a frame of n bytes has passed the checks of its length and FCS: it is counted with its bytes, in the present epoch
of fair admission. -/
def Blk.rxCounted (b : Blk) (p n : Nat) : Blk := (((b.inc (C.PRT_RX_FRAMES p)).incN (C.PRT_RX_BYTES p) n).pmcEvent 0x70 p 1).fairRoll

theorem Blk.rxCounted_frame (b : Blk) (p n : Nat) : FrameM 0x10080020 b (b.rxCounted p n) := by
  have hcount : FrameM 0x10080020 b ((b.inc (C.PRT_RX_FRAMES p)).incN (C.PRT_RX_BYTES p) n) :=
    ((Blk.inc_frame ..).mono rfl).trans ((Blk.incN_frame ..).mono rfl)
  exact (hcount.trans ((Blk.pmcEvent_frame ..).mono rfl)).trans ((Blk.fairRoll_frame _).mono rfl)

section
variable {b : Blk} {p age : Nat} {bs : Bytes} {var : Int} {bad : Bool}

theorem Blk.frameRx_down (h : (b.portPresent p && (b.portOf p).link) = false) : b.frameRx p bs age var bad = b := by
  have hdown : (!b.portPresent p || !(b.portOf p).link) = true := by rw [← Bool.not_and, h]; rfl
  exact if_pos hdown

variable (hup : (b.portPresent p && (b.portOf p).link) = true)
include hup

/-- On a port that is up the checks of the frame itself begin. -/
theorem Blk.frameRx_up :
    b.frameRx p bs age var bad =
      if bad then b.inc (C.PRT_RX_ERR p)
      else if bs.length < 64 then b.inc (C.PRT_RUNT p)
      else if b.rd (R.PRT_MAXFRAME_MAXFRAME p) < bs.length then b.inc (C.PRT_OVERSIZE p)
      else if fcsOf (bs.take (bs.length - 4)) ≠ bs.drop (bs.length - 4) then b.inc (C.PRT_FCS p)
      else (b.rxCounted p bs.length).frameIn { port := p, tRx := b.rxTime p age var, data := bs.take (bs.length - 4) } := by
  have hrun : ¬(!b.portPresent p || !(b.portOf p).link) = true := by rw [← Bool.not_and, hup]; decide
  exact if_neg hrun

theorem Blk.frameRx_error (h : bad = true) : b.frameRx p bs age var bad = b.inc (C.PRT_RX_ERR p) := by
  rw [Blk.frameRx_up hup, if_pos h]

variable (hgood : bad = false)
include hgood

theorem Blk.frameRx_runt (h : bs.length < 64) : b.frameRx p bs age var bad = b.inc (C.PRT_RUNT p) := by
  rw [Blk.frameRx_up hup, if_neg (Bool.eq_false_iff.mp hgood), if_pos h]

variable (hlong : 64 ≤ bs.length)
include hlong

theorem Blk.frameRx_oversize (h : b.rd (R.PRT_MAXFRAME_MAXFRAME p) < bs.length) :
    b.frameRx p bs age var bad = b.inc (C.PRT_OVERSIZE p) := by
  rw [Blk.frameRx_up hup, if_neg (Bool.eq_false_iff.mp hgood), if_neg (Nat.not_lt.mpr hlong), if_pos h]

variable (hfits : bs.length ≤ b.rd (R.PRT_MAXFRAME_MAXFRAME p))
include hfits

theorem Blk.frameRx_fcs (h : fcsOf (bs.take (bs.length - 4)) ≠ bs.drop (bs.length - 4)) :
    b.frameRx p bs age var bad = b.inc (C.PRT_FCS p) := by
  rw [Blk.frameRx_up hup, if_neg (Bool.eq_false_iff.mp hgood), if_neg (Nat.not_lt.mpr hlong), if_neg (Nat.not_lt.mpr hfits), if_pos h]

theorem Blk.frameRx_passes (h : fcsOf (bs.take (bs.length - 4)) = bs.drop (bs.length - 4)) :
    b.frameRx p bs age var bad
      = (b.rxCounted p bs.length).frameIn { port := p, tRx := b.rxTime p age var, data := bs.take (bs.length - 4) } := by
  rw [Blk.frameRx_up hup, if_neg (Bool.eq_false_iff.mp hgood), if_neg (Nat.not_lt.mpr hlong), if_neg (Nat.not_lt.mpr hfits),
    if_neg (not_not_intro h)]

end

/-! ### The checks of the headers, and which frames are for the device -/

theorem Blk.benchUp_congr {a b : Blk} (hpart : a.part = b.part) (herr : a.err = b.err) (hrst : a.rst = b.rst) (hboot : a.boot = b.boot)
    (i : Nat) : a.benchUp i = b.benchUp i := by
  simp only [Blk.benchUp, Blk.benchPresent, Blk.isHeld, Blk.resetting, hpart, herr, hrst, hboot]

/-- Which frames are for the device is a matter of registers alone. -/
theorem Blk.forUs_congr {a b : Blk} (h : a.regs = b.regs) (x : RxF) : a.forUs x = b.forUs x := by
  have hreads (c : Blk) : c.forUs x = Blk.forUs { regs := c.regs } x := rfl
  rw [hreads a, hreads b, h]

section
variable {b : Blk} {x : RxF}

theorem Blk.frameIn_macControl (h : (layOf (b.tpid x.port) x.data).et = 0x8808) :
    b.frameIn x = b.macControl x.port (sliceB x.data 0 6) (x.data.drop (layOf (b.tpid x.port) x.data).off) := if_pos h

variable (het : (layOf (b.tpid x.port) x.data).et ≠ 0x8808)
include het

theorem Blk.frameIn_badFrame {sum : Bool} (h : headerFault (b.tpid x.port) x.data = some sum) : b.frameIn x = b.badFrame x sum := by
  simp only [Blk.frameIn, if_neg het, h]

variable (hok : headerFault (b.tpid x.port) x.data = none)
include hok

theorem Blk.frameIn_benchOut (h : b.benchUp (benchOfPort x.port) = false) : b.frameIn x = b.inc C.CLK_ING_FULL := by
  simp only [Blk.frameIn, if_neg het, hok, h, Bool.not_false, if_true]

theorem Blk.frameIn_forAnother (hbench : b.benchUp (benchOfPort x.port) = true) (h : b.forUs x = false) : b.frameIn x = b.inc C.CLK_NOTME := by
  simp only [Blk.frameIn, if_neg het, hok, hbench, h, Bool.not_true, Bool.false_eq_true, if_false]

theorem Blk.frameIn_forUs (hbench : b.benchUp (benchOfPort x.port) = true) (h : b.forUs x = true) : b.frameIn x = b.classify x := by
  simp only [Blk.frameIn, if_neg het, hok, hbench, h, Bool.not_true, Bool.false_eq_true, if_false, if_true]

end

/-! ### The clauses put together -/

/-- A received frame that only a counter notes. -/
theorem answers_frameReceived_counts {s : State} {w p age k : Nat} {bs : Bytes} {var : Int} {bad : Bool}
    (he : (s.blk.pass w).frameRx p bs age var bad = (s.blk.pass w).inc k) :
    Answers (.frameReceived w p bs age var bad) s [.ctr] fun u => u = (s.blk.pass w).inc k :=
  ⟨(s.blk.pass w).frameRx p bs age var bad, rfl, he ▸ .of (Blk.inc_frame ..) rfl, he⟩

/-- Settles O45: each clause is the check that decides the frame, once those before it have passed. -/
theorem framesReceived : Obligations.FramesReceived := by
  intro s w p age bs var bad b c data up g x
  have hany {P : Blk → Prop} (hP : P (b.frameRx p bs age var bad)) : Answers c s (touches c) P :=
    ⟨b.frameRx p bs age var bad, rfl, .of_pieceBits (Blk.frameRx_frame ..) rfl, hP⟩
  refine ⟨fun hdown => answers_idle rfl (Blk.frameRx_down hdown), fun hup hbad => answers_frameReceived_counts (Blk.frameRx_error hup hbad),
    fun hup hgood hshort => answers_frameReceived_counts (Blk.frameRx_runt hup hgood hshort),
    fun hup hgood hlong hover => answers_frameReceived_counts (Blk.frameRx_oversize hup hgood hlong hover),
    fun hup hgood hlong hfits => ⟨fun hfcs => answers_frameReceived_counts (Blk.frameRx_fcs hup hgood hlong hfits hfcs), fun hfcs => ?passes⟩⟩
  case passes =>
    intro l
    have hcounted : FrameM 0x10080020 b g := b.rxCounted_frame p bs.length
    have hregs : g.regs = b.regs := hcounted.same .regs rfl
    have htpid : g.tpid p = b.tpid p := hcounted.rd rfl _
    have hbench : g.benchUp (benchOfPort p) = b.benchUp (benchOfPort p) :=
      Blk.benchUp_congr (hcounted.same .part rfl) (hcounted.same .err rfl) (hcounted.same .rst rfl) (hcounted.same .boot rfl) _
    have hforUs : g.forUs x = b.forUs x := Blk.forUs_congr hregs x
    have hpasses : b.frameRx p bs age var bad = g.frameIn x := Blk.frameRx_passes hup hgood hlong hfits hfcs
    have hcounts {k : Nat} (he : g.frameIn x = g.inc k) : Answers c s [.ctr, .pmc, .clk] fun u => u = g.inc k :=
      ⟨b.frameRx p bs age var bad, rfl, hpasses.trans he ▸ .of (hcounted.trans ((Blk.inc_frame ..).mono rfl)) rfl, hpasses.trans he⟩
    refine ⟨fun het => hany (hpasses.trans ?mac), fun sum het hfault => hany (hpasses.trans ?fault), fun het hok hout => hcounts ?out,
      fun het hok hin hno => hcounts ?another, fun het hok hin hyes => hany (hpasses.trans ?ours)⟩
    case mac =>
      rw [Blk.frameIn_macControl (x := x) (by rw [htpid]; exact het), htpid]
    case fault => exact Blk.frameIn_badFrame (x := x) (by rw [htpid]; exact het) (by rw [htpid]; exact hfault)
    case out => exact Blk.frameIn_benchOut (x := x) (by rw [htpid]; exact het) (by rw [htpid]; exact hok) (hbench.trans hout)
    case another =>
      exact Blk.frameIn_forAnother (x := x) (by rw [htpid]; exact het) (by rw [htpid]; exact hok) (hbench.trans hin) (hforUs.trans hno)
    case ours => exact Blk.frameIn_forUs (x := x) (by rw [htpid]; exact het) (by rw [htpid]; exact hok) (hbench.trans hin) (hforUs.trans hyes)

end Sys2Proof.Machine
end

section
/-! POLICY_SET GATE_LIST with a sealed response armed for launch (07 R176, 09 R255). -/

namespace Sys2Proof.Machine

theorem exec_policySetGateList_of_ready {s : State} {w r : Nat} {d : Desc} {img : Bytes} (h : Ready (s.blk.pass w) r d 0x31)
    (hsel : byteAt d.data 8 = 2) :
    exec (.policySetGateList w r img) s
      = .next { s with blk := Blk.settle s.blk (((s.blk.pass w).beginDesc r d).policyGate ⟨r, d.id⟩ d.data img) } :=
  exec_of_ready (p := fun d => byteAt d 8 == 2) (f := fun ref d b => b.policyGate ref d img) rfl h (beq_iff_eq.mpr hsel)

/-! ### A gate list that closes every gate, and a response sealed for a launch under it -/

namespace SealedOverGates

/-- POLICY_SET GATE_LIST for port 0, with an image of 40 bytes. -/
def desc : Desc := { id := 0, idx := 0, data := [0x31, 0, 0, 0, 0, 0, 0, 0, 2, 0, 0, 0, 40] }

/-- One entry of 1,000 ns in a cycle as long: no gate is open. -/
def list : GateList := { base := 0, cycle := 1000, entries := [(0, 1000)] }

/-- The image that spells the list. -/
def image : Bytes := leB 4 1 ++ List.replicate 12 0 ++ leB 4 1000 ++ List.replicate 12 0 ++ leB 4 0 ++ leB 4 1000

/-- A session is open, gates are in effect on port 0, ring pair 0 has the command to begin, and the response holds 128 bytes of the
egress space of port 0. -/
def blk : Blk :=
  { boot := { done := true }, ses := [(0, { st := .opened })], rings := [(0, { running := true, descs := [desc] })]
    regs := [(R.RST_FEATURE_EN.off, 0x1FFF), ((R.PRT_FEATURE_EN 0).off, 0x1FFF)]
    ports := [(0, { armed := [SealedOverLeap.response] })], nts := { ctxs := [(0, { req := SealedOverLeap.req, leaseEnd := 0 })] }
    flow := { egUsed := [(0, 128)] } }

def state : State := { pending := [], nvm := {}, blk := blk }

theorem ready : Ready (state.blk.pass 0) 0 desc 0x31 := by decide +kernel

theorem present : (state.blk.pass 0).portPresent 0 = true := by decide +kernel

theorem nonePending : ((state.blk.pass 0).portOf 0).pend = none := by decide +kernel

theorem spells : (gateImage fun i => leAt (sliceB image 0 (leAt desc.data 12 4)) (4 * i) 4) = some list := by decide +kernel

/-- The launch instant lies under the pending list, whose gates are closed: the launch misses and its egress space is given back (09 R255). -/
theorem egUsed_policyGate : (((state.blk.pass 0).beginDesc 0 desc).policyGate ⟨0, desc.id⟩ desc.data image).flow.egUsed = [(0, 0)] := by
  decide +kernel

end SealedOverGates

open SealedOverGates in
/-- Refutes O47: POLICY_SET GATE_LIST also changes the flow control, which its clause leaves out. Where a sealed response is armed for a
launch that the new list closes, its launch misses at once and its egress space is given back. -/
theorem not_gateListsAndLpiSet : ¬ Obligations.GateListsAndLpiSet := by
  intro h
  obtain ⟨-, -, -, -, -, -, -, -, -, hgates, -⟩ := h state 0 0 0 0 0 image desc
  obtain ⟨-, hlist⟩ := hgates ready rfl rfl (by decide) present
  obtain ⟨-, harms⟩ := hlist list spells
  have hkept := egUsed_of_completes (harms nonePending) (by decide) (exec_policySetGateList_of_ready ready rfl)
  exact absurd (egUsed_policyGate.symm.trans hkept) (by decide)

end Sys2Proof.Machine
end

section
/-! What a port keeps while frames are queued, armed, discarded and granted their space (07 R159, R165, R181, 13 R346). -/

namespace Sys2Proof.Machine

/-! ### A port is written -/

theorem Blk.portOf_congr {u c : Blk} (h : u.ports = c.ports) (v : Nat) : u.portOf v = c.portOf v := by
  rw [Blk.portOf, h]; rfl

theorem FrameM.portOf {m : Nat} {a b : Blk} (h : FrameM m a b) (hm : m.testBit Piece.ports.ctorIdx = false) (v : Nat) :
    b.portOf v = a.portOf v :=
  Blk.portOf_congr (h.same .ports hm) v

theorem FrameM.flag {m : Nat} {a b : Blk} (h : FrameM m a b) (hm : m.testBit Piece.regs.ctorIdx = false) (f : BF) : b.flag f = a.flag f := by
  rw [Blk.flag, Blk.flag, h.rd hm]

theorem Blk.portOf_setPort_self (b : Blk) (p : Nat) (x : Port) : (b.setPort p x).portOf p = x := tget_tput_self ..

theorem Blk.portOf_setPort_ne (b : Blk) {p v : Nat} (x : Port) (h : v ≠ p) : (b.setPort p x).portOf v = b.portOf v := tget_tput_ne _ _ _ h

/-! ### What queueing and arming keep -/

/-- A port without what it notes of the frames that wait and are armed: what its lines show, its pauses, its gates, its committed frame and
its quality level are left. -/
def Port.line (q : Port) : Port := { q with queue := [], armed := [], missLast := 0, idleFrom := 0 }

/-- From `a` to `b` no port has changed but in what it notes of its waiting and armed frames. -/
structure Blk.LinesStay (a b : Blk) : Prop where
  line : ∀ v, (b.portOf v).line = (a.portOf v).line

theorem Blk.LinesStay.trans {a b c : Blk} (h : Blk.LinesStay a b) (k : Blk.LinesStay b c) : Blk.LinesStay a c :=
  ⟨fun v => (k.line v).trans (h.line v)⟩

theorem Blk.LinesStay.of_frame {m : Nat} {a b : Blk} (h : FrameM m a b) (hm : m.testBit Piece.ports.ctorIdx = false) : Blk.LinesStay a b :=
  ⟨fun v => congrArg Port.line (h.portOf hm v)⟩

theorem Blk.LinesStay.refl (a : Blk) : Blk.LinesStay a a := ⟨fun _ => rfl⟩

/-- One port is written, and in nothing that its lines show. -/
theorem Blk.LinesStay.of_ports {b u : Blk} {p : Nat} {x : Port} (hu : u.ports = tput b.ports p x) (h : x.line = (b.portOf p).line) :
    Blk.LinesStay b u := by
  refine ⟨fun v => ?_⟩
  rw [Blk.portOf, hu, tget_tput]
  split
  · next hv => subst hv; exact h
  · rfl

theorem Blk.queueFrame_linesStay (b : Blk) (f : TxF) : Blk.LinesStay b (b.queueFrame f) :=
  .of_ports rfl rfl

theorem Blk.launchMiss_linesStay (b : Blk) (p code : Nat) : Blk.LinesStay b (b.launchMiss p code) :=
  .of_ports rfl rfl

theorem Blk.hostMiss_linesStay (b : Blk) (f : TxF) : Blk.LinesStay b (b.hostMiss f) := by
  have hdel : Blk.LinesStay b (b.lstDel? f.entry) := .of_frame (Blk.lstDelOpt_frame ..) rfl
  unfold Blk.hostMiss
  dsimp only
  split
  · exact (hdel.trans (.of_frame (Blk.egFree_frame ..) rfl)).trans (.of_frame (Blk.txDone_frame ..) rfl)
  · exact hdel.trans (.of_ports rfl rfl)

theorem Blk.armWith_linesStay (b : Blk) (f : TxF) (target : Nat) : Blk.LinesStay b (b.armWith f target) := by
  unfold Blk.armWith
  dsimp only
  split
  · exact (Blk.launchMiss_linesStay ..).trans (Blk.hostMiss_linesStay ..)
  · exact Blk.LinesStay.trans (.of_frame (Blk.lstArm_frame ..) rfl) (.of_ports rfl rfl)

theorem Blk.armHost_linesStay (b : Blk) (f : TxF) (target : Nat) : Blk.LinesStay b (b.armHost f target) :=
  Blk.LinesStay.trans (.of_frame (FrameM.upd_flow b) rfl) (Blk.armWith_linesStay ..)

theorem Blk.txGrant_linesStay (b : Blk) (f : TxF) : Blk.LinesStay b (b.txGrant f) := by
  have htake : Blk.LinesStay b (b.egTake f.port f.eg) := .of_frame (Blk.egTake_frame ..) rfl
  unfold Blk.txGrant
  split
  · exact htake.trans (Blk.armHost_linesStay ..)
  · split
    · exact htake.trans (Blk.queueFrame_linesStay ..)
    · exact Blk.LinesStay.trans (.of_frame (Blk.inc_frame ..) rfl) (.of_frame (Blk.frameDone_frame ..) rfl)

theorem Blk.txRetryN_linesStay (b : Blk) (n : Nat) : Blk.LinesStay b (b.txRetryN n) := by
  induction n generalizing b with
  | zero => exact .refl b
  | succ n ih =>
    unfold Blk.txRetryN
    split
    · next x _ =>
      have hbegun : Blk.LinesStay b (b.setBegun x.ref true) := .of_frame (Blk.setBegun_frame ..) rfl
      exact ((hbegun.trans (.of_frame (FrameM.upd_flow _) rfl)).trans (Blk.txGrant_linesStay ..)).trans (ih _)
    · exact .refl b

/-- The grant of waiting TX_FRAMEs changes of a port only what it notes of its waiting and armed frames. -/
theorem Blk.txRetry_linesStay (b : Blk) : Blk.LinesStay b b.txRetry := b.txRetryN_linesStay _

end Sys2Proof.Machine
end

section
/-! A port and its lines: LINK, pauses, storms, low-power idle and quality levels (07 R159, R169 to R171, R182, R183, R189, R190). -/

namespace Sys2Proof.Machine

/-! ### LINK -/

/-- The block once its port p has taken what the PCS shows. -/
def Blk.pcsShown (b : Blk) (p : Nat) (x : PcsState) : Blk :=
  b.setPort p { b.portOf p with lock := x.lock, fecLock := x.fec, aligned := x.aligned, localFault := x.local_, remoteFault := x.remote
                                lpiRx := x.lpi }

/-- The block once LINK of port p has fallen, its frames not yet discarded. -/
def Blk.linkFallen (b : Blk) (p : Nat) : Blk :=
  (((b.setPort p { b.portOf p with link := false, queue := [], commit := none, lpiTx := false }).setF (R.PRT_STATUS_LINK_EVENT p)).wr
    (R.PRT_LPI_TW_TX p) 0).recLink p false

/-- The block once LINK of port p has risen. -/
def Blk.linkRisen (b : Blk) (p : Nat) : Blk :=
  ((b.setPort p { b.portOf p with link := true, idleFrom := b.up }).setF (R.PRT_STATUS_LINK_EVENT p)).recLink p true

section
variable {b : Blk} {p : Nat}

theorem Blk.linkFall_after (h : (b.portOf p).link = true) : FrameM 0x480290028 (b.linkFallen p) (b.linkFall p) := by
  have hdrop (c : Blk) (f : TxF) : FrameM 0x480290028 c (((c.frameFree f).inc (C.PRT_TX_DISCARD p)).frameDone f stDropped) :=
    (((Blk.frameFree_frame ..).mono rfl).trans ((Blk.inc_frame ..).mono rfl)).trans ((Blk.frameDone_frame ..).mono rfl)
  unfold Blk.linkFall
  dsimp only
  rw [if_neg (by simp [h])]
  exact .foldI hdrop (of_eq_true (FrameM.refl ..))

theorem Blk.linkFall_portOf (h : (b.portOf p).link = true) :
    (b.linkFall p).portOf p = { b.portOf p with link := false, queue := [], commit := none, lpiTx := false } :=
  calc (b.linkFall p).portOf p = (b.linkFallen p).portOf p := (Blk.linkFall_after h).portOf rfl p
    _ = _ := (Blk.recLink_frame ..).portOf rfl p
    _ = _ := Blk.portOf_setPort_self b p _

theorem Blk.linkEvent_set (c : Blk) (p : Nat) : (c.setF (R.PRT_STATUS_LINK_EVENT p)).flag (R.PRT_STATUS_LINK_EVENT p) = true :=
  Blk.flag_setF_self _ _ Nat.one_ne_zero (show 13 + 1 ≤ 32 by decide)

theorem Blk.linkFall_event (h : (b.portOf p).link = true) : (b.linkFall p).flag (R.PRT_STATUS_LINK_EVENT p) = true := by
  have hother (c : Blk) : (c.wr (R.PRT_LPI_TW_TX p) 0).flag (R.PRT_STATUS_LINK_EVENT p) = c.flag (R.PRT_STATUS_LINK_EVENT p) := by
    rw [Blk.flag, Blk.flag, Blk.rd_wr_off _ _ _ _ (by simp only [R.PRT_STATUS_LINK_EVENT, R.PRT_LPI_TW_TX, R.PRT_STATUS, R.PRT_LPI]; omega)]
  calc (b.linkFall p).flag _ = (b.linkFallen p).flag (R.PRT_STATUS_LINK_EVENT p) := (Blk.linkFall_after h).flag rfl _
    _ = _ := (Blk.recLink_frame ..).flag rfl _
    _ = _ := hother _
    _ = true := Blk.linkEvent_set _ p

theorem Blk.linkRisen_portOf : (b.linkRisen p).portOf p = { b.portOf p with link := true, idleFrom := b.up } :=
  ((Blk.recLink_frame ..).portOf rfl p).trans (Blk.portOf_setPort_self b p _)

theorem Blk.linkRisen_event : (b.linkRisen p).flag (R.PRT_STATUS_LINK_EVENT p) = true :=
  ((Blk.recLink_frame ..).flag rfl _).trans (Blk.linkEvent_set _ p)

end

section
variable {b : Blk} {p : Nat} {x : PcsState}

theorem Blk.pcsShown_portOf : (b.pcsShown p x).portOf p =
    { b.portOf p with lock := x.lock, fecLock := x.fec, aligned := x.aligned, localFault := x.local_, remoteFault := x.remote, lpiRx := x.lpi } :=
  Blk.portOf_setPort_self b p _

/-- LINK stays, falls or rises, as R159 forms it of what the PCS shows. -/
theorem Blk.pcsChange_eq :
    b.pcsChange p x = if (b.pcsShown p x).linkCond p = (b.portOf p).link then b.pcsShown p x
      else if (b.portOf p).link then (b.pcsShown p x).linkFall p else (b.pcsShown p x).linkRisen p := by
  rw [← if_congr (beq_iff_eq (a := (b.pcsShown p x).linkCond p) (b := (b.portOf p).link)) rfl rfl]
  rfl

theorem Blk.pcsChange_port :
    ((b.pcsChange p x).portOf p).link = (b.pcsShown p x).linkCond p ∧ ((b.pcsChange p x).portOf p).lock = x.lock
      ∧ ((b.pcsChange p x).portOf p).remoteFault = x.remote := by
  have hshown := Blk.pcsShown_portOf (b := b) (p := p) (x := x)
  have hlink : ((b.pcsShown p x).portOf p).link = (b.portOf p).link := (congrArg Port.link hshown).trans rfl
  rw [Blk.pcsChange_eq]
  split
  · next hsame => exact ⟨hlink.trans hsame.symm, (congrArg Port.lock hshown).trans rfl, (congrArg Port.remoteFault hshown).trans rfl⟩
  · next hdiff =>
    split
    · next hup =>
      rw [Blk.linkFall_portOf (hlink.trans hup)]
      exact ⟨(Bool.eq_false_iff.mpr fun hc => hdiff (hc.trans hup.symm)).symm, (congrArg Port.lock hshown).trans rfl, (congrArg Port.remoteFault hshown).trans rfl⟩
    · next hdown =>
      rw [Blk.linkRisen_portOf]
      refine ⟨(Bool.eq_true_of_not_eq_false fun hc => hdiff ?_).symm, (congrArg Port.lock hshown).trans rfl, (congrArg Port.remoteFault hshown).trans rfl⟩
      exact hc.trans (Bool.eq_false_iff.mpr hdown).symm

theorem Blk.pcsChange_event (h : (b.pcsShown p x).linkCond p ≠ (b.portOf p).link) :
    (b.pcsChange p x).flag (R.PRT_STATUS_LINK_EVENT p) = true := by
  rw [Blk.pcsChange_eq, if_neg h]
  split
  · next hup => exact Blk.linkFall_event (((congrArg Port.link Blk.pcsShown_portOf).trans rfl).trans hup)
  · exact Blk.linkRisen_event

end

theorem exec_linkChange_present {s : State} {w p : Nat} {x : PcsState} (h : (s.blk.pass w).portPresent p = true) :
    exec (.linkChange w p x.lock x.fec x.aligned x.local_ x.remote x.lpi) s
      = .next { s with blk := Blk.settle s.blk (((s.blk.pass w).pcsChange p x).evalBound 5 p).txRetry } := by
  change execLinkChange w p x.lock x.fec x.aligned x.local_ x.remote x.lpi s = _
  rw [execLinkChange, State.upd, if_pos h]

theorem exec_linkChange_absent {s : State} {w p : Nat} {x1 x2 x3 x4 x5 x6 : Bool} (h : (s.blk.pass w).portPresent p = false) :
    exec (.linkChange w p x1 x2 x3 x4 x5 x6) s = .next { s with blk := Blk.settle s.blk (s.blk.pass w) } := by
  change execLinkChange w p x1 x2 x3 x4 x5 x6 s = _
  rw [execLinkChange, State.upd, if_neg (Bool.eq_false_iff.mp h)]

/-- What LINK_CHANGE leaves of the port: the evaluation of slots and the grant of waiting TX_FRAMEs touch neither its lines nor the event. -/
theorem Blk.linkChange_port (b : Blk) (p : Nat) (x : PcsState) :
    let u := ((b.pcsChange p x).evalBound 5 p).txRetry
    ((u.portOf p).link = (b.pcsShown p x).linkCond p ∧ (u.portOf p).lock = x.lock ∧ (u.portOf p).remoteFault = x.remote)
      ∧ ((b.pcsShown p x).linkCond p ≠ (b.portOf p).link → u.flag (R.PRT_STATUS_LINK_EVENT p) = true) := by
  intro u
  have heval : Blk.LinesStay (b.pcsChange p x) ((b.pcsChange p x).evalBound 5 p) := .of_frame (Blk.evalBound_frame ..) rfl
  have hline := (heval.trans (Blk.txRetry_linesStay _)).line p
  obtain ⟨hlink, hlock, hremote⟩ := Blk.pcsChange_port (b := b) (p := p) (x := x)
  refine ⟨⟨(congrArg Port.link hline).trans hlink, (congrArg Port.lock hline).trans hlock, (congrArg Port.remoteFault hline).trans hremote⟩,
    fun hdiff => ?_⟩
  calc u.flag _ = _ := (Blk.txRetry_frame _).flag rfl _
    _ = _ := (Blk.evalBound_frame ..).flag rfl _
    _ = true := Blk.pcsChange_event hdiff

/-! ### Pauses and storms -/

section
variable {b : Blk} {p : Nat}

/-- The block once the pauses of port p end and are ignored, and its storm is counted. -/
def Blk.stormMarked (b : Blk) (p : Nat) : Blk :=
  (b.setPort p { b.portOf p with stormEnd := some (b.up + msU (atLeast1 (b.rd (R.PRT_PAUSE_IGNORE_MS p)))), pauseEnd := b.up, pfcEnd := []
                                 runFrom := [] }).inc (C.PRT_PSTORM p)

theorem Blk.stormMarked_frame (b : Blk) (p : Nat) : FrameM 0x8000020 b (b.stormMarked p) :=
  ((Blk.setPort_frame ..).mono rfl).trans ((Blk.inc_frame ..).mono rfl)

theorem Blk.stormMarked_portOf (b : Blk) (p : Nat) :
    (b.stormMarked p).portOf p = { b.portOf p with stormEnd := some (b.up + msU (atLeast1 (b.rd (R.PRT_PAUSE_IGNORE_MS p))))
                                                   pauseEnd := b.up, pfcEnd := [], runFrom := [] } :=
  Blk.portOf_setPort_self b p _

theorem Blk.stormBegin_due (h : b.stormDue p = true) : b.stormBegin p = ((b.stormMarked p).raiseEnv errStorm p).pauseOver p := by
  rw [Blk.stormBegin, h]
  rfl

theorem Blk.stormBegin_idle (h : b.stormDue p = false) : b.stormBegin p = b := by
  rw [Blk.stormBegin, h]
  rfl

theorem Blk.pauseOver_paused (h : b.paused p (b.serveTc p) = true) : b.pauseOver p = b := if_pos h

theorem Blk.pauseOver_frees (h : b.paused p (b.serveTc p) = false) :
    (b.pauseOver p).nts = { b.nts with ctxs := b.nts.ctxs.map fun e =>
      if e.2.req.port == p && (e.2.missed == some 2) && e.2.ready.isNone then (e.1, { e.2 with ready := some b.up }) else e } := by
  rw [Blk.pauseOver, h]
  rfl

end

section
variable {s : State} {w p e : Nat}

theorem exec_stormEnd_over (hstorm : ((s.blk.pass w).portOf p).stormEnd = some e) (hover : e ≤ (s.blk.pass w).up) :
    exec (.stormEnd w p) s
      = .next { s with blk := Blk.settle s.blk ((s.blk.pass w).setPort p { (s.blk.pass w).portOf p with stormEnd := none }) } := by
  change execStormEnd w p s = _
  simp only [execStormEnd, State.upd, hstorm, if_pos hover]

theorem exec_stormEnd_lasts (hstorm : ((s.blk.pass w).portOf p).stormEnd = some e) (hlasts : (s.blk.pass w).up < e) :
    exec (.stormEnd w p) s = .next { s with blk := Blk.settle s.blk (s.blk.pass w) } := by
  change execStormEnd w p s = _
  simp only [execStormEnd, State.upd, hstorm, if_neg (Nat.not_le.mpr hlasts)]

/-! ### Low-power idle -/

/-- Whether port p may enter low-power idle now (07 R182). -/
def Blk.lpiMayEnter (b : Blk) (p : Nat) : Bool :=
  b.canSend p && b.lpiOn p && (b.portOf p).idle && decide ((b.portOf p).busyEnd ≤ b.tm)
    && decide ((b.portOf p).idleFrom + usU (atLeast1 (b.rd (R.PRT_LPI_IDLE_US p))) ≤ b.up) && !b.launchWithin p (b.twTx p + usU 2)

/-- The block with port p in low-power idle. -/
def Blk.lpiEntered (b : Blk) (p : Nat) : Blk := (b.setPort p { b.portOf p with lpiTx := true }).inc (C.PRT_LPI_ENTRY p)

theorem Blk.lpiEntered_frame (b : Blk) (p : Nat) : FrameM 0x8000020 b (b.lpiEntered p) :=
  ((Blk.setPort_frame ..).mono rfl).trans ((Blk.inc_frame ..).mono rfl)

theorem execLpiEnter_eq (w p : Nat) (s : State) :
    execLpiEnter w p s = s.upd w fun _ b => if b.lpiMayEnter p then b.lpiEntered p else b := rfl

theorem exec_lpiEnter_enters (h : (s.blk.pass w).lpiMayEnter p = true) :
    exec (.lpiEnter w p) s = .next { s with blk := Blk.settle s.blk ((s.blk.pass w).lpiEntered p) } := by
  change execLpiEnter w p s = _
  rw [execLpiEnter_eq, State.upd, if_pos h]

theorem exec_lpiEnter_stays (h : (s.blk.pass w).lpiMayEnter p = false) :
    exec (.lpiEnter w p) s = .next { s with blk := Blk.settle s.blk (s.blk.pass w) } := by
  change execLpiEnter w p s = _
  rw [execLpiEnter_eq, State.upd, if_neg (Bool.eq_false_iff.mp h)]

end

section
variable {b : Blk} {p : Nat}

theorem Blk.lpiWake_wakes (hlpi : (b.portOf p).lpiTx = true)
    (h : (b.portOf p).idle = false ∨ b.launchWithin p (b.twTx p + usU 1 + 1) = true ∨ b.lpiOn p = false) :
    b.lpiWake p = b.setPort p { b.portOf p with lpiTx := false, wakeEnd := b.up + b.twTx p } := by
  refine if_pos ?_
  rw [hlpi, Bool.true_and, Bool.or_eq_true, Bool.or_eq_true, Bool.not_eq_true', Bool.not_eq_true', or_assoc]
  exact h

theorem Blk.lpiWake_awake (hlpi : (b.portOf p).lpiTx = false) : b.lpiWake p = b := by
  rw [Blk.lpiWake, hlpi]
  rfl

/-! ### Quality levels -/

theorem Blk.sendBuilt_granted {f : TxF} (h : b.egGrants f.port f.len = true) :
    b.sendBuilt f = some ((b.egTake f.port f.len).queueFrame { f with eg := f.len }) := if_pos h

theorem Blk.sendBuilt_refused {f : TxF} (h : b.egGrants f.port f.len = false) : b.sendBuilt f = none := if_neg (Bool.eq_false_iff.mp h)

theorem Blk.queueFrame_portOf (b : Blk) (f : TxF) :
    (b.queueFrame f).portOf f.port
      = { b.portOf f.port with queue := (b.portOf f.port).queue ++ [{ f with id := b.flow.seq, heldFrom := b.leaseNow }], idleFrom := b.up } :=
  Blk.portOf_setPort_self b f.port _

/-- Whether an ESMC PDU of port p is due now: an event PDU on a change of its code, or the information PDU of the second (07 R190). -/
def Blk.esmcDue (b : Blk) (p : Nat) : Bool :=
  b.pfeat p featSynceOut && (b.portOf p).link && !b.nearLoop p
    && (b.qlCode p != (b.portOf p).qlSent || decide ((b.portOf p).esmcTxAt + secU 1 ≤ b.up))

/-- The ESMC PDU that port p would send now. -/
def Blk.esmcPdu (b : Blk) (p : Nat) : TxF :=
  builtFrame p (b.rd (R.PRT_TXCTL_PTP_TC p)) .esmc (b.esmcFrame p (b.qlCode p) (b.qlCode p != (b.portOf p).qlSent))

theorem Blk.esmcTx_eq :
    b.esmcTx p = if b.esmcDue p then
        match b.sendBuilt (b.esmcPdu p) with
        | some c => c.setPort p { c.portOf p with
            qlSent := b.qlCode p, esmcTxAt := if b.qlCode p != (b.portOf p).qlSent then (b.portOf p).esmcTxAt else b.up }
        | none => b
      else b := by
  have hnot : (!b.pfeat p featSynceOut || !(b.portOf p).link || b.nearLoop p
      || !(b.qlCode p != (b.portOf p).qlSent || decide ((b.portOf p).esmcTxAt + secU 1 ≤ b.up))) = !b.esmcDue p := by
    rw [Blk.esmcDue, Bool.not_and, Bool.not_and, Bool.not_and, Bool.not_not]
  unfold Blk.esmcTx
  dsimp only
  rw [hnot]
  cases b.esmcDue p <;> rfl

theorem Blk.esmcTx_idle (h : b.esmcDue p = false ∨ b.egGrants p (b.esmcPdu p).len = false) : b.esmcTx p = b := by
  rw [Blk.esmcTx_eq]
  split
  · next hdue => rw [Blk.sendBuilt_refused (f := b.esmcPdu p) (h.resolve_left (by simp [hdue]))]
  · rfl

theorem Blk.esmcTx_sends (hdue : b.esmcDue p = true) (hspace : b.egGrants p (b.esmcPdu p).len = true) :
    (b.esmcTx p).portOf p =
      { b.portOf p with
        queue := (b.portOf p).queue ++ [{ b.esmcPdu p with eg := (b.esmcPdu p).len, id := b.flow.seq, heldFrom := b.leaseNow }]
        idleFrom := b.up, qlSent := b.qlCode p
        esmcTxAt := if b.qlCode p != (b.portOf p).qlSent then (b.portOf p).esmcTxAt else b.up } := by
  have hqueued := (b.egTake p (b.esmcPdu p).len).queueFrame_portOf { b.esmcPdu p with eg := (b.esmcPdu p).len }
  rw [Blk.esmcTx_eq, if_pos hdue, Blk.sendBuilt_granted (f := b.esmcPdu p) hspace]
  exact (Blk.portOf_setPort_self ..).trans (congrArg (fun q : Port => { q with
    qlSent := b.qlCode p, esmcTxAt := if b.qlCode p != (b.portOf p).qlSent then (b.portOf p).esmcTxAt else b.up }) hqueued)

end

/-- The block without a level received on port p, its slots evaluated (07 R189). -/
def Blk.qlLost (b : Blk) (p : Nat) : Blk := (b.setPort p { b.portOf p with qlTimeout := true, qlRx := 0xF }).evalBound 5 p

theorem Blk.qlLost_frame (b : Blk) (p : Nat) : FrameM 0x9c20008 b (b.qlLost p) :=
  ((Blk.setPort_frame ..).mono rfl).trans ((Blk.evalBound_frame ..).mono rfl)

theorem Blk.qlLost_portOf (b : Blk) (p : Nat) : (b.qlLost p).portOf p = { b.portOf p with qlTimeout := true, qlRx := 0xF } :=
  ((Blk.evalBound_frame ..).portOf rfl p).trans (Blk.portOf_setPort_self ..)

theorem execQlTimeout_eq (w p : Nat) (s : State) :
    execQlTimeout w p s = s.upd w fun _ b =>
      if !(b.portOf p).qlTimeout && decide ((b.portOf p).esmcAt + secU 5 ≤ b.up) then b.qlLost p else b := rfl

theorem exec_qlTimeout_out {s : State} {w p : Nat} (hin : ((s.blk.pass w).portOf p).qlTimeout = false)
    (hlate : ((s.blk.pass w).portOf p).esmcAt + secU 5 ≤ (s.blk.pass w).up) :
    exec (.qlTimeout w p) s = .next { s with blk := Blk.settle s.blk ((s.blk.pass w).qlLost p) } := by
  change execQlTimeout w p s = _
  rw [execQlTimeout_eq, State.upd, if_pos (by rw [hin, decide_eq_true hlate]; rfl)]

theorem exec_qlTimeout_idle {s : State} {w p : Nat} (h : ((s.blk.pass w).portOf p).qlTimeout = true
      ∨ (s.blk.pass w).up < ((s.blk.pass w).portOf p).esmcAt + secU 5) :
    exec (.qlTimeout w p) s = .next { s with blk := Blk.settle s.blk (s.blk.pass w) } := by
  change execQlTimeout w p s = _
  rw [execQlTimeout_eq, State.upd, if_neg]
  rcases h with h | h
  · rw [h]; exact Bool.false_ne_true
  · rw [decide_eq_false (Nat.not_le.mpr h), Bool.and_false]; exact Bool.false_ne_true

/-! ### The clauses put together -/

/-- A command that writes one port. -/
theorem answers_setPort {c : Instr} {s : State} {u : Blk} {p : Nat} {x : Port} (hexec : exec c s = .next { s with blk := Blk.settle s.blk u })
    (he : u = (s.blk.pass c.wait).setPort p x) :
    Answers c s [.ports] fun u => u.portOf p = x ∧ ∀ v, v ≠ p → u.portOf v = (s.blk.pass c.wait).portOf v := by
  subst he
  exact ⟨_, hexec, .of (Blk.setPort_frame ..) rfl, Blk.portOf_setPort_self .., fun v hv => Blk.portOf_setPort_ne _ _ hv⟩

/-- Settles O46: each clause is the case of its command that applies. -/
theorem portsFollowTheirLines : Obligations.PortsFollowTheirLines := by
  intro s w p x1 x2 x3 x4 x5 x6 b q c
  let x : PcsState := ⟨x1, x2, x3, x4, x5, x6⟩
  refine ⟨fun hpresent => ?link, fun habsent => answers_idle (exec_linkChange_absent habsent) rfl,
    fun hpaused => answers_idle rfl (Blk.pauseOver_paused hpaused),
    fun hover => ⟨b.pauseOver p, rfl, .of (Blk.pauseOver_frame ..) rfl, Blk.pauseOver_frees hover⟩, fun hdue => ?storm,
    fun hidle => answers_idle rfl (Blk.stormBegin_idle hidle),
    fun e hstorm => ⟨fun hover => answers_setPort (exec_stormEnd_over hstorm hover) rfl,
      fun hlasts => answers_idle (exec_stormEnd_lasts hstorm hlasts) rfl⟩,
    fun hsend hlpi hidle hfree hlong hnone => ?enters, fun hno => ?stays, fun hlpi hwake => ?wakes,
    fun hawake => answers_idle rfl (Blk.lpiWake_awake hawake), fun hin hlate => ?timeout,
    fun hno => answers_idle (exec_qlTimeout_idle hno) rfl, fun hdue hspace => ?sends, fun hno => answers_idle rfl (Blk.esmcTx_idle hno)⟩
  case link =>
    obtain ⟨⟨hlink, hlock, hremote⟩, hevent⟩ := b.linkChange_port p x
    have hframe : FrameM 0x489eb0038 b ((b.pcsChange p x).evalBound 5 p).txRetry :=
      (((Blk.pcsChange_frame ..).mono rfl).trans ((Blk.evalBound_frame ..).mono rfl)).trans ((Blk.txRetry_frame _).mono rfl)
    exact ⟨_, exec_linkChange_present (x := x) hpresent, .of_pieceBits hframe rfl, hlink, hlock, hremote, hevent⟩
  case storm =>
    have hport := b.stormMarked_portOf p
    refine ⟨b.stormBegin p, rfl, .of_pieceBits (Blk.stormBegin_frame ..) rfl, b.stormMarked p, Blk.stormBegin_due hdue, ?_⟩
    rw [hport]
    exact ⟨rfl, rfl, rfl, rfl, .of (b.stormMarked_frame p) rfl⟩
  case enters =>
    have hmay : b.lpiMayEnter p = true := by
      simp only [Blk.lpiMayEnter, Bool.and_eq_true, decide_eq_true_eq, Bool.not_eq_true']
      exact ⟨⟨⟨⟨⟨hsend, hlpi⟩, hidle⟩, hfree⟩, hlong⟩, hnone⟩
    exact ⟨_, exec_lpiEnter_enters hmay, .of (b.lpiEntered_frame p) rfl, Blk.portOf_setPort_self b p _, rfl⟩
  case stays =>
    have hmay : b.lpiMayEnter p = false := by rw [Blk.lpiMayEnter, hno]; rfl
    exact answers_idle (exec_lpiEnter_stays hmay) rfl
  case wakes =>
    have hwakes := Blk.lpiWake_wakes hlpi hwake
    exact ⟨b.lpiWake p, rfl, .of (Blk.lpiWake_frame ..) rfl, hwakes ▸ Blk.portOf_setPort_self b p _⟩
  case timeout => exact ⟨_, exec_qlTimeout_out hin hlate, .of (b.qlLost_frame p) rfl, b.qlLost_portOf p⟩
  case sends =>
    have hport := Blk.esmcTx_sends hdue hspace
    exact ⟨b.esmcTx p, rfl, .of (Blk.esmcTx_frame ..) rfl, (congrArg Port.qlSent hport).trans rfl, (congrArg Port.queue hport).trans rfl,
      (congrArg Port.esmcTxAt hport).trans rfl⟩

end Sys2Proof.Machine
end

section
/-! What a completion leaves of the flow control, and what holds egress space too long or waits too long (13 R346, R349, R356, R359). -/

namespace Sys2Proof.Machine

/-! ### The waiting TX_FRAMEs and the completions owed -/

/-- Of the flow control a completion changes only the run of BUSY_RETRYs. -/
theorem Blk.complete_flow (b : Blk) (ref : DRef) (status : Nat) (result : Bytes) :
    ∃ runs, (b.complete ref status result).flow = { b.flow with busyRuns := runs } := by
  unfold Blk.complete Blk.completeX
  split
  · exact ⟨_, rfl⟩
  · have hcount (x : Blk) : (x.pmcEvent 0x91 ref.ring 1).flow = x.flow := (Blk.pmcEvent_frame ..).same .flow rfl
    exact ⟨_, hcount _⟩

theorem Blk.complete_waits (b : Blk) (ref : DRef) (status : Nat) (result : Bytes) :
    (b.complete ref status result).flow.waits = b.flow.waits := by
  obtain ⟨_, h⟩ := b.complete_flow ref status result
  rw [h]

theorem Blk.complete_done (b : Blk) (ref : DRef) (status : Nat) (result : Bytes) :
    (b.complete ref status result).flow.done = b.flow.done := by
  obtain ⟨_, h⟩ := b.complete_flow ref status result
  rw [h]

theorem Blk.completeBusy_waits (b : Blk) (ref : DRef) : (b.completeBusy ref).flow.waits = b.flow.waits := by
  unfold Blk.completeBusy
  split
  · rfl
  · exact Blk.complete_waits ..

theorem Blk.frameDone_waits (b : Blk) (f : TxF) (status : Nat) : (b.frameDone f status).flow.waits = b.flow.waits := by
  unfold Blk.frameDone
  split
  · exact Blk.complete_waits ..
  · rfl

theorem Blk.ctxFreeOpt_waits (b : Blk) (k : Option Nat) : (b.ctxFree? k).flow.waits = b.flow.waits := by
  unfold Blk.ctxFree?
  split
  · unfold Blk.ctxFree
    split <;> rfl
  · rfl

theorem Blk.frameFree_waits (b : Blk) (f : TxF) : (b.frameFree f).flow.waits = b.flow.waits :=
  (Blk.ctxFreeOpt_waits ..).trans ((congrArg Flow.waits ((Blk.lstDelOpt_frame (b.egFree f.port f.eg) f.entry).same .flow rfl)).trans rfl)

theorem Blk.frameDrop_waits (b : Blk) (miss status : Nat) (f : TxF) : (b.frameDrop miss status f).flow.waits = b.flow.waits := by
  unfold Blk.frameDrop
  dsimp only
  rw [Blk.frameDone_waits]
  split <;> exact Blk.frameFree_waits b f

/-! ### TX_FRAMEs that have waited TXW_US -/

theorem Blk.txwExpire_waits (b : Blk) : b.txwExpire.flow.waits = b.flow.waits.filter (!b.txLate ·) :=
  foldl_keeps (v := fun c : Blk => c.flow.waits) (fun c x _ => c.completeBusy_waits x.ref) _

/-! ### Frames that have held their egress space for EG_MAX_MS -/

/-- The frames of a port that hold egress space. -/
def Port.frames (q : Port) : List TxF := q.queue ++ q.armed ++ (q.commit.map (·.1)).toList

theorem Blk.portFrames_eq (b : Blk) (p : Nat) : b.portFrames p = (b.portOf p).frames := rfl

/-- A port without the frames that have held their egress space for too long. -/
def Blk.egKept (b : Blk) (q : Port) : Port :=
  { q with queue := q.queue.filter (!b.egExpired ·), armed := q.armed.filter (!b.egExpired ·)
           commit := match q.commit with | some x => if b.egExpired x.1 then none else some x | none => none }

theorem Blk.commit_egKept {b : Blk} {q : Port} {f : TxF} :
    (b.egKept q).commit.map (·.1) = some f ↔ q.commit.map (·.1) = some f ∧ b.egExpired f = false := by
  cases hq : q.commit with
  | none => simp [Blk.egKept, hq]
  | some x =>
    cases hx : b.egExpired x.1 with
    | true =>
      have hnone : (b.egKept q).commit = none := by simp [Blk.egKept, hq, hx]
      simp only [hnone, Option.map_none, Option.map_some, reduceCtorEq, Option.some.injEq, false_iff, not_and]
      rintro rfl
      simp [hx]
    | false =>
      have hsome : (b.egKept q).commit = some x := by simp [Blk.egKept, hq, hx]
      simp only [hsome, Option.map_some, Option.some.injEq, iff_self_and]
      rintro rfl
      exact hx

theorem Blk.mem_frames_egKept {b : Blk} {q : Port} {f : TxF} : f ∈ (b.egKept q).frames ↔ f ∈ q.frames ∧ b.egExpired f = false := by
  have hqueue : (b.egKept q).queue = q.queue.filter (!b.egExpired ·) := rfl
  have harmed : (b.egKept q).armed = q.armed.filter (!b.egExpired ·) := rfl
  simp only [Port.frames, List.mem_append, Option.mem_toList, Blk.commit_egKept, hqueue, harmed, List.mem_filter, Bool.not_eq_true',
    or_and_right]

theorem Blk.egExpired_congr {a b : Blk} (hregs : a.regs = b.regs) (hins : a.ins = b.ins) (f : TxF) : a.egExpired f = b.egExpired f := by
  have hreads (c : Blk) : c.egExpired f = Blk.egExpired { regs := c.regs, ins := c.ins } f := rfl
  rw [hreads a, hreads b, hregs, hins]

theorem Blk.egExpirePort_expired (b : Blk) (p : Nat) (f : TxF) : (b.egExpirePort p).egExpired f = b.egExpired f :=
  Blk.egExpired_congr ((b.egExpirePort_frame p).same .regs rfl) ((b.egExpirePort_frame p).same .ins rfl) f

theorem Blk.egExpirePort_none {b : Blk} {p : Nat} (h : ∀ f ∈ b.portFrames p, b.egExpired f = false) : b.egExpirePort p = b := by
  have hgone : (b.portFrames p).filter b.egExpired = [] := List.filter_eq_nil_iff.mpr fun f hf => Bool.eq_false_iff.mp (h f hf)
  rw [Blk.egExpirePort, hgone]
  rfl

/-- The discard of a port's expired frames leaves the ports as they are without them. -/
theorem Blk.egExpirePort_some {b : Blk} {p : Nat} (h : (b.portFrames p).filter b.egExpired ≠ []) :
    FrameM 0x480290028 (b.setPort p (b.egKept (b.portOf p))) (b.egExpirePort p)
      ∧ (b.egExpirePort p).flow.waits = b.flow.waits := by
  have hdrop (c : Blk) (f : TxF) : FrameM 0x480290028 c ((c.frameDrop C.NTS_MISS_AGED stDropped f).inc C.FLC_EG_EXPIRE) :=
    (Blk.frameDrop_frame ..).trans ((Blk.inc_frame ..).mono rfl)
  have hkept (c : Blk) (f : TxF) : ((c.frameDrop C.NTS_MISS_AGED stDropped f).inc C.FLC_EG_EXPIRE).flow.waits = c.flow.waits :=
    c.frameDrop_waits C.NTS_MISS_AGED stDropped f
  unfold Blk.egExpirePort
  dsimp only
  rw [if_neg (by simpa using h)]
  exact ⟨.foldI hdrop (of_eq_true (FrameM.refl ..)), foldl_keeps (v := fun c : Blk => c.flow.waits) (fun c f _ => hkept c f) _⟩

theorem Blk.egExpirePort_waits (b : Blk) (p : Nat) : (b.egExpirePort p).flow.waits = b.flow.waits := by
  by_cases h : (b.portFrames p).filter b.egExpired = []
  · rw [Blk.egExpirePort, h]; rfl
  · exact (Blk.egExpirePort_some h).2

/-- Of the frames of one port only those that have not expired are left; the other ports keep theirs. -/
theorem Blk.egExpirePort_frames {b : Blk} {p v : Nat} {f : TxF} (hf : f ∈ (b.egExpirePort p).portFrames v) :
    f ∈ b.portFrames v ∧ (v = p → b.egExpired f = false) := by
  by_cases h : (b.portFrames p).filter b.egExpired = []
  · have hnone : ∀ x ∈ b.portFrames p, b.egExpired x = false := fun x hx => Bool.eq_false_iff.mpr (List.filter_eq_nil_iff.mp h x hx)
    rw [Blk.egExpirePort_none hnone] at hf
    exact ⟨hf, fun hv => hnone f (hv ▸ hf)⟩
  · rw [Blk.portFrames_eq, (Blk.egExpirePort_some h).1.portOf rfl] at hf
    by_cases hv : v = p
    · subst hv
      rw [Blk.portOf_setPort_self] at hf
      obtain ⟨hmem, hfresh⟩ := Blk.mem_frames_egKept.mp hf
      exact ⟨hmem, fun _ => hfresh⟩
    · rw [Blk.portOf_setPort_ne _ _ hv] at hf
      exact ⟨hf, fun hp => absurd hp hv⟩

/-- After the discard on a list of ports no frame of theirs has expired. -/
theorem Blk.egExpire_frames {l : List Nat} {b : Blk} {v : Nat} {f : TxF} (hf : f ∈ (l.foldl Blk.egExpirePort b).portFrames v) :
    f ∈ b.portFrames v ∧ (v ∈ l → b.egExpired f = false) := by
  induction l generalizing b with
  | nil => exact ⟨hf, fun hv => absurd hv List.not_mem_nil⟩
  | cons p l ih =>
    obtain ⟨hmem, hrest⟩ := ih hf
    obtain ⟨hfirst, hfresh⟩ := Blk.egExpirePort_frames hmem
    refine ⟨hfirst, fun hv => (List.mem_cons.mp hv).elim hfresh fun hl => ?_⟩
    exact (b.egExpirePort_expired p f).symm.trans (hrest hl)

theorem Blk.egExpire_none {l : List Nat} {b : Blk} (h : ∀ p ∈ l, ∀ f ∈ b.portFrames p, b.egExpired f = false) :
    l.foldl Blk.egExpirePort b = b := by
  induction l with
  | nil => rfl
  | cons p l ih =>
    obtain ⟨hfirst, hrest⟩ := List.forall_mem_cons.mp h
    rw [List.foldl_cons, Blk.egExpirePort_none hfirst, ih hrest]

end Sys2Proof.Machine
end

section
/-! TX_FRAME, the start of frames at their launch points, and the ends of waits (07 R165, R168, R173, R177, 08 R217, 11 R305, 13 R346 to R359). -/

namespace Sys2Proof.Machine

/-! ### TX_FRAME is checked -/

section
variable {b : Blk} {ref : DRef} {d data : Bytes}

theorem Blk.txFrame_absent (h : b.portPresent (byteAt d 18 % 32) = false) : b.txFrame ref d data = b.complete ref stAbsent [] := by
  rw [Blk.txFrame, h]
  rfl

variable (hpresent : b.portPresent (byteAt d 18 % 32) = true)
include hpresent

theorem Blk.txFrame_badTime (h : launchTime b.ins.now d = none) : b.txFrame ref d data = b.complete ref stMalformed [] := by
  simp only [Blk.txFrame, hpresent, h, Bool.not_true, Bool.false_eq_true, if_false]

/-- A frame of n bytes that is padded where it is short is counted so. -/
def Blk.txPadded (b : Blk) (p n : Nat) : Blk := if n < 60 then b.inc (C.PRT_TX_PAD p) else b

/-- With a port that is present and a launch time in range, the length and the checksums are checked (11 R305, 07 R168). -/
theorem Blk.txFrame_timed {L : Option Nat} (h : launchTime b.ins.now d = some L) :
    b.txFrame ref d data =
      if b.rd (R.PRT_MAXFRAME_MAXFRAME (byteAt d 18 % 32)) < leAt d 16 2 + 4 then
        (b.inc (C.PRT_TX_OVERSIZE (byteAt d 18 % 32))).complete ref stMalformed []
      else if leAt d 16 2 < 14 ∨ leAt d 16 2 < 60 ∧ b.flag (R.PRT_TXCTL_PAD (byteAt d 18 % 32)) = false then b.complete ref stMalformed []
      else if csumOk (b.tpid (byteAt d 18 % 32)) (bitOf (byteAt d 19) 3) (bitOf (byteAt d 19) 4) (sliceB data 0 (leAt d 16 2)) = false then
        b.complete ref stMalformed []
      else (b.txPadded (byteAt d 18 % 32) (leAt d 16 2)).txClaim ref (b.txFrameOf ref d (sliceB data 0 (leAt d 16 2)) L) := by
  have hframe : (b.txPadded (byteAt d 18 % 32) (leAt d 16 2)).txFrameOf ref d (sliceB data 0 (leAt d 16 2)) L
      = b.txFrameOf ref d (sliceB data 0 (leAt d 16 2)) L := by unfold Blk.txPadded; split <;> rfl
  rw [← hframe]
  simp only [Blk.txFrame, hpresent, h, Bool.not_true, Bool.false_eq_true, if_false, Bool.not_eq_true']
  rfl

variable {L : Option Nat} (htime : launchTime b.ins.now d = some L)
include htime

theorem Blk.txFrame_oversize (h : b.rd (R.PRT_MAXFRAME_MAXFRAME (byteAt d 18 % 32)) < leAt d 16 2 + 4) :
    b.txFrame ref d data = (b.inc (C.PRT_TX_OVERSIZE (byteAt d 18 % 32))).complete ref stMalformed [] := by
  rw [Blk.txFrame_timed hpresent htime, if_pos h]

variable (hfits : leAt d 16 2 + 4 ≤ b.rd (R.PRT_MAXFRAME_MAXFRAME (byteAt d 18 % 32)))
include hfits

theorem Blk.txFrame_short (h : leAt d 16 2 < 14 ∨ leAt d 16 2 < 60 ∧ b.flag (R.PRT_TXCTL_PAD (byteAt d 18 % 32)) = false) :
    b.txFrame ref d data = b.complete ref stMalformed [] := by
  rw [Blk.txFrame_timed hpresent htime, if_neg (Nat.not_lt.mpr hfits), if_pos h]

variable (hlong : 14 ≤ leAt d 16 2) (hpad : 60 ≤ leAt d 16 2 ∨ b.flag (R.PRT_TXCTL_PAD (byteAt d 18 % 32)) = true)
include hlong hpad

/-- The length is in range once it is not above MAXFRAME, holds a header and is padded where it must be. -/
theorem Blk.txFrame_sized :
    b.txFrame ref d data =
      if csumOk (b.tpid (byteAt d 18 % 32)) (bitOf (byteAt d 19) 3) (bitOf (byteAt d 19) 4) (sliceB data 0 (leAt d 16 2)) = false then
        b.complete ref stMalformed []
      else (b.txPadded (byteAt d 18 % 32) (leAt d 16 2)).txClaim ref (b.txFrameOf ref d (sliceB data 0 (leAt d 16 2)) L) := by
  have hsize : ¬(leAt d 16 2 < 14 ∨ leAt d 16 2 < 60 ∧ b.flag (R.PRT_TXCTL_PAD (byteAt d 18 % 32)) = false) := by
    rintro (h | ⟨hshort, hno⟩)
    · exact Nat.not_lt.mpr hlong h
    · exact hpad.elim (Nat.not_le.mpr hshort) fun hyes => Bool.noConfusion (hno.symm.trans hyes)
  rw [Blk.txFrame_timed hpresent htime, if_neg (Nat.not_lt.mpr hfits), if_neg hsize]

end

/-! ### Its space -/

section
variable {b : Blk} {ref : DRef} {f : TxF}

theorem Blk.egFits_congr {a b : Blk} (hregs : a.regs = b.regs) (hflow : a.flow = b.flow) (p n : Nat) : a.egFits p n = b.egFits p n := by
  have hreads (c : Blk) : c.egFits p n = Blk.egFits { regs := c.regs, flow := c.flow } p n := rfl
  rw [hreads a, hreads b, hregs, hflow]

theorem Blk.egClaimed_congr {a b : Blk} (hflow : a.flow = b.flow) (p : Nat) : a.egClaimed p = b.egClaimed p := by
  rw [Blk.egClaimed, hflow]
  rfl

theorem Blk.escalated_congr {a b : Blk} (hregs : a.regs = b.regs) (hflow : a.flow = b.flow) (r op : Nat) :
    a.escalated r op = b.escalated r op := by
  have hreads (c : Blk) : c.escalated r op = Blk.escalated { regs := c.regs, flow := c.flow } r op := rfl
  rw [hreads a, hreads b, hregs, hflow]

theorem Blk.leaseNow_congr {a b : Blk} (h : a.ins = b.ins) : a.leaseNow = b.leaseNow := by
  rw [Blk.leaseNow, Blk.leaseAt, h]
  rfl

/-- The block in which a TX_FRAME waits for its space, not begun. -/
def Blk.txWaits (b : Blk) (ref : DRef) (f : TxF) : Blk :=
  { b.setBegun ref false with flow := { b.flow with waits := b.flow.waits ++ [TxWait.mk ref f b.up false] } }

theorem Blk.txWaits_frame (b : Blk) (ref : DRef) (f : TxF) : FrameM 0x400010000 b (b.txWaits ref f) :=
  ((Blk.setBegun_frame b ref false).mono rfl).trans ((FrameM.upd_flow (b.setBegun ref false)).mono rfl)

variable (hL : f.launch = none) (hlink : (b.portOf f.port).link = true)
include hL hlink

theorem Blk.txClaim_queues (hfits : b.egFits f.port f.eg = true) (hfree : b.egClaimed f.port = false) :
    b.txClaim ref f = (b.egTake f.port f.eg).queueFrame f := by
  simp [Blk.txClaim, Blk.txFits, Blk.txGrant, hL, hlink, hfits, hfree]

theorem Blk.txClaim_waits (hfull : b.egFits f.port f.eg = false) (hesc : b.escalated ref.ring 1 = false) :
    b.txClaim ref f = b.txWaits ref f := by
  simp only [Blk.txClaim, Blk.txFits, hL, hlink, hfull, hesc, Option.isNone_none, Bool.not_true, Bool.and_false, Bool.false_and,
    Bool.false_eq_true, if_false, List.nil_append]
  rfl

end

/-! ### The start of a frame -/

theorem Blk.launchPoint_congr {a b : Blk} (hpart : a.part = b.part) (hregs : a.regs = b.regs) (hboot : a.boot = b.boot) (hins : a.ins = b.ins)
    (p : Nat) (t : Int) : a.launchPoint p t = b.launchPoint p t := by
  have hreads (c : Blk) : c.launchPoint p t = Blk.launchPoint { part := c.part, regs := c.regs, boot := c.boot, ins := c.ins } p t := rfl
  rw [hreads a, hreads b, hpart, hregs, hboot, hins]

theorem Blk.wireU_congr {a b : Blk} (hpart : a.part = b.part) (hregs : a.regs = b.regs) (hboot : a.boot = b.boot) (p n : Nat) :
    a.wireU p n = b.wireU p n := by
  have hreads (c : Blk) : c.wireU p n = Blk.wireU { part := c.part, regs := c.regs, boot := c.boot } p n := rfl
  rw [hreads a, hreads b, hpart, hregs, hboot]

/-- The block once the frames that can never start are gone from the queue of port p (07 R177). -/
def Blk.fitting (b : Blk) (p : Nat) : Blk := b.dropNoFit p (b.portOf p).queue.length

section
variable {b : Blk} {p : Nat}

theorem Blk.fitting_launchPoint (t : Int) : (b.fitting p).launchPoint p t = b.launchPoint p t := by
  have hframe : FrameM 0x488290028 b (b.fitting p) := Blk.dropNoFit_frame ..
  exact Blk.launchPoint_congr (hframe.same .part rfl) (hframe.same .regs rfl) (hframe.same .boot rfl) (hframe.same .ins rfl) p t

theorem Blk.fitting_ins : (b.fitting p).ins = b.ins := (Blk.dropNoFit_frame ..).same .ins rfl

theorem Blk.fitting_wireU (n : Nat) : (b.fitting p).wireU p n = b.wireU p n := by
  have hframe : FrameM 0x488290028 b (b.fitting p) := Blk.dropNoFit_frame ..
  exact Blk.wireU_congr (hframe.same .part rfl) (hframe.same .regs rfl) (hframe.same .boot rfl) p n

theorem Blk.frameStart_stays (h : b.canSend p = false) : b.frameStart p = b := by
  rw [Blk.frameStart, h]
  rfl

theorem Blk.closerCommit_stays (h : b.canSend p = false) : b.closerCommit p = b := by
  rw [Blk.closerCommit, h]
  rfl

/-- A committed frame whose point has come starts, unless its class is paused (07 R169). -/
theorem Blk.startCommit_starts {f : TxF} {point : Int} (hpause : b.paused f.port f.cls = false) (hdue : point ≤ b.tm) :
    b.startCommit f point
      = (b.setPort f.port { b.portOf f.port with commit := none }).startBody f (point + b.ins.stepSum).toNat := by
  rw [Blk.startCommit, if_neg (Bool.eq_false_iff.mp hpause), if_neg (by omega)]

variable (hsend : b.canSend p = true)
include hsend

theorem Blk.frameStart_committed {g f : TxF} {point : Int} (h : (b.portOf p).commit = some (g, f, point)) :
    b.frameStart p = b.startCommit f point := by
  simp only [Blk.frameStart, hsend, h, Bool.not_true, Bool.false_eq_true, if_false]

variable (hnone : (b.portOf p).commit = none)
include hnone

theorem Blk.frameStart_chosen {f : TxF} (h : (b.fitting p).chooseAt p (b.launchPoint p (b.ins.now + b.wireU p 8)) = some f) :
    b.frameStart p = ((b.fitting p).takeFrame f).startAt f (b.launchPoint p (b.ins.now + b.wireU p 8)) := by
  have hstart : b.frameStart p =
      match (b.fitting p).chooseAt p ((b.fitting p).launchPoint p ((b.fitting p).ins.now + (b.fitting p).wireU p 8)) with
      | some f => ((b.fitting p).takeFrame f).startAt f ((b.fitting p).launchPoint p ((b.fitting p).ins.now + (b.fitting p).wireU p 8))
      | none => b.fitting p := by
    simp only [Blk.frameStart, hsend, hnone, Bool.not_true, Bool.false_eq_true, if_false]
    rfl
  rw [hstart, Blk.fitting_launchPoint, Blk.fitting_ins, Blk.fitting_wireU, h]

/-- The Closer's commit: the frame as it waited, as it is written, and its point (08 R217). -/
theorem Blk.closerCommit_commits {f : TxF} (h : (b.fitting p).chooseAt p (b.launchPoint p (b.ins.now + nsU 160)) = some f) :
    ∃ x : TxF, ((b.closerCommit p).portOf p).commit = some (f, x, (b.launchPoint p (b.ins.now + nsU 160) : Int) - b.ins.stepSum)
      ∧ x.port = f.port ∧ x.cls = f.cls ∧ x.id = f.id := by
  let L := b.launchPoint p (b.ins.now + nsU 160)
  let x := ((b.fitting p).takeFrame f).commitFrame f L
  have hins : x.2.ins = b.ins :=
    ((Blk.commitFrame_frame ..).same .ins rfl).trans (((Blk.takeFrame_frame ..).same .ins rfl).trans Blk.fitting_ins)
  have hcommit : b.closerCommit p
      = (x.2.setPort p { x.2.portOf p with commit := some (f, x.1, (L : Int) - x.2.ins.stepSum) }).pmcEvent 0x80 (benchOfPort p) 1 := by
    have hchoice : b.closerCommit p =
        let y := b.fitting p
        let K := y.launchPoint p (y.ins.now + nsU 160)
        match y.chooseAt p K with
        | none => y
        | some f =>
          let z := (y.takeFrame f).commitFrame f K
          (z.2.setPort p { z.2.portOf p with commit := some (f, z.1, (K : Int) - z.2.ins.stepSum) }).pmcEvent 0x80 (benchOfPort p) 1 := by
      simp only [Blk.closerCommit, hsend, hnone, Bool.not_true, Option.isSome_none, Bool.or_self, Bool.false_eq_true, if_false]
      rfl
    rw [hchoice]
    dsimp only
    rw [Blk.fitting_launchPoint, Blk.fitting_ins, h]
  refine ⟨x.1, ?_, rfl, rfl, rfl⟩
  rw [hcommit, (Blk.pmcEvent_frame ..).portOf rfl, Blk.portOf_setPort_self, hins]

end

/-! ### The clauses put together -/

theorem Blk.txPadded_frame (b : Blk) (p n : Nat) : FrameM 0x20 b (b.txPadded p n) := by
  unfold Blk.txPadded
  split
  · exact Blk.inc_frame ..
  · exact of_eq_true (FrameM.refl ..)

section
variable {b g : Blk} {ref : DRef} {f : TxF} (hframe : FrameM 0x10020 b g) (hL : f.launch = none)
include hframe hL

/-- A TX_FRAME without launch, with LINK up and its space free, is queued at once. -/
theorem Blk.txClaim_free (hlink : (b.portOf f.port).link = true) (hfits : b.egFits f.port f.eg = true) (hfree : b.egClaimed f.port = false) :
    FrameM 0x408010020 b (g.txClaim ref f)
      ∧ ((g.txClaim ref f).portOf f.port).queue = (b.portOf f.port).queue ++ [{ f with id := b.flow.seq, heldFrom := b.leaseNow }]
      ∧ (g.txClaim ref f).flow.waits = b.flow.waits := by
  have hflow : g.flow = b.flow := hframe.same .flow rfl
  have hport : g.portOf f.port = b.portOf f.port := hframe.portOf rfl _
  have hqueues : g.txClaim ref f = (g.egTake f.port f.eg).queueFrame f :=
    Blk.txClaim_queues hL (hport ▸ hlink) ((Blk.egFits_congr (hframe.same .regs rfl) hflow ..).trans hfits)
      ((Blk.egClaimed_congr hflow _).trans hfree)
  have hseq : (g.egTake f.port f.eg).flow.seq = b.flow.seq := by rw [← hflow]; rfl
  have hnow : (g.egTake f.port f.eg).leaseNow = b.leaseNow := Blk.leaseNow_congr (hframe.same .ins rfl)
  have hold : (g.egTake f.port f.eg).portOf f.port = b.portOf f.port := hport
  rw [hqueues, Blk.queueFrame_portOf, hseq, hnow, hold]
  exact ⟨(hframe.mono rfl).trans (((Blk.egTake_frame ..).mono rfl).trans ((Blk.queueFrame_frame ..).mono rfl)), rfl, by rw [← hflow]; rfl⟩

/-- Without space it waits, last in the order of the waits, and its descriptor has not begun. -/
theorem Blk.txClaim_full (hlink : (b.portOf f.port).link = true) (hfull : b.egFits f.port f.eg = false)
    (hesc : b.escalated ref.ring 1 = false) :
    FrameM 0x400010020 b (g.txClaim ref f) ∧ (g.txClaim ref f).flow.waits = b.flow.waits ++ [TxWait.mk ref f b.up false] := by
  have hflow : g.flow = b.flow := hframe.same .flow rfl
  have hup : g.up = b.up := hframe.same .up rfl
  have hregs : g.regs = b.regs := hframe.same .regs rfl
  have hwaits : g.txClaim ref f = g.txWaits ref f :=
    Blk.txClaim_waits hL ((congrArg Port.link (hframe.portOf rfl _)).trans hlink) ((Blk.egFits_congr hregs hflow ..).trans hfull)
      ((Blk.escalated_congr hregs hflow ..).trans hesc)
  rw [hwaits, Blk.txWaits, ← hflow, ← hup]
  exact ⟨(hframe.mono rfl).trans ((g.txWaits_frame ref f).mono rfl), rfl⟩

end

section
variable {s : State} {w r p : Nat} {data : Bytes} {d : Desc}

theorem exec_txFrame_of_ready (h : Ready (s.blk.pass w) r d 0x01) :
    exec (.txFrame w r data) s
      = .next { s with blk := Blk.settle s.blk (((s.blk.pass w).beginDesc r d).txFrame ⟨r, d.id⟩ d.data data) } :=
  exec_of_ready (p := fun _ => true) (f := fun ref x b => b.txFrame ref x data) rfl h rfl

/-- The block once the oldest completion owed is written. -/
def Blk.doneWritten (b : Blk) (x : DRef × Nat × Bytes) (l : List (DRef × Nat × Bytes)) : Blk :=
  Blk.complete { b with flow := { b.flow with done := l } } x.1 x.2.1 x.2.2

theorem exec_txFrameDone_owed {x : DRef × Nat × Bytes} {l : List (DRef × Nat × Bytes)} (h : (s.blk.pass w).flow.done = x :: l) :
    exec (.txFrameDone w) s = .next { s with blk := Blk.settle s.blk ((s.blk.pass w).doneWritten x l) } := by
  change execTxFrameDone w s = _
  rw [execTxFrameDone, State.upd, h]
  rfl

theorem exec_txFrameDone_none (h : (s.blk.pass w).flow.done = []) :
    exec (.txFrameDone w) s = .next { s with blk := Blk.settle s.blk (s.blk.pass w) } := by
  change execTxFrameDone w s = _
  rw [execTxFrameDone, State.upd, h]

theorem answers_frameStart {u : Blk} (h : (s.blk.pass w).frameStart p = u) :
    Answers (.frameStart w p) s (touches (.frameStart w p)) fun v => v = u.txRetry :=
  ⟨_, rfl, .of_pieceBits ((Blk.frameStart_frame ..).trans ((Blk.txRetry_frame _).mono rfl)) rfl, congrArg Blk.txRetry h⟩

theorem answers_closerCommit {P : Blk → Prop} (h : P ((s.blk.pass w).closerCommit p).txRetry) :
    Answers (.closerCommit w p) s (touches (.closerCommit w p)) P :=
  ⟨_, rfl, .of_pieceBits ((Blk.closerCommit_frame ..).trans ((Blk.txRetry_frame _).mono rfl)) rfl, h⟩

theorem answers_egExpire {P : Blk → Prop} (h : P ((List.range 32).foldl Blk.egExpirePort (s.blk.pass w)).txRetry) :
    Answers (.egExpire w) s (touches (.egExpire w)) P := by
  have hports : FrameM 0x488290028 (s.blk.pass w) ((List.range 32).foldl Blk.egExpirePort (s.blk.pass w)) :=
    .foldI Blk.egExpirePort_frame (of_eq_true (FrameM.refl ..))
  exact ⟨_, rfl, .of_pieceBits (hports.trans ((Blk.txRetry_frame _).mono rfl)) rfl, h⟩

end

/-- Settles O48: a TX_FRAME by the first of its checks that fails, then by its space; the other commands by their cases. -/
theorem framesSent : Obligations.FramesSent := by
  intro s w r p data d b c o n bs fl
  refine ⟨fun hready habsent => completes_only (exec_txFrame_of_ready hready) (Blk.txFrame_absent habsent),
    fun hready hpresent hbad => completes_only (exec_txFrame_of_ready hready) (Blk.txFrame_badTime hpresent hbad),
    fun L hready hpresent htime => ⟨fun hover => ?oversize,
      fun hfits hshort => completes_only (exec_txFrame_of_ready hready) (Blk.txFrame_short hpresent htime hfits hshort),
      fun hfits hlong hpad => ⟨fun hcsum => ?checksum, fun hcsum => ?sized⟩⟩,
    fun x l howed => ?done, fun hnone => answers_idle (exec_txFrameDone_none hnone) rfl,
    fun hno => answers_frameStart (Blk.frameStart_stays hno), fun g f point hsend hcommit hpause hdue => ?committed,
    fun hsend hnone => ⟨fun f hchosen => answers_frameStart (Blk.frameStart_chosen hsend hnone hchosen), fun f hchosen => ?commits⟩,
    fun hno => answers_closerCommit (congrArg Blk.txRetry (Blk.closerCommit_stays hno)), fun hwaits => ?expires,
    fun hfresh => ?fresh, ⟨_, rfl, .of_pieceBits (Blk.txwExpire_frame _) rfl, b.txwExpire_waits⟩⟩
  case oversize =>
    exact completes_of (exec_txFrame_of_ready hready) (Blk.txFrame_oversize hpresent htime hover) (.of (Blk.inc_frame ..) rfl) rfl rfl
  case checksum =>
    have hsized := Blk.txFrame_sized (b := c) (ref := ⟨r, d.id⟩) (data := data) hpresent htime hfits hlong hpad
    exact completes_only (exec_txFrame_of_ready hready) (hsized.trans (if_pos hcsum))
  case sized =>
    intro f g
    have hsized := Blk.txFrame_sized (b := c) (ref := ⟨r, d.id⟩) (data := data) hpresent htime hfits hlong hpad
    have hclaim : c.txFrame ⟨r, d.id⟩ d.data data = g.txClaim ⟨r, d.id⟩ f :=
      hsized.trans (if_neg fun h => Bool.noConfusion (hcsum.symm.trans h))
    have hexec := exec_txFrame_of_ready (data := data) hready
    have hbegun : FrameM 0x10020 b g := ((Blk.beginDesc_frame b r d).mono rfl).trans ((c.txPadded_frame o n).mono rfl)
    refine ⟨⟨_, hexec, .of_pieceBits (((Blk.beginDesc_frame ..).mono rfl).trans (Blk.txFrame_frame ..)) rfl, hclaim⟩,
      fun hL hlink hspace hfree => ?_, fun hL hlink hfull hesc => ?_⟩
    · obtain ⟨hframe, hqueue, hwaits⟩ := Blk.txClaim_free (ref := ⟨r, d.id⟩) (f := f) hbegun hL hlink hspace hfree
      exact ⟨_, hclaim ▸ hexec, .of hframe rfl, hqueue, hwaits⟩
    · obtain ⟨hframe, hwaits⟩ := Blk.txClaim_full (ref := ⟨r, d.id⟩) (f := f) hbegun hL hlink hfull hesc
      exact ⟨_, hclaim ▸ hexec, .of hframe rfl, hwaits⟩
  case done =>
    exact ⟨_, exec_txFrameDone_owed howed, .of (((FrameM.upd_flow b).mono rfl).trans (Blk.complete_frame ..)) rfl,
      Blk.complete_done .., rfl⟩
  case committed => exact answers_frameStart ((Blk.frameStart_committed hsend hcommit).trans (Blk.startCommit_starts hpause hdue))
  case commits =>
    obtain ⟨x, hcommit, hx⟩ := Blk.closerCommit_commits hsend hnone hchosen
    have hkept := congrArg Port.commit ((Blk.txRetry_linesStay (b.closerCommit p)).line p)
    exact answers_closerCommit ⟨x, hkept.trans hcommit, hx⟩
  case expires =>
    refine answers_egExpire fun v f hv hf => ?_
    have hkept : ((List.range 32).foldl Blk.egExpirePort b).flow.waits = [] :=
      (foldl_keeps (v := fun a : Blk => a.flow.waits) (fun a q _ => a.egExpirePort_waits q) b).trans hwaits
    rw [Blk.txRetry_of_no_waits hkept] at hf
    exact (Blk.egExpire_frames hf).2 (List.mem_range.mpr hv)
  case fresh =>
    exact answers_egExpire (congrArg Blk.txRetry (Blk.egExpire_none fun v hv f hf => hfresh v f (List.mem_range.mp hv) hf))

end Sys2Proof.Machine
end

section
/-! The Dispatcher, shedding by age, the epochs of fair admission, and the exception ring (08 R197, R206, R220 to R222, 13 R347). -/

namespace Sys2Proof.Machine

/-! ### Invocations and contexts by their keys -/

theorem Blk.invAt?_congr {a b : Blk} (h : a.eng = b.eng) (lane : Nat) : a.invAt? lane = b.invAt? lane := by
  rw [Blk.invAt?, Blk.invAt?, h]

theorem Blk.ctxAt?_congr {a b : Blk} (h : a.nts = b.nts) (k : Nat) : a.ctxAt? k = b.ctxAt? k := by
  rw [Blk.ctxAt?, Blk.ctxAt?, h]

theorem Blk.invAt?_setInv (b : Blk) (lane : Nat) (v : Inv) : (b.setInv lane v).invAt? lane = some v := by
  simp [Blk.invAt?, Blk.setInv, find?_tput]

theorem Blk.ctxAt?_setCtx (b : Blk) (k : Nat) (c : Ctx) : (b.setCtx k c).ctxAt? k = some c := by
  simp [Blk.ctxAt?, Blk.setCtx, find?_tput]

/-! ### An invocation is put on a Lane -/

section
variable {b : Blk} {lane : Nat} {v : Inv}

theorem Blk.place_invAt? (i : Nat) : (b.place i lane v).invAt? lane = some { v with heldFrom := b.up, startUp := b.leaseNow } :=
  (Blk.invAt?_congr ((Blk.pmcEvent_frame ..).same .eng rfl) lane).trans (Blk.invAt?_setInv ..)

theorem Blk.place_reqs (i : Nat) : (b.place i lane v).clk.reqs = b.clk.reqs :=
  (congrArg Clk.reqs ((Blk.pmcEvent_frame ..).same .clk rfl) :)

theorem Blk.lockTake_invAt? (bkt : Nat) (h : b.invAt? lane = some v) :
    (b.lockTake bkt lane).invAt? lane = some { v with lockWait := false, lockFrom := b.leaseNow } := by
  obtain ⟨e, he, rfl⟩ := Option.map_eq_some_iff.mp h
  have hkey : e.1 = lane := by simpa using List.find?_some he
  have hsame : ((fun e : Nat × Inv => e.1 == lane) ∘ fun e =>
      if e.1 = lane then (e.1, { e.2 with lockWait := false, lockFrom := b.leaseNow }) else e) = fun e => e.1 == lane := by
    funext e; simp only [Function.comp_apply]; split <;> rfl
  simp only [Blk.invAt?, Blk.lockTake, List.find?_map, hsame, he, Option.map_some, hkey, if_true]

/-- An invocation that asks for its bucket goes on with it, or waits. -/
theorem Blk.lockAsk_invAt? (bkt : Nat) (h : b.invAt? lane = some v) :
    ∃ wait since, (b.lockAsk lane bkt).invAt? lane = some { v with lockWait := wait, lockFrom := since } := by
  unfold Blk.lockAsk
  split
  · exact ⟨_, _, Blk.lockTake_invAt? bkt h⟩
  · rw [h]
    exact ⟨true, v.lockFrom, Blk.invAt?_setInv b lane { v with lockWait := true }⟩

end

/-- The context that a request takes on Bench i, if it needs one. -/
def Blk.ctxFor (b : Blk) (r : Req) (i : Nat) : Option Nat := if r.nts then b.nextCtx i else none

/-- A request has left its queue and holds its context. -/
def Blk.reqTaken (b : Blk) (r : Req) (i : Nat) : Blk :=
  let c := match b.ctxFor r i with | some k => b.setCtx k { req := r, leaseEnd := b.leaseEnd r } | none => b
  { c with clk := { c.clk with reqs := c.clk.reqs.filter fun q => q.num != r.num } }

/-- The bucket of a request's client. -/
def Blk.bucketFor (b : Blk) (r : Req) : Nat := b.bucketOf (b.reqKey r).2

/-- The invocation of a request that has been assigned (08 R206). -/
def Blk.reqInv (b : Blk) (r : Req) (i : Nat) : Inv :=
  { entry := if r.nts then 1 else 0, req := r, eg := r.eg, ctx := b.ctxFor r i, bucket := some ((b.reqTaken r i).bucketFor r) }

/-- That invocation is on its Lane, and counted where its Bench is not the port's. -/
def Blk.reqPlaced (b : Blk) (r : Req) (i lane : Nat) : Blk :=
  let c := (b.reqTaken r i).place i lane (b.reqInv r i)
  if i = benchOfPort r.port then c else c.pmcEvent 0x33 (benchOfPort r.port) 1

theorem Blk.reqTaken_reqs (b : Blk) (r : Req) (i : Nat) : (b.reqTaken r i).clk.reqs = b.clk.reqs.filter fun q => q.num != r.num := by
  unfold Blk.reqTaken
  split <;> rfl

theorem Blk.reqPlaced_keeps (b : Blk) (r : Req) (i lane : Nat) :
    FrameM 0x80000 ((b.reqTaken r i).place i lane (b.reqInv r i)) (b.reqPlaced r i lane) := by
  unfold Blk.reqPlaced
  split
  · exact of_eq_true (FrameM.refl ..)
  · exact Blk.pmcEvent_frame ..

theorem Blk.assign_invAt? (b : Blk) (r : Req) (i lane : Nat) : ∃ v, (b.assign r i lane).invAt? lane = some v
    ∧ v.req = r ∧ v.eg = r.eg ∧ v.started = false ∧ v.entry = if r.nts then 1 else 0 := by
  have hplaced := (Blk.invAt?_congr ((b.reqPlaced_keeps r i lane).same .eng rfl) lane).trans (Blk.place_invAt? i)
  obtain ⟨wait, since, hv⟩ := Blk.lockAsk_invAt? ((b.reqTaken r i).bucketFor r) hplaced
  exact ⟨_, hv, rfl, rfl, rfl, rfl⟩

theorem Blk.assign_reqs (b : Blk) (r : Req) (i lane : Nat) :
    (b.assign r i lane).clk.reqs = b.clk.reqs.filter fun q => q.num != r.num := by
  have hlock : (b.assign r i lane).clk = (b.reqPlaced r i lane).clk := (Blk.lockAsk_frame ..).same .clk rfl
  have hplaced : (b.reqPlaced r i lane).clk = _ := (b.reqPlaced_keeps r i lane).same .clk rfl
  rw [hlock, hplaced, Blk.place_reqs, Blk.reqTaken_reqs]

/-! ### DISPATCH_ASSIGN -/

section
variable {b : Blk}

/-- The heads that are not too old, in the order of their admission. -/
def Blk.freshHeads (b : Blk) : List Req := (reqHeads b.clk.reqs).filter fun r => decide (b.leaseNow < b.ageEnd r)

/-- The invocation of a re-seal. -/
def resealInv (k : Nat) (x : Ctx) : Inv := { entry := 2, req := x.req, eg := 0, ctx := some k }

theorem Blk.dispatch_reseal {k l : Nat} {x : Ctx} (h : b.resealNext = some (k, x, l)) :
    b.dispatch = (b.setCtx k { x with ready := none }).place (k / 256) l (resealInv k x) := by
  rw [Blk.dispatch, h]; rfl

theorem Blk.dispatch_heads (h : b.resealNext = none) : b.dispatch = b.tryHeads b.freshHeads := by
  rw [Blk.dispatch, h]; rfl

theorem Blk.tryHeads_assigned {g : Blk} {r r1 : Req} {rest : List Req} {i l : Nat} (hres : b.reqReserve r = (g, some r1))
    (hbench : g.pickBench r1 = some i) (hlane : g.nextLane i = some l) : b.tryHeads (r :: rest) = g.assign r1 i l := by
  have htry : b.tryHead r = (g.assign r1 i l, true) := by simp only [Blk.tryHead, hres, hbench, hlane]
  rw [Blk.tryHeads, htry]

theorem Blk.placed_frame (k i l : Nat) (x : Ctx) (v : Inv) : FrameM 0xd0080000 b ((b.setCtx k x).place i l v) :=
  ((Blk.setCtx_frame ..).mono rfl).trans ((Blk.place_frame ..).mono rfl)

/-! ### Shedding by age, and epochs -/

theorem Blk.ageShed_reqs : b.ageShed.clk.reqs = b.clk.reqs.filter fun r => decide (b.leaseNow < b.ageEnd r) := by
  have hshed (a : Blk) (r : Req) : ((a.reqFree r).inc C.CLK_SHED_AGE).clk.reqs = a.clk.reqs := rfl
  exact foldl_keeps (v := fun a : Blk => a.clk.reqs) (fun a r _ => hshed a r) _

theorem Blk.ageShed_none (h : ∀ r ∈ b.clk.reqs, b.leaseNow < b.ageEnd r) : b.ageShed = b := by
  have hgone : b.clk.reqs.filter (fun r => decide (b.ageEnd r ≤ b.leaseNow)) = [] :=
    List.filter_eq_nil_iff.mpr fun r hr => by simpa using h r hr
  have hstay : b.clk.reqs.filter (fun r => decide (b.leaseNow < b.ageEnd r)) = b.clk.reqs :=
    List.filter_eq_self.mpr fun r hr => by simpa using h r hr
  rw [Blk.ageShed, hgone, hstay]; rfl

theorem Blk.ageShed_txRetry_frame : FrameM 0x418290028 b b.ageShed.txRetry :=
  ((Blk.ageShed_frame b).mono rfl).trans ((Blk.txRetry_frame _).mono rfl)

theorem Blk.fairRoll_same (h : b.epochNo = b.clk.epoch) : b.fairRoll = b := if_pos h

/-- A new epoch's level of fair admission (08 R221), and nothing offered in it yet. -/
theorem Blk.fairRoll_new (h : b.epochNo ≠ b.clk.epoch) : let l := b.clk.offered.map (·.2)
    ∃ f, b.fairRoll.clk = { b.clk with epoch := b.epochNo, offered := [], admitted := [], fair := f
                                       shedding := !b.underQuota l l.sum && decide (b.epochNo = b.clk.epoch + 1) } := by
  intro l
  rw [Blk.fairRoll, if_neg h]
  extract_lets next d shed f c
  refine ⟨f, ?_⟩
  split <;> rfl

/-! ### The exception ring -/

/-- The oldest frame held for the exception ring has been written to the oldest buffer. -/
def Blk.excWritten (b : Blk) (e : ExcF) (rest : List ExcF) (d : Desc) : Blk :=
  (Blk.put { b with clk := { b.clk with exc := rest } } (.hostWrite (b.ringOwner (b.rd R.CLK_EXC_RING)) (leAt d.data 8 8) (e.data.take (leAt d.data 16 2)))).inc
    C.CLK_EXC_FRAMES

theorem Blk.excDeliver_delivers {e : ExcF} {rest : List ExcF} {d : Desc} {more : List Desc} (hexc : b.clk.exc = e :: rest)
    (hbuf : b.rxBufs = d :: more) : b.excDeliver = (b.excWritten e rest d).completeX ⟨b.rd R.CLK_EXC_RING, d.id⟩ stOk
      (excResult e ((e.t2 : Int) + (b.ins.stepSum - e.steps)).toNat (leAt d.data 16 2)) (b.ins.stepSum - e.steps != 0) := by
  simp only [Blk.excDeliver, hexc, hbuf]; rfl

theorem Blk.excDeliver_idle (h : b.clk.exc = [] ∨ b.rxBufs = []) : b.excDeliver = b := by
  unfold Blk.excDeliver
  split
  · next hexc hbuf => simp [hexc, hbuf] at h
  · rfl

end

/-- Settles O49: each clause is the case of its command that applies. -/
theorem requestsDispatched : Obligations.RequestsDispatched := by
  intro s w b heads
  refine ⟨fun k x l h => ?reseal, fun r rest g r1 i l hnone hheads hres hbench hlane => ?assign, fun hnone hheads => ?none, ?shed,
    fun hfresh => ?fresh, fun h => ?epoch, fun h => ?sameEpoch, fun e rest d more hexc hbuf => ?deliver, fun h => ?noDelivery⟩
  case reseal =>
    have hnts : b.dispatch.nts = (b.setCtx k { x with ready := none }).nts :=
      Blk.dispatch_reseal h ▸ (Blk.place_frame ..).same .nts rfl
    exact ⟨b.dispatch, rfl, .of_pieceBits (Blk.dispatch_reseal h ▸ Blk.placed_frame ..) rfl,
      Blk.dispatch_reseal h ▸ Blk.place_invAt? _, (Blk.ctxAt?_congr hnts k).trans (Blk.ctxAt?_setCtx ..),
      Blk.dispatch_reseal h ▸ Blk.place_reqs _⟩
  case assign =>
    have hassigned : b.dispatch = g.assign r1 i l := by
      rw [Blk.dispatch_heads hnone, show b.freshHeads = r :: rest from hheads, Blk.tryHeads_assigned hres hbench hlane]
    exact ⟨b.dispatch, rfl, .of_pieceBits (Blk.dispatch_frame b) rfl, hassigned, hassigned ▸ g.assign_invAt? r1 i l,
      hassigned ▸ g.assign_reqs r1 i l⟩
  case none =>
    exact answers_idle (u := b.dispatch) rfl (by rw [Blk.dispatch_heads hnone, show b.freshHeads = [] from hheads]; rfl)
  case shed =>
    have hclk : b.ageShed.txRetry.clk = b.ageShed.clk := (Blk.txRetry_frame _).same .clk rfl
    exact ⟨_, rfl, .of_pieceBits Blk.ageShed_txRetry_frame rfl,
      (congrArg Clk.reqs hclk).trans Blk.ageShed_reqs⟩
  case fresh =>
    exact ⟨_, rfl, .of_pieceBits Blk.ageShed_txRetry_frame rfl,
      congrArg Blk.txRetry (Blk.ageShed_none hfresh)⟩
  case epoch =>
    obtain ⟨f, hclk⟩ := Blk.fairRoll_new h
    refine ⟨b.fairRoll, rfl, .of_pieceBits (Blk.fairRoll_frame b) rfl, ?_⟩
    exact ⟨congrArg Clk.epoch hclk, congrArg Clk.offered hclk, congrArg Clk.admitted hclk, (congrArg Clk.reqs hclk :),
      congrArg Clk.shedding hclk⟩
  case sameEpoch => exact answers_idle (u := b.fairRoll) rfl (Blk.fairRoll_same h)
  case deliver =>
    have hdelivers := Blk.excDeliver_delivers hexc hbuf
    have hclk : b.excDeliver.clk = (b.excWritten e rest d).clk := hdelivers ▸ (Blk.completeX_frame ..).same .clk rfl
    exact ⟨b.excDeliver, rfl, .of_pieceBits (Blk.excDeliver_frame b) rfl, congrArg Clk.exc hclk, b.excWritten e rest d, rfl, hdelivers⟩
  case noDelivery => exact answers_idle (u := b.excDeliver) rfl (Blk.excDeliver_idle h)

end Sys2Proof.Machine
end

section
/-! Invocations: they start, decide, return, or are stopped (08 R199, R207 to R211, 09 R256, 13 R355, 15 R403). -/

namespace Sys2Proof.Machine

/-! ### What counting leaves -/

/-- Nothing but counters differs. -/
def Blk.CountsOnly (b c : Blk) : Prop := ∃ ctr pmc, c = { b with ctr := ctr, pmc := pmc }

theorem Blk.CountsOnly.refl (b : Blk) : Blk.CountsOnly b b := ⟨b.ctr, b.pmc, rfl⟩

theorem Blk.CountsOnly.inc {b c : Blk} (h : Blk.CountsOnly b c) (k : Nat) : Blk.CountsOnly b (c.inc k) := by
  obtain ⟨_, _, rfl⟩ := h
  exact ⟨_, _, rfl⟩

theorem Blk.CountsOnly.pmcEvent {b c : Blk} (h : Blk.CountsOnly b c) (ev inst n : Nat) : Blk.CountsOnly b (c.pmcEvent ev inst n) := by
  obtain ⟨_, _, rfl⟩ := h
  unfold Blk.pmcEvent
  split
  · exact ⟨_, _, rfl⟩
  · exact ⟨_, _, rfl⟩

theorem Blk.CountsOnly.leaseNow {b c : Blk} (h : Blk.CountsOnly b c) : c.leaseNow = b.leaseNow := by
  obtain ⟨_, _, rfl⟩ := h
  rfl

theorem Blk.CountsOnly.serves {b c : Blk} (h : Blk.CountsOnly b c) (p : Nat) : c.servesNtp (c.nearLoop p) = b.servesNtp (b.nearLoop p) := by
  obtain ⟨_, _, rfl⟩ := h
  rfl

theorem Blk.CountsOnly.ctxAt? {b c : Blk} (h : Blk.CountsOnly b c) (k : Nat) : c.ctxAt? k = b.ctxAt? k := by
  obtain ⟨_, _, rfl⟩ := h
  rfl

theorem Blk.inc_invAt? (b : Blk) (k lane : Nat) : (b.inc k).invAt? lane = b.invAt? lane := rfl

/-! ### What the waiting TX_FRAMEs leave -/

theorem Blk.txRetry_invAt? (b : Blk) (lane : Nat) : b.txRetry.invAt? lane = b.invAt? lane :=
  Blk.invAt?_congr ((Blk.txRetry_frame b).same .eng rfl) lane

theorem Blk.txRetry_ctxAt? (b : Blk) (k : Nat) : b.txRetry.ctxAt? k = b.ctxAt? k :=
  Blk.ctxAt?_congr ((Blk.txRetry_frame b).same .nts rfl) k

/-! ### An invocation starts -/

section
variable {b : Blk} {lane : Nat} {v : Inv}

/-- An invocation that will decide has been counted. -/
def Blk.invoked (b : Blk) (lane : Nat) (v : Inv) : Blk :=
  let c := (b.pmcEvent 0x22 (lane / 4) 1).inc C.ENG_INVOKE
  ((if v.entry = 1 then c.inc C.NTS_REQ else c).pmcEvent 0x40 0 1).pmcEvent 0x42 0 1

theorem Blk.invoked_counts (b : Blk) (lane : Nat) (v : Inv) : Blk.CountsOnly b (b.invoked lane v) := by
  have hinvoke : Blk.CountsOnly b ((b.pmcEvent 0x22 (lane / 4) 1).inc C.ENG_INVOKE) := ((Blk.CountsOnly.refl b).pmcEvent ..).inc _
  unfold Blk.invoked
  split
  · exact ((hinvoke.inc _).pmcEvent ..).pmcEvent ..
  · exact (hinvoke.pmcEvent ..).pmcEvent ..

theorem Blk.invoke_idle (hat : b.invAt? lane = some v) (h : v.started = true ∨ v.lockWait = true) (hit : Bool) : b.invoke lane hit = b := by
  simp only [Blk.invoke, hat]
  exact if_pos (Bool.or_eq_true_iff.mpr h)

section
variable (hat : b.invAt? lane = some v) (hstart : v.started = false) (hlock : v.lockWait = false)
include hat hstart hlock

/-- An entry point that is 0 sends the request to the exception ring (08 R207). -/
theorem Blk.invoke_noEntry (h : bitOf (b.setOf (lane / 64)).entries v.entry = false) (hit : Bool) :
    b.invoke lane hit = b.invExcept lane v excPattern := by
  simp [Blk.invoke, hat, hstart, hlock, h]

variable (hentry : bitOf (b.setOf (lane / 64)).entries v.entry = true)
include hentry

theorem Blk.invoke_hit (h : v.entry ≠ 2) : b.invoke lane true =
    ((b.invoked lane v).inc C.CLK_CACHE_HIT).decideReq lane { v with started := true, startUp := b.leaseNow } := by
  rw [← (b.invoked_counts lane v).leaseNow]
  simp only [Blk.invoke, hat, hstart, hlock, hentry, if_neg h]; rfl

theorem Blk.invoke_miss (h : v.entry ≠ 2) : b.invoke lane false =
    ((b.invoked lane v).setInv lane { v with started := true, startUp := b.leaseNow, storeWait := true }).inc C.CLK_CACHE_MISS := by
  rw [← (b.invoked_counts lane v).leaseNow]
  simp only [Blk.invoke, hat, hstart, hlock, hentry, if_neg h]; rfl

theorem Blk.invoke_reseal (h : v.entry = 2) (hit : Bool) :
    b.invoke lane hit = (b.pmcEvent 0x22 (lane / 4) 1).relaunchStart lane v := by
  simp only [Blk.invoke, hat, hstart, hlock, hentry, if_pos h]; rfl

end

/-- A decision is noted in the invocation. -/
theorem Blk.decideReq_invAt? (b : Blk) (lane : Nat) (v : Inv) : ∃ plan wb,
    (b.decideReq lane v).invAt? lane = some { v with started := true, storeWait := false, plan := some plan, wb := wb } :=
  ⟨_, _, Blk.invAt?_setInv ..⟩

/-- A re-seal in a mode that serves NTS (09 R256). -/
theorem Blk.relaunchStart_serves {k : Nat} {x : Ctx} (hserves : b.servesNtp (b.nearLoop v.req.port) = true) (hctx : v.ctx = some k)
    (hx : b.ctxAt? k = some x) : b.relaunchStart lane v =
      (((b.inc C.ENG_INVOKE).setInv lane { v with started := true, startUp := b.leaseNow, plan := some .serve }).setCtx k
        { x with reseals := x.reseals + 1, missed := none }).inc C.NTS_RESEAL := by
  have hserves' : (b.inc C.ENG_INVOKE).servesNtp ((b.inc C.ENG_INVOKE).nearLoop v.req.port) = true := hserves
  have hx' (y : Inv) : ((b.inc C.ENG_INVOKE).setInv lane y).ctxAt? k = some x := hx
  simp only [Blk.relaunchStart, hserves', if_true, hctx, hx']; rfl

/-! ### An invocation returns -/

section
variable (hat : b.invAt? lane = some v) (hstart : v.started = true) (hself : v.self = false)
include hat hstart hself

theorem Blk.patReturn_planned {code : Nat} {p : Plan} (hcode : planned code = true) (hplan : v.plan = some p) (instr : Nat) (scratch : Bytes) :
    b.patReturn lane code instr scratch = ((b.pmcEvent 0x20 (lane / 4) instr).planReturn lane v p).selfSync := by
  have hne : code ≠ 0x20 := fun h => absurd (h ▸ hcode) (by decide)
  simp [Blk.patReturn, hat, hstart, hself, hne, hcode, hplan]

theorem Blk.patReturn_except {code : Nat} (hcode : code = 0x20) (instr : Nat) (scratch : Bytes) :
    b.patReturn lane code instr scratch = ((b.pmcEvent 0x20 (lane / 4) instr).inc C.ENG_EXCEPT).invExcept lane v excPattern := by
  simp [Blk.patReturn, hat, hstart, hself, hcode]

theorem Blk.patReturn_fault {code : Nat} (hcode : planned code = false) (hne : code ≠ 0x20) (instr : Nat) (scratch : Bytes) :
    b.patReturn lane code instr scratch = ((b.pmcEvent 0x20 (lane / 4) instr).invFault lane v).selfSync := by
  simp [Blk.patReturn, hat, hstart, hself, hne, hcode]

/-! ### An invocation is stopped -/

theorem Blk.overrunAt_stops {instr : Nat} (hentry : v.entry ≠ 2) (h : clampN 256 4095 (b.rd R.ENG_CTRL_LIMIT) < instr) (scratch : Bytes) :
    b.overrunAt lane instr scratch =
      (((b.inc C.ENG_OVERRUN).pmcEvent 0x20 (lane / 4) instr).invExcept lane v excOverrun).raise 0x13 (lane / 4) 0 := by
  simp [Blk.overrunAt, hat, hstart, hself, hentry, Nat.not_le.mpr h]

end

section
variable (hat : b.invAt? lane = some v)
include hat

theorem Blk.overrunAt_within {instr : Nat} (h : instr ≤ clampN 256 4095 (b.rd R.ENG_CTRL_LIMIT)) (scratch : Bytes) :
    b.overrunAt lane instr scratch = b := by
  simp [Blk.overrunAt, hat, h]

theorem Blk.leaseExpire_revokes {k : Nat} (hbucket : v.bucket = some k) (hheld : b.lockHolder k = some lane)
    (h : v.lockFrom + usU 4 ≤ b.leaseNow) : b.leaseExpire lane = ((b.raise 0x14 (lane / 4) 0).invDiscard lane).selfSync := by
  simp only [Blk.leaseExpire, hat, hbucket]
  exact if_pos ⟨hheld, h⟩

theorem Blk.leaseExpire_none (hbucket : v.bucket = none) : b.leaseExpire lane = b := by
  simp only [Blk.leaseExpire, hat, hbucket]

theorem Blk.storeTimeout_ends (hstart : v.started = true) (hwait : v.storeWait = true)
    (h : v.startUp + usU (atLeast1 (b.rd R.FLC_LIMIT_STORE_TMO_US)) ≤ b.leaseNow) :
    b.storeTimeout lane = (((b.inc C.FLC_STORE_TMO).invFault lane v).raise 0x15 0x59 0).selfSync := by
  simp [Blk.storeTimeout, hat, hstart, hwait, h]

theorem Blk.storeTimeout_none (hwait : v.storeWait = false) : b.storeTimeout lane = b := by
  simp [Blk.storeTimeout, hat, hwait]

end

end

/-! ### The commands -/

section
variable {s : State} {w lane : Nat}

theorem answers_engineInvoke {hit : Bool} {P : Blk → Prop} (h : P ((s.blk.pass w).invoke lane hit).txRetry) :
    Answers (.engineInvoke w lane hit) s (touches (.engineInvoke w lane hit)) P := by
  have hframe : FrameM 0x4f8290038 (s.blk.pass w) ((s.blk.pass w).invoke lane hit).txRetry :=
    ((Blk.invoke_frame ..).mono rfl).trans ((Blk.txRetry_frame _).mono rfl)
  exact ⟨_, rfl, .of_pieceBits hframe rfl, h⟩

theorem answers_resealStart {v : Inv} {P : Blk → Prop} (hat : (s.blk.pass w).invAt? lane = some v) (hentry : v.entry = 2)
    (h : P ((s.blk.pass w).invoke lane true).txRetry) : Answers (.resealStart w lane) s (touches (.resealStart w lane)) P := by
  have hexec : exec (.resealStart w lane) s = .next { s with blk := Blk.settle s.blk ((s.blk.pass w).invoke lane true).txRetry } := by
    change execResealStart w lane s = _
    simp only [execResealStart, State.upd, hat, if_pos hentry]
  have hframe : FrameM 0x4f8290038 (s.blk.pass w) ((s.blk.pass w).invoke lane true).txRetry :=
    ((Blk.invoke_frame ..).mono rfl).trans ((Blk.txRetry_frame _).mono rfl)
  exact ⟨_, hexec, .of_pieceBits hframe rfl, h⟩

/-- A command that answers `u` and then serves the waiting TX_FRAMEs, of those whose row in `touches` is that of the error machinery. -/
theorem answers_stopping {c : Instr} {x u : Blk} (hexec : exec c s = .next { s with blk := Blk.settle s.blk x.txRetry })
    (hframe : FrameM 0x7fc7fbfbc (s.blk.pass c.wait) x) (hc : pieceBits (touches c) = 0x7fc7fbfbc) (he : x = u) :
    Answers c s (touches c) fun y => y = u.txRetry :=
  ⟨_, hexec, .of_pieceBits (hframe.trans ((Blk.txRetry_frame x).mono rfl)) hc, congrArg Blk.txRetry he⟩

theorem exec_bucketArrive_of_inv {v : Inv} (hat : (s.blk.pass w).invAt? lane = some v) :
    exec (.bucketArrive w lane) s
      = .next { s with blk := Blk.settle s.blk (if v.storeWait then (s.blk.pass w).decideReq lane v else s.blk.pass w) } := by
  change execBucketArrive w lane s = _
  simp only [execBucketArrive, State.upd, hat]

end

/-- Settles O50: each clause is the case of its command that applies to the invocation on the Lane. -/
theorem invocationsRun : Obligations.InvocationsRun := by
  intro s w lane code instr scratch v b has n hat
  refine ⟨fun hstart hlock => ⟨fun hno hit => ?noEntry, fun hhas hentry => ?hit, fun hhas hentry => ?miss,
      fun k x hhas hentry hctx hx hserves => ?reseal⟩, fun h hit => ?idle, fun hwait => ?arrives, fun hwait => ?arriveIdle,
    fun hstart hself => ⟨fun p hcode hplan => ?planned, fun hcode => ?except, fun hcode hne => ?fault⟩,
    fun hstart hself hentry h => ?overrun, fun h => ?within, fun k hbucket hheld h => ?lease, fun hbucket => ?noBucket,
    fun hstart hwait h => ?store, fun hwait => ?noStore⟩
  case noEntry => exact answers_engineInvoke (congrArg Blk.txRetry (Blk.invoke_noEntry hat hstart hlock hno hit))
  case hit =>
    obtain ⟨plan, wb, hv⟩ := Blk.decideReq_invAt? ((b.invoked lane v).inc C.CLK_CACHE_HIT) lane
      { v with started := true, startUp := b.leaseNow }
    rw [← Blk.invoke_hit hat hstart hlock hhas hentry] at hv
    exact answers_engineInvoke ⟨_, (Blk.txRetry_invAt? ..).trans hv, rfl, rfl, rfl, rfl, rfl⟩
  case miss =>
    refine answers_engineInvoke ((Blk.txRetry_invAt? ..).trans ?_)
    rw [Blk.invoke_miss hat hstart hlock hhas hentry, Blk.inc_invAt?, Blk.invAt?_setInv]
  case reseal =>
    have hcounts : Blk.CountsOnly b (b.pmcEvent 0x22 (lane / 4) 1) := (Blk.CountsOnly.refl b).pmcEvent ..
    have hreseal := (Blk.invoke_reseal hat hstart hlock hhas hentry true).trans
      (Blk.relaunchStart_serves (lane := lane) ((hcounts.serves _).trans hserves) hctx ((hcounts.ctxAt? k).trans hx))
    rw [hcounts.leaseNow] at hreseal
    refine answers_resealStart hat hentry ⟨(Blk.txRetry_invAt? ..).trans ?_, (Blk.txRetry_ctxAt? ..).trans ?_⟩
    · rw [hreseal]; exact Blk.invAt?_setInv ..
    · rw [hreseal]; exact Blk.ctxAt?_setCtx ..
  case idle => exact answers_engineInvoke (congrArg Blk.txRetry (Blk.invoke_idle hat h hit))
  case arrives =>
    obtain ⟨plan, wb, hv⟩ := Blk.decideReq_invAt? b lane v
    exact ⟨b.decideReq lane v, (exec_bucketArrive_of_inv hat).trans (by rw [if_pos hwait]), .of_pieceBits (Blk.decideReq_frame ..) rfl,
      _, hv, rfl, rfl, rfl, rfl⟩
  case arriveIdle => exact answers_idle (exec_bucketArrive_of_inv hat) (if_neg (Bool.eq_false_iff.mp hwait))
  case planned => exact answers_stopping rfl (Blk.patReturn_frame ..) rfl (Blk.patReturn_planned hat hstart hself hcode hplan instr scratch)
  case except => exact answers_stopping rfl (Blk.patReturn_frame ..) rfl (Blk.patReturn_except hat hstart hself hcode instr scratch)
  case fault => exact answers_stopping rfl (Blk.patReturn_frame ..) rfl (Blk.patReturn_fault hat hstart hself hcode hne instr scratch)
  case overrun => exact answers_stopping rfl (Blk.overrunAt_frame ..) rfl (Blk.overrunAt_stops hat hstart hself hentry h scratch)
  case within => exact answers_stopping rfl (Blk.overrunAt_frame ..) rfl (Blk.overrunAt_within hat h scratch)
  case lease => exact answers_stopping rfl (Blk.leaseExpire_frame ..) rfl (Blk.leaseExpire_revokes hat hbucket hheld h)
  case noBucket => exact answers_stopping rfl (Blk.leaseExpire_frame ..) rfl (Blk.leaseExpire_none hat hbucket)
  case store => exact answers_stopping rfl (Blk.storeTimeout_frame ..) rfl (Blk.storeTimeout_ends hat hstart hwait h)
  case noStore => exact answers_stopping rfl (Blk.storeTimeout_frame ..) rfl (Blk.storeTimeout_none hat hwait)

end Sys2Proof.Machine
end

section
/-! CLIENT_TABLE_OP on one row: what it does with its bucket free, and its wait (08 R198 to R205, R211, 13 R359). -/

namespace Sys2Proof.Machine

/-! ### The descriptor that has begun -/

theorem Blk.beginDesc_data {b : Blk} {r : Nat} {d : Desc} (h : b.desc? ⟨r, d.id⟩ = some d) :
    ((b.beginDesc r d).desc? ⟨r, d.id⟩).map Desc.data = some d.data := by
  have hsame : ((fun e : Desc => e.id == d.id) ∘ fun e => if e.id = d.id then { e with begun := true } else e) = fun e => e.id == d.id := by
    funext e; simp only [Function.comp_apply]; split <;> rfl
  rw [Blk.desc?] at h
  simp only [Blk.desc?, Blk.beginDesc, Blk.ringOf_setRing, if_true, List.find?_map, hsame, h, Option.map_some]

/-! ### Buckets -/

theorem Blk.bucketAt_congr {a b : Blk} (h : a.ct = b.ct) (i : Nat) : a.bucketAt i = b.bucketAt i := by
  rw [Blk.bucketAt, Blk.bucketAt, h]

theorem Blk.bucketAt_setBucket (b : Blk) (i j : Nat) (k : Bucket) : (b.setBucket i k).bucketAt j = if j = i then k else b.bucketAt j :=
  tget_tput ..

/-! ### The operation asks for its bucket -/

section
variable {b : Blk} {ref : DRef} {d : Bytes}

theorem Blk.ctRowOp_malformed (hbad : ctBad d = true) : b.ctRowOp ref d = b.complete ref stMalformed [] := if_pos hbad

section
variable (hbad : ctBad d = false)
include hbad

theorem Blk.ctRowOp_denied (hden : b.ctDenied d = true) : b.ctRowOp ref d = b.complete ref stDenied [] := by
  simp [Blk.ctRowOp, hbad, hden]

variable (hden : b.ctDenied d = false)
include hden

theorem Blk.ctRowOp_free (hfree : b.lockHolder (b.bucketOf (ctOpKey d).2) = none) : b.ctRowOp ref d = b.ctOpNow ref := by
  simp [Blk.ctRowOp, Blk.ctOpAsk, hbad, hden, hfree]

/-- The operation waits for its bucket, and has not begun. -/
def Blk.opWaits (b : Blk) (ref : DRef) (bkt : Nat) : Blk :=
  { b.setBegun ref false with ct := { b.ct with waits := b.ct.waits ++ [(bkt, .op ref b.up)] } }

theorem Blk.ctRowOp_waits {holder : Nat} (hheld : b.lockHolder (b.bucketOf (ctOpKey d).2) = some holder)
    (hesc : b.escalated ref.ring 0x30 = false) : b.ctRowOp ref d = b.opWaits ref (b.bucketOf (ctOpKey d).2) := by
  have hheld' : (b.setBegun ref false).lockHolder (b.bucketOf (ctOpKey d).2) = some holder := hheld
  have hesc' : (b.setBegun ref false).escalated ref.ring 0x30 = false := hesc
  simp only [Blk.ctRowOp, Blk.ctOpAsk, hbad, hden, hheld, hheld', hesc', Option.isNone_some, Bool.false_eq_true, if_false]
  rfl

end

/-! ### The operation holds its bucket -/

section
variable (hbad : ctBad d = false) (hden : b.ctDenied d = false) (hfree : b.lockHolder (b.bucketOf (ctOpKey d).2) = none)
  (h : (b.desc? ref).map Desc.data = some d)
include hbad hden hfree h

theorem Blk.ctRowOp_lookup (hsub : subOp d = 1) : b.ctRowOp ref d = b.ctLookupNow ref d := by
  obtain ⟨x, hx, rfl⟩ := Option.map_eq_some_iff.mp h
  rw [Blk.ctRowOp_free hbad hden hfree]
  rw [subOp] at hsub
  simp only [Blk.ctOpNow, hx, hsub]

theorem Blk.ctRowOp_upsert (hsub : subOp d = 2) : b.ctRowOp ref d = b.ctUpsertNow ref d := by
  obtain ⟨x, hx, rfl⟩ := Option.map_eq_some_iff.mp h
  rw [Blk.ctRowOp_free hbad hden hfree]
  rw [subOp] at hsub
  simp only [Blk.ctOpNow, hx, hsub]

theorem Blk.ctRowOp_delete (hsub : subOp d = 3) : b.ctRowOp ref d = b.ctDeleteNow ref d := by
  obtain ⟨x, hx, rfl⟩ := Option.map_eq_some_iff.mp h
  rw [Blk.ctRowOp_free hbad hden hfree]
  rw [subOp] at hsub
  simp only [Blk.ctOpNow, hx, hsub]

theorem Blk.ctRowOp_reset (hsub : subOp d = 4) : b.ctRowOp ref d = b.ctResetNow ref d := by
  obtain ⟨x, hx, rfl⟩ := Option.map_eq_some_iff.mp h
  rw [Blk.ctRowOp_free hbad hden hfree]
  rw [subOp] at hsub
  simp only [Blk.ctOpNow, hx, hsub]

end

/-- The bucket that the key of an operation lies in. -/
def Blk.opBucket (b : Blk) (d : Bytes) : Bucket := b.bucketAt (b.bucketOf (ctOpKey d).2)

/-- A row of that bucket is set. -/
def Blk.rowSet (b : Blk) (d : Bytes) (i : Nat) (x : Row) : Blk := b.setBucket (b.bucketOf (ctOpKey d).2) (putRow (b.opBucket d) i x)

section
variable {i : Nat} (hfind : findRow (b.opBucket d) (ctOpKey d).1 (ctOpKey d).2 = some i)
include hfind

theorem Blk.ctLookupNow_found : b.ctLookupNow ref d =
    (b.put (.hostWrite (b.ringOwner ref.ring) (leAt d 24 8) (rowBytes (rowAt (b.opBucket d) i)))).complete ref stOk [] := by
  rw [Blk.opBucket] at hfind
  simp only [Blk.ctLookupNow, hfind]; rfl

theorem Blk.ctUpsertNow_found :
    b.ctUpsertNow ref d = (b.rowSet d i (ctUpsertRow d (rowAt (b.opBucket d) i))).complete ref stOk [] := by
  rw [Blk.opBucket] at hfind
  simp only [Blk.ctUpsertNow, hfind]; rfl

theorem Blk.ctDeleteNow_found : b.ctDeleteNow ref d = (b.rowSet d i {}).complete ref stOk [] := by
  rw [Blk.opBucket] at hfind
  simp only [Blk.ctDeleteNow, hfind]; rfl

theorem Blk.ctResetNow_found : b.ctResetNow ref d =
    (b.rowSet d i { rowAt (b.opBucket d) i with served := 0, limited := 0, kodCnt := 0 }).complete ref stOk [] := by
  rw [Blk.opBucket] at hfind
  simp only [Blk.ctResetNow, hfind]; rfl

end

/-- A row has been made in a place of its bucket: the counters of R201, and the match of the access list. -/
def Blk.rowMade (b : Blk) (d : Bytes) (i : Nat) : Blk :=
  let k := ctOpKey d
  let c := (b.rowSet d i (ctUpsertRow d (b.newRow k.1 k.2 (now16 b.ins.now)))).inc C.CLK_CT_INSERT
  (if (rowAt (b.opBucket d) i).valid then c.inc C.CLK_CT_EVICT else c).aclCount (b.aclMatch k.1 k.2)

section
variable (hnone : findRow (b.opBucket d) (ctOpKey d).1 (ctOpKey d).2 = none)
include hnone

theorem Blk.ctLookupNow_missing : b.ctLookupNow ref d =
    (b.put (.hostWrite (b.ringOwner ref.ring) (leAt d 24 8)
      (rowBytes { valid := false, v6 := (ctOpKey d).1, key := leNat (ctOpKey d).2 }))).complete ref stOk [] := by
  rw [Blk.opBucket] at hnone
  simp only [Blk.ctLookupNow, hnone]

theorem Blk.ctUpsertNow_full (hv : victim (b.opBucket d) (now16 b.ins.now) = none) :
    b.ctUpsertNow ref d = b.complete ref stDenied [] := by
  rw [Blk.opBucket] at hnone hv
  simp only [Blk.ctUpsertNow, hnone, hv]

theorem Blk.ctUpsertNow_makes {i : Nat} (hv : victim (b.opBucket d) (now16 b.ins.now) = some i) :
    b.ctUpsertNow ref d = (b.rowMade d i).complete ref stOk [] := by
  rw [Blk.opBucket] at hnone hv
  simp only [Blk.ctUpsertNow, hnone, hv]; rfl

theorem Blk.ctDeleteNow_missing : b.ctDeleteNow ref d = b.complete ref stOk [] := by
  rw [Blk.opBucket] at hnone
  simp only [Blk.ctDeleteNow, hnone]

theorem Blk.ctResetNow_missing : b.ctResetNow ref d = b.complete ref stOk [] := by
  rw [Blk.opBucket] at hnone
  simp only [Blk.ctResetNow, hnone]

end

theorem Blk.rowSet_frame (i : Nat) (x : Row) : FrameM 0x20000000 b (b.rowSet d i x) := Blk.setBucket_frame ..

theorem Blk.rowMade_counts (i : Nat) :
    FrameM 0x30 (b.rowSet d i (ctUpsertRow d (b.newRow (ctOpKey d).1 (ctOpKey d).2 (now16 b.ins.now)))) (b.rowMade d i) := by
  unfold Blk.rowMade
  refine .trans (b := if (rowAt (b.opBucket d) i).valid then _ else _) ?_ ((Blk.aclCount_frame ..).mono rfl)
  split
  · exact ((Blk.inc_frame ..).trans (Blk.inc_frame ..)).mono rfl
  · exact (Blk.inc_frame ..).mono rfl

theorem Blk.rowMade_frame (i : Nat) : FrameM 0x20000030 b (b.rowMade d i) :=
  ((Blk.rowSet_frame ..).mono rfl).trans ((Blk.rowMade_counts i).mono rfl)

end

/-! ### The wait ends after 8 µs -/

theorem Blk.lockTimeout_ct (b : Blk) : b.lockTimeout.ct = { b.ct with waits := b.ct.waits.filter fun e =>
    match e.2 with | .op ref _ => !(b.lockLate.map (·.2)).contains ref | .lane _ => true } := by
  have hbusy (a : Blk) (ref : DRef) : (a.completeBusy ref).ct = a.ct := (Blk.completeBusy_frame ..).same .ct rfl
  refine (foldl_keeps (v := fun a : Blk => a.ct) (fun a ref _ => hbusy a ref) _).trans ?_
  have hstay : (fun e : Nat × Waiter => !(match e.2 with | .op ref _ => (b.lockLate.map (·.2)).contains ref | .lane _ => false))
      = fun e => match e.2 with | .op ref _ => !(b.lockLate.map (·.2)).contains ref | .lane _ => true := by
    funext ⟨_, x⟩
    cases x <;> rfl
  exact congrArg (fun p => { b.ct with waits := b.ct.waits.filter p }) hstay

/-! ### The command -/

section
variable {s : State} {w r : Nat} {d : Desc} {b : Blk}

/-- A CLIENT_TABLE_OP does its work on the block with its descriptor begun. -/
theorem exec_ctRow {c : Instr} {sub : Nat} (hexec : exec c s = s.upd c.wait fun _ b => b.ctRow r sub)
    (h : Ready (s.blk.pass c.wait) r d 0x30) (hsub : subOp d.data = sub) :
    exec c s = .next { s with blk := Blk.settle s.blk (((s.blk.pass c.wait).beginDesc r d).ctRowOp ⟨r, d.id⟩ d.data) } :=
  exec_of_ready hexec h (beq_iff_eq.mpr hsub)

theorem exec_ctLookup (h : Ready (s.blk.pass w) r d 0x30) (hsub : subOp d.data = 1) :
    exec (.ctLookup w r) s = .next { s with blk := Blk.settle s.blk (((s.blk.pass w).beginDesc r d).ctRowOp ⟨r, d.id⟩ d.data) } :=
  exec_of_ready (c := .ctLookup w r) (f := fun ref d b => b.ctRowOp ref d) (p := fun x => subOp x == 1 || subOp x == 0 || decide (6 < subOp x)) rfl h
    (by rw [hsub]; rfl)

/-- A descriptor that completes with one row of its bucket set. -/
theorem completes_rowSet {c : Instr} {u : Blk} {i : Nat} {x : Row} (hexec : exec c s = .next { s with blk := Blk.settle s.blk u })
    (hb : s.blk.pass c.wait = b) (he : u = ((b.beginDesc r d).rowSet d.data i x).complete ⟨r, d.id⟩ stOk []) :
    Completes c s r d stOk [] [.ct] fun g => g.bucketAt (b.bucketOf (ctOpKey d.data).2) = putRow (b.opBucket d.data) i x
      ∧ ∀ j, j ≠ b.bucketOf (ctOpKey d.data).2 → g.bucketAt j = b.bucketAt j := by
  subst hb
  exact completes_of hexec he (.of (Blk.rowSet_frame ..) rfl) rfl
    ⟨(Blk.bucketAt_setBucket ..).trans (if_pos rfl), fun j hj => (Blk.bucketAt_setBucket ..).trans (if_neg hj)⟩

end

/-- Settles O51: each clause is the sub-operation that acts, on the row that its key finds or misses, or its wait. -/
theorem clientTableOperations : Obligations.ClientTableOperations := by
  intro s w r d b c k at_ bkt now
  refine ⟨fun h hdesc => ⟨fun hsub hbad => ?malformed, fun hsub hm hbad => ?denied, fun hbad hden hfree =>
      ⟨fun hsub => ⟨fun i hfind => ?lookup, fun hnone => ?lookupMissing⟩,
        fun hsub => ⟨fun i hfind => ?upsert, fun hnone hv => ?upsertFull, fun i hnone hv => ?upsertMakes⟩,
        fun hsub => ⟨fun i hfind => ?delete, fun hnone => ?deleteMissing⟩,
        fun hsub => ⟨fun i hfind => ?reset, fun hnone => ?resetMissing⟩⟩,
      fun holder hsub hbad hheld hesc => ?waits⟩, ?timeout⟩
  case malformed => exact completes_only (exec_ctLookup h hsub) (Blk.ctRowOp_malformed hbad)
  case denied =>
    have hden : c.ctDenied d.data = true := by
      rw [Blk.ctDenied, show c.mode = .follower from hm, hsub]; rfl
    exact completes_only (exec_ctRow rfl h hsub) (Blk.ctRowOp_denied hbad hden)
  case lookup =>
    have hdone := Blk.ctRowOp_lookup (b := c) hbad hden hfree (Blk.beginDesc_data hdesc) hsub
    exact completes_of (exec_ctLookup h hsub) (hdone.trans (Blk.ctLookupNow_found hfind)) (.of (Blk.put_frame ..) rfl) rfl rfl
  case lookupMissing =>
    have hdone := Blk.ctRowOp_lookup (b := c) hbad hden hfree (Blk.beginDesc_data hdesc) hsub
    exact completes_of (exec_ctLookup h hsub) (hdone.trans (Blk.ctLookupNow_missing hnone)) (.of (Blk.put_frame ..) rfl) rfl rfl
  case upsert =>
    have hdone := Blk.ctRowOp_upsert (b := c) hbad hden hfree (Blk.beginDesc_data hdesc) hsub
    exact completes_rowSet (exec_ctRow rfl h hsub) rfl (hdone.trans (Blk.ctUpsertNow_found hfind))
  case upsertFull =>
    have hdone := Blk.ctRowOp_upsert (b := c) hbad hden hfree (Blk.beginDesc_data hdesc) hsub
    exact completes_only (exec_ctRow rfl h hsub) (hdone.trans (Blk.ctUpsertNow_full hnone hv))
  case upsertMakes =>
    have hdone := Blk.ctRowOp_upsert (b := c) hbad hden hfree (Blk.beginDesc_data hdesc) hsub
    have hct := (Blk.rowMade_counts (b := c) (d := d.data) i).same .ct rfl
    exact completes_of (exec_ctRow rfl h hsub) (hdone.trans (Blk.ctUpsertNow_makes (b := c) hnone hv)) (.of (Blk.rowMade_frame i) rfl) rfl
      ⟨(Blk.bucketAt_congr hct at_).trans ((Blk.bucketAt_setBucket ..).trans (if_pos rfl)),
        fun j hj => (Blk.bucketAt_congr hct j).trans ((Blk.bucketAt_setBucket ..).trans (if_neg hj))⟩
  case delete =>
    have hdone := Blk.ctRowOp_delete (b := c) hbad hden hfree (Blk.beginDesc_data hdesc) hsub
    exact completes_rowSet (exec_ctRow rfl h hsub) rfl (hdone.trans (Blk.ctDeleteNow_found hfind))
  case deleteMissing =>
    have hdone := Blk.ctRowOp_delete (b := c) hbad hden hfree (Blk.beginDesc_data hdesc) hsub
    exact completes_only (exec_ctRow rfl h hsub) (hdone.trans (Blk.ctDeleteNow_missing hnone))
  case reset =>
    have hdone := Blk.ctRowOp_reset (b := c) hbad hden hfree (Blk.beginDesc_data hdesc) hsub
    exact completes_rowSet (exec_ctRow rfl h hsub) rfl (hdone.trans (Blk.ctResetNow_found hfind))
  case resetMissing =>
    have hdone := Blk.ctRowOp_reset (b := c) hbad hden hfree (Blk.beginDesc_data hdesc) hsub
    exact completes_only (exec_ctRow rfl h hsub) (hdone.trans (Blk.ctResetNow_missing hnone))
  case waits =>
    have hden : c.ctDenied d.data = false := by
      rw [Blk.ctDenied, hsub]; exact Bool.and_false _
    have hdone := Blk.ctRowOp_waits (b := c) (ref := ⟨r, d.id⟩) hbad hden hheld hesc
    have hframe : FrameM 0x20010000 b (c.opWaits ⟨r, d.id⟩ at_) :=
      (((Blk.beginDesc_frame ..).trans (Blk.setBegun_frame ..)).mono rfl).trans ((FrameM.upd_ct _).mono rfl)
    exact ⟨_, hdone ▸ exec_ctLookup h hsub, .of hframe rfl, rfl⟩
  case timeout => exact ⟨b.lockTimeout, rfl, .of_pieceBits (Blk.lockTimeout_frame b) rfl, b.lockTimeout_ct⟩

end Sys2Proof.Machine
end

section
/-! Flushes and scans of the client table, and the record lists of CLIENT_POLICY and SERVICE_ADDR (08 R204, R205, R226, R228, 11 R308). -/

namespace Sys2Proof.Machine

/-! ### What visiting a bucket leaves -/

theorem Blk.complete_ct (b : Blk) (ref : DRef) (status : Nat) (result : Bytes) : (b.complete ref status result).ct = b.ct :=
  (Blk.complete_frame ..).same .ct rfl

/-- The client table without its rows. -/
def CTab.rowless (t : CTab) : CTab := { t with rows := [] }

theorem Blk.flushBucket_rowless (b : Blk) (i : Nat) : (b.flushBucket i).ct.rowless = b.ct.rowless := rfl

theorem Blk.scanBucket_rowless (b : Blk) (i : Nat) : (b.scanBucket i).ct.rowless = b.ct.rowless := by
  unfold Blk.scanBucket
  extract_lets age now k
  split <;> rfl

/-- The rows of bucket i that are left are PINNED. -/
def Blk.PinnedOnly (b : Blk) (i : Nat) : Prop := ∀ j, (rowAt (b.bucketAt i) j).valid = true → (rowAt (b.bucketAt i) j).pinned = true

theorem flushRow_pinned (x : Row) (h : (flushRow x).valid = true) : (flushRow x).pinned = true := by
  unfold flushRow at h ⊢
  split
  · assumption
  · next hp => rw [if_neg hp] at h; exact Bool.noConfusion h

theorem rowAt_flushed (k : Bucket) (j : Nat) : rowAt ⟨flushRow k.r0, flushRow k.r1⟩ j = flushRow (rowAt k j) := by
  unfold rowAt
  split <;> rfl

theorem Blk.flushBucket_pinned (b : Blk) (i : Nat) : (b.flushBucket i).PinnedOnly i := by
  intro j
  rw [Blk.flushBucket, Blk.bucketAt_setBucket, if_pos rfl, rowAt_flushed]
  exact flushRow_pinned _

theorem Blk.flushBucket_bucketAt_ne (b : Blk) {i j : Nat} (h : j ≠ i) : (b.flushBucket i).bucketAt j = b.bucketAt j :=
  (Blk.bucketAt_setBucket ..).trans (if_neg h)

/-- A flush leaves PINNED rows alone, and no other (08 R205). -/
theorem Blk.foldl_flushBucket_pinned {l : List Nat} {b : Blk} {i : Nat} (h : i ∈ l ∨ b.PinnedOnly i) :
    (l.foldl Blk.flushBucket b).PinnedOnly i := by
  induction l generalizing b with
  | nil => exact h.resolve_left List.not_mem_nil
  | cons x l ih =>
    refine ih ?_
    by_cases hx : i = x
    · exact .inr (hx ▸ b.flushBucket_pinned x)
    · refine h.imp (fun hm => (List.mem_cons.mp hm).resolve_left hx) fun hp => ?_
      rwa [Blk.PinnedOnly, Blk.flushBucket_bucketAt_ne b hx]

/-! ### A flush or a scan goes on, or ends -/

section
variable {b : Blk}

/-- The buckets of a list that are free now. -/
def Blk.freeOf (b : Blk) (l : List Nat) : List Nat := l.filter fun i => (b.lockHolder i).isNone

/-- Those that a Lane holds. -/
def Blk.heldOf (b : Blk) (l : List Nat) : List Nat := l.filter fun i => (b.lockHolder i).isSome

theorem Blk.heldOf_none {l : List Nat} (h : l.any (fun i => (b.lockHolder i).isSome) = false) : b.heldOf l = [] :=
  List.filter_eq_nil_iff.mpr (List.any_eq_false.mp h)

theorem Blk.heldOf_some {l : List Nat} (h : l.any (fun i => (b.lockHolder i).isSome) = true) : (b.heldOf l).isEmpty = false := by
  obtain ⟨i, hi, hheld⟩ := List.any_eq_true.mp h
  exact List.isEmpty_eq_false_iff_exists_mem.mpr ⟨i, List.mem_filter.mpr ⟨hi, hheld⟩⟩

/-- A scan has visited what was left to it and is free now. -/
def Blk.scanVisited (b : Blk) : Blk := (b.freeOf b.ct.scanLeft).foldl Blk.scanBucket b

def Blk.flushVisited (b : Blk) : Blk := (b.freeOf b.ct.flushLeft).foldl Blk.flushBucket b

theorem Blk.scanVisited_rowless : b.scanVisited.ct.rowless = b.ct.rowless :=
  foldl_keeps (v := fun a : Blk => a.ct.rowless) (fun a i _ => a.scanBucket_rowless i) b

theorem Blk.flushVisited_rowless : b.flushVisited.ct.rowless = b.ct.rowless :=
  foldl_keeps (v := fun a : Blk => a.ct.rowless) (fun a i _ => a.flushBucket_rowless i) b

/-- No scan runs. -/
def Blk.scanEnded (b : Blk) : Blk := { b with ct := { b.ct with scanBusy := false, scanRefs := [], scanLeft := [] } }

def Blk.flushEnded (b : Blk) : Blk := { b with ct := { b.ct with flushBusy := false, flushRef := none, flushLeft := [] } }

/-- What a Lane still holds is left to the scan. -/
def Blk.scanGoesOn (b : Blk) : Blk := { b.scanVisited with ct := { b.scanVisited.ct with scanLeft := b.heldOf b.ct.scanLeft } }

def Blk.flushGoesOn (b : Blk) : Blk := { b.flushVisited with ct := { b.flushVisited.ct with flushLeft := b.heldOf b.ct.flushLeft } }

theorem Blk.scanGoesOn_frame : FrameM 0x20000020 b b.scanGoesOn :=
  .trans (.foldI Blk.scanBucket_frame (of_eq_true (FrameM.refl ..))) ((FrameM.upd_ct b.scanVisited).mono rfl)

theorem Blk.flushGoesOn_frame : FrameM 0x20000000 b b.flushGoesOn :=
  .trans (.foldI Blk.flushBucket_frame (of_eq_true (FrameM.refl ..))) (FrameM.upd_ct b.flushVisited)

theorem Blk.scanDone_ends (hbusy : b.ct.scanBusy = true) (h : b.ct.scanLeft.any (fun i => (b.lockHolder i).isSome) = false) :
    b.scanDone = b.ct.scanRefs.foldl (fun x ref => x.complete ref stOk []) b.scanVisited.scanEnded := by
  have hrefs : b.scanVisited.ct.scanRefs = b.ct.scanRefs := (congrArg CTab.scanRefs Blk.scanVisited_rowless :)
  have hleft : (b.heldOf b.ct.scanLeft).isEmpty = true := by rw [Blk.heldOf_none h]; rfl
  rw [← hrefs, Blk.scanDone, hbusy]
  exact if_pos hleft

theorem Blk.scanDone_goesOn (hbusy : b.ct.scanBusy = true) (h : b.ct.scanLeft.any (fun i => (b.lockHolder i).isSome) = true) :
    b.scanDone = b.scanGoesOn := by
  rw [Blk.scanDone, hbusy]
  exact if_neg (Bool.eq_false_iff.mp (Blk.heldOf_some h))

theorem Blk.completions_ct (l : List DRef) (b : Blk) : (l.foldl (fun x ref => x.complete ref stOk []) b).ct = b.ct :=
  foldl_keeps (v := fun a : Blk => a.ct) (fun a ref _ => a.complete_ct ref stOk []) b

theorem Blk.flushDone_ends (hbusy : b.ct.flushBusy = true) (h : b.ct.flushLeft.any (fun i => (b.lockHolder i).isSome) = false) :
    b.flushDone.ct = b.flushVisited.flushEnded.ct := by
  have hleft : (b.heldOf b.ct.flushLeft).isEmpty = true := by rw [Blk.heldOf_none h]; rfl
  rw [Blk.flushDone, hbusy]
  refine (congrArg Blk.ct (if_pos hleft)).trans ?_
  split
  · exact Blk.complete_ct ..
  · rfl

theorem Blk.flushDone_goesOn (hbusy : b.ct.flushBusy = true) (h : b.ct.flushLeft.any (fun i => (b.lockHolder i).isSome) = true) :
    b.flushDone = b.flushGoesOn := by
  rw [Blk.flushDone, hbusy]
  exact if_neg (Bool.eq_false_iff.mp (Blk.heldOf_some h))

/-- What FLUSH does with its descriptor begun. -/
def Blk.flushAsked (b : Blk) (ref : DRef) (d : Bytes) : Blk :=
  if b.ctDenied d then b.complete ref stDenied [] else if b.tableBusy then b.complete ref stBusy [] else b.flushStart ref

/-- What SCAN_NOW does with its descriptor begun. -/
def Blk.scanAsked (b : Blk) (ref : DRef) : Blk := if b.tableBusy then b.complete ref stBusy [] else b.scanStart (some ref)

section
variable {ref : DRef} {d : Bytes}

theorem Blk.flushAsked_denied (hsub : subOp d = 5) (hm : b.mode = .follower) : b.flushAsked ref d = b.complete ref stDenied [] :=
  if_pos (by rw [Blk.ctDenied, hm, hsub]; rfl)

theorem Blk.flushAsked_serves (hm : b.mode ≠ .follower) :
    b.flushAsked ref d = if b.tableBusy then b.complete ref stBusy [] else b.flushStart ref :=
  if_neg (by rw [Blk.ctDenied, beq_false_of_ne hm]; exact Bool.false_ne_true)

theorem Blk.flushAsked_busy (hm : b.mode ≠ .follower) (hbusy : b.tableBusy = true) : b.flushAsked ref d = b.complete ref stBusy [] :=
  (Blk.flushAsked_serves hm).trans (if_pos hbusy)

theorem Blk.flushAsked_starts (hm : b.mode ≠ .follower) (hidle : b.tableBusy = false) : b.flushAsked ref d = b.flushStart ref :=
  (Blk.flushAsked_serves hm).trans (if_neg (Bool.eq_false_iff.mp hidle))

theorem Blk.scanAsked_busy (hbusy : b.tableBusy = true) : b.scanAsked ref = b.complete ref stBusy [] := if_pos hbusy

theorem Blk.scanAsked_starts (hidle : b.tableBusy = false) : b.scanAsked ref = b.scanStart (some ref) := if_neg (Bool.eq_false_iff.mp hidle)

end

/-- A flush that starts leaves only PINNED rows in the buckets that are free (08 R205). -/
theorem Blk.flushStart_pinned {ref : DRef} {i : Nat} (hused : i ∈ b.usedBuckets) (hfree : (b.lockHolder i).isSome = false) :
    (b.flushStart ref).PinnedOnly i :=
  Blk.foldl_flushBucket_pinned (b := b) (.inl (List.mem_filter.mpr ⟨hused, by rw [← Option.not_isSome, hfree]; rfl⟩))

/-! ### Record lists -/

theorem Blk.aclWords_congr {a b : Blk} (h : a.regs = b.regs) : a.aclWords = b.aclWords := by
  rw [Blk.aclWords, Blk.aclWords, h]

theorem Blk.recordPut_congr {a b : Blk} (h : a.regs = b.regs) (x : Nat × Nat) : (a.recordPut x).regs = (b.recordPut x).regs := by
  unfold Blk.recordPut
  split
  · exact h
  · simp only [h]

theorem Blk.records_congr {l : List (Nat × Nat)} {a b : Blk} (h : a.regs = b.regs) :
    (l.foldl Blk.recordPut a).regs = (l.foldl Blk.recordPut b).regs := by
  induction l generalizing a b with
  | nil => exact h
  | cons x l ih => exact ih (Blk.recordPut_congr h x)

theorem Blk.records_frame (l : List (Nat × Nat)) (b : Blk) : FrameM 0x10 b (l.foldl Blk.recordPut b) :=
  .foldI Blk.recordPut_frame (of_eq_true (FrameM.refl ..))

theorem Blk.aclNext_ct (old b : Blk) : (Blk.aclNext old b).ct =
    { b.ct with aclGen := if b.aclWords = old.aclWords then b.ct.aclGen else (b.ct.aclGen + 1) % 256 } := by
  unfold Blk.aclNext
  by_cases h : old.aclWords = b.aclWords
  · rw [if_pos h, if_pos h.symm]
  · rw [if_neg h, if_neg (Ne.symm h)]

/-- The records of a list that a descriptor names. -/
def recordsNamed (d img : Bytes) : List (Nat × Nat) := recordsOf (sliceB img 0 (leAt d 12 4))

/-- The records have been written, and the generation of the access list follows. -/
def Blk.recordsPut (b : Blk) (d img : Bytes) : Blk := Blk.aclNext b ((recordsNamed d img).foldl Blk.recordPut b)

theorem Blk.recordsPut_frame (d img : Bytes) : FrameM 0x20000010 b (b.recordsPut d img) :=
  ((Blk.records_frame ..).mono rfl).trans ((Blk.aclNext_frame ..).mono rfl)

theorem Blk.recordsPut_regs (d img : Bytes) : (b.recordsPut d img).regs = ((recordsNamed d img).foldl Blk.recordPut b).regs :=
  (Blk.aclNext_frame ..).same .regs rfl

/-- The generation advances where the access list, as `u` shows it, has changed (08 R201). -/
theorem Blk.recordsPut_ct {u : Blk} {d img : Bytes} (hu : ((recordsNamed d img).foldl Blk.recordPut b).regs = u.regs) : (b.recordsPut d img).ct =
    { b.ct with aclGen := if u.aclWords = b.aclWords then b.ct.aclGen else (b.ct.aclGen + 1) % 256 } := by
  have hct : ((recordsNamed d img).foldl Blk.recordPut b).ct = b.ct := (Blk.records_frame (recordsNamed d img) b).same .ct rfl
  rw [Blk.recordsPut, Blk.aclNext_ct, Blk.aclWords_congr hu, hct]

section
variable {ref : DRef} {d img : Bytes} {ok : Nat → Bool}

theorem Blk.policyRecords_denied (hm : b.mode = .follower) : b.policyRecords ref d img ok = b.complete ref stDenied [] := if_pos hm

theorem Blk.policyRecords_malformed (hm : b.mode ≠ .follower)
    (hbad : leAt d 12 4 = 0 ∨ leAt d 12 4 % 8 ≠ 0 ∨ 4096 < leAt d 12 4 ∨ (recordsNamed d img).all (fun x => ok x.1) = false) :
    b.policyRecords ref d img ok = b.complete ref stMalformed [] := by
  refine (if_neg hm).trans (if_pos ?_)
  rcases hbad with h | h | h | h
  · exact .inr (.inl h)
  · exact .inl h
  · exact .inr (.inr (.inl h))
  · exact .inr (.inr (.inr (congrArg not h)))

theorem Blk.policyRecords_writes (hm : b.mode ≠ .follower) (hn : leAt d 12 4 ≠ 0) (hw : leAt d 12 4 % 8 = 0) (hlen : leAt d 12 4 ≤ 4096)
    (hok : (recordsNamed d img).all (fun x => ok x.1) = true) :
    b.policyRecords ref d img ok = (b.recordsPut d img).complete ref stOk [] := by
  have hall : ¬(!(recordsNamed d img).all fun x => ok x.1) = true := by rw [hok]; decide
  refine (if_neg hm).trans (if_neg ?_)
  rintro (h | h | h | h)
  · exact h hw
  · exact hn h
  · exact Nat.not_lt.mpr hlen h
  · exact hall h

end

end

/-! ### The commands -/

section
variable {s : State} {w r : Nat} {d : Desc} {img : Bytes}

theorem exec_ctFlush_of_ready (h : Ready (s.blk.pass w) r d 0x30) (hsub : subOp d.data = 5) :
    exec (.ctFlush w r) s = .next { s with blk := Blk.settle s.blk (((s.blk.pass w).beginDesc r d).flushAsked ⟨r, d.id⟩ d.data) } :=
  exec_of_ready (c := .ctFlush w r) (f := fun ref d b => b.flushAsked ref d) rfl h (beq_iff_eq.mpr hsub)

theorem exec_ctScanNow_of_ready (h : Ready (s.blk.pass w) r d 0x30) (hsub : subOp d.data = 6) :
    exec (.ctScanNow w r) s = .next { s with blk := Blk.settle s.blk (((s.blk.pass w).beginDesc r d).scanAsked ⟨r, d.id⟩) } :=
  exec_of_ready (c := .ctScanNow w r) (f := fun ref _ b => b.scanAsked ref) rfl h (beq_iff_eq.mpr hsub)

theorem exec_ageingScan_idle (h : (s.blk.pass w).ct.scanBusy = true) :
    exec (.ageingScan w) s = .next { s with blk := Blk.settle s.blk (s.blk.pass w) } := by
  change execAgeingScan w s = _
  rw [execAgeingScan, State.upd, if_pos h]

theorem exec_ageingScan_begins (h : (s.blk.pass w).ct.scanBusy = false) :
    exec (.ageingScan w) s = .next { s with blk := Blk.settle s.blk ((s.blk.pass w).scanStart none) } := by
  change execAgeingScan w s = _
  rw [execAgeingScan, State.upd, if_neg (Bool.eq_false_iff.mp h)]

theorem exec_clientPolicy_of_ready (h : Ready (s.blk.pass w) r d 0x31) (hsel : byteAt d.data 8 = 5) :
    exec (.clientPolicy w r img) s
      = .next { s with blk := Blk.settle s.blk (((s.blk.pass w).beginDesc r d).policyRecords ⟨r, d.id⟩ d.data img policyOff) } :=
  exec_of_ready (c := .clientPolicy w r img) rfl h (beq_iff_eq.mpr hsel)

theorem exec_serviceAddr_of_ready (h : Ready (s.blk.pass w) r d 0x31) (hsel : byteAt d.data 8 = 6) :
    exec (.serviceAddr w r img) s
      = .next { s with blk := Blk.settle s.blk (((s.blk.pass w).beginDesc r d).policyRecords ⟨r, d.id⟩ d.data img serviceOff) } :=
  exec_of_ready (c := .serviceAddr w r img) rfl h (beq_iff_eq.mpr hsel)

end

/-- Settles O52: each clause is the case of its command that applies, the descriptor begun where it has one. -/
theorem tableScansAndPolicies : Obligations.TableScansAndPolicies := by
  intro s w r img d b c n rs held
  refine ⟨fun h hsub => ⟨fun hm => ?flushDenied, fun hm hbusy => ?flushBusy, fun hm hbusy => ?flush⟩,
    fun h hsub => ⟨fun hbusy => ?scanBusy, fun hbusy => ?scan⟩, fun hidle => ?ageing, fun hbusy => ?ageingRuns,
    fun hbusy hfree => ?scanEnds, fun hbusy hheld => ?scanGoesOn, fun hbusy hfree => ?flushEnds, fun hbusy hheld => ?flushGoesOn,
    fun h hsel => ⟨fun hm => ?policyDenied, fun hm hbad => ?policyBad, fun hm hn hw hlen hok => ?policy⟩,
    fun h hsel hm => ⟨fun hbad => ?serviceBad, fun hn hw hlen hok => ?service⟩⟩
  case flushDenied => exact completes_only (exec_ctFlush_of_ready h hsub) (Blk.flushAsked_denied hsub hm)
  case flushBusy => exact completes_only (exec_ctFlush_of_ready h hsub) (Blk.flushAsked_busy hm hbusy)
  case flush =>
    have hstarts := Blk.flushAsked_starts (b := c) (ref := ⟨r, d.id⟩) (d := d.data) hm hbusy
    have hframe : FrameM 0x20010000 b (c.flushStart ⟨r, d.id⟩) :=
      ((Blk.beginDesc_frame ..).mono rfl).trans ((Blk.flushStart_frame ..).mono rfl)
    exact ⟨_, hstarts ▸ exec_ctFlush_of_ready h hsub, .of hframe rfl, rfl, rfl, rfl,
      fun i hused hfree => Blk.flushStart_pinned (b := c) hused hfree⟩
  case scanBusy => exact completes_only (exec_ctScanNow_of_ready h hsub) (Blk.scanAsked_busy hbusy)
  case scan =>
    have hstarts := Blk.scanAsked_starts (b := c) (ref := ⟨r, d.id⟩) hbusy
    have hframe : FrameM 0x20010020 b (c.scanStart (some ⟨r, d.id⟩)) :=
      ((Blk.beginDesc_frame ..).mono rfl).trans ((Blk.scanStart_frame ..).mono rfl)
    exact ⟨_, hstarts ▸ exec_ctScanNow_of_ready h hsub, .of hframe rfl, rfl, rfl, rfl⟩
  case ageing => exact ⟨_, exec_ageingScan_begins hidle, .of (Blk.scanStart_frame ..) rfl, rfl, rfl, rfl⟩
  case ageingRuns => exact answers_idle (exec_ageingScan_idle hbusy) rfl
  case scanEnds =>
    have hends := Blk.scanDone_ends hbusy hfree
    have hct : b.scanDone.ct = b.scanVisited.scanEnded.ct := hends ▸ Blk.completions_ct ..
    refine ⟨b.scanDone, rfl, .of (Blk.scanDone_frame b) rfl, congrArg CTab.scanBusy hct, congrArg CTab.scanRefs hct,
      congrArg CTab.scanLeft hct, fun hnone => ?_⟩
    have hvisited : b.scanVisited = b := by rw [Blk.scanVisited, hnone]; rfl
    rw [hends, hvisited]; rfl
  case scanGoesOn =>
    have hgoes := Blk.scanDone_goesOn hbusy hheld
    have hrunning : b.scanVisited.ct.scanBusy = true := (congrArg CTab.scanBusy Blk.scanVisited_rowless :).trans hbusy
    exact ⟨b.scanDone, rfl, .of (hgoes ▸ Blk.scanGoesOn_frame) rfl, hgoes ▸ hrunning, hgoes ▸ rfl⟩
  case flushEnds =>
    have hct := Blk.flushDone_ends hbusy hfree
    exact ⟨b.flushDone, rfl, .of (Blk.flushDone_frame b) rfl, congrArg CTab.flushBusy hct, congrArg CTab.flushRef hct,
      congrArg CTab.flushLeft hct⟩
  case flushGoesOn =>
    have hgoes := Blk.flushDone_goesOn hbusy hheld
    have hrunning : b.flushVisited.ct.flushBusy = true := (congrArg CTab.flushBusy Blk.flushVisited_rowless :).trans hbusy
    have href : b.flushVisited.ct.flushRef = b.ct.flushRef := (congrArg CTab.flushRef Blk.flushVisited_rowless :)
    exact ⟨b.flushDone, rfl, .of (hgoes ▸ Blk.flushGoesOn_frame) rfl, hgoes ▸ hrunning, hgoes ▸ href, hgoes ▸ rfl⟩
  case policyDenied => exact completes_only (exec_clientPolicy_of_ready h hsel) (Blk.policyRecords_denied hm)
  case policyBad => exact completes_only (exec_clientPolicy_of_ready h hsel) (Blk.policyRecords_malformed hm hbad)
  case policy =>
    have hregs : (rs.foldl Blk.recordPut c).regs = (rs.foldl Blk.recordPut b).regs := Blk.records_congr rfl
    exact completes_of (exec_clientPolicy_of_ready h hsel) (Blk.policyRecords_writes hm hn hw hlen hok) (.of (Blk.recordsPut_frame ..) rfl) rfl
      ⟨(Blk.recordsPut_regs ..).trans hregs, Blk.recordsPut_ct hregs⟩
  case serviceBad => exact completes_only (exec_serviceAddr_of_ready h hsel) (Blk.policyRecords_malformed hm hbad)
  case service =>
    exact completes_of (exec_serviceAddr_of_ready h hsel) (Blk.policyRecords_writes hm hn hw hlen hok) (.of (Blk.recordsPut_frame ..) rfl) rfl
      ((Blk.recordsPut_regs ..).trans (Blk.records_congr rfl))

end Sys2Proof.Machine
end

section
/-! PATTERN_LOAD and the drain of its Benches, and the SELFTEST selector (08 R212 to R215). -/

namespace Sys2Proof.Machine

/-! ### PATTERN_LOAD begins -/

section
variable {b : Blk} {ref : DRef} {d img : Bytes}

/-- A load is noted; its Benches drain. -/
def Blk.withLoad (b : Blk) (l : PLoad) : Blk := { b with eng := { b.eng with load := some l } }

theorem Blk.loadStart_busy (h : b.eng.load.isSome = true) : b.loadStart ref d img = b.complete ref stBusy [] := if_pos h

theorem Blk.loadStart_denied (h : b.eng.load = none) (hquiet : (b.mode == .commission || b.mode == .diagnostic) = false)
    (hroll : bitOf (byteAt d 8) 0 = false) : b.loadStart ref d img = b.complete ref stDenied [] := by
  simp only [Blk.loadStart, h, hquiet, hroll]; rfl

theorem Blk.loadStart_begins (h : b.eng.load = none)
    (hmay : ((b.mode == .commission || b.mode == .diagnostic) || bitOf (byteAt d 8) 0) = true) : b.loadStart ref d img =
      b.withLoad { bytes := patBytes d img, rolling := bitOf (byteAt d 8) 0 && !(b.mode == .commission || b.mode == .diagnostic)
                   left := List.range b.part.variant.benches, first := true, ref := ref } := by
  have hno : ¬ (!(b.mode == .commission || b.mode == .diagnostic) && !bitOf (byteAt d 8) 0) = true := by
    rw [← Bool.not_or, hmay]; exact Bool.false_ne_true
  have hnone : ¬ b.eng.load.isSome = true := by rw [h]; exact Bool.false_ne_true
  exact (if_neg hnone).trans (if_neg hno)

/-! ### The Benches that a load drains -/

theorem Blk.complete_eng (b : Blk) (ref : DRef) (status : Nat) (result : Bytes) : (b.complete ref status result).eng = b.eng :=
  (Blk.complete_frame ..).same .eng rfl

section
variable {l : PLoad} (h : b.eng.load = some l) {svnMin : Nat}
include h

theorem Blk.benchDrained_waits (parity : Bool) (hin : b.eng.invs.any (fun e => l.now.contains (e.1 / 64)) = true) :
    b.benchDrained svnMin parity = b := by
  simp only [Blk.benchDrained, h, hin, if_true]

variable (hout : b.eng.invs.any (fun e => l.now.contains (e.1 / 64)) = false)
include hout

theorem Blk.benchDrained_fails {st fc : Nat} (parity : Bool)
    (hchk : (if l.first then patCheck svnMin b.part.silicon (b.mode == .diagnostic) l.bytes else none) = some (st, fc)) :
    b.benchDrained svnMin parity = b.loadFail l st fc := by
  simp only [Blk.benchDrained, h, hout, hchk]; rfl

variable (hchk : (if l.first then patCheck svnMin b.part.silicon (b.mode == .diagnostic) l.bytes else none) = none)
include hchk

theorem Blk.benchDrained_parity : b.benchDrained svnMin true = b.loadFail l stParity 7 := by
  simp only [Blk.benchDrained, h, hout, hchk]; rfl

theorem Blk.benchDrained_runs : b.benchDrained svnMin false = b.loadNext l := by
  simp only [Blk.benchDrained, h, hout, hchk]; rfl

end

/-- The set that runs once a load has failed: before the first Benches were loaded the old one still does (08 R214). -/
def Blk.fallenBack (b : Blk) (l : PLoad) : Blk := if l.first then b else match b.eng.op with | some p => b.runSet p | none => b

/-- A load has failed with a FAIL_CODE. -/
def Blk.loadFailed (b : Blk) (l : PLoad) (fc : Nat) : Blk :=
  Blk.setF { b.fallenBack l with eng := { (b.fallenBack l).eng with load := none, failCode := fc } } R.ENG_PSTAT_LOAD_FAIL

theorem Blk.loadFail_eq (l : PLoad) (st fc : Nat) : b.loadFail l st fc = (b.loadFailed l fc).complete l.ref st [] := rfl

theorem Blk.loadFail_eng (l : PLoad) (st fc : Nat) : (b.loadFail l st fc).eng = { (b.fallenBack l).eng with load := none, failCode := fc } :=
  Blk.complete_eng ..

theorem Blk.loadFail_flag (l : PLoad) (st fc : Nat) : (b.loadFail l st fc).flag R.ENG_PSTAT_LOAD_FAIL = true := by
  have hset : (b.loadFailed l fc).flag R.ENG_PSTAT_LOAD_FAIL = true := Blk.flag_setF_self _ _ (by decide) (by decide)
  rwa [Blk.loadFail_eq, FrameM.flag (Blk.complete_frame ..) rfl]

/-- The Benches drained run the new set. -/
def Blk.loadedSets (b : Blk) (l : PLoad) : Tab PSet := l.now.foldl (fun t i => tput t i (PSet.ofBytes 2 l.bytes)) b.eng.sets

/-- The Benches that are still to load. -/
def PLoad.rest (l : PLoad) : List Nat := l.left.filter (!l.now.contains ·)

theorem tget_foldl_tput {α : Type} (x : α) (v : α) (l : List Nat) (t : Tab α) (i : Nat) :
    tget x (l.foldl (fun t i => tput t i v) t) i = if i ∈ l then v else tget x t i := by
  induction l generalizing t with
  | nil => simp
  | cons k l ih =>
    rw [List.foldl_cons, ih, tget_tput]
    by_cases hl : i ∈ l <;> by_cases hk : i = k <;> simp [hl, hk]

theorem Blk.setOf_loaded {u : Blk} {l : PLoad} (hu : u.eng.sets = b.loadedSets l) (i : Nat) :
    u.setOf i = if i ∈ l.now then PSet.ofBytes 2 l.bytes else b.setOf i := by
  rw [Blk.setOf, hu]; exact tget_foldl_tput ..

/-- The block with the last Benches loaded. -/
def Blk.loadLast (b : Blk) (l : PLoad) : Blk :=
  let p := PSet.ofBytes 2 l.bytes
  let e := { b.eng with sets := b.loadedSets l, load := none }
  { b with eng := if p.test then e else { e with op := some p, opImage := l.bytes } }

theorem Blk.loadLast_eng (l : PLoad) : let p := PSet.ofBytes 2 l.bytes
    (b.loadLast l).eng.sets = b.loadedSets l ∧ (b.loadLast l).eng.load = none
      ∧ (b.loadLast l).eng.op = if p.test then b.eng.op else some p := by
  intro p
  by_cases hp : p.test = true
  · simp [Blk.loadLast, p, hp]
  · simp [Blk.loadLast, p, hp]

theorem Blk.loadNext_last {l : PLoad} (h : l.rest = []) : b.loadNext l = (b.loadLast l).complete l.ref stOk [] :=
  if_pos (by rw [show l.left.filter (!l.now.contains ·) = [] from h]; rfl)

theorem Blk.loadNext_more {l : PLoad} (h : l.rest ≠ []) : b.loadNext l =
    { b with eng := { b.eng with sets := b.loadedSets l, load := some { l with left := l.rest, first := false } } } :=
  if_neg fun he => h (List.isEmpty_iff.mp he)

theorem Blk.loadNext_sets (b : Blk) (l : PLoad) : (b.loadNext l).eng.sets = b.loadedSets l := by
  by_cases h : l.rest = []
  · rw [Blk.loadNext_last h, Blk.complete_eng]
    exact (b.loadLast_eng l).1
  · rw [Blk.loadNext_more h]

/-! ### SELFTEST -/

/-- A SELFTEST is noted. -/
def Blk.withTest (b : Blk) (t : SelfT) : Blk := { b with eng := { b.eng with self := some t } }

/-- The invocation of a SELFTEST on Lane 0 of an engine. -/
def Blk.testEngine (v : Inv) (b : Blk) (e : Nat) : Blk := ((b.setInv (4 * e) v).inc C.ENG_INVOKE).pmcEvent 0x22 e 1

theorem Blk.testEngine_self (v : Inv) (b : Blk) (e : Nat) : (b.testEngine v e).eng.self = b.eng.self :=
  (congrArg Eng.self ((Blk.pmcEvent_frame ..).same .eng rfl) :)

/-- A SELFTEST starts where its engines hold no invocation (08 R215). -/
theorem Blk.selfSync_self {t : SelfT} (h : b.eng.self = some t) (hstart : t.started = false) :
    ∃ x, b.selfSync.eng.self = some x ∧ x.engines = t.engines ∧ x.addr = t.addr ∧ x.ref = t.ref
      ∧ x.started = !b.eng.invs.any fun e => t.engines.contains (e.1 / 4) := by
  simp only [Blk.selfSync, h, hstart, Bool.false_or]
  split
  · next hin => exact ⟨t, h, rfl, rfl, rfl, by rw [hin, hstart]; rfl⟩
  · next hout =>
    refine ⟨{ t with started := true, count := t.engines.length }, ?_, rfl, rfl, rfl, by rw [Bool.not_eq_true _ |>.mp hout]; rfl⟩
    exact foldl_keeps (v := fun a : Blk => a.eng.self) (fun a e _ => Blk.testEngine_self _ a e) _

theorem Blk.selfSync_started {t : SelfT} (h : b.eng.self = some t) (hstart : t.started = true) : b.selfSync = b := by
  simp only [Blk.selfSync, h, hstart]; rfl

theorem Blk.selftest_denied (h : b.mode ≠ .diagnostic) : b.selftest ref d img = b.complete ref stDenied [] := if_pos h

theorem Blk.selftest_malformed (hm : b.mode = .diagnostic) (h : 63 < byteAt d 9 ∧ byteAt d 9 ≠ 0xFF ∨ leAt d 12 4 < 64 ∨ 4096 < leAt d 12 4) :
    b.selftest ref d img = b.complete ref stMalformed [] :=
  (if_neg (not_not_intro hm)).trans (if_pos h)

/-- The SELFTEST that a descriptor asks for. -/
def Blk.testAsked (b : Blk) (ref : DRef) (d buf : Bytes) : SelfT :=
  { engines := b.testEngines (byteAt d 9), addr := leAt d 16 8, buf := sliceB buf 0 (leAt d 12 4), ref := ref }

section
variable (hm : b.mode = .diagnostic) (ho : byteAt d 9 < 64 ∨ byteAt d 9 = 0xFF) (hlo : 64 ≤ leAt d 12 4) (hhi : leAt d 12 4 ≤ 4096)
  (hpres : byteAt d 9 = 0xFF ∨ b.enginePresent (byteAt d 9) = true)
  (hentry : (b.testEngines (byteAt d 9)).any (fun e => !bitOf (b.setOf (e / 16)).entries 6) = false)
  (hwork : (b.testEngines (byteAt d 9)).all b.engineOut = false)
include hm ho hlo hhi hpres hentry hwork

/-- A SELFTEST that passes the checks of R215 on its engines. -/
theorem Blk.selftest_checked : b.selftest ref d img =
    if b.eng.self.isSome || b.eng.load.isSome then b.complete ref stBusy [] else (b.withTest (b.testAsked ref d img)).selfSync := by
  have hform : ¬(63 < byteAt d 9 ∧ byteAt d 9 ≠ 0xFF ∨ leAt d 12 4 < 64 ∨ 4096 < leAt d 12 4) := by omega
  have hfit : ¬(byteAt d 9 ≠ 0xFF ∧ (!b.enginePresent (byteAt d 9)) = true) := by
    rintro ⟨hne, habs⟩
    rw [hpres.resolve_left hne] at habs
    exact Bool.noConfusion habs
  unfold Blk.selftest
  rw [if_neg (not_not_intro hm), if_neg hform, if_neg hfit, if_neg (Bool.eq_false_iff.mp hentry), if_neg (Bool.eq_false_iff.mp hwork)]
  rfl

theorem Blk.selftest_busy (h : b.eng.self.isSome = true ∨ b.eng.load.isSome = true) : b.selftest ref d img = b.complete ref stBusy [] :=
  (Blk.selftest_checked hm ho hlo hhi hpres hentry hwork).trans (if_pos (Bool.or_eq_true_iff.mpr h))

theorem Blk.selftest_begins (hself : b.eng.self = none) (hload : b.eng.load = none) :
    b.selftest ref d img = (b.withTest (b.testAsked ref d img)).selfSync :=
  (Blk.selftest_checked hm ho hlo hhi hpres hentry hwork).trans (if_neg (by rw [hself, hload]; exact Bool.false_ne_true))

end

/-- A SELFTEST is over, its scratch in the host's buffer. -/
def Blk.testOver (b : Blk) (t : SelfT) : Blk :=
  let c := { b with eng := { b.eng with self := none } }
  match t.results.find? fun x => some x.1 == t.engines.head? with
  | some x => c.put (.hostWrite (c.funcOf t.ref) t.addr (sliceB x.2 0 t.buf.length))
  | none => c

theorem Blk.testOver_eng (t : SelfT) : (b.testOver t).eng = { b.eng with self := none } := by
  unfold Blk.testOver
  split <;> rfl

theorem Blk.testOver_frame (t : SelfT) : FrameM 0x40000008 b (b.testOver t) := by
  have hgone : FrameM 0x40000008 b { b with eng := { b.eng with self := none } } := (FrameM.upd_eng b).mono rfl
  unfold Blk.testOver
  split
  · exact hgone.trans ((Blk.put_frame ..).mono rfl)
  · exact hgone

theorem Blk.selfDone_ends {t : SelfT} (h : b.eng.self = some t) (hstart : t.started = true)
    (hout : b.eng.invs.any (fun e => e.2.self) = false) : b.selfSync.selfDone = (b.testOver t).complete t.ref stOk t.result := by
  rw [Blk.selfSync_started h hstart]
  simp only [Blk.selfDone, h, hstart, hout]; rfl

theorem Blk.selfDone_none (h : b.eng.self = none) : b.selfSync.selfDone = b := by
  simp only [Blk.selfSync, h, Blk.selfDone]

end

/-! ### The commands -/

section
variable {s : State} {w r : Nat} {d : Desc} {img : Bytes}

theorem exec_patternLoad_of_ready (h : Ready (s.blk.pass w) r d 0x60) :
    exec (.patternLoad w r img) s
      = .next { s with blk := Blk.settle s.blk (((s.blk.pass w).beginDesc r d).loadStart ⟨r, d.id⟩ d.data img) } :=
  exec_of_ready (c := .patternLoad w r img) rfl h rfl

theorem exec_selftest_of_ready (h : Ready (s.blk.pass w) r d 0x31) (hsel : byteAt d.data 8 = 7) :
    exec (.selftest w r img) s
      = .next { s with blk := Blk.settle s.blk (((s.blk.pass w).beginDesc r d).selftest ⟨r, d.id⟩ d.data img) } :=
  exec_of_ready (c := .selftest w r img) rfl h (beq_iff_eq.mpr hsel)

end

/-- Settles O53: each clause is the check that decides, or the case of its command that applies. -/
theorem patternsAndSelftests : Obligations.PatternsAndSelftests := by
  intro s w r img d parity b c quiet rolling
  refine ⟨fun h hload => ?loadBusy, fun h hload hquiet hroll => ?loadDenied, fun h hload hmay => ?loadBegins, fun l hl hin => ?drains,
    fun l hl hout => ⟨fun st fc hchk => ?fails, fun hchk hpar => ?parity, fun hchk hpar => ?runs⟩,
    fun h hsel => ⟨fun hm => ?testDenied, fun hm hbad => ?testMalformed,
      fun hm ho hlo hhi hpres hentry hwork hself hload => ?testBegins, fun hm ho hlo hhi hpres hentry hwork hbusy => ?testBusy⟩,
    fun t ht hstart hout => ?testEnds, fun hnone => ?noTest⟩
  case loadBusy => exact completes_only (exec_patternLoad_of_ready h) (Blk.loadStart_busy (b := c) hload)
  case loadDenied => exact completes_only (exec_patternLoad_of_ready h) (Blk.loadStart_denied (b := c) hload hquiet hroll)
  case loadBegins =>
    have hbegins := Blk.loadStart_begins (b := c) (ref := ⟨r, d.id⟩) (img := img) hload hmay
    have hframe (l : PLoad) : FrameM 0x40010000 b (c.withLoad l) :=
      ((Blk.beginDesc_frame ..).mono rfl).trans ((FrameM.upd_eng c).mono rfl)
    exact ⟨_, hbegins ▸ exec_patternLoad_of_ready h, .of (hframe _) rfl, rfl⟩
  case drains => exact answers_idle (u := b.benchDrained s.nvm.engSvnMin parity) rfl (Blk.benchDrained_waits hl parity hin)
  case fails =>
    have hfails := Blk.benchDrained_fails hl hout parity hchk
    refine ⟨b.benchDrained s.nvm.engSvnMin parity, rfl, .of (Blk.benchDrained_frame ..) rfl, ?_⟩
    rw [hfails]
    have heng := b.loadFail_eng l st fc
    refine ⟨congrArg Eng.load heng, congrArg Eng.failCode heng, Blk.loadFail_flag .., fun hfirst => ?_, _, rfl⟩
    have hstays : b.fallenBack l = b := if_pos hfirst
    rw [heng, hstays]
    exact ⟨rfl, rfl⟩
  case parity =>
    subst hpar
    have hfails := Blk.benchDrained_parity hl hout hchk
    have heng := b.loadFail_eng l stParity 7
    refine ⟨b.benchDrained s.nvm.engSvnMin true, rfl, .of (Blk.benchDrained_frame ..) rfl, ?_⟩
    rw [hfails]
    exact ⟨congrArg Eng.load heng, congrArg Eng.failCode heng, _, rfl⟩
  case runs =>
    subst hpar
    have hruns := Blk.benchDrained_runs hl hout hchk
    have hset := Blk.setOf_loaded (b.loadNext_sets l)
    refine ⟨b.benchDrained s.nvm.engSvnMin false, rfl, .of (hruns ▸ Blk.loadNext_frame b l) rfl, ?_⟩
    rw [hruns]
    refine ⟨fun i hi => (hset i).trans (if_pos hi), fun i hi => (hset i).trans (if_neg hi), fun hmore => ?_, fun hlast => ?_⟩
    · rw [Blk.loadNext_more hmore]
      exact ⟨rfl, rfl⟩
    · obtain ⟨-, hload, hop⟩ := b.loadLast_eng l
      have heng : (b.loadNext l).eng = (b.loadLast l).eng := Blk.loadNext_last hlast ▸ Blk.complete_eng ..
      exact ⟨(congrArg Eng.load heng).trans hload, (congrArg Eng.op heng).trans hop, _, Blk.loadNext_last hlast⟩
  case testDenied => exact completes_only (exec_selftest_of_ready h hsel) (Blk.selftest_denied hm)
  case testMalformed => exact completes_only (exec_selftest_of_ready h hsel) (Blk.selftest_malformed hm hbad)
  case testBegins =>
    have hbegins := Blk.selftest_begins (b := c) (ref := ⟨r, d.id⟩) (img := img) hm ho hlo hhi hpres hentry hwork hself hload
    have hframe : FrameM 0x40090020 b (c.withTest (c.testAsked ⟨r, d.id⟩ d.data img)).selfSync :=
      (((Blk.beginDesc_frame ..).mono rfl).trans ((FrameM.upd_eng c).mono rfl)).trans ((Blk.selfSync_frame _).mono rfl)
    exact ⟨_, hbegins ▸ exec_selftest_of_ready h hsel, .of hframe rfl,
      Blk.selfSync_self (b := c.withTest (c.testAsked ⟨r, d.id⟩ d.data img)) rfl rfl⟩
  case testBusy =>
    exact completes_only (exec_selftest_of_ready h hsel) (Blk.selftest_busy (b := c) hm ho hlo hhi hpres hentry hwork hbusy)
  case testEnds =>
    have hends := Blk.selfDone_ends ht hstart hout
    have hframe : FrameM 0x440090008 b ((b.testOver t).complete t.ref stOk t.result) :=
      ((b.testOver_frame t).mono rfl).trans ((Blk.complete_frame ..).mono rfl)
    exact ⟨b.selfSync.selfDone, rfl, .of (hends ▸ hframe) rfl, hends ▸ (Blk.complete_eng ..).trans (Blk.testOver_eng t), _, hends⟩
  case noTest => exact answers_idle (u := b.selfSync.selfDone) rfl (Blk.selfDone_none hnone)

end Sys2Proof.Machine
end

section
/-! The slots of the key epochs: KEY_INSTALL, KEY_RETIRE and the slot that is EMPTY again (09 R246 to R248), and the lease of a
context that is over (09 R233). -/

namespace Sys2Proof.Machine

/-! ### The slots -/

theorem Blk.epochOf_congr {a b : Blk} (h : a.nts = b.nts) (n : Nat) : a.epochOf n = b.epochOf n := by
  rw [Blk.epochOf, h, ← Blk.epochOf]

theorem Blk.epochOf_epochState (b : Blk) (n st j : Nat) :
    (b.epochState n st).epochOf j = if j = n then { b.epochOf n with st := st } else b.epochOf j :=
  (Blk.epochOf_congr ((Blk.recNts_frame ..).same .nts rfl) j).trans (Blk.epochOf_setEpoch ..)

/-- An epoch in one of the live states PENDING, CURRENT and PREVIOUS (09 R246). -/
def Epoch.live (e : Epoch) : Bool := e.st == 1 || e.st == 2 || e.st == 3

/-- A live epoch that is what a KEY_INSTALL asks for. -/
def Epoch.holds (e : Epoch) (k : KeyReq) : Bool := e.live && e.id == k.id && e.key == k.key && e.act == k.act && e.exp == k.exp

/-- The four slots. -/
def Blk.slots (b : Blk) : List Epoch := (List.range 4).map b.epochOf

/-- A slot other than an EMPTY one has this identifier. -/
def Blk.idTaken (b : Blk) (id : Nat) : Bool := b.slots.any fun e => e.st != 0 && e.id == id

/-- A key held is a key whose identifier is taken. -/
theorem Epoch.taken_of_holds {e : Epoch} {k : KeyReq} (h : e.holds k = true) : (e.st != 0 && e.id == k.id) = true := by
  simp only [Epoch.holds, Epoch.live, Bool.and_eq_true, Bool.or_eq_true, beq_iff_eq] at h
  obtain ⟨⟨⟨⟨hlive, hid⟩, -⟩, -⟩, -⟩ := h
  simp only [bne_iff_ne, Bool.and_eq_true, beq_iff_eq]
  exact ⟨by omega, hid⟩

theorem Blk.no_holder {b : Blk} {k : KeyReq} (h : b.idTaken k.id = false) : b.slots.any (·.holds k) = false := by
  rw [Bool.eq_false_iff] at h ⊢
  intro hheld
  obtain ⟨e, hmem, he⟩ := List.any_eq_true.mp hheld
  exact h (List.any_eq_true.mpr ⟨e, hmem, Epoch.taken_of_holds he⟩)

/-- With an EMPTY slot not all four are live. -/
theorem Blk.not_all_live {b : Blk} {i : Nat} (h : b.epochIn 0 = some i) : b.slots.all Epoch.live = false := by
  have hempty : (b.epochOf i).st = 0 := beq_iff_eq.mp (List.find?_some (p := fun n => (b.epochOf n).st == 0) h)
  refine List.all_eq_false.mpr ⟨b.epochOf i, List.mem_map.mpr ⟨i, List.mem_of_find?_eq_some h, rfl⟩, ?_⟩
  simp [Epoch.live, hempty]

/-! ### KEY_INSTALL -/

section
variable {b : Blk} {ref : DRef} {k : KeyReq}

theorem Blk.keyPlace_held (h : b.slots.any (·.holds k) = true) : b.keyPlace ref k = b.complete ref stOk [] := if_pos h

theorem Blk.keyPlace_idTaken (hid : b.idTaken k.id = true) (hother : b.slots.any (·.holds k) = false) :
    b.keyPlace ref k = b.complete ref stDenied [] :=
  (if_neg (Bool.eq_false_iff.mp hother)).trans (if_pos hid)

theorem Blk.keyPlace_fills {i : Nat} (hid : b.idTaken k.id = false) (hempty : b.epochIn 0 = some i) :
    b.keyPlace ref k = (b.epochInstall i k).complete ref stOk [] := by
  refine (if_neg (Bool.eq_false_iff.mp (Blk.no_holder hid))).trans ((if_neg (Bool.eq_false_iff.mp hid)).trans
    ((if_neg (Bool.eq_false_iff.mp (Blk.not_all_live hempty))).trans ?_))
  rw [hempty]

/-- The epoch that a KEY_INSTALL makes PENDING, its KEY_ROLL entries armed. -/
def Blk.pendingEpoch (b : Blk) (k : KeyReq) : Epoch :=
  { st := 1, id := k.id, key := k.key, act := k.act, exp := k.exp
    actEntry := if decide (b.ins.now < k.act) then some b.laster.seq else none
    expEntry := if k.exp ≠ 0 then some (b.laster.seq + 1) else none }

theorem Blk.pendingEpoch_actEntry (b : Blk) (k : KeyReq) : (b.pendingEpoch k).actEntry.isSome = decide (b.ins.now < k.act) := by
  by_cases h : b.ins.now < k.act <;> simp [Blk.pendingEpoch, h]

theorem Blk.pendingEpoch_expEntry (b : Blk) (k : KeyReq) : (b.pendingEpoch k).expEntry.isSome = decide (k.exp ≠ 0) := by
  by_cases h : k.exp = 0 <;> simp [Blk.pendingEpoch, h]

theorem Blk.epochInstall_epochOf (h : k.act = 0 ∨ b.ins.now < k.act) (i j : Nat) :
    (b.epochInstall i k).epochOf j = if j = i then b.pendingEpoch k else b.epochOf j := by
  have hwaits : ¬(k.act ≠ 0 ∧ (!decide (b.ins.now < k.act)) = true) := by
    simp only [Bool.not_eq_true', decide_eq_false_iff_not]
    omega
  rw [Blk.epochInstall, if_neg hwaits, Blk.epochOf_epochState, Blk.epochOf_setEpoch, Blk.epochOf_setEpoch, if_pos rfl]
  split <;> rfl

variable {d blk : Bytes}

theorem Blk.keyInstall_denied (hparts : b.part.variant.stitchers ≠ 0) (hfollows : b.following = true) :
    b.keyInstall ref d blk = b.complete ref stDenied [] :=
  (if_neg hparts).trans (if_pos hfollows)

/-- A KEY_INSTALL whose operands are in order and whose key unwraps comes to the rows on the slots. -/
theorem Blk.keyInstall_places {act exp : Nat} {key : Bytes} (hparts : b.part.variant.stitchers ≠ 0) (hleads : b.following = false)
    (hact : timeAt blk 72 = some act) (hexp : timeAt blk 84 = some exp) (hid : leAt d 8 2 ≠ 0)
    (horder : act = 0 ∨ exp = 0 ∨ act < exp) (hahead : exp = 0 ∨ b.ins.now < exp)
    (hkey : keyUnwrap (b.sesOf (b.funcOf ref)).ks (sliceB blk 0 72) = some key) :
    b.keyInstall ref d blk = b.keyPlace ref ⟨leAt d 8 2, key, act, exp⟩ := by
  have hgood : ¬(leAt d 8 2 = 0 ∨ (act ≠ 0 ∧ exp ≠ 0 ∧ exp ≤ act) ∨ (exp ≠ 0 ∧ exp ≤ b.ins.now)) := by omega
  refine (if_neg hparts).trans ((if_neg (Bool.eq_false_iff.mp hleads)).trans ?_)
  simp only [hact, hexp, if_neg hgood, hkey]

end

/-! ### KEY_RETIRE -/

section
variable {b : Blk} {ref : DRef} {d : Bytes}

theorem Blk.epochOf_epochWait_self (b : Blk) (i : Nat) (ref : DRef) :
    (b.epochWait i ref).epochOf i = { b.epochOf i with refs := (b.epochOf i).refs ++ [ref] } :=
  (Blk.epochOf_setEpoch ..).trans (if_pos rfl)

section
variable (hparts : b.part.variant.stitchers ≠ 0) (hleads : b.following = false) (hid : leAt d 8 2 ≠ 0)
include hparts hleads hid

theorem Blk.keyRetire_unknown (hnone : b.epochOfId (leAt d 8 2) = none) : b.keyRetire ref d = b.complete ref stOk [] := by
  simp only [Blk.keyRetire, if_neg hparts, hleads, Bool.false_eq_true, if_false, if_neg hid, hnone]

variable {i : Nat} (hslot : b.epochOfId (leAt d 8 2) = some i)
include hslot

/-- KEY_RETIRE of an identifier that a slot holds, by the state of the slot. -/
theorem Blk.keyRetire_known : b.keyRetire ref d =
    if (b.epochOf i).st = 4 then b.epochWait i ref
    else if (b.epochOf i).st = 2 ∧ (!bitOf (byteAt d 10) 0) = true then b.complete ref stDenied []
    else (b.keyExpire i).epochWait i ref := by
  simp only [Blk.keyRetire, if_neg hparts, hleads, Bool.false_eq_true, if_false, if_neg hid, hslot]

theorem Blk.keyRetire_retiring (hst : (b.epochOf i).st = 4) : b.keyRetire ref d = b.epochWait i ref :=
  (Blk.keyRetire_known hparts hleads hid hslot).trans (if_pos hst)

theorem Blk.keyRetire_denied (hst : (b.epochOf i).st = 2) (hforce : bitOf (byteAt d 10) 0 = false) :
    b.keyRetire ref d = b.complete ref stDenied [] :=
  (Blk.keyRetire_known hparts hleads hid hslot).trans ((if_neg (by omega)).trans (if_pos ⟨hst, by rw [hforce]; rfl⟩))

theorem Blk.keyRetire_expires (hst : (b.epochOf i).st ≠ 4) (hmay : (b.epochOf i).st = 2 → bitOf (byteAt d 10) 0 = true) :
    b.keyRetire ref d = (b.keyExpire i).epochWait i ref :=
  (Blk.keyRetire_known hparts hleads hid hslot).trans
    ((if_neg hst).trans (if_neg fun hdenied => by simp [hmay hdenied.1] at hdenied))

end
end

/-! ### The slot is EMPTY again -/

section
variable {b : Blk} {n : Nat}

theorem Blk.completions_frame (l : List DRef) (b : Blk) : FrameM 0x400090008 b (l.foldl (fun x ref => x.complete ref stOk []) b) :=
  FrameM.foldI (fun c ref => Blk.complete_frame c ref stOk []) (of_eq_true (FrameM.refl ..))

/-- The slot has come to EMPTY, its key zeroised, and nothing is completed yet. -/
def Blk.zeroised (b : Blk) (n : Nat) : Blk :=
  let c := (b.setEpoch n {}).recNts n (b.epochOf n).id 1
  { c.setF R.NTS_STATUS_KEY_EVENT with ctr := tdel c.ctr (C.NTS_EPOCH_OPEN n) }

theorem Blk.zeroised_nts (b : Blk) (n : Nat) : (b.zeroised n).nts = (b.setEpoch n {}).nts := (Blk.recNts_frame ..).same .nts rfl

theorem Blk.zeroised_flag (b : Blk) (n : Nat) : (b.zeroised n).flag R.NTS_STATUS_KEY_EVENT = true :=
  ((FrameM.upd_ctr _).flag rfl _).trans (Blk.flag_setF_self _ _ (by decide) (by decide))

theorem Blk.zeroised_frame (b : Blk) (n : Nat) : FrameM 0x80020038 b (b.zeroised n) :=
  ((((Blk.setEpoch_frame ..).mono rfl).trans ((Blk.recNts_frame ..).mono rfl)).trans ((Blk.setF_frame ..).mono rfl)).trans
    ((FrameM.upd_ctr _).mono rfl)

/-- The slot is EMPTY and the KEY_RETIREs that waited for it are completed. -/
def Blk.emptied (b : Blk) (n : Nat) : Blk := (b.epochOf n).refs.foldl (fun x ref => x.complete ref stOk []) (b.zeroised n)

theorem Blk.emptied_nts (b : Blk) (n : Nat) : (b.emptied n).nts = (b.setEpoch n {}).nts :=
  ((Blk.completions_frame ..).same .nts rfl).trans (b.zeroised_nts n)

theorem Blk.emptied_flag (b : Blk) (n : Nat) : (b.emptied n).flag R.NTS_STATUS_KEY_EVENT = true :=
  ((Blk.completions_frame ..).flag rfl _).trans (b.zeroised_flag n)

theorem Blk.emptied_frame (b : Blk) (n : Nat) : FrameM 0x4800b0038 b (b.emptied n) :=
  ((b.zeroised_frame n).mono rfl).trans ((Blk.completions_frame ..).mono rfl)

theorem Blk.epochOf_emptied (b : Blk) (n j : Nat) : (b.emptied n).epochOf j = if j = n then {} else b.epochOf j :=
  (Blk.epochOf_congr (b.emptied_nts n) j).trans (Blk.epochOf_setEpoch ..)

theorem Blk.epochEmpty_ignored (h : (b.epochOf n).st ≠ 4) : b.epochEmpty n = b := if_pos h

/-- With no KEY_INSTALL waiting for a slot nothing more follows. -/
theorem Blk.epochEmpty_empties (h : (b.epochOf n).st = 4) (hwaits : b.nts.waits = []) : b.epochEmpty n = b.emptied n := by
  have hnone : (b.emptied n).nts.waits = [] := (congrArg Nts.waits (b.emptied_nts n)).trans hwaits
  have hsame : { b.emptied n with nts := { (b.emptied n).nts with waits := [] } } = b.emptied n := by rw [← hnone]
  calc b.epochEmpty n
    _ = (b.emptied n).nts.waits.foldl (fun x q => x.keyPlace q.1 ⟨q.2.1, q.2.2.1, q.2.2.2.1, q.2.2.2.2⟩)
          { b.emptied n with nts := { (b.emptied n).nts with waits := [] } } := if_neg (not_not.mpr h)
    _ = b.emptied n := by rw [hnone]; exact hsame

end

/-! ### The commands -/

section
variable {s : State} {w r n k : Nat} {d : Desc} {blk : Bytes}

theorem exec_keyInstall_of_ready (h : Ready (s.blk.pass w) r d 0x10) :
    exec (.keyInstall w r blk) s
      = .next { s with blk := Blk.settle s.blk (((s.blk.pass w).beginDesc r d).keyInstall ⟨r, d.id⟩ d.data blk) } :=
  exec_of_ready (c := .keyInstall w r blk) rfl h rfl

theorem exec_keyRetire_of_ready (h : Ready (s.blk.pass w) r d 0x11) :
    exec (.keyRetire w r) s = .next { s with blk := Blk.settle s.blk (((s.blk.pass w).beginDesc r d).keyRetire ⟨r, d.id⟩ d.data) } :=
  exec_of_ready (c := .keyRetire w r) rfl h rfl

theorem exec_keyEmpty (hn : n < 4) :
    exec (.keyEmpty w n) s = .next { s with blk := Blk.settle s.blk ((s.blk.pass w).epochEmpty n) } := by
  rw [show exec (.keyEmpty w n) s = execKeyEmpty w n s from rfl, execKeyEmpty, State.upd, if_pos hn]

/-- A slot that is not RETIRING, one beyond the last among them, stays as it is. -/
theorem exec_keyEmpty_ignored (h : ((s.blk.pass w).epochOf n).st ≠ 4) :
    exec (.keyEmpty w n) s = .next { s with blk := Blk.settle s.blk (s.blk.pass w) } := by
  rw [show exec (.keyEmpty w n) s = execKeyEmpty w n s from rfl, execKeyEmpty, State.upd, Blk.epochEmpty_ignored h, ite_self]

section
variable {x : Ctx} (hctx : (s.blk.pass w).ctxAt? k = some x)
include hctx

theorem exec_aged_over (hover : x.leaseEnd ≤ (s.blk.pass w).leaseNow) :
    exec (.aged w k) s = .next { s with blk := Blk.settle s.blk ((s.blk.pass w).ctxRevoke k).txRetry } := by
  rw [show exec (.aged w k) s = execAged w k s from rfl, execAged, State.upd]
  simp only [hctx, if_pos hover]

theorem exec_aged_held (hheld : (s.blk.pass w).leaseNow < x.leaseEnd) :
    exec (.aged w k) s = .next { s with blk := Blk.settle s.blk (s.blk.pass w) } := by
  rw [show exec (.aged w k) s = execAged w k s from rfl, execAged, State.upd]
  simp only [hctx, if_neg (Nat.not_le.mpr hheld)]

end

/-- A KEY_RETIRE that answers `u`. -/
theorem answers_keyRetire {u : Blk} (h : Ready (s.blk.pass w) r d 0x11)
    (hu : ((s.blk.pass w).beginDesc r d).keyRetire ⟨r, d.id⟩ d.data = u) :
    Answers (.keyRetire w r) s (touches (.keyRetire w r)) fun v => v = u :=
  ⟨u, hu ▸ exec_keyRetire_of_ready h,
    hu ▸ .of_pieceBits (((Blk.beginDesc_frame ..).mono rfl).trans (Blk.keyRetire_frame ..)) rfl, rfl⟩

end

/-- Settles O54: each clause is the row of its command that applies. -/
theorem epochsInstalledAndRetired : Obligations.EpochsInstalledAndRetired := by
  intro s w r n k blk d b c id live slots
  refine ⟨fun h hparts hfollows => ?follower, fun act exp key h hparts hleads hact hexp hid horder hahead hkey => ?install,
    fun h hparts hleads hid => ⟨fun hnone => ?unknown, fun i hslot =>
      ⟨fun hst => ?retiring, fun hst hforce => ?denied, fun hst hforce => ?forced, fun hst hst' => ?retired⟩⟩,
    fun hn hst hwaits => ?empties, fun hst => answers_idle (exec_keyEmpty_ignored hst) rfl,
    fun x hctx hover => ?revoked, fun x hctx hheld => answers_idle (exec_aged_held hctx hheld) rfl⟩
  case follower => exact completes_only (exec_keyInstall_of_ready h) (Blk.keyInstall_denied (b := c) hparts hfollows)
  case install =>
    have hplace : c.keyInstall ⟨r, d.id⟩ d.data blk = c.keyPlace ⟨r, d.id⟩ ⟨id, key, act, exp⟩ :=
      Blk.keyInstall_places (b := c) hparts hleads hact hexp hid horder hahead hkey
    refine ⟨fun hheld => ?held, fun htaken hother => ?taken, fun i hfree hempty hlater => ?fills⟩
    case held => exact completes_only (exec_keyInstall_of_ready h) (hplace.trans (Blk.keyPlace_held hheld))
    case taken => exact completes_only (exec_keyInstall_of_ready h) (hplace.trans (Blk.keyPlace_idTaken htaken hother))
    case fills =>
      have hfills := hplace.trans (Blk.keyPlace_fills hfree hempty)
      have hepoch := Blk.epochInstall_epochOf (b := c) (k := ⟨id, key, act, exp⟩) hlater i
      have hnew := (hepoch i).trans (if_pos rfl)
      refine ⟨_, exec_keyInstall_of_ready h, .of_pieceBits (((Blk.beginDesc_frame ..).mono rfl).trans (Blk.keyInstall_frame ..)) rfl,
        _, hfills, ?_⟩
      rw [hnew]
      exact ⟨rfl, rfl, rfl, rfl, rfl, c.pendingEpoch_actEntry _, c.pendingEpoch_expEntry _, fun j hj => (hepoch j).trans (if_neg hj)⟩
  case unknown => exact completes_only (exec_keyRetire_of_ready h) (Blk.keyRetire_unknown (b := c) hparts hleads hid hnone)
  case retiring =>
    have hwaits := Blk.keyRetire_retiring (b := c) (ref := ⟨r, d.id⟩) hparts hleads hid hslot hst
    exact ⟨_, hwaits ▸ exec_keyRetire_of_ready h,
      .of (((Blk.beginDesc_frame ..).mono rfl).trans ((Blk.epochWait_frame ..).mono rfl)) rfl, Blk.epochOf_epochWait_self ..⟩
  case denied => exact completes_only (exec_keyRetire_of_ready h) (Blk.keyRetire_denied (b := c) hparts hleads hid hslot hst hforce)
  case forced =>
    exact answers_keyRetire h
      (Blk.keyRetire_expires (b := c) hparts hleads hid hslot (ne_of_eq_of_ne hst (by decide)) fun _ => hforce)
  case retired => exact answers_keyRetire h (Blk.keyRetire_expires (b := c) hparts hleads hid hslot hst' fun hcur => absurd hcur hst)
  case empties =>
    have hepoch := b.epochOf_emptied n
    exact ⟨_, Blk.epochEmpty_empties hst hwaits ▸ exec_keyEmpty hn, .of (b.emptied_frame n) rfl,
      (hepoch n).trans (if_pos rfl), b.emptied_flag n, fun j hj => (hepoch j).trans (if_neg hj)⟩
  case revoked =>
    exact ⟨_, exec_aged_over hctx hover, .of_pieceBits ((Blk.ctxRevoke_frame ..).trans ((Blk.txRetry_frame _).mono rfl)) rfl, rfl⟩

end Sys2Proof.Machine
end

section
/-! The timers of PTP: sweeps, follow-ups, grants, the Announce timeout, the residence limit and the end of an estimate (10 R271 to R280). -/

namespace Sys2Proof.Machine

/-- A command whose work leaves `x`, where `x` is `u`. -/
theorem answers_of_eq {c : Instr} {s : State} {m : Nat} {ps : List Piece} {x u : Blk} {P : Blk → Prop}
    (hexec : exec c s = .next { s with blk := Blk.settle s.blk x }) (hx : x = u) (hframe : FrameM m (s.blk.pass c.wait) u)
    (hm : pieceBits ps = m) (hP : P u) : Answers c s ps P :=
  ⟨u, hx ▸ hexec, .of_pieceBits hframe hm, hP⟩

/-! ### Grid points (R272) -/

section
variable {b : Blk} {p t : Nat} {n : Int}

/-- The block with grid point t of an interval noted as passed, and counted. -/
def Blk.gridPassed (b : Blk) (key t : Nat) : Blk :=
  Blk.pmcEvent { b with ptp := { b.ptp with sweeps := tput b.ptp.sweeps key t } } 0xA0 0 1

theorem Blk.gridPassed_frame (b : Blk) (key t : Nat) : FrameM 0x100080000 b (b.gridPassed key t) :=
  ((FrameM.upd_ptp b).mono rfl).trans ((Blk.pmcEvent_frame ..).mono rfl)

theorem Blk.gridPassed_sweeps (b : Blk) (key t : Nat) : (b.gridPassed key t).ptp.sweeps = tput b.ptp.sweeps key t :=
  congrArg Ptp.sweeps ((Blk.pmcEvent_frame ..).same .ptp rfl)

theorem Blk.gridPassed_portOf (b : Blk) (key t p : Nat) : (b.gridPassed key t).portOf p = b.portOf p :=
  (b.gridPassed_frame key t).portOf rfl p

/-- The messages of all four grandmasters due on port p at an interval. -/
def Blk.sweepAll (b : Blk) (p : Nat) (n : Int) : Blk :=
  [0, 1, 2, 3].foldl (fun x j => (x.sweepMulti j p n).sweepUni j p n) b

theorem Blk.sweepAll_frame (b : Blk) (p : Nat) (n : Int) : FrameM 0x508000024 b (b.sweepAll p n) :=
  .foldI (fun c j => (c.sweepMulti_frame j p n).trans (Blk.sweepUni_frame ..)) (of_eq_true (FrameM.refl ..))

theorem Blk.sweep_outOfRange (h : (b.ins.running && b.portPresent p) = false ∨ n < -8 ∨ 7 < n) : b.sweep p n = b := by
  refine if_pos ?_
  rw [← Bool.not_and]
  simpa only [Bool.or_eq_true, Bool.not_eq_true', decide_eq_true_eq, or_assoc] using h

section
variable (hcan : (b.ins.running && b.portPresent p) = true) (hlo : -8 ≤ n) (hhi : n ≤ 7)
include hcan hlo hhi

theorem Blk.sweep_notDue (hdue : b.gridDue (sweepKey p n) (logU n) = none) : b.sweep p n = b := by
  simp only [Blk.sweep]
  rw [← Bool.not_and, hcan, if_neg (by simp [hlo, hhi]), hdue]

theorem Blk.sweep_due (hdue : b.gridDue (sweepKey p n) (logU n) = some t) :
    b.sweep p n = if (b.portOf p).link then (b.gridPassed (sweepKey p n) t).sweepAll p n else b.gridPassed (sweepKey p n) t := by
  simp only [Blk.sweep]
  rw [← Bool.not_and, hcan, if_neg (by simp [hlo, hhi]), hdue, ← b.gridPassed_portOf (sweepKey p n) t]
  rfl

end

/-- The offset of the client's request lies in the second half of its interval. -/
theorem Blk.sweepClient_secondHalf (h : let iv := logU (b.rdS (R.PTP_RC_CFG_LOG_DREQ p)); iv ≤ 2 * (b.ins.now % iv)) :
    b.sweepClient p = b := if_pos (by simp [h])

theorem Blk.sweepClient_firstHalf (hcan : (b.ins.running && b.portPresent p) = true)
    (hhalf : let iv := logU (b.rdS (R.PTP_RC_CFG_LOG_DREQ p)); 2 * (b.ins.now % iv) < iv)
    (hdue : b.gridDue (512 + p) (logU (b.rdS (R.PTP_RC_CFG_LOG_DREQ p))) = some t) (hlink : (b.portOf p).link = true) :
    b.sweepClient p = (b.gridPassed (512 + p) t).clientRequest p := by
  simp only [Blk.sweepClient]
  rw [← Bool.not_and, hcan, if_neg (by simp [hhalf]), hdue]
  refine if_pos ?_
  rw [← hlink, ← b.gridPassed_portOf (512 + p) t]
  rfl

end

/-! ### Messages note no grid point -/

theorem Blk.ite_sweeps {q : Prop} [Decidable q] {x y : Blk} (h : x.ptp.sweeps = y.ptp.sweeps) :
    (if q then x else y).ptp.sweeps = y.ptp.sweeps := by
  split
  · exact h
  · rfl

theorem FrameM.sweeps {m : Nat} {a b : Blk} (h : FrameM m a b) (hm : m.testBit Piece.ptp.ctorIdx = false) : b.ptp.sweeps = a.ptp.sweeps :=
  congrArg Ptp.sweeps (h.same .ptp hm)

theorem Blk.ptpSeqNext_sweeps (b : Blk) (k : Nat) : (b.ptpSeqNext k).ptp.sweeps = b.ptp.sweeps := rfl

theorem Blk.sweepMulti_sweeps (b : Blk) (i p : Nat) (n : Int) : (b.sweepMulti i p n).ptp.sweeps = b.ptp.sweeps := by
  have hsync (c : Blk) (v : PtpVia) (seq log k : Nat) : ((c.sendSync i p v false seq log).ptpSeqNext k).ptp.sweeps = c.ptp.sweeps :=
    (Blk.ptpSeqNext_sweeps ..).trans ((Blk.sendSync_frame ..).sweeps rfl)
  have hann (c : Blk) (v : PtpVia) (seq log k : Nat) : ((c.sendAnn i p v false seq log).ptpSeqNext k).ptp.sweeps = c.ptp.sweeps :=
    (Blk.ptpSeqNext_sweeps ..).trans ((Blk.sendAnn_frame ..).sweeps rfl)
  have hpdelay (c : Blk) : (c.sendPdelayReq i p).ptp.sweeps = c.ptp.sweeps :=
    (Blk.ptpSeqNext_sweeps ..).trans ((Blk.ptpEvent_frame ..).sweeps rfl)
  exact (Blk.ite_sweeps (hpdelay _)).trans ((Blk.ite_sweeps (hann ..)).trans (Blk.ite_sweeps (hsync ..)))

theorem Blk.grantSeqNext_sweeps (b : Blk) (x : PSess) (msg : Nat) : (b.grantSeqNext x msg).ptp.sweeps = b.ptp.sweeps := rfl

theorem Blk.sweepGrant_sweeps (b : Blk) (x : PSess) (n : Int) (msg : Nat) : (b.sweepGrant x n msg).ptp.sweeps = b.ptp.sweeps := by
  unfold Blk.sweepGrant
  split
  · rfl
  · refine (Blk.grantSeqNext_sweeps ..).trans ?_
    split
    · exact (Blk.sendSync_frame ..).sweeps rfl
    · exact (Blk.sendAnn_frame ..).sweeps rfl

theorem Blk.sweepUni_sweeps (b : Blk) (i p : Nat) (n : Int) : (b.sweepUni i p n).ptp.sweeps = b.ptp.sweeps := by
  unfold Blk.sweepUni
  split
  · rfl
  · exact foldl_keeps (v := fun c : Blk => c.ptp.sweeps)
      (fun c x _ => ((c.sweepGrant x n 0).sweepGrant_sweeps x n 0xB).trans (c.sweepGrant_sweeps x n 0)) b

theorem Blk.sweepAll_sweeps (b : Blk) (p : Nat) (n : Int) : (b.sweepAll p n).ptp.sweeps = b.ptp.sweeps :=
  foldl_keeps (v := fun c : Blk => c.ptp.sweeps)
    (fun c j _ => ((c.sweepMulti j p n).sweepUni_sweeps j p n).trans (c.sweepMulti_sweeps j p n)) b

/-! ### Follow-ups and signals (R273, R277) -/

/-- The block with `l` as the event messages that have left and lack their follow-up. -/
def Blk.withFups (b : Blk) (l : List Fup) : Blk := { b with ptp := { b.ptp with fups := l } }

theorem Blk.followUp_none {b : Blk} (h : b.ptp.fups = []) : b.followUp = b := by
  rw [Blk.followUp, h]

theorem Blk.followUp_oldest {b : Blk} {x : Fup} {l : List Fup} (h : b.ptp.fups = x :: l) :
    b.followUp = let c := b.withFups l; c.ptpPut (c.ptpTx x.port .keep none (c.followFrame x)) := by
  rw [Blk.followUp, h]
  rfl

theorem Blk.ptpPut_ptp (b : Blk) (f : TxF) : (b.ptpPut f).ptp = b.ptp := (Blk.ptpPut_frame ..).same .ptp rfl

/-- Each message built passes the same number of free values. -/
theorem Blk.ptpPut_freeCtr (b : Blk) (f : TxF) : (b.ptpPut f).freeCtr = b.freeCtr + ptpDraws := by
  unfold Blk.ptpPut
  dsimp only
  split
  · rfl
  · split
    · next c hc => exact (Blk.sendBuilt_frame _ f c hc).same .freeCtr rfl
    · rfl

theorem Blk.sendSignal_ptp (b : Blk) (p dom : Nat) (v : PtpVia) (target tlvs : Bytes) :
    (b.sendSignal p dom v target tlvs).ptp = { b.ptp with sigSeq := (b.ptp.sigSeq + 1) % 0x10000 } :=
  congrArg (fun x : Ptp => { x with sigSeq := (x.sigSeq + 1) % 0x10000 }) (b.ptpPut_ptp _)

theorem Blk.sendSignal_freeCtr (b : Blk) (p dom : Nat) (v : PtpVia) (target tlvs : Bytes) :
    (b.sendSignal p dom v target tlvs).freeCtr = b.freeCtr + ptpDraws := b.ptpPut_freeCtr _

/-! ### Grants (R274, R277) -/

theorem sameSess_comm (x y : PSess) : sameSess x y = sameSess y x := by
  rw [sameSess, sameSess, BEq.comm (a := x.port), BEq.comm (a := x.inst), BEq.comm (a := x.ident), BEq.comm (a := x.addr)]

/-- A session written in the place of its like: what stays has grants, and is it or another. -/
theorem Blk.mem_sessPut {b : Blk} {x y : PSess} (hx : b.ptp.sess.any (sameSess x) = true) (hy : y ∈ (b.sessPut x).ptp.sess) :
    y.grants ≠ [] ∧ (y = x ∨ sameSess x y = false) := by
  rw [Blk.sessPut, if_pos hx] at hy
  obtain ⟨hput, hgrants⟩ := List.mem_filter.mp hy
  obtain ⟨o, -, rfl⟩ := List.mem_map.mp hput
  refine ⟨by simpa using hgrants, ?_⟩
  split
  · exact .inl rfl
  · next hother => exact .inr (Bool.eq_false_iff.mpr hother)

/-- A session without the grants of a message type that have ended by time `up`. -/
def PSess.unexpired (x : PSess) (msg up : Nat) : PSess :=
  { x with grants := x.grants.filter fun g => !(g.msg == msg && decide (g.endUp ≤ up)) }

theorem PSess.lt_endUp_of_unexpired {x : PSess} {g : Grant} {msg up : Nat} (hg : g ∈ (x.unexpired msg up).grants) (hmsg : g.msg = msg) :
    up < g.endUp := by
  have hkept := (List.mem_filter.mp hg).2
  simpa [hmsg] using hkept

theorem Blk.grantExpire_session {b : Blk} {i : Nat} {x : PSess} (h : b.ptp.sess[i]? = some x) (msg : Nat) :
    b.grantExpire i msg = b.sessPut (x.unexpired msg b.up) := by
  rw [Blk.grantExpire, h]
  rfl

theorem Blk.grantExpire_noSession {b : Blk} {i : Nat} (h : b.ptp.sess[i]? = none) (msg : Nat) : b.grantExpire i msg = b := by
  rw [Blk.grantExpire, h]

/-- What an expiry leaves: sessions with grants, and in that of its index none of the type that has ended. -/
theorem Blk.grantExpire_sess {b : Blk} {i msg : Nat} {x y : PSess} (h : b.ptp.sess[i]? = some x) (hy : y ∈ (b.grantExpire i msg).ptp.sess) :
    y.grants ≠ [] ∧ (sameSess y x = true → ∀ g ∈ y.grants, g.msg = msg → b.up < g.endUp) := by
  rw [Blk.grantExpire_session h] at hy
  have hlike : b.ptp.sess.any (sameSess (x.unexpired msg b.up)) = true :=
    List.any_eq_true.mpr ⟨x, List.mem_of_getElem? h, by simp [sameSess, PSess.unexpired]⟩
  obtain ⟨hgrants, rfl | hother⟩ := Blk.mem_sessPut hlike hy
  · exact ⟨hgrants, fun _ g hg hmsg => PSess.lt_endUp_of_unexpired hg hmsg⟩
  · exact ⟨hgrants, fun hsame => Bool.noConfusion (hother.symm.trans ((sameSess_comm x y).trans hsame))⟩

theorem Blk.clientRenew_idle {b : Blk} {p i msg : Nat} (h : b.renewDue p i msg = false) : b.clientRenew p i msg = b :=
  if_neg (by simp [h])

theorem Blk.clientRenew_asks {b : Blk} {p i msg : Nat} (hp : p < 32) (hruns : b.clientRuns p = true) (huni : b.clientUni p = true)
    (hi : i < 32) (hon : b.masterOn p i = true) (hwants : b.clientWants p msg = true) (hdue : b.renewDue p i msg = true) :
    ∃ tlv, b.clientRenew p i msg
      = b.sendSignal p (b.rd (R.PTP_RC_CFG_DOMAIN p)) (b.clientVia p i false) (List.replicate 10 0xFF) tlv :=
  ⟨_, if_pos (by simp [hp, hruns, huni, hi, hon, hwants, hdue])⟩

/-! ### The Announce timeout (R271) -/

section
variable {b : Blk} {i p : Nat}

/-- Grandmaster i is PASSIVE on port p no longer. -/
def Blk.speakAgain (b : Blk) (i p : Nat) : Blk :=
  { b with ptp := { b.ptp with passive := tput b.ptp.passive i (putBit (tget 0 b.ptp.passive i) p false) } }

theorem Blk.instTimeout_speaks (hpassive : bitOf (tget 0 b.ptp.passive i) p = true)
    (hlate : tget 0 b.ptp.betterAt (bmcaKey i p) + b.rd (R.PTP_INST_RATE_ANN_TIMEOUT i) * logU (b.rdS (R.PTP_INST_RATE_LOG_ANN i)) ≤ b.up) :
    b.instTimeout i p = ((b.foreignDrop i p (b.rd (R.PTP_INST_RATE_ANN_TIMEOUT i))).speakAgain i p).recPtp p i 2 :=
  if_pos ((Bool.and_eq_true ..).mpr ⟨hpassive, decide_eq_true hlate⟩)

theorem Blk.instTimeout_stays (h : bitOf (tget 0 b.ptp.passive i) p = false
      ∨ ¬tget 0 b.ptp.betterAt (bmcaKey i p) + b.rd (R.PTP_INST_RATE_ANN_TIMEOUT i) * logU (b.rdS (R.PTP_INST_RATE_LOG_ANN i)) ≤ b.up) :
    b.instTimeout i p = b.foreignDrop i p (b.rd (R.PTP_INST_RATE_ANN_TIMEOUT i)) := by
  refine if_neg fun hboth => ?_
  obtain ⟨hpassive, hlate⟩ := (Bool.and_eq_true ..).mp hboth
  exact h.elim (fun hspeaks => Bool.noConfusion (hspeaks.symm.trans hpassive)) fun hearly => hearly (of_decide_eq_true hlate)

theorem Blk.recPtp_ptp (b : Blk) (port inst event : Nat) : (b.recPtp port inst event).ptp = b.ptp := (Blk.recPtp_frame ..).same .ptp rfl

variable {s : State} {w : Nat}

theorem exec_announceTimeout_grandmaster (hp : p < 32) (hi : i < 4) :
    exec (.announceTimeout w p i) s = .next { s with blk := Blk.settle s.blk ((s.blk.pass w).instTimeout i p) } := by
  rw [show exec (.announceTimeout w p i) s = execAnnounceTimeout w p i s from rfl, execAnnounceTimeout, State.upd,
    if_neg (Nat.not_le.mpr hp), if_pos hi]

theorem exec_announceTimeout_client (hp : p < 32) :
    let c := (s.blk.pass w).foreignDrop 8 p 3
    exec (.announceTimeout w p 8) s = .next { s with blk := Blk.settle s.blk (if c.clientRuns p then c.clientChoose p else c) } := by
  rw [show exec (.announceTimeout w p 8) s = execAnnounceTimeout w p 8 s from rfl, execAnnounceTimeout, State.upd,
    if_neg (Nat.not_le.mpr hp), if_neg (by decide)]

end

/-! ### The residence limit (R276) -/

section
variable {b : Blk} {p id : Nat} {f : TxF} {r : Int} (hf : (b.portOf p).queue.find? (fun f => f.id == id) = some f) (hr : b.resideNow f = some r)
include hf hr

theorem Blk.maxRes_reached (h : (usU (atLeast1 (b.rd R.PTP_FWD_CTRL_MAX_RES_US)) : Int) ≤ r) :
    b.maxRes p id = (((b.takeFrame f).frameFree f).inc C.PTP_FWD_DROP).txRetry := by
  simp only [Blk.maxRes, hf, hr, if_pos h]

theorem Blk.maxRes_below (h : r < (usU (atLeast1 (b.rd R.PTP_FWD_CTRL_MAX_RES_US)) : Int)) : b.maxRes p id = b := by
  simp only [Blk.maxRes, hf, hr, if_neg (Int.not_le.mpr h)]

end

/-! ### Clients and their slots under a frame -/

theorem Blk.clientOf_congr {a b : Blk} (h : a.ptp = b.ptp) (p : Nat) : a.clientOf p = b.clientOf p := by
  rw [Blk.clientOf, Blk.clientOf, h]

theorem FrameM.clientOf {m : Nat} {a b : Blk} (h : FrameM m a b) (hm : m.testBit Piece.ptp.ctorIdx = false) (p : Nat) :
    b.clientOf p = a.clientOf p := Blk.clientOf_congr (h.same .ptp hm) p

theorem FrameM.clientSlot {m : Nat} {a b : Blk} (h : FrameM m a b) (hm : m.testBit Piece.regs.ctorIdx = false) (p : Nat) :
    b.clientSlot p = a.clientSlot p := by
  simp only [Blk.clientSlot, Blk.slotKind, Blk.slotObj, h.rd hm]

/-! ### A slot thaws (R280) -/

/-- Slot k is not FROZEN. -/
def Blk.Unfrozen (b : Blk) (k : Nat) : Prop := (b.slotOf k).frozen = false

theorem Blk.Unfrozen.ite {q : Prop} [Decidable q] {x y : Blk} {k : Nat} (hx : x.Unfrozen k) (hy : y.Unfrozen k) :
    (if q then x else y).Unfrozen k := by
  split
  · exact hx
  · exact hy

theorem Blk.Unfrozen.setSlot {b : Blk} {k : Nat} {x : Slot} (h : x.frozen = false) : (b.setSlot k x).Unfrozen k := by
  rw [Blk.Unfrozen, Blk.slotOf_setSlot, if_pos rfl, h]

theorem Blk.Unfrozen.slotMove {b : Blk} {k : Nat} {x : Slot} {st : SlotState} {cause : Nat} (h : x.frozen = false) :
    (b.slotMove k x st cause).Unfrozen k := by
  rw [Blk.Unfrozen, Blk.slotOf_slotMove, h]

/-- No evaluation freezes a slot. -/
theorem Blk.Unfrozen.slotEval {b : Blk} {k : Nat} (h : b.Unfrozen k) : (b.slotEval k).Unfrozen k := by
  unfold Blk.slotEval
  dsimp only
  split
  case h_1 => exact .ite (.setSlot h) (.slotMove rfl)
  case h_2 =>
    split
    case h_1 => exact .ite (.slotMove h) (.slotMove h)
    case h_2 =>
      have hfailed : ((b.slotOf k).frozen && b.rejectCause k != some 4) = false := (Bool.and_eq_false_iff ..).mpr (.inl h)
      exact .ite (.ite (.slotMove h) (.ite (.slotMove h) (.slotMove hfailed))) h
    case h_3 => exact .ite (.slotMove h) (.ite h (.slotMove h))
    case h_4 => exact .ite (.slotMove h) (.ite h (.setSlot h))
    case h_5 => exact .ite (.slotMove h) h
    case h_6 => exact .ite (.slotMove h) h
    case h_7 => exact h
    case h_8 => exact h

theorem Blk.refsSettle_frozen (b : Blk) (k : Nat) : (b.refsSettle.slotOf k).frozen = (b.slotOf k).frozen :=
  (congrArg Slot.frozen (b.refsSettle_slotsStay.steady k) :)

/-- The block whose client of port p has no freeze. -/
def Blk.freezeOver (b : Blk) (p : Nat) : Blk := b.setClient p { b.clientOf p with freeze := 0 }

/-- The slot k, FROZEN no longer, evaluated and settled. -/
def Blk.slotThawed (b : Blk) (k : Nat) : Blk := ((b.setSlot k { b.slotOf k with frozen := false }).slotEval k).refsSettle

theorem Blk.slotThawed_frame (b : Blk) (k : Nat) : FrameM 0x1c20008 b (b.slotThawed k) :=
  ((FrameM.upd_refs b).mono rfl).trans (((Blk.slotEval_frame ..).mono rfl).trans (Blk.refsSettle_frame _))

theorem Blk.slotThawed_unfrozen (b : Blk) (k : Nat) : (b.slotThawed k).Unfrozen k :=
  (Blk.refsSettle_frozen ..).trans (Blk.Unfrozen.slotEval (.setSlot rfl))

theorem Blk.thaw_eq (b : Blk) (p : Nat) :
    b.thaw p = match b.clientSlot p with | none => b.freezeOver p | some k => (b.freezeOver p).slotThawed k := rfl

theorem Blk.thaw_clientOf (b : Blk) (p : Nat) : (b.thaw p).clientOf p = { b.clientOf p with freeze := 0 } := by
  have hover : (b.freezeOver p).clientOf p = { b.clientOf p with freeze := 0 } := tget_tput_self ..
  rw [Blk.thaw_eq]
  split
  · exact hover
  · exact ((Blk.slotThawed_frame ..).clientOf rfl p).trans hover

theorem Blk.thaw_clientFrozen (b : Blk) (p : Nat) : (b.thaw p).clientFrozen p = false := by
  rw [Blk.clientFrozen, (b.thaw_frame p).clientSlot rfl, Blk.thaw_eq]
  split
  · next k hk =>
    simp only [hk]
    exact Blk.slotThawed_unfrozen ..
  · rfl

/-! ### The end of an estimate (R280) -/

section
variable {b : Blk} {p t : Nat}

/-- The change of q from the pre-step window to the post-step window, which begins at t. -/
def Blk.estShift (b : Blk) (p t : Nat) : Int := b.meanQ p t - b.meanQ p ((b.clientOf p).stepAt - b.asymU p)

/-- The estimate of port p applied to the asymmetry, and told. -/
def Blk.estApplied (b : Blk) (p t : Nat) : Blk :=
  let a := max (-2147483647) (min 2147483647 (b.rdS (R.PTP_RC_ASYM_VALUE p) - toPs (b.estShift p t)))
  let c := (b.setClient p { b.clientOf p with estDone := true }).wrPs (R.PTP_RC_ASYM_VALUE p) a
  ((c.setF (R.PTP_RC_ST_ASYM_EVENT p)).inc C.PTP_ASYM_EST).recPtp p 0xFF 5

theorem Blk.estApplied_clientOf (b : Blk) (p t : Nat) : (b.estApplied p t).clientOf p = { b.clientOf p with estDone := true } :=
  (Blk.clientOf_congr (Blk.recPtp_ptp ..) p).trans (tget_tput_self ..)

theorem Blk.estApplied_event (b : Blk) (p t : Nat) : (b.estApplied p t).flag (R.PTP_RC_ST_ASYM_EVENT p) = true :=
  ((Blk.recPtp_frame ..).flag rfl _).trans (((Blk.inc_frame ..).flag rfl _).trans
    (Blk.flag_setF_self _ _ Nat.one_ne_zero (show 16 + 1 ≤ 32 by decide)))

theorem Blk.estFail_clientOf (b : Blk) (p : Nat) : (b.estFail p).clientOf p = { b.clientOf p with estDone := true } :=
  (Blk.clientOf_congr (Blk.recPtp_ptp ..) p).trans (tget_tput_self ..)

theorem Blk.estFail_noAnchor (b : Blk) (p : Nat) : (b.estFail p).flag (R.PTP_RC_ST_NO_ANCHOR p) = true :=
  ((Blk.recPtp_frame ..).flag rfl _).trans (Blk.flag_setF_self _ _ Nat.one_ne_zero (show 17 + 1 ≤ 32 by decide))

theorem Blk.estCheck_holds (h : b.anchorHolds p = true) : b.estCheck p = b := if_neg (by simp [h])

section
variable (hpost : (b.clientOf p).postFrom = some t) (hanchor : b.anchorHolds p = true)
include hpost hanchor

theorem Blk.estEnd_early (h : b.up < t + b.asymU p) : b.estEnd p = b := by
  simp only [Blk.estEnd, Blk.estCheck_holds hanchor, hpost, h, or_true, if_true]

section
variable (hfreeze : (b.clientOf p).freeze ≠ 0) (hfrozen : b.clientFrozen p = true) (hdone : (b.clientOf p).estDone = false)
  (hover : t + b.asymU p ≤ b.up)
include hfreeze hfrozen hdone hover

theorem Blk.estEnd_over :
    b.estEnd p = if nsU (b.rd (R.PTP_RC_ASYM_CFG_ASYM_MAX p)) < (b.estShift p t).natAbs then b.estFail p else (b.estApplied p t).thaw p := by
  simp only [Blk.estEnd, Blk.estCheck_holds hanchor]
  split
  · next hnone => exact nomatch hpost.symm.trans hnone
  · next t' hsome =>
    obtain rfl : t = t' := Option.some.inj (hpost.symm.trans hsome)
    exact if_neg (by simp [hfreeze, hfrozen, hdone, hover])

theorem Blk.estEnd_beyond (h : nsU (b.rd (R.PTP_RC_ASYM_CFG_ASYM_MAX p)) < (b.estShift p t).natAbs) : b.estEnd p = b.estFail p :=
  (Blk.estEnd_over hpost hanchor hfreeze hfrozen hdone hover).trans (if_pos h)

theorem Blk.estEnd_within (h : (b.estShift p t).natAbs ≤ nsU (b.rd (R.PTP_RC_ASYM_CFG_ASYM_MAX p))) :
    b.estEnd p = (b.estApplied p t).thaw p :=
  (Blk.estEnd_over hpost hanchor hfreeze hfrozen hdone hover).trans (if_neg (Nat.not_lt.mpr h))

end

end

theorem exec_asymEstimateDone {s : State} {w : Nat} (hp : p < 32) :
    exec (.asymEstimateDone w p) s = .next { s with blk := Blk.settle s.blk ((s.blk.pass w).estEnd p) } := by
  rw [show exec (.asymEstimateDone w p) s = execAsymEstimateDone w p s from rfl, execAsymEstimateDone, State.upd, if_pos hp]

end

/-- Settles O55: each timer is the row of its command that applies, with what it leaves. -/
theorem ptpTimersRun : Obligations.PtpTimersRun := by
  intro s w p i msg id n b iv can
  refine ⟨fun hcan hlo hhi => ⟨fun hnone => ?notDue, fun t hdue => ⟨fun hdown => ?linkDown, fun hup => ?linkUp⟩⟩, fun hout => ?noSweep,
    fun t hcan hhalf hdue hlink => ?client, fun hhalf => ?clientLate, fun hfups => ?noFollowUp, fun x l hfups => ?followUp,
    fun x hx => ?grant, fun hnone => ?noGrant, fun hp hruns huni hi hon hwants hdue => ?renew, fun hdue => ?noRenew,
    fun hp hi => ⟨fun hpassive hlate => ?speaks, fun hstays => ?silent⟩, fun hp hruns => ?clientTimeout, fun hp hruns => ?clientIdle,
    fun f r hf hr => ⟨fun hreached => ?dropped, fun hbelow => ?kept⟩,
    fun t hp hpost hfreeze hfrozen hdone hanchor => ⟨fun hearly => ?early, fun hover hbeyond => ?refused, fun hover hwithin => ?applied⟩⟩
  case notDue => exact answers_idle rfl (Blk.sweep_notDue hcan hlo hhi hnone)
  case linkDown =>
    exact answers_of_eq rfl ((Blk.sweep_due hcan hlo hhi hdue).trans (if_neg (by simp [hdown]))) (b.gridPassed_frame ..) rfl rfl
  case linkUp =>
    exact answers_of_eq rfl ((Blk.sweep_due hcan hlo hhi hdue).trans (if_pos hup))
      (((b.gridPassed_frame ..).mono rfl).trans ((Blk.sweepAll_frame ..).mono rfl)) rfl
      ⟨rfl, (Blk.sweepAll_sweeps ..).trans (b.gridPassed_sweeps ..)⟩
  case noSweep => exact answers_idle rfl (Blk.sweep_outOfRange hout)
  case client =>
    exact answers_of_eq rfl (Blk.sweepClient_firstHalf hcan hhalf hdue hlink)
      (((b.gridPassed_frame ..).mono rfl).trans ((Blk.clientRequest_frame ..).mono rfl)) rfl rfl
  case clientLate => exact answers_idle rfl (Blk.sweepClient_secondHalf hhalf)
  case noFollowUp => exact answers_idle rfl (Blk.followUp_none hfups)
  case followUp =>
    have hptp := (b.withFups l).ptpPut_ptp ((b.withFups l).ptpTx x.port .keep none ((b.withFups l).followFrame x))
    exact answers_of_eq rfl (Blk.followUp_oldest hfups) (((FrameM.upd_ptp b).mono rfl).trans ((Blk.ptpPut_frame ..).mono rfl)) rfl
      ⟨hptp, b.withFups l, hptp.symm, .of (FrameM.upd_ptp b) rfl, rfl⟩
  case grant => exact answers_of_eq rfl rfl (Blk.grantExpire_frame ..) rfl fun y hy => Blk.grantExpire_sess hx hy
  case noGrant => exact answers_idle rfl (Blk.grantExpire_noSession hnone msg)
  case renew =>
    obtain ⟨tlv, hasks⟩ := Blk.clientRenew_asks hp hruns huni hi hon hwants hdue
    exact answers_of_eq rfl hasks (Blk.sendSignal_frame ..) rfl ⟨Blk.sendSignal_ptp .., Blk.sendSignal_freeCtr ..⟩
  case noRenew => exact answers_idle rfl (Blk.clientRenew_idle hdue)
  case speaks =>
    have hframe := Blk.instTimeout_frame b i p
    have hspeaks := Blk.instTimeout_speaks hpassive hlate
    exact answers_of_eq (exec_announceTimeout_grandmaster hp hi) hspeaks (hspeaks ▸ hframe) rfl (Blk.recPtp_ptp ..)
  case silent => exact answers_of_eq (exec_announceTimeout_grandmaster hp hi) (Blk.instTimeout_stays hstays) (Blk.foreignDrop_frame ..) rfl rfl
  case clientTimeout =>
    exact answers_of_eq (m := 0x101c20038) (exec_announceTimeout_client hp) (if_pos hruns)
      (((Blk.foreignDrop_frame ..).mono rfl).trans ((Blk.clientChoose_frame ..).mono rfl)) rfl rfl
  case clientIdle =>
    exact answers_of_eq (exec_announceTimeout_client hp) (if_neg (Bool.eq_false_iff.mp hruns)) (Blk.foreignDrop_frame ..) rfl rfl
  case dropped =>
    have hdropped := Blk.maxRes_reached hf hr hreached
    exact answers_of_eq rfl hdropped (hdropped ▸ b.maxRes_frame p id) rfl rfl
  case kept => exact answers_idle rfl (Blk.maxRes_below hf hr hbelow)
  case early => exact answers_idle (exec_asymEstimateDone hp) (Blk.estEnd_early hpost hanchor hearly)
  case refused =>
    exact answers_of_eq (exec_asymEstimateDone hp) (Blk.estEnd_beyond hpost hanchor hfreeze hfrozen hdone hover hbeyond)
      (b.estFail_frame p) rfl ⟨b.estFail_clientOf p, b.estFail_noAnchor p⟩
  case applied =>
    have happlied := Blk.estEnd_within hpost hanchor hfreeze hfrozen hdone hover hwithin
    have hclient := (b.estApplied p t).thaw_clientOf p
    rw [b.estApplied_clientOf p t] at hclient
    exact answers_of_eq (exec_asymEstimateDone hp) happlied (happlied ▸ b.estEnd_frame p) rfl
      ⟨hclient, ((Blk.thaw_frame ..).flag rfl _).trans (b.estApplied_event p t), Blk.thaw_clientFrozen ..⟩

end Sys2Proof.Machine
end

section
/-! Completions: their bytes, and what completing a descriptor writes (11 R301, R303). -/

namespace Sys2Proof.Machine

/-! ### Bytes put together and read back -/

@[simp] theorem leB_length (n v : Nat) : (leB n v).length = n := by
  induction n generalizing v with
  | zero => rfl
  | succ n ih => simp [leB, ih]

@[simp] theorem sliceB_length (bs : Bytes) (off n : Nat) : (sliceB bs off n).length = n := by
  simp only [sliceB, List.length_append, List.length_take, List.length_drop, List.length_replicate]
  omega

theorem leNat_leB (n v : Nat) : leNat (leB n v) = v % 256 ^ n := by
  induction n generalizing v with
  | zero => simp [leB, leNat, Nat.mod_one]
  | succ n ih => rw [leB, leNat, ih, BitVec.toNat_ofNat, pow_succ' 256 n, Nat.mod_mul]

/-- A slice behind the first part of a string is a slice of the rest. -/
theorem sliceB_append_rest {a b : Bytes} {off n : Nat} (h : a.length ≤ off) : sliceB (a ++ b) off n = sliceB b (off - a.length) n := by
  rw [sliceB, sliceB, List.drop_append, List.drop_eq_nil_of_le h, List.nil_append]

/-- The first part of a string, as a slice. -/
theorem sliceB_append_first {a b : Bytes} {n : Nat} (h : n = a.length) : sliceB (a ++ b) 0 n = a := by
  subst h
  simp [sliceB]

theorem sliceB_all {a : Bytes} {n : Nat} (h : n = a.length) : sliceB a 0 n = a := by
  subst h
  simp [sliceB]

theorem leAt_one (bs : Bytes) (off : Nat) : leAt bs off 1 = byteAt bs off := by
  unfold leAt sliceB byteAt
  cases bs.drop off <;> simp [leNat]

/-! ### The 32 bytes of a completion -/

section
variable (d : Desc) (status flags short : Nat) (result : Bytes)

theorem complBytes_length : (complBytes d status flags short result).length = 32 := by
  simp only [complBytes, List.length_append, leB_length, sliceB_length]

theorem complBytes_opcode : sliceB (complBytes d status flags short result) 0 1 = sliceB d.data 0 1 := by
  simp [complBytes, sliceB_append_first]

theorem complBytes_status : sliceB (complBytes d status flags short result) 1 1 = leB 1 status := by
  simp [complBytes, sliceB_append_rest, sliceB_append_first]

theorem complBytes_context : sliceB (complBytes d status flags short result) 4 4 = sliceB d.data 4 4 := by
  simp [complBytes, sliceB_append_rest, sliceB_append_first]

theorem complBytes_shortTime : sliceB (complBytes d status flags short result) 8 4 = leB 4 short := by
  simp [complBytes, sliceB_append_rest, sliceB_append_first]

theorem complBytes_index : sliceB (complBytes d status flags short result) 12 4 = leB 4 d.idx := by
  simp [complBytes, sliceB_append_rest, sliceB_append_first]

theorem complBytes_result : sliceB (complBytes d status flags short result) 16 16 = sliceB result 0 16 := by
  simp [complBytes, sliceB_append_rest, sliceB_all]

end

/-! ### A completion is written -/

/-- Counting an event changes the counters of 16 alone. -/
theorem Blk.pmcEvent_eq (b : Blk) (ev inst n : Nat) : ∃ pmc, b.pmcEvent ev inst n = { b with pmc := pmc } := by
  unfold Blk.pmcEvent
  split
  · exact ⟨b.pmc, rfl⟩
  · exact ⟨_, rfl⟩

/-- What completing a descriptor in hand writes: its ring, the run of BUSY_RETRYs, the output, and a count (11 R301, R303). -/
theorem Blk.complete_of_desc {b : Blk} {r : DRef} {d : Desc} (h : b.desc? r = some d) (status : Nat) (result : Bytes) :
    let x := b.ringOf r.ring
    let f := b.ringOwner r.ring
    let len := ringLen (b.rd (R.HRG_SIZE_CQ_LOG r.ring))
    ∃ pmc runs, b.complete r status result = { b with
      rings := tput b.rings r.ring (ringDone x d b.up), pmc := pmc, flow := { b.flow with busyRuns := runs }
      out := .hostWrite f (b.addr64 (R.HRG_DBP_LO f) (R.HRG_DBP_HI f) + 0x40 * r.ring + 20) (leB 4 ((x.cqPi + 1) % 0x100000000))
        :: .hostWrite f (b.addr64 (R.HRG_CQ_LO r.ring) (R.HRG_CQ_HI r.ring) + 32 * (x.cqPi % len))
          (complBytes d status (complFlags x.cqPi len b.ins.stepGen false) (shortOf b.ins.now) result) :: b.out } := by
  dsimp only
  rw [Blk.complete, Blk.completeX, h]
  dsimp only
  obtain ⟨pmc, hpmc⟩ := Blk.pmcEvent_eq _ 0x91 r.ring 1
  exact ⟨pmc, _, hpmc⟩

theorem Blk.complete_of_gone {b : Blk} {r : DRef} (h : b.desc? r = none) (status : Nat) (result : Bytes) : b.complete r status result = b := by
  rw [Blk.complete, Blk.completeX, h]

/-- Settles O18: the completion that `complete_of_desc` writes, and its bytes one field at a time. -/
theorem completionWritten : Obligations.CompletionWritten := by
  refine ⟨fun b r d status result h => ?written, fun b r status result h => Blk.complete_of_gone h ..,
    fun d status flags short result => ?bytes⟩
  case written =>
    have hframe := b.complete_frame r status result
    obtain ⟨pmc, runs, hdone⟩ := Blk.complete_of_desc h status result
    rw [hdone] at hframe ⊢
    have hring : tget {} (tput b.rings r.ring (ringDone (b.ringOf r.ring) d b.up)) r.ring = ringDone (b.ringOf r.ring) d b.up :=
      tget_tput_self ..
    exact ⟨rfl, congrArg Ring.cqPi hring, congrArg Ring.descs hring, fun q hq => tget_tput_ne _ _ _ hq, .of hframe rfl⟩
  case bytes =>
    refine ⟨complBytes_length .., ?_, ?_, complBytes_context .., ?_, ?_, complBytes_result ..⟩
    · rw [← leAt_one, ← leAt_one, leAt, complBytes_opcode, leAt]
    · rw [← leAt_one, leAt, complBytes_status, leNat_leB]; rfl
    · rw [leAt, complBytes_shortTime, leNat_leB]; rfl
    · rw [leAt, complBytes_index, leNat_leB]; rfl

end Sys2Proof.Machine
end

section
/-! Sessions: they open by their proof, are refused, and close with the rings of their function (11 R290 to R294). -/

namespace Sys2Proof.Machine

/-! ### Sessions, rings and event rings under a frame -/

theorem FrameM.sesOf {m : Nat} {a b : Blk} (h : FrameM m a b) (hm : m.testBit Piece.ses.ctorIdx = false) (f : Nat) :
    b.sesOf f = a.sesOf f := congrArg (tget ({} : Ses) · f) (h.same .ses hm : b.ses = a.ses)

theorem FrameM.ringOf {m : Nat} {a b : Blk} (h : FrameM m a b) (hm : m.testBit Piece.rings.ctorIdx = false) (r : Nat) :
    b.ringOf r = a.ringOf r := congrArg (tget ({} : Ring) · r) (h.same .rings hm : b.rings = a.rings)

theorem FrameM.evtOf {m : Nat} {a b : Blk} (h : FrameM m a b) (hm : m.testBit Piece.evts.ctorIdx = false) (f : Nat) :
    b.evtOf f = a.evtOf f := congrArg (tget ({} : Evt) · f) (h.same .evts hm : b.evts = a.evts)

theorem Blk.sesOf_setSes_self (b : Blk) (f : Nat) (x : Ses) : (b.setSes f x).sesOf f = x := tget_tput_self ..

theorem Blk.sesOf_setSes_ne (b : Blk) {f g : Nat} (x : Ses) (h : g ≠ f) : (b.setSes f x).sesOf g = b.sesOf g := tget_tput_ne _ _ _ h

/-! ### Ring pairs that stop -/

/-- What a closure leaves of a ring pair: its indices and the numbers it gives (11 R294). -/
def Ring.stopped (x : Ring) : Ring := { nextId := x.nextId, sqCi := x.sqCi, cqPi := x.cqPi }

theorem Blk.ringOf_ringStop (b : Blk) (r q : Nat) : (b.ringStop r).ringOf q = if q = r then (b.ringOf r).stopped else b.ringOf q := by
  have hspill : ((b.excSpill r).wr (R.HRG_CTL_ENABLE r) 0).ringOf q = b.ringOf q := (b.excSpill_frame r).ringOf rfl q
  exact (Blk.ringOf_setRing ..).trans (if_congr Iff.rfl rfl hspill)

/-- A write of a register outside HRG_ASSIGN leaves the owners of the ring pairs (11 R296). -/
theorem Blk.ringOwner_wr (b : Blk) {f : BF} (v : Nat) {r : Nat} (hr : r < 64) (h : f.off < 0x5000 ∨ 0x5010 ≤ f.off) :
    (b.wr f v).ringOwner r = b.ringOwner r := by
  have hoff : R.HRG_ASSIGN (r / 16) ≠ f.off := by simp only [R.HRG_ASSIGN]; omega
  simp only [Blk.ringOwner, Blk.rdW, Blk.wr, rfGet_rfPut, if_neg hoff]

theorem FrameM.ringOwner {m : Nat} {a b : Blk} (h : FrameM m a b) (hm : m.testBit Piece.regs.ctorIdx = false) (r : Nat) :
    b.ringOwner r = a.ringOwner r :=
  congrArg (fun l : RegFile => (rfGet l (R.HRG_ASSIGN (r / 16))).toNat / 4 ^ (r % 16) % 4) (h.same .regs hm : b.regs = a.regs)

theorem FrameM.ringsOf {m : Nat} {a b : Blk} (h : FrameM m a b) (hm : m.testBit Piece.regs.ctorIdx = false) (f : Nat) :
    b.ringsOf f = a.ringsOf f := by
  simp only [Blk.ringsOf, h.ringOwner hm]

theorem Blk.ringOwner_ringStop (b : Blk) {r q : Nat} (hr : r < 64) (hq : q < 64) : (b.ringStop r).ringOwner q = b.ringOwner q :=
  (Blk.ringOwner_wr (b.excSpill r) 0 hq (.inl (by simp only [R.HRG_CTL_ENABLE, R.HRG_CTL]; omega))).trans
    ((b.excSpill_frame r).ringOwner rfl q)

theorem Blk.mem_ringsOf {b : Blk} {f r : Nat} : r ∈ b.ringsOf f ↔ r < 64 ∧ b.ringOwner r = f := by simp [Blk.ringsOf]

/-- A fold over ring pairs whose step acts on one of them by `t`, which does nothing more when done again. -/
theorem Blk.ringOf_foldl {g : Blk → Nat → Blk} {t : Ring → Ring}
    (hg : ∀ b r q, (g b r).ringOf q = if q = r then t (b.ringOf r) else b.ringOf q) (ht : ∀ x, t (t x) = t x)
    (l : List Nat) (b : Blk) (q : Nat) :
    (l.foldl g b).ringOf q = if q ∈ l then t (b.ringOf q) else b.ringOf q := by
  induction l generalizing b with
  | nil => rfl
  | cons r l ih =>
    rw [List.foldl_cons, ih, hg]
    by_cases hq : q = r
    · subst hq; simp [ht]
    · simp [hq]

/-- All ring pairs of a function stop. -/
def Blk.ringsStopped (b : Blk) (f : Nat) : Blk := (b.ringsOf f).foldl Blk.ringStop b

theorem Blk.ringsStopped_frame (b : Blk) (f : Nat) : FrameM 0x430010010 b (b.ringsStopped f) :=
  .foldI Blk.ringStop_frame (of_eq_true (FrameM.refl _ b))

theorem Blk.ringOf_ringsStopped (b : Blk) (f q : Nat) :
    (b.ringsStopped f).ringOf q = if q ∈ b.ringsOf f then (b.ringOf q).stopped else b.ringOf q :=
  Blk.ringOf_foldl Blk.ringOf_ringStop (fun _ => rfl) ..

theorem Blk.ringOwner_ringsStopped (b : Blk) (f : Nat) {q : Nat} (hq : q < 64) : (b.ringsStopped f).ringOwner q = b.ringOwner q :=
  foldl_keeps (v := (Blk.ringOwner · q)) (fun c _ hr => c.ringOwner_ringStop (Blk.mem_ringsOf.mp hr).1 hq) b

theorem Blk.evtOf_evtStop (b : Blk) (f g : Nat) :
    (b.evtStop f).evtOf g = if g = f then { lost := (b.evtOf f).lost, gsum := (b.evtOf f).gsum } else b.evtOf g := by
  have hwr : (b.wr (R.EVT_CTL_ENABLE f) 0).evtOf g = b.evtOf g := (Blk.wr_frame ..).evtOf rfl g
  exact (Blk.evtOf_setEvt ..).trans (if_congr Iff.rfl rfl hwr)

/-! ### A session closes -/

theorem Blk.sesOf_newChal (b : Blk) (f g : Nat) :
    (b.newChal f).sesOf g = if g = f then { b.sesOf f with chal := b.freeCtr } else b.sesOf g :=
  Blk.sesOf_setSes ..

/-- An open session that has been closed. -/
def Ses.closed (x : Ses) (cause chal : Nat) : Ses := { x with st := .idle, priv := 0, ks := [], cause := cause, chal := chal }

theorem Blk.sesClose_of_not_open {b : Blk} {f : Nat} (h : (b.sesOf f).st ≠ .opened) (cause : Nat) : b.sesClose f cause = b :=
  if_neg (by simpa using h)

/-- The session of a function has ended with a cause. -/
def Blk.sesEnded (b : Blk) (f cause : Nat) : Blk := b.setSes f { b.sesOf f with st := .idle, priv := 0, ks := [], cause := cause }

theorem Blk.sesEnded_frame (b : Blk) (f cause : Nat) : FrameM 0x8000 b (b.sesEnded f cause) := Blk.setSes_frame ..

section
variable {b : Blk} {f : Nat} (hopen : (b.sesOf f).st = .opened) (cause : Nat)
include hopen

theorem Blk.sesClose_of_open : b.sesClose f cause = (((b.sesEnded f cause).ringsStopped f).evtStop f).newChal f :=
  if_pos (by simp [hopen])

theorem Blk.sesOf_sesClose (g : Nat) :
    (b.sesClose f cause).sesOf g = if g = f then (b.sesOf f).closed cause b.freeCtr else b.sesOf g := by
  have hstop : FrameM 0x430030010 (b.sesEnded f cause) (((b.sesEnded f cause).ringsStopped f).evtStop f) :=
    ((Blk.ringsStopped_frame ..).mono rfl).trans ((Blk.evtStop_frame ..).mono rfl)
  have hended (v : Nat) : (b.sesEnded f cause).sesOf v = if v = f then _ else b.sesOf v := Blk.sesOf_setSes ..
  have hfree : (((b.sesEnded f cause).ringsStopped f).evtStop f).freeCtr = b.freeCtr := hstop.same .freeCtr rfl
  rw [Blk.sesClose_of_open hopen, Blk.sesOf_newChal, hstop.sesOf rfl, hstop.sesOf rfl, hended, hended, if_pos rfl, hfree]
  split <;> rfl

theorem Blk.ringOf_sesClose (q : Nat) :
    (b.sesClose f cause).ringOf q = if q ∈ b.ringsOf f then (b.ringOf q).stopped else b.ringOf q := by
  have hended := b.sesEnded_frame f cause
  have hafter : FrameM 0x28014 ((b.sesEnded f cause).ringsStopped f) (b.sesClose f cause) := by
    rw [Blk.sesClose_of_open hopen]
    exact ((Blk.evtStop_frame ..).mono rfl).trans ((Blk.newChal_frame ..).mono rfl)
  rw [hafter.ringOf rfl, Blk.ringOf_ringsStopped, hended.ringsOf rfl, hended.ringOf rfl]

theorem Blk.evtOf_sesClose (g : Nat) :
    (b.sesClose f cause).evtOf g = if g = f then { lost := (b.evtOf f).lost, gsum := (b.evtOf f).gsum } else b.evtOf g := by
  have hrings : FrameM 0x430018010 b ((b.sesEnded f cause).ringsStopped f) :=
    ((b.sesEnded_frame f cause).mono rfl).trans ((Blk.ringsStopped_frame ..).mono rfl)
  rw [Blk.sesClose_of_open hopen, (Blk.newChal_frame ..).evtOf rfl, Blk.evtOf_evtStop, hrings.evtOf rfl, hrings.evtOf rfl]

theorem Blk.sesClose_closed : Closed b (b.sesClose f cause) f ∧ ((b.sesClose f cause).sesOf f).cause = cause := by
  have hself := Blk.sesOf_sesClose hopen cause f
  rw [if_pos rfl] at hself
  refine ⟨⟨hself ▸ rfl, hself ▸ rfl, hself ▸ rfl, hself ▸ rfl, ?event, fun r hr => ?rings, fun g hg => ?others⟩, hself ▸ rfl⟩
  case event => rw [Blk.evtOf_sesClose hopen, if_pos rfl]
  case rings =>
    rw [Blk.ringOf_sesClose hopen, if_congr (Blk.mem_ringsOf.trans (and_iff_right hr)) rfl rfl]
    split
    · exact ⟨rfl, rfl⟩
    · rfl
  case others =>
    rw [Blk.sesOf_sesClose hopen, Blk.evtOf_sesClose hopen, if_neg hg, if_neg hg]
    exact ⟨rfl, rfl⟩

end

theorem Blk.open_of_idleOver {b : Blk} {f : Nat} (h : b.idleOver f = true) : (b.sesOf f).st = .opened := by
  simp only [Blk.idleOver, Bool.and_eq_true, beq_iff_eq] at h
  exact h.1.1

/-! ### A session is asked for, and verified -/

section
variable {b : Blk} {f : Nat} {nvm : Nvm}

theorem Blk.openWritten_verifies (hup : b.hostUp = true) (hidle : (b.sesOf f).st = .idle) (hkey : nvm.keyPresent f = true) :
    b.openWritten nvm f
      = b.setSes f { b.sesOf f with st := .verifying, hnonce := b.wordBytes (R.SES_HNONCE f) 4, hmac := b.wordBytes (R.SES_HMAC f) 8 } := by
  simp [Blk.openWritten, hup, hidle, hkey]

theorem Blk.openWritten_keyless (hup : b.hostUp = true) (hidle : (b.sesOf f).st = .idle) (hkey : nvm.keyPresent f = false) :
    b.openWritten nvm f = b.setF (R.SES_STATUS_FAILED f) := by
  simp [Blk.openWritten, hup, hidle, hkey]

section
variable {k : ProvKey} (hver : (b.sesOf f).st = .verifying) (hkey : nvm.provOf f = some k)
include hver hkey

theorem Blk.verifyDone_opens (hmac : mhOf k.key f (b.sesOf f).challenge (b.sesOf f).hnonce = (b.sesOf f).hmac) :
    b.verifyDone nvm f = b.sesOpened k f := by
  simp [Blk.verifyDone, hver, hkey, hmac]

theorem Blk.verifyDone_refuses (hmac : mhOf k.key f (b.sesOf f).challenge (b.sesOf f).hnonce ≠ (b.sesOf f).hmac) :
    b.verifyDone nvm f = b.sesRefused f := by
  simp [Blk.verifyDone, hver, hkey, hmac]

end

/-- A session whose verification has passed: the next tag, the privileges of the key, and the device's part of the proof (11 R291, R292). -/
def Ses.verified (x : Ses) (k : ProvKey) (f priv up : Nat) (nd : Bytes) : Ses :=
  { x with st := .opened, failCnt := 0, tag := tagNext x.tag, priv := priv, idleFrom := up, dnonce := nd
           dmac := mdOf k.key f x.challenge x.hnonce nd, ks := ksOf k.key f (tagNext x.tag) x.challenge x.hnonce nd }

theorem Blk.sesOf_sesOpened (b : Blk) (k : ProvKey) (f : Nat) :
    (b.sesOpened k f).sesOf f = (b.sesOf f).verified k f (b.privOf k.mask) b.up (freeBytes 16 b.freeCtr) :=
  Blk.sesOf_setSes_self ..

/-- A session whose verification has been refused (11 R292, R293). -/
def Ses.refused (x : Ses) (up chal : Nat) : Ses :=
  let n := min 16 (x.failCnt + 1)
  { x with failCnt := n, st := if lockoutS n = 0 then .idle else .locked
           lockUntil := if lockoutS n = 0 then x.lockUntil else up + secU (lockoutS n), chal := chal }

theorem Blk.sesOf_sesRefused (b : Blk) (f : Nat) : (b.sesRefused f).sesOf f = (b.sesOf f).refused b.up b.freeCtr := by
  refine (Blk.sesOf_newChal ..).trans ((if_pos rfl).trans ?_)
  have hflag (c : Blk) : (c.setF (R.SES_STATUS_FAILED f)).sesOf f = c.sesOf f := (Blk.setF_frame ..).sesOf rfl f
  simp only [hflag, Blk.sesOf_setSes_self, Blk.setF_freeCtr, Blk.setSes_freeCtr, Ses.refused]

theorem Blk.setF_failed_flag (b : Blk) (f : Nat) : (b.setF (R.SES_STATUS_FAILED f)).flag (R.SES_STATUS_FAILED f) = true :=
  Blk.flag_setF_self _ _ (by decide : 1 ≠ 0) (by decide : 3 + 1 ≤ 32)

theorem Blk.sesRefused_flag (b : Blk) (f : Nat) : (b.sesRefused f).flag (R.SES_STATUS_FAILED f) = true :=
  ((Blk.newChal_frame ..).flag rfl _).trans (Blk.setF_failed_flag ..)

theorem Ses.refused_not_open (x : Ses) (up chal : Nat) : (x.refused up chal).st ≠ .opened := by
  unfold Ses.refused
  dsimp only
  split <;> simp

end

/-! ### The commands -/

section
variable {s : State} {w f : Nat}

theorem exec_sesClose_up (hup : (s.blk.pass w).hostUp = true) :
    exec (.sesClose w f) s = .next { s with blk := Blk.settle s.blk ((s.blk.pass w).sesClose f 1) } := by
  change execSesClose w f s = _
  rw [execSesClose, State.upd, if_pos hup]

theorem exec_idleTimeout_over (hover : (s.blk.pass w).idleOver f = true) :
    exec (.idleTimeout w f) s = .next { s with blk := Blk.settle s.blk ((s.blk.pass w).sesClose f 4) } := by
  change execIdleTimeout w f s = _
  rw [execIdleTimeout, State.upd, if_pos hover]

theorem exec_lockoutEnd_due (hlocked : ((s.blk.pass w).sesOf f).st = .locked)
    (hdue : ((s.blk.pass w).sesOf f).lockUntil ≤ (s.blk.pass w).up) :
    exec (.lockoutEnd w f) s
      = .next { s with blk := Blk.settle s.blk ((s.blk.pass w).setSes f { (s.blk.pass w).sesOf f with st := .idle }) } := by
  change execLockoutEnd w f s = _
  simp only [execLockoutEnd, State.upd, hlocked, hdue, beq_self_eq_true, decide_true, Bool.and_self, if_true]

theorem exec_sesProvLoad_allowed (hup : (s.blk.pass w).hostUp = true) (hallowed : s.nvm.provAllowed f = true) :
    exec (.sesProvLoad w f) s = .next { s with
      nvm := { s.nvm with prov := tput s.nvm.prov f ⟨(s.blk.pass w).wordBytes (R.SES_PROV f) 8, 0x1FFF⟩ }
      blk := Blk.settle s.blk (s.blk.pass w) } := by
  change execSesProvLoad w f s = _
  simp only [execSesProvLoad, State.updN, hup, hallowed, Bool.and_self, if_true]

end

/-- Settles O19: each command acts on the session of its function alone, or closes it with the rings of the function. -/
theorem sessionsOpenAndClose : Obligations.SessionsOpenAndClose := by
  intro s w f b
  refine ⟨fun hup hidle hkey => ?verifies, fun hup hidle hkey => ?keyless, fun k hver hkey hmac => ?opens,
    fun k hver hkey hmac => ?refused, fun hup hopen => ?close, fun hover => ?idle, fun hlocked hdue => ?lockout, fun hup hallowed => ?load⟩
  case verifies =>
    exact answers_of_eq rfl (Blk.openWritten_verifies hup hidle hkey) (Blk.setSes_frame ..) rfl
      ⟨Blk.sesOf_setSes_self .., fun g hg => Blk.sesOf_setSes_ne _ _ hg⟩
  case keyless =>
    exact answers_of_eq rfl (Blk.openWritten_keyless hup hidle hkey) (Blk.setF_frame ..) rfl (b.setF_failed_flag f)
  case opens =>
    have hses := b.sesOf_sesOpened k f
    exact answers_of_eq rfl (Blk.verifyDone_opens hver hkey hmac) (Blk.sesOpened_frame ..) rfl
      ⟨hses ▸ rfl, hses ▸ rfl, hses ▸ rfl, hses ▸ rfl, hses ▸ rfl, fun g hg => Blk.sesOf_setSes_ne _ _ hg⟩
  case refused =>
    have hses := b.sesOf_sesRefused f
    exact answers_of_eq rfl (Blk.verifyDone_refuses hver hkey hmac) (Blk.sesRefused_frame ..) rfl
      ⟨(congrArg Ses.st hses).trans_ne (Ses.refused_not_open _ _ _), b.sesRefused_flag f, hses ▸ rfl, hses ▸ rfl⟩
  case close => exact answers_of_eq (exec_sesClose_up hup) rfl (Blk.sesClose_frame ..) rfl (Blk.sesClose_closed hopen 1)
  case idle =>
    have hopen := Blk.open_of_idleOver hover
    exact answers_of_eq (exec_idleTimeout_over hover) rfl (Blk.sesClose_frame ..) rfl (Blk.sesClose_closed hopen 4)
  case lockout =>
    exact answers_of_eq (exec_lockoutEnd_due hlocked hdue) rfl (Blk.setSes_frame ..) rfl
      ⟨Blk.sesOf_setSes_self .., fun g hg => Blk.sesOf_setSes_ne _ _ hg⟩
  case load => exact ⟨b, exec_sesProvLoad_allowed hup hallowed, .of (m := 0) (of_eq_true (FrameM.refl ..)) rfl, rfl⟩

end Sys2Proof.Machine
end

section
/-! The host side of a function is reset, and lockouts outlast it (11 R293, R318, R319, 17 R436). -/

namespace Sys2Proof.Machine

/-! ### The session -/

/-- A session that no longer runs: an open one closes, a verification is given up and its challenge spent, a lockout stays (11 R292, R319). -/
def Ses.ended (x : Ses) (cause chal : Nat) : Ses :=
  if x.st = .opened then x.closed cause chal else if x.st = .verifying then { x with st := .idle, chal := chal } else x

/-- A session after the reset of its host side. -/
def Ses.hostReset (x : Ses) (cause chal : Nat) : Ses := { x.ended cause chal with dnonce := [], dmac := [] }

theorem Ses.hostReset_not_open (x : Ses) (cause chal : Nat) : (x.hostReset cause chal).st ≠ .opened := by
  unfold Ses.hostReset Ses.ended
  split
  · exact SesState.noConfusion
  · next hopen =>
    split
    · exact SesState.noConfusion
    · exact hopen

theorem Ses.hostReset_lockout (x : Ses) (cause chal : Nat) :
    (x.hostReset cause chal).failCnt = x.failCnt ∧ (x.hostReset cause chal).lockUntil = x.lockUntil
      ∧ (x.st = .locked → (x.hostReset cause chal).st = .locked) := by
  unfold Ses.hostReset Ses.ended
  split
  · next hopen => exact ⟨rfl, rfl, fun hlocked => SesState.noConfusion (hopen.symm.trans hlocked)⟩
  · split
    · next hver => exact ⟨rfl, rfl, fun hlocked => SesState.noConfusion (hver.symm.trans hlocked)⟩
    · exact ⟨rfl, rfl, id⟩

/-- A running verification is given up. -/
def Blk.verifyDropped (b : Blk) (f : Nat) : Blk :=
  if (b.sesOf f).st == .verifying then (b.setSes f { b.sesOf f with st := .idle }).newChal f else b

theorem Blk.verifyDropped_frame (b : Blk) (f : Nat) : FrameM 0x8004 b (b.verifyDropped f) := by
  unfold Blk.verifyDropped
  split
  · exact ((Blk.setSes_frame ..).mono rfl).trans (Blk.newChal_frame ..)
  · exact of_eq_true (FrameM.refl ..)

theorem Blk.verifyDropped_of_not {b : Blk} {f : Nat} (h : (b.sesOf f).st ≠ .verifying) : b.verifyDropped f = b :=
  if_neg (by simpa using h)

theorem Blk.sesOf_verifyDropped {b : Blk} {f : Nat} (h : (b.sesOf f).st = .verifying) (g : Nat) :
    (b.verifyDropped f).sesOf g = if g = f then { b.sesOf f with st := .idle, chal := b.freeCtr } else b.sesOf g := by
  rw [Blk.verifyDropped, h, beq_self_eq_true, if_pos rfl, Blk.sesOf_newChal, Blk.sesOf_setSes_self, Blk.setSes_freeCtr]
  exact ite_congr rfl (fun _ => rfl) fun hg => Blk.sesOf_setSes_ne _ _ hg

/-- The session of a function ends, and no verification of it goes on. -/
def Blk.sesGone (b : Blk) (f cause : Nat) : Blk := (b.sesClose f cause).verifyDropped f

theorem Blk.sesOf_sesGone (b : Blk) (f cause g : Nat) :
    (b.sesGone f cause).sesOf g = if g = f then (b.sesOf f).ended cause b.freeCtr else b.sesOf g := by
  by_cases hopen : (b.sesOf f).st = .opened
  · have hses := Blk.sesOf_sesClose hopen cause
    have hidle : ((b.sesClose f cause).sesOf f).st ≠ .verifying := by rw [hses, if_pos rfl]; exact SesState.noConfusion
    rw [Blk.sesGone, Blk.verifyDropped_of_not hidle, hses, Ses.ended, if_pos hopen]
  · rw [Blk.sesGone, Blk.sesClose_of_not_open hopen, Ses.ended, if_neg hopen]
    by_cases hver : (b.sesOf f).st = .verifying
    · rw [Blk.sesOf_verifyDropped hver, if_pos hver]
    · rw [Blk.verifyDropped_of_not hver, if_neg hver]
      exact (ite_eq_right_iff.mpr fun hg => hg ▸ rfl).symm

/-- Whether its session was open or not, the ring pairs of the function are as before or have stopped, and the others are as before. -/
theorem Blk.ringOf_sesGone (b : Blk) (f cause q : Nat) :
    (b.sesGone f cause).ringOf q = b.ringOf q ∨ q ∈ b.ringsOf f ∧ (b.sesGone f cause).ringOf q = (b.ringOf q).stopped := by
  rw [Blk.sesGone, (Blk.verifyDropped_frame ..).ringOf rfl]
  by_cases hopen : (b.sesOf f).st = .opened
  · rw [Blk.ringOf_sesClose hopen]
    split
    · next hq => exact .inr ⟨hq, rfl⟩
    · exact .inl rfl
  · exact .inl (by rw [Blk.sesClose_of_not_open hopen])

theorem Blk.evtOf_sesGone_ne (b : Blk) {f g : Nat} (cause : Nat) (h : g ≠ f) : (b.sesGone f cause).evtOf g = b.evtOf g := by
  rw [Blk.sesGone, (Blk.verifyDropped_frame ..).evtOf rfl]
  by_cases hopen : (b.sesOf f).st = .opened
  · rw [Blk.evtOf_sesClose hopen, if_neg h]
  · rw [Blk.sesClose_of_not_open hopen]

theorem Blk.ringOwner_evtStop (b : Blk) (f : Nat) {q : Nat} (hq : q < 64) : (b.evtStop f).ringOwner q = b.ringOwner q :=
  ((Blk.setEvt_frame ..).ringOwner rfl q).trans
    (Blk.ringOwner_wr b 0 hq (.inr (by simp only [R.EVT_CTL_ENABLE, R.EVT_CTL, bank]; omega)))

theorem Blk.ringOwner_sesGone (b : Blk) (f cause : Nat) {q : Nat} (hq : q < 64) : (b.sesGone f cause).ringOwner q = b.ringOwner q := by
  rw [Blk.sesGone, (Blk.verifyDropped_frame ..).ringOwner rfl]
  by_cases hopen : (b.sesOf f).st = .opened
  · rw [Blk.sesClose_of_open hopen, (Blk.newChal_frame ..).ringOwner rfl, Blk.ringOwner_evtStop _ _ hq, Blk.ringOwner_ringsStopped _ _ hq,
      (Blk.sesEnded_frame ..).ringOwner rfl]
  · rw [Blk.sesClose_of_not_open hopen]

theorem Blk.ringsOf_sesGone (b : Blk) (f cause g : Nat) : (b.sesGone f cause).ringsOf g = b.ringsOf g :=
  List.filter_congr fun q hq => by rw [Blk.ringOwner_sesGone b f cause (List.mem_range.mp hq)]

/-! ### Its rings and registers -/

/-- A ring pair at its reset value but for the numbers it gives. -/
def Ring.returned (x : Ring) : Ring := { nextId := x.nextId }

/-- The ring pairs and the event ring of a function have returned (11 R318). -/
def Blk.ringsReturned (b : Blk) (f : Nat) : Blk :=
  ((b.ringsOf f).foldl (fun c r => c.setRing r (c.ringOf r).returned) ((b.ringsStopped f).evtStop f)).setEvt f {}

theorem Blk.ringsReturned_after (b : Blk) (f : Nat) : FrameM 0x30000 ((b.ringsStopped f).evtStop f) (b.ringsReturned f) :=
  (FrameM.foldI (fun _ _ => (Blk.setRing_frame ..).mono rfl) (of_eq_true (FrameM.refl ..))).trans ((Blk.setEvt_frame ..).mono rfl)

theorem Blk.ringsReturned_frame (b : Blk) (f : Nat) : FrameM 0x430030010 b (b.ringsReturned f) :=
  (((b.ringsStopped_frame f).mono rfl).trans ((Blk.evtStop_frame ..).mono rfl)).trans ((b.ringsReturned_after f).mono rfl)

theorem Blk.ringOf_ringsReturned (b : Blk) (f q : Nat) :
    (b.ringsReturned f).ringOf q = if q ∈ b.ringsOf f then (b.ringOf q).returned else b.ringOf q := by
  have hfold := Blk.ringOf_foldl (t := Ring.returned) (fun c r q => Blk.ringOf_setRing c r q (c.ringOf r).returned) (fun _ => rfl)
    (b.ringsOf f) ((b.ringsStopped f).evtStop f) q
  rw [(Blk.evtStop_frame ..).ringOf rfl, Blk.ringOf_ringsStopped] at hfold
  refine ((Blk.setEvt_frame ..).ringOf rfl q).trans (hfold.trans ?_)
  split <;> rfl

theorem Blk.evtOf_ringsReturned (b : Blk) (f g : Nat) : (b.ringsReturned f).evtOf g = if g = f then {} else b.evtOf g := by
  have hfold : FrameM 0x10000 ((b.ringsStopped f).evtStop f)
      ((b.ringsOf f).foldl (fun c r => c.setRing r (c.ringOf r).returned) ((b.ringsStopped f).evtStop f)) :=
    .foldI (fun _ _ => Blk.setRing_frame ..) (of_eq_true (FrameM.refl ..))
  rw [Blk.ringsReturned, Blk.evtOf_setEvt, hfold.evtOf rfl,
    Blk.evtOf_evtStop, (b.ringsStopped_frame f).evtOf rfl,
    (b.ringsStopped_frame f).evtOf rfl]
  split <;> rfl

theorem Blk.ringOwner_ringsReturned (b : Blk) (f : Nat) {q : Nat} (hq : q < 64) : (b.ringsReturned f).ringOwner q = b.ringOwner q := by
  rw [(b.ringsReturned_after f).ringOwner rfl, Blk.ringOwner_evtStop _ _ hq, Blk.ringOwner_ringsStopped _ _ hq]

/-- HRG_ASSIGN returns with neither the registers of a function nor those of a ring pair (17 R436). -/
theorem hostReg_assign {f i : Nat} (hi : i < 4) : hostReg f (R.HRG_ASSIGN i) = false := by
  have hlow : (0x5000 + 0x4 * i) % 0x100000 = 0x5000 + 0x4 * i := by omega
  simp only [hostReg, R.HRG_ASSIGN, hlow, Bool.and_eq_false_iff, Bool.or_eq_false_iff, decide_eq_false_iff_not, beq_eq_false_iff_ne]
  omega

theorem ringReg_assign {r i : Nat} (hr : r < 64) : ringReg r (R.HRG_ASSIGN i) = false := 
  decide_eq_false (by simp only [R.HRG_ASSIGN]; omega)

/-- The registers of function f and of the ring pairs `rs` have returned. -/
def Blk.hostRegsBack (b : Blk) (f : Nat) (rs : List Nat) : Blk := b.regsBack fun k => hostReg f k || rs.any fun r => ringReg r k

theorem Blk.ringOwner_hostRegsBack (b : Blk) (f : Nat) {rs : List Nat} (hrs : ∀ r ∈ rs, r < 64) {q : Nat} (hq : q < 64) :
    (b.hostRegsBack f rs).ringOwner q = b.ringOwner q := by
  have hstays : (hostReg f (R.HRG_ASSIGN (q / 16)) || rs.any fun r => ringReg r (R.HRG_ASSIGN (q / 16))) = false :=
    Bool.or_eq_false_iff.mpr ⟨hostReg_assign (by omega), List.any_eq_false.mpr fun r hr => by simp [ringReg_assign (hrs r hr)]⟩
  have hword := rfGet_filter b.regs (fun k => !(hostReg f k || rs.any fun r => ringReg r k)) (R.HRG_ASSIGN (q / 16))
  rw [hstays] at hword
  exact congrArg (fun v : Word => v.toNat / 4 ^ (q % 16) % 4) hword

/-! ### What is left of the function -/

/-- The reset of the host side of a function: its session ends, its rings return, the device's part of the last proof and its registers go. -/
theorem Blk.hostReset_eq (b : Blk) (f cause : Nat) :
    let c := (b.sesGone f cause).ringsReturned f
    b.hostReset f cause = (c.setSes f { c.sesOf f with dnonce := [], dmac := [] }).hostRegsBack f ((b.sesGone f cause).ringsOf f) := rfl

theorem Blk.hostReset_after (b : Blk) (f cause : Nat) : FrameM 0x8010 ((b.sesGone f cause).ringsReturned f) (b.hostReset f cause) := by
  rw [Blk.hostReset_eq]
  exact ((Blk.setSes_frame ..).mono rfl).trans ((Blk.regsBack_frame ..).mono rfl)

theorem Blk.sesOf_hostReset (b : Blk) (f cause g : Nat) :
    (b.hostReset f cause).sesOf g = if g = f then (b.sesOf f).hostReset cause b.freeCtr else b.sesOf g := by
  have hrings (v : Nat) := (Blk.ringsReturned_frame (b.sesGone f cause) f).sesOf rfl v
  rw [Blk.hostReset_eq, Blk.hostRegsBack, (Blk.regsBack_frame ..).sesOf rfl, Blk.sesOf_setSes, hrings, hrings, Blk.sesOf_sesGone,
    Blk.sesOf_sesGone, if_pos rfl]
  by_cases hg : g = f
  · simp [hg, Ses.hostReset]
  · simp [hg]

theorem Blk.ringOf_hostReset (b : Blk) (f cause q : Nat) :
    (b.hostReset f cause).ringOf q = if q ∈ b.ringsOf f then (b.ringOf q).returned else b.ringOf q := by
  rw [(b.hostReset_after f cause).ringOf rfl, Blk.ringOf_ringsReturned, Blk.ringsOf_sesGone]
  rcases b.ringOf_sesGone f cause q with hsame | ⟨hq, hstop⟩
  · rw [hsame]
  · rw [if_pos hq, if_pos hq, hstop]; rfl

theorem Blk.evtOf_hostReset (b : Blk) (f cause g : Nat) : (b.hostReset f cause).evtOf g = if g = f then {} else b.evtOf g := by
  rw [(b.hostReset_after f cause).evtOf rfl, Blk.evtOf_ringsReturned]
  exact ite_congr rfl (fun _ => rfl) fun hg => b.evtOf_sesGone_ne cause hg

theorem Blk.ringOwner_hostReset (b : Blk) (f cause : Nat) {q : Nat} (hq : q < 64) :
    (b.hostReset f cause).ringOwner q = b.ringOwner q := by
  rw [Blk.hostReset_eq, Blk.ringOwner_hostRegsBack _ _ (fun r hr => (Blk.mem_ringsOf.mp hr).1) hq, (Blk.setSes_frame ..).ringOwner rfl,
    Blk.ringOwner_ringsReturned _ _ hq, Blk.ringOwner_sesGone _ _ _ hq]

/-! ### Lockouts (11 R293) -/

theorem lockoutS_below {n : Nat} (h : n < 8) : lockoutS n = 0 := if_pos h

theorem lockoutS_from {n : Nat} (h : 8 ≤ n) : lockoutS n = min 256 (2 ^ (n - 8)) := if_neg (Nat.not_lt.mpr h)

theorem lockoutS_ne_zero {n : Nat} (h : 8 ≤ n) : lockoutS n ≠ 0 := by
  rw [lockoutS_from h]
  have := Nat.two_pow_pos (n - 8)
  omega

theorem Ses.refused_idle {x : Ses} (up chal : Nat) (h : (x.refused up chal).failCnt < 8) : (x.refused up chal).st = .idle :=
  if_pos (lockoutS_below h)

theorem Ses.refused_locked {x : Ses} (up chal : Nat) (h : 8 ≤ (x.refused up chal).failCnt) :
    (x.refused up chal).st = .locked ∧ (x.refused up chal).lockUntil = up + secU (min 256 (2 ^ ((x.refused up chal).failCnt - 8))) := by
  have hlock := lockoutS_ne_zero h
  exact ⟨if_neg hlock, (if_neg hlock).trans (congrArg (up + secU ·) (lockoutS_from h))⟩

theorem ceilDiv_le {a b n : Nat} (hb : 0 < b) (h : a ≤ n * b) : ceilDiv a b ≤ n := by
  rw [ceilDiv, if_neg hb.ne']
  exact Nat.le_of_lt_succ ((Nat.div_lt_iff_lt_mul hb).mpr (by rw [Nat.succ_mul]; omega))

/-- SES_LOCK shows what remains of a lockout, in whole seconds rounded up; a lockout lasts 256 s at most, so it fits the field (11 R320). -/
theorem Blk.shownSes_locked {b : Blk} {f : Nat} (nvm : Nvm) (hlocked : (b.sesOf f).st = .locked)
    (hlast : (b.sesOf f).lockUntil ≤ b.up + secU 256) :
    b.shownSes nvm f 0x1008 0 = ceilDiv ((b.sesOf f).lockUntil - b.up) (secU 1) := by
  have hfits : ceilDiv ((b.sesOf f).lockUntil - b.up) (secU 1) ≤ 256 :=
    ceilDiv_le (by decide) (Nat.sub_le_of_le_add (by rw [Nat.add_comm]; exact hlast))
  have hshown : b.shownSes nvm f 0x1008 0
      = if (b.sesOf f).st == .locked then satNat (ceilDiv ((b.sesOf f).lockUntil - b.up) (secU 1)) 9 else 0 := rfl
  rw [hshown, hlocked, if_pos (beq_self_eq_true _), satNat, if_pos (Nat.lt_of_le_of_lt hfits (by decide))]

/-! ### Device-reach resets (14 R366, 17 R436) -/

/-- A table filled from a list of keys. -/
theorem tget_map {α : Type} (d : α) (g : Nat → α) (l : List Nat) (k : Nat) :
    tget d (l.map fun i => (i, g i)) k = if k ∈ l then g k else d := by
  induction l with
  | nil => rfl
  | cons i l ih =>
    rw [List.map_cons, tget, ih]
    by_cases hk : i = k
    · simp [hk]
    · simp [hk, Ne.symm hk]

theorem Blk.sesOf_reInit (b : Blk) (group1 : Bool) {f : Nat} (hf : f < 4) :
    (b.reInit group1).sesOf f = sesAfter (b.sesOf f) group1 b.up (b.freeCtr + 16 * f) :=
  (tget_map ..).trans (if_pos (List.mem_range.mpr hf))

theorem Blk.sesOf_devReset {b : Blk} {code f : Nat} (hnew : b.rst.asserted.contains code = false) (hf : f < 4) :
    (b.devReset code).sesOf f = sesAfter (b.sesOf f) (srcGroup1 code) b.up (b.freeCtr + 16 * f) := by
  have hboot := b.bootAbandon_frame
  have hses : (b.devReset code).sesOf f = (b.bootAbandon.reInit (srcGroup1 code)).sesOf f := by
    rw [Blk.devReset, if_neg (Bool.eq_false_iff.mp hnew)]
    dsimp only
    split <;> rfl
  have hup : b.bootAbandon.up = b.up := hboot.same .up rfl
  have hfree : b.bootAbandon.freeCtr = b.freeCtr := hboot.same .freeCtr rfl
  rw [hses, Blk.sesOf_reInit _ _ hf, hboot.sesOf rfl, hup, hfree]

/-- Settles O20: what a refusal counts, what SES_LOCK shows, and what each reset leaves of the session. -/
theorem failuresLockOut : Obligations.FailuresLockOut := by
  intro b f hf x
  refine ⟨?refused, fun k => ?passed, fun nvm hlocked hlast => Blk.shownSes_locked nvm hlocked hlast, fun g cause => ?host,
    fun code hcode hnew => ?group2, fun code hcode hnew => ?group1⟩
  case refused =>
    dsimp only
    rw [b.sesOf_sesRefused f]
    exact ⟨rfl, Ses.refused_idle _ _, Ses.refused_locked _ _⟩
  case passed => rw [b.sesOf_sesOpened k f]; rfl
  case host =>
    rw [b.sesOf_hostReset g cause f]
    split
    · next hg => subst hg; exact x.hostReset_lockout cause b.freeCtr
    · exact ⟨rfl, rfl, id⟩
  case group2 =>
    have hgroup : srcGroup1 code = false := by simp at hcode; rcases hcode with rfl | rfl | rfl <;> rfl
    rw [Blk.sesOf_devReset hnew hf, hgroup]
    refine ⟨rfl, fun hlocked hrunning => ⟨?_, rfl⟩⟩
    exact if_pos (by rw [hlocked, decide_eq_true hrunning]; rfl)
  case group1 =>
    have hgroup : srcGroup1 code = true := by simp at hcode; rcases hcode with rfl | rfl | rfl <;> rfl
    rw [Blk.sesOf_devReset hnew hf, hgroup]
    exact ⟨rfl, rfl⟩

end Sys2Proof.Machine
end

section
/-! PERST# and function-level resets (11 R318, 14 R367, 17 R436). -/

namespace Sys2Proof.Machine

/-! ### Functions whose host side has stopped -/

/-- The host side of a function has stopped: its session is not open, its event ring is at its reset value, and its ring pairs hold nothing. -/
structure Blk.HostStopped (b : Blk) (f : Nat) : Prop where
  session : (b.sesOf f).st ≠ .opened
  events : b.evtOf f = {}
  rings : ∀ r, r < 64 → b.ringOwner r = f → (b.ringOf r).running = false ∧ (b.ringOf r).descs = []

theorem Blk.hostReset_stops (b : Blk) (f cause : Nat) : (b.hostReset f cause).HostStopped f where
  session := by
    rw [Blk.sesOf_hostReset, if_pos rfl]
    exact Ses.hostReset_not_open _ _ _
  events := by rw [Blk.evtOf_hostReset, if_pos rfl]
  rings r hr howner := by
    rw [b.ringOwner_hostReset f cause hr] at howner
    rw [Blk.ringOf_hostReset, if_pos (Blk.mem_ringsOf.mpr ⟨hr, howner⟩)]
    exact ⟨rfl, rfl⟩

theorem Blk.HostStopped.hostReset {b : Blk} {g : Nat} (h : b.HostStopped g) (f cause : Nat) : (b.hostReset f cause).HostStopped g := by
  by_cases hg : g = f
  · subst hg; exact b.hostReset_stops g cause
  · refine ⟨?_, ?_, fun r hr howner => ?_⟩
    · rw [Blk.sesOf_hostReset, if_neg hg]; exact h.session
    · rw [Blk.evtOf_hostReset, if_neg hg]; exact h.events
    · rw [b.ringOwner_hostReset f cause hr] at howner
      have hother : r ∉ b.ringsOf f := fun hmem => hg (howner.symm.trans (Blk.mem_ringsOf.mp hmem).2)
      rw [Blk.ringOf_hostReset, if_neg hother]
      exact h.rings r hr howner

theorem Blk.hostReset_fold_stops {l : List Nat} {g : Nat} (cause : Nat) (b : Blk) (h : g ∈ l ∨ b.HostStopped g) :
    (l.foldl (fun c f => c.hostReset f cause) b).HostStopped g := by
  induction l generalizing b with
  | nil => exact h.resolve_left List.not_mem_nil
  | cons f l ih =>
    refine ih (b.hostReset f cause) ?_
    rcases h with hmem | hstopped
    · rcases List.mem_cons.mp hmem with rfl | hmem
      · exact .inr (b.hostReset_stops g cause)
      · exact .inl hmem
    · exact .inr (hstopped.hostReset f cause)

/-- The reset of the host block stops every function (11 R318). -/
theorem Blk.hostBlockReset_stops (b : Blk) {g : Nat} (hg : g < 4) : b.hostBlockReset.HostStopped g :=
  Blk.hostReset_fold_stops 3 b (.inl (List.mem_range.mpr hg))

theorem Blk.ringOwner_lt (b : Blk) (r : Nat) : b.ringOwner r < 4 := Nat.mod_lt _ (by decide)

/-! ### The commands -/

/-- PERST# is noted as asserted or released. -/
def Blk.withPerst (b : Blk) (on : Bool) : Blk := { b with rst := { b.rst with perst := on } }

section
variable {s : State} {w : Nat}

theorem exec_perst_asserts (h : (s.blk.pass w).rst.perst = false) :
    exec (.perst w true) s = .next { s with blk := Blk.settle s.blk ((s.blk.pass w).withPerst true).hostBlockReset } := by
  change execPerst w true s = _
  rw [execPerst, State.upd, if_pos rfl, h, if_neg Bool.false_ne_true]
  rfl

theorem exec_flr_up (h : (s.blk.pass w).rst.perst = false) (f : Nat) :
    exec (.flr w f) s = .next { s with blk := Blk.settle s.blk ((s.blk.pass w).hostReset f 2) } := by
  change execFlr w f s = _
  rw [execFlr, State.upd, h, if_neg Bool.false_ne_true]

end

/-- Settles O21: PERST# resets the host side of every function, FLR that of its own. -/
theorem hostSideResets : Obligations.HostSideResets := by
  intro s w f b
  refine ⟨fun hup => ?perst, ?release, fun hup => ?flr⟩
  case perst =>
    have hreset := Blk.hostBlockReset_frame (b.withPerst true)
    have hframe : FrameM 0x430039014 b (b.withPerst true).hostBlockReset := ((FrameM.upd_rst b).mono rfl).trans (hreset.mono rfl)
    refine answers_of_eq (exec_perst_asserts hup) rfl hframe rfl ⟨hreset.same .rst rfl, fun g hg => ?_, fun r hr => ?_⟩
    · have hstopped := (b.withPerst true).hostBlockReset_stops hg
      exact ⟨hstopped.session, hstopped.events⟩
    · exact ((b.withPerst true).hostBlockReset_stops (Blk.ringOwner_lt _ r)).rings r hr rfl
  case release => exact answers_of_eq (m := 0x1000) (x := b.withPerst false) rfl rfl (FrameM.upd_rst b) rfl rfl
  case flr =>
    have hstopped := b.hostReset_stops f 2
    refine answers_of_eq (exec_flr_up hup f) rfl (Blk.hostReset_frame ..) rfl
      ⟨hstopped.session, hstopped.events, fun g hg => ⟨?_, ?_⟩, fun r hr => ?_⟩
    · rw [Blk.sesOf_hostReset, if_neg hg]
    · rw [Blk.evtOf_hostReset, if_neg hg]
    · rw [Blk.ringOf_hostReset, if_congr (Blk.mem_ringsOf.trans (and_iff_right hr)) rfl rfl]
      split
      · exact ⟨rfl, rfl⟩
      · rfl

end Sys2Proof.Machine
end

section
/-! Ring pairs start and stop, doorbells are read, and descriptors are fetched (11 R297 to R302). -/

namespace Sys2Proof.Machine

theorem Blk.ringOf_setRing_self (b : Blk) (r : Nat) (x : Ring) : (b.setRing r x).ringOf r = x := tget_tput_self ..

theorem Blk.ringOf_setRing_ne (b : Blk) {r q : Nat} (x : Ring) (h : q ≠ r) : (b.setRing r x).ringOf q = b.ringOf q := tget_tput_ne _ _ _ h

/-! ### RING_ENABLE and RING_DISABLE -/

section
variable {b : Blk} {r : Nat}

/-- ENABLE is a register of its own beside those that its write checks (11 R297). -/
theorem Blk.ringValid_setF_enable (b : Blk) (r : Nat) : (b.setF (R.HRG_CTL_ENABLE r)).ringValid r = b.ringValid r := by
  have hword {k : Nat} (h : k ≠ R.HRG_CTL r) : (b.setF (R.HRG_CTL_ENABLE r)).rdW k = b.rdW k :=
    congrArg BitVec.toNat ((rfGet_rfPut ..).trans (if_neg h))
  have hfield {g : BF} (h : g.off ≠ R.HRG_CTL r) : (b.setF (R.HRG_CTL_ENABLE r)).rd g = b.rd g := Blk.rd_wr_off b _ g 1 h
  rw [Blk.ringValid, Blk.ringValid, Blk.sqLen, Blk.sqLen, Blk.cqLen, Blk.cqLen,
    hword (by simp only [R.HRG_SQ_LO, R.HRG_CTL]; omega), hword (by simp only [R.HRG_CQ_LO, R.HRG_CTL]; omega),
    hfield (by simp only [R.HRG_SIZE_SQ_LOG, R.HRG_SIZE, R.HRG_CTL]; omega),
    hfield (by simp only [R.HRG_SIZE_CQ_LOG, R.HRG_SIZE, R.HRG_CTL]; omega)]

/-- A ring pair that starts, at index zero (11 R297). -/
def Blk.ringStarted (b : Blk) (r : Nat) : Blk :=
  (b.setF (R.HRG_CTL_ENABLE r)).setRing r { nextId := (b.ringOf r).nextId, running := true }

theorem Blk.ringEnable_stopped (hses : b.ringSes r = true) (hoff : b.flag (R.HRG_CTL_ENABLE r) = false)
    (hstop : (b.ringOf r).running = false) :
    b.ringEnable r = if b.ringValid r then b.ringStarted r else (b.setF (R.HRG_CTL_ENABLE r)).ringErr r 1 := by
  rw [Blk.ringEnable, hses, hoff, hstop, if_neg (by decide)]
  dsimp only
  rw [Blk.ringValid_setF_enable]
  have hring : (b.setF (R.HRG_CTL_ENABLE r)).ringOf r = b.ringOf r := (Blk.setF_frame ..).ringOf rfl r
  rw [hring]
  rfl

theorem Blk.ringStarted_flag (b : Blk) (r : Nat) : (b.ringStarted r).flag (R.HRG_CTL_ENABLE r) = true :=
  ((Blk.setRing_frame ..).flag rfl _).trans (Blk.flag_setF_self b _ (by decide : 1 ≠ 0) (by decide : 0 + 1 ≤ 32))

theorem Blk.ringOf_ringStarted_ne (b : Blk) {r q : Nat} (h : q ≠ r) : (b.ringStarted r).ringOf q = b.ringOf q :=
  (Blk.ringOf_setRing_ne _ _ h).trans ((Blk.setF_frame ..).ringOf rfl q)

theorem Blk.ringStarted_frame (b : Blk) (r : Nat) : FrameM 0x10010 b (b.ringStarted r) :=
  ((Blk.setF_frame ..).mono rfl).trans ((Blk.setRing_frame ..).mono rfl)

theorem Blk.ringOf_ringErr (b : Blk) (r code q : Nat) :
    (b.ringErr r code).ringOf q = if q = r then { b.ringOf r with running := false, err := code } else b.ringOf q :=
  ((Blk.record_frame ..).ringOf rfl q).trans (Blk.ringOf_setRing ..)

/-- A ring pair that has stopped with nothing in hand. -/
def Blk.ringIdled (b : Blk) (r : Nat) : Blk :=
  ((b.wr (R.HRG_CTL_ENABLE r) 0).excSpill r).setRing r { b.ringOf r with err := 0, stopping := false, running := false }

theorem Blk.ringDisable_empty (hses : b.ringSes r = true) (hon : b.flag (R.HRG_CTL_ENABLE r) = true) (hempty : (b.ringOf r).descs = []) :
    b.ringDisable r = b.ringIdled r := by
  have hclear : FrameM 0x10000010 b ((b.wr (R.HRG_CTL_ENABLE r) 0).excSpill r) :=
    ((Blk.wr_frame ..).mono rfl).trans ((Blk.excSpill_frame ..).mono rfl)
  rw [Blk.ringDisable, hses, hon, if_neg (by decide)]
  dsimp only
  rw [hclear.ringOf rfl, hempty, List.filter_nil, List.foldl_nil, hclear.ringOf rfl, hempty]
  simp [Blk.ringIdled, hempty]

theorem Blk.flag_wr_zero (b : Blk) {f : BF} (h : f.lo + f.w ≤ 32) : (b.wr f 0).flag f = false := by
  rw [Blk.flag, Blk.rd_wr_self b f 0 h, Nat.zero_mod]
  rfl

theorem Blk.ringIdled_flag (b : Blk) (r : Nat) : (b.ringIdled r).flag (R.HRG_CTL_ENABLE r) = false := by
  rw [Blk.ringIdled, (Blk.setRing_frame ..).flag rfl, (Blk.excSpill_frame ..).flag rfl]
  exact b.flag_wr_zero (by decide : 0 + 1 ≤ 32)

theorem Blk.ringOf_ringIdled_ne (b : Blk) {r q : Nat} (h : q ≠ r) : (b.ringIdled r).ringOf q = b.ringOf q := by
  rw [Blk.ringIdled, Blk.ringOf_setRing_ne _ _ h, (Blk.excSpill_frame ..).ringOf rfl, (Blk.wr_frame ..).ringOf rfl]

theorem Blk.ringIdled_frame (b : Blk) (r : Nat) : FrameM 0x10010010 b (b.ringIdled r) :=
  ((Blk.wr_frame ..).mono rfl).trans (((Blk.excSpill_frame ..).mono rfl).trans ((Blk.setRing_frame ..).mono rfl))

end

/-! ### Doorbells -/

section
variable {b : Blk} {r pi ci : Nat}

/-- The words of a ring pair's slot are taken; new ones restart the idle timer of its function (11 R294, R299). -/
def Blk.slotTaken (b : Blk) (r pi ci : Nat) : Blk :=
  (if (b.ringOf r).sqPi = pi ∧ (b.ringOf r).cqCi = ci then b else b.idleRestart (b.ringOwner r)).setRing r
    { b.ringOf r with sqPi := pi, cqCi := ci }

theorem Blk.slotTaken_frame (b : Blk) (r pi ci : Nat) : FrameM 0x18000 b (b.slotTaken r pi ci) := by
  unfold Blk.slotTaken
  split
  · exact (Blk.setRing_frame ..).mono rfl
  · exact ((Blk.idleRestart_frame ..).mono rfl).trans ((Blk.setRing_frame ..).mono rfl)

theorem Blk.idleFrom_slotTaken (h : (b.sesOf (b.ringOwner r)).idleFrom = b.up) :
    ((b.slotTaken r pi ci).sesOf (b.ringOwner r)).idleFrom = b.up := by
  unfold Blk.slotTaken
  rw [(Blk.setRing_frame ..).sesOf rfl]
  split
  · exact h
  · exact congrArg Ses.idleFrom (Blk.sesOf_setSes_self ..)

variable (hr : r < 64) (hrun : (b.ringOf r).running = true) (hok : (b.ringOf r).err = 0)
  (hsq : (pi + 0x100000000 - (b.ringOf r).sqCi) % 0x100000000 ≤ b.sqLen r)
  (hcq : ((b.ringOf r).cqPi + 0x100000000 - ci) % 0x100000000 ≤ b.cqLen r)
include hr hrun hok hsq hcq

/-- Words that fit the rings of a running pair are taken. -/
theorem Blk.slotRead_takes : b.slotRead r pi ci = b.slotTaken r pi ci := by
  have hframe := b.slotTaken_frame r pi ci
  have hsq' : (b.slotTaken r pi ci).sqLen r = b.sqLen r := by rw [Blk.sqLen, hframe.rd rfl]; rfl
  have hcq' : (b.slotTaken r pi ci).cqLen r = b.cqLen r := by rw [Blk.cqLen, hframe.rd rfl]; rfl
  have hread : b.slotRead r pi ci =
      if (pi + 0x100000000 - (b.ringOf r).sqCi) % 0x100000000 > (b.slotTaken r pi ci).sqLen r then (b.slotTaken r pi ci).ringErr r 2
      else if ((b.ringOf r).cqPi + 0x100000000 - ci) % 0x100000000 > (b.slotTaken r pi ci).cqLen r then (b.slotTaken r pi ci).ringErr r 3
      else b.slotTaken r pi ci := by
    rw [Blk.slotRead, if_pos hr]
    exact if_neg (by simp [hrun, hok])
  rw [hread, hsq', hcq', if_neg (Nat.not_lt.mpr hsq), if_neg (Nat.not_lt.mpr hcq)]

/-- A poll that read this slot alone, on a block whose counts and idle timers may differ. -/
theorem Blk.pollRead_takes {c : Blk} (hframe : FrameM 0x88000 b c) (hpi : pi < 0x100000000) (hci : ci < 0x100000000) :
    c.pollRead [r, pi, ci] = c.slotTaken r pi ci := by
  have hring := hframe.ringOf rfl r
  have hsq' : c.sqLen r = b.sqLen r := by rw [Blk.sqLen, hframe.rd rfl]; rfl
  have hcq' : c.cqLen r = b.cqLen r := by rw [Blk.cqLen, hframe.rd rfl]; rfl
  rw [Blk.pollRead, Nat.mod_eq_of_lt hpi, Nat.mod_eq_of_lt hci]
  exact Blk.slotRead_takes hr (hring ▸ hrun) (hring ▸ hok) (by rw [hring, hsq']; exact hsq) (by rw [hring, hcq']; exact hcq)

omit hrun hok hsq hcq in
/-- The slot of a ring pair is read with those of its function (11 R299). -/
theorem Blk.pollOf_own {fs : List Nat} (hfs : b.ringOwner r ∈ fs) (hses : b.sesOpen (b.ringOwner r) = true) :
    b.pollOf fs [r, pi, ci] = [r, pi, ci] := by
  simp [Blk.pollOf, hr, hfs, hses]

end

/-! ### DESCRIPTOR_FETCH -/

section
variable {b : Blk} {r : Nat} {data : Bytes}

/-- What staging a descriptor makes of its ring pair (11 R301). -/
def Ring.staged (x : Ring) (data : Bytes) : Ring :=
  { x with sqCi := (x.sqCi + 1) % 0x100000000, nextId := x.nextId + 1, descs := x.descs ++ [{ id := x.nextId, idx := x.sqCi, data := data }] }

/-- The write of SQ_CI to the doorbell slot of a ring pair (11 R299). -/
def Blk.slotWrite (b : Blk) (r ci : Nat) : Emit :=
  .hostWrite (b.ringOwner r) (b.addr64 (R.HRG_DBP_LO (b.ringOwner r)) (R.HRG_DBP_HI (b.ringOwner r)) + 0x40 * r + 16) (leB 4 ci)

/-- Staged: the descriptor, and SQ_CI put out. -/
def Blk.descStaged (b : Blk) (r : Nat) (data : Bytes) : Blk :=
  (b.setRing r ((b.ringOf r).staged data)).put (b.slotWrite r (((b.ringOf r).sqCi + 1) % 0x100000000))

theorem Blk.stage_after (b : Blk) (r : Nat) (data : Bytes) : FrameM 0x88000 (b.descStaged r data) (b.stage r data) :=
  ((Blk.idleRestart_frame ..).mono rfl).trans ((Blk.pmcEvent_frame ..).mono rfl)

theorem Blk.ringOf_stage (b : Blk) (r : Nat) (data : Bytes) : (b.stage r data).ringOf r = (b.ringOf r).staged data :=
  ((b.stage_after r data).ringOf rfl r).trans (Blk.ringOf_setRing_self ..)

theorem Blk.stage_out (b : Blk) (r : Nat) (data : Bytes) :
    (b.stage r data).out = b.slotWrite r (((b.ringOf r).sqCi + 1) % 0x100000000) :: b.out :=
  (b.stage_after r data).same .out rfl

theorem Blk.fetch_passes (hcan : b.canFetch r = true) (hlen : data.length = 32) (hok : b.descCheck (b.ringOwner r) data = none) :
    b.fetch r data = b.stage r data := by
  simp [Blk.fetch, hcan, hlen, hok]

theorem Blk.fetch_fails {st : Nat} (hcan : b.canFetch r = true) (hlen : data.length = 32) (hbad : b.descCheck (b.ringOwner r) data = some st) :
    b.fetch r data = (b.stage r data).complete ⟨r, (b.ringOf r).nextId⟩ st [] := by
  simp [Blk.fetch, hcan, hlen, hbad]

end

/-! ### The commands -/

section
variable {s : State} {w f r pi ci : Nat}

theorem exec_hrgNudge_open (hses : (s.blk.pass w).sesOpen f = true) (hown : (s.blk.pass w).ringOwner r = f) (hr : r < 64) :
    exec (.hrgNudge w f [r, pi, ci]) s
      = .next { s with blk := Blk.settle s.blk ((((s.blk.pass w).idleRestart f).pmcEvent 0x92 0 1).pollRead [r, pi, ci]) } := by
  change execHrgNudge w f [r, pi, ci] s = _
  subst hown
  rw [execHrgNudge, State.upd, if_pos hses, Blk.pollOf_own hr (List.mem_singleton.mpr rfl) hses]

theorem exec_doorbellPoll_open (hses : (s.blk.pass w).sesOpen ((s.blk.pass w).ringOwner r) = true) (hr : r < 64) :
    exec (.doorbellPoll w [r, pi, ci] []) s
      = .next { s with blk := Blk.settle s.blk (((s.blk.pass w).pmcEvent 0x92 0 1).pollRead [r, pi, ci]) } := by
  change execDoorbellPoll w [r, pi, ci] [] s = _
  have hup : (s.blk.pass w).hostUp = true := (Bool.and_eq_true_iff.mp hses).1
  have hown := Blk.ringOwner_lt (s.blk.pass w) r
  have hall : (s.blk.pass w).ringOwner r ∈ [0, 1, 2, 3].filter (!([] : List Nat).contains ·) := by simp; omega
  simp only [execDoorbellPoll, State.upd, hup, Bool.not_true, Bool.false_eq_true, if_false, List.foldl_nil, Blk.pollOf_own hr hall hses]

end

/-- Settles O22: each clause is the case of its command that its hypotheses select. -/
theorem ringsRunAndStop : Obligations.RingsRunAndStop := by
  intro s w r f pi ci data b
  refine ⟨fun hses hoff hstop hvalid => ?starts, fun hses hoff hstop hbad => ?refused, fun hses hon hempty => ?stops,
    fun hses hown hr hf hpi hci hrun hok hsq hcq => ?doorbell, fun hcan hlen hok => ?fetched, fun st hcan hlen hbad => ?failed⟩
  case starts =>
    exact answers_of_eq rfl ((Blk.ringEnable_stopped hses hoff hstop).trans (if_pos hvalid)) (b.ringStarted_frame r) rfl
      ⟨b.ringStarted_flag r, Blk.ringOf_setRing_self .., fun q hq => b.ringOf_ringStarted_ne hq⟩
  case refused =>
    have herr := (b.setF (R.HRG_CTL_ENABLE r)).ringOf_ringErr r 1 r
    have hframe : FrameM 0x30018 b ((b.setF (R.HRG_CTL_ENABLE r)).ringErr r 1) :=
      ((Blk.setF_frame ..).mono rfl).trans ((Blk.ringErr_frame ..).mono rfl)
    rw [if_pos rfl] at herr
    exact answers_of_eq rfl ((Blk.ringEnable_stopped hses hoff hstop).trans (if_neg (Bool.eq_false_iff.mp hbad))) hframe rfl
      ⟨congrArg Ring.running herr, congrArg Ring.err herr⟩
  case stops =>
    exact answers_of_eq rfl (Blk.ringDisable_empty hses hon hempty) (b.ringIdled_frame r) rfl
      ⟨b.ringIdled_flag r, Blk.ringOf_setRing_self .., fun q hq => b.ringOf_ringIdled_ne hq⟩
  case doorbell =>
    have hnudged : FrameM 0x88000 b ((b.idleRestart f).pmcEvent 0x92 0 1) :=
      ((Blk.idleRestart_frame ..).mono rfl).trans ((Blk.pmcEvent_frame ..).mono rfl)
    have hpolled : FrameM 0x88000 b (b.pmcEvent 0x92 0 1) := (Blk.pmcEvent_frame ..).mono rfl
    have htakes {c : Blk} (hc : FrameM 0x88000 b c) := Blk.pollRead_takes hr hrun hok hsq hcq hc hpi hci
    have hframe {c : Blk} (hc : FrameM 0x88000 b c) : FrameM 0x98000 b (c.slotTaken r pi ci) :=
      (hc.mono rfl).trans ((c.slotTaken_frame r pi ci).mono rfl)
    have hring {c : Blk} (hc : FrameM 0x88000 b c) : (c.slotTaken r pi ci).ringOf r = { b.ringOf r with sqPi := pi, cqCi := ci } :=
      (Blk.ringOf_setRing_self ..).trans (by rw [hc.ringOf rfl])
    refine ⟨answers_of_eq (exec_hrgNudge_open hses hown hr) (htakes hnudged) (hframe hnudged) rfl ⟨hring hnudged, ?_⟩,
      answers_of_eq (exec_doorbellPoll_open (hown ▸ hses) hr) (htakes hpolled) (hframe hpolled) rfl (hring hpolled)⟩
    have hown' : ((b.idleRestart f).pmcEvent 0x92 0 1).ringOwner r = f := (hnudged.ringOwner rfl r).trans hown
    have hup : ((b.idleRestart f).pmcEvent 0x92 0 1).up = b.up := hnudged.same .up rfl
    have hidle : (((b.idleRestart f).pmcEvent 0x92 0 1).sesOf f).idleFrom = b.up :=
      congrArg Ses.idleFrom (((Blk.pmcEvent_frame ..).sesOf rfl f).trans (Blk.sesOf_setSes_self ..))
    exact (hown' ▸ Blk.idleFrom_slotTaken (by rw [hown', hidle, hup])).trans hup
  case fetched =>
    exact answers_of_eq rfl (Blk.fetch_passes hcan hlen hok) (Blk.stage_frame ..) rfl
      ⟨b.ringOf_stage r data, by rw [Blk.stage_out]; exact List.mem_cons_self⟩
  case failed =>
    have hfails := Blk.fetch_fails hcan hlen hbad
    exact answers_of_eq rfl hfails (hfails ▸ Blk.fetch_frame ..) rfl rfl

end Sys2Proof.Machine
end

section
/-! Event rings start, anchors, interrupts and the reports of IDC_GSUM (11 R310 to R315, 17 R443). -/

namespace Sys2Proof.Machine

theorem Blk.evtOf_setEvt_self (b : Blk) (f : Nat) (x : Evt) : (b.setEvt f x).evtOf f = x := tget_tput_self ..

/-! ### EVENT_RING_ENABLE -/

section
variable {b : Blk} {f v : Nat}

/-- An event ring that starts, at index zero (11 R310). -/
def Blk.evtStarted (b : Blk) (f : Nat) : Blk := (b.setF (R.EVT_CTL_ENABLE f)).setEvt f { running := true, gsum := b.gsum }

theorem Blk.evtStarted_frame (b : Blk) (f : Nat) : FrameM 0x20010 b (b.evtStarted f) :=
  ((Blk.setF_frame ..).mono rfl).trans ((Blk.setEvt_frame ..).mono rfl)

theorem Blk.evtStarted_flag (b : Blk) (f : Nat) : (b.evtStarted f).flag (R.EVT_CTL_ENABLE f) = true :=
  ((Blk.setEvt_frame ..).flag rfl _).trans (Blk.flag_setF_self b _ (by decide : 1 ≠ 0) (by decide : 0 + 1 ≤ 32))

theorem Blk.evtEnable_starts (hses : b.sesOpen f = true) (hoff : b.flag (R.EVT_CTL_ENABLE f) = false) :
    b.evtEnable f = (b.evtStarted f).offer f 1 (anchorBytes b.ins.stepGen b.ins.timeValid 4 b.ins.now 0) := by
  have hins : (b.evtStarted f).ins = b.ins := (b.evtStarted_frame f).same .ins rfl
  rw [Blk.evtEnable, hses, hoff, if_neg (by decide), ← hins, Blk.evtStarted]

/-! ### INTERRUPT -/

theorem Blk.interrupt_sends (hses : b.sesOpen f = true) (hdue : b.vecDue f v = true) (hmask : b.vecMasked f v = false)
    (hroom : b.vecRoom f = true) :
    b.interrupt f v = ((b.vecClear f v).record f 2 0 v b.ins.now (leB 4 (b.vecCount f v))).vecSend f v := by
  have hins : (b.vecClear f v).ins = b.ins := (b.vecClear_frame f v).same .ins rfl
  rw [Blk.interrupt, hses, hdue, hmask, hroom, if_neg (by decide), if_neg (by decide), ← hins]

/-- The vector waits for its message (11 R315). -/
def Blk.vecPends (b : Blk) (f v : Nat) : Blk :=
  b.setEvt f { b.evtOf f with pend := if (b.evtOf f).pend.contains v then (b.evtOf f).pend else (b.evtOf f).pend ++ [v] }

theorem Blk.interrupt_pends (hses : b.sesOpen f = true) (hdue : b.vecDue f v = true) (hmask : b.vecMasked f v = true) :
    b.interrupt f v = b.vecPends f v := by
  rw [Blk.interrupt, hses, hdue, hmask, if_neg (by decide), Bool.true_or, if_pos rfl]
  rfl

theorem Blk.mem_pend_vecPends (b : Blk) (f v : Nat) : v ∈ ((b.vecPends f v).evtOf f).pend := by
  rw [Blk.vecPends, Blk.evtOf_setEvt_self]
  dsimp only
  split
  · next h => exact List.contains_iff_mem.mp h
  · exact List.mem_append_right _ List.mem_cons_self

theorem Blk.evtOf_vecClear (b : Blk) (f v : Nat) : (b.vecClear f v).evtOf f
    = { b.evtOf f with pend := (b.evtOf f).pend.filter (· != v), cnt := if v = 0 then 0 else (b.evtOf f).cnt } := by
  unfold Blk.vecClear
  dsimp only
  split
  · exact Blk.evtOf_setEvt_self ..
  · exact ((Blk.setRing_frame ..).evtOf rfl f).trans (Blk.evtOf_setEvt_self ..)

/-- Clearing a vector starts its count again, of records for vector 0 and of completions for the others (11 R315). -/
theorem Blk.vecCount_vecClear (b : Blk) (f v : Nat) : (b.vecClear f v).vecCount f v = 0 := by
  by_cases hv : v = 0
  · rw [Blk.vecCount, if_pos hv, Blk.evtOf_vecClear, if_pos hv]
  · rw [Blk.vecCount, if_neg hv, Blk.vecClear]
    simp only [if_neg hv, Blk.ringOf_setRing_self]

/-! ### GSUM_REPORT and EVT_GINT_EN -/

/-- The bits `m` that were held back are reported now (17 R443). -/
def Blk.gsumTold (b : Blk) (f m : Nat) : Blk :=
  b.setEvt f { b.evtOf f with
    gHeld := (b.evtOf f).gHeld - m
    gAt := (List.range 14).foldl (fun t i => if bitOf m i then tput t i b.up else t) (b.evtOf f).gAt }

theorem Blk.gsumReport_ready (hrun : (b.evtOf f).running = true) (hready : b.gsumReady f ≠ 0) :
    b.gsumReport f
      = (b.gsumTold f (b.gsumReady f)).record f 0x0F 0 (b.gsumReady f) b.ins.now (leB 4 b.gsum ++ leB 4 b.gstat) := by
  rw [Blk.gsumReport]
  exact if_neg (by simp [hrun, hready])

theorem Blk.gintWrite_rd (b : Blk) (f v : Nat) : (b.gintWrite f v).rd (R.EVT_GINT_EN_EN f) = v % 16384 :=
  ((Blk.gsumOne_frame ..).rd rfl _).trans (b.rd_wr_self (R.EVT_GINT_EN_EN f) v (by decide : 0 + 14 ≤ 32))

end

/-! ### The commands -/

section
variable {s : State} {w f v : Nat}

theorem exec_anchor_within (hrun : (s.blk.pass w).ins.running = true)
    (hnear : (s.blk.pass w).ins.now - wholeSec (s.blk.pass w).ins.now ≤ usU 10) :
    exec (.anchor w) s
      = .next { s with blk := Blk.settle s.blk ((s.blk.pass w).anchorAll 0 (wholeSec (s.blk.pass w).ins.now) 0) } := by
  change execAnchor w s = _
  rw [execAnchor, State.upd, hrun, decide_eq_true hnear, Bool.true_and, if_pos rfl]

theorem exec_evtGintEnWrite_open (hses : (s.blk.pass w).sesOpen f = true) :
    exec (.evtGintEnWrite w f v) s = .next { s with blk := Blk.settle s.blk ((s.blk.pass w).gintWrite f v) } := by
  change execEvtGintEnWrite w f v s = _
  rw [execEvtGintEnWrite, State.upd, if_pos hses]

end

/-- Settles O23: each clause is the case of its command that its hypotheses select. -/
theorem eventRingsAndInterrupts : Obligations.EventRingsAndInterrupts := by
  intro s w f v b
  refine ⟨fun hses hoff => ?starts, fun hrun hnear => ?anchors, fun hses hdue hmask hroom => ?sends, fun hses hdue hmask => ?pends,
    fun hrun hready => ?reports, fun hses => ?masks⟩
  case starts =>
    have hframe : FrameM 0x20018 b ((b.evtStarted f).offer f 1 (anchorBytes b.ins.stepGen b.ins.timeValid 4 b.ins.now 0)) :=
      ((b.evtStarted_frame f).mono rfl).trans ((Blk.offer_frame ..).mono rfl)
    exact answers_of_eq rfl (Blk.evtEnable_starts hses hoff) hframe rfl
      ⟨_, rfl, .of (b.evtStarted_frame f) rfl, Blk.evtOf_setEvt_self .., b.evtStarted_flag f⟩
  case anchors => exact answers_of_eq (exec_anchor_within hrun hnear) rfl (Blk.anchorAll_frame ..) rfl rfl
  case sends =>
    have hsends := Blk.interrupt_sends hses hdue hmask hroom
    exact answers_of_eq rfl hsends (hsends ▸ b.interrupt_frame f v) rfl
      ⟨_, rfl, rfl, b.vecCount_vecClear f v, by rw [Blk.evtOf_vecClear]; simp⟩
  case pends => exact answers_of_eq rfl (Blk.interrupt_pends hses hdue hmask) (Blk.setEvt_frame ..) rfl (b.mem_pend_vecPends f v)
  case reports =>
    have hreports := Blk.gsumReport_ready hrun hready
    exact answers_of_eq rfl hreports (hreports ▸ b.gsumReport_frame f) rfl
      ⟨_, rfl, .of (Blk.setEvt_frame ..) rfl, congrArg Evt.gHeld (Blk.evtOf_setEvt_self ..)⟩
  case masks => exact answers_of_eq (exec_evtGintEnWrite_open hses) rfl (Blk.gintWrite_frame ..) rfl (b.gintWrite_rd f v)

end Sys2Proof.Machine
end

section
/-! RX_BUFFER, STATS_SNAPSHOT, reads of host memory that fail, and a stalled host (11 R304, R305, R309, 13 R355). -/

namespace Sys2Proof.Machine

/-! ### RX_BUFFER -/

section
variable {b : Blk} {ref : DRef} {d : Bytes}

theorem Blk.rxPost_posts (hring : ref.ring = b.rd R.CLK_EXC_RING) (hmin : 64 ≤ leAt d 16 2) (hmax : leAt d 16 2 ≤ 16384) :
    b.rxPost ref d = b := by
  have hlen : ¬(leAt d 16 2 < 64 ∨ leAt d 16 2 > 16384) := by omega
  simp [Blk.rxPost, hring, if_neg hlen]

theorem Blk.rxPost_denied (hring : ref.ring ≠ b.rd R.CLK_EXC_RING) : b.rxPost ref d = b.complete ref stDenied [] :=
  if_pos (bne_iff_ne.mpr hring)

/-! ### STATS_SNAPSHOT -/

/-- The images of the blocks that a mask names, in order (11 R309). -/
def Blk.snapImage (b : Blk) (blocks : Nat) : Bytes := ((List.range 8).filter (bitOf blocks ·)).flatMap b.statsImage

/-- The images show nothing of the ring pairs. -/
theorem Blk.snapImage_beginDesc (b : Blk) (r : Nat) (x : Desc) (blocks : Nat) : (b.beginDesc r x).snapImage blocks = b.snapImage blocks := rfl

/-- Block 7, the counters of 16, is not among those below 128. -/
theorem Blk.snapshot_writes (hblocks : leAt d 8 2 < 128) (hfits : (b.snapImage (leAt d 8 2)).length ≤ leAt d 24 4) :
    b.snapshot ref d
      = (b.put (.hostWrite (b.ringOwner ref.ring) (leAt d 16 8) (b.snapImage (leAt d 8 2)))).complete ref stOk
          (leB 4 (b.snapImage (leAt d 8 2)).length) := by
  have hno7 : bitOf (leAt d 8 2) 7 = false := by
    rw [bitOf, Nat.div_eq_of_lt (b := 2 ^ 7) hblocks]
    rfl
  rw [Blk.snapshot, if_neg (by omega), hno7, Bool.false_and, if_neg Bool.false_ne_true]
  exact if_neg (Nat.not_lt.mpr hfits)

end

/-! ### The commands -/

section
variable {s : State} {w r : Nat} {d : Desc}

theorem exec_rxBuffer_of_ready (h : Ready (s.blk.pass w) r d 0x02) :
    exec (.rxBuffer w r) s = .next { s with blk := Blk.settle s.blk (((s.blk.pass w).beginDesc r d).rxPost ⟨r, d.id⟩ d.data) } :=
  exec_of_ready (c := .rxBuffer w r) (f := fun ref d b => b.rxPost ref d) rfl h rfl

theorem exec_statsSnapshot_of_ready (h : Ready (s.blk.pass w) r d 0x50) :
    exec (.statsSnapshot w r) s = .next { s with blk := Blk.settle s.blk (((s.blk.pass w).beginDesc r d).snapshot ⟨r, d.id⟩ d.data) } :=
  exec_of_ready (c := .statsSnapshot w r) (f := fun ref d b => b.snapshot ref d) rfl h rfl

/-- A read fails for the opcodes that read host memory (13 R355). -/
theorem exec_pcieCompletionTimeout_reads {op : Nat} (hop : op ∈ [0x01, 0x10, 0x24, 0x31, 0x40, 0x60]) (h : Ready (s.blk.pass w) r d op) :
    exec (.pcieCompletionTimeout w r) s
      = .next { s with blk := Blk.settle s.blk (((s.blk.pass w).beginDesc r d).complete ⟨r, d.id⟩ stTimeout []) } := by
  obtain ⟨hnext, rfl⟩ := h
  change execPcieCompletionTimeout w r s = _
  simp only [execPcieCompletionTimeout, State.upd, hnext, if_pos (List.contains_iff_mem.mpr hop)]

/-- The host block is reset, and the stall noted and counted (13 R355). -/
def Blk.hostStalled (b : Blk) : Blk := (b.hostBlockReset.setF R.FLC_STATUS_HOST_STALL).inc C.FLC_HOST_STALL

theorem exec_hostStall_up (hup : (s.blk.pass w).hostUp = true) :
    exec (.hostStall w) s = .next { s with blk := Blk.settle s.blk ((s.blk.pass w).hostStalled.raiseEnv errHostStall 0) } := by
  change execHostStall w s = _
  rw [execHostStall, State.upd, if_pos hup, Blk.hostStalled]

end

section
variable (b : Blk)

theorem Blk.hostStalled_after : FrameM 0x30 b.hostBlockReset b.hostStalled :=
  ((Blk.setF_frame ..).mono rfl).trans ((Blk.inc_frame ..).mono rfl)

theorem Blk.hostStalled_frame : FrameM 0x430038034 b b.hostStalled :=
  (b.hostBlockReset_frame.mono rfl).trans (b.hostStalled_after.mono rfl)

theorem Blk.hostStalled_session {g : Nat} (hg : g < 4) : (b.hostStalled.sesOf g).st ≠ .opened := by
  rw [b.hostStalled_after.sesOf rfl]
  exact (b.hostBlockReset_stops hg).session

theorem Blk.hostStalled_flag : b.hostStalled.flag R.FLC_STATUS_HOST_STALL = true :=
  ((Blk.inc_frame ..).flag rfl _).trans (Blk.flag_setF_self _ _ (by decide) (by decide))

theorem Blk.hostStalled_ctr :
    tget 0 b.hostStalled.ctr C.FLC_HOST_STALL = (tget 0 b.ctr C.FLC_HOST_STALL + 1) % 0x10000000000000000 := by
  have hctr : b.hostBlockReset.ctr = b.ctr := b.hostBlockReset_frame.same .ctr rfl
  rw [← hctr]
  exact tget_tput_self ..

end

/-- Settles O24: each clause is the case of its command that its hypotheses select. -/
theorem hostDescriptors : Obligations.HostDescriptors := by
  intro s w r d b
  refine ⟨fun h hring hmin hmax => ?posts, fun h hring => ?denied, fun h hblocks hfits => ?snapshot,
    fun op hop h => ?timeout, fun hup => ?stall⟩
  case posts =>
    exact answers_of_eq (exec_rxBuffer_of_ready h) (Blk.rxPost_posts hring hmin hmax) (Blk.beginDesc_frame ..) rfl rfl
  case denied =>
    exact completes_of (exec_rxBuffer_of_ready h) (Blk.rxPost_denied hring) (.of (m := 0) (of_eq_true (FrameM.refl ..)) rfl) rfl trivial
  case snapshot =>
    have hwrites := Blk.snapshot_writes (b := b.beginDesc r d) (ref := ⟨r, d.id⟩) hblocks hfits
    exact completes_of (exec_statsSnapshot_of_ready h) hwrites (.of (Blk.put_frame ..) rfl) rfl rfl
  case timeout =>
    exact completes_of (exec_pcieCompletionTimeout_reads hop h) rfl (.of (m := 0) (of_eq_true (FrameM.refl ..)) rfl) rfl trivial
  case stall =>
    have hframe : FrameM 0x7fc7fbfbc b (b.hostStalled.raiseEnv errHostStall 0) :=
      (b.hostStalled_frame.mono rfl).trans (Blk.raiseEnv_frame ..)
    exact answers_of_eq (exec_hostStall_up hup) rfl hframe rfl
      ⟨_, rfl, fun g hg => b.hostStalled_session hg, b.hostStalled_flag, b.hostStalled_ctr⟩

end Sys2Proof.Machine
end

section
/-! Lifecycle and fuses: what every command keeps of them (14 R381 to R386). -/

namespace Sys2Proof.Machine

/-! ### The order of the fuses -/

/-- One thing done to the fuses: from sound ones it leads to sound ones, and only programs them. -/
structure FusesKept (a b : Nvm) : Prop where
  kept : NvmOk a → NvmOk b ∧ NvmNext a b

theorem LifecycleNext.refl (a : Lifecycle) : LifecycleNext a a := ⟨id, id, .inl⟩

theorem LifecycleNext.trans {a b c : Lifecycle} (h : LifecycleNext a b) (k : LifecycleNext b c) : LifecycleNext a c := by
  obtain ⟨hblank, hrma, hretired⟩ := h
  obtain ⟨kblank, krma, kretired⟩ := k
  exact ⟨fun hc => hblank (kblank hc), fun ha => krma (hrma ha), fun ha => (hretired ha).elim kretired fun hb => .inr (krma hb)⟩

theorem NvmNext.trans {a b c : Nvm} (h : NvmNext a b) (k : NvmNext b c) : NvmNext a c := by
  obtain ⟨hlife, howner, hleft, hfloor, hmin⟩ := h
  obtain ⟨klife, kowner, kleft, kfloor, kmin⟩ := k
  exact ⟨hlife.trans klife, fun o ho => kowner o (howner o ho), kleft.trans hleft, hfloor.trans kfloor, kmin.trans hmin⟩

theorem FusesKept.trans {a b c : Nvm} (h : FusesKept a b) (k : FusesKept b c) : FusesKept a c := ⟨fun ha => by
  obtain ⟨hb, hab⟩ := h.kept ha
  obtain ⟨hc, hbc⟩ := k.kept hb
  exact ⟨hc, hab.trans hbc⟩⟩

/-- What leaves lifecycle, owner digest, returns and ENG_SVN_MIN alone and does not lower the floor keeps the fuses. -/
theorem FusesKept.of_same {a b : Nvm} (hlife : b.lifecycle = a.lifecycle) (howner : b.owner = a.owner) (hleft : b.reprovLeft = a.reprovLeft)
    (hfloor : a.svnFloor ≤ b.svnFloor) (hmin : b.engSvnMin = a.engSvnMin) : FusesKept a b := by
  refine ⟨fun ha => ⟨?_, ?_, fun o ho => howner.trans ho, hleft.le, hfloor, hmin⟩⟩
  · rw [NvmOk, hlife, howner, hleft]; exact ha
  · rw [hlife]; exact .refl _

theorem FusesKept.refl (a : Nvm) : FusesKept a a := .of_same rfl rfl rfl le_rfl rfl

theorem FusesKept.ite {a b c : Nvm} {q : Prop} [Decidable q] (hb : FusesKept a b) (hc : FusesKept a c) : FusesKept a (if q then b else c) := by
  split
  · exact hb
  · exact hc

theorem FusesKept.fst_ite {a : Nvm} {x y : Nvm × Blk} {q : Prop} [Decidable q] (hx : FusesKept a x.1) (hy : FusesKept a y.1) :
    FusesKept a (if q then x else y).1 := by
  split
  · exact hx
  · exact hy

/-! ### What a transition does (14 R382, R384) -/

section
variable (n : Nvm) (t : Lifecycle) (dig : Bytes)

theorem Nvm.transitErase_erases (h : t = .retired ∨ t = .rma) : n.transitErase t = { n.eraseAll with kp := none, intent := none } := by
  rcases h with rfl | rfl <;> rfl

theorem Nvm.transitErase_keeps (hretired : t ≠ .retired) (hrma : t ≠ .rma) : n.transitErase t = { n with kp := none, intent := none } := by
  simp [Nvm.transitErase, hretired, hrma]

/-- An erasure programs no fuse. -/
theorem Nvm.transitErase_fuses :
    (n.transitErase t).lifecycle = n.lifecycle ∧ (n.transitErase t).owner = n.owner ∧ (n.transitErase t).reprovLeft = n.reprovLeft
      ∧ (n.transitErase t).svnFloor = n.svnFloor ∧ (n.transitErase t).engSvnMin = n.engSvnMin := by
  by_cases h : t = .retired ∨ t = .rma
  · rw [n.transitErase_erases t h]; exact ⟨rfl, rfl, rfl, rfl, rfl⟩
  · obtain ⟨hretired, hrma⟩ := not_or.mp h
    rw [n.transitErase_keeps t hretired hrma]; exact ⟨rfl, rfl, rfl, rfl, rfl⟩

theorem Nvm.transit_svnFloor : (n.transit t dig).svnFloor = n.svnFloor := (n.transitErase_fuses t).2.2.2.1

theorem Nvm.transit_owner_fused {o : Bytes} (h : n.owner = some o) : (n.transit t dig).owner = some o := by
  simp only [Nvm.transit, h]

theorem Nvm.transit_owner_unfused (h : n.owner = none) :
    (n.transit t dig).owner = if n.lifecycle = .blank ∧ t = .provisioned then some dig else none := by
  simp only [Nvm.transit, h, Bool.and_eq_true, beq_iff_eq]

theorem Nvm.transit_reprovLeft :
    (n.transit t dig).reprovLeft = if n.lifecycle = .deployed ∧ t = .provisioned then n.reprovLeft - 1 else n.reprovLeft := by
  simp only [Nvm.transit, Bool.and_eq_true, beq_iff_eq]

end

theorem lcsAllowed_iff (a t : Lifecycle) : lcsAllowed a t = true ↔
    (a, t) ∈ [(.blank, .provisioned), (.provisioned, .deployed), (.deployed, .provisioned), (.provisioned, .retired), (.deployed, .retired),
      (Lifecycle.blank, Lifecycle.rma), (.provisioned, .rma), (.deployed, .rma), (.retired, .rma)] := by
  cases a <;> cases t <;> decide

/-- A listed transition leads on, never back to BLANK, and takes PROVISIONED, DEPLOYED or RETIRED from BLANK through PROVISIONED alone. -/
theorem lcsAllowed_next {a t : Lifecycle} (h : lcsAllowed a t = true) :
    LifecycleNext a t ∧ t ≠ .blank ∧ (a = .blank → t = .provisioned ∨ t = .rma) ∧ a ≠ .rma := by
  revert h
  cases a <;> cases t <;> simp [lcsAllowed, LifecycleNext]

theorem Nvm.transit_fusesKept {n : Nvm} {t : Lifecycle} (h : lcsAllowed n.lifecycle t = true) (dig : Bytes) : FusesKept n (n.transit t dig) := by
  obtain ⟨hnext, hnew, hblank, hrma⟩ := lcsAllowed_next h
  refine ⟨fun ⟨hunfused, hfused, hleft⟩ => ?_⟩
  have hleft' : (n.transit t dig).reprovLeft ≤ n.reprovLeft := by
    rw [n.transit_reprovLeft t dig]
    split
    · exact Nat.sub_le _ _
    · exact le_rfl
  have hsome : t ≠ .rma → (n.transit t dig).owner.isSome := fun htrma => by
    by_cases hb : n.lifecycle = .blank
    · have ht := (hblank hb).resolve_right htrma
      rw [n.transit_owner_unfused t dig (hunfused hb), if_pos ⟨hb, ht⟩]; rfl
    · obtain ⟨o, ho⟩ := Option.isSome_iff_exists.mp (hfused (by revert hb hrma; cases n.lifecycle <;> simp))
      rw [n.transit_owner_fused t dig ho]; rfl
  refine ⟨⟨fun ht => absurd ht hnew, fun ht => hsome ?_, hleft'.trans hleft⟩,
    hnext, fun o => n.transit_owner_fused t dig, hleft', (n.transit_svnFloor t dig).ge, (n.transitErase_fuses t).2.2.2.2⟩
  rintro rfl
  simp [Nvm.transit] at ht

theorem Nvm.transitErase_fusesKept (n : Nvm) (t : Lifecycle) : FusesKept n (n.transitErase t) := by
  obtain ⟨hlife, howner, hleft, hfloor, hmin⟩ := n.transitErase_fuses t
  exact .of_same hlife howner hleft hfloor.ge hmin

theorem Nvm.resume_fusesKept (n : Nvm) : FusesKept n n.resume := by
  unfold Nvm.resume
  split
  · split
    · next h => exact Nvm.transit_fusesKept h _
    · exact .of_same rfl rfl rfl le_rfl rfl
  · exact .refl n

/-! ### What each operation that writes fuses does to them -/

section
variable (n : Nvm) (b : Blk)

theorem Nvm.putCopy_fusesKept (copyB : Bool) (c : OlfelCopy) : FusesKept n (n.putCopy copyB c) :=
  .ite (.of_same rfl rfl rfl le_rfl rfl) (.of_same rfl rfl rfl le_rfl rfl)

theorem lcsGo_fusesKept (f v stop : Nat) : FusesKept n (lcsGo n b f v stop).1 := by
  unfold lcsGo
  refine .fst_ite (.refl n) (.fst_ite (.refl n) ?_)
  split
  · exact .refl n
  · next t _ =>
    by_cases h : lcsAllowed n.lifecycle t = true
    · simp only [h, Bool.not_true, Bool.false_eq_true, if_false]
      exact .fst_ite (.refl n) (.fst_ite (Nvm.transit_fusesKept h _)
        (.fst_ite (n.transitErase_fusesKept t) (.of_same rfl rfl rfl le_rfl rfl)))
    · simp only [h, Bool.not_false, if_true]
      exact .refl n

theorem lcsInstall_fusesKept (f func priv : Nat) : FusesKept n (lcsInstall n b f func priv).1 := by
  unfold lcsInstall
  refine .fst_ite (.refl n) (.fst_ite (.refl n) ?_)
  split
  · exact .refl n
  · exact .of_same rfl rfl rfl le_rfl rfl

theorem lcsErase_fusesKept (f func : Nat) : FusesKept n (lcsErase n b f func).1 := by
  unfold lcsErase
  exact .fst_ite (.refl n) (.fst_ite (.refl n) (.of_same rfl rfl rfl le_rfl rfl))

theorem lcsKeyCtl_fusesKept (f v : Nat) : FusesKept n (lcsKeyCtl n b f v).1 := by
  unfold lcsKeyCtl
  refine .fst_ite (.refl n) ?_
  dsimp only
  split
  · exact lcsInstall_fusesKept ..
  · exact lcsErase_fusesKept ..
  · exact .refl n

theorem raiseSvn_fusesKept : FusesKept n (raiseSvn n b) := by
  unfold raiseSvn
  split
  · exact .ite (.of_same rfl rfl rfl (Nat.le_max_left ..) rfl) (.refl n)
  · exact .refl n

theorem optStart_fusesKept (copyB : Bool) : FusesKept n (optStart n b copyB).1 := by
  unfold optStart
  exact .fst_ite (.refl n) (n.putCopy_fusesKept ..)

theorem optCtrl_fusesKept (f v : Nat) : FusesKept n (optCtrl n b f v).1 := by
  have hraise (c : Blk) : FusesKept n (if bitOf v 2 then raiseSvn n c else n) := .ite (raiseSvn_fusesKept n c) (.refl n)
  unfold optCtrl
  exact .fst_ite (.refl n) (.fst_ite ((hraise _).trans (optStart_fusesKept ..)) (hraise _))

theorem optDone_fusesKept (bytes : Bytes) (fault : Nat) : FusesKept n (optDone n b bytes fault).1 := by
  unfold optDone
  refine .fst_ite (.refl n) (.fst_ite (.refl n) ?_)
  split
  · exact .refl n
  · exact .fst_ite (.refl n) (.fst_ite (.refl n) (n.putCopy_fusesKept ..))

theorem provWrite_fusesKept (f v : Nat) : FusesKept n (provWrite n b f v) := .ite (.of_same rfl rfl rfl le_rfl rfl) (.refl n)

end

/-- Of the registers that a host writes, those of the lifecycle, the option store and the provisioning keys reach the fuses. -/
theorem writeReg_fusesKept (n : Nvm) (b : Blk) (f off : Nat) (v : Word) (row : RegRow) (i : Nat) :
    FusesKept n (writeReg n b f off v row i).1 := by
  unfold writeReg
  refine .fst_ite (.refl n) (.fst_ite (.refl n) (.fst_ite (provWrite_fusesKept ..) ?_))
  iterate 4 refine .fst_ite (.refl n) ?_
  refine .fst_ite (lcsGo_fusesKept ..) (.fst_ite (optCtrl_fusesKept ..) (.fst_ite (lcsKeyCtl_fusesKept ..) ?_))
  iterate 10 refine .fst_ite (.refl n) ?_
  exact .refl n

theorem writeOne_fusesKept (n : Nvm) (b : Blk) (f off v : Nat) : FusesKept n (writeOne n b f off v).1 := by
  unfold writeOne
  iterate 5 refine .fst_ite (.refl n) ?_
  split
  · exact .refl n
  · exact writeReg_fusesKept ..

theorem writeWords_fusesKept (f : Nat) (vals : List Nat) : ∀ (n : Nvm) (b : Blk) (off be : Nat), FusesKept n (writeWords n b f off be vals).1 := by
  induction vals with
  | nil => exact fun n _ _ _ => .refl n
  | cons v rest ih =>
    intro n b off be
    rw [writeWords]
    exact FusesKept.trans (.fst_ite (writeOne_fusesKept ..) (.fst_ite (.refl n) (.refl n))) (ih ..)

theorem request_fusesKept (n : Nvm) (b : Blk) (f off be : Nat) (write : Bool) (vals : List Nat) :
    FusesKept n (request n b f off be write vals).1 := by
  unfold request
  exact .fst_ite (.refl n) (.fst_ite (.fst_ite (.refl n) (.refl n))
    (.fst_ite (.refl n) (.fst_ite (writeWords_fusesKept ..) (.refl n))))

theorem bootS2_fuses (n : Nvm) (b : Blk) : (bootS2 n b).2.1 = n := by
  simp only [bootS2]
  split
  · rfl
  · split <;> rfl

theorem bootS7_fuses (n : Nvm) (b : Blk) : (bootS7 n b).2.1 = n := by
  simp only [bootS7]
  split
  · rfl
  · split
    · rfl
    · split <;> rfl

theorem bootS8_fuses (n : Nvm) (b : Blk) : (bootS8 n b).2.1 = n := by
  unfold bootS8
  split <;> rfl

theorem bootS9_fuses (n : Nvm) (b : Blk) : (bootS9 n b).2.1 = n := by
  unfold bootS9
  split <;> rfl

theorem bootS4_fusesKept (n : Nvm) (b : Blk) : FusesKept n (bootS4 n b).2.1 := by
  unfold bootS4
  split
  · exact .refl n
  · exact .of_same rfl rfl rfl le_rfl rfl

/-- Of the boot steps S1 resumes a transition and S4 notes that values are trained; the others leave the fuses. -/
theorem bootWork_fusesKept (n : Nvm) (b : Blk) (k : Nat) : FusesKept n (bootWork n b k).2.1 := by
  have hsame {m : Nvm} (h : m = n) : FusesKept n m := h ▸ .refl n
  unfold bootWork
  split
  · exact .refl n
  · exact n.resume_fusesKept
  · exact hsame (bootS2_fuses n b)
  · exact bootS4_fusesKept n b
  · exact .refl n
  · exact .refl n
  · exact hsame (bootS7_fuses n b)
  · exact hsame (bootS8_fuses n b)
  · exact hsame (bootS9_fuses n b)
  · exact .refl n

theorem bootStepDone_fusesKept (n : Nvm) (b : Blk) : FusesKept n (bootStepDone n b).1 := by
  unfold bootStepDone
  split
  · exact .refl n
  · next k _ =>
    have hwork := bootWork_fusesKept n b k
    exact .fst_ite (.refl n) (.fst_ite hwork (.fst_ite hwork hwork))

/-! ### Every command, and the fuses after reset -/

theorem State.updN_fusesKept {s t : State} {w : Nat} {f : Nvm → Blk → Nvm × Blk} (hf : ∀ n b, FusesKept n (f n b).1)
    (h : s.updN w f = .next t) : FusesKept s.nvm t.nvm := by
  obtain rfl : _ = t := by simpa [State.updN] using h
  exact hf ..

/-- Each command that may write the fuses does so by its operation; the others leave them. -/
theorem exec_fusesKept {c : Instr} {s t : State} (h : exec c s = .next t) : FusesKept s.nvm t.nvm := by
  by_cases hw : writesNvm c = true
  · unfold writesNvm at hw
    split at hw
    · exact State.updN_fusesKept (f := bootStepDone) bootStepDone_fusesKept h
    · next w f =>
      change execSesProvLoad w f s = _ at h
      exact State.updN_fusesKept (fun n _ => .fst_ite (.of_same rfl rfl rfl le_rfl rfl) (.refl n)) h
    · next f v stop => exact State.updN_fusesKept (f := fun n b => lcsGo n b f v stop) (fun n b => lcsGo_fusesKept n b f v stop) h
    · next f v => exact State.updN_fusesKept (f := fun n b => lcsKeyCtl n b f _) (fun n b => lcsKeyCtl_fusesKept n b f _) h
    · next f v => exact State.updN_fusesKept (f := fun n b => lcsKeyCtl n b f _) (fun n b => lcsKeyCtl_fusesKept n b f _) h
    · next f copyB => exact State.updN_fusesKept (f := fun n b => optCtrl n b f _) (fun n b => optCtrl_fusesKept n b f _) h
    · next bytes fault => exact State.updN_fusesKept (f := fun n b => optDone n b bytes fault) (fun n b => optDone_fusesKept n b bytes fault) h
    · next f => exact State.updN_fusesKept (f := fun n b => optCtrl n b f _) (fun n b => optCtrl_fusesKept n b f _) h
    · next f off be write vals =>
      exact State.updN_fusesKept (f := fun n b => request n b (f % 4) _ be write vals) (fun n b => request_fusesKept n b _ _ be write vals) h
    · next w r blk =>
      change execTwinSetKey w r blk s = _ at h
      refine State.updN_fusesKept (fun n b => ?_) h
      dsimp only
      split
      · exact .of_same rfl rfl rfl le_rfl rfl
      · exact .refl n
    · exact absurd hw Bool.false_ne_true
  · obtain ⟨n, u, hexec, hsame, -⟩ := exec_answersWithin c s
    obtain rfl : _ = t := by simpa using hexec.symm.trans h
    exact hsame (by simpa using hw) ▸ .refl _

/-! ### The statements -/

/-- Settles O9: every command keeps the fuses sound, and an empty queue leaves them. -/
theorem fusesStaySound : Obligations.FusesStaySound := by
  intro s t hok hstep
  have hkept : FusesKept s.nvm t.nvm := by
    unfold step at hstep
    split at hstep
    · obtain rfl : s = t := by simpa using hstep
      exact .refl _
    · next rest _ => exact exec_fusesKept (s := { s with pending := rest }) hstep
  exact hkept.kept hok

/-- Settles O10: the table by its cases, the conditions and the actions by what a transition erases and fuses. -/
theorem lifecycleTransitions : Obligations.LifecycleTransitions := by
  refine ⟨lcsAllowed_iff, fun n t dig => ⟨fun h => ?_, fun h => ?_, fun h => ?_, fun h => ?_, rfl, rfl, n.transit_svnFloor t dig,
    fun h => ?_, fun hretired hrma => ?_, fun o => n.transit_owner_fused t dig, n.transit_owner_unfused t dig, n.transit_reprovLeft t dig⟩⟩
  · simp [lcsReady, h]
  · simp [lcsReady, h]
  · simp [lcsReady, h, Nat.pos_iff_ne_zero]
  · rcases h with rfl | rfl <;> cases hl : n.lifecycle <;> simp [lcsReady, hl]
  · rw [Nvm.transit, n.transitErase_erases t h]; exact ⟨rfl, rfl, rfl, rfl⟩
  · rw [Nvm.transit, n.transitErase_keeps t hretired hrma]; exact ⟨rfl, rfl, rfl, rfl⟩

/-- Settles O8: as shipped the module is BLANK, with no owner digest and seven returns left. -/
theorem fusesSoundAtReset : Obligations.FusesSoundAtReset := ⟨fun _ => rfl, by simp [State.reset, Nvm.shipped], le_rfl⟩

/-- After VIN power-on and VKEEP power-on together only RST_KEEP differs from its reset value. -/
theorem State.reset_cleared : Cleared State.reset.blk State.reset.blk := by
  have hregs (k : Nat) (hk : isKeepKey k = false) : rfGet State.reset.blk.regs k = resetWord k := by
    refine if_neg ?_
    rintro rfl
    exact absurd hk (by decide)
  have hses (f : Nat) : (State.reset.blk.sesOf f).st = .idle :=
    tget_mem_or_default (fun x : Ses => x.st = .idle) _ _ f rfl (by decide)
  exact ⟨rfl, rfl, rfl, rfl, rfl, rfl, rfl, rfl, rfl, rfl, rfl, rfl, rfl, rfl, rfl, rfl, rfl, rfl, rfl, rfl, rfl, rfl, rfl, rfl, rfl,
    hregs, fun f => .inl (hses f)⟩

/-- Settles O7: the state after reset, field by field. -/
theorem resetState : Obligations.ResetState :=
  ⟨rfl, rfl, rfl, rfl, rfl, rfl, rfl, rfl, rfl, rfl, rfl, by decide, by decide, State.reset_cleared⟩

/-- Settles O1: the row of the step for a queue that holds a command. -/
theorem stepRunsFrontCommand : Obligations.StepRunsFrontCommand := by
  intro s c rest h
  rw [step, h]

/-- Settles O2: the row of the step for an empty queue. -/
theorem emptyQueueIdles : Obligations.EmptyQueueIdles := by
  intro s h
  rw [step, h]

/-- No command touches the elapsed time or the part. -/
theorem touches_keeps_time (c : Instr) : Piece.up ∉ touches c ∧ Piece.part ∉ touches c := by
  cases c <;> exact of_decide_eq_true rfl

/-- Settles O5: by the frame of each command it touches neither the elapsed time nor the part, and what settles leaves both. -/
theorem elapsedTimeAdvances : Obligations.ElapsedTimeAdvances := by
  intro c s t h
  obtain ⟨n, u, hexec, -, hframe⟩ := exec_answersWithin c s
  obtain ⟨hup, hpart⟩ := touches_keeps_time c
  obtain rfl : _ = t := by simpa using hexec.symm.trans h
  exact ⟨hframe .up hup, hframe .part hpart, rfl⟩

end Sys2Proof.Machine
end

section
/-! Sources release and boot starts; the Keep block over resets (14 R364 to R372). -/

namespace Sys2Proof.Machine

/-! ### Release of a source -/

/-- The block with the die temperature that the trip sensor shows. -/
def Blk.withTj (b : Blk) (tj : Int) : Blk := { b with tj := tj }

theorem Blk.withTj_frame (b : Blk) (tj : Int) : FrameM 0x1000000000 b (b.withTj tj) := FrameM.upd_tj b

section
variable {s : State} {w : Nat} {tj : Int}

theorem exec_thermalTrip_cool (h : tj ≤ 105) :
    exec (.thermalTrip w tj) s = .next { s with blk := Blk.settle s.blk (((s.blk.pass w).withTj tj).devRelease 3) } := by
  have hwarm : ¬tj ≥ 125 := by omega
  change execThermalTrip w tj s = _
  simp only [execThermalTrip, State.upd, if_neg hwarm, if_pos h, Blk.withTj]

theorem exec_thermalTrip_between (h : 105 < tj) (h' : tj < 125) :
    exec (.thermalTrip w tj) s = .next { s with blk := Blk.settle s.blk ((s.blk.pass w).withTj tj) } := by
  have hwarm : ¬tj ≥ 125 := by omega
  have hcool : ¬tj ≤ 105 := by omega
  change execThermalTrip w tj s = _
  simp only [execThermalTrip, State.upd, if_neg hwarm, if_neg hcool, Blk.withTj]

end

/-! ### Boot starts -/

section
variable (b : Blk)

theorem Blk.bootFrom0_boot : b.bootFrom0.boot = { b.boot with step := some 0, restart := false, done := false } := by
  unfold Blk.bootFrom0
  dsimp only
  split <;> rfl

theorem Blk.bootFrom0_fallback (h : b.rst.crystal = false) : b.bootFrom0.flag R.RST_BOOT_CFG_FALLBACK = true := by
  rw [Blk.bootFrom0, if_neg (by simp [h])]
  exact Blk.flag_setF_self _ _ (by decide) (by decide)

/-- A stay in DORMANT has ended: the sources that asserted in it are forgotten, and the mode is LOADING. -/
def Blk.stayEnded (b : Blk) : Blk := Blk.changeMode { b with rst := { b.rst with seen := [] } } .loading 0

theorem Blk.stayEnded_after : FrameM 0x200020788 { b with rst := { b.rst with seen := [] } } b.stayEnded := Blk.changeMode_frame ..

variable {b}

theorem Blk.bootStart_begins (hm : b.mode = .dormant) (hreleased : b.rst.asserted = []) (hclock : b.rst.crystal = true ∨ b.rst.startOsc = true) :
    b.bootStart = b.stayEnded.bootFrom0 := by
  simp [Blk.bootStart, Blk.stayEnded, hm, hreleased, hclock]

theorem Blk.bootStart_held (h : b.rst.asserted ≠ []) : b.bootStart = b := by
  simp [Blk.bootStart, h]

end

/-- Settles O12: each clause is the release or the start that its hypotheses select. -/
theorem resetSourcesRelease : Obligations.ResetSourcesRelease := by
  intro s w tj b
  refine ⟨?vin, ?pin, fun h => ?cool, fun h h' => ?between, fun hm hreleased hclock => ?starts, fun h => ?held⟩
  case vin => exact answers_of_eq (x := b.devRelease 1) rfl rfl (b.devRelease_frame 1) rfl rfl
  case pin => exact answers_of_eq (x := b.devRelease 2) rfl rfl (b.devRelease_frame 2) rfl rfl
  case cool =>
    have hframe : FrameM 0x1000001000 b ((b.withTj tj).devRelease 3) :=
      ((b.withTj_frame tj).mono rfl).trans ((Blk.devRelease_frame ..).mono rfl)
    exact answers_of_eq (exec_thermalTrip_cool h) rfl hframe rfl ⟨rfl, rfl⟩
  case between => exact answers_of_eq (exec_thermalTrip_between h h') rfl (b.withTj_frame tj) rfl rfl
  case starts =>
    have hbegins := Blk.bootStart_begins hm hreleased hclock
    obtain ⟨hmode, hlast, hcause⟩ := Blk.changeMode_modes { b with rst := { b.rst with seen := [] } } .loading 0
    have hboot : b.stayEnded.boot = b.boot := b.stayEnded_after.same .boot rfl
    have hrst : b.stayEnded.rst = { b.rst with seen := [] } := b.stayEnded_after.same .rst rfl
    have hfrom := b.stayEnded.bootFrom0_frame
    refine answers_of_eq (x := b.bootStart) rfl hbegins (hbegins ▸ b.bootStart_frame) rfl
      ⟨(hfrom.same .mode rfl).trans hmode, ((hfrom.same .lastMode rfl).trans hlast).trans hm, (hfrom.same .entryCause rfl).trans hcause, ?_,
        (hfrom.same .rst rfl).trans hrst, fun hcrystal => Blk.bootFrom0_fallback _ ?_⟩
    · rw [Blk.bootFrom0_boot, hboot]
    · rw [hrst]; exact hcrystal
  case held => exact answers_idle (u := b.bootStart) rfl (Blk.bootStart_held h)

/-! ### The Keep block -/

section
variable (b : Blk)

theorem Blk.rfGet_keepClear (k : Nat) : rfGet b.keepClear.regs k = if isKeepKey k then resetWord k else rfGet b.regs k := by
  refine (rfGet_filter b.regs (fun k => !isKeepKey k) k).trans ?_
  cases isKeepKey k <;> rfl

/-- The block after VKEEP has risen. -/
def Blk.keepUp (b : Blk) : Blk := Blk.wr { b.keepClear with rst := { b.keepClear.rst with vkeep := true } } R.RST_KEEP_KEEP_LOST 1

/-- The block after VKEEP has fallen. -/
def Blk.keepDown (b : Blk) : Blk := { b.keepClear with rst := { b.keepClear.rst with vkeep := false } }

theorem Blk.keepUp_frame : FrameM 0x1010 b b.keepUp := (FrameM.upd_regs_rst b).trans ((Blk.wr_frame ..).mono rfl)

theorem Blk.keepDown_frame : FrameM 0x1010 b b.keepDown := FrameM.upd_regs_rst b

theorem Blk.rfGet_wr_ne {f : BF} (v : Nat) {k : Nat} (h : k ≠ f.off) : rfGet (b.wr f v).regs k = rfGet b.regs k :=
  (rfGet_rfPut ..).trans (if_neg h)

theorem Blk.rfGet_keepUp {k : Nat} (h : k ≠ R.RST_KEEP) : rfGet b.keepUp.regs k = rfGet b.keepClear.regs k :=
  Blk.rfGet_wr_ne _ _ h

/-- Every field of RST_KEEP but KEEP_LOST is 0 after VKEEP has risen. -/
theorem Blk.rd_keepUp {f : BF} (hoff : f.off = R.RST_KEEP) (hlow : f.lo + f.w ≤ 31) : b.keepUp.rd f = 0 := by
  have hword : rfGet b.keepClear.regs R.RST_KEEP = 0 := (b.rfGet_keepClear _).trans ((if_pos (by decide)).trans (by decide))
  refine (Blk.rd_wr_disj _ R.RST_KEEP_KEEP_LOST f 1 (by decide) (.inr (.inl hlow))).trans ?_
  change fieldOf (rfGet b.keepClear.regs f.off) f.lo f.w = 0
  rw [hoff, hword]
  simp [fieldOf]

/-- A device-reach reset outside LOADING writes no register of KEEP but its counter. -/
theorem Blk.rfGet_devReset {code : Nat} (hm : b.mode ≠ .loading) {k : Nat} (hkeep : isKeepKey k = true) (hne : k ≠ R.RST_KEEP) :
    rfGet (b.devReset code).regs k = rfGet b.regs k := by
  have hinit (g : Bool) : rfGet (b.reInit g).regs k = rfGet b.regs k := by rw [b.rfGet_reInit_regs, if_pos hkeep]
  have habandon : b.bootAbandon = b := if_neg (by simpa using hm)
  unfold Blk.devReset
  split
  · rfl
  · dsimp only
    rw [habandon]
    split
    · exact (Blk.rfGet_wr_ne _ _ hne).trans (hinit _)
    · exact hinit _

end

/-- Settles O13: what VKEEP clears, register by register, and what a device-reach reset keeps. -/
theorem keepBlock : Obligations.KeepBlock := by
  refine ⟨fun s w => ⟨?rises, ?falls⟩, fun b code hm k hkeep hne => b.rfGet_devReset hm hkeep hne⟩
  case rises =>
    let b := s.blk.pass w
    have hlost : b.keepUp.rd R.RST_KEEP_KEEP_LOST = 1 := Blk.rd_wr_self _ _ _ (by decide)
    refine answers_of_eq (x := b.keepUp) rfl rfl b.keepUp_frame rfl
      ⟨bne_iff_ne.mpr (hlost.trans_ne one_ne_zero), b.rd_keepUp rfl (by decide), b.rd_keepUp rfl (by decide), rfl, fun k hkeep hne => ?_, fun k hkeep => ?_⟩
    · rw [b.rfGet_keepUp hne, b.rfGet_keepClear, if_pos hkeep]
    · have hne : k ≠ R.RST_KEEP := by rintro rfl; exact absurd hkeep (by decide)
      rw [b.rfGet_keepUp hne, b.rfGet_keepClear, hkeep]; rfl
  case falls =>
    let b := s.blk.pass w
    refine answers_of_eq (x := b.keepDown) rfl rfl b.keepDown_frame rfl ⟨rfl, fun k hkeep => ?_, fun k hkeep => ?_⟩
    · exact (b.rfGet_keepClear k).trans (if_pos hkeep)
    · exact (b.rfGet_keepClear k).trans (by rw [hkeep]; rfl)

end Sys2Proof.Machine
end

section
/-! Unit resets that the host requests: begun, refused, ended (14 R368, 15 R395). -/

namespace Sys2Proof.Machine

section
variable {b : Blk} {f kind i : Nat}

/-! ### A reset begins -/

/-- The block with a unit reset noted as running. -/
def Blk.unitNoted (b : Blk) (kind i : Nat) : Blk := { b with rst := { b.rst with units := b.rst.units ++ [⟨kind, i, true⟩] } }

/-- Beginning a unit reset touches neither the list of resets nor the held units, once it is noted. -/
theorem Blk.unitBegin_after (b : Blk) (kind i : Nat) : FrameM 0x4f82b0038 (b.unitNoted kind i) (b.unitBegin kind i true) := by
  unfold Blk.unitBegin
  dsimp only
  split
  · exact (Blk.benchBegin_frame ..).mono rfl
  · exact (Blk.engineBegin_frame ..).mono rfl
  · exact Blk.portBegin_frame ..

theorem Blk.unitBegin_units (b : Blk) (kind i : Nat) : (b.unitBegin kind i true).rst.units = b.rst.units ++ [⟨kind, i, true⟩] :=
  congrArg ResetSt.units ((b.unitBegin_after kind i).same .rst rfl)

theorem Blk.unitBegin_held (b : Blk) (kind i code : Nat) : (b.unitBegin kind i true).isHeld code = b.isHeld code :=
  congrArg (fun e : Err => e.held.contains code) ((b.unitBegin_after kind i).same .err rfl)

theorem Blk.release_isHeld (b : Blk) (u : Nat) : (b.release u).isHeld u = false := by
  simp [Blk.isHeld, Blk.release]

/-- A unit that the host resets, released from isolation and with its reset begun. -/
def Blk.unitStarted (b : Blk) (kind i : Nat) : Blk := (b.release (unitCode kind i)).unitBegin kind i true

theorem Blk.unitStarted_units (b : Blk) (kind i : Nat) : (b.unitStarted kind i).rst.units = b.rst.units ++ [⟨kind, i, true⟩] :=
  Blk.unitBegin_units ..

theorem Blk.unitStarted_released (b : Blk) (kind i : Nat) : (b.unitStarted kind i).isHeld (unitCode kind i) = false :=
  (Blk.unitBegin_held ..).trans (Blk.release_isHeld ..)

theorem Blk.staleAdd_mem (b : Blk) {l : List Nat} {x : Nat} (h : x ∈ l) : x ∈ (b.staleAdd l).nts.stale := by
  by_cases hx : x ∈ b.nts.stale <;> simp [Blk.staleAdd, hx, h]

/-- A Bench reset wipes the key copies of its two Stitchers (09 R235). -/
theorem Blk.unitStarted_stale (b : Blk) (i : Nat) : 2 * i ∈ (b.unitStarted 1 i).nts.stale ∧ 2 * i + 1 ∈ (b.unitStarted 1 i).nts.stale :=
  ⟨Blk.staleAdd_mem _ (by simp), Blk.staleAdd_mem _ (by simp)⟩

/-! ### The three answers to a request -/

theorem Blk.unitReset_starts (hsetup : b.setup f = true) (hkind : kind ≠ 0) (hthere : b.unitThere kind i = true)
    (hwider : b.unitWider kind i = false) (hidle : b.resetting kind i = false) :
    b.unitReset f kind i = Blk.follow b (b.unitStarted kind i) := by
  have hidle' : (b.release (unitCode kind i)).resetting kind i = false := hidle
  simp [Blk.unitReset, Blk.unitStarted, hsetup, hkind, hthere, hwider, hidle']

theorem Blk.unitReset_refused (hsetup : b.setup f = true) (hkind : kind ≠ 0) (h : b.unitThere kind i = false ∨ b.unitWider kind i = true) :
    b.unitReset f kind i = b.setF R.RST_UNIT_REFUSED := by
  simp [Blk.unitReset, hsetup, hkind, h]

/-! ### A reset ends -/

/-- The block in which the resets of a unit are over, the key copies of a Bench good again. -/
def Blk.unitOver (b : Blk) (kind i : Nat) : Blk :=
  let c := { b with rst := { b.rst with units := b.rst.units.filter fun v => !(v.kind == kind && v.index == i) } }
  if kind = 1 then c.staleDel [2 * i, 2 * i + 1] else c

theorem Blk.unitOver_units (b : Blk) (kind i : Nat) :
    (b.unitOver kind i).rst.units = b.rst.units.filter fun v => !(v.kind == kind && v.index == i) := by
  unfold Blk.unitOver
  dsimp only
  split <;> rfl

theorem Blk.unitOver_idle (b : Blk) (kind i : Nat) : (b.unitOver kind i).resetting kind i = false := by
  rw [Blk.resetting, Blk.unitOver_units]
  exact List.any_eq_false.mpr fun u hu => Bool.eq_false_iff.mp ((Bool.not_eq_true' _).mp (List.mem_filter.mp hu).2)

theorem Blk.unitDone_byHost {x : UnitReset} (hfind : (b.rst.units.find? fun u => u.kind == kind && u.index == i) = some x)
    (hhost : x.byHost = true) : b.unitDone kind i = Blk.follow b (b.unitOver kind i) := by
  simp [Blk.unitDone, Blk.unitOver, Blk.errSuspends, Blk.keepsHeld, hfind, hhost]

end

/-! ### The commands -/

section
variable {c : Instr} {s : State} {f kind i : Nat}

theorem answers_unitStarts {P : Blk → Prop} (hexec : exec c s = .next { s with blk := Blk.settle s.blk ((s.blk.pass c.wait).unitReset f kind i) })
    (htouches : touches c = allBut [.part, .up, .latch, .lcs, .heel, .hold, .outs, .featAbsent, .tj]) (hsetup : (s.blk.pass c.wait).setup f = true)
    (hkind : kind ≠ 0) (hthere : (s.blk.pass c.wait).unitThere kind i = true) (hwider : (s.blk.pass c.wait).unitWider kind i = false)
    (hidle : (s.blk.pass c.wait).resetting kind i = false) (hP : P ((s.blk.pass c.wait).unitStarted kind i)) :
    Answers c s (touches c) fun u => ∃ g : Blk, u = Blk.follow (s.blk.pass c.wait) g ∧ P g := by
  refine ⟨_, hexec, .of (Blk.unitReset_frame ..) ?_, _, Blk.unitReset_starts hsetup hkind hthere hwider hidle, hP⟩
  rw [htouches]; rfl

theorem answers_unitRefused (hexec : exec c s = .next { s with blk := Blk.settle s.blk ((s.blk.pass c.wait).unitReset f kind i) })
    (hsetup : (s.blk.pass c.wait).setup f = true) (hkind : kind ≠ 0)
    (h : (s.blk.pass c.wait).unitThere kind i = false ∨ (s.blk.pass c.wait).unitWider kind i = true) :
    Answers c s [.regs] fun u => u.flag R.RST_UNIT_REFUSED = true :=
  answers_of_eq hexec (Blk.unitReset_refused hsetup hkind h) (Blk.setF_frame ..) rfl (Blk.flag_setF_self _ _ (by decide) (by decide))

end

/-- Settles O14: a request by its kind and the state of its unit, the end by the reset that it finds. -/
theorem unitResets : Obligations.UnitResets := by
  intro s w f i k b
  refine ⟨fun hs hp hi => ?bench, fun hs hp hw hi => ?engine, fun hs hp hi => ?port, fun hs hp => ?noBench, fun hs h => ?noEngine,
    fun hs hp => ?noPort, fun x hfind hhost => ?done⟩
  case bench =>
    exact answers_unitStarts (kind := 1) rfl rfl hs one_ne_zero hp rfl hi ⟨b.unitStarted_units 1 i, b.unitStarted_released 1 i, b.unitStarted_stale i⟩
  case engine =>
    exact answers_unitStarts (kind := 2) rfl rfl hs two_ne_zero hp hw hi ⟨b.unitStarted_units 2 i, b.unitStarted_released 2 i⟩
  case port =>
    exact answers_unitStarts (kind := 3) rfl rfl hs three_ne_zero hp rfl hi ⟨b.unitStarted_units 3 i, b.unitStarted_released 3 i⟩
  case noBench => exact answers_unitRefused (kind := 1) rfl hs one_ne_zero (.inl hp)
  case noEngine => exact answers_unitRefused (kind := 2) rfl hs two_ne_zero h
  case noPort => exact answers_unitRefused (kind := 3) rfl hs three_ne_zero (.inl hp)
  case done =>
    have hdone := Blk.unitDone_byHost hfind hhost
    exact answers_of_eq rfl hdone (hdone ▸ b.unitDone_frame k i) rfl ⟨_, rfl, b.unitOver_units k i, b.unitOver_idle k i⟩

end Sys2Proof.Machine
end

section
/-! Boot: its steps, a step that fails, and the restart (14 R372 to R375, R380). -/

namespace Sys2Proof.Machine

/-! ### The boot log -/

/-- A boot log entry writes the log and LOG_PTR alone. -/
theorem Blk.rd_bootLog (b : Blk) (step result : Nat) {f : BF} (hlog : f.off < 0x2040 ∨ 0x2080 ≤ f.off)
    (hptr : f.off ≠ R.RST_KEEP ∨ f.lo + f.w ≤ 20 ∨ 24 ≤ f.lo) : (b.bootLog step result).rd f = b.rd f := by
  unfold Blk.bootLog
  split
  · rfl
  · have hentry : f.off ≠ R.RST_BOOTLOG ((b.rd R.RST_KEEP_LOG_PTR + 1) % 16) := by
      simp only [R.RST_BOOTLOG]; omega
    exact (Blk.rd_wrW_ne _ _ hentry).trans (Blk.rd_wr_disj _ R.RST_KEEP_LOG_PTR _ _ (by decide) hptr)

theorem Blk.flag_bootLog (b : Blk) (step result : Nat) {f : BF} (hlog : f.off < 0x2040 ∨ 0x2080 ≤ f.off)
    (hptr : f.off ≠ R.RST_KEEP ∨ f.lo + f.w ≤ 20 ∨ 24 ≤ f.lo) : (b.bootLog step result).flag f = b.flag f := by
  rw [Blk.flag, Blk.flag, b.rd_bootLog step result hlog hptr]

/-! ### A step is done -/

/-- Entering a mode does not touch the boot. -/
theorem Blk.modeEnter_boot (b : Blk) (m : Mode) (cause : Nat) : (b.modeEnter m cause).boot = b.boot :=
  (b.modeEnter_frame m cause).same .boot rfl

/-- The block in which the boot has come to its end. -/
def Blk.bootOver (b : Blk) : Blk := { b with boot := { b.boot with done := true, step := none } }

section
variable {n : Nvm} {b : Blk} {k : Nat}

theorem bootStepDone_handsOn (hm : b.mode = .loading) (hr : b.boot.restart = false) (hs : b.boot.step = some k)
    (hpass : (bootWork n b k).1 = 0) (hk : k ≠ 9) :
    bootStepDone n b = ((bootWork n b k).2.1, { (bootWork n b k).2.2 with
      boot := { (bootWork n b k).2.2.boot with step := some (bootNext (bootWork n b k).2.2.boot.minimal k) } }) := by
  simp [bootStepDone, hm, hr, hs, hpass, hk]

theorem bootStepDone_ends (hm : b.mode = .loading) (hr : b.boot.restart = false) (hs : b.boot.step = some 9)
    (hpass : (bootWork n b 9).1 = 0) : bootStepDone n b = (n, (bootS9 n b).2.2) := by
  have hwork : bootWork n b 9 = bootS9 n b := rfl
  rw [hwork] at hpass
  have hfuses := bootS9_fuses n b
  simp only [bootStepDone, hs, hm, hr, hwork, hpass, bne_self_eq_false, Bool.or_self, Bool.false_eq_true, ne_eq, not_true, if_false, if_true]
  exact Prod.ext hfuses rfl

/-- The block in which S9 of a minimal boot has been logged. -/
def Blk.minimalOver (b : Blk) : Blk := (b.bootLog 0xF 8).bootOver

theorem bootS9_minimal (h : b.boot.minimal = true) : (bootS9 n b).2.2 = b.minimalOver.modeEnter .commission 9 := by
  rw [bootS9, if_pos h]
  dsimp only
  rfl

/-- The block in which S9 has been logged and FAIL_RUN cleared. -/
def Blk.normalOver (b : Blk) : Blk := ((b.wr R.RST_KEEP_FAIL_RUN 0).bootLog 0xF 0).bootOver

/-- The mode in which a boot without a fault ends (02 R26, 14 R375). -/
def Blk.bootMode (n : Nvm) (b : Blk) : Mode := if n.lifecycle == .deployed && b.flag R.RST_SERVE_AUTOSTART then .acquire else .commission

theorem Blk.bootAltErrors_none (h : b.bootAlt = false) : b.bootAltErrors = b := by
  simp only [Blk.bootAlt, Bool.or_eq_false_iff] at h
  obtain ⟨⟨⟨hcopy, htrain⟩, hrom⟩, hlanes⟩ := h
  simp [Blk.bootAltErrors, hcopy, htrain, hrom, hlanes]

theorem Blk.normalOver_logged (b : Blk) : FrameM 0x10 b ((b.wr R.RST_KEEP_FAIL_RUN 0).bootLog 0xF 0) :=
  (Blk.wr_frame ..).trans (Blk.bootLog_frame ..)

theorem Blk.normalOver_boot (b : Blk) : b.normalOver.boot = { b.boot with done := true, step := none } :=
  congrArg (fun x : Boot => { x with done := true, step := none }) (b.normalOver_logged.same .boot rfl)

theorem Blk.normalOver_mode (b : Blk) : b.normalOver.mode = b.mode := b.normalOver_logged.same .mode rfl

theorem Blk.minimalOver_boot (b : Blk) : b.minimalOver.boot = { b.boot with done := true, step := none } :=
  congrArg (fun x : Boot => { x with done := true, step := none }) ((b.bootLog_frame 0xF 8).same .boot rfl)

theorem Blk.minimalOver_mode (b : Blk) : b.minimalOver.mode = b.mode := (b.bootLog_frame 0xF 8).same .mode rfl

theorem Blk.normalOver_autostart (b : Blk) : b.normalOver.flag R.RST_SERVE_AUTOSTART = b.flag R.RST_SERVE_AUTOSTART := by
  have hlog := (b.wr R.RST_KEEP_FAIL_RUN 0).flag_bootLog 0xF 0 (f := R.RST_SERVE_AUTOSTART) (.inr (by decide)) (.inl (by decide))
  have hrun := Blk.rd_wr_off b R.RST_KEEP_FAIL_RUN R.RST_SERVE_AUTOSTART 0 (by decide)
  exact hlog.trans (congrArg (· != 0) hrun)

theorem bootS9_normal (hmin : b.boot.minimal = false) (halt : b.bootAlt = false) :
    (bootS9 n b).2.2 = b.normalOver.modeEnter (b.bootMode n) 0 := by
  have hmode : b.normalOver.bootMode n = b.bootMode n := by rw [Blk.bootMode, Blk.bootMode, Blk.normalOver_autostart]
  have hs9 : (bootS9 n b).2.2 = (b.normalOver.modeEnter (b.normalOver.bootMode n) 0).bootAltErrors := by
    rw [bootS9, hmin, if_neg Bool.false_ne_true]
    dsimp only
    rfl
  rw [hs9, hmode]
  refine Blk.bootAltErrors_none ?_
  rw [Blk.bootAlt, Blk.modeEnter_boot, Blk.normalOver_boot]
  exact halt

end

section
variable {s : State} {w : Nat}

theorem answersN_bootStepDone {n : Nvm} {u : Blk} {P : Blk → Prop} (h : bootStepDone s.nvm (s.blk.pass w) = (n, u)) (hP : P u) :
    AnswersN (.bootStepDone w) s n (touches (.bootStepDone w)) P := by
  have hframe : FrameM 0x7ffffffbc (s.blk.pass w) u := by
    have hdone := bootStepDone_frame s.nvm (s.blk.pass w)
    rwa [h] at hdone
  refine ⟨u, ?_, .of hframe rfl, hP⟩
  change execBootStepDone w s = _
  rw [execBootStepDone, State.updN, h]

end

/-- Settles O15: a step before S9 hands on, S9 ends the boot in the mode of its configuration. -/
theorem bootSteps : Obligations.BootSteps := by
  intro s w n b hm hr hs hpass
  refine ⟨fun hn => answersN_bootStepDone (bootStepDone_handsOn hm hr hs hpass hn) rfl, fun hn hmin => ?minimal, fun hn halt hmin => ?normal⟩
  case minimal =>
    subst hn
    obtain ⟨hmode, hlast, hcause⟩ := b.minimalOver.modeEnter_modes .commission 9
    refine answersN_bootStepDone (bootStepDone_ends hm hr hs hpass) ?_
    rw [bootS9_minimal hmin]
    exact ⟨hmode, hlast.trans (b.minimalOver_mode.trans hm), hcause, (Blk.modeEnter_boot ..).trans b.minimalOver_boot⟩
  case normal =>
    subst hn
    obtain ⟨hmode, hlast, hcause⟩ := b.normalOver.modeEnter_modes (b.bootMode s.nvm) 0
    refine answersN_bootStepDone (bootStepDone_ends hm hr hs hpass) ?_
    rw [bootS9_normal hmin halt]
    exact ⟨hmode, hlast.trans (b.normalOver_mode.trans hm), hcause, (Blk.modeEnter_boot ..).trans b.normalOver_boot⟩

/-! ### A step fails -/

section
variable {b : Blk} {k : Nat}

/-- FAIL_RUN has advanced, and the failed step stands in the boot log with its alternative flagged. -/
def Blk.failNoted (b : Blk) (k result lanes0 lanes1 : Nat) : Blk :=
  ((b.satF R.RST_KEEP_FAIL_RUN 1).bootLog k result).bootFlag k lanes0 lanes1

/-- The block owes a restart. -/
def Blk.owesRestart (b : Blk) : Blk := { b with boot := { b.boot with restart := true } }

theorem Blk.bootFail_owes (hmin : b.boot.minimal = false) (hkeep : b.rst.vkeep = true) (result lanes0 lanes1 : Nat) :
    b.bootFail k result lanes0 lanes1 =
      if 3 ≤ (b.failNoted k result lanes0 lanes1).rd R.RST_KEEP_FAIL_RUN then (b.failNoted k result lanes0 lanes1).owesRestart.bootMinimal
      else (b.failNoted k result lanes0 lanes1).owesRestart := by
  simp only [Blk.bootFail, hmin, hkeep, Bool.false_eq_true, if_false, if_true]
  rfl

theorem Blk.bootFail_goesOn (hmin : b.boot.minimal = true) (hk : k ≠ 9) (result lanes0 lanes1 : Nat) :
    b.bootFail k result lanes0 lanes1 = { b.bootLog k result with boot := { (b.bootLog k result).boot with step := some (bootNext true k) } } := by
  simp only [Blk.bootFail, hmin, hk, if_true, if_false]

section
variable (b) (result lanes0 lanes1 : Nat)

theorem Blk.failNoted_frame : FrameM 0x2010 b (b.failNoted k result lanes0 lanes1) :=
  (((Blk.wr_frame ..).mono rfl).trans ((Blk.bootLog_frame ..).mono rfl)).trans ((Blk.bootFlag_frame ..).mono rfl)

theorem Blk.failNoted_failRun :
    (b.failNoted k result lanes0 lanes1).rd R.RST_KEEP_FAIL_RUN = satNat (b.rd R.RST_KEEP_FAIL_RUN + 1) 3 := by
  have hflag : (b.failNoted k result lanes0 lanes1).rd R.RST_KEEP_FAIL_RUN = _ := (Blk.bootFlag_frame ..).rd rfl _
  rw [hflag, Blk.rd_bootLog _ _ _ (.inl (by decide)) (.inr (.inl (by decide)))]
  exact b.rd_satF_self 1 (by decide)

/-- Flagging an alternative neither makes the boot minimal nor moves its step. -/
theorem Blk.bootFlag_boot : (b.bootFlag k lanes0 lanes1).boot.minimal = b.boot.minimal ∧ (b.bootFlag k lanes0 lanes1).boot.step = b.boot.step := by
  unfold Blk.bootFlag
  split <;> exact ⟨rfl, rfl⟩

theorem Blk.failNoted_boot :
    (b.failNoted k result lanes0 lanes1).boot.minimal = b.boot.minimal ∧ (b.failNoted k result lanes0 lanes1).boot.step = b.boot.step := by
  have hlog : FrameM 0x10 b ((b.satF R.RST_KEEP_FAIL_RUN 1).bootLog k result) := (Blk.wr_frame ..).trans (Blk.bootLog_frame ..)
  have hboot : ((b.satF R.RST_KEEP_FAIL_RUN 1).bootLog k result).boot = b.boot := hlog.same .boot rfl
  have hflag := ((b.satF R.RST_KEEP_FAIL_RUN 1).bootLog k result).bootFlag_boot lanes0 lanes1 (k := k)
  rwa [hboot] at hflag

end

theorem three_le_satNat (x : Nat) : 3 ≤ satNat x 3 ↔ 3 ≤ x := by
  unfold satNat
  split <;> omega

end

section
variable {s : State} {w : Nat}

theorem exec_bootStepFail_of_step {k : Nat} (hm : (s.blk.pass w).mode = .loading) (hr : (s.blk.pass w).boot.restart = false)
    (hs : (s.blk.pass w).boot.step = some k) (result lanes0 lanes1 : Nat) :
    exec (.bootStepFail w result lanes0 lanes1) s
      = .next { s with blk := Blk.settle s.blk ((s.blk.pass w).bootFail k (result % 16) lanes0 lanes1) } := by
  change execBootStepFail w result lanes0 lanes1 s = _
  simp only [execBootStepFail, State.upd, hs, hm, hr, beq_self_eq_true, Bool.not_false, Bool.and_self, if_true]

theorem exec_bootRestart_owed (hm : (s.blk.pass w).mode = .loading) (hr : (s.blk.pass w).boot.restart = true) :
    exec (.bootRestart w) s = .next { s with blk := Blk.settle s.blk (s.blk.pass w).bootRewind.bootFrom0 } := by
  change execBootRestart w s = _
  simp only [execBootRestart, State.upd, hm, hr, beq_self_eq_true, Bool.and_self, if_true]

end

/-- What an attempt has loaded is set aside, the registers of KEEP are not (14 R374, R371). -/
theorem Blk.rfGet_restarted (b : Blk) {k : Nat} (hk : isKeepKey k = true) : rfGet b.bootRewind.bootFrom0.regs k = rfGet b.regs k := by
  have hrewind : rfGet b.bootRewind.regs k = rfGet b.regs k :=
    (rfGet_filter b.regs (fun k => isKeepKey k || k == R.RST_BOOT || k == R.ERR_STATUS) k).trans (if_pos (by rw [hk]; rfl))
  have hboot : k ≠ R.RST_BOOT := by rintro rfl; exact absurd hk (by decide)
  refine Eq.trans ?_ hrewind
  unfold Blk.bootFrom0
  dsimp only
  split
  · rfl
  · exact Blk.rfGet_wr_ne _ _ hboot

/-- Settles O16: a failure by the configuration in which it comes, the restart by what it sets aside. -/
theorem bootFailuresAndRestart : Obligations.BootFailuresAndRestart := by
  intro s w n r x y b hm
  refine ⟨fun hs hr hmin hkeep => ?owes, fun hs hr hmin hn => ?goesOn, fun hr => ?restart⟩
  case owes =>
    have hrun := b.failNoted_failRun (k := n) (r % 16) x y
    have hnoted := b.failNoted_frame (k := n) (r % 16) x y
    obtain ⟨hminimal, hstep⟩ := b.failNoted_boot (k := n) (r % 16) x y
    have howes : FrameM 0x2010 b (b.failNoted n (r % 16) x y).owesRestart := hnoted.trans ((FrameM.upd_boot _).mono rfl)
    have hfail := Blk.bootFail_owes (k := n) hmin hkeep (r % 16) x y
    by_cases hthird : 3 ≤ b.rd R.RST_KEEP_FAIL_RUN + 1
    · rw [if_pos (by rw [hrun]; exact (three_le_satNat _).mpr hthird)] at hfail
      exact answers_of_eq (exec_bootStepFail_of_step hm hr hs r x y) hfail (howes.trans ((Blk.bootMinimal_frame _).mono rfl)) rfl
        ⟨hrun, (decide_eq_true hthird).symm, rfl, hstep.trans hs⟩
    · rw [if_neg (by rw [hrun]; exact mt (three_le_satNat _).mp hthird)] at hfail
      exact answers_of_eq (exec_bootStepFail_of_step hm hr hs r x y) hfail howes rfl
        ⟨hrun, (hminimal.trans hmin).trans (decide_eq_false hthird).symm, rfl, hstep.trans hs⟩
  case goesOn =>
    have hlog := b.bootLog_frame n (r % 16)
    have hboot : (b.bootLog n (r % 16)).boot = b.boot := hlog.same .boot rfl
    exact answers_of_eq (exec_bootStepFail_of_step hm hr hs r x y) (Blk.bootFail_goesOn hmin hn ..)
      ((hlog.mono rfl : FrameM 0x2010 b _).trans ((FrameM.upd_boot _).mono rfl)) rfl
      (congrArg (fun x : Boot => { x with step := some (bootNext true n) }) hboot)
  case restart =>
    have hfrom := b.bootRewind.bootFrom0_frame
    exact answers_of_eq (exec_bootRestart_owed hm hr) rfl (b.bootRewind_frame.trans (hfrom.mono rfl)) rfl
      ⟨Blk.bootFrom0_boot _, hfrom.same .ins rfl, hfrom.same .laster rfl, hfrom.same .refs rfl, hfrom.same .heel rfl, hfrom.same .hold rfl,
        hfrom.same .outs rfl, hfrom.same .ct rfl, hfrom.same .eng rfl, fun k hk => b.rfGet_restarted hk⟩

end Sys2Proof.Machine
end

section
/-! Lifecycle commands, provisioning keys and the option store (14 R378, R379, R382 to R385, R389). -/

namespace Sys2Proof.Machine

theorem answersN_of_eq {c : Instr} {s : State} {m : Nat} {ps : List Piece} {x : Nvm × Blk} {n : Nvm} {u : Blk} {P : Blk → Prop}
    (hexec : exec c s = .next { s with nvm := x.1, blk := Blk.settle s.blk x.2 }) (hx : x = (n, u)) (hframe : FrameM m (s.blk.pass c.wait) u)
    (hm : pieceBits ps = m) (hP : P u) : AnswersN c s n ps P := by
  subst hx
  exact ⟨u, hexec, .of_pieceBits hframe hm, hP⟩

/-! ### All sessions close -/

section
variable (b : Blk) (f cause : Nat)

theorem Blk.rd_ringStop {g : BF} {r : Nat} (h : g.off ≠ R.HRG_CTL r) : (b.ringStop r).rd g = b.rd g :=
  (Blk.rd_wr_off (b.excSpill r) (R.HRG_CTL_ENABLE r) g 0 h).trans ((b.excSpill_frame r).rd rfl g)

theorem Blk.rd_evtStop {g : BF} (h : g.off ≠ R.EVT_CTL f) : (b.evtStop f).rd g = b.rd g :=
  ((Blk.setEvt_frame ..).rd rfl g).trans (Blk.rd_wr_off b (R.EVT_CTL_ENABLE f) g 0 h)

/-- Closing a session leaves every register field outside the ring and event ring controls. -/
theorem Blk.rd_sesClose {g : BF} (hring : ∀ r, r < 64 → g.off ≠ R.HRG_CTL r) (hevt : g.off ≠ R.EVT_CTL f) : (b.sesClose f cause).rd g = b.rd g := by
  by_cases hopen : (b.sesOf f).st = .opened
  · have hended : (b.sesEnded f cause).rd g = b.rd g := (b.sesEnded_frame f cause).rd rfl g
    have hstop : ((b.sesEnded f cause).ringsStopped f).rd g = (b.sesEnded f cause).rd g :=
      foldl_keeps (g := Blk.ringStop) (v := (Blk.rd · g)) (fun c r hr => c.rd_ringStop (hring r (Blk.mem_ringsOf.mp hr).1)) _
    rw [Blk.sesClose_of_open hopen, (Blk.newChal_frame ..).rd rfl, Blk.rd_evtStop _ _ hevt, hstop, hended]
  · rw [Blk.sesClose_of_not_open hopen]

/-- A session that has been closed is not open, and the others are as they were. -/
theorem Blk.sesClose_opened {g : Nat} (h : ((b.sesClose f cause).sesOf g).st = .opened) : g ≠ f ∧ (b.sesOf g).st = .opened := by
  by_cases hopen : (b.sesOf f).st = .opened
  · rw [Blk.sesOf_sesClose hopen] at h
    split at h
    · cases h
    · next hne => exact ⟨hne, h⟩
  · rw [Blk.sesClose_of_not_open hopen] at h
    exact ⟨fun hne => hopen (hne ▸ h), h⟩

theorem Blk.sesClose_not_opened : ((b.sesClose f cause).sesOf f).st ≠ .opened := fun h => (b.sesClose_opened f cause h).1 rfl

theorem Blk.sesCloseAll_not_opened {f : Nat} (hf : f < 4) : (b.sesCloseAll.sesOf f).st ≠ .opened := by
  have key (l : List Nat) (b : Blk) (h : ((l.foldl (fun b f => b.sesClose f 1) b).sesOf f).st = .opened) : f ∉ l ∧ (b.sesOf f).st = .opened := by
    induction l generalizing b with
    | nil => exact ⟨List.not_mem_nil, h⟩
    | cons g l ih =>
      obtain ⟨hl, hb⟩ := ih _ h
      obtain ⟨hne, hb⟩ := b.sesClose_opened g 1 hb
      exact ⟨by simp [hne, hl], hb⟩
  exact fun h => (key _ b h).1 (List.mem_range.mpr hf)

theorem Blk.rd_sesCloseAll_keepCount : b.sesCloseAll.rd R.RST_KEEP_COUNT = b.rd R.RST_KEEP_COUNT :=
  foldl_keeps (v := (Blk.rd · R.RST_KEEP_COUNT)) (fun c f _ => c.rd_sesClose (g := R.RST_KEEP_COUNT) f 1
    (fun r _ => by simp only [R.RST_KEEP_COUNT, R.RST_KEEP, R.HRG_CTL]; omega)
    (by simp only [R.RST_KEEP_COUNT, R.RST_KEEP, R.EVT_CTL, bank]; omega)) b

end

/-! ### A device-reach reset counts -/

section
variable {b : Blk} {code : Nat}

/-- The registers after a first reset: the Keep counter has advanced while VKEEP is present. -/
def Blk.keepCounted (b : Blk) : RegFile := (if b.rst.vkeep then b.satF R.RST_KEEP_COUNT 1 else b).regs

theorem Blk.rfGet_keepCounted (b : Blk) {k : Nat} (h : isKeepKey k = false) : rfGet b.keepCounted k = rfGet b.regs k := by
  unfold Blk.keepCounted
  split
  · exact Blk.rfGet_wr_ne _ _ (by rintro rfl; exact absurd h (by decide))
  · rfl

theorem Blk.count_keepCounted (b : Blk) : Blk.rd { b with regs := b.keepCounted } R.RST_KEEP_COUNT
    = if b.rst.vkeep then satNat (b.rd R.RST_KEEP_COUNT + 1) 16 else b.rd R.RST_KEEP_COUNT := by
  unfold Blk.keepCounted
  split
  · exact b.rd_satF_self (f := R.RST_KEEP_COUNT) 1 (by decide)
  · rfl

/-- The block after a first reset by this source. -/
def Blk.resetFirst (b : Blk) (code : Nat) : Blk :=
  { b.reInit (srcGroup1 code) with
    regs := (b.reInit (srcGroup1 code)).keepCounted
    rst := { b.rst with units := [], asserted := if srcLevel code then b.rst.asserted ++ [code] else b.rst.asserted
                        seen := [(code, b.up)], cause := code, multi := false } }

theorem Blk.devReset_first (hdormant : b.mode ≠ .dormant) (hloading : b.mode ≠ .loading) (h : b.rst.asserted.contains code = false) :
    b.devReset code = b.resetFirst code := by
  have habandon : b.bootAbandon = b := if_neg (by simpa using hloading)
  have hfirst : (b.mode != .dormant || b.rst.seen.isEmpty) = true := by simp [hdormant]
  simp only [Blk.devReset, h, Bool.false_eq_true, if_false, habandon, hfirst, if_true, Bool.true_and, Blk.resetFirst, Blk.keepCounted]
  split <;> rfl

theorem Blk.resetFirst_cleared (b : Blk) (code : Nat) : Cleared b (b.resetFirst code) := by
  obtain ⟨-, -, -, -, -, -, -, -, -, -, -, -, -, -, -, -, -, -, -, -, -, -, -, -, -, hregs, hses⟩ := b.reInit_cleared (srcGroup1 code)
  exact ⟨rfl, rfl, rfl, rfl, rfl, rfl, rfl, rfl, rfl, rfl, rfl, rfl, rfl, rfl, rfl, rfl, rfl, rfl, rfl, rfl, rfl, rfl, rfl, rfl, rfl,
    fun k hk => (Blk.rfGet_keepCounted _ hk).trans (hregs k hk), hses⟩

theorem Blk.count_resetFirst (b : Blk) (code : Nat) : (b.resetFirst code).rd R.RST_KEEP_COUNT
    = if b.rst.vkeep then satNat (b.rd R.RST_KEEP_COUNT + 1) 16 else b.rd R.RST_KEEP_COUNT := by
  have hkeep : (b.reInit (srcGroup1 code)).rd R.RST_KEEP_COUNT = b.rd R.RST_KEEP_COUNT :=
    congrArg (fieldOf · 0 16) ((b.rfGet_reInit_regs (srcGroup1 code) R.RST_KEEP).trans (if_pos rfl))
  have hcount := (b.reInit (srcGroup1 code)).count_keepCounted
  rw [hkeep] at hcount
  exact hcount

end

/-! ### The lifecycle sequence -/

/-- LCS_RESULT has been shown with the sequence disarmed. -/
theorem Blk.lcsResult_shows (b : Blk) (r : Nat) (armed : Option (Nat × Nat × Nat)) :
    (b.lcsResult r armed).lcs.result = r ∧ (b.lcsResult r armed).lcs.armed = armed := ⟨rfl, rfl⟩

section
variable (b : Blk)

/-- The block in which a transition has been fused, before its reset. -/
def Blk.fusedOver : Blk := b.sesCloseAll.lcsResult 8 none

theorem Blk.fusedOver_frame : FrameM 0x43003c014 b b.fusedOver := (b.sesCloseAll_frame.mono rfl).trans ((Blk.lcsResult_frame ..).mono rfl)

theorem Blk.fusedOver_reset (hm : b.mode = .commission) (h : b.rst.asserted.contains 7 = false) :
    Cleared b (b.fusedOver.devReset 7) ∧ ResetCounted b (b.fusedOver.devReset 7) 7 ∧ (b.fusedOver.devReset 7).lcs.result = 8
      ∧ (b.fusedOver.devReset 7).lcs.armed = none := by
  have hmode : b.fusedOver.mode = .commission := (b.fusedOver_frame.same .mode rfl).trans hm
  have hrst : b.fusedOver.rst = b.rst := b.fusedOver_frame.same .rst rfl
  have htwin : b.fusedOver.twin = b.twin := b.fusedOver_frame.same .twin rfl
  have hcount : b.fusedOver.rd R.RST_KEEP_COUNT = b.rd R.RST_KEEP_COUNT :=
    ((Blk.lcsResult_frame ..).rd rfl _).trans b.rd_sesCloseAll_keepCount
  have hclear := b.fusedOver.resetFirst_cleared 7
  have hkeep := b.fusedOver.count_resetFirst 7
  rw [Cleared, htwin] at hclear
  rw [hrst, hcount] at hkeep
  rw [Blk.devReset_first (by simp [hmode]) (by simp [hmode]) (hrst ▸ h)]
  exact ⟨hclear, ⟨fun _ => ⟨rfl, rfl, hkeep⟩, fun hd => absurd (hm.symm.trans hd) (by decide)⟩, rfl, rfl⟩

/-- The block whose sequence has failed or been cut off: sessions closed, the Store wiped, the result shown. -/
def Blk.sequenceCut (r : Nat) : Blk := b.sesCloseAll.storeWipe.lcsResult r none

theorem Blk.sequenceCut_frame (r : Nat) : FrameM 0x43023c014 b (b.sequenceCut r) :=
  ((b.sesCloseAll_frame.mono rfl).trans ((Blk.storeWipe_frame _).mono rfl)).trans ((Blk.lcsResult_frame ..).mono rfl)

theorem Blk.sequenceCut_shows (r : Nat) : (b.sequenceCut r).lcs.result = r ∧ (b.sequenceCut r).lcs.armed = none ∧ (b.sequenceCut r).ct.rows = [] := by
  obtain ⟨hresult, harmed⟩ := b.sesCloseAll.storeWipe.lcsResult_shows r none
  exact ⟨hresult, harmed, congrArg CTab.rows ((Blk.lcsResult_frame b.sesCloseAll.storeWipe r none).same .ct rfl)⟩

theorem Blk.sequenceCut_not_opened (r : Nat) {f : Nat} (hf : f < 4) : ((b.sequenceCut r).sesOf f).st ≠ .opened := by
  have hafter : FrameM 0x30204004 b.sesCloseAll (b.sequenceCut r) := ((Blk.storeWipe_frame _).mono rfl).trans ((Blk.lcsResult_frame ..).mono rfl)
  rw [hafter.sesOf rfl]
  exact b.sesCloseAll_not_opened hf

end

section
variable {n : Nvm} {b : Blk} {v : Nat} {t : Lifecycle}

section
variable (hs : b.setup 0 = true) (hm : b.mode = .commission) (hconf : b.lcsConfirmed v = some t) (hallowed : lcsAllowed n.lifecycle t = true)
include hs hm hconf hallowed

theorem lcsGo_not_ready (h : lcsReady n t b.ownerDigest = false) (stop : Nat) : lcsGo n b 0 v stop = (n, b.lcsResult 6 none) := by
  simp [lcsGo, hs, hm, hconf, hallowed, h]

section
variable (h : lcsReady n t b.ownerDigest = true)
include h

theorem lcsGo_fuses : lcsGo n b 0 v 0 = (n.transit t b.ownerDigest, b.fusedOver.devReset 7) := by
  simp [lcsGo, hs, hm, hconf, hallowed, h, Blk.fusedOver]

theorem lcsGo_fails : lcsGo n b 0 v 1 = (n.transitErase t, b.sequenceCut 7) := by
  simp [lcsGo, hs, hm, hconf, hallowed, h, Blk.sequenceCut]

theorem lcsGo_cut : lcsGo n b 0 v 2 = ({ n with intent := some (t, b.ownerDigest) }, b.sequenceCut 0) := by
  simp [lcsGo, hs, hm, hconf, hallowed, h, Blk.sequenceCut]

end

end

/-- The target an LCS_ARM names has been noted. -/
def Blk.targetNoted (b : Blk) (v : Nat) : Blk := { b with lcs := { b.lcs with lastTarget := v % 8 } }

theorem Blk.lcsArm_of_target (hs : b.setup 0 = true) (hm : b.mode = .commission) (ht : Lifecycle.ofCode? (v % 8) = some t) :
    b.lcsArm n 0 v = if lcsAllowed n.lifecycle t then
      if v / 65536 % 65536 ≠ b.lcsNonce then (b.targetNoted v).lcsResult 4 none else (b.targetNoted v).lcsResult 1 (some (v % 8, v, b.up))
      else (b.targetNoted v).lcsResult 3 none := by
  have hnonce : (b.targetNoted v).lcsNonce = b.lcsNonce := rfl
  rw [← hnonce]
  cases h : lcsAllowed n.lifecycle t <;> simp [Blk.lcsArm, hs, hm, ht, h, Blk.targetNoted]

end

theorem answersN_lcsGo {s : State} {w v stop : Nat} {n : Nvm} {u : Blk} {P : Blk → Prop} (hx : lcsGo s.nvm (s.blk.pass w) 0 v stop = (n, u))
    (hP : P u) : AnswersN (.lcsGo w 0 v stop) s n (touches (.lcsGo w 0 v stop)) P := by
  have hframe := lcsGo_frame s.nvm (s.blk.pass w) 0 v stop
  rw [hx] at hframe
  refine ⟨u, ?_, .of hframe rfl, hP⟩
  change execLcsGo w 0 v stop s = _
  rw [execLcsGo, State.updN, hx]

/-- Settles O25: what arms, and the four ends of a sequence that is confirmed. -/
theorem lifecycleCommands : Obligations.LifecycleCommands := by
  intro s w v t b hs hm
  have harm := (b.lcsArm_frame s.nvm 0 v)
  refine ⟨fun ht hallowed hnonce => ?arms, fun ht hallowed => ?unlisted, fun hconf hallowed hready => ⟨fun h7 => ?fused, ?failed, ?cut⟩,
    fun hconf hallowed hready => ?unmet⟩
  case arms =>
    have hx := Blk.lcsArm_of_target (n := s.nvm) hs hm ht
    rw [if_pos hallowed, if_neg (not_not_intro hnonce)] at hx
    exact answers_of_eq rfl hx (hx ▸ harm) rfl ⟨rfl, rfl, rfl⟩
  case unlisted =>
    have hx := Blk.lcsArm_of_target (n := s.nvm) hs hm ht
    rw [if_neg (by simp [hallowed])] at hx
    exact answers_of_eq rfl hx (hx ▸ harm) rfl ⟨rfl, rfl⟩
  case fused =>
    have hgo := lcsGo_fuses hs hm hconf hallowed hready
    have hreset := b.fusedOver_reset hm h7
    generalize b.fusedOver.devReset 7 = u at hgo hreset
    exact answersN_lcsGo hgo hreset
  case failed =>
    obtain ⟨hresult, harmed, hrows⟩ := b.sequenceCut_shows 7
    exact answersN_lcsGo (lcsGo_fails hs hm hconf hallowed hready)
      ⟨((b.sequenceCut_frame 7).same .mode rfl).trans hm, hresult, harmed, hrows, fun f => b.sequenceCut_not_opened 7⟩
  case cut =>
    obtain ⟨hresult, harmed, -⟩ := b.sequenceCut_shows 0
    exact answersN_lcsGo (lcsGo_cut hs hm hconf hallowed hready) ⟨hresult, harmed, fun f => b.sequenceCut_not_opened 0⟩
  case unmet =>
    exact answersN_of_eq rfl (lcsGo_not_ready hs hm hconf hallowed hready 0) (Blk.lcsResult_frame ..) rfl ⟨rfl, rfl⟩

end Sys2Proof.Machine
end

section
/-! Provisioning keys and the option store (14 R378, R379, R385, R389). -/

namespace Sys2Proof.Machine

/-! ### A plain write to a register -/

/-- No field of the register at an offset has a range, or a code that holds as another. -/
def unranged (off : Nat) : Bool := (rangeRows1 ++ rangeRows2 ++ mapRows).all fun r => !inArray r.base r.stride r.count off

theorem heldIn_of_unranged {l : List RangeRow} {off : Nat} (h : ∀ r ∈ l, inArray r.base r.stride r.count off = false) (lo w v : Nat) :
    heldIn l off lo w v = v := by
  have hnone : l.find? (fun r => r.lo == lo && r.w == w && inArray r.base r.stride r.count off) = none :=
    List.find?_eq_none.mpr fun r hr => by simp [h r hr]
  rw [heldIn, hnone]

theorem heldValue_of_unranged {off : Nat} (h : unranged off = true) (lo w v : Nat) : heldValue off lo w v = v := by
  have hrows (r) (hr : r ∈ rangeRows1 ∨ r ∈ rangeRows2 ∨ r ∈ mapRows) : inArray r.base r.stride r.count off = false := by
    have hall := List.all_eq_true.mp h r (by rw [List.mem_append, List.mem_append, or_assoc]; exact hr)
    simpa using hall
  have hcode : heldCode off lo w v = v := by
    have hnone : mapRows.find? (fun r => r.lo == lo && r.w == w && r.min_ == v && inArray r.base r.stride r.count off) = none :=
      List.find?_eq_none.mpr fun r hr => by simp [hrows r (.inr (.inr hr))]
    rw [heldCode, hnone]
  rw [heldValue, hcode, heldIn_of_unranged fun r hr => hrows r (.inl hr), heldIn_of_unranged fun r hr => hrows r (.inr (.inl hr))]

/-- The key under which function f's copy of a register is held. -/
def RegRow.key (row : RegRow) (f off : Nat) : Nat := if row.banked then bank f off else off

theorem Blk.regWrite_of_row (b : Blk) (f : Nat) {off i : Nat} {row : RegRow} (v : Word) (h : regRow? off = some (row, i)) :
    b.regWrite f off v =
      { b with regs := rfPut b.regs (row.key f off) (rowWrite (b.mode == .commission) row off v (rfGet b.regs (row.key f off))) } := by
  rw [Blk.regWrite, h]
  rfl

theorem Blk.rfGet_regWrite (b : Blk) (f : Nat) {off i : Nat} {row : RegRow} (v : Word) (h : regRow? off = some (row, i)) (k : Nat) :
    rfGet (b.regWrite f off v).regs k =
      if k = row.key f off then rowWrite (b.mode == .commission) row off v (rfGet b.regs (row.key f off)) else rfGet b.regs k := by
  rw [b.regWrite_of_row f v h]
  exact rfGet_rfPut ..

/-! ### LCS_KEYCTL -/

/-- The row of LCS_KEYCTL. -/
def keyCtlRow : RegRow := ⟨0x3030, 0x0, 1, false, [⟨0, 2, .rwl⟩, ⟨2, 2, .wo⟩, ⟨4, 13, .rwl⟩, ⟨17, 3, .ro⟩]⟩

theorem regRow_keyCtl : regRow? R.LCS_KEYCTL = some (keyCtlRow, 0) := rfl

theorem rowWrite_keyCtl (v old : Word) :
    rowWrite true keyCtlRow R.LCS_KEYCTL v old = withField (withField old 0 2 (fieldOf v 0 2)) 4 13 (fieldOf v 4 13) := by
  have hheld (lo w x) : heldValue R.LCS_KEYCTL lo w x = x := heldValue_of_unranged (by decide) lo w x
  have hpair (x) : heldPair R.LCS_KEYCTL x = x := by simp [heldPair, inArray, R.LCS_KEYCTL, R.FLC_EGPORT, R.PTP_UNI, R.HLD_OCFG]
  simp only [rowWrite, keyCtlRow, List.foldl, fieldWrite, hheld, if_true, hpair]
  split
  · next h => exact h.symm
  · rfl

/-- FUNC and PRIV have been written. -/
def Blk.keyCtlWritten (b : Blk) (v : Nat) : Blk := b.regWrite 0 R.LCS_KEYCTL (BitVec.ofNat 32 v)

section
variable {b : Blk}

theorem Blk.keyCtlWritten_frame (v : Nat) : FrameM 0x10 b (b.keyCtlWritten v) := Blk.regWrite_frame ..

theorem Blk.rfGet_keyCtlWritten (hm : b.mode = .commission) (v : Nat) : rfGet (b.keyCtlWritten v).regs R.LCS_KEYCTL
    = withField (withField (rfGet b.regs R.LCS_KEYCTL) 0 2 (fieldOf (BitVec.ofNat 32 v) 0 2)) 4 13 (fieldOf (BitVec.ofNat 32 v) 4 13) := by
  rw [Blk.keyCtlWritten, b.rfGet_regWrite 0 _ regRow_keyCtl, hm, ← rowWrite_keyCtl]
  exact if_pos rfl

theorem Blk.keyCtlWritten_func (hm : b.mode = .commission) (v : Nat) : (b.keyCtlWritten v).rd R.LCS_KEYCTL_FUNC = v % 4 := by
  change fieldOf (rfGet (b.keyCtlWritten v).regs R.LCS_KEYCTL) 0 2 = _
  rw [Blk.rfGet_keyCtlWritten hm, fieldOf_withField_disj _ _ _ _ _ _ (by decide) (.inl (by decide)), fieldOf_withField _ _ _ _ (by decide)]
  simp only [fieldOf, BitVec.toNat_ofNat]
  omega

theorem Blk.keyCtlWritten_priv (hm : b.mode = .commission) (v : Nat) : (b.keyCtlWritten v).rd R.LCS_KEYCTL_PRIV = v / 16 % 8192 := by
  change fieldOf (rfGet (b.keyCtlWritten v).regs R.LCS_KEYCTL) 4 13 = _
  rw [Blk.rfGet_keyCtlWritten hm, fieldOf_withField _ _ _ _ (by decide)]
  simp only [fieldOf, BitVec.toNat_ofNat]
  omega

theorem Blk.keyCtlWritten_key (v : Nat) : (b.keyCtlWritten v).wordBytes R.LCS_KEY 10 = b.wordBytes R.LCS_KEY 10 :=
  List.flatMap_congr fun i _ => congrArg (fun x : Word => beB 4 x.toNat)
    ((b.rfGet_regWrite 0 _ regRow_keyCtl (R.LCS_KEY i)).trans (if_neg (by
      simp only [R.LCS_KEY, RegRow.key, keyCtlRow, R.LCS_KEYCTL, Bool.false_eq_true, if_false]; omega)))

end

theorem FrameM.setup {m : Nat} {a b : Blk} (h : FrameM m a b) (hses : m.testBit Piece.ses.ctorIdx = false)
    (hboot : m.testBit Piece.boot.ctorIdx = false) (hrst : m.testBit Piece.rst.ctorIdx = false) (f : Nat) : b.setup f = a.setup f := by
  rw [Blk.setup, Blk.setup, Blk.sesOpen, Blk.sesOpen, Blk.hostUp, Blk.hostUp, h.sesOf hses, h.same .boot hboot, h.same .rst hrst]

/-! ### Keys -/

section
variable {n : Nvm} {b : Blk} {v : Nat}

/-- The block once a key command has shown its result and closed the session of its function where it must. -/
def Blk.keyAnswered (b : Blk) (r func : Nat) (erase : Bool) : Blk := (b.keyRes r).keyCloses func erase

section
variable (hs : b.setup 0 = true) (hm : b.mode = .commission)
include hs hm

theorem lcsInstall_unwraps {k : Bytes} (func priv : Nat) (hk : keyUnwrap (b.sesOf 0).ks (b.wordBytes R.LCS_KEY 10) = some k) :
    lcsInstall n b 0 func priv = ({ n with prov := tput n.prov func ⟨k, priv⟩ }, b.keyAnswered 1 func false) := by
  simp [lcsInstall, hs, hm, hk, Blk.keyAnswered]

theorem lcsErase_erases {func : Nat} (h : func ≠ 0 ∨ (n.lifecycle ≠ .provisioned ∧ n.lifecycle ≠ .deployed)) :
    lcsErase n b 0 func = ({ n with prov := tdel n.prov func }, b.keyAnswered 1 func true) := by
  have hno : ¬(func = 0 ∧ (n.lifecycle = .provisioned ∨ n.lifecycle = .deployed)) := by tauto
  simp [lcsErase, hs, hm, hno, Blk.keyAnswered]

theorem lcsErase_refused (h : n.lifecycle = .provisioned ∨ n.lifecycle = .deployed) : lcsErase n b 0 0 = (n, b.keyRes 3) := by
  simp [lcsErase, hs, hm, h]

end

section
variable (hs : b.setup 0 = true)
include hs

theorem lcsKeyCtl_installs (hop : bitsOf v 2 2 = 1) : lcsKeyCtl n b 0 v =
    lcsInstall n (b.keyCtlWritten v) 0 ((b.keyCtlWritten v).rd R.LCS_KEYCTL_FUNC) ((b.keyCtlWritten v).rd R.LCS_KEYCTL_PRIV) := by
  simp only [lcsKeyCtl, hs, hop, Blk.keyCtlWritten]
  rfl

theorem lcsKeyCtl_erases (hop : bitsOf v 2 2 = 2) : lcsKeyCtl n b 0 v =
    lcsErase n (b.keyCtlWritten v) 0 ((b.keyCtlWritten v).rd R.LCS_KEYCTL_FUNC) := by
  simp only [lcsKeyCtl, hs, hop, Blk.keyCtlWritten]
  rfl

theorem Blk.keyCtlWritten_setup : (b.keyCtlWritten v).setup 0 = true := ((b.keyCtlWritten_frame v).setup rfl rfl rfl 0).trans hs

section
variable (hm : b.mode = .commission)
include hm

omit hs in
theorem Blk.keyCtlWritten_mode : (b.keyCtlWritten v).mode = .commission := ((b.keyCtlWritten_frame v).same .mode rfl).trans hm

theorem lcsKeyCtl_unwraps {k : Bytes} (hk : keyUnwrap (b.sesOf 0).ks (b.wordBytes R.LCS_KEY 10) = some k) (hop : bitsOf v 2 2 = 1) :
    lcsKeyCtl n b 0 v = ({ n with prov := tput n.prov (v % 4) ⟨k, v / 16 % 8192⟩ }, (b.keyCtlWritten v).keyAnswered 1 (v % 4) false) := by
  rw [lcsKeyCtl_installs hs hop, b.keyCtlWritten_func hm, b.keyCtlWritten_priv hm]
  refine lcsInstall_unwraps (Blk.keyCtlWritten_setup hs) (Blk.keyCtlWritten_mode hm) _ _ ?_
  rw [(b.keyCtlWritten_frame v).sesOf rfl, b.keyCtlWritten_key]
  exact hk

theorem lcsKeyCtl_takes_away (h : v % 4 ≠ 0 ∨ (n.lifecycle ≠ .provisioned ∧ n.lifecycle ≠ .deployed)) (hop : bitsOf v 2 2 = 2) :
    lcsKeyCtl n b 0 v = ({ n with prov := tdel n.prov (v % 4) }, (b.keyCtlWritten v).keyAnswered 1 (v % 4) true) := by
  rw [lcsKeyCtl_erases hs hop, b.keyCtlWritten_func hm]
  exact lcsErase_erases (Blk.keyCtlWritten_setup hs) (Blk.keyCtlWritten_mode hm) h

theorem lcsKeyCtl_refuses (hzero : v % 4 = 0) (h : n.lifecycle = .provisioned ∨ n.lifecycle = .deployed) (hop : bitsOf v 2 2 = 2) :
    lcsKeyCtl n b 0 v = (n, (b.keyCtlWritten v).keyRes 3) := by
  rw [lcsKeyCtl_erases hs hop, b.keyCtlWritten_func hm, hzero]
  exact lcsErase_refused (Blk.keyCtlWritten_setup hs) (Blk.keyCtlWritten_mode hm) h

end

end

theorem Blk.keyAnswered_lcs (r func : Nat) (erase : Bool) : (b.keyAnswered r func erase).lcs = { b.lcs with keyResult := r } :=
  (Blk.keyCloses_frame ..).same .lcs rfl

theorem Blk.keyAnswered_own (r : Nat) {func : Nat} (h : func = 0) : (b.keyAnswered r func false).ses = b.ses := by
  rw [Blk.keyAnswered, Blk.keyCloses, if_pos ⟨h, rfl⟩, Blk.keyRes]

/-- A key answered for but F0's own new key leaves its function without a session. -/
theorem Blk.keyAnswered_not_opened (r : Nat) {func : Nat} {erase : Bool} (h : ¬(func = 0 ∧ !erase)) :
    ((b.keyAnswered r func erase).sesOf func).st ≠ .opened := by
  rw [Blk.keyAnswered, Blk.keyCloses, if_neg h]
  exact (b.keyRes r).sesClose_not_opened func 1

end

section
variable {s : State} {w v : Nat}

/-- Erasing a key and installing one are the same write but for OP. -/
theorem answersN_keyCtl {c : Instr} {ps : List Piece} {n : Nvm} {u : Blk} {P : Blk → Prop}
    (hexec : exec c s = s.updN w fun n b => lcsKeyCtl n b 0 v) (hw : c.wait = w)
    (hx : lcsKeyCtl s.nvm (s.blk.pass w) 0 v = (n, u))
    (hps : pieceBits ps = 0x43003c014) (hP : P u) : AnswersN c s n ps P := by
  subst hw
  have hframe := lcsKeyCtl_frame s.nvm (s.blk.pass c.wait) 0 v
  rw [hx] at hframe
  exact answersN_of_eq hexec hx hframe hps hP

end

/-! ### The option store -/

section
variable {n : Nvm} {b : Blk}

/-- LCS_OPT_CTRL has been written. -/
def Blk.optCtrlWritten (b : Blk) (v : Nat) : Blk := b.regWrite 0 R.LCS_OPT_CTRL (BitVec.ofNat 32 v)

theorem Blk.optCtrlWritten_frame (v : Nat) : FrameM 0x10 b (b.optCtrlWritten v) := Blk.regWrite_frame ..

section
variable (hs : b.setup 0 = true)
include hs

theorem optCtrl_starts {v : Nat} (hstart : bitOf v 1 = true) (hraise : bitOf v 2 = false) :
    optCtrl n b 0 v = optStart n (b.optCtrlWritten v) (bitOf v 0) := by
  simp only [optCtrl, hs, hstart, hraise]
  rfl

theorem optCtrl_raises {v : Nat} (hstart : bitOf v 1 = false) (hraise : bitOf v 2 = true) :
    optCtrl n b 0 v = (raiseSvn n (b.optCtrlWritten v), b.optCtrlWritten v) := by
  simp only [optCtrl, hs, hstart, hraise]
  rfl

end

/-- The write of a copy of the image is under way. -/
def Blk.optStarted (b : Blk) (copyB : Bool) : Blk := { b with lcs := { b.lcs with optBusy := true, optCopy := copyB, optResult := 0 } }

theorem optStart_idle (h : b.lcs.optBusy = false) (copyB : Bool) : optStart n b copyB = (n.putCopy copyB {}, b.optStarted copyB) :=
  if_neg (by simp [h])

theorem raiseSvn_lifts {i : ImageInfo} (hi : b.boot.image = some i) (hm : b.mode = .commission) (v : Nat) :
    raiseSvn n (b.optCtrlWritten v) = { n with svnFloor := max n.svnFloor i.svn } := by
  have hframe := b.optCtrlWritten_frame v
  rw [raiseSvn, hframe.same .boot rfl, hi]
  exact if_pos ((hframe.same .mode rfl).trans hm)

section
variable (hbusy : b.lcs.optBusy = true) {bytes : Bytes}
include hbusy

theorem optDone_valid (hcheck : olfelCheck n bytes = none) (hlen : bytes.length = b.rd R.LCS_OPT_LEN_VALUE) :
    optDone n b bytes 0 = (n.putCopy b.lcs.optCopy { valid := true, bytes := bytes }, { b with lcs := { b.lcs with optBusy := false, optResult := 1 } }) := by
  simp [optDone, hbusy, hcheck, hlen]

theorem optDone_fails {x : OlfelFault} (hcheck : olfelCheck n bytes = some x) :
    optDone n b bytes 0 = (n, { b with lcs := { b.lcs with optBusy := false, optResult := olfelResult x } }) := by
  simp [optDone, hbusy, hcheck]

end

end

/-- Settles O26: each key command is a write of LCS_KEYCTL, each start or raise one of LCS_OPT_CTRL. -/
theorem keysAndOptionStore : Obligations.KeysAndOptionStore := by
  intro s w v b hs
  have hinstallFunc : (v / 16 * 16 + 4 + v % 4) % 4 = v % 4 := by omega
  have hinstallPriv : (v / 16 * 16 + 4 + v % 4) / 16 % 8192 = v / 16 % 8192 := by omega
  have heraseFunc : (v / 16 * 16 + 8 + v % 4) % 4 = v % 4 := by omega
  refine ⟨fun k hm hk _ => ?installs, fun hm _ hlet => ?erases, fun hm _ hzero hdeployed => ?refused, fun copyB hidle => ?starts,
    fun bytes hbusy hcheck hlen => ?written, fun bytes x hbusy hcheck => ?failed, fun i hi hm => ?raised⟩
  case installs =>
    have hx := lcsKeyCtl_unwraps (n := s.nvm) (v := v / 16 * 16 + 4 + v % 4) hs hm hk (by rw [bitsOf]; omega)
    rw [hinstallFunc, hinstallPriv] at hx
    refine answersN_keyCtl rfl rfl hx rfl ⟨?_, fun hne => Blk.keyAnswered_not_opened _ (by simp [hne]), 
      fun hzero => (Blk.keyAnswered_own 1 hzero).trans ((b.keyCtlWritten_frame _).same .ses rfl)⟩
    rw [Blk.keyAnswered_lcs, (b.keyCtlWritten_frame _).same .lcs rfl]
  case erases =>
    have hx := lcsKeyCtl_takes_away (n := s.nvm) (v := v / 16 * 16 + 8 + v % 4) hs hm (by rw [heraseFunc]; exact hlet) (by rw [bitsOf]; omega)
    rw [heraseFunc] at hx
    refine answersN_keyCtl rfl rfl hx rfl ⟨?_, Blk.keyAnswered_not_opened _ (by simp)⟩
    rw [Blk.keyAnswered_lcs, (b.keyCtlWritten_frame _).same .lcs rfl]
  case refused =>
    have hx := lcsKeyCtl_refuses (n := s.nvm) (v := v / 16 * 16 + 8 + v % 4) hs hm (heraseFunc.trans hzero) hdeployed (by rw [bitsOf]; omega)
    refine answersN_of_eq rfl hx (((b.keyCtlWritten_frame _).mono rfl).trans ((FrameM.upd_lcs _).mono rfl)) rfl ?_
    rw [Blk.keyRes, (b.keyCtlWritten_frame _).same .lcs rfl]
  case starts =>
    have hlcs : (b.optCtrlWritten (2 + b2n copyB)).lcs = b.lcs := (b.optCtrlWritten_frame _).same .lcs rfl
    have hbits : bitOf (2 + b2n copyB) 0 = copyB ∧ bitOf (2 + b2n copyB) 1 = true ∧ bitOf (2 + b2n copyB) 2 = false := by cases copyB <;> decide
    obtain ⟨hcopy, hstart, hraise⟩ := hbits
    have hx := optCtrl_starts (n := s.nvm) hs hstart hraise
    rw [hcopy, optStart_idle (hlcs ▸ hidle)] at hx
    refine answersN_of_eq rfl hx (((b.optCtrlWritten_frame _).mono rfl).trans ((FrameM.upd_lcs _).mono rfl)) rfl ?_
    rw [Blk.optStarted, hlcs]
  case written => exact answersN_of_eq rfl (optDone_valid hbusy hcheck hlen) (FrameM.upd_lcs b) rfl rfl
  case failed => exact answersN_of_eq rfl (optDone_fails hbusy hcheck) (FrameM.upd_lcs b) rfl rfl
  case raised =>
    let x := 4 + b.rd R.LCS_OPT_CTRL_COPY
    have hcopy : b.rd R.LCS_OPT_CTRL_COPY < 2 := fieldOf_lt ..
    have hx := optCtrl_raises (n := s.nvm) hs (v := x) (by simp only [bitOf, beq_eq_false_iff_ne]; omega) (by simp only [bitOf, beq_iff_eq]; omega)
    rw [raiseSvn_lifts hi hm] at hx
    exact answersN_of_eq rfl hx ((b.optCtrlWritten_frame x).mono rfl) rfl ((b.optCtrlWritten_frame x).same .lcs rfl)

end Sys2Proof.Machine
end

section
/-! Performance counters: loads, wraps and samples (16 R416, R420 to R423). -/

namespace Sys2Proof.Machine

/-! ### Bits of numbers -/

theorem bitOf_eq_testBit (v i : Nat) : bitOf v i = v.testBit i := by
  rw [bitOf, Nat.testBit_eq_decide_div_mod_eq, Bool.beq_eq_decide_eq]

/-- Numbers without a bit in common add without a carry. -/
theorem add_eq_or_of_disjoint {a b : Nat} (h : a &&& b = 0) : a + b = a ||| b := by
  let w := a + b
  have hsum : a + b < 2 ^ w := Nat.lt_two_pow_self
  have ha : a < 2 ^ w := by omega
  have hb : b < 2 ^ w := by omega
  have hdisj : BitVec.ofNat w a &&& BitVec.ofNat w b = 0#w := BitVec.eq_of_toNat_eq (by
    rw [BitVec.toNat_and, BitVec.toNat_ofNat, BitVec.toNat_ofNat, Nat.mod_eq_of_lt ha, Nat.mod_eq_of_lt hb, h, BitVec.toNat_ofNat, Nat.zero_mod])
  have hadd := congrArg BitVec.toNat (BitVec.add_eq_or_of_and_eq_zero _ _ hdisj)
  rwa [BitVec.toNat_add, BitVec.toNat_or, BitVec.toNat_ofNat, BitVec.toNat_ofNat, Nat.mod_eq_of_lt ha, Nat.mod_eq_of_lt hb, Nat.mod_eq_of_lt hsum] at hadd

theorem testBit_sub_and (a b i : Nat) : (a - (a &&& b)).testBit i = (a.testBit i && !b.testBit i) := by
  let c := a &&& b
  have hdisj : (a ^^^ c) &&& c = 0 := Nat.eq_of_testBit_eq fun j => by
    simp only [c, Nat.testBit_and, Nat.testBit_xor, Nat.zero_testBit]
    cases a.testBit j <;> cases b.testBit j <;> rfl
  have hsum : (a ^^^ c) + c = a := (add_eq_or_of_disjoint hdisj).trans (Nat.eq_of_testBit_eq fun j => by
    simp only [c, Nat.testBit_or, Nat.testBit_and, Nat.testBit_xor]
    cases a.testBit j <;> cases b.testBit j <;> rfl)
  have hsub : a - c = a ^^^ c := by omega
  rw [hsub, Nat.testBit_xor, Nat.testBit_and]
  cases a.testBit i <;> cases b.testBit i <;> rfl

theorem bitOf_putBit_true (v i j : Nat) : bitOf (putBit v i true) j = (bitOf v j || decide (j = i)) := by
  simp only [putBit, bitOf_eq_testBit, beq_iff_eq, if_true]
  split
  · next hset => by_cases h : j = i <;> simp [h, hset]
  · next hclear =>
    have hdisj : v &&& 2 ^ i = 0 := Nat.eq_of_testBit_eq fun k => by
      rw [Nat.testBit_and, Nat.testBit_two_pow, Nat.zero_testBit, Bool.and_eq_false_iff, decide_eq_false_iff_not]
      exact or_iff_not_imp_right.mpr fun hk => not_not.mp hk ▸ Bool.eq_false_of_not_eq_true hclear
    rw [add_eq_or_of_disjoint hdisj, Nat.testBit_or, Nat.testBit_two_pow, decide_eq_decide.mpr eq_comm]

/-! ### Loading a counter (16 R420, R423) -/

section
variable {b : Blk} {f i : Nat}

theorem Blk.pmcHiWrite_holds (h : b.pmcWrites f = true) (v : Nat) :
    b.pmcHiWrite f i v = { b with pmc := { b.pmc with hold := tput b.pmc.hold i (v % 65536) } } := if_pos h

/-- Counter i has been loaded from the held high word and a written low one. -/
def Blk.pmcLoaded (b : Blk) (i v : Nat) : Blk :=
  { b with pmc := { b.pmc with cnt := tput b.pmc.cnt i (tget 0 b.pmc.hold i * 0x100000000 + v % 0x100000000), hold := tdel b.pmc.hold i } }

theorem Blk.pmcLoaded_frame (v : Nat) : FrameM 0x80000 b (b.pmcLoaded i v) := FrameM.upd_pmc b

theorem Blk.pmcLoWrite_loads (h : b.pmcWrites f = true) (v : Nat) : b.pmcLoWrite f i v = b.pmcLoaded i v := if_pos h

/-- Counter i owes a sample no longer. -/
def Blk.sampPaid (b : Blk) (x : Nat × Nat) : Blk := { b with pmc := { b.pmc with samp := b.pmc.samp.erase x } }

theorem Blk.pmcWrap_pays {x : Nat × Nat} (hsamp : b.pmc.sampOf i = some x) (hinner : pmcInner (b.pmcEv i) = false) (n last entry offset : Nat) (idle : Bool) :
    b.pmcWrap i n last entry offset idle = (b.sampPaid x).record (b.rd R.PMC_CTRL_SAMP_FUNC) 0x0E 0 i x.2
      (b.sampTail (b.sampEngine i last) entry offset idle) := by
  simp only [Blk.pmcWrap, hinner, Bool.and_false, Bool.false_and, Bool.false_eq_true, if_false, hsamp]
  rfl

end

/-- Settles O30: a load under SETUP and PMC_READ, and the oldest sample of a wrap. -/
theorem pmcWritesAndWraps : Obligations.PmcWritesAndWraps := by
  intro s w f i v b hi
  have hmod : i % 512 = i := Nat.mod_eq_of_lt hi
  refine ⟨fun h => ?holds, fun h => ?loads, fun x n engine entry offset idle hsamp hinner => ?samples⟩
  case holds => exact answers_of_eq rfl (hmod.symm ▸ Blk.pmcHiWrite_holds h v) (FrameM.upd_pmc b) rfl rfl
  case loads =>
    exact answers_of_eq rfl (hmod.symm ▸ Blk.pmcLoWrite_loads h v) (Blk.pmcLoaded_frame v) rfl
      ⟨tget_tput_self .., fun j hj => tget_tput_ne _ _ _ hj, rfl, rfl⟩
  case samples =>
    have hx := Blk.pmcWrap_pays hsamp hinner n engine entry offset idle
    exact answers_of_eq rfl (hmod.symm ▸ hx) (hx ▸ Blk.pmcWrap_frame ..) rfl ⟨_, rfl, rfl⟩

/-! ### Counting (16 R416) -/

section
variable {b : Blk} {p : Pmc} {i n : Nat}

theorem Blk.pmcBump_below (hchain : p.chained = false) (h : tget 0 p.cnt i + n < 2 ^ 48) :
    b.pmcBump p i n = { p with cnt := tput p.cnt i (tget 0 p.cnt i + n) } := by
  rw [Blk.pmcBump, hchain]
  exact if_pos h

theorem Blk.pmcBump_wraps (hchain : p.chained = false) (hsamp : b.flag (R.PMC_SEL_SAMP i) = false) (h : 2 ^ 48 ≤ tget 0 p.cnt i + n) :
    b.pmcBump p i n = { p with cnt := tput p.cnt i ((tget 0 p.cnt i + n - 2 ^ 48) % 2 ^ 48), ovf := putBit p.ovf i true } := by
  have hno : ¬tget 0 p.cnt i + n < 0x1000000000000 := by omega
  simp only [Blk.pmcBump, hchain, hsamp, Bool.false_eq_true, if_false, hno, Bool.false_and, Nat.sub_self, Nat.zero_add]
  rfl

end

/-- Settles O31: below 2^48 a counter adds up, at 2^48 it wraps and sets its bit; a write of 1 clears the bit. -/
theorem countersWrapAndFlag : Obligations.CountersWrapAndFlag := by
  refine ⟨fun b p i n hchain hsamp hcnt hn => ?counts, fun b f k v h hk j hj => ?clears⟩
  case counts =>
    by_cases hsum : tget 0 p.cnt i + n < 2 ^ 48
    · rw [Blk.pmcBump_below hchain hsum]
      refine ⟨(tget_tput_self ..).trans (Nat.mod_eq_of_lt hsum).symm, fun j hj => tget_tput_ne _ _ _ hj, ?_, fun _ _ => rfl⟩
      rw [decide_eq_false (by omega), Bool.or_false]
    · have hwrap : 2 ^ 48 ≤ tget 0 p.cnt i + n := by omega
      rw [Blk.pmcBump_wraps hchain hsamp hwrap]
      refine ⟨(tget_tput_self ..).trans (Nat.mod_eq_sub_mod hwrap).symm, fun j hj => tget_tput_ne _ _ _ hj, ?_, fun j hj => ?_⟩
      · rw [bitOf_putBit_true, decide_eq_true hwrap, decide_eq_true rfl]
      · rw [bitOf_putBit_true, decide_eq_false hj, Bool.or_false]
  case clears =>
    have hword : (v.toNat * 2 ^ (32 * k)).testBit (32 * k + j) = v.getLsbD j := by
      rw [Nat.testBit_mul_two_pow, BitVec.getLsbD]; simp
    rw [Blk.pmcRegWrite, h, bitOf_eq_testBit, bitOf_eq_testBit, ← hword]
    exact testBit_sub_and ..

end Sys2Proof.Machine
end

section
/-! Register requests and access errors (17 R427 to R431, R434, R444). -/

namespace Sys2Proof.Machine

/-! ### Noting an access error (17 R444) -/

theorem Blk.rdW_wrW_self (b : Blk) (off : Nat) {v : Nat} (h : v < 2 ^ 32) : (b.wrW off v).rdW off = v := by
  rw [Blk.rdW, Blk.wrW, rfGet_rfPut, if_pos rfl, BitVec.toNat_ofNat, Nat.mod_eq_of_lt h]

theorem Blk.rdW_wr_ne (b : Blk) {f : BF} (v : Nat) {off : Nat} (h : off ≠ f.off) : (b.wr f v).rdW off = b.rdW off :=
  congrArg BitVec.toNat (b.rfGet_wr_ne v h)

section
variable (b : Blk) (f kind off : Nat) (write : Bool)

/-- The word of EVT_ACCADDR that captures an access. -/
def accWord (kind off : Nat) (write : Bool) : Nat := off % 0x100000 + 0x100000 * kind + 0x800000 * b2n write

/-- The block after the access has been captured where none was. -/
def Blk.accCaptured : Blk := if b.rdW (R.EVT_ACCERR f) = 0 then b.wrW (R.EVT_ACCADDR f) (accWord kind off write) else b

theorem accAddr_ne_accErr : R.EVT_ACCADDR f ≠ R.EVT_ACCERR f := by simp only [R.EVT_ACCADDR, R.EVT_ACCERR, bank]; omega

theorem Blk.rd_accCaptured (j : Nat) : (b.accCaptured f kind off write).rd ⟨R.EVT_ACCERR f, j, 1⟩ = b.rd ⟨R.EVT_ACCERR f, j, 1⟩ := by
  unfold Blk.accCaptured
  split
  · exact b.rd_wrW_ne _ (accAddr_ne_accErr f).symm
  · rfl

variable {b f}

theorem Blk.accErr_closed (h : b.sesOpen f = false) : b.accErr f kind off write = b := if_pos (by simp [h])

theorem Blk.accErr_open (h : b.sesOpen f = true) : b.accErr f kind off write = (b.accCaptured f kind off write).setF ⟨R.EVT_ACCERR f, kind, 1⟩ :=
  if_neg (by simp [h])

section
variable (h : b.sesOpen f = true)
include h

variable {kind} in
theorem Blk.accErr_sets (hk : kind < 6) : (b.accErr f kind off write).rd ⟨R.EVT_ACCERR f, kind, 1⟩ = 1 := by
  rw [Blk.accErr_open _ _ _ h]
  exact Blk.rd_wr_self _ ⟨R.EVT_ACCERR f, kind, 1⟩ 1 (by dsimp only; omega)

variable {kind} in
theorem Blk.accErr_others (hk : kind < 6) {j : Nat} (hj : j ≠ kind) :
    (b.accErr f kind off write).rd ⟨R.EVT_ACCERR f, j, 1⟩ = b.rd ⟨R.EVT_ACCERR f, j, 1⟩ := by
  rw [Blk.accErr_open _ _ _ h, Blk.setF, Blk.rd_wr_disj _ ⟨R.EVT_ACCERR f, kind, 1⟩ ⟨R.EVT_ACCERR f, j, 1⟩ 1 (by dsimp only; omega) (by dsimp only; omega)]
  exact b.rd_accCaptured f kind off write j

theorem Blk.accErr_addr : (b.accErr f kind off write).rdW (R.EVT_ACCADDR f) = (b.accCaptured f kind off write).rdW (R.EVT_ACCADDR f) := by
  rw [Blk.accErr_open _ _ _ h, Blk.setF, Blk.rdW_wr_ne _ _ (accAddr_ne_accErr f)]

variable {kind} in
theorem Blk.accErr_captures (hk : kind < 6) (hfirst : b.rdW (R.EVT_ACCERR f) = 0) :
    (b.accErr f kind off write).rdW (R.EVT_ACCADDR f) = accWord kind off write := by
  have hbit : b2n write ≤ 1 := by cases write <;> decide
  rw [Blk.accErr_addr _ _ _ h, Blk.accCaptured, if_pos hfirst, Blk.rdW_wrW_self]
  rw [accWord]
  omega

theorem Blk.accErr_keeps_first (hlater : b.rdW (R.EVT_ACCERR f) ≠ 0) :
    (b.accErr f kind off write).rdW (R.EVT_ACCADDR f) = b.rdW (R.EVT_ACCADDR f) := by
  rw [Blk.accErr_addr _ _ _ h, Blk.accCaptured, if_neg hlater]

end

end

/-! ### What a request does -/

section
variable {n : Nvm} {b : Blk} (f : Nat) {off : Nat} (be : Nat)

theorem request_down (hup : b.hostUp = false) (off : Nat) (write : Bool) (vals : List Nat) : request n b f off be write vals = (n, b) := by
  simp [request, hup]

section
variable (hup : b.hostUp = true)
include hup

theorem request_mirror (hoff : 0x100000 ≤ off) (v : Nat) : request n b f off be false [v] = (n, b.readOut f off [b.bar2Word f (off - 0x100000)]) := by
  simp [request, hup, hoff]

section
variable (hoff : off < 0x100000)
include hoff

theorem request_long {vals : List Nat} (hlen : 3 ≤ vals.length) (hmsix : isMsix off = false) (write : Bool) :
    request n b f off be write vals = (n, if write then b.accErr f 0 off write else (b.accErr f 0 off write).readOut f off (List.replicate vals.length 0)) := by
  have hbar : ¬0x100000 ≤ off := by omega
  simp [request, hup, hbar, hlen, hmsix]

theorem request_write (v : Nat) : request n b f off be true [v] = writeWords n b f off be [v] := by
  have hbar : ¬0x100000 ≤ off := by omega
  simp [request, hup, hbar]

variable {be} in
theorem request_whole (hbe : be % 16 = 15) (v : Nat) : request n b f off be true [v] = writeOne n b f off v := by
  rw [request_write f be hup hoff]
  simp [writeWords, hbe]

variable {be} in
theorem request_part (hbe : be % 16 ≠ 15) (hmsix : isMsix off = false) (v : Nat) : request n b f off be true [v] = (n, b.accErr f 1 off true) := by
  rw [request_write f be hup hoff]
  simp [writeWords, hbe, hmsix, hup]

theorem request_read (v : Nat) : request n b f off be false [v] =
    (n, (b.readOne n f off).1.readOut f off [beMask (be % 16) (b.readOne n f off).2]) := by
  have hbar : ¬0x100000 ≤ off := by omega
  simp [request, hup, hbar, Blk.readWords]

end

end

end

/-! ### What one dword does -/

section
variable {n : Nvm} {b : Blk} {f off : Nat} (v : Nat)

section
variable (hup : b.hostUp = true)
include hup

theorem writeOne_reserved (h : isDefined off = false) : writeOne n b f off v = (n, b.accErr f 2 off true) := by
  simp [writeOne, hup, h]

section
variable (hmsix : isMsix off = false) (hdef : isDefined off = true)
include hmsix hdef

theorem writeOne_absent (h : b.absentAt off = true) : writeOne n b f off v = (n, b.accErr f 3 off true) := by
  simp [writeOne, hup, hmsix, hdef, h]

theorem writeOne_without_privilege (habsent : b.absentAt off = false) (h : b.mayWrite f off = false) :
    writeOne n b f off v = (n, b.accErr f 4 off true) := by
  simp [writeOne, hup, hmsix, hdef, habsent, h]

end

theorem writeOne_of_row (hmsix : isMsix off = false) (habsent : b.absentAt off = false) (hmay : b.mayWrite f off = true) {x : RegRow × Nat}
    (hrow : regRow? off = some x) {word : Word} (hword : word = BitVec.ofNat 32 (b.maskBits off (v % 0x100000000))) :
    writeOne n b f off v = writeReg n (if b.lockedDiff f off word then b.accErr f 5 off true else b) f off word x.1 x.2 := by
  have hdef : isDefined off = true := by simp [isDefined, hrow]
  simp only [writeOne, hup, hdef, hmsix, habsent, hmay, hrow, hword]
  rfl

section
variable (hopen : b.sesOpen f = true)
include hopen

theorem Blk.readOne_reserved (h : isDefined off = false) : b.readOne n f off = (b.accErr f 2 off false, 0) := by
  simp [Blk.readOne, hup, hopen, h]

theorem Blk.readOne_absent (hdef : isDefined off = true) (h : b.absentAt off = true) : (b.readOne n f off).1 = b.accErr f 3 off false := by
  simp [Blk.readOne, hup, hopen, hdef, h]

end

end

end

/-! ### Locked fields, and writes of 1 that clear -/

/-- The lock of a row matters to its RWL fields alone. -/
theorem rowWrite_lock {row : RegRow} (h : ∀ y ∈ row.fields, y.acc ≠ .rwl) (off : Nat) (v old : Word) :
    rowWrite true row off v old = rowWrite false row off v old := by
  have hfield (w : Word) (y : RField) (hy : y ∈ row.fields) : fieldWrite true off v w y = fieldWrite false off v w y := by
    have := h y hy
    unfold fieldWrite
    split <;> simp_all
  rw [rowWrite, rowWrite, List.foldl_ext _ _ _ hfield]

theorem Blk.lockedDiff_of_row {b : Blk} {f off : Nat} {v : Word} {x : RegRow × Nat} (hm : b.mode ≠ .commission) (hrow : regRow? off = some x)
    (hbase : x.1.base ≠ 0x1004C) : b.lockedDiff f off v =
      (rowWrite true x.1 off v (rfGet b.regs (x.1.key f off)) != rowWrite false x.1 off v (rfGet b.regs (x.1.key f off))) := by
  simp only [Blk.lockedDiff, hm, beq_iff_eq, if_false, hrow, hbase]
  rfl

theorem fieldOf_bit (v : Word) (k : Nat) : fieldOf v k 1 = (v.getLsbD k).toNat := by
  rw [fieldOf, BitVec.getLsbD, Nat.testBit_eq_decide_div_mod_eq]
  have hbit := Nat.mod_two_eq_zero_or_one (v.toNat / 2 ^ k)
  rcases hbit with h | h <;> simp [h]

theorem fieldOf_fieldWrite_w1c (unlocked : Bool) (off : Nat) (v old : Word) {j k : Nat} (hk : k < 32) :
    fieldOf (fieldWrite unlocked off v old ⟨k, 1, .w1c⟩) j 1 = if j = k ∧ v.getLsbD j then 0 else fieldOf old j 1 := by
  change fieldOf (withField old k 1 (fieldOf old k 1 &&& (1 ^^^ fieldOf v k 1))) j 1 = _
  by_cases hjk : j = k
  · subst hjk
    rw [fieldOf_withField _ _ _ _ (by omega), fieldOf_bit, fieldOf_bit]
    cases v.getLsbD j <;> cases old.getLsbD j <;> simp
  · rw [if_neg fun h => hjk h.1, fieldOf_withField_disj _ _ _ _ _ _ (by omega) (by omega)]

/-- Writing 1 to one-bit W1C fields clears those that it names. -/
theorem fieldOf_foldl_w1c (unlocked : Bool) (off : Nat) (v : Word) (j : Nat) (ks : List Nat) (hks : ∀ k ∈ ks, k < 32) (old : Word) :
    fieldOf ((ks.map fun k => (⟨k, 1, .w1c⟩ : RField)).foldl (fieldWrite unlocked off v) old) j 1
      = if j ∈ ks ∧ v.getLsbD j then 0 else fieldOf old j 1 := by
  induction ks generalizing old with
  | nil => simp
  | cons k ks ih =>
    rw [List.map_cons, List.foldl_cons, ih (fun q hq => hks q (List.mem_cons_of_mem _ hq)), fieldOf_fieldWrite_w1c _ _ _ _ (hks k List.mem_cons_self)]
    cases hv : v.getLsbD j <;> by_cases hj : j = k <;> simp [hj]

/-- The row of EVT_ACCERR. -/
def accErrRow : RegRow := ⟨0x6028, 0x0, 1, true, (List.range 6).map fun k => ⟨k, 1, .w1c⟩⟩

theorem regRow_accErr : regRow? 0x6028 = some (accErrRow, 0) := rfl

theorem rowWrite_accErr (unlocked : Bool) (v old : Word) : rowWrite unlocked accErrRow 0x6028 v old =
    ((List.range 6).map fun k => (⟨k, 1, .w1c⟩ : RField)).foldl (fieldWrite unlocked 0x6028 v) old := by
  have hpair (x) : heldPair 0x6028 x = x := by simp [heldPair, inArray, R.FLC_EGPORT, R.PTP_UNI, R.HLD_OCFG]
  rw [rowWrite, hpair, accErrRow]
  split
  · next h => exact h.symm
  · rfl

theorem Blk.regWrite_accErr (b : Blk) (f : Nat) (v : Word) {j : Nat} (hj : j < 6) :
    (b.regWrite f 0x6028 v).rd ⟨R.EVT_ACCERR f, j, 1⟩ = if v.getLsbD j then 0 else b.rd ⟨R.EVT_ACCERR f, j, 1⟩ := by
  have hkey : accErrRow.key f 0x6028 = R.EVT_ACCERR f := rfl
  have hword := b.rfGet_regWrite f v regRow_accErr (R.EVT_ACCERR f)
  rw [hkey, if_pos rfl, rowWrite_accErr] at hword
  rw [Blk.rd, hword, fieldOf_foldl_w1c _ _ _ _ _ (by decide)]
  simp only [List.mem_range, hj, true_and]
  rfl

/-! ### The statements -/

/-- Settles O28: what noting an access does, which condition is noted, and when a lock shows. -/
theorem accessErrors : Obligations.AccessErrors := by
  refine ⟨fun b f kind off write _ hk hoff => ⟨Blk.accErr_closed _ _ _, fun h => ⟨Blk.accErr_sets _ _ h hk, fun j _ hj => Blk.accErr_others _ _ h hk hj,
      fun hfirst => ?captured, Blk.accErr_keeps_first _ _ _ h, .of_pieceBits (b.accErr_frame f kind off write) rfl⟩⟩,
    fun n b f off be vals v hup hoff hmsix => ⟨fun hlen => request_long f be hup hoff hlen hmsix true, fun hbe => request_part f hup hoff hbe hmsix v,
      fun hbe => request_whole f hup hoff hbe v, writeOne_reserved v hup, writeOne_absent v hup hmsix, writeOne_without_privilege v hup hmsix,
      Blk.readOne_reserved hup, Blk.readOne_absent hup, fun x word hword habsent hmay hrow => writeOne_of_row v hup hmsix habsent hmay hrow hword⟩,
    fun b f off v x hrow hbase => ⟨fun hm => ?unlocked, fun h => ?plain, fun hm => ?locked⟩, fun b f j v hj => b.regWrite_accErr f v hj⟩
  case captured =>
    rw [Blk.accErr_captures _ _ h hk hfirst, accWord, Nat.mod_eq_of_lt hoff]
  case unlocked => simp [Blk.lockedDiff, hm]
  case plain =>
    by_cases hm : b.mode = .commission
    · simp [Blk.lockedDiff, hm]
    · rw [Blk.lockedDiff_of_row hm hrow hbase, rowWrite_lock h, bne_self_eq_false]
  case locked =>
    rw [Blk.lockedDiff_of_row hm hrow hbase, bne_iff_ne]
    rfl

/-- Settles O27: each clause is the branch of a request that its hypotheses select. -/
theorem registerRequests : Obligations.RegisterRequests := by
  intro s w f off be v write vals b
  have hword : off < 0x100000 → off / 4 * 4 < 0x100000 := by omega
  refine ⟨fun hup => ?down, fun hup hoff hbe => ?whole, fun hup hoff hbe hmsix => ?part, fun hup hoff => ?read, fun hup hoff => ?mirror,
    fun hup hoff hlen hmsix => ⟨?longWrite, ?longRead⟩⟩
  case down => exact answersN_of_eq rfl (request_down _ be hup _ write vals) (of_eq_true (FrameM.refl 0 b)) rfl rfl
  case whole => exact answersN_of_eq rfl (request_whole (f % 4) hup (hword hoff) hbe v) (writeOne_frame ..) rfl rfl
  case part => exact answersN_of_eq rfl (request_part (f % 4) hup (hword hoff) hbe hmsix v) (Blk.accErr_frame ..) rfl rfl
  case read =>
    have hframe : FrameM 0xffffffffc b ((b.readOne s.nvm (f % 4) (off / 4 * 4)).1.readOut (f % 4) (off / 4 * 4)
        [beMask (be % 16) (b.readOne s.nvm (f % 4) (off / 4 * 4)).2]) :=
      ((b.readOne_frame s.nvm (f % 4) (off / 4 * 4)).mono rfl).trans ((Blk.readOut_frame ..).mono rfl)
    exact answersN_of_eq rfl (request_read (f % 4) be hup (hword hoff) v) hframe rfl rfl
  case mirror => exact answersN_of_eq rfl (request_mirror (f % 4) be hup (by omega) v) (Blk.readOut_frame ..) rfl rfl
  case longWrite => exact answersN_of_eq rfl (request_long (f % 4) be hup (hword hoff) hlen hmsix true) (Blk.accErr_frame ..) rfl rfl
  case longRead =>
    have herr := b.accErr_frame (f % 4) 0 (off / 4 * 4) false
    have hframe : FrameM 0x18 b ((b.accErr (f % 4) 0 (off / 4 * 4) false).readOut (f % 4) (off / 4 * 4) (List.replicate vals.length 0)) :=
      (herr.mono rfl).trans ((Blk.readOut_frame ..).mono rfl)
    refine answersN_of_eq rfl (request_long (f % 4) be hup (hword hoff) hlen hmsix false) hframe rfl ?_
    have hout : (b.accErr (f % 4) 0 (off / 4 * 4) false).out = b.out := herr.same .out rfl
    simp only [Bool.false_eq_true, if_false, Blk.readOut, Blk.put, hout, List.map_replicate, BitVec.ofNat_eq_ofNat]

end Sys2Proof.Machine
end

section
/-! Errors: raised, logged, handled (15 R393, R396, R397, R400, R408). -/

namespace Sys2Proof.Machine

/-! ### The log (15 R400) -/

/-- The entry that logging an error writes. -/
def Blk.logEntry (b : Blk) (cls : Nat) (esc queued done inj : Bool) (unit code detail : Nat) : ErrEntry :=
  { cls := cls, escalated := esc, queued := queued, preempted := false, done := done, injected := inj
    unit := unit % 256, code := code % 256, time := b.ins.now, detail := detail, revoked := 0, seq := b.err.seq }

section
variable (b : Blk) (cls : Nat) (esc queued done inj : Bool) (unit code detail : Nat)

/-- Logging an error changes the log, its pointer and its sequence number of the error state alone. -/
theorem Blk.errLog_err : (b.errLog cls esc queued done inj unit code detail).1.err =
    { b.err with log := tput b.err.log b.err.nextSlot (b.logEntry cls esc queued done inj unit code detail), ptr := b.err.nextSlot
                 seq := (b.err.seq + 1) % 65536 } := rfl

theorem Blk.errLog_idx : (b.errLog cls esc queued done inj unit code detail).2 = b.err.nextSlot := rfl

theorem Blk.errLog_at : (b.errLog cls esc queued done inj unit code detail).1.err.at? b.err.nextSlot
    = some (b.logEntry cls esc queued done inj unit code detail) := by
  rw [Blk.errLog_err, Err.at?, find?_tput, if_pos rfl]
  rfl

theorem Blk.errLog_counts : tget 0 (b.errLog cls esc queued done inj unit code detail).1.ctr (errCounter cls)
    = (tget 0 b.ctr (errCounter cls) + 1) % 0x10000000000000000 := tget_tput_self ..

theorem Blk.errLog_seen (h : cls < 4) : bitOf ((b.errLog cls esc queued done inj unit code detail).1.rd R.ERR_STATUS_SEEN) cls = true := by
  have hseen : (b.errLog cls esc queued done inj unit code detail).1.rd R.ERR_STATUS_SEEN = (b.rd R.ERR_STATUS_SEEN ||| 2 ^ cls) % 2 ^ 4 :=
    ((Blk.inc_frame ..).rd rfl _).trans (Blk.rd_wr_self _ R.ERR_STATUS_SEEN _ (by decide))
  rw [hseen, bitOf_eq_testBit, Nat.testBit_mod_two_pow, Nat.testBit_or, Nat.testBit_two_pow_self, decide_eq_true h, Bool.or_true, Bool.and_true]

end

/-! ### An error is raised (15 R396, R397) -/

/-- What an error found by a unit meets: it neither escalates nor is its unit covered by a reset or held, and the queue has room. -/
structure MeetsNothing (b : Blk) (code unit cls : Nat) : Prop where
  machine : code ≠ 0x1A
  noEscalation : errEsc code = false
  uncovered : b.covered unit = false
  notHeld : b.isHeld unit = false
  room : b.err.queue.length < 16
  cls_lt : cls < 4

/-- The error as the machinery handles it. -/
def Blk.jobOf (b : Blk) (code unit cls detail item : Nat) : ErrJob :=
  { idx := b.err.nextSlot, code := code, unit := unit, cls := cls, escalated := false, injected := false, detail := detail, item := item }

section
variable {b : Blk} {code unit cls : Nat} (h : MeetsNothing b code unit cls) (detail item : Nat)
include h

theorem Blk.raise0_corrected (hcls : cls = 0) :
    b.raise0 code unit detail cls false item = (b.errLog 0 false false true false unit code detail).1.errRecord b.err.nextSlot := by
  obtain ⟨hmachine, hesc, hcovered, hheld, hroom, -⟩ := h
  have hfull : ¬16 ≤ b.err.queue.length := by omega
  subst hcls
  simp [Blk.raise0, hmachine, hesc, hcovered, hheld, hfull, Blk.errLog_idx]

theorem Blk.raise0_handled (hcls : 0 < cls) (hcur : b.err.cur = none) :
    b.raise0 code unit detail cls false item =
      (b.errLog cls false false false false unit code detail).1.errStart (b.jobOf code unit cls detail item) := by
  obtain ⟨hmachine, hesc, hcovered, hheld, hroom, hlt⟩ := h
  have hfull : ¬16 ≤ b.err.queue.length := by omega
  have hmin : min cls 3 = cls := by omega
  simp [Blk.raise0, hmachine, hesc, hcovered, hheld, hfull, hmin, hcls, hcur, Blk.errLog_idx, Blk.errLog_err, Blk.jobOf]
  rfl

theorem Blk.raise0_queued {k : ErrJob} (hcls : 0 < cls) (hcur : b.err.cur = some k) (hle : cls ≤ k.cls) :
    (b.raise0 code unit detail cls false item).err.queue = b.err.queue ++ [b.jobOf code unit cls detail item]
      ∧ (b.raise0 code unit detail cls false item).err.cur = some k := by
  obtain ⟨hmachine, hesc, hcovered, hheld, hroom, hlt⟩ := h
  have hfull : ¬16 ≤ b.err.queue.length := by omega
  have hmin : min cls 3 = cls := by omega
  have hlower : ¬k.cls < cls := by omega
  simp [Blk.raise0, hmachine, hesc, hcovered, hheld, hfull, hmin, hcls, hcur, hlower, Blk.errLog_idx, Blk.errLog_err, Blk.jobOf]
  rfl

end

/-! ### Handling ends (15 R396, R397) -/

/-- The error state with an entry of the log changed. -/
def Err.edited (e : Err) (i : Nat) (f : ErrEntry → ErrEntry) : Err :=
  match e.at? i with | some x => { e with log := tput e.log i (f x) } | none => e

theorem Blk.errEdit_err (b : Blk) (i : Nat) (f : ErrEntry → ErrEntry) : (b.errEdit i f).err = b.err.edited i f := by
  rw [Blk.errEdit, Err.edited]
  cases b.err.at? i <;> rfl

theorem Err.edited_at {e : Err} {i : Nat} {x : ErrEntry} (h : e.at? i = some x) (f : ErrEntry → ErrEntry) : (e.edited i f).at? i = some (f x) := by
  rw [Err.edited, h]
  exact congrArg (Option.map Prod.snd) ((find?_tput ..).trans (if_pos rfl))

theorem Err.edited_waits (e : Err) (i : Nat) (f : ErrEntry → ErrEntry) :
    (e.edited i f).suspended = e.suspended ∧ (e.edited i f).queue = e.queue := by
  unfold Err.edited
  split <;> exact ⟨rfl, rfl⟩

/-- The end of a job marks its entry DONE. -/
theorem Blk.errEnd_err (b : Blk) (j : ErrJob) : (b.errEnd j).err = b.err.edited j.idx fun e => { e with done := true } := by
  have hrecord (c : Blk) : (c.errRecord j.idx).err = c.err := (Blk.errRecord_frame ..).same .err rfl
  unfold Blk.errEnd
  rw [hrecord, Blk.errEdit_err]
  split
  · exact congrArg (Err.edited · j.idx _) ((Blk.staleDel_frame _ _).same .err rfl)
  · rfl

/-- The block in which the job in hand has ended. -/
def Blk.jobEnded (b : Blk) (j : ErrJob) : Blk := Blk.errEnd { b with err := { b.err with cur := none } } j

theorem Blk.errNext_nothing {b : Blk} (hsuspended : b.err.suspended = []) (hqueue : b.err.queue = []) (ended : ErrJob) (n : Nat) :
    b.errNext ended (n + 1) = { b with err := { b.err with cur := none } } := by
  simp only [Blk.errNext, hsuspended, hqueue]

theorem Blk.errDone_rests {b : Blk} {j : ErrJob} (hcur : b.err.cur = some j) (hacting : b.errActing j = false) (hsuspended : b.err.suspended = [])
    (hqueue : b.err.queue = []) : b.errDone = Blk.follow b { b.jobEnded j with err := { (b.jobEnded j).err with cur := none } } := by
  have herr := Blk.errEnd_err { b with err := { b.err with cur := none } } j
  obtain ⟨hs, hq⟩ := Err.edited_waits { b.err with cur := none } j.idx fun e => { e with done := true }
  have hends : b.errDone = Blk.follow b ((b.jobEnded j).errNext j (b.err.suspended.length + 1)) := by
    simp only [Blk.errDone, hcur, hacting]
    rfl
  rw [hends, Blk.errNext_nothing]
  · exact (congrArg Err.suspended herr).trans (hs.trans hsuspended)
  · exact (congrArg Err.queue herr).trans (hq.trans hqueue)

/-! ### What commands raise -/

theorem Blk.errRaised_raises {b : Blk} {code unit detail : Nat} (hdone : b.boot.done = true) (hcode : code < 256) (hinject : code ≠ 0x1B)
    (hstore : code ≠ 0x0D) (hunit : unit < 256) (hdetail : detail < 0x100000000) (item : Nat) :
    b.errRaised code unit detail item = (Blk.follow b (b.raise0 code unit detail (errClass code) false item)).errSettle := by
  simp [Blk.errRaised, hdone, hinject, hstore, Nat.mod_eq_of_lt hcode, Nat.mod_eq_of_lt hunit, Nat.mod_eq_of_lt hdetail]

theorem Blk.injected_raises {b : Blk} {f v : Nat} (hup : b.hostUp = true) (hs : b.setup f = true) (hm : b.mode = .diagnostic) (hgo : bitOf v 18 = true) :
    b.injected f v = (Blk.follow b (b.raise0 (v / 256 % 256) (v % 256) 0 (v / 65536 % 4) true 0)).errSettle :=
  if_pos (by simp [hup, hs, hm, hgo])

theorem exec_errorHandlingDone {s : State} {w : Nat} (h : (s.blk.pass w).err.cur.isSome = true) :
    exec (.errorHandlingDone w) s = .next { s with blk := Blk.settle s.blk (s.blk.pass w).errDone.errSettle } := by
  change execErrorHandlingDone w s = _
  rw [execErrorHandlingDone, State.upd, if_pos h]

/-- Settles O32: what raises an error, and where it goes from there. -/
theorem errorsRaisedAndHandled : Obligations.ErrorsRaisedAndHandled := by
  refine ⟨fun s w code unit detail item f v => ⟨fun hdone hcode hinject hstore hunit hdetail => ?raised, fun hup hs hm hgo => ?injects, fun h => ?ends⟩,
    fun b code unit detail cls item hmachine hesc hcovered hheld hroom hlt => ?goes,
    fun b cls unit code detail esc queued done inj hlt => ⟨b.errLog_at .., rfl, rfl, b.errLog_counts .., b.errLog_seen _ _ _ _ _ _ _ _ hlt⟩,
    fun b j hcur hacting hsuspended hqueue => ⟨_, Blk.errDone_rests hcur hacting hsuspended hqueue, rfl, fun e he => ?done⟩⟩
  case raised =>
    have hx := Blk.errRaised_raises hdone hcode hinject hstore hunit hdetail item
    exact answers_of_eq rfl hx (hx ▸ Blk.errRaised_frame ..) rfl rfl
  case injects =>
    have hx := Blk.injected_raises hup hs hm hgo
    exact answers_of_eq rfl hx (hx ▸ Blk.injected_frame ..) rfl rfl
  case ends =>
    have hframe : FrameM 0x7fdffbfbc (s.blk.pass w) (s.blk.pass w).errDone.errSettle :=
      ((Blk.errDone_frame _).mono rfl).trans ((Blk.errSettle_frame _).mono rfl)
    exact answers_of_eq (exec_errorHandlingDone h) rfl hframe rfl rfl
  case goes =>
    have h : MeetsNothing b code unit cls := ⟨hmachine, hesc, hcovered, hheld, hroom, hlt⟩
    refine ⟨Blk.raise0_corrected h detail item, Blk.raise0_handled h detail item, fun k hcls hcur hle => ?_⟩
    obtain ⟨hqueue, hsame⟩ := Blk.raise0_queued h detail item hcls hcur hle
    exact ⟨by rw [hqueue, List.length_append]; rfl, hsame⟩
  case done =>
    have hat : (b.jobEnded j).err.at? j.idx = some { e with done := true } := by
      rw [Blk.jobEnded, Blk.errEnd_err]
      exact Err.edited_at (e := { b.err with cur := none }) he _
    exact ⟨_, hat, rfl⟩

end Sys2Proof.Machine
end

section
/-! The twin: its commands, the mirror and the markers (12 R331 to R334, R337, R339, R340). -/

namespace Sys2Proof.Machine

/-! ### The sub-commands of TWIN_COMMAND (12 R339) -/

section
variable {b : Blk} {r : Nat} {d : Desc} (h : Ready b r d 0x40) {p : Nat → Bool} (hp : p (byteAt d.data 8) = true) (f : DRef → Bytes → Blk → Blk)
include h hp

theorem Blk.twinCmd_of_ready (hwelt : b.part.variant.welt = true) : b.twinCmd r p f = f ⟨r, d.id⟩ d.data (b.beginDesc r d) := by
  have hbegun : (b.beginDesc r d).part = b.part := (b.beginDesc_frame r d).same .part rfl
  rw [Blk.twinCmd, Blk.withDesc_of_ready h hp, hbegun, if_pos hwelt]

theorem Blk.twinCmd_absent (hwelt : b.part.variant.welt = false) : b.twinCmd r p f = (b.beginDesc r d).complete ⟨r, d.id⟩ stAbsent [] := by
  have hbegun : (b.beginDesc r d).part = b.part := (b.beginDesc_frame r d).same .part rfl
  rw [Blk.twinCmd, Blk.withDesc_of_ready h hp, hbegun, if_neg (by simp [hwelt])]

end

/-- Beginning a descriptor leaves the twin. -/
theorem Blk.beginDesc_twin (b : Blk) (r : Nat) (d : Desc) : (b.beginDesc r d).twin = b.twin := (b.beginDesc_frame r d).same .twin rfl

section
variable {b : Blk} {d : Bytes}

theorem Blk.switchover_denied (h : b.twin.attached = false ∨ b.twin.role ≠ 1) (ref : DRef) : b.switchover ref d = b.complete ref stDenied [] :=
  if_pos (by simpa using h)

section
variable (hattached : b.twin.attached = true) (hrole : b.twin.role = 1)
include hattached hrole

theorem Blk.switchover_untracked (htrack : b.twin.peerTrack = false) (hforce : bitOf (byteAt d 9) 0 = false) (ref : DRef) :
    b.switchover ref d = b.complete ref stDenied [] := by
  simp [Blk.switchover, hattached, hrole, htrack, hforce]

theorem Blk.switchover_begins (hmay : b.twin.peerTrack = true ∨ bitOf (byteAt d 9) 0 = true) (hchange : b.roleChange = false) (hreq : b.modeReq = none)
    (ref : DRef) : b.switchover ref d = { b with twin := { b.twin with switchRef := some ref } } := by
  have hno : ¬(b.twin.peerTrack = false ∧ bitOf (byteAt d 9) 0 = false) := by rintro ⟨ht, hf⟩; simp [ht, hf] at hmay
  simp [Blk.switchover, hattached, hrole, hno, hchange, hreq]

end

theorem Blk.newKey_of_ready {r : Nat} {d : Desc} (h : Ready b r d 0x40) (hsub : byteAt d.data 8 = 4) (hwelt : b.part.variant.welt = true) (blk : Bytes) :
    b.newKey r blk = if b.mode = .commission then keyUnwrap (b.sesOf (b.ringOwner r)).ks (sliceB blk 0 40) else none := by
  obtain ⟨hnext, hop⟩ := h
  simp only [Blk.newKey, hnext, hop, hsub, hwelt]
  rfl

end

/-- RESET_PEER: sent where the peer allows it. -/
def Blk.resetPeer (b : Blk) (ref : DRef) : Blk :=
  if b.twin.attached && b.twin.peerResetOk then (b.put (.welt weltReset [])).complete ref stOk [] else b.complete ref stDenied []

theorem Blk.resetPeer_sent {b : Blk} (hattached : b.twin.attached = true) (hok : b.twin.peerResetOk = true) (ref : DRef) :
    b.resetPeer ref = (b.put (.welt weltReset [])).complete ref stOk [] := if_pos (by rw [hattached, hok]; rfl)

theorem Blk.resetPeer_denied {b : Blk} (h : b.twin.attached = false ∨ b.twin.peerResetOk = false) (ref : DRef) :
    b.resetPeer ref = b.complete ref stDenied [] := if_neg (by rcases h with h | h <;> simp [h])

/-- The 16 bytes of STATUS. -/
def Twin.statusBytes (t : Twin) : Bytes :=
  leB 4 (ofSigned t.xPs 32) ++ leB 1 t.peerMode ++ leB 1 t.peerStatus ++ leB 2 0 ++ leB 8 t.peerSerial

/-! ### The mirror (12 R331 to R333) -/

section
variable {b : Blk}

theorem Blk.mirrorApply_row (b : Blk) (k pos : Nat) (bs : Bytes) :
    (b.mirrorApply (.row k pos bs)).bucketAt k = putRow (b.bucketAt k) pos (if bitOf (byteAt bs 8) 0 then rowOf bs else {}) :=
  (Blk.bucketAt_setBucket ..).trans (if_pos rfl)

/-- Putting out one item for each entry of a list changes what is put out alone. -/
theorem foldl_put_frame {α : Type} (g : α → Emit) (l : List α) (c : Blk) : FrameM 0x8 c (l.foldl (fun c x => c.put (g x)) c) :=
  .foldI (fun _ _ => Blk.put_frame ..) (of_eq_true (FrameM.refl _ c))

/-- The leader owes a copy anew: nothing of it is held. -/
theorem Blk.copySend_twin (b : Blk) : b.copySend.twin = { b.twin with mirrorSync := false, queue := 0, creditAt := b.up } :=
  (foldl_put_frame ..).same .twin rfl

theorem Blk.mirrorResync_leader (hattached : b.twin.attached = true) (hrole : b.twin.role = 1) :
    b.mirrorResync = (b.copySend.inc C.TWN_RESYNC).recTwin 0xB 0 := by
  rw [Blk.mirrorResync, if_pos hattached, if_pos hrole]

theorem Blk.mirrorResync_frame_leader (hattached : b.twin.attached = true) (hrole : b.twin.role = 1) : FrameM 0x200020028 b b.mirrorResync := by
  rw [Blk.mirrorResync_leader hattached hrole]
  exact ((b.copySend_frame.mono rfl).trans ((Blk.inc_frame ..).mono rfl)).trans ((Blk.recTwin_frame ..).mono rfl)

theorem Blk.mirrorResync_twin (hattached : b.twin.attached = true) (hrole : b.twin.role = 1) :
    b.mirrorResync.twin = { b.twin with mirrorSync := false, queue := 0, creditAt := b.up } := by
  have hafter : FrameM 0x20028 b.copySend b.mirrorResync := by
    rw [Blk.mirrorResync_leader hattached hrole]
    exact ((Blk.inc_frame ..).mono rfl).trans ((Blk.recTwin_frame ..).mono rfl)
  exact (hafter.same .twin rfl).trans b.copySend_twin

theorem Blk.mirrorResync_counts (hattached : b.twin.attached = true) (hrole : b.twin.role = 1) :
    tget 0 b.mirrorResync.ctr C.TWN_RESYNC = (tget 0 b.ctr C.TWN_RESYNC + 1) % 0x10000000000000000 := by
  have hcopy : b.copySend.ctr = b.ctr := b.copySend_frame.same .ctr rfl
  have hrec : b.mirrorResync.ctr = (b.copySend.inc C.TWN_RESYNC).ctr := by
    rw [Blk.mirrorResync_leader hattached hrole]
    exact (Blk.recTwin_frame ..).same .ctr rfl
  rw [hrec, ← hcopy]
  exact tget_tput_self ..

/-- A credit of the follower has returned. -/
def Blk.credited (b : Blk) : Blk := { b with twin := { b.twin with queue := b.twin.queue - 1, creditAt := b.up } }

/-- The copy is complete, and no change waits. -/
def Blk.synced (b : Blk) : Blk := { b with twin := { b.twin with mirrorSync := true, queue := 0 } }

/-! ### Markers (12 R334) -/

/-- The block once its marker has departed. -/
def Blk.marked (b : Blk) : Blk := b.put (.welt weltMarker (leB 1 b.mode.code ++ leB 1 b.twinStatus8 ++ timeB b.ins.now
  ++ match b.twin.rxMark with | some x => timeB x.1.toNat | none => []))

/-- What is put out stands before what was there. -/
theorem out_foldl_put {α : Type} (g : α → Emit) (l : List α) (c : Blk) : ∃ xs, (l.foldl (fun c x => c.put (g x)) c).out = xs ++ c.out := by
  induction l generalizing c with
  | nil => exact ⟨[], rfl⟩
  | cons x l ih =>
    obtain ⟨xs, hxs⟩ := ih (c.put (g x))
    exact ⟨xs ++ [g x], by rw [List.foldl_cons, hxs, List.append_assoc]; rfl⟩

/-- After the marker the sessions follow, or nothing; then its departure is kept. -/
theorem Blk.markerTx_departs (b : Blk) : ∃ c, FrameM 0x8 b.marked c ∧ (∃ xs, c.out = xs ++ b.marked.out)
    ∧ b.markerTx = { c with twin := { c.twin with txMark := some (b.ins.now : Int) } } := by
  unfold Blk.markerTx
  dsimp only
  split_ifs
  · exact ⟨_, foldl_put_frame (fun s => .mirror (mirrorSess b.up s)) b.ptp.sess b.marked, out_foldl_put .., rfl⟩
  · exact ⟨b.marked, of_eq_true (FrameM.refl ..), ⟨[], rfl⟩, rfl⟩

theorem Blk.markerTx_twin (b : Blk) : b.markerTx.twin = { b.twin with txMark := some (b.ins.now : Int) } := by
  obtain ⟨c, hframe, -, hx⟩ := b.markerTx_departs
  have htwin : c.twin = b.twin := hframe.same .twin rfl
  rw [hx, htwin]

theorem Blk.markerTx_out (b : Blk) :
    ∃ l x, b.markerTx.out = l ++ .welt weltMarker (leB 1 b.mode.code ++ leB 1 b.twinStatus8 ++ timeB b.ins.now ++ x) :: b.out := by
  obtain ⟨c, -, ⟨xs, hxs⟩, hx⟩ := b.markerTx_departs
  exact ⟨xs, _, (congrArg Blk.out hx).trans hxs⟩

/-- The twin after a marker of the peer has arrived. -/
def Blk.twinHeard (b : Blk) (age mode status : Nat) : Twin :=
  { b.twin with peerMode := mode, peerStatus := status, peerTrack := bitOf status 4, rxMark := some ((b.ins.now : Int) - age, b.ins.stepSum) }

section
variable (age mode status : Nat) (t1 t4 : Int) {have4 : Bool}

theorem Blk.markerRx_noted (h : b.twin.role ≠ 2 ∨ have4 = false ∨ b.twin.rxMark = none ∨ b.twin.txMark = none) :
    b.markerRx age mode status have4 t1 t4 = { b with twin := b.twinHeard age mode status } := by
  unfold Blk.markerRx
  dsimp only
  split
  · next hrx htx => exact if_neg fun ⟨hrole, hhave, _⟩ => by simp [hrole, hhave, hrx, htx] at h
  · rfl

theorem Blk.markerRx_measured {x t3 : Int} (hrole : b.twin.role = 2) (hhave : have4 = true) (hrx : b.twin.rxMark = some (x, b.ins.stepSum))
    (htx : b.twin.txMark = some t3) (hle : x ≤ t3) :
    b.markerRx age mode status have4 t1 t4 = ({ b with twin := b.twinHeard age mode status } : Blk).measured (b.twinX t1 x t3 t4) := by
  unfold Blk.markerRx
  dsimp only
  split
  · next y steps t hrx' htx' =>
    obtain ⟨rfl, rfl⟩ : x = y ∧ b.ins.stepSum = steps := by simpa using hrx.symm.trans hrx'
    obtain rfl : t3 = t := by simpa using htx.symm.trans htx'
    exact if_pos ⟨hrole, hhave, rfl, hle⟩
  · next hnone => exact absurd htx (hnone _ _ _ hrx)

end

end

/-! ### The commands -/

section
variable {s : State} {w : Nat}

section
variable (hattached : (s.blk.pass w).twin.attached = true)
include hattached

section
variable (hlink : (s.blk.pass w).twin.link = true)
include hlink

theorem exec_mirrorApply_follower (hrole : (s.blk.pass w).twin.role = 2) (item : Mirror) : exec (.mirrorApply w item) s
    = .next { s with blk := Blk.settle s.blk (((s.blk.pass w).mirrorApply item).put (.welt weltCredit [])) } := by
  change execMirrorApply w item s = _
  rw [execMirrorApply, State.upd, if_neg (by rw [hattached, hlink]; decide), if_pos hrole]

theorem exec_mirrorApply_credit (hrole : (s.blk.pass w).twin.role ≠ 2) (item : Mirror) : exec (.mirrorApply w item) s
    = .next { s with blk := Blk.settle s.blk (s.blk.pass w).credited } := by
  change execMirrorApply w item s = _
  rw [execMirrorApply, State.upd, if_neg (by rw [hattached, hlink]; decide), if_neg hrole, Blk.credited]

section
variable (hrun : (s.blk.pass w).ins.running = true)
include hrun

theorem exec_markerTx : exec (.markerTx w) s = .next { s with blk := Blk.settle s.blk (s.blk.pass w).markerTx } := by
  change execMarkerTx w s = _
  rw [execMarkerTx, State.upd, if_pos (by simp only [hattached, hlink, hrun]; rfl)]

theorem exec_markerRx (age mode status : Nat) (have4 : Bool) (t1 t4 : Int) : exec (.markerRx w age mode status have4 t1 t4) s
    = .next { s with blk := Blk.settle s.blk ((s.blk.pass w).markerRx age mode status have4 t1 t4) } := by
  change execMarkerRx w age mode status have4 t1 t4 s = _
  rw [execMarkerRx, State.upd, if_pos (by simp only [hattached, hlink, hrun]; rfl)]

end

end

section
variable (hrole : (s.blk.pass w).twin.role = 1)
include hrole

theorem exec_mirrorCreditTimeout {full : Bool}
    (h : full = true ∨ (s.blk.pass w).twin.queue ≠ 0 ∧ (s.blk.pass w).twin.creditAt + (s.blk.pass w).creditU ≤ (s.blk.pass w).up) :
    exec (.mirrorCreditTimeout w full) s = .next { s with blk := Blk.settle s.blk (s.blk.pass w).mirrorResync } := by
  change execMirrorCreditTimeout w full s = _
  rw [execMirrorCreditTimeout, State.upd, if_pos (by rw [hattached, hrole]; simpa using h)]

theorem exec_mirrorSync : exec (.mirrorSync w) s = .next { s with blk := Blk.settle s.blk (s.blk.pass w).synced } := by
  change execMirrorSync w s = _
  rw [execMirrorSync, State.upd, if_pos (by rw [hattached, hrole]; rfl), Blk.synced]

end

end

theorem exec_mirrorApply_idle (h : (s.blk.pass w).twin.attached = false ∨ (s.blk.pass w).twin.link = false) (item : Mirror) :
    exec (.mirrorApply w item) s = .next { s with blk := Blk.settle s.blk (s.blk.pass w) } := by
  change execMirrorApply w item s = _
  rw [execMirrorApply, State.upd, if_pos (by rcases h with h | h <;> rw [h] <;> simp only [Bool.not_false, Bool.true_or, Bool.or_true])]

section
variable (hrole : (s.blk.pass w).twin.role ≠ 1)
include hrole

theorem exec_mirrorCreditTimeout_idle (full : Bool) : exec (.mirrorCreditTimeout w full) s = .next { s with blk := Blk.settle s.blk (s.blk.pass w) } := by
  change execMirrorCreditTimeout w full s = _
  rw [execMirrorCreditTimeout, State.upd, if_neg (by rw [beq_false_of_ne hrole, Bool.and_false]; exact Bool.false_ne_true)]

theorem exec_mirrorSync_idle : exec (.mirrorSync w) s = .next { s with blk := Blk.settle s.blk (s.blk.pass w) } := by
  change execMirrorSync w s = _
  rw [execMirrorSync, State.upd, if_neg (by rw [beq_false_of_ne hrole, Bool.and_false]; exact Bool.false_ne_true)]

end

section
variable {r : Nat} {d : Desc} (h : Ready (s.blk.pass w) r d 0x40) (hwelt : (s.blk.pass w).part.variant.welt = true)
include h hwelt

theorem exec_twinSwitchover (hsub : byteAt d.data 8 = 3) : exec (.twinSwitchover w r) s
    = .next { s with blk := Blk.settle s.blk (((s.blk.pass w).beginDesc r d).switchover ⟨r, d.id⟩ d.data) } := by
  change execTwinSwitchover w r s = _
  rw [execTwinSwitchover, State.upd, Blk.twinCmd_of_ready h (by simp [hsub]) _ hwelt]

section
variable (hsub : byteAt d.data 8 = 4) {blk : Bytes}
include hsub

theorem exec_twinSetKey {k : Bytes} (hk : (s.blk.pass w).newKey r blk = some k) : exec (.twinSetKey w r blk) s
    = .next { s with nvm := { s.nvm with kp := some k }, blk := Blk.settle s.blk (((s.blk.pass w).beginDesc r d).complete ⟨r, d.id⟩ stOk []) } := by
  change execTwinSetKey w r blk s = _
  simp only [execTwinSetKey, State.updN, hk, Blk.twinCmd_of_ready h (p := fun x => x == 4) (beq_iff_eq.mpr hsub) _ hwelt]
  rfl

theorem exec_twinSetKey_refused (hk : (s.blk.pass w).newKey r blk = none) : exec (.twinSetKey w r blk) s
    = .next { s with blk := Blk.settle s.blk (((s.blk.pass w).beginDesc r d).complete ⟨r, d.id⟩ stDenied []) } := by
  change execTwinSetKey w r blk s = _
  simp only [execTwinSetKey, State.updN, hk, Blk.twinCmd_of_ready h (p := fun x => x == 4) (beq_iff_eq.mpr hsub) _ hwelt]
  rfl

end

theorem exec_twinResetPeer (hsub : byteAt d.data 8 = 5) : exec (.twinResetPeer w r) s
    = .next { s with blk := Blk.settle s.blk (((s.blk.pass w).beginDesc r d).resetPeer ⟨r, d.id⟩) } := by
  change execTwinResetPeer w r s = _
  rw [execTwinResetPeer, State.upd, Blk.twinCmd_of_ready h (by simp [hsub]) _ hwelt, Blk.resetPeer]

theorem exec_twinStatus (hsub : byteAt d.data 8 = 6) : exec (.twinStatus w r) s
    = .next { s with blk := Blk.settle s.blk (((s.blk.pass w).beginDesc r d).complete ⟨r, d.id⟩ stOk (s.blk.pass w).twin.statusBytes) } := by
  change execTwinStatus w r s = _
  rw [execTwinStatus, State.upd, Blk.twinCmd_of_ready h (by simp [hsub]) _ hwelt, Blk.beginDesc_twin, if_neg (not_not_intro hsub), Twin.statusBytes]

end

end

/-- Settles O58: each clause is the branch of its command that its hypotheses select. -/
theorem mirrorMarkersAndTwinCommands : Obligations.MirrorMarkersAndTwinCommands := by
  intro s w r age mode status full have4 t1 t4 item blk d b c t
  refine ⟨fun ha hl hr => ?applies, fun ha hl hr => ?credit, fun h => ?unapplied, fun ha hr h => ?anew, fun hr => ?notLeader, fun ha hr => ?synced,
    fun hr => ?unsynced, fun ha hl hrun => ?departs, fun ha hl hrun => ⟨fun h => ?heard, fun x t3 hr hhave hrx htx hle => ?measured⟩,
    fun h hsub hwelt => ⟨fun hno => ?noSwitch, fun ha hr htrack hforce => ?untracked, fun ha hr hmay hchange hreq => ?switches⟩,
    fun h hsub hwelt => ⟨fun k hm hk => ?setsKey, fun hno => ?noKey⟩, fun h hsub hwelt => ⟨fun ha hok => ?resets, fun hno => ?noReset⟩,
    fun h hsub hwelt => ?status⟩
  case applies =>
    have hframe : FrameM 0x7fdffbfbc b ((b.mirrorApply item).put (.welt weltCredit [])) := (b.mirrorApply_frame item).trans ((Blk.put_frame ..).mono rfl)
    refine answers_of_eq (exec_mirrorApply_follower ha hl hr item) rfl hframe rfl ⟨rfl, ?_, ?_, ?_, ?_, ?_⟩
    · rintro k rfl; rfl
    · rintro k rfl; rfl
    · rintro k pos bs rfl; exact b.mirrorApply_row k pos bs
    · rintro rfl; rfl
    · rintro rfl; rfl
  case credit => exact answers_of_eq (exec_mirrorApply_credit ha hl hr item) rfl (FrameM.upd_twin b) rfl rfl
  case unapplied => exact answers_idle (exec_mirrorApply_idle h item) rfl
  case anew =>
    exact answers_of_eq (exec_mirrorCreditTimeout ha hr h) rfl (Blk.mirrorResync_frame_leader ha hr) rfl
      ⟨Blk.mirrorResync_twin ha hr, Blk.mirrorResync_counts ha hr⟩
  case notLeader => exact answers_idle (exec_mirrorCreditTimeout_idle hr full) rfl
  case synced => exact answers_of_eq (exec_mirrorSync ha hr) rfl (FrameM.upd_twin b) rfl rfl
  case unsynced => exact answers_idle (exec_mirrorSync_idle hr) rfl
  case departs => exact answers_of_eq (exec_markerTx ha hl hrun) rfl b.markerTx_frame rfl ⟨b.markerTx_twin, b.markerTx_out⟩
  case heard =>
    exact answers_of_eq (exec_markerRx ha hl hrun age mode status have4 t1 t4) (Blk.markerRx_noted age mode status t1 t4 h) (FrameM.upd_twin b) rfl rfl
  case measured =>
    have hx := Blk.markerRx_measured age mode status t1 t4 hr hhave hrx htx hle
    exact answers_of_eq (exec_markerRx ha hl hrun age mode status have4 t1 t4) hx (hx ▸ Blk.markerRx_frame ..) rfl rfl
  case noSwitch =>
    exact completes_only (exec_twinSwitchover h hwelt hsub) (Blk.switchover_denied (by rw [b.beginDesc_twin]; exact hno) _)
  case untracked =>
    have htwin := b.beginDesc_twin r d
    exact completes_only (exec_twinSwitchover h hwelt hsub) (Blk.switchover_untracked (htwin ▸ ha) (htwin ▸ hr) (htwin ▸ htrack) hforce _)
  case switches =>
    have htwin := b.beginDesc_twin r d
    have hbegun := b.beginDesc_frame r d
    have hchange' : (b.beginDesc r d).roleChange = false := by rw [Blk.roleChange, htwin]; exact hchange
    have hx := Blk.switchover_begins (d := d.data) (htwin ▸ ha) (htwin ▸ hr) (htwin ▸ hmay) hchange' ((hbegun.same .modeReq rfl).trans hreq) ⟨r, d.id⟩
    refine answers_of_eq (exec_twinSwitchover h hwelt hsub) hx ((hbegun.mono rfl).trans ((FrameM.upd_twin _).mono rfl)) rfl ?_
    rw [htwin]
  case setsKey =>
    have hnew : b.newKey r blk = some k := (Blk.newKey_of_ready h hsub hwelt blk).trans ((if_pos hm).trans hk)
    have hframe : FrameM 0x400090008 b (c.complete ⟨r, d.id⟩ stOk []) := ((b.beginDesc_frame r d).mono rfl).trans (Blk.complete_frame ..)
    exact ⟨_, exec_twinSetKey h hwelt hsub hnew, .of_pieceBits hframe rfl, rfl⟩
  case noKey =>
    have hnew : b.newKey r blk = none := by
      rw [Blk.newKey_of_ready h hsub hwelt blk]
      split
      · next hm => exact hno.resolve_left (not_not_intro hm)
      · rfl
    exact completes_only (exec_twinSetKey_refused h hwelt hsub hnew) rfl
  case resets =>
    have htwin := b.beginDesc_twin r d
    refine completes_of (exec_twinResetPeer h hwelt hsub) (Blk.resetPeer_sent (htwin ▸ ha) (htwin ▸ hok) _) (.of_pieceBits (Blk.put_frame ..) rfl) rfl ?_
    have hout : c.out = b.out := (b.beginDesc_frame r d).same .out rfl
    exact congrArg (Emit.welt weltReset [] :: ·) hout
  case noReset =>
    exact completes_only (exec_twinResetPeer h hwelt hsub) (Blk.resetPeer_denied (by rw [b.beginDesc_twin]; exact hno) _)
  case status => exact completes_only (exec_twinStatus h hwelt hsub) rfl

end Sys2Proof.Machine
end

section
/-! The twin attaches and detaches (12 R327 to R330, R339, R341). -/

namespace Sys2Proof.Machine

/-! ### What entering a mode leaves (02 R26, 07 R159, 12 R323) -/

section
variable (b : Blk) {g : BF} (hg : g.off < 0x10000)
include hg

theorem Blk.rd_linkFall (p : Nat) : (b.linkFall p).rd g = b.rd g := by
  by_cases h : (b.portOf p).link = true
  · have hevent : g.off ≠ (R.PRT_STATUS_LINK_EVENT p).off := by simp only [R.PRT_STATUS_LINK_EVENT, R.PRT_STATUS]; omega
    have hwake : g.off ≠ (R.PRT_LPI_TW_TX p).off := by simp only [R.PRT_LPI_TW_TX, R.PRT_LPI]; omega
    rw [(Blk.linkFall_after h).rd rfl, Blk.linkFallen, (Blk.recLink_frame ..).rd rfl, Blk.rd_wr_off _ _ _ _ hwake, Blk.setF, Blk.rd_wr_off _ _ _ _ hevent]
    rfl
  · exact congrArg (Blk.rd · g) (if_pos (by simpa using h))

theorem Blk.rd_linksSync : b.linksSync.rd g = b.rd g := by
  unfold Blk.linksSync
  refine foldl_keeps (v := (Blk.rd · g)) (fun c p _ => ?_) b
  split
  · exact c.rd_linkFall hg p
  · rfl

theorem Blk.rd_modeEnter (m : Mode) (cause : Nat) : (b.modeEnter m cause).rd g = b.rd g := by
  have hentered (v : Refs) : (Blk.linksSync { b.changeMode m cause with refs := v }).refsSettle.rd g = b.rd g := by
    rw [(Blk.refsSettle_frame _).rd rfl, Blk.rd_linksSync _ hg]
    exact (b.changeMode_frame m cause).rd rfl g
  unfold Blk.modeEnter
  dsimp only
  split <;> split
  · exact hentered _
  · exact ((FrameM.upd_refs _).rd rfl g).trans (hentered _)
  · exact hentered _
  · exact ((FrameM.upd_refs _).rd rfl g).trans (hentered _)

end

/-- Entering a mode leaves the twin but for its link. -/
theorem Blk.modeEnter_twin (b : Blk) (m : Mode) (cause : Nat) : (b.modeEnter m cause).twin = { b.twin with link := b.twin.link && m.serving } :=
  ((b.modeEnter_after m cause).same .twin rfl).trans ((Blk.route_frame ..).same .twin rfl)

/-! ### EN[11] -/

theorem putBit_false (v i : Nat) : putBit v i false = v - (v &&& 2 ^ i) := by
  have hand : v &&& 2 ^ i = if v.testBit i then 2 ^ i else 0 := by
    cases h : v.testBit i <;> simp [Nat.and_two_pow, h]
  rw [putBit, hand, bitOf_eq_testBit]
  cases v.testBit i <;> rfl

theorem bitOf_putBit_false (v i : Nat) : bitOf (putBit v i false) i = false := by
  rw [putBit_false, bitOf_eq_testBit, testBit_sub_and, Nat.testBit_two_pow_self]
  exact Bool.and_false _

/-- EN[11] written reads as written. -/
theorem Blk.featTwin_wr (b : Blk) (v : Nat) : bitOf ((b.wr R.RST_FEATURE_EN v).rd R.RST_FEATURE_EN) featTwin = bitOf v featTwin := by
  rw [Blk.rd_wr_self _ _ _ (by decide), bitOf_eq_testBit, bitOf_eq_testBit]
  exact (Nat.testBit_mod_two_pow v 13 11).trans (Bool.true_and _)

/-! ### Leaving the pair (12 R341) -/

/-- What has become of the block once it has left its pair. -/
structure LeftPair (b u : Blk) : Prop where
  attached : u.twin.attached = false
  role : u.twin.role = 0
  claim : u.twin.claimOut = false
  feature : bitOf (u.rd R.RST_FEATURE_EN) featTwin = false
  follower : b.mode = .follower → u.mode = .acquire ∧ u.entryCause = 7
  other : b.mode ≠ .follower → u.mode = b.mode

/-- Nothing of it is undone by what leaves the twin, the registers and the mode. -/
theorem LeftPair.after {b u v : Blk} (h : LeftPair b u) {m : Nat} (k : FrameM m u v) (htwin : m.testBit Piece.twin.ctorIdx = false)
    (hregs : m.testBit Piece.regs.ctorIdx = false) (hmode : m.testBit Piece.mode.ctorIdx = false) (hcause : m.testBit Piece.entryCause.ctorIdx = false) :
    LeftPair b v := by
  have hmode : v.mode = u.mode := k.same .mode hmode
  have htwin : v.twin = u.twin := k.same .twin htwin
  have hcause : v.entryCause = u.entryCause := k.same .entryCause hcause
  obtain ⟨hattached, hrole, hclaim, hfeature, hfollower, hother⟩ := h
  exact ⟨htwin ▸ hattached, htwin ▸ hrole, htwin ▸ hclaim, (k.rd hregs _).symm ▸ hfeature, hmode ▸ hcause ▸ hfollower, hmode ▸ hother⟩

section
variable (b : Blk)

/-- The block without its EN[11], its role and its claim. -/
def Blk.unpaired : Blk :=
  let c := if b.twin.role = 1 then b.sealTwin else b
  (c.wr R.RST_FEATURE_EN (putBit (c.rd R.RST_FEATURE_EN) featTwin false)).twinLeave

/-- The block as the pair ends, before a follower changes its mode. -/
def Blk.pairLeft : Blk := if b.twin.attached then b.unpaired.recTwin 8 0 else b.unpaired

theorem Blk.detached_ends : b.detached = if b.pairLeft.mode == .follower then b.pairLeft.modeEnter .acquire 7 else b.pairLeft := rfl

theorem Blk.unpaired_left : b.unpaired.twin.attached = false ∧ b.unpaired.twin.role = 0 ∧ b.unpaired.twin.claimOut = false
    ∧ bitOf (b.unpaired.rd R.RST_FEATURE_EN) featTwin = false ∧ b.unpaired.mode = b.mode := by
  have hseal : FrameM 0x488290028 b (if b.twin.role = 1 then b.sealTwin else b) := by
    split
    · exact b.sealTwin_frame
    · exact of_eq_true (FrameM.refl ..)
  unfold Blk.unpaired
  generalize (if b.twin.role = 1 then b.sealTwin else b) = c at hseal
  have hleave : FrameM 0x200000010 c (c.wr R.RST_FEATURE_EN (putBit (c.rd R.RST_FEATURE_EN) featTwin false)).twinLeave :=
    ((Blk.wr_frame ..).mono rfl).trans ((Blk.twinLeave_frame _).mono rfl)
  refine ⟨rfl, rfl, rfl, ?_, (hleave.same .mode rfl).trans (hseal.same .mode rfl)⟩
  rw [(Blk.twinLeave_frame _).rd rfl, Blk.featTwin_wr]
  exact bitOf_putBit_false ..

theorem Blk.pairLeft_after : FrameM 0x20008 b.unpaired b.pairLeft := by
  unfold Blk.pairLeft
  split
  · exact Blk.recTwin_frame ..
  · exact of_eq_true (FrameM.refl ..)

theorem Blk.pairLeft_left : b.pairLeft.twin.attached = false ∧ b.pairLeft.twin.role = 0 ∧ b.pairLeft.twin.claimOut = false
    ∧ bitOf (b.pairLeft.rd R.RST_FEATURE_EN) featTwin = false ∧ b.pairLeft.mode = b.mode := by
  obtain ⟨hattached, hrole, hclaim, hfeature, hmode⟩ := b.unpaired_left
  have htwin : b.pairLeft.twin = b.unpaired.twin := b.pairLeft_after.same .twin rfl
  have hrd : b.pairLeft.rd R.RST_FEATURE_EN = b.unpaired.rd R.RST_FEATURE_EN := b.pairLeft_after.rd rfl _
  exact ⟨htwin ▸ hattached, htwin ▸ hrole, htwin ▸ hclaim, hrd ▸ hfeature, (b.pairLeft_after.same .mode rfl).trans hmode⟩

theorem Blk.detached_left : LeftPair b b.detached := by
  obtain ⟨hattached, hrole, hclaim, hfeature, hmode⟩ := b.pairLeft_left
  rw [Blk.detached_ends]
  split
  · next h =>
    have hfollower : b.mode = .follower := hmode.symm.trans (beq_iff_eq.mp h)
    have htwin := b.pairLeft.modeEnter_twin .acquire 7
    obtain ⟨hacquire, -, hcause⟩ := b.pairLeft.modeEnter_modes .acquire 7
    refine ⟨htwin ▸ hattached, htwin ▸ hrole, htwin ▸ hclaim, ?_, fun _ => ⟨hacquire, hcause⟩, fun hne => absurd hfollower hne⟩
    rw [b.pairLeft.rd_modeEnter (by decide)]
    exact hfeature
  · next h =>
    have hne : b.mode ≠ .follower := fun hf => h (beq_iff_eq.mpr (hmode.trans hf))
    exact ⟨hattached, hrole, hclaim, hfeature, fun hf => absurd hf hne, fun _ => hmode⟩

theorem Blk.detach_left : LeftPair b b.detach := by
  have hput : FrameM 0x8 b (if b.twin.attached && b.twin.link then b.put (.welt weltDetach []) else b) := by
    split
    · exact Blk.put_frame ..
    · exact of_eq_true (FrameM.refl ..)
  have hmode : _ = b.mode := hput.same .mode rfl
  obtain ⟨hattached, hrole, hclaim, hfeature, hfollower, hother⟩ := Blk.detached_left (if b.twin.attached && b.twin.link then b.put (.welt weltDetach []) else b)
  exact ⟨hattached, hrole, hclaim, hfeature, hmode ▸ hfollower, hmode ▸ hother⟩

end

/-! ### An attempt (12 R327, R328) -/

/-- The block after HELLO and PROOF have crossed: only what is drawn, put out, and known of the peer has changed. -/
def Blk.greeted (b : Blk) (out : List Emit) (serial : Nat) : Blk :=
  { b with freeCtr := b.freeCtr + 16, out := out, twin := { b.twin with peerSerial := serial } }

/-- How an attempt ends, its checks made. -/
def Blk.attemptEnds (b : Blk) (code : Option Nat) (nonce : Bytes) : Option Bytes → Option TwinPeer → Blk
  | some k, some x => match code with | none => b.attachDone k nonce x | some m => b.attachFail m
  | _, _ => match code with | none => b | some m => b.attachFail m

section
variable {b : Blk} {kp : Option Bytes} {deployed : Bool} {peer : Option TwinPeer}

theorem Blk.attempt_ends : ∃ out serial, (∀ x, peer = some x → serial = x.serial) ∧ b.attempt kp deployed peer
    = (b.greeted out serial).attemptEnds (b.attachCode kp deployed (freeBytes 16 b.freeCtr) peer) (freeBytes 16 b.freeCtr) kp peer := by
  cases kp with
  | none =>
    cases peer with
    | none => exact ⟨.welt weltHello (freeBytes 16 b.freeCtr) :: b.out, b.twin.peerSerial, nofun, rfl⟩
    | some x => exact ⟨.welt weltHello (freeBytes 16 b.freeCtr) :: b.out, x.serial, fun _ h => by rw [Option.some.inj h], rfl⟩
  | some k =>
    cases peer with
    | none => exact ⟨.welt weltHello (freeBytes 16 b.freeCtr) :: b.out, b.twin.peerSerial, nofun, rfl⟩
    | some x =>
      refine ⟨.welt weltProof (attachProof k (b.rd R.TWN_CFG_SIDE) (if b.rd R.TWN_CFG_SIDE = 0 then freeBytes 16 b.freeCtr else x.nonce)
        (if b.rd R.TWN_CFG_SIDE = 0 then x.nonce else freeBytes 16 b.freeCtr) b.ownDigest) :: .welt weltHello (freeBytes 16 b.freeCtr) :: b.out,
        x.serial, fun _ h => by rw [Option.some.inj h], ?_⟩
      unfold Blk.attempt
      dsimp only
      split
      · next k' x' hnone hk hx =>
        obtain rfl : k = k' := Option.some.inj hk
        obtain rfl : x = x' := Option.some.inj hx
        have hcode : b.attachCode (some k) deployed (freeBytes 16 b.freeCtr) (some x) = none := hnone
        rw [hcode]
        rfl
      · next m hsome =>
        have hcode : b.attachCode (some k) deployed (freeBytes 16 b.freeCtr) (some x) = some m := hsome
        rw [hcode]
        rfl
      · next hnone hsome => exact (hsome k x (Option.eq_none_iff_forall_ne_some.mpr hnone) rfl rfl).elim

theorem Blk.attempt_fails {m : Nat} (h : b.attachCode kp deployed (freeBytes 16 b.freeCtr) peer = some m) :
    ∃ out serial, b.attempt kp deployed peer = (b.greeted out serial).attachFail m := by
  obtain ⟨out, serial, -, hends⟩ := b.attempt_ends (kp := kp) (deployed := deployed) (peer := peer)
  rw [h] at hends
  exact ⟨out, serial, hends.trans (by cases kp <;> cases peer <;> rfl)⟩

theorem Blk.attempt_passes {k : Bytes} {x : TwinPeer} (h : b.attachCode (some k) deployed (freeBytes 16 b.freeCtr) (some x) = none) :
    ∃ out, b.attempt (some k) deployed (some x) = (b.greeted out x.serial).attachDone k (freeBytes 16 b.freeCtr) x := by
  obtain ⟨out, serial, hserial, hends⟩ := b.attempt_ends (kp := some k) (deployed := deployed) (peer := some x)
  rw [h, hserial x rfl] at hends
  exact ⟨out, hends⟩

end

/-- What a failed attempt notes: its code, when the next may run, the failures of the proof in a row, and whether AUTO stops. -/
theorem Blk.attachFail_twin (b : Blk) (m : Nat) : (b.attachFail m).twin = { b.twin with
    attFail := m, proofFails := (if m = 1 then b.twin.proofFails + 1 else 0), retryAt := b.up + secU 10
    autoStop := b.twin.autoStop || decide (5 ≤ if m = 1 then b.twin.proofFails + 1 else 0) } :=
  (Blk.recTwin_frame ..).same .twin rfl

theorem Blk.greeted_frame (b : Blk) (out : List Emit) (serial : Nat) : FrameM 0x20000000c b (b.greeted out serial) := by
  have hdrawn : FrameM 0x20000000c b (b.draw 16) := (Blk.draw_frame ..).mono rfl
  exact hdrawn.trans ((FrameM.upd_out_twin _).mono rfl)

/-! ### Roles (12 R329, R330, R335) -/

/-- The twin of a module that leads from now on. -/
def Twin.leads (t : Twin) : Twin := { t with role := 1, claimOut := true, track := false, trackRun := 0, failAt := none, lostAt := none }

/-- The twin of a module that follows from now on. -/
def Twin.follows (t : Twin) (pool : Nat) : Twin :=
  { t with role := 2, claimOut := false, track := false, trackRun := 0, handed := false, failAt := none, lostAt := none, poolIdx := some pool }

section
variable (b : Blk)

/-- The block that leads, in the mode of a takeover. -/
def Blk.ledFrom : Blk := Blk.modeEnter { b with twin := b.twin.leads } b.takeoverMode 6

theorem Blk.leadFrom_after : FrameM 0x20008 b.ledFrom b.leadFrom := by
  unfold Blk.leadFrom
  dsimp only
  split
  · exact Blk.recHold_frame ..
  · exact of_eq_true (FrameM.refl ..)

theorem Blk.leadFrom_modes : b.leadFrom.mode = b.takeoverMode ∧ b.leadFrom.lastMode = b.mode ∧ b.leadFrom.entryCause = 6 := by
  obtain ⟨hmode, hlast, hcause⟩ := Blk.modeEnter_modes { b with twin := b.twin.leads } b.takeoverMode 6
  exact ⟨(b.leadFrom_after.same .mode rfl).trans hmode, (b.leadFrom_after.same .lastMode rfl).trans hlast,
    (b.leadFrom_after.same .entryCause rfl).trans hcause⟩

theorem Blk.leadFrom_twin : b.leadFrom.twin = { b.twin.leads with link := b.twin.link && b.takeoverMode.serving } :=
  (b.leadFrom_after.same .twin rfl).trans (Blk.modeEnter_twin ..)

/-- The block that follows, before it changes its mode. -/
def Blk.followed : Blk := { b.sealTwin with twin := b.sealTwin.twin.follows b.sealTwin.poolIdx }

theorem Blk.toFollower_ends : b.toFollower = if b.followed.mode = .follower then b.followed else b.followed.modeEnter .follower 5 := rfl

theorem Blk.toFollower_mode : b.toFollower.mode = .follower := by
  rw [Blk.toFollower_ends]
  split
  · next h => exact h
  · exact (b.followed.modeEnter_modes .follower 5).1

/-- A module that follows keeps what it knows of the pair; its link stands where FOLLOWER is entered as before. -/
theorem Blk.toFollower_twin : ∃ pool link, b.toFollower.twin = { b.twin.follows pool with link := link } := by
  have htwin : b.sealTwin.twin = b.twin := b.sealTwin_frame.same .twin rfl
  have hfollowed : b.followed.twin = b.twin.follows b.sealTwin.poolIdx := by rw [Blk.followed, htwin]
  rw [Blk.toFollower_ends]
  split
  · exact ⟨_, _, hfollowed⟩
  · exact ⟨_, _, (Blk.modeEnter_twin ..).trans (by rw [hfollowed])⟩

end

/-- What a role that has been taken leaves of the pair. -/
structure RoleTaken (b u : Blk) (elected : Bool) : Prop where
  attached : u.twin.attached = b.twin.attached
  attachRef : u.twin.attachRef = b.twin.attachRef
  serial : u.twin.peerSerial = b.twin.peerSerial
  role : u.twin.role = if elected then 1 else 2
  follower : elected = false → u.mode = .follower ∧ u.ct.rows = []

/-- The block that leads as elected, before its copy is sent. -/
def Blk.electedLeader (b : Blk) : Blk :=
  if b.mode = .follower then b.leadFrom else { b with twin := { b.twin with role := 1, claimOut := true } }

/-- The block without client rows. -/
def Blk.rowsGone (b : Blk) : Blk := { b with ct := { b.ct with rows := [] } }

section
variable {b : Blk} {x : TwinPeer}

theorem Blk.attachRole_leads (h : b.elected x = true) : b.attachRole x = (b.electedLeader.recTwin 5 0).copySend := if_pos h

theorem Blk.attachRole_follows (h : b.elected x = false) : b.attachRole x = b.rowsGone.toFollower.recTwin 6 0 := if_neg (by simp [h])

end

section
variable (b : Blk)

theorem Blk.electedLeader_twin : b.electedLeader.twin.attached = b.twin.attached ∧ b.electedLeader.twin.attachRef = b.twin.attachRef
    ∧ b.electedLeader.twin.peerSerial = b.twin.peerSerial ∧ b.electedLeader.twin.role = 1 := by
  unfold Blk.electedLeader
  split
  · rw [b.leadFrom_twin]; exact ⟨rfl, rfl, rfl, rfl⟩
  · exact ⟨rfl, rfl, rfl, rfl⟩

theorem Blk.attachRole_taken (x : TwinPeer) : RoleTaken b (b.attachRole x) (b.elected x) := by
  cases h : b.elected x with
  | true =>
    obtain ⟨hattached, href, hserial, hrole⟩ := b.electedLeader_twin
    have hrec : (b.electedLeader.recTwin 5 0).twin = b.electedLeader.twin := (Blk.recTwin_frame ..).same .twin rfl
    have htwin := Blk.copySend_twin (b.electedLeader.recTwin 5 0)
    rw [hrec, ← Blk.attachRole_leads h] at htwin
    exact ⟨by rw [htwin]; exact hattached, by rw [htwin]; exact href, by rw [htwin]; exact hserial, by rw [htwin]; exact hrole, nofun⟩
  | false =>
    have hrec : FrameM 0x20008 b.rowsGone.toFollower (b.attachRole x) := Blk.attachRole_follows h ▸ Blk.recTwin_frame ..
    obtain ⟨pool, link, hfollows⟩ := b.rowsGone.toFollower_twin
    have htwin : (b.attachRole x).twin = _ := (hrec.same .twin rfl).trans hfollows
    have hct : (b.attachRole x).ct = b.rowsGone.ct := (hrec.same .ct rfl).trans (b.rowsGone.toFollower_frame.same .ct rfl)
    exact ⟨by rw [htwin]; rfl, by rw [htwin]; rfl, by rw [htwin]; rfl, by rw [htwin]; rfl,
      fun _ => ⟨(hrec.same .mode rfl).trans b.rowsGone.toFollower_mode, by rw [hct, Blk.rowsGone]⟩⟩

end

theorem Blk.elected_congr {b c : Blk} (hclaim : c.twin.claimOut = b.twin.claimOut) (hmode : c.mode = b.mode) (hexpired : c.holdExpired = b.holdExpired)
    (hregs : c.regs = b.regs) (x : TwinPeer) : c.elected x = b.elected x := by
  have hrd (f : BF) : c.rd f = b.rd f := by rw [Blk.rd, Blk.rd, hregs]
  rw [Blk.elected, Blk.elected, hclaim, hmode, hexpired, hrd, hrd]

/-- The block in which the pair is attached. -/
def Blk.joining (b : Blk) (kp nonce : Bytes) (x : TwinPeer) : Blk :=
  let side := b.rd R.TWN_CFG_SIDE
  let salt := if side = 0 then nonce ++ x.nonce else x.nonce ++ nonce
  { b with twin := { b.twin with
      attached := true, linkKey := hkdf32 kp salt (ascii "KTWN-LINK"), proofFails := 0, retryAt := 0, resetOk := b.flag R.TWN_CFG_ALLOW_RESET
      peerResetOk := x.allowReset, testFails := 0, peerMode := x.mode, mirrorSync := false, txMark := none, rxMark := none, lostAt := none } }

/-- The block once the attach has been counted and told, before the roles are taken. -/
def Blk.joined (b : Blk) (kp nonce : Bytes) (x : TwinPeer) : Blk := ((b.joining kp nonce x).inc C.TWN_ATTACH).recTwin 3 0

/-- An attach that waits for its completion has it. -/
def Blk.attachAnswered (b : Blk) : Blk :=
  match b.twin.attachRef with
  | some (ref, _) => Blk.complete { b with twin := { b.twin with attachRef := none } } ref stOk []
  | none => b

section
variable (b : Blk) (kp nonce : Bytes) (x : TwinPeer)

theorem Blk.attachDone_ends : b.attachDone kp nonce x = ((b.joined kp nonce x).attachRole x).attachAnswered := rfl

theorem Blk.joined_facts : (b.joined kp nonce x).twin.attached = true ∧ (b.joined kp nonce x).twin.peerSerial = b.twin.peerSerial
    ∧ (b.joined kp nonce x).elected x = b.elected x := by
  have hrec : FrameM 0x20028 (b.joining kp nonce x) (b.joined kp nonce x) := ((Blk.inc_frame ..).mono rfl).trans ((Blk.recTwin_frame ..).mono rfl)
  have htwin : (b.joined kp nonce x).twin = (b.joining kp nonce x).twin := hrec.same .twin rfl
  rw [Blk.elected_congr (congrArg Twin.claimOut htwin) (hrec.same .mode rfl) (hrec.same .holdExpired rfl) (hrec.same .regs rfl), htwin]
  exact ⟨rfl, rfl, rfl⟩

theorem Blk.attachAnswered_twin : b.attachAnswered.twin = { b.twin with attachRef := none } := by
  unfold Blk.attachAnswered
  split
  · exact (Blk.complete_frame ..).same .twin rfl
  · next h => rw [← h]

theorem Blk.attachAnswered_frame : FrameM 0x600090008 b b.attachAnswered := by
  unfold Blk.attachAnswered
  split
  · exact ((FrameM.upd_twin b).mono rfl).trans ((Blk.complete_frame ..).mono rfl)
  · exact of_eq_true (FrameM.refl ..)

theorem Blk.attachDone_joins : (b.attachDone kp nonce x).twin.attached = true ∧ (b.attachDone kp nonce x).twin.attachRef = none
    ∧ (b.attachDone kp nonce x).twin.peerSerial = b.twin.peerSerial ∧ (b.attachDone kp nonce x).twin.role = (if b.elected x then 1 else 2)
    ∧ (b.elected x = false → (b.attachDone kp nonce x).mode = .follower ∧ (b.attachDone kp nonce x).ct.rows = []) := by
  obtain ⟨hjoined, hserial, helected⟩ := b.joined_facts kp nonce x
  obtain ⟨hattached, -, hserial', hrole, hfollower⟩ := (b.joined kp nonce x).attachRole_taken x
  have hanswered := ((b.joined kp nonce x).attachRole x).attachAnswered_frame
  rw [Blk.attachDone_ends, Blk.attachAnswered_twin]
  rw [helected] at hrole hfollower
  exact ⟨hattached.trans hjoined, rfl, hserial'.trans hserial, hrole, fun h => ⟨(hanswered.same .mode rfl).trans (hfollower h).1,
    (congrArg CTab.rows (hanswered.same .ct rfl)).trans (hfollower h).2⟩⟩

end

end Sys2Proof.Machine
end

section
/-! The commands that attach and detach a twin (12 R327 to R330, R339, R341). -/

namespace Sys2Proof.Machine

section
variable {s : State} {w : Nat}

section
variable (hmay : (s.blk.pass w).mayAttach = true) (peer : Option TwinPeer)
include hmay

theorem exec_attachAttempt (h : (s.blk.pass w).twin.attachRef.isSome = true ∨ (s.blk.pass w).flag R.TWN_CFG_AUTO = true
      ∧ (s.blk.pass w).twin.autoStop = false ∧ (s.blk.pass w).twin.retryAt = 0) :
    exec (.attachAttempt w peer) s
      = .next { s with blk := Blk.settle s.blk ((s.blk.pass w).attempt s.nvm.kp (s.nvm.lifecycle == .deployed) peer) } := by
  change execAttachAttempt w peer s = _
  rw [execAttachAttempt, State.upd, if_pos]
  rw [hmay, Bool.true_and]
  rcases h with h | ⟨hauto, hstop, hretry⟩
  · rw [h, Bool.true_or]
  · rw [hauto, hstop, hretry]; exact Bool.or_true _

theorem exec_attachRetry (hauto : (s.blk.pass w).flag R.TWN_CFG_AUTO = true) (hstop : (s.blk.pass w).twin.autoStop = false)
    (hretry : (s.blk.pass w).twin.retryAt ≠ 0) (hdue : (s.blk.pass w).twin.retryAt ≤ (s.blk.pass w).up) :
    exec (.attachRetry w peer) s
      = .next { s with blk := Blk.settle s.blk ((s.blk.pass w).attempt s.nvm.kp (s.nvm.lifecycle == .deployed) peer) } := by
  change execAttachRetry w peer s = _
  rw [execAttachRetry, State.upd, if_pos]
  rw [hmay, hauto, hstop, decide_eq_true hdue, bne_iff_ne.mpr hretry]
  rfl

end

section
variable (hmay : (s.blk.pass w).mayAttach = false) (peer : Option TwinPeer)
include hmay

theorem exec_attachAttempt_idle : exec (.attachAttempt w peer) s = .next { s with blk := Blk.settle s.blk (s.blk.pass w) } := by
  change execAttachAttempt w peer s = _
  rw [execAttachAttempt, State.upd, if_neg]
  rw [hmay]
  exact Bool.false_ne_true

theorem exec_attachRetry_idle : exec (.attachRetry w peer) s = .next { s with blk := Blk.settle s.blk (s.blk.pass w) } := by
  change execAttachRetry w peer s = _
  rw [execAttachRetry, State.upd, if_neg]
  rw [hmay]
  exact Bool.false_ne_true

end

/-- A module that may attach is not attached. -/
theorem Blk.mayAttach_not_attached {b : Blk} (h : b.mayAttach = true) : b.twin.attached = false := by
  simp only [Blk.mayAttach, Bool.and_eq_true, Bool.not_eq_true'] at h
  exact h.1.2

/-! ### An attach times out -/

/-- The attach that waits has timed out. -/
def Blk.attachLapsed (b : Blk) (ref : DRef) : Blk := Blk.complete { b with twin := { b.twin with attachRef := none } } ref stTimeout []

section
variable {ref : DRef} {x : Nat} (href : (s.blk.pass w).twin.attachRef = some (ref, x))
include href

theorem exec_attachTimeout (hdue : x + secU 10 ≤ (s.blk.pass w).up) :
    exec (.attachTimeout w) s = .next { s with blk := Blk.settle s.blk ((s.blk.pass w).attachLapsed ref) } := by
  change execAttachTimeout w s = _
  simp only [execAttachTimeout, State.upd, href]
  rw [if_pos hdue, Blk.attachLapsed]

theorem exec_attachTimeout_idle (hlive : (s.blk.pass w).up < x + secU 10) :
    exec (.attachTimeout w) s = .next { s with blk := Blk.settle s.blk (s.blk.pass w) } := by
  change execAttachTimeout w s = _
  simp only [execAttachTimeout, State.upd, href]
  rw [if_neg (by omega)]

end

/-! ### ATTACH and DETACH -/

/-- ATTACH waits. -/
def Blk.attachWaits (b : Blk) (ref : DRef) : Blk :=
  let c := b.wr R.RST_FEATURE_EN (putBit (b.rd R.RST_FEATURE_EN) featTwin true)
  { c with twin := { b.twin with attachRef := some (ref, b.up), autoStop := false, proofFails := 0 } }

theorem Blk.attachWaits_feature (b : Blk) (ref : DRef) : bitOf ((b.attachWaits ref).rd R.RST_FEATURE_EN) featTwin = true :=
  (b.featTwin_wr (putBit (b.rd R.RST_FEATURE_EN) featTwin true)).trans ((bitOf_putBit_true ..).trans (by simp))

theorem Blk.attachWaits_frame (b : Blk) (ref : DRef) : FrameM 0x200000010 b (b.attachWaits ref) :=
  ((Blk.wr_frame ..).mono rfl).trans ((FrameM.upd_twin _).mono rfl)

section
variable {r : Nat} {d : Desc} (h : Ready (s.blk.pass w) r d 0x40)
include h

section
variable (hsub : byteAt d.data 8 = 1)
include hsub

theorem exec_twinAttach_absent (hwelt : (s.blk.pass w).part.variant.welt = false) : exec (.twinAttach w r) s
    = .next { s with blk := Blk.settle s.blk (((s.blk.pass w).beginDesc r d).complete ⟨r, d.id⟩ stAbsent []) } := by
  change execTwinAttach w r s = _
  rw [execTwinAttach, State.upd, Blk.twinCmd_absent h (by simp [hsub]) _ hwelt]

section
variable (hwelt : (s.blk.pass w).part.variant.welt = true)
include hwelt

theorem exec_twinAttach_busy (hwaits : (s.blk.pass w).twin.attachRef.isSome = true) : exec (.twinAttach w r) s
    = .next { s with blk := Blk.settle s.blk (((s.blk.pass w).beginDesc r d).complete ⟨r, d.id⟩ stBusy []) } := by
  change execTwinAttach w r s = _
  rw [execTwinAttach, State.upd, Blk.twinCmd_of_ready h (by simp [hsub]) _ hwelt, Blk.beginDesc_twin, if_pos hwaits]

section
variable (hnone : (s.blk.pass w).twin.attachRef = none)
include hnone

theorem exec_twinAttach_attached (ha : (s.blk.pass w).twin.attached = true) : exec (.twinAttach w r) s
    = .next { s with blk := Blk.settle s.blk (((s.blk.pass w).beginDesc r d).complete ⟨r, d.id⟩ stOk []) } := by
  change execTwinAttach w r s = _
  rw [execTwinAttach, State.upd, Blk.twinCmd_of_ready h (by simp [hsub]) _ hwelt, Blk.beginDesc_twin, hnone, if_neg (by decide), if_pos ha]

theorem exec_twinAttach_waits (ha : (s.blk.pass w).twin.attached = false) : exec (.twinAttach w r) s
    = .next { s with blk := Blk.settle s.blk (((s.blk.pass w).beginDesc r d).attachWaits ⟨r, d.id⟩) } := by
  change execTwinAttach w r s = _
  rw [execTwinAttach, State.upd, Blk.twinCmd_of_ready h (by simp [hsub]) _ hwelt, if_neg, if_neg]
  · rfl
  · rw [Blk.beginDesc_twin, ha]; exact Bool.false_ne_true
  · rw [Blk.beginDesc_twin, hnone]; exact Bool.false_ne_true

end

end

end

section
variable (hsub : byteAt d.data 8 = 2) (hwelt : (s.blk.pass w).part.variant.welt = true)
include hsub hwelt

theorem exec_twinDetach_denied (hchange : (s.blk.pass w).roleChange = true) : exec (.twinDetach w r false) s
    = .next { s with blk := Blk.settle s.blk (((s.blk.pass w).beginDesc r d).complete ⟨r, d.id⟩ stDenied []) } := by
  change execTwinDetach w r false s = _
  rw [execTwinDetach, State.upd, if_neg Bool.false_ne_true, Blk.twinCmd_of_ready h (by simp [hsub]) _ hwelt, if_pos]
  rw [Blk.roleChange, Blk.beginDesc_twin]
  exact hchange

theorem exec_twinDetach (hchange : (s.blk.pass w).roleChange = false) : exec (.twinDetach w r false) s
    = .next { s with blk := Blk.settle s.blk (((s.blk.pass w).beginDesc r d).detach.txRetry.complete ⟨r, d.id⟩ stOk []) } := by
  change execTwinDetach w r false s = _
  rw [execTwinDetach, State.upd, if_neg Bool.false_ne_true, Blk.twinCmd_of_ready h (by simp [hsub]) _ hwelt, if_neg]
  rw [Blk.roleChange, Blk.beginDesc_twin]
  exact fun hc => Bool.false_ne_true (hchange.symm.trans hc)

end

end

theorem exec_twinDetach_peer (ha : (s.blk.pass w).twin.attached = true) (hl : (s.blk.pass w).twin.link = true) (r : Nat) :
    exec (.twinDetach w r true) s = .next { s with blk := Blk.settle s.blk (s.blk.pass w).detached.txRetry } := by
  change execTwinDetach w r true s = _
  rw [execTwinDetach, State.upd, if_pos rfl, if_pos]
  rw [ha, hl]
  rfl

end

/-- What an attempt that fails does to the twin. -/
theorem Blk.failed_attempt {b : Blk} {kp : Option Bytes} {deployed : Bool} {peer : Option TwinPeer} {m : Nat}
    (h : b.attachCode kp deployed (freeBytes 16 b.freeCtr) peer = some m) :
    FrameM 0x20002002c b (b.attempt kp deployed peer) ∧ ∃ serial, (b.attempt kp deployed peer).twin = { b.twin with
      peerSerial := serial, attFail := m, proofFails := (if m = 1 then b.twin.proofFails + 1 else 0), retryAt := b.up + secU 10
      autoStop := b.twin.autoStop || decide (5 ≤ if m = 1 then b.twin.proofFails + 1 else 0) } := by
  obtain ⟨out, serial, hx⟩ := Blk.attempt_fails h
  rw [hx, Blk.attachFail_twin]
  exact ⟨((b.greeted_frame out serial).mono rfl).trans ((Blk.attachFail_frame ..).mono rfl), serial, rfl⟩

/-- What an attempt that passes does to the pair. -/
theorem Blk.passed_attempt {b : Blk} {k : Bytes} {deployed : Bool} {x : TwinPeer}
    (h : b.attachCode (some k) deployed (freeBytes 16 b.freeCtr) (some x) = none) :
    let u := b.attempt (some k) deployed (some x);
    u.twin.attached = true ∧ u.twin.attachRef = none ∧ u.twin.peerSerial = x.serial ∧ u.twin.role = (if b.elected x then 1 else 2)
      ∧ (b.elected x = false → u.mode = .follower ∧ u.ct.rows = []) := by
  obtain ⟨out, hx⟩ := Blk.attempt_passes h
  rw [hx]
  exact (b.greeted out x.serial).attachDone_joins k _ x

/-- Settles O57: the branches of an attempt by its code, and of ATTACH and DETACH by what they meet. -/
theorem twinAttachesAndDetaches : Obligations.TwinAttachesAndDetaches := by
  intro s w r d peer b c t code
  refine ⟨fun m hcode hmay => ⟨fun hwish => ?fails, fun hauto hstop hretry hdue => ?failsAgain⟩,
    fun x k hcode hpeer hkp hmay => ⟨fun hwish => ?joins, fun hauto hstop hretry hdue => ?joinsAgain⟩,
    fun hmay => ⟨answers_idle (exec_attachAttempt_idle hmay peer) rfl, answers_idle (exec_attachRetry_idle hmay peer) rfl⟩,
    fun ref x href => ⟨fun hdue => ?lapses, fun hlive => answers_idle (exec_attachTimeout_idle href hlive) rfl⟩,
    fun h hsub => ⟨fun hwelt => completes_only (exec_twinAttach_absent h hsub hwelt) rfl, fun hwelt hwaits =>
      completes_only (exec_twinAttach_busy h hsub hwelt hwaits) rfl, fun hwelt hnone ha => completes_only (exec_twinAttach_attached h hsub hwelt hnone ha) rfl,
      fun hwelt hnone ha => ?waits⟩,
    fun h hsub hwelt => ⟨fun hchange => completes_only (exec_twinDetach_denied h hsub hwelt hchange) rfl, fun hchange => ?detaches⟩,
    fun ha hl => ?detached⟩
  case fails =>
    obtain ⟨hframe, serial, htwin⟩ := Blk.failed_attempt hcode
    refine answers_of_eq (exec_attachAttempt hmay peer hwish) rfl hframe rfl ?_
    rw [htwin]
    exact ⟨rfl, Blk.mayAttach_not_attached hmay, rfl, rfl⟩
  case failsAgain =>
    obtain ⟨hframe, serial, htwin⟩ := Blk.failed_attempt hcode
    refine answers_of_eq (exec_attachRetry hmay peer hauto hstop hretry hdue) rfl hframe rfl ?_
    rw [htwin]
    refine ⟨rfl, Blk.mayAttach_not_attached hmay, rfl, ?_⟩
    have hfive : (5 ≤ if m = 1 then t.proofFails + 1 else 0) ↔ m = 1 ∧ 4 ≤ t.proofFails := by split <;> omega
    exact (congrArg (· || _) hstop).trans (decide_eq_decide.mpr hfive)
  case joins =>
    have hjoined := Blk.passed_attempt (b := b) (k := k) (x := x) (deployed := s.nvm.lifecycle == .deployed) (by rw [← hkp, ← hpeer]; exact hcode)
    rw [← hkp, ← hpeer] at hjoined
    exact answers_of_eq (exec_attachAttempt hmay peer hwish) rfl (Blk.attempt_frame ..) rfl hjoined
  case joinsAgain =>
    have hjoined := Blk.passed_attempt (b := b) (k := k) (x := x) (deployed := s.nvm.lifecycle == .deployed) (by rw [← hkp, ← hpeer]; exact hcode)
    rw [← hkp, ← hpeer] at hjoined
    obtain ⟨hattached, -, -, hrole, -⟩ := hjoined
    exact answers_of_eq (exec_attachRetry hmay peer hauto hstop hretry hdue) rfl (Blk.attempt_frame ..) rfl ⟨hattached, hrole⟩
  case lapses =>
    have hcomplete := Blk.complete_frame { b with twin := { b.twin with attachRef := none } } ref stTimeout []
    have hframe : FrameM 0x600090008 b (b.attachLapsed ref) := ((FrameM.upd_twin b).mono rfl).trans (hcomplete.mono rfl)
    exact answers_of_eq (exec_attachTimeout href hdue) rfl hframe rfl ⟨hcomplete.same .twin rfl, rfl⟩
  case waits =>
    have hbegun := b.beginDesc_frame r d
    have hframe : FrameM 0x200010010 b (c.attachWaits ⟨r, d.id⟩) := (hbegun.mono rfl).trans ((Blk.attachWaits_frame ..).mono rfl)
    refine answers_of_eq (exec_twinAttach_waits h hsub hwelt hnone ha) rfl hframe rfl ⟨?_, c.attachWaits_feature _⟩
    have htwin : c.twin = b.twin := b.beginDesc_twin r d
    have hup : c.up = b.up := hbegun.same .up rfl
    rw [Blk.attachWaits, htwin, hup]
  case detaches =>
    have hbegun := b.beginDesc_frame r d
    have hafter : FrameM 0x4082b0028 c.detach (c.detach.txRetry.complete ⟨r, d.id⟩ stOk []) :=
      ((Blk.txRetry_frame _).mono rfl).trans ((Blk.complete_frame ..).mono rfl)
    have hleft := c.detach_left.after hafter rfl rfl rfl rfl
    have hmode : c.mode = b.mode := hbegun.same .mode rfl
    have hframe : FrameM 0x689eb07b8 b (c.detach.txRetry.complete ⟨r, d.id⟩ stOk []) :=
      ((hbegun.mono rfl).trans c.detach_frame).trans (hafter.mono rfl)
    exact answers_of_eq (exec_twinDetach h hsub hwelt hchange) rfl hframe rfl
      ⟨rfl, hleft.attached, hleft.role, hleft.feature, fun hf => (hleft.follower (hmode.trans hf)).1⟩
  case detached =>
    have hafter : FrameM 0x408290028 b.detached b.detached.txRetry := Blk.txRetry_frame _
    have hleft := b.detached_left.after hafter rfl rfl rfl rfl
    exact answers_of_eq (exec_twinDetach_peer ha hl r) rfl (b.detached_frame.trans (hafter.mono rfl)) rfl
      ⟨hleft.attached, hleft.role, hleft.claim, hleft.feature, hleft.follower, hleft.other⟩

end Sys2Proof.Machine
end

section
/-! The Welt comes and goes, the pin pair, and the takeover (12 R323 to R326, R335, R338, R340). -/

namespace Sys2Proof.Machine

/-! ### The link (12 R323, R324) -/

section
variable (b : Blk)

/-- An orphan's role changes; of the rest of the twin only what it tracks. -/
theorem Blk.orphan_twin : ∃ role track run, b.orphan.twin = { b.twin with role := role, track := track, trackRun := run }
    ∧ role = if b.twin.role = 2 && !b.twin.attached && b.twin.failAt.isNone && (b.twin.claimIn || b.arbFault) then 3 else b.twin.role := by
  unfold Blk.orphan
  split
  · next h => exact ⟨3, false, 0, (Blk.recTwin_frame ..).same .twin rfl, rfl⟩
  · next h => exact ⟨_, _, _, rfl, rfl⟩

/-- The twin whose link has fallen. -/
def Twin.linkFallen (t : Twin) (up : Nat) : Twin :=
  { t with link := false, attached := false, mirrorSync := false, queue := 0, txMark := none, rxMark := none
           lostAt := if t.attached then some up else t.lostAt, bothFrom := if t.claimOut && t.claimIn then some up else none }

/-- The block whose link has fallen, before the loss of the pair is counted. -/
def Blk.weltFallen : Blk := Blk.recTwin { b with twin := b.twin.linkFallen b.up } 2 0

theorem Blk.weltFallen_twin : b.weltFallen.twin = b.twin.linkFallen b.up := (Blk.recTwin_frame ..).same .twin rfl

/-- The loss of the pair has been noted and counted. -/
def Blk.pairLost : Blk := (b.setF R.TWN_STATUS_PEER_LOST).inc C.TWN_LOSS

theorem Blk.pairLost_frame : FrameM 0x30 b b.pairLost := ((Blk.setF_frame ..).mono rfl).trans ((Blk.inc_frame ..).mono rfl)

variable {b}

theorem Blk.weltLost_attached (hl : b.twin.link = true) (ha : b.twin.attached = true) : b.weltLost = b.weltFallen.pairLost.orphan :=
  (if_neg (by simp [hl])).trans (if_pos ha)

theorem Blk.weltLost_alone (hl : b.twin.link = true) (ha : b.twin.attached = false) : b.weltLost = b.weltFallen :=
  (if_neg (by simp [hl])).trans (if_neg (by simp [ha]))

/-- What the loss of the link leaves of the twin. -/
theorem Blk.weltLost_twin (hl : b.twin.link = true) : ∃ role track run, b.weltLost.twin
    = { b.twin.linkFallen b.up with role := role, track := track, trackRun := run } := by
  cases ha : b.twin.attached with
  | false => exact ⟨_, _, _, (congrArg Blk.twin (Blk.weltLost_alone hl ha)).trans b.weltFallen_twin⟩
  | true =>
    obtain ⟨role, track, run, htwin, -⟩ := b.weltFallen.pairLost.orphan_twin
    refine ⟨role, track, run, ?_⟩
    rw [Blk.weltLost_attached hl ha, htwin, b.weltFallen.pairLost_frame.same .twin rfl, b.weltFallen_twin]

theorem Blk.weltLost_notes (hl : b.twin.link = true) (ha : b.twin.attached = true) : b.weltLost.flag R.TWN_STATUS_PEER_LOST = true := by
  rw [Blk.weltLost_attached hl ha, (Blk.orphan_frame _).flag rfl, Blk.pairLost, (Blk.inc_frame ..).flag rfl]
  exact Blk.flag_setF_self _ _ (by decide) (by decide)

/-! ### The test of the pin pair (12 R326) -/

/-- The test of the pin pair has been asked for. -/
def Blk.armAsked (b : Blk) : Blk := b.put (.welt weltArbTest [])

theorem Blk.arbResult_first (hfails : b.twin.testFails = 0) (hfault : b.twin.armFault = false) :
    b.arbResult false = { b with twin := { b.twin with testFails := 1 } } := by
  simp [Blk.arbResult, hfails, hfault]

/-- The pin pair is at fault, and that is told. -/
def Blk.armFaulted (b : Blk) : Blk := Blk.recTwin { b with twin := { b.twin with testFails := b.twin.testFails + 1, armFault := true } } 0xA 0

theorem Blk.arbResult_again (hfails : 1 ≤ b.twin.testFails) (hfault : b.twin.armFault = false) :
    b.arbResult false = b.armFaulted.raiseEnv errArbFault 0 := by
  simp [Blk.arbResult, hfails, hfault, Blk.armFaulted]

/-! ### TWARB_B (12 R325, R340) -/

/-- The level of TWARB_B has been noted. -/
def Blk.claimSeen (b : Blk) (level : Bool) : Blk :=
  { b with twin := { b.twin with
      claimIn := level, lowFrom := if b.twin.claimIn && !level then b.up else b.twin.lowFrom
      bothFrom := if level && b.twin.claimOut && !b.twin.link then some (b.twin.bothFrom.getD b.up) else none } }

theorem Blk.twarbB_noted {level : Bool} (h : level = false ∨ b.twin.handed = false) : b.twarbB level = (b.claimSeen level).orphan :=
  if_neg (by rcases h with h | h <;> simp [h])

theorem Blk.twarbB_handed (h : b.twin.handed = true) : b.twarbB true = (b.claimSeen true).handedOver := if_pos (by rw [h]; rfl)

/-- The block that has handed over under SWITCHOVER and follows. -/
def Blk.switched (b : Blk) : Blk := Blk.recTwin (Blk.toFollower { b with twin := { b.twin with switchRef := none } }) 6 0

theorem Blk.handedOver_switches {ref : DRef} (h : b.twin.switchRef = some ref) : b.handedOver = b.switched.complete ref stOk [] := by
  simp only [Blk.handedOver, h, Blk.switched]

theorem Blk.switched_follows (b : Blk) : b.switched.mode = .follower ∧ b.switched.twin.role = 2 ∧ b.switched.twin.claimOut = false
    ∧ b.switched.twin.switchRef = none ∧ b.switched.twin.handed = false := by
  obtain ⟨pool, link, htwin⟩ := Blk.toFollower_twin { b with twin := { b.twin with switchRef := none } }
  have hrec : b.switched.twin = _ := ((Blk.recTwin_frame ..).same .twin rfl).trans htwin
  have hmode : b.switched.mode = .follower := ((Blk.recTwin_frame ..).same .mode rfl).trans (Blk.toFollower_mode _)
  rw [hrec]
  exact ⟨hmode, rfl, rfl, rfl, rfl⟩

/-! ### The takeover (12 R335) -/

/-- The block that has taken over, before its copy is sent. -/
def Blk.tookOver (b : Blk) : Blk := ((b.leadFrom.inc C.TWN_TAKEOVER).recTwin 7 (b2n (!b.twin.track))).announceAll

theorem Blk.tookOver_after (b : Blk) : FrameM 0x408020028 b.leadFrom b.tookOver :=
  (((Blk.inc_frame ..).mono rfl).trans ((Blk.recTwin_frame ..).mono rfl)).trans ((Blk.announceAll_frame _).mono rfl)

theorem Blk.takeover_leads (h : b.takesOver = true) : b.takeover = if b.tookOver.twin.attached then b.tookOver.copySend else b.tookOver :=
  if_neg (by simp [h])

theorem Blk.takeover_none (h : b.takesOver = false) : b.takeover = b := if_pos (by simp [h])

theorem Blk.takesOver_follower (h : b.takesOver = true) : b.mode = .follower := by
  simp only [Blk.takesOver, Bool.and_eq_true, beq_iff_eq] at h
  exact h.1.1.1.1

/-- What a takeover leaves: the mode of R335, cause 6, the lead and the claim, and the pair as it was. -/
theorem Blk.takeover_facts (h : b.takesOver = true) : b.takeover.mode = b.takeoverMode ∧ b.takeover.lastMode = .follower ∧ b.takeover.entryCause = 6
    ∧ b.takeover.twin.role = 1 ∧ b.takeover.twin.claimOut = true ∧ b.takeover.twin.attached = b.twin.attached := by
  have htook := b.tookOver_after
  obtain ⟨hmode, hlast, hcause⟩ := b.leadFrom_modes
  have htwin : b.tookOver.twin = _ := (htook.same .twin rfl).trans b.leadFrom_twin
  have hsent : FrameM 0x200000008 b.tookOver b.takeover := by
    rw [Blk.takeover_leads h]
    split
    · exact Blk.copySend_frame _
    · exact of_eq_true (FrameM.refl ..)
  have hpair : b.takeover.twin.role = b.tookOver.twin.role ∧ b.takeover.twin.claimOut = b.tookOver.twin.claimOut
      ∧ b.takeover.twin.attached = b.tookOver.twin.attached := by
    rw [Blk.takeover_leads h]
    split
    · rw [Blk.copySend_twin]; exact ⟨rfl, rfl, rfl⟩
    · exact ⟨rfl, rfl, rfl⟩
  rw [htwin] at hpair
  obtain ⟨hrole, hclaim, hattached⟩ := hpair
  exact ⟨((hsent.same .mode rfl).trans (htook.same .mode rfl)).trans hmode,
    (((hsent.same .lastMode rfl).trans (htook.same .lastMode rfl)).trans hlast).trans (Blk.takesOver_follower h),
    ((hsent.same .entryCause rfl).trans (htook.same .entryCause rfl)).trans hcause, hrole, hclaim, hattached⟩

/-! ### Both claim (12 R338) -/

/-- The block that has given way. -/
def Blk.gaveWay (b : Blk) : Blk :=
  Blk.recTwin { b.toFollower with twin := { b.toFollower.twin with role := 3, bothFrom := none, lostAt := some b.up } } 9 0

theorem Blk.bothClaim_gives {x : Nat} (hboth : b.twin.bothFrom = some x) (hdue : x + b.settleU ≤ b.up) (hlink : b.twin.link = false)
    (hout : b.twin.claimOut = true) (hin : b.twin.claimIn = true) (hside : b.rd R.TWN_CFG_SIDE ≠ 0) : b.bothClaim = b.gaveWay := by
  have hlive : ¬b.up < x + b.settleU := by omega
  simp only [Blk.bothClaim, hboth]
  exact if_neg (by simp [hlive, hlink, hout, hin, hside])

theorem Blk.bothClaim_none (h : b.twin.bothFrom = none ∨ b.twin.link = true ∨ b.twin.claimIn = false ∨ b.rd R.TWN_CFG_SIDE = 0) : b.bothClaim = b := by
  unfold Blk.bothClaim
  split
  · rfl
  · next x hboth =>
    refine if_pos ?_
    rcases h with h | h | h | h
    · exact absurd (hboth.symm.trans h) (Option.some_ne_none x)
    · simp [h]
    · simp [h]
    · simp [h]

theorem Blk.gaveWay_facts (b : Blk) : b.gaveWay.mode = .follower ∧ b.gaveWay.twin.role = 3 ∧ b.gaveWay.twin.bothFrom = none
    ∧ b.gaveWay.twin.claimOut = false ∧ b.gaveWay.twin.lostAt = some b.up := by
  obtain ⟨pool, link, htwin⟩ := b.toFollower_twin
  have hrec : b.gaveWay.twin = { b.toFollower.twin with role := 3, bothFrom := none, lostAt := some b.up } := (Blk.recTwin_frame ..).same .twin rfl
  have hmode : b.gaveWay.mode = .follower := ((Blk.recTwin_frame ..).same .mode rfl).trans b.toFollower_mode
  rw [hrec, htwin]
  exact ⟨hmode, rfl, rfl, rfl, rfl⟩

end

/-! ### The commands -/

section
variable {s : State} {w : Nat}

theorem exec_weltLinkUp (hcap : (s.blk.pass w).capWelt = 3) (hheld : (s.blk.pass w).isHeld 0x86 = false) (hosc : (s.blk.pass w).err.oscLost = false)
    (hserv : (s.blk.pass w).mode.serving = true) (hlink : (s.blk.pass w).twin.link = false) : exec (.weltLinkUp w) s
    = .next { s with blk := Blk.settle s.blk (Blk.recTwin { s.blk.pass w with twin := { (s.blk.pass w).twin with link := true, bothFrom := none } } 1 0) } := by
  change execWeltLinkUp w s = _
  rw [execWeltLinkUp, State.upd, if_pos]
  rw [hheld, hosc, hlink]
  exact ⟨hcap, rfl, by decide, hserv, rfl⟩

theorem exec_weltLinkUp_idle (h : (s.blk.pass w).mode.serving = false ∨ (s.blk.pass w).twin.link = true) :
    exec (.weltLinkUp w) s = .next { s with blk := Blk.settle s.blk (s.blk.pass w) } := by
  change execWeltLinkUp w s = _
  rw [execWeltLinkUp, State.upd, if_neg]
  rintro ⟨-, -, -, hserv, hlink⟩
  rcases h with h | h
  · exact Bool.false_ne_true (h.symm.trans hserv)
  · rw [h] at hlink; exact Bool.false_ne_true hlink

theorem exec_weltLinkLost_counts {n : Nat} (hsome : 0 < n) (hfew : n < 16) :
    exec (.weltLinkLost w n) s = .next { s with blk := Blk.settle s.blk ((s.blk.pass w).incN C.TWN_AUTH_FAIL n) } := by
  change execWeltLinkLost w n s = _
  rw [execWeltLinkLost, State.upd, if_neg (by omega)]

theorem exec_weltLinkLost_falls {n : Nat} (h : n = 0 ∨ 16 ≤ n) :
    exec (.weltLinkLost w n) s = .next { s with blk := Blk.settle s.blk ((s.blk.pass w).incN C.TWN_AUTH_FAIL n).weltLost.refsSettle } := by
  change execWeltLinkLost w n s = _
  rw [execWeltLinkLost, State.upd, if_pos h]

section
variable (ha : (s.blk.pass w).twin.attached = true) (hl : (s.blk.pass w).twin.link = true)
include ha hl

theorem exec_arbTest (htest : (s.blk.pass w).flag R.TWN_CFG_ARB_TEST = true) (ok : Bool) :
    exec (.arbTest w ok) s = .next { s with blk := Blk.settle s.blk ((s.blk.pass w).armAsked.arbResult ok) } := by
  change execArbTest w ok s = _
  rw [execArbTest, State.upd, if_pos (by rw [ha, hl, htest]; rfl), Blk.armAsked]

/-- The twin after a FAIL or a HANDOVER block. -/
def Twin.failNoted (t : Twin) (up : Nat) (handover : Bool) : Twin :=
  { t with failAt := some up, attached := handover, mirrorSync := t.mirrorSync && handover }

theorem exec_failBlockRx (hrole : (s.blk.pass w).twin.role = 2) (ok : Bool) : exec (.failBlockRx w ok) s
    = .next { s with blk := Blk.settle s.blk (Blk.refsSettle { s.blk.pass w with twin := (s.blk.pass w).twin.failNoted (s.blk.pass w).up ok }) } := by
  change execFailBlockRx w ok s = _
  rw [execFailBlockRx, State.upd, if_pos (by rw [ha, hl, hrole]; rfl), Twin.failNoted]

end

theorem exec_failBlockRx_idle (hrole : (s.blk.pass w).twin.role ≠ 2) (ok : Bool) :
    exec (.failBlockRx w ok) s = .next { s with blk := Blk.settle s.blk (s.blk.pass w) } := by
  change execFailBlockRx w ok s = _
  rw [execFailBlockRx, State.upd, if_neg (by rw [beq_false_of_ne hrole, Bool.and_false]; exact Bool.false_ne_true)]

theorem exec_twarbBChange_absent (hwelt : (s.blk.pass w).part.variant.welt = false) (ok : Bool) :
    exec (.twarbBChange w ok) s = .next { s with blk := Blk.settle s.blk (s.blk.pass w) } := by
  change execTwarbBChange w ok s = _
  rw [execTwarbBChange, State.upd, if_neg (by rw [hwelt]; exact Bool.false_ne_true)]

theorem exec_twarbBChange (hwelt : (s.blk.pass w).part.variant.welt = true) (ok : Bool) :
    exec (.twarbBChange w ok) s = .next { s with blk := Blk.settle s.blk ((s.blk.pass w).twarbB ok).txRetry } := by
  change execTwarbBChange w ok s = _
  rw [execTwarbBChange, State.upd, if_pos hwelt]

end

/-- Settles O56: each clause is the branch of its command that its hypotheses select. -/
theorem twinLinkAndTakeover : Obligations.TwinLinkAndTakeover := by
  intro s w n ok b t
  refine ⟨fun hcap hheld hosc hserv hlink => ?up, fun h => answers_idle (exec_weltLinkUp_idle h) rfl, fun hsome hfew => ?counts, fun h hl => ?falls,
    fun ha hl htest => ⟨?passes, fun hfails hfault => ?first, fun hfails hfault => ?again⟩, fun ha hl hrole => ?noted,
    fun hrole => answers_idle (exec_failBlockRx_idle hrole ok) rfl, fun hwelt => answers_idle (exec_twarbBChange_absent hwelt ok) rfl,
    fun hwelt h => ?claim, fun ref hwelt hok hhanded href _ => ?hands, fun h => ?takes, fun h => ?stays,
    fun x hboth hdue hlink hout hin hside => ?gives, fun h => ?keeps⟩
  case up =>
    have hrec := Blk.recTwin_frame { b with twin := { b.twin with link := true, bothFrom := none } } 1 0
    exact answers_of_eq (exec_weltLinkUp hcap hheld hosc hserv hlink) rfl (((FrameM.upd_twin b).mono rfl).trans (hrec.mono rfl)) rfl (hrec.same .twin rfl)
  case counts => exact answers_of_eq (exec_weltLinkLost_counts hsome hfew) rfl (Blk.incN_frame ..) rfl rfl
  case falls =>
    have hcount := b.incN_frame C.TWN_AUTH_FAIL n
    have hrefs := Blk.refsSettle_frame (b.incN C.TWN_AUTH_FAIL n).weltLost
    have htwin : (b.incN C.TWN_AUTH_FAIL n).twin = b.twin := hcount.same .twin rfl
    have hframe : FrameM 0x201c20038 b (b.incN C.TWN_AUTH_FAIL n).weltLost.refsSettle :=
      ((hcount.mono rfl).trans ((Blk.weltLost_frame _).mono rfl)).trans (hrefs.mono rfl)
    obtain ⟨role, track, run, hlost⟩ := Blk.weltLost_twin (b := b.incN C.TWN_AUTH_FAIL n) (htwin ▸ hl)
    have hend := (hrefs.same .twin rfl).trans hlost
    refine answers_of_eq (exec_weltLinkLost_falls h) rfl hframe rfl ?_
    rw [hend, htwin]
    refine ⟨rfl, rfl, rfl, rfl, fun ha => ⟨if_pos ha, ?_⟩⟩
    exact (hrefs.flag rfl _).trans (Blk.weltLost_notes (htwin ▸ hl) (htwin ▸ ha))
  case passes =>
    exact answers_of_eq (exec_arbTest ha hl htest true) rfl (((Blk.put_frame ..).mono rfl).trans ((FrameM.upd_twin _).mono rfl)) rfl ⟨rfl, rfl⟩
  case first =>
    exact answers_of_eq (exec_arbTest ha hl htest false) (Blk.arbResult_first hfails hfault)
      (((Blk.put_frame ..).mono rfl).trans ((FrameM.upd_twin _).mono rfl)) rfl rfl
  case again =>
    have hx : b.armAsked.arbResult false = b.armAsked.armFaulted.raiseEnv errArbFault 0 := Blk.arbResult_again hfails hfault
    have hput : FrameM 0x8 b b.armAsked := Blk.put_frame ..
    have hfaulted : FrameM 0x200020008 b.armAsked b.armAsked.armFaulted := ((FrameM.upd_twin _).mono rfl).trans ((Blk.recTwin_frame ..).mono rfl)
    have hresult : FrameM 0x7fc7fbfbc b (b.armAsked.arbResult false) := (hput.mono rfl).trans (Blk.arbResult_frame ..)
    exact answers_of_eq (exec_arbTest ha hl htest false) rfl hresult rfl
      ⟨_, hx, (Blk.recTwin_frame ..).same .twin rfl, .of_pieceBits ((hput.mono rfl).trans hfaulted) rfl⟩
  case noted =>
    have hrefs := Blk.refsSettle_frame { b with twin := b.twin.failNoted b.up ok }
    exact answers_of_eq (exec_failBlockRx ha hl hrole ok) rfl (((FrameM.upd_twin b).mono rfl).trans (hrefs.mono rfl)) rfl (hrefs.same .twin rfl)
  case claim =>
    have hx : b.twarbB ok = (b.claimSeen ok).orphan := Blk.twarbB_noted h
    have hretry := Blk.txRetry_frame (b.twarbB ok)
    have horphan : FrameM 0x200020008 (b.claimSeen ok) (b.twarbB ok) := hx ▸ Blk.orphan_frame _
    obtain ⟨role, track, run, htwin, hrole⟩ := (b.claimSeen ok).orphan_twin
    refine answers_of_eq (exec_twarbBChange hwelt ok) rfl ((Blk.twarbB_frame ..).trans (hretry.mono rfl)) rfl ?_
    have hmode := (hretry.same .mode rfl).trans (horphan.same .mode rfl)
    rw [hretry.same .twin rfl, hx, htwin]
    exact ⟨rfl, rfl, hx ▸ hmode, hrole⟩
  case hands =>
    subst hok
    have hx : b.twarbB true = (b.claimSeen true).switched.complete ref stOk [] :=
      (Blk.twarbB_handed hhanded).trans (Blk.handedOver_switches href)
    have hretry := Blk.txRetry_frame (b.twarbB true)
    have hcomplete : FrameM 0x400090008 (b.claimSeen true).switched (b.twarbB true) := hx ▸ Blk.complete_frame ..
    have htwin := (hretry.same .twin rfl).trans (hcomplete.same .twin rfl)
    have hmode := (hretry.same .mode rfl).trans (hcomplete.same .mode rfl)
    obtain ⟨hfollower, hrole, hclaim, hswitch, hhand⟩ := (b.claimSeen true).switched_follows
    refine answers_of_eq (exec_twarbBChange hwelt true) rfl ((Blk.twarbB_frame ..).trans (hretry.mono rfl)) rfl
      ⟨hmode.trans hfollower, (congrArg Twin.role htwin).trans hrole, (congrArg Twin.claimOut htwin).trans hclaim,
        (congrArg Twin.switchRef htwin).trans hswitch, (congrArg Twin.handed htwin).trans hhand, _, congrArg Blk.txRetry hx⟩
  case takes =>
    have hretry := Blk.txRetry_frame b.takeover
    obtain ⟨hmode, hlast, hcause, hrole, hclaim, hattached⟩ := Blk.takeover_facts h
    have htwin : b.takeover.txRetry.twin = b.takeover.twin := hretry.same .twin rfl
    exact answers_of_eq (c := .takeover w) (x := b.takeover.txRetry) rfl rfl (b.takeover_frame.trans (hretry.mono rfl)) rfl
      ⟨(hretry.same .mode rfl).trans hmode, (hretry.same .lastMode rfl).trans hlast, (hretry.same .entryCause rfl).trans hcause,
        htwin ▸ hrole, htwin ▸ hclaim, htwin ▸ hattached⟩
  case stays =>
    have hretry : FrameM 0x689eb07b8 b b.txRetry := (Blk.txRetry_frame b).mono rfl
    exact answers_of_eq (c := .takeover w) (x := b.takeover.txRetry) rfl (congrArg Blk.txRetry (Blk.takeover_none h)) hretry rfl rfl
  case gives =>
    have hx : b.bothClaim = b.gaveWay := Blk.bothClaim_gives hboth hdue hlink hout hin hside
    have hretry := Blk.txRetry_frame b.bothClaim
    obtain ⟨hmode, hrole, hnone, hclaim, hlost⟩ := b.gaveWay_facts
    have htwin : b.bothClaim.txRetry.twin = b.gaveWay.twin := (hretry.same .twin rfl).trans (congrArg Blk.twin hx)
    exact answers_of_eq (c := .bothClaimSettle w) (x := b.bothClaim.txRetry) rfl rfl (b.bothClaim_frame.trans (hretry.mono rfl)) rfl
      ⟨((hretry.same .mode rfl).trans (congrArg Blk.mode hx)).trans hmode, htwin ▸ hrole, htwin ▸ hnone, htwin ▸ hclaim, htwin ▸ hlost⟩
  case keeps =>
    have hretry : FrameM 0x689eb07b8 b b.txRetry := (Blk.txRetry_frame b).mono rfl
    exact answers_of_eq (c := .bothClaimSettle w) (x := b.bothClaim.txRetry) rfl (congrArg Blk.txRetry (Blk.bothClaim_none h)) hretry rfl rfl

end Sys2Proof.Machine
end
